-- ==== Sys2Proof/Word.lean ====
section
/-! DEFINITION. Word types and the sparse-table type that every other file uses (R4, R5). -/

namespace Sys2Proof

/-- A byte (R5). -/
abbrev Byte := BitVec 8
/-- A 16-bit field (R5). -/
abbrev Half := BitVec 16
/-- A 32-bit word (R5). -/
abbrev Word := BitVec 32
/-- A 64-bit field (R5). -/
abbrev Dword := BitVec 64
/-- A byte string, lowest address first (R5). -/
abbrev Bytes := List (BitVec 8)
/-- A sparse table: key and value pairs, keys strictly rising, no entry equal to the default. -/
abbrev Tbl (α : Type) := List (Nat × α)
/-- Byte memory: the same form as `Host.Cell` lists, default 0. -/
abbrev Memory := List (Nat × BitVec 8)

end Sys2Proof
end

