-- ==== Sys2Proof/Syntax.lean ====
section
/-! DEFINITION. The commands of the module, one constructor per row of spec/opcode_table.json, and the operand types they
carry. Every command but the Nelbix rows begins with `t`, the instant of the event in nanoseconds on the model's own time
axis (log entry 2). -/

namespace Sys2Proof

/-- What the hardware checks of a bundle found (R14, R15, R43, R45); `corrected` is a single-bit error of the region's SRAM at an
address. -/
inductive UnitCheck where
  | ok | parity | residue | mismatch | corrected (addr : Nat)
deriving DecidableEq, Repr, Inhabited

/-- Where a Nelbix syllable issues: its engine, its STOP bit, its X syllable, and what the unit checks found (R190-R195). -/
structure Issue where
  e : Fin 16
  stop : Bool
  x : Option (BitVec 28)
  chk : UnitCheck
deriving DecidableEq, Repr

/-- The clock sources, in the bit order of CLK_STATUS (R84, R114); `tally` is Tally's clock (R94). -/
inductive ClkSrc where
  | rcSlow | rcFast | xs | xm | pllSys | pllNet | tally
deriving DecidableEq, Repr, Inhabited

/-- What the start-up hardware meets (R522-R525, R23, R539): the BCR bytes or no answer, the straps, the regions whose
self-test fails, the banks that do not verify, whether the recovery copy verifies, the dies that report no configuration. -/
structure StartEnv where
  bcr : Option Bytes
  hostQspi : Bool
  vio33 : Bool
  recoveryLow : Bool
  regionFail : BitVec 4
  bankABad : Bool
  bankBBad : Bool
  recoveryOk : Bool
  dieLost : BitVec 4
  programBad : Bool
  mramBad : Bool
  flashBad : Bool
  selectorBad : Bool
deriving DecidableEq, Repr

/-- The dataset and time properties of a PTP Announce message (R100, R127). -/
structure PtpAnnounce where
  priority1 : Nat
  clockClass : Nat
  accuracy : Nat
  variance : Nat
  priority2 : Nat
  gm : Dword
  steps : Nat
  utcOffset : Option Int
  leap61 : Bool
  leap59 : Bool
deriving DecidableEq, Repr

/-- The content of a PTP message (R99, R100): an Announce message with the offset of its ALTERNATE_TIME_OFFSET_INDICATOR if it
carries one; a Sync with its measured offset, and the rate correction that the discipline draws from it; or a management message. -/
inductive PtpBody where
  | announce (d : PtpAnnounce) (altOffset : Option Int)
  | sync (offset ppb : Int)
  | management
deriving DecidableEq, Repr

/-- A PTP message (R100): its port, domain and sender. -/
structure PtpMsg where
  port : Fin 2
  domain : Byte
  src : Dword
  body : PtpBody
deriving DecidableEq, Repr

/-- The IEEE 1344 control functions of an IRIG-B frame (R101): two digits of the year, leap second pending, local offset in half
hours, time quality. -/
structure Irig1344 where
  year : Option Nat
  leapPending : Bool
  localHalfHours : Int
  quality : Nat
deriving DecidableEq, Repr

/-- An IRIG-B frame at its on-time mark (R101): parity, the time of year it labels, the year that B004-B007 carry, and the rate
correction that the discipline draws from it. -/
structure IrigMsg where
  parityOk : Bool
  day : Nat
  hour : Nat
  minute : Nat
  second : Nat
  year : Option Nat
  ieee1344 : Option Irig1344
  ppb : Int
deriving DecidableEq, Repr

/-- A field-die command frame as it reaches a die (R295): its source, claim, FRESH, QX part and rule part. -/
structure CmdFrame where
  crcOk : Bool
  src : Fin 3
  claim : Half
  fresh : Bool
  /-- the scan's part, absent when nothing was published for the channel (R173) -/
  qx : Option Bool
  /-- the rule's part, absent when no rule of the running set commands the channel -/
  rule : Option Bool
deriving DecidableEq, Repr

/-- The class of a matrix cross-point (R331). -/
inductive KeyClass where
  | closed | openKey | broken | faulty
deriving DecidableEq, Repr, Inhabited

/-- The debounced panel inputs (R328). -/
inductive PanelInput where
  | key (k : Fin 64) | touch (k : Fin 8) | tplug (k : Fin 4) | lrLocal | lrRemote | usbVbus
deriving DecidableEq, Repr

/-- A received network frame's addressing and redundancy part (R344, R345, R347). -/
structure NetHdr where
  port : Fin 2
  src : BitVec 48
  dst : BitVec 48
  vlan : BitVec 12
  /-- PRP or HSR sequence number, absent on an untagged frame -/
  seq : Option Half
  wrongLan : Bool
  /-- the frame check sequence is good -/
  fcsOk : Bool
deriving DecidableEq, Repr

/-- A flattened dataset member (R349, R351). -/
inductive GVal where
  | bool (b : Bool)
  | dbpos (v : BitVec 2)
  | int (v : Int)
  | float (v : Word)
  | quality (good : Bool) (substituted : Bool)
  | octets (b : Bytes)
  | other
deriving DecidableEq, Repr

/-- A GOOSE message (R350), with the bytes its MAC covers and the tag it carries (R356). -/
structure GooseMsg where
  hdr : NetHdr
  appid : Half
  gocbRef : Bytes
  datSet : Bytes
  confRev : Word
  ndsCom : Bool
  test : Bool
  stNum : Word
  sqNum : Word
  talMs : Nat
  members : List GVal
  covered : Bytes
  tag : Bytes
deriving DecidableEq, Repr

/-- An SV message (R357): ASDUs of eight values with quality each. -/
structure SvMsg where
  hdr : NetHdr
  appid : Half
  simulation : Bool
  svId : Bytes
  confRev : Word
  smpCnt : Nat
  smpSynch : Nat
  asdus : List (List (Int × Word))
  covered : Bytes
  tag : Bytes
deriving DecidableEq, Repr

/-- A claim-carrying HEARTBEAT of the partner (R395). -/
structure HbRec where
  claim : Half
  leaseQ : Nat
  scan : Dword
  keeper : Bool
  /-- 0 ALONE, 1 LISTENING, 2 ALIGNING, 3 IN_STEP, 4 OUT_OF_STEP (R417) -/
  state : Fin 5
  pref : Nat
  seed : Bool
  serial : Word
deriving DecidableEq, Repr

/-- A connection's block instance as of its task's last publish (R468, R469, R473). -/
structure ConnSt where
  state : Nat := 0
  cause : Nat := 0
  pstatus : Nat := 0
  lastSeq : Nat := 0
  accept : Nat := 0
  synced : Bool := false
  crcFails : Nat := 0
  seqErrors : Nat := 0
  timeouts : Nat := 0
  acceptTai : Nat := 0
  faultTai : Nat := 0
  lastPdu : Bytes := []
  lastCrcFail : Option Nat := none
  /-- ACK at the last execution; 1 bit; R469; reset 0 -/
  ackPrev : Bool := false
  payload : Bytes := []
  sentPayload : Bytes := []
deriving DecidableEq, Repr, Inhabited

/-- Which controller data an ALIGN block carries (R401). -/
inductive AlignBlk where
  | mirror (region : Fin 4) (addr : Nat) (data : Bytes)
  | image (addr : Nat) (value : Word)
  | retentive (addr : Nat) (value : Word)
  /-- key 0xFF02 (R461) -/
  | confirm (check : Option Word)
  /-- the block instance of an MSL connection, and the instant on the task-visible MONO at which the program started (R468, R470) -/
  | conn (entry : Nat) (x : ConnSt)
  | started (mono : Nat)
  /-- a step of the exchange of R508: 0 step 1, 1 its reply, 2 step 2, 3 its reply -/
  | identity (step : Fin 4) (data : Bytes)
  /-- header and payload of the image's container, and of those of the epochs applied to it -/
  | program (header payload : Bytes) (epochs : List (Bytes × Bytes))
  /-- the epoch of the layout of a task's instance data, where it is not that in force (R283) -/
  | layout (task : Fin 51) (epoch : Nat)
deriving DecidableEq, Repr

/-- The content of a CONTROL record (R395, R477). -/
inductive ControlRec where
  | presence (mask : Dword)
  | health (report : Bytes)
  | finding (code : Nat)
  /-- outcome of the APPRENTICE's checks of EDIT_COMMIT (R286): status, check and rule that failed -/
  | editResult (status check rule : Nat)
deriving DecidableEq, Repr

/-- The leased resources (R487), in the table's row order. -/
inductive LeaseRes where
  | imagePort (region : Fin 4) (task : Fin 51) (heldNs : Nat)
  /-- holder: 0 Firn, 1 the event archive, 2 the archive writer, 3 the update writer; its work: an erase, else a page program -/
  | flash (holder : Fin 4) (erase : Bool) (heldNs : Nat)
  | mailbox (n : Fin 8)
  /-- holder: Steward's CONTROL and COMMAND records, else the shipping records -/
  | lane (n : Fin 2) (steward : Bool) (heldNs : Nat)
  | claim
  | shadow (region : Fin 4)
deriving DecidableEq, Repr

/-- How the flash link served Firn (R12, R433): good, the page transfer failed its CRC, the link or the die has failed for good, or
the flash controller's lease was denied. -/
inductive FlashLink where
  | good | badCrc | failed | denied
deriving DecidableEq, Repr

/-- What a comparator of a field input saw (R300): the voltage at the pin, and the deviation of its thresholds. -/
structure Comparator where
  pinMv : Nat
  devMv : Int
deriving DecidableEq, Repr

/-- The answers of a die's control coupler looped back on each port (R475). -/
structure CouplerLoop where
  okA : Bool
  okB : Bool
deriving DecidableEq, Repr

/-- The channel currents of a die, and where in its tolerance the die's limit lies (R310). -/
structure DieLoad where
  currents : List Nat
  tripMa : Nat
deriving DecidableEq, Repr

/-- The current of a channel's load, and where in its tolerance the open-load limit lies (R308). -/
structure LoadCurrent where
  loadUa : Nat
  threshUa : Nat
deriving DecidableEq, Repr

/-- A dual input pair whose discrepancy time runs, and the evaluator's check of it (R15, R463). -/
structure DualTick where
  n : Fin 32
  evalOk : Bool
deriving DecidableEq, Repr

/-- A Rime rule whose delay has run, with the checks of the evaluator and of the rule store (R257, R267). -/
structure RuleTick where
  rule : Fin 2048
  evalOk : Bool
  storeOk : Bool
deriving DecidableEq, Repr

/-- A Rime sweep: its instant, with the checks of the evaluator and of the rule store (R259, R267). -/
structure SweepTick where
  t : Nat
  evalOk : Bool
  storeOk : Bool
deriving DecidableEq, Repr

/-- A record that moves to Firn, and how the flash link served it (R426, R431, R433). -/
structure FirnWrite where
  key : Half
  link : FlashLink
deriving DecidableEq, Repr

/-- What the flash patrol found beside the pages it rewrote (R475). -/
structure PatrolFound where
  badBlocks : Nat
  dieFailed : Bool
deriving DecidableEq, Repr

/-- What a check of the MRAM found beyond repair in place: records, the retentive home, table pages (R442). -/
structure MagDamage where
  keys : List Nat
  home : Bool
  pages : Bool
deriving DecidableEq, Repr

/-- What the MRAM scrub found uncorrectable: records, the retentive home, the program store (R475). -/
structure ScrubDamage where
  keys : List Nat
  home : Bool
  program : Bool
deriving DecidableEq, Repr

/-- The host slot of a frame for the host: the module owns it, and an HSR duplicate was seen before (R346, R348). -/
structure HostSlot where
  owned : Bool
  dupSeen : Bool
deriving DecidableEq, Repr

/-- A HOLDUP: its instant, and whether it runs through to its end without VIN coming back (R71). -/
structure HoldupRun where
  t : Nat
  through : Bool
deriving DecidableEq, Repr

/-- A SLUMBER entry: its instant, and the step and VHOLD at which a drop of VIN stops it, if one does (R70). -/
structure SlumberRun where
  t : Nat
  drop : Option (Fin 4 × Nat)
deriving DecidableEq, Repr

/-- Host slots of the send ring as read from host memory (R348): LEN, OWN and the frame. -/
structure TxSlot where
  own : Bool
  len : Nat
  frame : Bytes
deriving DecidableEq, Repr

/-- A debug request (R575). -/
structure DbgReq where
  usb : Bool
  space : Byte
  count : Nat
  addr : Nat
  data : Bytes
deriving DecidableEq, Repr

/-- The commands: one constructor per row of the table, in the table's order. -/
inductive Instr where
  -- power, start-up, slumber
  | vinGood (t vinMv : Nat)
  | vinFall (t vinMv : Nat)
  | holdupEntry (run : HoldupRun)
  | vholdCollapse (t vholdMv : Nat)
  | vaonHandover (t : Nat)
  | vrtcApplied (t vrtcMv : Nat)
  | timeLostDetect (t vrtcMv : Nat)
  | resetNAssert (t : Nat)
  | resetNRelease (t : Nat)
  | startUp (t : Nat) (env : StartEnv)
  | earlyServiceStart (t : Nat)
  | fullServiceStart (t : Nat)
  | recoveryGestureTimeout (t : Nat)
  | slumberEntry (run : SlumberRun)
  | wakeNLow (t lowNs : Nat)
  | alarmTaiWake (t : Nat)
  | holdupChargeDone (t fromMv toMv chargeUs : Nat)
  | thermalWarn (t : Nat) (die : Fin 7) (temp : Int)
  | dieOvertemp (t : Nat) (die : Fin 3) (temp : Int)
  -- clocks and time
  | clockReady (t : Nat) (src : ClkSrc)
  | xmStartTimeout (t : Nat)
  | xsStartTimeout (t : Nat)
  | clockMonitorTrip (t : Nat) (src : ClkSrc)
  | pllNetRelock (t : Nat) (locked : Bool)
  | clockSwitchApply (t : Nat)
  | profileChangeApply (t : Nat)
  | pllSysSettled (t : Nat)
  | ptpFrame (t : Nat) (m : PtpMsg)
  | irigFrame (t : Nat) (m : IrigMsg)
  | ppsInEdge (t : Nat) (ppb : Int)
  | timeSourceTimeout (t : Nat) (src : Fin 4)
  | holdoverExpiry (t : Nat)
  | ppsOutEdge (t : Nat)
  | calendarSecond (t : Nat) (temp : Int)
  | trimLearnInterval (t : Nat) (residual : Int)
  | calHaltTimeout (t : Nat)
  | eventStamp (t : Nat) (src : Fin 128) (kind : Nat) (data : Word)
  | interpolatorDone (t : Nat) (group : Fin 5) (n1 n2 tickTai : Nat)
  -- scan
  | periodicRelease (t : Nat) (task : Fin 51)
  | snapshotComplete (t : Nat) (task : Fin 51)
  | barrierRelease (t : Nat) (task : Fin 51)
  | taskPublish (t : Nat) (task : Fin 51)
  | baseOverrun (t : Nat)
  | stopRequestApply (t : Nat)
  | remapResume (t : Nat)
  -- supervision
  | testSlice (t : Nat) (e : Fin 16) (pass : Bool)
  | testRoundComplete (t : Nat) (pass : Bool)
  | sramScrub (t : Nat) (corrected : List (Fin 5 × Nat)) (badRegions : BitVec 4) (badStore : Bool)
  | mramScrub (t : Nat) (corrected : List Nat) (bad : ScrubDamage) (linkFailed : Bool)
  | flashPatrol (t : Nat) (rewritten : List Nat) (found : PatrolFound)
  | couplerLoopback (t : Nat) (ch : Fin 64) (crcOk : Bool) (rttNs : Nat)
  | controlCouplerLoopback (t : Nat) (die : Fin 4) (loop : CouplerLoop) (transformerOk : Bool)
  | linkErrorWindow (t : Nat) (link : Fin 6) (errors bits : Nat)
  | healthReportBuild (t : Nat)
  | tallyWindowOpen (t : Nat) (hungMain hungLedger : Bool)
  | tallyPeriodEnd (t : Nat)
  | leaseExpiry (t : Nat) (res : LeaseRes)
  | stewardRestart (t : Nat)
  -- Rime
  | ruleEvaluation (t : Nat) (rule : Fin 2048) (evalOk storeOk : Bool)
  | rimeSweep (tick : SweepTick)
  | ruleDelayExpiry (t : Nat) (tick : RuleTick)
  | reflexDisagree (t : Nat) (ch : Fin 64)
  -- edits
  | epochSwitch (t : Nat)
  | editIdleTimeout (t : Nat)
  -- field channels
  | sentinelEdge (t : Nat) (ch : Fin 64) (pinMv : Nat) (devMv : Int)
  | burdenSample (t : Nat) (ch : Fin 64) (seen : Comparator)
  | induced (t : Nat) (ch : Fin 64)
  | statusFrame (t : Nat) (ch : Fin 64) (crcOk : Bool)
  | staleTimeout (t : Nat) (ch : Fin 64)
  | commandFrame (t : Nat) (ch : Fin 64) (f : CmdFrame)
  | commandFrameRefresh (t : Nat) (ch : Fin 64)
  | claimLeaseExpiry (t : Nat) (die : Fin 4) (src : Fin 3)
  | readback (t : Nat) (ch : Fin 64)
  | openLoad (t : Nat) (ch : Fin 64) (load : LoadCurrent)
  | overload (t : Nat) (ch : Fin 64) (loadMa : Nat) (limiting : Bool)
  | short (t : Nat) (ch : Fin 64) (loadMa : Nat)
  | thermal (t : Nat) (ch : Fin 64)
  | dieOverload (t : Nat) (die : Fin 4) (load : DieLoad)
  | tripClear (t : Nat) (ch : Fin 64)
  | vfldLow (t : Nat) (die : Fin 4) (mv : Nat)
  | vfldRestore (t : Nat) (die : Fin 4) (mv : Nat)
  | pulseEnd (t : Nat) (ch : Fin 64)
  | safTimeout (t : Nat) (ch : Fin 64)
  | dpDiscrepancyTimeout (t : Nat) (ch : Fin 64)
  | fieldDiePowerUp (t : Nat) (die : Fin 4)
  | fieldDieFwRestart (t : Nat) (die : Fin 4)
  | dualContactChange (t : Nat) (n : Fin 32) (evalOk : Bool)
  | dualDiscrepancy (t : Nat) (tick : DualTick)
  -- panel
  | keyMatrixScan (t : Nat) (row : Fin 8) (classes : List KeyClass)
  | panelInputSample (t : Nat) (inp : PanelInput) (level : Bool)
  | panelDebounceConfirm (t : Nat) (inp : PanelInput)
  | keyStuck (t : Nat) (k : Fin 64)
  | lrFault (t : Nat)
  | sboSelTimeout (t : Nat)
  | execEnd (t : Nat)
  | presenceComplete (t : Nat)
  | presenceExpiry (t : Nat)
  -- network
  | gooseRx (t : Nat) (m : GooseMsg)
  | svRx (t : Nat) (m : SvMsg)
  | supervisionFrame (t : Nat) (hdr : NetHdr)
  | hostFrameRx (t : Nat) (hdr : NetHdr) (frame : Bytes) (slot : HostSlot)
  | hostTxPoll (t : Nat) (slots : List TxSlot)
  | gooseExpiry (t : Nat) (sub : Fin 128)
  | gooseRepeat (t : Nat) (pub : Fin 64)
  | supervisionSend (t : Nat)
  | nodeEntryAge (t : Nat) (mac : BitVec 48)
  | netLinkChange (t : Nat) (port : Fin 2) (up : Bool)
  -- ring
  | sumSend (t : Nat)
  | beaconSend (t : Nat)
  | msgSend (t : Nat) (station : Fin 63) (op : Fin 5) (offset : Nat) (data : Bytes)
  | sumRxStation (t : Nat) (port : Fin 2) (bytes : Bytes)
  | sumReturn (t : Nat) (port : Fin 2) (bytes : Bytes)
  | beaconRx (t : Nat) (port : Fin 2) (bytes : Bytes)
  | ringFrameForward (t : Nat) (port : Fin 2) (bytes : Bytes) (residenceNs : Nat)
  | admission (t : Nat) (bytes : Bytes)
  | cfgBlock (t : Nat) (bytes : Bytes)
  | cfgCommit (t : Nat) (bytes : Bytes)
  | msgStatus (t : Nat) (bytes : Bytes)
  | msgReply (t : Nat) (bytes : Bytes)
  | delayMeasure (t : Nat) (port : Fin 2)
  | delayRequestRx (t : Nat) (port : Fin 2) (residenceNs : Nat)
  | delayResponseRx (t : Nat) (port : Fin 2) (roundTripNs residenceNs : Nat)
  | ringCycleEnd (t : Nat)
  | syncOutputApply (t : Nat)
  | stationDownTimeout (t : Nat)
  -- hot standby
  | heartbeatSend (t : Nat)
  | heartbeat (t : Nat) (lane : Fin 2) (r : HbRec)
  | releaseRecord (t : Nat) (task : Fin 51) (scan : Dword) (snapMono snapTai : Nat) (source : Nat) (data : Word)
  | snapshotRecord (t : Nat) (task : Fin 51) (points : List (Nat × Word × BitVec 4))
  | publishRecord (t : Nat) (task : Fin 51) (scan : Dword) (crc : Word) (words : List (Nat × Word))
  | pubState (t : Nat) (pub : Fin 64) (stNum sqNum : Word) (curveMs : Nat)
  | ack (t : Nat) (task : Fin 51) (scan : Dword) (crc : Word)
  | commandRecord (t : Nat) (code : Half) (payload : Bytes) (scan : Dword)
  | alignBlock (t : Nat) (b : AlignBlk)
  | handoverAt (t : Nat) (scan : Dword)
  | switchAt (t : Nat) (scan : Dword)
  | controlRecord (t : Nat) (r : ControlRec)
  | laneDown (t : Nat) (lane : Fin 2)
  | pairListenEnd (t : Nat)
  | alignmentComplete (t : Nat) (keeperMono : Nat) (j : Dword)
  | alignmentRetry (t : Nat)
  | takeover (t : Nat)
  | healthSettled (t : Nat)
  | takebackElapsed (t : Nat)
  | handover (t : Nat)
  -- memory
  | warmFlush (t : Nat)
  | firnAppend (t : Nat) (write : FirnWrite)
  | firnCompaction (t : Nat) (eraseOk : Bool)
  | firnCatchUp (t : Nat)
  | retentiveHomeWrite (t : Nat)
  | magSample (t : Nat) (magnitude : Nat)
  | magAlertSet (t : Nat)
  | magAlertClear (t : Nat) (bad : MagDamage)
  | soeArchiveAppend (t : Nat)
  | tableFlip (t : Nat)
  | ldgPartTimeout (t : Nat) (key : Half)
  -- safety, security, update timers
  | safConfirmApply (t : Nat)
  | sessionIdleTimeout (t : Nat) (session : Word)
  | sessionAuthTimeout (t : Nat) (session : Word)
  | portLockoutEnd (t : Nat) (usb : Bool)
  | tokenExpiry (t : Nat)
  | trialExpiry (t : Nat)
  | recoveryRefresh (t : Nat)
  | updIdleTimeout (t : Nat)
  -- TAP and debug
  | extest (t : Nat)
  | sample (t : Nat)
  | preload (t : Nat) (bits : Bytes)
  | dbgSelect (t : Nat)
  | dbgTokenLoad (t : Nat) (token : Bytes)
  | bypass (t : Nat)
  | usbDebugOpen (t : Nat)
  | debugRead (t : Nat) (r : DbgReq)
  | debugWrite (t : Nat) (r : DbgReq)
  | debugHalt (t : Nat) (r : DbgReq)
  | debugResume (t : Nat) (r : DbgReq)
  | debugStep (t : Nat) (r : DbgReq)
  | debugDetach (t : Nat) (r : DbgReq)
  -- host port
  | doorbell (t : Nat) (mask : Word) (usbPort : Bool) (usbRequest : Bytes)
  | requestAccept (t : Nat) (mb : Fin 8)
  | release (t : Nat) (mask : Word) (usbPort : Bool)
  | irqStatus (t : Nat) (mask : Word)
  | evtKick (t : Nat) (rdIndex : Nat)
  | highWordLatch (t : Nat) (offset : Nat)
  | registerWrite (t : Nat) (offset : Nat) (value : Word)
  | mailboxPending (t : Nat) (mb : Fin 8)
  | deferredResult (t : Nat) (mb : Fin 8)
  | qspiRead (t : Nat) (addr len : Nat)
  | qspiWrite (t : Nat) (addr : Nat) (data : Bytes)
  | qspiStatus (t : Nat)
  | pciePerstN (t : Nat)
  | windowAccessInSlumber (t : Nat) (write : Bool) (offset : Nat) (value : Word)
  | eventStreamWrite (t : Nat)
  | usbVbusRemoval (t : Nat)
  | usbEventAttach (t : Nat) (setting : Bool)
  -- mailbox commands: the request of mailbox `mb` runs
  | sysInfo (t : Nat) (mb : Fin 8)
  | sysProfileSet (t : Nat) (mb : Fin 8)
  | sysStateGet (t : Nat) (mb : Fin 8)
  | sysSlumber (t : Nat) (mb : Fin 8)
  | sysHoldupCfg (t : Nat) (mb : Fin 8)
  | sysRestart (t : Nat) (mb : Fin 8)
  | clkStatus (t : Nat) (mb : Fin 8)
  | clkSwitch (t : Nat) (mb : Fin 8)
  | timeSourceCfg (t : Nat) (mb : Fin 8)
  | timeStatus (t : Nat) (mb : Fin 8)
  | calGet (t : Nat) (mb : Fin 8)
  | calSet (t : Nat) (mb : Fin 8)
  | calTrimCurve (t : Nat) (mb : Fin 8)
  | backupCfg (t : Nat) (mb : Fin 8)
  | leapTableSet (t : Nat) (mb : Fin 8)
  | prgLoadBegin (t : Nat) (mb : Fin 8)
  | prgLoadBlock (t : Nat) (mb : Fin 8)
  | prgLoadEnd (t : Nat) (mb : Fin 8)
  | prgMode (t : Nat) (mb : Fin 8)
  | prgStatus (t : Nat) (mb : Fin 8)
  | imgRead (t : Nat) (mb : Fin 8)
  | imgForce (t : Nat) (mb : Fin 8)
  | taskCfg (t : Nat) (mb : Fin 8)
  | evtStreamCfg (t : Nat) (mb : Fin 8)
  | soeRead (t : Nat) (mb : Fin 8)
  | editStage (t : Nat) (mb : Fin 8)
  | editBlock (t : Nat) (mb : Fin 8)
  | editCommit (t : Nat) (mb : Fin 8)
  | editAbort (t : Nat) (mb : Fin 8)
  | editStatus (t : Nat) (mb : Fin 8)
  | fldCfg (t : Nat) (mb : Fin 8)
  | fldStatus (t : Nat) (mb : Fin 8)
  | fldCounter (t : Nat) (mb : Fin 8)
  | fldTest (t : Nat) (mb : Fin 8)
  | pnlCfg (t : Nat) (mb : Fin 8)
  | pnlLed (t : Nat) (mb : Fin 8)
  | pnlStatus (t : Nat) (mb : Fin 8)
  | pnlPresence (t : Nat) (mb : Fin 8)
  | netPortCfg (t : Nat) (mb : Fin 8)
  | gooseSubCfg (t : Nat) (mb : Fin 8)
  | goosePubCfg (t : Nat) (mb : Fin 8)
  | svSubCfg (t : Nat) (mb : Fin 8)
  | netStatus (t : Nat) (mb : Fin 8)
  | ringCfg (t : Nat) (mb : Fin 8)
  | ringStationCfg (t : Nat) (mb : Fin 8)
  | ringStatus (t : Nat) (mb : Fin 8)
  | pairCfg (t : Nat) (mb : Fin 8)
  | pairStatus (t : Nat) (mb : Fin 8)
  | pairSwitch (t : Nat) (mb : Fin 8)
  | ldgWrite (t : Nat) (mb : Fin 8)
  | ldgRead (t : Nat) (mb : Fin 8)
  | ldgClassCfg (t : Nat) (mb : Fin 8)
  | ldgStatus (t : Nat) (mb : Fin 8)
  | tblWrite (t : Nat) (mb : Fin 8)
  | tblRead (t : Nat) (mb : Fin 8)
  | safStatus (t : Nat) (mb : Fin 8)
  | safConfirm (t : Nat) (mb : Fin 8)
  | safConnStatus (t : Nat) (mb : Fin 8)
  | healthReport (t : Nat) (mb : Fin 8)
  | tallyCfg (t : Nat) (mb : Fin 8)
  | selftestCfg (t : Nat) (mb : Fin 8)
  | faultLogRead (t : Nat) (mb : Fin 8)
  | sesOpen (t : Nat) (mb : Fin 8)
  | sesAuth (t : Nat) (mb : Fin 8)
  | sesClose (t : Nat) (mb : Fin 8)
  | lifecycleAdvance (t : Nat) (mb : Fin 8)
  | keyEnroll (t : Nat) (mb : Fin 8)
  | dbgToken (t : Nat) (mb : Fin 8)
  | updBegin (t : Nat) (mb : Fin 8)
  | updBlock (t : Nat) (mb : Fin 8)
  | updVerify (t : Nat) (mb : Fin 8)
  | updActivate (t : Nat) (mb : Fin 8)
  | updStatus (t : Nat) (mb : Fin 8)
  | updConfirm (t : Nat) (mb : Fin 8)
  -- Nelbix
  | band (b : Issue) (gd ga gb : BitVec 6) (sub : BitVec 4)
  | bor (b : Issue) (gd ga gb : BitVec 6) (sub : BitVec 4)
  | bxor (b : Issue) (gd ga gb : BitVec 6) (sub : BitVec 4)
  | nez (b : Issue) (gd ga gb : BitVec 6) (sub : BitVec 4)
  | eqz (b : Issue) (gd ga gb : BitVec 6) (sub : BitVec 4)
  | bext (b : Issue) (gd ga : BitVec 6) (imm : BitVec 10)
  | bins (b : Issue) (gd ga : BitVec 6) (imm : BitVec 10)
  | bld (b : Issue) (gd : BitVec 6) (space : BitVec 4) (index : BitVec 12)
  | bst (b : Issue) (gd : BitVec 6) (space : BitVec 4) (index : BitVec 12)
  | bldq (b : Issue) (gd : BitVec 6) (space : BitVec 4) (index : BitVec 12)
  | bldg (b : Issue) (gd : BitVec 6) (space : BitVec 4) (index : BitVec 12)
  | add (b : Issue) (gd ga gb : BitVec 6) (sub : BitVec 4)
  | sub (b : Issue) (gd ga gb : BitVec 6) (sub : BitVec 4)
  | addi (b : Issue) (gd ga : BitVec 6) (imm : BitVec 10)
  | and (b : Issue) (gd ga gb : BitVec 6) (sub : BitVec 4)
  | or (b : Issue) (gd ga gb : BitVec 6) (sub : BitVec 4)
  | xor (b : Issue) (gd ga gb : BitVec 6) (sub : BitVec 4)
  | andi (b : Issue) (gd ga : BitVec 6) (imm : BitVec 10)
  | ori (b : Issue) (gd ga : BitVec 6) (imm : BitVec 10)
  | xori (b : Issue) (gd ga : BitVec 6) (imm : BitVec 10)
  | shl (b : Issue) (gd ga gb : BitVec 6) (sub : BitVec 4)
  | shr (b : Issue) (gd ga gb : BitVec 6) (sub : BitVec 4)
  | sar (b : Issue) (gd ga gb : BitVec 6) (sub : BitVec 4)
  | shli (b : Issue) (gd ga : BitVec 6) (imm : BitVec 10)
  | shri (b : Issue) (gd ga : BitVec 6) (imm : BitVec 10)
  | sari (b : Issue) (gd ga : BitVec 6) (imm : BitVec 10)
  | min (b : Issue) (gd ga gb : BitVec 6) (sub : BitVec 4)
  | max (b : Issue) (gd ga gb : BitVec 6) (sub : BitVec 4)
  | minu (b : Issue) (gd ga gb : BitVec 6) (sub : BitVec 4)
  | maxu (b : Issue) (gd ga gb : BitVec 6) (sub : BitVec 4)
  | cmpeq (b : Issue) (gd ga gb : BitVec 6) (sub : BitVec 4)
  | cmpne (b : Issue) (gd ga gb : BitVec 6) (sub : BitVec 4)
  | cmplt (b : Issue) (gd ga gb : BitVec 6) (sub : BitVec 4)
  | cmpltu (b : Issue) (gd ga gb : BitVec 6) (sub : BitVec 4)
  | cmple (b : Issue) (gd ga gb : BitVec 6) (sub : BitVec 4)
  | cmpleu (b : Issue) (gd ga gb : BitVec 6) (sub : BitVec 4)
  | cmpeqi (b : Issue) (gd ga : BitVec 6) (imm : BitVec 10)
  | cmplti (b : Issue) (gd ga : BitVec 6) (imm : BitVec 10)
  | cmpltui (b : Issue) (gd ga : BitVec 6) (imm : BitVec 10)
  | carry (b : Issue) (gd ga gb : BitVec 6) (sub : BitVec 4)
  | borrow (b : Issue) (gd ga gb : BitVec 6) (sub : BitVec 4)
  | adds (b : Issue) (gd ga gb : BitVec 6) (sub : BitVec 4)
  | subs (b : Issue) (gd ga gb : BitVec 6) (sub : BitVec 4)
  | li (b : Issue) (gd : BitVec 6) (imm : BitVec 16)
  | ext (b : Issue) (gd ga gb : BitVec 6) (sub : BitVec 4)
  | clz (b : Issue) (gd ga gb : BitVec 6) (sub : BitVec 4)
  | popc (b : Issue) (gd ga gb : BitVec 6) (sub : BitVec 4)
  | add64 (b : Issue) (gd ga gb : BitVec 6) (sub : BitVec 4)
  | sub64 (b : Issue) (gd ga gb : BitVec 6) (sub : BitVec 4)
  | cmpltu64 (b : Issue) (gd ga gb : BitVec 6) (sub : BitVec 4)
  | cmplt64 (b : Issue) (gd ga gb : BitVec 6) (sub : BitVec 4)
  | div (b : Issue) (gd ga gb : BitVec 6) (sub : BitVec 4)
  | divu (b : Issue) (gd ga gb : BitVec 6) (sub : BitVec 4)
  | rem (b : Issue) (gd ga gb : BitVec 6) (sub : BitVec 4)
  | remu (b : Issue) (gd ga gb : BitVec 6) (sub : BitVec 4)
  | mul (b : Issue) (gd ga gb : BitVec 6) (sub : BitVec 4)
  | mulh (b : Issue) (gd ga gb : BitVec 6) (sub : BitVec 4)
  | mulhu (b : Issue) (gd ga gb : BitVec 6) (sub : BitVec 4)
  | mulw (b : Issue) (gd ga gb : BitVec 6) (sub : BitVec 4)
  | mac (b : Issue) (gd ga gb : BitVec 6) (sub : BitVec 4)
  | macw (b : Issue) (gd ga gb : BitVec 6) (sub : BitVec 4)
  | fadd (b : Issue) (gd ga gb : BitVec 6) (sub : BitVec 4)
  | fsub (b : Issue) (gd ga gb : BitVec 6) (sub : BitVec 4)
  | fmul (b : Issue) (gd ga gb : BitVec 6) (sub : BitVec 4)
  | fmac (b : Issue) (gd ga gb : BitVec 6) (sub : BitVec 4)
  | fmsc (b : Issue) (gd ga gb : BitVec 6) (sub : BitVec 4)
  | fmin (b : Issue) (gd ga gb : BitVec 6) (sub : BitVec 4)
  | fmax (b : Issue) (gd ga gb : BitVec 6) (sub : BitVec 4)
  | fsgn (b : Issue) (gd ga gb : BitVec 6) (sub : BitVec 4)
  | fcmp (b : Issue) (gd ga gb : BitVec 6) (sub : BitVec 4)
  | fcvt (b : Issue) (gd ga gb : BitVec 6) (sub : BitVec 4)
  | mld (b : Issue) (gd gb : BitVec 6) (agn : BitVec 2) (sub : BitVec 8)
  | mst (b : Issue) (gd gb : BitVec 6) (agn : BitVec 2) (sub : BitVec 8)
  | fmaca (b : Issue) (gd gb : BitVec 6) (agn : BitVec 2) (sub : BitVec 8)
  | fmac2a (b : Issue) (gd gb : BitVec 6) (agn : BitVec 2) (sub : BitVec 8)
  | cmula (b : Issue) (gd gb : BitVec 6) (agn : BitVec 2) (sub : BitVec 8)
  | agset (b : Issue) (gd gb : BitVec 6) (agn : BitVec 2) (sub : BitVec 8)
  | agget (b : Issue) (gd gb : BitVec 6) (agn : BitVec 2) (sub : BitVec 8)
  | fdiv (b : Issue) (gd ga gb : BitVec 6) (sub : BitVec 4)
  | fsqrt (b : Issue) (gd ga gb : BitVec 6) (sub : BitVec 4)
  | emulatedSyllable (b : Issue) (cls : BitVec 3) (opcode : BitVec 6) (operands : BitVec 22)
  | ldb (b : Issue) (gd ga : BitVec 6) (imm : BitVec 10)
  | ldbu (b : Issue) (gd ga : BitVec 6) (imm : BitVec 10)
  | ldh (b : Issue) (gd ga : BitVec 6) (imm : BitVec 10)
  | ldhu (b : Issue) (gd ga : BitVec 6) (imm : BitVec 10)
  | ldw (b : Issue) (gd ga : BitVec 6) (imm : BitVec 10)
  | ldd (b : Issue) (gd ga : BitVec 6) (imm : BitVec 10)
  | stb (b : Issue) (gd ga : BitVec 6) (imm : BitVec 10)
  | sth (b : Issue) (gd ga : BitVec 6) (imm : BitVec 10)
  | stw (b : Issue) (gd ga : BitVec 6) (imm : BitVec 10)
  | std (b : Issue) (gd ga : BitVec 6) (imm : BitVec 10)
  | ldwi (b : Issue) (gd : BitVec 6) (imm : BitVec 16)
  | lddi (b : Issue) (gd : BitVec 6) (imm : BitVec 16)
  | stwi (b : Issue) (gd : BitVec 6) (imm : BitVec 16)
  | stdi (b : Issue) (gd : BitVec 6) (imm : BitVec 16)
  | ild (b : Issue) (gd ga : BitVec 6) (imm : BitVec 10)
  | ildq (b : Issue) (gd ga : BitVec 6) (imm : BitVec 10)
  | ist (b : Issue) (gd ga : BitVec 6) (imm : BitVec 10)
  | ildw (b : Issue) (gd : BitVec 6) (space : BitVec 4) (index : BitVec 12)
  | istw (b : Issue) (gd : BitVec 6) (space : BitVec 4) (index : BitVec 12)
  | tldb (b : Issue) (gd ga : BitVec 6) (imm : BitVec 10)
  | tldbu (b : Issue) (gd ga : BitVec 6) (imm : BitVec 10)
  | tldh (b : Issue) (gd ga : BitVec 6) (imm : BitVec 10)
  | tldhu (b : Issue) (gd ga : BitVec 6) (imm : BitVec 10)
  | tldw (b : Issue) (gd ga : BitVec 6) (imm : BitVec 10)
  | tldd (b : Issue) (gd ga : BitVec 6) (imm : BitVec 10)
  | push (b : Issue) (gd ga gb : BitVec 6) (sub : BitVec 4)
  | pop (b : Issue) (gd ga gb : BitVec 6) (sub : BitVec 4)
  | pushd (b : Issue) (gd ga gb : BitVec 6) (sub : BitVec 4)
  | popd (b : Issue) (gd ga gb : BitVec 6) (sub : BitVec 4)
  | ton (b : Issue) (gd ga : BitVec 6) (imm : BitVec 10)
  | tof (b : Issue) (gd ga : BitVec 6) (imm : BitVec 10)
  | tp (b : Issue) (gd ga : BitVec 6) (imm : BitVec 10)
  | tacc (b : Issue) (gd ga : BitVec 6) (imm : BitVec 10)
  | rtrig (b : Issue) (gd ga : BitVec 6) (imm : BitVec 10)
  | ftrig (b : Issue) (gd ga : BitVec 6) (imm : BitVec 10)
  | ctu (b : Issue) (gd ga : BitVec 6) (imm : BitVec 10)
  | ctd (b : Issue) (gd ga : BitVec 6) (imm : BitVec 10)
  | ctud (b : Issue) (gd ga : BitVec 6) (imm : BitVec 10)
  | bnz (b : Issue) (gd : BitVec 6) (imm : BitVec 16)
  | bz (b : Issue) (gd : BitVec 6) (imm : BitVec 16)
  | loop (b : Issue) (gd : BitVec 6) (imm : BitVec 16)
  | jmpr (b : Issue) (gd ga gb : BitVec 6) (sub : BitVec 4)
  | call (b : Issue) (gd : BitVec 6) (imm : BitVec 16)
  | callr (b : Issue) (gd ga gb : BitVec 6) (sub : BitVec 4)
  | fbcall (b : Issue) (gd : BitVec 6) (imm : BitVec 16)
  | fbcallr (b : Issue) (gd ga gb : BitVec 6) (sub : BitVec 4)
  | ret (b : Issue) (gd ga gb : BitVec 6) (sub : BitVec 4)
  | instset (b : Issue) (gd ga gb : BitVec 6) (sub : BitVec 4)
  | instget (b : Issue) (gd ga gb : BitVec 6) (sub : BitVec 4)
  | barrier (b : Issue) (gd : BitVec 6) (imm : BitVec 16)
  | tend (b : Issue) (gd : BitVec 6) (imm : BitVec 16)
  | trap (b : Issue) (gd : BitVec 6) (imm : BitVec 16)
  -- rows added at the end of the table
  | ringLinkChange (t : Nat) (port : Fin 2) (up : Bool)
  | pciePerstNRelease (t : Nat)
  | rcFastRetry (t : Nat) (inTolerance : Bool)
  | eventStreamIrqUs (t : Nat)
  | rdIndexPoll (t rdIndex : Nat)
  | retiredEraseDone (t : Nat)
  | fieldDieFwRestartDone (t : Nat) (die : Fin 4)
  | tapReset (t : Nat)
deriving DecidableEq, Repr

end Sys2Proof
end

