-- ==== Sys2Proof/Machine/Sparse.lean ====
section
/-! DEFINITION. Sparse tables in canonical form, byte memories over them, and little-endian fields of byte strings
(R5, R562). -/

namespace Sys2Proof

/-- The value at key `k`, `d` where the table lists none. -/
def Tbl.get {α : Type} (m : Tbl α) (d : α) (k : Nat) : α :=
  match m with
  | [] => d
  | (k', v) :: r => if k = k' then v else Tbl.get r d k

/-- The table with `v` listed at key `k`, before the first higher key. -/
def Tbl.insert {α : Type} (m : Tbl α) (k : Nat) (v : α) : Tbl α :=
  match m with
  | [] => [(k, v)]
  | (k', v') :: r =>
    if k < k' then (k, v) :: (k', v') :: r
    else if k = k' then (k, v) :: r
    else (k', v') :: Tbl.insert r k v

/-- The table with `v` at key `k`; an entry equal to the default `d` is not listed. -/
def Tbl.set {α : Type} [DecidableEq α] (m : Tbl α) (d : α) (k : Nat) (v : α) : Tbl α :=
  if v = d then m.filter fun e => e.1 ≠ k else m.insert k v

/-- Every key of the table is at or above `lo`, rising, and no value is the default. -/
def Tbl.wfFrom {α : Type} [DecidableEq α] (d : α) (lo : Nat) (m : Tbl α) : Bool :=
  match m with
  | [] => true
  | (k, v) :: r => decide (lo ≤ k) && (decide (v ≠ d) && Tbl.wfFrom d (k + 1) r)

/-- The canonical form: keys strictly rising, no entry equal to the default. -/
def Tbl.wf {α : Type} [DecidableEq α] (d : α) (m : Tbl α) : Bool := Tbl.wfFrom d 0 m

/-- The table with every listed value changed by `f`. -/
def Tbl.mapVal {α : Type} [DecidableEq α] (d : α) (f : Nat → α → α) (m : Tbl α) : Tbl α :=
  m.filterMap fun p => if f p.1 p.2 = d then none else some (p.1, f p.1 p.2)

/-- The table with `f k` applied at each key of the list in turn. -/
def Tbl.over {α : Type} [DecidableEq α] (d : α) (f : Nat → α → α) (ks : List Nat) (m : Tbl α) : Tbl α :=
  ks.foldl (fun m k => m.set d k (f k (m.get d k))) m

/-- The keys listed. -/
def Tbl.keys {α : Type} (m : Tbl α) : List Nat := m.map Prod.fst

/-- The table without the keys that `p` picks. -/
def Tbl.drop {α : Type} (p : Nat → Bool) (m : Tbl α) : Tbl α := m.filter fun e => !p e.1

/-- A byte of memory; memory lists no zero byte (log entry 7). -/
def Memory.readByte (m : Memory) (a : Nat) : Byte := Tbl.get m 0#8 a

/-- The memory with one byte written. -/
def Memory.writeByte (m : Memory) (a : Nat) (v : Byte) : Memory := Tbl.set m 0#8 a v

/-- The canonical form of a memory. -/
def Memory.wf (m : Memory) : Bool := Tbl.wf 0#8 m

/-- `n` bytes from address `a` up. -/
def Memory.readBytes (m : Memory) (a : Nat) : Nat → Bytes
  | 0 => []
  | n + 1 => Memory.readByte m a :: Memory.readBytes m (a + 1) n

/-- The memory with the bytes written from address `a` up. -/
def Memory.writeBytes (m : Memory) (a : Nat) : Bytes → Memory
  | [] => m
  | b :: r => Memory.writeBytes (Memory.writeByte m a b) (a + 1) r

/-- The number a byte string spells, lowest byte first (R5). -/
def leNat : Bytes → Nat
  | [] => 0
  | b :: r => b.toNat + 256 * leNat r

/-- The lowest `n` bytes of a number, lowest byte first (R5). -/
def leBytes : Nat → Nat → Bytes
  | 0, _ => []
  | n + 1, v => BitVec.ofNat 8 v :: leBytes n (v / 256)

/-- The same for a signed number in two's complement. -/
def leInt (n : Nat) (v : Int) : Bytes := leBytes n (v % (2 ^ (8 * n) : Int)).toNat

/-- A signed number from its two's complement. -/
def toSigned (bits v : Nat) : Int := if v < 2 ^ (bits - 1) then (v : Int) else (v : Int) - (2 ^ bits : Int)

/-- A little-endian word of memory. -/
def Memory.readWord (m : Memory) (a : Nat) : Word := BitVec.ofNat 32 (leNat (Memory.readBytes m a 4))

/-- The memory with a little-endian word written. -/
def Memory.writeWord (m : Memory) (a : Nat) (v : Word) : Memory := Memory.writeBytes m a (leBytes 4 v.toNat)

/-- `len` bytes of a string from `off`, zero-padded. -/
def slice (p : Bytes) (off len : Nat) : Bytes :=
  let q := (List.drop off p).take len
  q ++ List.replicate (len - q.length) 0#8

/-- An unsigned field of a payload; a field beyond or cut by the payload's end takes its default (R562). -/
def field (p : Bytes) (off len dflt : Nat) : Nat :=
  if off + len ≤ p.length then leNat (slice p off len) else dflt

/-- A signed field, by the same rule. -/
def fieldS (p : Bytes) (off len : Nat) (dflt : Int) : Int :=
  if off + len ≤ p.length then toSigned (8 * len) (leNat (slice p off len)) else dflt

/-- A byte-string field, by the same rule; its default is zeros. -/
def fieldB (p : Bytes) (off len : Nat) : Bytes :=
  if off + len ≤ p.length then slice p off len else List.replicate len 0#8

/-- A value brought into a range (R562). -/
def clamp (lo hi v : Nat) : Nat := max lo (min hi v)

/-- The same for signed values. -/
def clampI (lo hi v : Int) : Int := max lo (min hi v)

/-- A zero-filled string. -/
def zeros (n : Nat) : Bytes := List.replicate n 0#8

/-- 1 for true. -/
def bit (b : Bool) : Nat := if b then 1 else 0

/-- Bits packed 8 to a byte, first in bit 0, zero padded; `n` bytes (R180, R372). -/
def packBits : Nat → List Bool → Bytes
  | 0, _ => []
  | n + 1, bs =>
    BitVec.ofNat 8 ((bs.take 8).foldr (fun b a => bit b + 2 * a) 0) :: packBits n (bs.drop 8)

/-- Bit `i` of a packed string. -/
def packedBit (p : Bytes) (i : Nat) : Bool := (p.getD (i / 8) 0#8).getLsbD (i % 8)

/-- Serial-number order modulo 2³²: `a` is newer than `b` (R184, R494, R578). -/
def newerSeq (a b : Nat) : Bool :=
  let d := (a + 2 ^ 32 - b % 2 ^ 32) % 2 ^ 32
  decide (0 < d ∧ d < 2 ^ 31)

end Sys2Proof
end

