-- ==== Sys2Proof/Machine/Flags.lean ====
section
/-! DEFINITION. Compare, carry, borrow, sign and saturation results of the word ALU. Nelbix has no condition flags: every
such result is a word that is exactly 0 or 1 (R189, R224, R229, R230). -/

namespace Sys2Proof.Machine

/-- A Boolean result as a word (R224). -/
def flag (b : Bool) : Word := if b then 1#32 else 0#32

/-- A word as an operand of Boolean meaning: true when non-zero (R224). -/
def truth (w : Word) : Bool := decide (w ≠ 0#32)

/-- Carry out of ga + gb (R229). -/
def carryOut (a b : Word) : Bool := decide (2 ^ 32 ≤ a.toNat + b.toNat)

/-- Borrow of ga − gb (R229). -/
def borrowOut (a b : Word) : Bool := decide (a.toNat < b.toNat)

/-- Signed less than. -/
def ltS (a b : Word) : Bool := decide (a.toInt < b.toInt)

/-- Signed less than or equal. -/
def leS (a b : Word) : Bool := decide (a.toInt ≤ b.toInt)

/-- A signed result brought into the range of s32 (R229). -/
def saturate32 (v : Int) : Word := BitVec.ofInt 32 (clampI (-(2 ^ 31)) (2 ^ 31 - 1) v)

/-- Two registers as one 64-bit value, the even register low (R188). -/
def joinPair (lo hi : Word) : Dword := hi ++ lo

/-- The low word of a 64-bit value. -/
def loWord (d : Dword) : Word := d.extractLsb' 0 32

/-- The high word of a 64-bit value. -/
def hiWord (d : Dword) : Word := d.extractLsb' 32 32

/-- Leading zeros of the lowest `n` bits of a word; `n` where they are all 0 (R229). -/
def leadingZeros (w : Word) : Nat → Nat
  | 0 => 0
  | n + 1 => if w.getLsbD n then 0 else leadingZeros w n + 1

/-- 1 bits among the lowest `n` bits of a word (R229). -/
def onesIn (w : Word) : Nat → Nat
  | 0 => 0
  | n + 1 => bit (w.getLsbD n) + onesIn w n

/-- The low bits of a word sign-extended. -/
def signExt (n : Nat) (w : Word) : Word := (w.setWidth n).signExtend 32

/-- The low bits of a word zero-extended. -/
def zeroExt (n : Nat) (w : Word) : Word := (w.setWidth n).setWidth 32

/-- Signed quotient, rounded toward zero; −2³¹ by −1 gives −2³¹ (R229, R230). -/
def quotS (a b : Word) : Word := BitVec.ofInt 32 (a.toInt.tdiv b.toInt)

/-- Signed remainder, with the sign of the dividend (R229, R230). -/
def remS (a b : Word) : Word := BitVec.ofInt 32 (a.toInt.tmod b.toInt)

/-- The signed 64-bit product (R231). -/
def prodS (a b : Word) : Dword := BitVec.ofInt 64 (a.toInt * b.toInt)

/-- The unsigned 64-bit product (R231). -/
def prodU (a b : Word) : Dword := BitVec.ofNat 64 (a.toNat * b.toNat)

end Sys2Proof.Machine
end

