-- ==== Sys2Proof/Machine/Operands.lean ====
section
/-! DEFINITION. Nelbix syllables: fields, formats, extensions, the registers that an opcode reads and writes, and the rules of
a well-formed bundle (R188-R196, R223). -/

namespace Sys2Proof.Machine

/-! ### Fields of a syllable (R190, R192) -/

/-- STOP. -/
def sylStop (w : Word) : Bool := w.getLsbD 31
/-- CLASS. -/
def sylClass (w : Word) : Nat := (w.extractLsb' 28 3).toNat
/-- OPCODE. -/
def sylOp (w : Word) : Nat := (w.extractLsb' 22 6).toNat
/-- gd. -/
def sylGd (w : Word) : Nat := (w.extractLsb' 16 6).toNat
/-- ga of RRR and RRI; gb of AG. -/
def sylGa (w : Word) : Nat := (w.extractLsb' 10 6).toNat
/-- gb of RRR. -/
def sylGb (w : Word) : Nat := (w.extractLsb' 4 6).toNat
/-- SUB of RRR. -/
def sylSub (w : Word) : Nat := (w.extractLsb' 0 4).toNat
/-- AGN. -/
def sylAgn (w : Word) : Nat := (w.extractLsb' 8 2).toNat
/-- SUB of AG. -/
def sylAgSub (w : Word) : Nat := (w.extractLsb' 0 8).toNat
/-- The value of an X syllable. -/
def sylX (w : Word) : BitVec 28 := w.extractLsb' 0 28

/-- The operand formats (R192). -/
inductive Fmt where
  | rrr | rri | ri | bi | ag
deriving DecidableEq, Repr

/-- STOP, CLASS, OPCODE and gd over the rest of a syllable (R190). -/
def encSyl (cls op : Nat) (gd : BitVec 6) (rest : BitVec 16) : Word :=
  (0#1 ++ BitVec.ofNat 3 cls ++ BitVec.ofNat 6 op ++ gd ++ rest).setWidth 32

/-- A syllable in format RRR (R192). -/
def encRRR (cls op : Nat) (gd ga gb : BitVec 6) (sub : BitVec 4) : Word := encSyl cls op gd (ga ++ gb ++ sub)
/-- A syllable in format RRI (R192). -/
def encRRI (cls op : Nat) (gd ga : BitVec 6) (imm : BitVec 10) : Word := encSyl cls op gd (ga ++ imm)
/-- A syllable in format RI (R192). -/
def encRI (cls op : Nat) (gd : BitVec 6) (imm : BitVec 16) : Word := encSyl cls op gd imm
/-- A syllable in format BI (R192). -/
def encBI (cls op : Nat) (gd : BitVec 6) (space : BitVec 4) (index : BitVec 12) : Word := encSyl cls op gd (space ++ index)
/-- A syllable in format AG (R192). -/
def encAG (cls op : Nat) (gd gb : BitVec 6) (agn : BitVec 2) (sub : BitVec 8) : Word := encSyl cls op gd (gb ++ agn ++ sub)

/-! ### Assignment (R191, R223, R227-R237) -/

/-- The format of an assigned opcode, none of an unassigned one. -/
def format (cls op : Nat) : Option Fmt :=
  match cls with
  | 0 => if op ≤ 4 then some .rrr else if op = 8 ∨ op = 9 then some .rri else if 0x20 ≤ op ∧ op ≤ 0x23 then some .bi else none
  | 1 =>
    if 0x2B < op then none
    else if op = 0x20 then some .ri
    else if [0x02, 0x06, 0x07, 0x08, 0x0C, 0x0D, 0x0E, 0x19, 0x1A, 0x1B].contains op then some .rri
    else some .rrr
  | 2 =>
    if op ≤ 5 ∨ (0x10 ≤ op ∧ op ≤ 0x19) then some .rrr
    else if (0x20 ≤ op ∧ op ≤ 0x24) ∨ op = 0x28 ∨ op = 0x29 then some .ag else none
  | 3 =>
    if op ≤ 5 ∨ (8 ≤ op ∧ op ≤ 0xB) ∨ (0x18 ≤ op ∧ op ≤ 0x1A) ∨ (0x20 ≤ op ∧ op ≤ 0x25) ∨ (0x30 ≤ op ∧ op ≤ 0x38) then some .rri
    else if 0x10 ≤ op ∧ op ≤ 0x13 then some .ri
    else if op = 0x1C ∨ op = 0x1D then some .bi
    else if 0x28 ≤ op ∧ op ≤ 0x2B then some .rrr else none
  | 4 =>
    if op ≤ 2 ∨ op = 4 ∨ op = 6 ∨ (0x10 ≤ op ∧ op ≤ 0x12) then some .ri
    else if op ≤ 0x0A then some .rrr else none
  | _ => none

/-- The SUB value is one that the tables list for the opcode (R223). -/
def subListed (w : Word) : Bool :=
  match format (sylClass w) (sylOp w) with
  | some .rrr =>
    match sylClass w, sylOp w with
    | 0, 0 | 0, 1 | 0, 2 => decide (sylSub w < 8)
    | 1, 0x21 => decide (sylSub w ≤ 3)
    | 2, 0x17 => decide (sylSub w ≤ 2)
    | 2, 0x18 => decide (sylSub w ≤ 3)
    | 2, 0x19 => decide (sylSub w ≤ 4)
    | _, _ => decide (sylSub w = 0)
  | some .ag =>
    match sylOp w with
    | 0x20 => decide (sylAgSub w < 8) && (decide (sylAgSub w < 4) || decide (sylAgSub w % 4 < 2))
    | 0x21 => decide (sylAgSub w < 4)
    | 0x28 | 0x29 => decide (sylAgSub w ≤ 4)
    | _ => decide (sylAgSub w = 0)
  | _ => true

/-- An X syllable (R191). -/
def isX (w : Word) : Bool := decide (sylClass w = 5)

/-- An emulated syllable (R194). -/
def emulated (w : Word) : Bool := !isX w && ((format (sylClass w) (sylOp w)).isNone || !subListed w)

/-- The sub-cause of EMULATE for a syllable (R217). -/
def emulateSub (w : Word) : Nat :=
  if 6 ≤ sylClass w then 2 else if (format (sylClass w) (sylOp w)).isNone then 0 else 1

/-- The syllable may be followed by an X (R194, R195). -/
def takesX (w : Word) : Bool :=
  emulated w || (!isX w && (match format (sylClass w) (sylOp w) with
    | some .rri | some .ri | some .bi => true
    | _ => false))

/-! ### Operand values (R193) -/

/-- The immediate of RRI, sign- or zero-extended, or its extended value. -/
def immRRI (w : Word) (x : Option (BitVec 28)) (sext : Bool) : Word :=
  let imm := w.extractLsb' 0 10
  match x with
  | some v => (v ++ imm).setWidth 32
  | none => if sext then imm.signExtend 32 else imm.setWidth 32

/-- The immediate of RI, by the same rule. -/
def immRI (w : Word) (x : Option (BitVec 28)) (sext : Bool) : Word :=
  let imm := w.extractLsb' 0 16
  match x with
  | some v => (v ++ imm).setWidth 32
  | none => if sext then imm.signExtend 32 else imm.setWidth 32

/-- The image address of a BI operand, as R10 lays it out (R192, R193). -/
def immBI (w : Word) (x : Option (BitVec 28)) : Nat :=
  let index : BitVec 12 := w.extractLsb' 0 12
  let i : Nat := match x with
    | some v => ((v ++ index).setWidth 28).toNat
    | none => index.toNat
  2 ^ 28 * (w.extractLsb' 12 4).toNat + i

/-! ### Registers named (R188, R195) -/

/-- The two registers of a pair. -/
def pairRegs (r : Nat) : List Nat := [r, (r + 1) % 64]

/-- The registers that a syllable writes (R195 rule 5). -/
def writesRegs (w : Word) : List Nat :=
  if emulated w || isX w then []
  else
    let d := sylGd w
    match sylClass w with
    | 0 => if sylOp w = 0x21 then [] else [d]
    | 1 => if sylOp w = 0x24 ∨ sylOp w = 0x25 then pairRegs d else [d]
    | 2 =>
      match sylOp w with
      | 0x03 | 0x05 | 0x23 | 0x24 => pairRegs d
      | 0x20 => if sylAgSub w % 4 = 3 then pairRegs d else [d]
      | 0x21 | 0x28 => []
      | _ => [d]
    | 3 =>
      match sylOp w with
      | 0x05 | 0x11 | 0x25 | 0x2B | 0x38 => pairRegs d
      | 0x08 | 0x09 | 0x0A | 0x0B | 0x12 | 0x13 | 0x1A | 0x1D | 0x28 | 0x2A => []
      | _ => [d]
    | _ => if sylOp w = 0x02 ∨ sylOp w = 0x0A then [d] else []

/-- The registers that a syllable names in 64-bit positions (R188, R195 rule 6). -/
def pairPositions (w : Word) : List Nat :=
  if emulated w || isX w then []
  else match sylClass w, sylOp w with
    | 1, 0x24 | 1, 0x25 => [sylGd w, sylGa w, sylGb w]
    | 1, 0x26 | 1, 0x27 => [sylGa w, sylGb w]
    | 2, 0x03 | 2, 0x05 => [sylGd w]
    | 2, 0x20 | 2, 0x21 => if sylAgSub w % 4 = 3 then [sylGd w] else []
    | 2, 0x23 | 2, 0x24 => [sylGd w, sylGa w]
    | 3, 0x05 | 3, 0x0B | 3, 0x11 | 3, 0x13 | 3, 0x25 | 3, 0x2A | 3, 0x2B | 3, 0x38 => [sylGd w]
    | _, _ => []

/-! ### Well-formed bundles (R195) -/

/-- Rule 1: the first syllable, neither X nor emulated, that is out of order or over its class count. -/
def breaks1 : List Word → Nat → Nat → Nat → Option Nat
  | [], _, _, _ => none
  | w :: r, i, last, n =>
    if isX w || emulated w then breaks1 r (i + 1) last n
    else
      let c := sylClass w
      if c < last then some i
      else if c = last then
        if n < (if c = 0 then 2 else 1) then breaks1 r (i + 1) c (n + 1) else some i
      else breaks1 r (i + 1) c 1

/-- Rule 2: the first X without a proper predecessor, or the third X. -/
def breaks2 : List Word → Nat → Bool → Nat → Option Nat
  | [], _, _, _ => none
  | w :: r, i, ok, n =>
    if isX w then (if ok && decide (n < 2) then breaks2 r (i + 1) false (n + 1) else some i)
    else breaks2 r (i + 1) (takesX w) n

/-- Rule 4: the first X whose unused bits are not zero (R193). -/
def breaks4 : List Word → Nat → Option Nat
  | w :: x :: r, i =>
    let high : Nat := if !isX x || emulated w || isX w then 0
      else match format (sylClass w) (sylOp w) with
        | some .rri => (sylX x).toNat / 2 ^ 22
        | some .ri | some .bi => (sylX x).toNat / 2 ^ 16
        | _ => 0
    if high ≠ 0 then some (i + 1) else breaks4 (x :: r) (i + 1)
  | _, _ => none

/-- Rule 5: the first syllable that writes a register, g0 apart, which an earlier one writes. -/
def breaks5 : List Word → Nat → List Nat → Option Nat
  | [], _, _ => none
  | w :: r, i, seen =>
    let ws := (writesRegs w).filter fun g => g ≠ 0
    if ws.any fun g => seen.contains g then some i else breaks5 r (i + 1) (seen ++ ws)

/-- Rule 6: the first syllable that names an odd register in a 64-bit position. -/
def breaks6 (ws : List Word) : Option Nat := ws.findIdx? fun w => (pairPositions w).any fun g => g % 2 = 1

/-- Rule 7: the first syllable that is neither the first emulated syllable nor its X. -/
def breaks7 (ws : List Word) : Option Nat :=
  match ws.findIdx? emulated with
  | none => none
  | some k => (List.range ws.length).find? fun i => !(i = k || (i = k + 1 && isX (ws.getD i 0#32)))

/-- The first rule of R195 that the syllables of a bundle break, with the slot at which it is found; `cut` says that the
window's end cut the bundle. -/
def breaksRule (ws : List Word) (cut : Bool) : Option (Nat × Nat) :=
  match breaks1 ws 0 0 0 with
  | some i => some (1, i)
  | none => match breaks2 ws 0 false 0 with
  | some i => some (2, i)
  | none =>
    if !cut && decide (ws.length = 8) && !(ws.any sylStop) then some (3, 7)
    else match breaks4 ws 0 with
  | some i => some (4, i)
  | none => match breaks5 ws 0 [] with
  | some i => some (5, i)
  | none => match breaks6 ws with
  | some i => some (6, i)
  | none => match breaks7 ws with
  | some i => some (7, i)
  | none => if cut then some (8, ws.length - 1) else none

/-- The X of the syllable at a slot. -/
def xAt (ws : List Word) (i : Nat) : Option Word :=
  match ws[i]?, ws[i + 1]? with
  | some w, some x => if isX x && !isX w then some x else none
  | _, _ => none

end Sys2Proof.Machine
end

