-- ==== Sys2Proof/Program.lean ====
section
/-! DEFINITION. What a program image, an epoch, a station block and an update carry, as plain data (R140-R158, R255,
R260, R274, R282, R297, R334, R335, R349, R353, R385, R444, R453-R465, R537). -/

namespace Sys2Proof

/-- A half-open range of image addresses or data addresses (declarations and masks, R152, R158). -/
structure Range where
  lo : Nat := 0
  hi : Nat := 0
deriving DecidableEq, Repr, Inhabited

/-- One stripe of a task: where it runs, its entry, its masks and spill areas (R157, R158, R212). -/
structure Stripe where
  /-- logical region 0-3 -/
  region : Nat := 0
  /-- engine within the region 0-3 -/
  slot : Nat := 0
  phase : Nat := 0
  entry : Word := 0#32
  wImg : List Range := []
  wData : List Range := []
  rImg : List Range := []
  rData : List Range := []
  dataSpill : Nat := 0
  dataSpillLen : Nat := 0
  retSpill : Nat := 0
  retSpillLen : Nat := 0
deriving DecidableEq, Repr, Inhabited

/-- A barrier of a task: its number, the phase it ends, the engines taking part (R157). -/
structure BarrierDecl where
  n : Nat := 0
  phase : Nat := 0
  /-- engines as 4 × logical region + slot -/
  engines : List Nat := []
deriving DecidableEq, Repr, Inhabited

/-- A task of the program image in one partition (R147, R152, R155, R163, R49). -/
structure TaskDecl where
  num : Nat := 0
  inputs : List Range := []
  outputs : List Range := []
  stripes : List Stripe := []
  barriers : List BarrierDecl := []
  periodUs : Nat := 0
  phaseUs : Nat := 0
  baseMaxUs : Nat := 0
  /-- bound event source of an event task -/
  source : Nat := 0
  edge : Nat := 0
  /-- worst case per profile 0-2, µs -/
  worstUs : List Nat := []
  /-- what a division by zero gives where the library's handler answers it; none: 0 for a quotient, the dividend for a
  remainder (R230) -/
  divValue : Option Word := none
deriving DecidableEq, Repr, Inhabited

/-- A run of bytes in a logical region: a task's code or initial instance data; none for a root or the system library. -/
structure Run where
  task : Option Nat := none
  region : Nat := 0
  addr : Nat := 0
  bytes : Bytes := []
deriving DecidableEq, Repr, Inhabited

/-- An instance of a task: where its words stand, and a name of their layout (R166, R271, R272). -/
structure InstDecl where
  task : Nat := 0
  region : Nat := 0
  addr : Nat := 0
  words : Nat := 0
  layout : Word := 0#32
deriving DecidableEq, Repr, Inhabited

/-- One partition of a program image (R22, R26, R48). -/
structure Partition where
  /-- checking mode per logical region: bit n is 1 for PAIRED -/
  paired : BitVec 4 := 0#4
  tasks : List TaskDecl := []
  /-- code: the stripes of the tasks, the roots, the system library -/
  code : List Run := []
  /-- address of the root block in each logical region; its vector table stands first (R275) -/
  roots : List Nat := []
  instances : List InstDecl := []
  /-- initial instance data -/
  dataInit : List Run := []
  /-- Tally slots T02-T31: slot to 256 × task + logical engine + 1, 0 when no one holds it (R478, R483) -/
  tally : Tbl Nat := []
deriving DecidableEq, Repr, Inhabited

/-- A reflex rule record (R255). -/
structure Rule where
  inp : List Nat := []
  inv : Half := 0#16
  group : Byte := 0#8
  final : Byte := 0#8
  terms : List Half := []
  target : Nat := 0xFFF
  enabled : Bool := false
  early : Bool := false
  onDelayUs : Nat := 0
  offDelayUs : Nat := 0
deriving DecidableEq, Repr, Inhabited

/-- The channel configuration record (R297). -/
structure ChanCfg where
  function : Nat := 0
  mode : Byte := 0#8
  nominal : Nat := 0
  thrPct : Nat := 50
  hystPct : Nat := 5
  iWet : Nat := 4
  filterUs : Nat := 3000
  cntFilter : Nat := 20
  cntEdge : Nat := 0
  pulseMs : Nat := 100
  safMs : Nat := 50
  discMs : Nat := 5000
  offsetMv : Nat := 0
deriving DecidableEq, Repr, Inhabited

/-- The channel ownership entry (R260): the 32-bit word. -/
abbrev OwnerEntry := BitVec 32

/-- A select-before-operate slot record (R335). -/
structure SboSlot where
  selectKey : Nat := 0xFF
  execKey : Nat := 0xFF
  cancelKey : Nat := 0xFF
  localOnly : Bool := false
  selWindowMs : Nat := 30000
  execWindowMs : Nat := 2000
deriving DecidableEq, Repr, Inhabited

/-- A GOOSE map entry, for a subscription (R349) or a publication (R353). -/
structure MapEntry where
  ref : Nat := 0
  member : Nat := 0
  qmember : Nat := 0xFF
  type : Nat := 0
  point : Nat := 0
deriving DecidableEq, Repr, Inhabited

/-- What a program-defined source EV096-EV127 is bound to (R106). -/
inductive EvBind where
  | none
  | flag (rf : Nat) (edge : Nat)
  | goose (sub : Nat)
  | sv (stream : Nat)
  | station (n : Nat)
deriving DecidableEq, Repr, Inhabited

/-- A table declaration: base in the table window, length, contents (R444). -/
structure TableDecl where
  base : Nat := 0
  len : Nat := 0
  data : Bytes := []
deriving DecidableEq, Repr, Inhabited

/-- The ring buffers of an SV stream in the data window of its task's region (R358): place, length in bytes, and the place of
the write index. -/
structure SvBuf where
  region : Nat := 0
  base : Nat := 0
  len : Nat := 0
  index : Nat := 0
deriving DecidableEq, Repr, Inhabited

/-- A dual-contact entry (R462). -/
structure DualDecl where
  chA : Nat := 0
  chB : Nat := 0
  antivalent : Bool := false
  safe : Bool := false
  discMs : Nat := 100
deriving DecidableEq, Repr, Inhabited

/-- An MSL connection entry (R465), with the place of its block instance (R473). -/
structure ConnDecl where
  dir : Nat := 0
  medium : Nat := 0
  ref : Nat := 0
  member : Nat := 0
  word : Nat := 0
  len : Nat := 0
  task : Nat := 0
  identity : Word := 0#32
  timeExpMs : Nat := 5
  refreshMs : Nat := 1
  manual : Bool := false
  /-- image address of the point that the program gives the block as ACK, 0 for none -/
  ack : Nat := 0
deriving DecidableEq, Repr, Inhabited

/-- The safety parameter block (R453-R455): its bytes, over which the check value runs, and what they say. -/
structure Spb where
  bytes : Bytes := []
  magic : Nat := 0x42535053
  version : Nat := 1
  taskMask : Dword := 0#64
  codeHash : Bytes := []
  channelMask : Dword := 0#64
  stationMask : Dword := 0#64
  tableMask : BitVec 256 := 0#256
  duals : List DualDecl := []
  conns : List ConnDecl := []
  /-- image addresses of the release QX bits (R454) -/
  releases : List Nat := []
deriving DecidableEq, Repr, Inhabited

/-- A station configuration block as carried by the image (R372, R385). -/
structure StationBlock where
  bytes : Bytes := []
  enable : Bool := false
  sync : Bool := false
  inBits : Nat := 0
  inWords : Nat := 0
  outBits : Nat := 0
  outWords : Nat := 0
  evtMax : Nat := 0
  /-- 2-bit substitute mode per point 0-639, default HOLD (R383) -/
  substMode : Tbl Nat := []
  substValue : Tbl Word := []
  /-- channel and rule records, 32 and 64 bytes each (R255, R297), and what they say -/
  chanRecs : Tbl Bytes := []
  ruleRecs : Tbl Bytes := []
  chanCfg : Tbl ChanCfg := []
  owner : Tbl OwnerEntry := []
  rules : Tbl Rule := []
  leds : Tbl Half := []
  /-- RF flags that the controller writes -/
  rfController : BitVec 256 := 0#256
deriving DecidableEq, Repr, Inhabited

/-- A migration entry of an epoch (R282). -/
structure Migration where
  /-- number of the epoch that carries it -/
  epoch : Nat := 0
  task : Nat := 0
  op : Nat := 0
  srcRegion : Nat := 0
  dstRegion : Nat := 0
  len : Nat := 0
  src : Nat := 0
  dst : Nat := 0
  value : Word := 0#32
  /-- 4 for an entry of the 4-region partition, 3 for the other -/
  part : Nat := 4
deriving DecidableEq, Repr, Inhabited

/-- Where a run of instance words of the 4-region partition stands in the 3-region partition (R22, R174). -/
structure InstMove where
  task : Nat := 0
  region4 : Nat := 0
  addr4 : Nat := 0
  region3 : Nat := 0
  addr3 : Nat := 0
  words : Nat := 0
deriving DecidableEq, Repr, Inhabited

/-- A program image (or the program in force), as the chapters describe its parts. -/
structure Prog where
  imageId : Word := 0#32
  /-- bytes that the image and the epochs applied take of the program store (R276) -/
  len : Nat := 0
  signed : Bool := false
  part4 : Partition := {}
  part3 : Partition := {}
  has4 : Bool := true
  has3 : Bool := true
  /-- retentive MX ranges, in whole words, as image addresses (R140) -/
  mxRetentive : List Range := []
  /-- retentive instance ranges per logical region of the 4-region partition (R166) -/
  instRetentive : List (Nat × Range) := []
  retentiveBytes : Nat := 0
  /-- places of the instance words in the 3-region partition (R174) -/
  instMap : List InstMove := []
  /-- initial values by image address (R173) -/
  init : Tbl Word := []
  /-- rule records of 64 bytes, channel records of 32, slot records of 16 and map entries of 8, and what they say (R255, R297,
  R335, R349, R353) -/
  ruleRecs : Tbl Bytes := []
  chanRecs : Tbl Bytes := []
  sboRecs : Tbl Bytes := []
  mapsIn : List Bytes := []
  mapsOut : List Bytes := []
  rules : Tbl Rule := []
  tiMap : Tbl Half := []
  owner : Tbl OwnerEntry := []
  chanCfg : Tbl ChanCfg := []
  leds : Tbl Half := []
  sbo : Tbl SboSlot := []
  gooseIn : List MapEntry := []
  gooseOut : List MapEntry := []
  /-- bound task and largest samples per cycle of each SV stream (R171, R363): value = 1024 × task + spc, 0 unbound -/
  sv : Tbl Nat := []
  /-- ring buffers of each SV stream (R358) -/
  svBuf : Tbl SvBuf := []
  evBind : Tbl EvBind := []
  tables : Tbl TableDecl := []
  /-- the safety parameter block, empty for none, the image address of the point that the program gives the block of each
  connection as ACK, and what the block says (R453, R469) -/
  spbBytes : Bytes := []
  acks : Tbl Nat := []
  spb : Option Spb := none
  stations : Tbl StationBlock := []
  ringTopology : Nat := 2
  ringUnits : Nat := 8
  ringLoss : Nat := 3
  ringId : Word := 0#32
  tallyPeriodUs : Nat := 100000
  tallyClk : Nat := 0
  checkinUs : Nat := 0
  sliceMs : Nat := 100
  /-- address of the system library's EMULATE dispatcher, 0 when the image has none (R219, R250) -/
  sysLibVec : Word := 0#32
  /-- address of the system library's DIV_ZERO handler, 0 when the image has none (R219, R230) -/
  sysLibDiv : Word := 0#32
deriving DecidableEq, Repr, Inhabited

/-- What an epoch's payload says beside its descriptor: the parts of a program, and the migration entries of 16 bytes, each
with its partition, 4 or 3 (R271, R282). -/
structure EpochImage where
  prog : Prog := {}
  migs : List (Nat × Bytes) := []
deriving DecidableEq, Repr, Inhabited

/-- An epoch (R271-R274, R282): what its descriptor says, the program in force with the epoch applied, its migrations. -/
structure Epoch where
  taskMask : Dword := 0#64
  /-- it changes a function marked safety -/
  safety : Bool := false
  code4 : List Nat := []
  code3 : List Nat := []
  result : Prog := {}
  migrations : List Migration := []
deriving DecidableEq, Repr, Inhabited

/-- What the program store keeps of an applied epoch, by which older instance layouts are migrated (R283, R284, R288). -/
structure EpochRec where
  num : Nat := 0
  taskMask : Dword := 0#64
  migrations : List Migration := []
  /-- instances of the two partitions under the epoch, with their initial values -/
  inst4 : List InstDecl := []
  inst3 : List InstDecl := []
  init4 : List Run := []
  init3 : List Run := []
  /-- of the program that it replaced: initial values of the 4-region partition, and the places of R174 -/
  oldInit4 : List Run := []
  oldMap : List InstMove := []
deriving DecidableEq, Repr, Inhabited

/-- A part of an update (R537). -/
structure UpdPart where
  kind : Nat := 0
  dies : BitVec 4 := 0#4
  version : Word := 0#32
  offset : Nat := 0
  length : Nat := 0
  phash : Bytes := []
deriving DecidableEq, Repr, Inhabited

end Sys2Proof
end

