-- ==== Sys2Proof/Config.lean ====
section
/-! DEFINITION. What the spec leaves to the implementation or leaves open: opaque constants without a body, so that
nothing in Lean can evaluate them (log entries 4 and 5). -/

namespace Sys2Proof.Config

/-- A value the spec leaves open, drawn by the counter `eng.fresh` (log entry 5). -/
opaque free : Nat → BitVec 32

/-- The program image that a container payload carries; the spec states what an image says, not its layout (log entry 4). -/
opaque imageOf : List (BitVec 8) → Prog

/-- What the payload of an epoch container says for the program in force; the spec states what it holds, not how it is laid out
(log entry 4). -/
opaque epochOf : Prog → List (BitVec 8) → EpochImage

/-- The code, barrier lists, masks and declarations of every safety task in both partitions, in the order in which CODE_HASH runs
over them; the spec does not lay them out (R453, log entry 4). -/
opaque safetyCode : Prog → List (BitVec 8)

/-- The station configuration block that its bytes spell (log entry 4). -/
opaque stationBlockOf : List (BitVec 8) → StationBlock

/-- The bytes of the station configuration block that a controller derives from the values in force (log entry 4). -/
opaque stationBlockBytes : StationBlock → List (BitVec 8)

/-- The delay in ns of the n-th link of the ring, counted from port RING0, as the nodes at its ends have measured it
(R375, R377, log entry 19). -/
opaque linkDelay : Nat → Nat

/-- A result word of a sampled-value stream as the system library's kernels compute it: FREQ, RMS, PHASOR, P, Q, S, PF or HARM.
The spec says what each word means and states no rounding or order of operations. Arguments: nominal frequency in Hz, the
values of the eight channels over the previous and over the last nominal cycle, newest first and empty for a missing sample,
and the word number of R172 (R171, R172, log entry 25). -/
opaque svResult : Nat → List (List Int) → List (List Int) → Nat → BitVec 32

/-- The device identity public key of the module, fused; 96 bytes (R500, log entry 6). -/
opaque identityKey : List (BitVec 8)

/-- The identity signature over a message; 96 bytes (R500, R506, log entry 6). -/
opaque identitySign : List (BitVec 8) → List (BitVec 8)

/-- The public key held in ROM that checks firmware signatures; 96 bytes (R501, log entry 6). -/
opaque vendorKey : List (BitVec 8)

/-- The `n`-th nonce drawn; 32 bytes (R506, log entry 6). -/
opaque nonce : Nat → List (BitVec 8)

/-- The device certificate of the module; 96 bytes (R508, log entry 6). -/
opaque deviceCert : List (BitVec 8)

/-- The MAC of IEC 62351-6 over the covered bytes: algorithm, key, bytes (R356, log entry 6). -/
opaque mac : Nat → List (BitVec 8) → List (BitVec 8) → List (BitVec 8)

end Sys2Proof.Config
end

