-- ==== Sys2Proof/Machine/Crc.lean ====
section
/-! DEFINITION. Cyclic redundancy codes in reflected form, and CRC-32C (R366). -/

namespace Sys2Proof

/-- One bit of a reflected CRC with the reflected polynomial `poly`. -/
def crcBit (poly c : Word) : Word := if c.getLsbD 0 then (c >>> 1) ^^^ poly else c >>> 1

/-- `n` bits. -/
def crcBits (poly : Word) : Nat → Word → Word
  | 0, c => c
  | n + 1, c => crcBits poly n (crcBit poly c)

/-- A byte string through a reflected CRC. -/
def crcFold (poly : Word) (c : Word) (bs : Bytes) : Word :=
  bs.foldl (fun c b => crcBits poly 8 (c ^^^ b.setWidth 32)) c

/-- CRC-32C: polynomial 0x1EDC_6F41 reflected, initial value and final XOR 0xFFFF_FFFF (R366). -/
def crc32c (bs : Bytes) : Word := crcFold 0x82F63B78#32 0xFFFFFFFF#32 bs ^^^ 0xFFFFFFFF#32

/-- The PCRC of a mailbox payload: 0 for an empty one (R561). -/
def pcrc (bs : Bytes) : Word := if bs = [] then 0#32 else crc32c bs

end Sys2Proof
end

