-- ==== Sys2Proof/Machine/State.lean ====
section
/-! DEFINITION. The state of the module as plain data, the reasons a step can stop, and the state at reset.
Each field's docstring reads: meaning; width; rule; reset value. "choice" marks a reset value that the spec does not
state (log entry 3); "model" marks a field of the model's own. -/

namespace Sys2Proof.Machine

/-- Reasons for a fault. -/
inductive Fault where
  /-- VIN, VRTC or a field supply is driven beyond the absolute maximum ratings of R58, beyond which the spec states no
  behaviour ("can destroy the module"). Raised by VIN_GOOD, VIN_FALL, VRTC_APPLIED,
  VFLD_LOW and VFLD_RESTORE. Safe. -/
  | overstress
deriving DecidableEq, Repr

/-- Reasons for a refusal. -/
inductive Refusal where
  /-- The command has no meaning in this model yet. Raised by the arms of `exec` alone. Safe. -/
  | notModelled (mnemonic : String)
deriving DecidableEq, Repr

/-- What every meaning answers. -/
abbrev Result (σ : Type) := Host.Outcome σ Fault Refusal

/-- Power states (R64). -/
inductive PState where
  | run | slumber | holdup | backup | off
deriving DecidableEq, Repr, Inhabited

/-- Service levels: STATE[1:0] of R556, with RETIRED_HOLD (R529) and the reset hold of R523 apart. -/
inductive Service where
  | booting | early | full | recovery | retiredHold | resetHeld
deriving DecidableEq, Repr, Inhabited

/-- Causes of a wake (R69, R80). -/
inductive WakeCause where
  | none | event (src : Nat) | alarm | wakeN | host | usbPlug | debug
deriving DecidableEq, Repr, Inhabited

/-- Roles, in the code of SYS_INFO (R78, R390). -/
inductive Role where
  | solo | keeper | apprentice | station
deriving DecidableEq, Repr, Inhabited

/-- Lifecycle states, in the code of SYS_INFO (R495). -/
inductive Lifecycle where
  | blank | commission | sealed | locked | retired
deriving DecidableEq, Repr, Inhabited

/-- Kinds of restart (R83, R485, R540, R523, R37). -/
inductive Restart where
  | power | holdup | warm | cold | recovery | resetN | trip | update | moduleFailure
deriving DecidableEq, Repr, Inhabited

/-- Supplies, holdup controller, power state and start-up. -/
structure Power where
  /-- power state; one of 5; R64; reset OFF -/
  state : PState := .off
  /-- service level, STATE[1:0]; 2 bits; R526, R556; reset 0 booting -/
  service : Service := .booting
  /-- VIN in mV; 16 bits; R80; reset choice 0 -/
  vinMv : Nat := 0
  /-- instant VIN crossed below 16.0 V, while the qualification runs; 64 bits; R71; reset none -/
  vinLowAt : Option Nat := none
  /-- VIN is good: set at 17.0 V rising, cleared below 16.0 V; 1 bit; R60; reset choice 0 -/
  vinOk : Bool := false
  /-- the HOLDUP in progress was entered from SLUMBER; 1 bit; R71; reset choice 0 -/
  holdupSlumber : Bool := false
  /-- VHOLD in mV; 16 bits; R62, R80; reset choice 0 -/
  vholdMv : Nat := 0
  /-- VRTC in mV; 16 bits; R80; reset choice 0 -/
  vrtcMv : Nat := 0
  /-- the always-on rail is fed from VAON_IN; 1 bit; R118; reset choice 0 -/
  vaonIn : Bool := false
  /-- the always-on rail stands at 1.6 V or more; 1 bit; R64, R120; reset choice 0 -/
  vaonGood : Bool := false
  /-- VIO_SEL as read at power-up, 1 for 3.3 V; 1 bit; R59; reset choice 0 -/
  vio33 : Bool := false
  /-- HOST_SEL as sampled, 1 for QSPI; 1 bit; R53, R550; reset choice 0 -/
  hostQspi : Bool := false
  /-- RESET_N is low; 1 bit; R523; reset choice 0 -/
  resetLow : Bool := false
  /-- PWR_GOOD is high; 1 bit; R71, R522; reset 0 -/
  pwrGood : Bool := false
  /-- HOLDUP_N is low; 1 bit; R71; reset choice 0 -/
  holdupN : Bool := false
  /-- charge target in V; 8 bits; R62, R82; reset 34 -/
  vholdSet : Nat := 34
  /-- charge current in mA; 16 bits; R62, R82; reset 200 -/
  chargeMa : Nat := 200
  /-- nominal capacitance in µF; 16 bits; R82; reset 470 -/
  cBoardUf : Nat := 470
  /-- a SYS_HOLDUP_CFG has been applied, so the BCR no longer supplies the three values; 1 bit; R62; reset 0 -/
  holdupCfgSet : Bool := false
  /-- the charger runs; 1 bit; R62; reset 0 -/
  charging : Bool := false
  /-- capacitance as last measured in µF, none before the first measurement; 16 bits; R63, R80; reset none -/
  cMeasuredUf : Option Nat := none
  /-- HOLDUP_RESERVE_LOW; 1 bit; R63; reset choice 0 -/
  reserveLow : Bool := false
  /-- run profile; 2 bits; R46, R79; reset 1 BALANCED -/
  profile : Nat := 1
  /-- task release is held while PLL_SYS settles; 1 bit; R85; reset 0 -/
  releaseHold : Bool := false
  /-- instant the hold began, as MONO; 64 bits; R85; reset choice 0 -/
  holdSince : Nat := 0
  /-- periodic releases delayed to the end of the hold, task numbers; list; R85; reset empty -/
  heldReleases : List Nat := []
  /-- SYS_SLUMBER accepted and waiting for the BASE boundary; 1 bit; R68; reset 0 -/
  slumberReq : Bool := false
  /-- steps of R68 that a SLUMBER entry had done when VIN dropped; 0-4; R70; reset 0 -/
  slumberStep : Nat := 0
  /-- WAKE_EV event sources; 128 bits; R81; reset 0 -/
  wakeEv : BitVec 128 := 0#128
  /-- ALARM_TAI in ns, 0 for none; 64 bits; R81; reset 0 -/
  alarmTai : Nat := 0
  /-- WAKE_FLAGS; 8 bits; R81; reset 0x07 -/
  wakeFlags : Byte := 0x07#8
  /-- a wake that arrived during SLUMBER entry; one of 7; R70; reset none -/
  keptWake : WakeCause := .none
  /-- cause of the last wake; 16 bits as LAST_WAKE; R69, R80; reset 0 none -/
  lastWake : WakeCause := .none
  /-- instant of SLUMBER entry; 64 bits; R112, R113; reset choice 0 -/
  slumberAt : Nat := 0
  /-- a wake has come and the clocks are starting, so BASE has still to start; 1 bit; R65, R68; reset 0 -/
  waking : Bool := false
  /-- die temperatures in °C, keys 0-6 in the order of SYS_STATE_GET; 8 bits each; R80; reset choice 0 -/
  temps : Tbl Int := []
  /-- THERMAL_WARN; 1 bit; R76; reset choice 0 -/
  thermalWarn : Bool := false
  /-- physical regions retired; 4 bits; R23; reset 0 -/
  retired : BitVec 4 := 0#4
  /-- the 3-region partition is in use; 1 bit; R22; reset 0 -/
  threeRegion : Bool := false
  /-- a retirement in RUN waits for its resume; 1 bit; R44; reset 0 -/
  remapPending : Bool := false
  /-- instant of that retirement; 64 bits; R44; reset choice 0 -/
  remapAt : Nat := 0
  /-- a restart waits for START_UP; one of 9; R83, R522; reset none -/
  restart : Option Restart := none
  /-- a KEEPER that Tally has tripped sends its cleared claim until this instant; 64 bits; R485; reset none -/
  tripUntil : Option Nat := none
  /-- a SYS_RESTART of a KEEPER waits for the takeover; one of 9; R83; reset none -/
  restartAfterTakeover : Option Restart := none
  /-- the start-up table has run and full service may begin; 1 bit; R527; reset 0 -/
  startReady : Bool := false
  /-- the start leaves the program STOPPED, as TALLY_STORM lays down; 1 bit; R486; reset 0 -/
  startStopped : Bool := false
  /-- kind of the last start; one of 9; R173; reset power -/
  lastStart : Restart := .power
  /-- start of the boot; 64 bits; R522; reset choice 0 -/
  bootAt : Nat := 0
  /-- RECOVERY_N was low at step 2 and a gesture may still enter recovery; 1 bit; R528; reset 0 -/
  recoveryWait : Bool := false
  /-- a module-level failure has been handled and nothing is published; 1 bit; R37; reset 0 -/
  failed : Bool := false
  /-- a disqualifying fault stands; 1 bit; R43, R406; reset 0 -/
  disqualified : Bool := false
  /-- an APPRENTICE or KEEPER abdicated; 1 bit; R408; reset 0 -/
  abdicated : Bool := false
deriving DecidableEq, Repr, Inhabited

/-- The board configuration record in use (R87, R524). -/
structure Bcr where
  /-- the record answered and passed its checks; 1 bit; R525; reset choice 0 -/
  valid : Bool := false
  /-- BCR_CRC; 32 bits; R78, R525; reset 0 -/
  crc : Word := 0#32
  /-- XM_START in 0.5 ms; 8 bits; R87; reset 8 -/
  xmStart : Nat := 8
  /-- XS_START in 100 ms; 8 bits; R87; reset 10 -/
  xsStart : Nat := 10
  /-- RBUS_DIV; 8 bits; R87; reset 1 -/
  rbusDiv : Nat := 1
  /-- PBUS_DIV; 8 bits; R87; reset 16 -/
  pbusDiv : Nat := 16
  /-- XM_CL in pF; 8 bits; R87; reset 12 -/
  xmCl : Nat := 12
  /-- XS_CL in pF; 8 bits; R87; reset 7 -/
  xsCl : Nat := 7
  /-- ROLE, 1 for a station; 8 bits; R384, R524; reset 0 -/
  role : Nat := 0
  /-- STATION_NO; 8 bits; R384, R524; reset 1 -/
  stationNo : Nat := 1
  /-- RECOVERY_PORTS; 8 bits; R524; reset 0x03 -/
  recoveryPorts : Byte := 0x03#8
  /-- PRES_KEY_A; 8 bits; R338, R524; reset 56 -/
  presKeyA : Nat := 56
  /-- PRES_KEY_B; 8 bits; R338, R524; reset 63 -/
  presKeyB : Nat := 63
  /-- BACKUP_MODE; 8 bits; R524; reset 0 -/
  backupMode : Nat := 0
deriving DecidableEq, Repr, Inhabited

/-- Clock sources and switching. -/
structure Clocks where
  /-- READY flags in the bit order of CLK_STATUS; 6 bits; R89, R114; reset 0 -/
  ready : BitVec 6 := 0#6
  /-- FAIL: monitor trips since the last CLK_STATUS; 6 bits; R114; reset 0 -/
  fail : BitVec 6 := 0#6
  /-- SYS_REF is RC_FAST; 1 bit; R90, R114; reset 0 XM -/
  sysRefRc : Bool := false
  /-- SLOW is RC_SLOW; 1 bit; R90, R114; reset choice 1, as the always-on domain counts on RC_SLOW until XS is READY -/
  slowRc : Bool := true
  /-- a pending switch: domain (0 SYS_REF, 1 SLOW), target (0 crystal, 1 RC), work id; R91, R115; reset none -/
  switch : Option (Nat × Nat) := none
  /-- XM_FAIL; 1 bit; R94, R117; reset 0 -/
  xmFail : Bool := false
  /-- XS_FAIL; 1 bit; R94, R117; reset 0 -/
  xsFail : Bool := false
  /-- SLOW has switched to XS once since power-up; 1 bit; R92; reset 0 -/
  xsWasReady : Bool := false
  /-- a monitor has switched SLOW or SYS_REF, so no automatic switch back; 1 bit; R92; reset 0 -/
  monitorSwitched : Bool := false
  /-- monitors that depend on RC_FAST are disabled; 1 bit; R94; reset 0 -/
  monitorsOff : Bool := false
  /-- PLL_NET has used its single restart; 1 bit; R94; reset 0 -/
  pllNetRestarted : Bool := false
  /-- instant PLL_NET was restarted, while the restart runs; 64 bits; R94; reset none -/
  pllNetAt : Option Nat := none
  /-- links that were up when PLL_NET stopped: NET0, NET1, RING0, RING1, PAIR0, PAIR1; 6 bits; R94; reset 0 -/
  pllNetLinks : BitVec 6 := 0#6
  /-- the PMU holds the module in reset for RC_FAST out of tolerance at start-up; 1 bit; R94; reset 0 -/
  rcHold : Bool := false
  /-- instant each source was enabled, or a PLL began to lock, keys in the bit order of CLK_STATUS; 64 bits each; R89, R93;
  reset choice 0 -/
  since : Tbl Nat := []
deriving DecidableEq, Repr, Inhabited

/-- A PTP master as its last Announce message describes it (R100): the dataset of the best master selection, and the time
properties that the module takes from the one selected. -/
structure PtpMaster where
  priority1 : Nat := 0
  clockClass : Nat := 0
  accuracy : Nat := 0
  variance : Nat := 0
  priority2 : Nat := 0
  gm : Dword := 0#64
  steps : Nat := 0
  utcOffset : Option Int := none
  leap61 : Bool := false
  leap59 : Bool := false
  /-- instant of that message -/
  last : Nat := 0
deriving DecidableEq, Repr, Inhabited

/-- One time source's acquisition (R99): sources 1 PTP, 2 IRIG-B, 3 1PPS. -/
structure TimeSrc where
  /-- consecutive offsets within ±250 ns; 4 bits; R99; reset 0 -/
  good : Nat := 0
  /-- consecutive offsets beyond ±10 µs; 2 bits; R99; reset 0 -/
  bad : Nat := 0
  /-- LOCKED; 1 bit; R99; reset 0 -/
  locked : Bool := false
  /-- instant of the last valid measurement; 64 bits; R99; reset choice 0 -/
  last : Nat := 0
deriving DecidableEq, Repr, Inhabited

/-- The timebase, its sources and their configuration. -/
structure Timebase where
  /-- MONO in ns; 64 bits; R97; reset 0 -/
  mono : Nat := 0
  /-- TAI in ns; 64 bits; R97; reset choice 0 -/
  tai : Nat := 0
  /-- the counts advance; 1 bit; R97, R113; reset 0 -/
  running : Bool := false
  /-- TAI has been loaded from the calendar since the start; 1 bit; R97; reset 0 -/
  taiLoaded : Bool := false
  /-- TIME_LOST; 1 bit; R120; reset 1, the first power-up latches it -/
  timeLost : Bool := true
  /-- time source states, keys 1-3; R99; reset none locked -/
  src : Tbl TimeSrc := []
  /-- ACTIVE source: 0 none, 1 PTP, 2 IRIG-B, 3 1PPS, 4 ring; 8 bits; R117; reset 0 -/
  active : Nat := 0
  /-- STATE: 0 FREE, 1 ACQUIRING, 2 LOCKED, 3 HOLDOVER; 8 bits; R117; reset 0 -/
  state : Nat := 0
  /-- instant the source was lost; 64 bits; R105, R117; reset choice 0 -/
  lostAt : Nat := 0
  /-- quality octet before the loss; 8 bits; R112; reset choice 0 -/
  qualityBefore : Byte := 0#8
  /-- TAI of the last lock or setting, held in the always-on domain; 64 bits; R109, R112; reset choice 0 -/
  setAt : Nat := 0
  /-- OFFSET_NS; 32 bits signed; R117; reset 0 -/
  offset : Int := 0
  /-- rate of the discipline in ppb, without a slew; 32 bits signed; R97, R105, R117; reset 0 -/
  freqPpb : Int := 0
  /-- part of a nanosecond that this rate has gained, in 10⁻⁹ ns; model; R97; reset choice 0 -/
  frac : Int := 0
  /-- PTP masters heard, by the clockIdentity that sends; R100; reset none -/
  masters : Tbl (Option PtpMaster) := []
  /-- offset of the last ALTERNATE_TIME_OFFSET_INDICATOR, as reported; 32 bits signed; R100; reset none -/
  altOffset : Option Int := none
  /-- local offset and time quality of the last IEEE 1344 frame: half hours and code 0-15; R101; reset choice 0 -/
  irigLocal : Int := 0
  irigQuality : Nat := 0
  /-- the timebase was LOCKED or in holdover when SLUMBER was entered; 1 bit; R112, R113; reset choice 0 -/
  heldAtEntry : Bool := false
  /-- GM_IDENTITY; 64 bits; R117; reset 0 -/
  gm : Dword := 0#64
  /-- currentUtcOffset of PTP; 16 bits; R127; reset none -/
  ptpUtc : Option Int := none
  /-- leap61 and leap59 announced; 2 bits; R127; reset 0 -/
  leap61 : Bool := false
  leap59 : Bool := false
  /-- IEEE 1344 leap data present; 1 bit; R112; reset 0 -/
  irigLeap : Bool := false
  /-- STEPS; 16 bits; R117; reset 0 -/
  steps : Nat := 0
  /-- LAST_STEP_NS; 64 bits signed; R117; reset 0 -/
  lastStep : Int := 0
  /-- SRC list; 3 × 8 bits; R116; reset 1, 2, 3 -/
  list : List Nat := [1, 2, 3]
  /-- PTP_PROFILE; 8 bits; R116; reset 0 -/
  ptpProfile : Nat := 0
  /-- PTP_DOMAIN; 16 bits; R116; reset 0xFFFF -/
  ptpDomain : Nat := 0xFFFF
  /-- HOLDOVER_S; 16 bits; R116; reset 60 -/
  holdoverS : Nat := 60
  /-- IRIG_DELAY_NS; 32 bits; R116; reset 0 -/
  irigDelay : Nat := 0
  /-- PPS_DELAY_NS; 32 bits; R116; reset 0 -/
  ppsDelay : Nat := 0
  /-- IRIG_FLAGS; 8 bits; R116; reset 0x01 -/
  irigFlags : Byte := 0x01#8
  /-- PPS_OUT_MS; 8 bits; R116; reset 100 -/
  ppsOutMs : Nat := 100
  /-- STEP_THRESH_US; 16 bits; R116; reset 1000 -/
  stepUs : Nat := 1000
  /-- PORT_MASK; 8 bits; R116; reset 0x03 -/
  portMask : Byte := 0x03#8
  /-- instant the PPS_OUT high time ends, none while low; 64 bits; R104; reset none -/
  ppsHighUntil : Option Nat := none
  /-- PAIR_OFFSET; 64 bits signed; R398; reset 0 -/
  pairOffset : Int := 0
  /-- phase correction still to be slewed, in ns; 64 bits signed; R97; reset 0 -/
  slew : Int := 0
deriving DecidableEq, Repr, Inhabited

/-- A CAL_SET NEXT_SECOND that waits: its value and the work that awaits it (R128, R133). -/
structure CalNext where
  year : Nat := 2000
  month : Nat := 1
  day : Nat := 1
  hour : Nat := 0
  minute : Nat := 0
  second : Nat := 0
  wid : Nat := 0
deriving DecidableEq, Repr, Inhabited

/-- The calendar, its trim and the trickle charger. -/
structure Calendar where
  /-- YEAR; 16 bits; R124; reset 2000 -/
  year : Nat := 2000
  /-- MONTH; 8 bits; R124; reset 1 -/
  month : Nat := 1
  /-- DAY; 8 bits; R124; reset 1 -/
  day : Nat := 1
  /-- HOUR; 8 bits; R124; reset 0 -/
  hour : Nat := 0
  /-- MINUTE; 8 bits; R124; reset 0 -/
  minute : Nat := 0
  /-- SECOND; 8 bits; R124; reset 0 -/
  second : Nat := 0
  /-- SUBSEC; 16 bits; R124; reset 0 -/
  subsec : Nat := 0
  /-- halted by CAL_SET HALT; 1 bit; R128; reset 0 -/
  halted : Bool := false
  /-- instant of the halt; 64 bits; R129; reset choice 0 -/
  haltAt : Nat := 0
  /-- values that CAL_SET NEXT_SECOND loads at the next whole second, oldest first; R128; reset none -/
  next : List CalNext := []
  /-- instant of the last whole second, from which SUBSEC counts; 64 bits; R124; reset choice 0 -/
  secondAt : Nat := 0
  /-- the calendar reloads from TAI at the next whole second; 1 bit; R125; reset 0 -/
  reload : Bool := false
  /-- leap table loaded; 1 bit; R126; reset 0 -/
  leapLoaded : Bool := false
  /-- BASE_OFFSET; 16 bits signed; R126; reset 32 -/
  baseOffset : Int := 32
  /-- leap entries: day since 2000-01-01, DELTA; R126; reset none -/
  leaps : List (Nat × Int) := []
  /-- what leaps that IEEE 1344 announced against the table have added to TAI−UTC; 8 bits signed; R127; reset 0 -/
  leapAdj : Int := 0
  /-- trim points: °C, 0.01 ppm; 16 × 32 bits; R131, R134; reset as R131 -/
  curve : List (Int × Int) := []
  /-- AUTO; 1 bit; R134; reset 1 -/
  auto : Bool := true
  /-- learned offset in 0.01 ppm; 16 bits signed; R131; reset 0 -/
  learned : Int := 0
  /-- correction in use in 0.01 ppm; 16 bits signed; R132; reset choice 0 -/
  trim : Int := 0
  /-- phase owed by the trim, in ps; model's accumulator of R131; below one tick; R131; reset choice 0 -/
  trimPhase : Int := 0
  /-- the learning interval: its begin, and the lowest and highest temperature read in it; 64, 8 and 8 bits; R131; reset
  choice 0 -/
  learnAt : Nat := 0
  learnLo : Int := 0
  learnHi : Int := 0
  /-- always-on sensor in °C; 8 bits signed; R132; reset choice 0 -/
  temp : Int := 0
  /-- trickle charger mode; 2 bits; R122, R135; reset 0 OFF -/
  backupMode : Nat := 0
  /-- BACKUP_CFG has been applied; 1 bit; R123; reset 0 -/
  backupSet : Bool := false
  /-- VRTC_LOW; 1 bit; R123; reset choice 0 -/
  vrtcLow : Bool := false
deriving DecidableEq, Repr, Inhabited

/-- An event record (R110). -/
structure EvRec where
  tai : Nat := 0
  seq : Nat := 0
  source : Nat := 0
  kind : Nat := 0
  quality : Byte := 0#8
  flags : Byte := 0#8
  data : Word := 0#32
  lost : Nat := 0
  aux : Int := 0
deriving DecidableEq, Repr, Inhabited

/-- An edge whose interpolator runs (R108); a source of 128 + n is the first sample of panel input n. -/
structure InterpEdge where
  group : Nat := 0
  source : Nat := 0
  kind : Nat := 0
  data : Word := 0#32
  at0 : Nat := 0
deriving DecidableEq, Repr, Inhabited

/-- The event controller, its FIFO and consumers, the SOE log and the event archive. -/
structure Events where
  /-- event FIFO, oldest first; 8,192 × 32 bytes; R110; reset empty -/
  fifo : List EvRec := []
  /-- records entered since the start, so that `written - fifo.length` is the index of the oldest; model; R111; reset 0 -/
  written : Nat := 0
  /-- SEQ of the next record, in the always-on domain; 32 bits; R578; reset 0 -/
  seqNext : Nat := 0
  /-- validated edges on their way to the event controller, oldest first; model, log entry 9; R106, R107; reset empty -/
  inbox : List EvRec := []
  /-- read index of the SOE log writer; model; R111; reset 0 -/
  soePos : Nat := 0
  /-- read index of the host event stream; model; R111; reset 0 -/
  hostPos : Nat := 0
  /-- read index of the USB consumer while it is attached; model; R111, R574; reset none -/
  usbPos : Option Nat := none
  /-- read index of the ring sender for each admitted controller, keys 1-2; model; R111; reset none -/
  ringPos : Tbl Nat := []
  /-- overflow markers waiting per consumer: 0 SOE, 1 host, 2 USB, 3-4 ring; R111; reset none -/
  markers : Tbl (Option EvRec) := []
  /-- SOE log, oldest first; 1,048,576 × 32 bytes; R443; reset empty -/
  soe : List EvRec := []
  /-- records of the SOE log not yet appended to the archive; 128 at most; R443; reset 0 -/
  soeUnarchived : Nat := 0
  /-- event archive, oldest first; 5,767,168 × 32 bytes; R420, R443; reset empty -/
  archive : List EvRec := []
  /-- edges whose interpolator runs, oldest first; 4 per group, groups 0-3 the field dies and 4 the always-on domain; R108;
  reset none -/
  interp : List InterpEdge := []
deriving DecidableEq, Repr, Inhabited

/-- The host event stream ring (R183, R571-R573). -/
structure HostStream where
  /-- RING_ADDR, 0 when stopped; 64 bits; R183; reset 0 -/
  ringAddr : Nat := 0
  /-- RDPTR_ADDR; 64 bits; R183; reset 0 -/
  rdptrAddr : Nat := 0
  /-- RING_RECORDS; 32 bits; R183; reset 4096 -/
  records : Nat := 4096
  /-- IRQ_EVERY; 16 bits; R183; reset 64 -/
  irqEvery : Nat := 64
  /-- IRQ_US; 32 bits; R183; reset 1000 -/
  irqUs : Nat := 1000
  /-- SOURCES; 128 bits; R183; reset all 1 -/
  sources : BitVec 128 := BitVec.allOnes 128
  /-- WR_INDEX, EVT_WR_INDEX; 64 bits; R556, R571; reset 0 -/
  wrIndex : Nat := 0
  /-- RD_INDEX as last read; 64 bits; R571; reset 0 -/
  rdIndex : Nat := 0
  /-- records written since IRQ_STATUS[8] was last set; 32 bits; R573; reset 0 -/
  sinceIrq : Nat := 0
  /-- instant of the first of those records; 64 bits; R573; reset choice 0 -/
  firstAt : Nat := 0
  /-- a write to EVT_KICK asks for a read of RD_INDEX; 1 bit; R556, R572; reset 0 -/
  kick : Bool := false
deriving DecidableEq, Repr, Inhabited

/-- The image store: values and source qualities by image address (R137, R144). -/
structure Image where
  /-- values by image address, bits as 0 or 1; 1 or 32 bits each; R137-R141; reset 0 -/
  val : Tbl Word := []
  /-- source quality by image address; 3 bits each; R144; reset 0b010 STALE -/
  q : Tbl (BitVec 4) := []
deriving DecidableEq, Repr, Inhabited

/-- Runtime parameters that TASK_CFG set for a task (R182). -/
structure TaskCfg where
  enable : Bool := true
  edge : Option Nat := none
  timeUs : Option Nat := none
  phaseUs : Option Nat := none
deriving DecidableEq, Repr, Inhabited

/-- What released a task: the trap of ERR_TRAP, the station of ERR_STATION, the record of an event task (R142, R149). -/
structure Cause where
  trapCause : Word := 0#32
  trapTask : Nat := 0
  trapAddr : Word := 0#32
  trapEngine : Nat := 0
  station : Nat := 0
  evTai : Nat := 0
  evData : Word := 0#32
  evSeq : Nat := 0
deriving DecidableEq, Repr, Inhabited

/-- Where a task's cycle stands (R147-R157). -/
inductive CycleState where
  | idle | released | running
deriving DecidableEq, Repr, Inhabited

/-- Runtime state of one task, keyed by its number (R147). -/
structure TaskRt where
  /-- cycle state; one of 3; R149; reset idle -/
  state : CycleState := .idle
  /-- a release is pending behind the running cycle; 1 bit; R149; reset 0 -/
  pending : Option Cause := none
  /-- queued releases of an error task; up to 62; R149; reset empty -/
  queue : List Cause := []
  /-- cause of the cycle in progress; R142; reset zeros -/
  cause : Cause := {}
  /-- instant of the release (MONO as the task sees it); 64 bits; R147; reset choice 0 -/
  releasedAt : Nat := 0
  /-- SNAP_MONO; 64 bits; R142; reset 0 -/
  snapMono : Nat := 0
  /-- SNAP_TAI; 64 bits; R142; reset 0 -/
  snapTai : Nat := 0
  /-- quality octet of the snapshot; 8 bits; R142; reset 0 -/
  snapQuality : Byte := 0#8
  /-- the task's snapshot of the image; R152; reset empty -/
  snap : Image := {}
  /-- system points of the snapshot by image address; R142, R152; reset 0 -/
  snapSys : Tbl Word := []
  /-- private output buffer by image address; R153; reset empty -/
  buf : Tbl (Option Word) := []
  /-- data words changed in the cycle, as region × 2^32 + address; R156, R166; reset empty -/
  dirty : List Nat := []
  /-- phase in progress; 8 bits; R157, R209; reset 0 -/
  phase : Nat := 0
  /-- engines (4 × logical region + slot) that have arrived at the barrier of the phase; R157; reset none -/
  arrived : List Nat := []
  /-- number of that barrier; 32 bits; R157; reset none -/
  barrier : Option Nat := none
  /-- stripes of phases begun that have still to start, as phase and engine; R148, R157; reset none -/
  toStart : List (Nat × Nat) := []
  /-- data words changed in the phase, as `dirty`; R159; reset empty -/
  phaseDirty : List Nat := []
  /-- engines on which the cycle has ended; R157, R237; reset none -/
  ended : List Nat := []
  /-- FIRST_CYCLE; 1 bit; R142; reset 1 -/
  firstCycle : Bool := true
  /-- SX10 LATE of the running or next cycle; 1 bit; R142, R164; reset 0 -/
  late : Bool := false
  /-- a release was skipped or the cycle overran, so the next cycle is LATE; 1 bit; R164; reset 0 -/
  lateNext : Bool := false
  /-- LAST_US; 32 bits; R142; reset 0 -/
  lastUs : Nat := 0
  /-- MAX_US; 32 bits; R142; reset 0 -/
  maxUs : Nat := 0
  /-- SKIPPED; 32 bits; R149; reset 0 -/
  skipped : Nat := 0
  /-- CYCLES published since program start; 32 bits; R179; reset 0 -/
  cycles : Nat := 0
  /-- the overrun of this BASE cycle has been counted; 1 bit; R163; reset 0 -/
  overrun : Bool := false
  /-- next release of a periodic task as k of R147; 64 bits; R147; reset 0 -/
  nextK : Nat := 0
  /-- table pages from before a flip, for a cycle released before it; 48 MiB; R206, R445; reset none -/
  oldTables : Option Memory := none
  /-- epoch the cycle runs under; 32 bits; R161; reset 0 -/
  epoch : Nat := 0
  /-- first new-epoch release is held; 1 bit; R280; reset 0 -/
  held : Bool := false
  /-- a release arrived while held; R280; reset none -/
  heldRelease : Option Cause := none
  /-- epoch of the layout that the task's instance mirror has; 32 bits; R283, R284; reset 0 -/
  layout : Nat := 0
  /-- last level the task saw of each CAPTURE channel, and owed levels; R170; reset 0 -/
  capLevel : Tbl Nat := []
  /-- RISE_SEEN and FALL_SEEN kept for the task per channel; 2 bits each; R170; reset 0 -/
  capSeen : Tbl Nat := []
deriving DecidableEq, Repr, Inhabited

/-- A change waiting for the next BASE boundary, in acceptance order (R162, R568); `wid` is the work that awaits it. -/
inductive Bnd where
  | taskCfg (task : Nat) (c : TaskCfg) (wid : Nat)
  | prgMode (mode : Nat) (wid : Nat)
  | ringCfg (topology loss units : Nat) (ringId : Word) (actNs : Nat) (wid : Nat)
  | ringStation (n : Nat) (b : StationBlock)
  | force (op addr : Nat) (value : Word)
  | updActivate (trialS : Nat)
  | safConfirm (op scope : Nat) (check : Word) (wid : Nat)
  | profile (p : Nat) (wid : Nat)
deriving DecidableEq, Repr, Inhabited

/-- Scan execution. -/
structure Scan where
  /-- SCAN; 64 bits; R162; reset choice 0 before the first BASE boundary -/
  scan : Nat := 0
  /-- STATE of PRG_STATUS: 0 no program, 1 STOPPED, 2 RUNNING; 8 bits; R179; reset 0 -/
  mode : Nat := 0
  /-- OVERRUNS; 32 bits; R163; reset 0 -/
  overruns : Nat := 0
  /-- tasks by number 0-50; R147; reset idle -/
  tasks : Tbl TaskRt := []
  /-- TASK_CFG values in the MRAM system area; R182; reset none -/
  cfg : Tbl (Option TaskCfg) := []
  /-- SX12 STOP_REQUEST; 1 bit; R142, R165; reset 0 -/
  sx12 : Bool := false
  /-- the module stands at a BASE boundary, before the next BASE snapshot; model; R162; reset 0 -/
  atBoundary : Bool := false
  /-- changes waiting for the boundary; R162; reset empty -/
  bnd : List Bnd := []
  /-- forces: image address to forced value; at most 256; R181; reset none -/
  forces : Tbl (Option Word) := []
  /-- forces on outputs as applied by the last publish that touched the point; 32 bits each; R181; reset none -/
  outForces : Tbl (Option Word) := []
  /-- instant the program started; 64 bits; R483, R468; reset choice 0 -/
  startedAt : Nat := 0
  /-- task-visible MONO at which the program started, in a pair the KEEPER's; 64 bits; R467; reset choice 0 -/
  startMono : Nat := 0
  /-- instance mirror per logical region; 1 MiB each; R166; reset empty -/
  mirror : Tbl Memory := []
  /-- image addresses of QX and QW published since the start; R173; reset none -/
  published : Tbl Nat := []
  /-- a stop of a program is pending, SX12 published as 1; 1 bit; R165; reset 0 -/
  stopPending : Bool := false
deriving DecidableEq, Repr, Inhabited

/-- The program store, program load and the program in force. -/
structure ProgStore where
  /-- the program in force, with every epoch applied; R175-R179, R271; reset none -/
  prog : Option Prog := none
  /-- the pending image; R177; reset none -/
  pendingImg : Option Prog := none
  /-- EPOCH in force; 32 bits; R271; reset 0 -/
  epoch : Nat := 0
  /-- a load in progress: LOAD_ID; 16 bits; R175; reset none -/
  loadId : Option Nat := none
  /-- next LOAD_ID; 16 bits; R175; reset choice 1 -/
  nextLoadId : Nat := 1
  /-- header of the load; up to 4,072 bytes; R532; reset empty -/
  header : Bytes := []
  /-- blocks stored of the load, by number; R176; reset none -/
  blocks : Tbl Bytes := []
  /-- IMAGE_ID of the image that last started, so that a newly loaded one restarts SCAN at 1; 32 bits; R162; reset 0 -/
  lastStarted : Word := 0#32
  /-- epochs applied are signed; 1 bit; R497; reset 1 -/
  epochsSigned : Bool := true
  /-- the program before the last switch, while a cycle released under it runs; R161, R280; reset none -/
  oldProg : Option Prog := none
deriving DecidableEq, Repr, Inhabited

/-- A generator a0-a3 (R214). -/
structure Gen where
  base : Word := 0x10000000#32
  len : Word := 0#32
  step : Word := 0#32
  idx : Word := 0#32
  /-- MODE register: [1:0] MODE, [3:2] ESIZE; reset ESIZE 2 -/
  mode : Word := 8#32
deriving DecidableEq, Repr, Inhabited

/-- A write waiting for the end of its latency: cycle at whose end it lands, register, value (R197). -/
structure PendWrite where
  due : Nat := 0
  reg : Nat := 0
  val : Word := 0#32
deriving DecidableEq, Repr, Inhabited

/-- One register bank of an engine (R185). -/
structure Bank where
  /-- g0-g63; 64 × 32 bits; R185; reset 0 -/
  g : Tbl Word := []
  /-- pc; 32 bits; R185; reset stripe entry (choice 0 before a stripe starts) -/
  pc : Word := 0#32
  /-- inst; 32 bits; R185; reset 0 -/
  inst : Word := 0#32
  /-- a0-a3; 5 × 32 bits each; R214; reset BASE 0x1000_0000, ESIZE 2, others 0 -/
  a : Tbl Gen := []
  /-- data stack, on-die part, top first; 64 × 32 bits; R211; reset empty -/
  ds : List Word := []
  /-- spilled data stack entries; 16 bits; R212; reset 0 -/
  dsSpilled : Nat := 0
  /-- return stack, on-die part, top first: address and saved inst; 64 × 64 bits; R211; reset empty -/
  rs : List (Word × Word) := []
  /-- spilled return stack entries; 16 bits; R212; reset 0 -/
  rsSpilled : Nat := 0
  /-- TRAP_CAUSE; 32 bits; R209; reset 0 -/
  trapCause : Word := 0#32
  /-- TRAP_ADDR; 32 bits; R209; reset 0 -/
  trapAddr : Word := 0#32
  /-- TRAP_SYL; 32 bits; R209; reset 0 -/
  trapSyl : Word := 0#32
  /-- TRAP_X; 32 bits; R209; reset 0 -/
  trapX : Word := 0#32
  /-- CYCLES; 64 bits; R209; reset 0 -/
  cycles : Nat := 0
  /-- results still in flight; R197; reset none -/
  inflight : List PendWrite := []
  /-- syllables of the bundle being delivered, X syllables among them, in order; 8 × 32 bits; R195; reset empty -/
  bundle : List Word := []
  /-- what the units found in that bundle; R217; reset ok -/
  chk : UnitCheck := .ok
  /-- slot of the syllable that the units found it in; 3 bits; R209, R217; reset 0 -/
  chkSlot : Nat := 0
  /-- task whose stripe runs in the bank; 6 bits; R148; reset none -/
  task : Option Nat := none
  /-- phase of that stripe; 8 bits; R157, R209; reset choice 0 -/
  phase : Nat := 0
  /-- the stripe waits at a barrier or has ended; 1 bit; R157; reset 1 -/
  waiting : Bool := true
deriving DecidableEq, Repr, Inhabited

/-- A region's memories and root (R202-R205, R275), by physical region. -/
structure Region where
  /-- code SRAM; 4 MiB; R202, R204; reset 0 -/
  code : Memory := []
  /-- data SRAM; 2 MiB; R205; reset 0 -/
  data : Memory := []
  /-- EPOCH_ROOT: address of the root block in force; 32 bits; R219, R275; reset choice 0x100 -/
  root : Nat := 0x100
  /-- root block of the epoch before the last switch, for cycles released under it; 32 bits; R161, R279; reset choice 0x100 -/
  rootOld : Nat := 0x100
  /-- root block armed for the switch; 32 bits; R278; reset none -/
  rootNext : Option Nat := none
deriving DecidableEq, Repr, Inhabited

/-- The engines and regions. -/
structure Engines where
  /-- banks: key 4 × physical engine + class (0 BASE, 1 periodic, 2 event, 3 error); R185; reset as R185 -/
  banks : Tbl Bank := []
  /-- physical regions 0-3; R202; reset as above -/
  regions : Tbl Region := []
  /-- Tally slots checked in per engine in the current period (TALLY_STATE); 32 bits each; R209; reset 0 -/
  tallyState : Tbl Word := []
  /-- engines halted by control debug; 16 bits; R512; reset 0 -/
  halted : BitVec 16 := 0#16
  /-- halted engines that DEBUG_STEP lets issue one bundle; 16 bits; R575; reset 0 -/
  step : BitVec 16 := 0#16
  /-- self-test slices passed per engine in the current round; R476; reset 0 -/
  slices : Tbl Nat := []
  /-- physical table window bytes as engines see them; 48 MiB; R206, R445; reset 0 -/
  tables : Memory := []
  /-- draws taken from the free values; model, log entry 5; reset choice 0 -/
  fresh : Nat := 0
deriving DecidableEq, Repr, Inhabited

/-- Delay state and output of a rule (R257). -/
structure RuleSt where
  pend : Bool := false
  since : Nat := 0
  out : Bool := false
deriving DecidableEq, Repr, Inhabited

/-- The reflex plane. -/
structure Rime where
  /-- Rime evaluates: 0 stopped, 1 EARLY rules only, 2 all enabled rules; 2 bits; R266; reset 0 -/
  mode : Nat := 0
  /-- Rime stopped by a mismatch or a store error; 1 bit; R267; reset 0 -/
  stopped : Bool := false
  /-- rule states RN0-RN2047; R257; reset 0 -/
  rules : Tbl RuleSt := []
  /-- the rules of the set in force; R255; reset none -/
  set : Tbl Rule := []
  /-- RF0-RF255 as Rime writes them; 256 bits; R141; reset 0 -/
  rf : BitVec 256 := 0#256
  /-- TO0-TO255; 256 bits; R252; reset 0 -/
  toBits : BitVec 256 := 0#256
  /-- TI map in force; 256 × 16 bits; R254; reset 0 -/
  tiMap : Tbl Half := []
  /-- instant at which the next sweep begins; 64 bits; R259; reset choice 0 -/
  sweepAt : Nat := 0
deriving DecidableEq, Repr, Inhabited

/-- An edit (R274-R293). -/
structure Edit where
  /-- STATE: 0 IDLE, 1 STAGING, 2 COMMITTED, 3 SWITCHING, 4 DONE, 5 ABORTED; 8 bits; R293; reset 0 -/
  state : Nat := 0
  /-- CAUSE; 8 bits; R293; reset 0 -/
  cause : Nat := 0
  /-- EDIT_ID of the last edit; 16 bits; R293; reset 0 -/
  id : Nat := 0
  /-- NEW_EPOCH; 32 bits; R293; reset 0 -/
  newEpoch : Nat := 0
  /-- header of the staged container; R289; reset empty -/
  header : Bytes := []
  /-- blocks stored; R290; reset none -/
  blocks : Tbl Bytes := []
  /-- S; 64 bits; R278; reset 0 -/
  switchScan : Nat := 0
  /-- the epoch committed; R278; reset none -/
  epoch : Option Epoch := none
  /-- the committed container carried the owner signature; 1 bit; R497; reset 0 -/
  signed : Bool := false
  /-- instant of the last EDIT_ command; 64 bits; R288; reset choice 0 -/
  lastCmd : Nat := 0
  /-- SWITCH_AT(S) received by this APPRENTICE; 64 bits; R287; reset none -/
  switchAt : Option Nat := none
  /-- EDIT_COMMIT waits for the APPRENTICE's checks; 1 bit; R286; reset 0 -/
  asked : Bool := false
  /-- the epochs applied, as the program store keeps them; R278, R284; reset none -/
  applied : List EpochRec := []
deriving DecidableEq, Repr, Inhabited

/-- One claim source at a field die (R316): 0 the own logic side, 1 and 2 admitted controllers. -/
structure ClaimSrc where
  claim : Half := 0#16
  last : Nat := 0
  /-- lease in units of 0.25 ms -/
  leaseQ : Nat := 4
  heard : Bool := false
deriving DecidableEq, Repr, Inhabited

/-- A field die (R294-R325). -/
structure FieldDie where
  /-- die logic is powered; 1 bit; R61; reset choice 0 -/
  powered : Bool := false
  /-- VFLDd in mV; 16 bits; R325; reset choice 0 -/
  vfldMv : Nat := 0
  /-- VFLD_LOW; 1 bit; R311; reset choice 0 -/
  vfldLow : Bool := false
  /-- firmware restarting; 1 bit; R294; reset 0 -/
  fwRestart : Bool := false
  /-- RESTARTS; 16 bits; R325; reset 0 -/
  restarts : Nat := 0
  /-- placed in hold by the logic side; 1 bit; R318; reset 0 -/
  hold : Bool := false
  /-- control coupler A good; 1 bit; R12, R325; reset choice 0 -/
  couplerA : Bool := false
  /-- control coupler B good; 1 bit; R12, R325; reset choice 0 -/
  couplerB : Bool := false
  /-- the die lost power since the last FLD_STATUS; 1 bit; R325; reset choice 0 -/
  lostPower : Bool := false
  /-- the die is lost; 1 bit; R43; reset 0 -/
  lost : Bool := false
  /-- its field power transformer has failed; 1 bit; R12, R61; reset 0 -/
  txLost : Bool := false
  /-- configuration records received; 1 bit; R319; reset 0 -/
  configured : Bool := false
  /-- claim sources 0-2; R316; reset not heard -/
  claims : Tbl ClaimSrc := []
  /-- source obeyed; 2 bits; R316; reset none -/
  obeyed : Option Nat := none
  /-- HOLDING since the last accepted frame; 1 bit; R318; reset 1 -/
  holding : Bool := true
  /-- CURRENT_MA; 16 bits; R325; reset choice 0 -/
  currentMa : Nat := 0
  /-- DIE_OVERLOAD active; 1 bit; R325; reset 0 -/
  overload : Bool := false
  /-- firmware version; 32 bits; R325; reset choice 0 -/
  fw : Word := 0#32
deriving DecidableEq, Repr, Inhabited

/-- A field channel at its die (R295-R323). -/
structure Channel where
  /-- configuration record in force at the die; R297; reset FUNCTION OFF -/
  cfg : ChanCfg := {}
  /-- record of FLD_CFG that waits for the next burden period, and the instant it came; R306; reset none -/
  cfgNext : Option ChanCfg := none
  cfgAt : Nat := 0
  /-- ownership entry in force; 32 bits; R260; reset 0x0000_0040 -/
  owner : OwnerEntry := 0x40#32
  /-- validated state or readback level; 1 bit; R303, R312; reset 0 -/
  validated : Bool := false
  /-- sentinel level; 1 bit; R303; reset choice 0 -/
  sentinel : Bool := false
  /-- level of the last sample of the burden comparator; 1 bit; R303, R304; reset choice 0 -/
  sample : Bool := false
  /-- instant the sentinel state was last entered, for the reflex filter; 64 bits; R261; reset choice 0 -/
  lastEdge : Nat := 0
  /-- candidate stamp; 64 bits; R303; reset empty -/
  cand : Option Nat := none
  /-- STAMP_FLAGS of the candidate; 8 bits; R107; reset 0 -/
  candFlags : Byte := 0#8
  /-- quality octet at the candidate; 8 bits; R107, R112; reset choice 0 -/
  candQ : Byte := 0#8
  /-- start of the filter run; 64 bits; R303; reset empty -/
  run : Option Nat := none
  /-- REJECTS; 16 bits; R303, R325; reset 0 -/
  rejects : Nat := 0
  /-- stamp of the last validated transition; 64 bits; R295; reset choice 0 -/
  stamp : Nat := 0
  /-- RISE_SEEN; 1 bit; R170, R295; reset 0 -/
  riseSeen : Bool := false
  /-- FALL_SEEN; 1 bit; R170, R295; reset 0 -/
  fallSeen : Bool := false
  /-- instant sentinel and samples began to disagree; 64 bits; R304; reset none -/
  disagreeAt : Option Nat := none
  /-- instant FAST and validated states began to disagree; 64 bits; R261; reset none -/
  reflexAt : Option Nat := none
  /-- output latch; 1 bit; R317; reset 0 -/
  latch : Bool := false
  /-- applied command; 1 bit; R261, R317; reset 0 -/
  applied : Bool := false
  /-- instant the applied command became 0; 64 bits; R310; reset none -/
  zeroAt : Option Nat := none
  /-- a trip is latched; 1 bit; R310; reset 0 -/
  tripped : Bool := false
  /-- the driver junction is at its trip level; 1 bit; R310, R327; reset 0 -/
  hot : Bool := false
  /-- end of the running pulse; 64 bits; R313; reset none -/
  pulseEnd : Option Nat := none
  /-- the command has been seen at 0 with no pulse running; 1 bit; R313; reset 1 -/
  pulseArmed : Bool := true
  /-- expiry of the safety timer; 64 bits; R314; reset idle -/
  safAt : Option Nat := none
  /-- SAF de-energised until a fresh 0 then 1; 1 bit; R314; reset 0 -/
  safOff : Bool := false
  /-- a fresh 0 was accepted since; 1 bit; R314; reset 0 -/
  safSeen0 : Bool := false
  /-- instant of the last change of the expected level; 64 bits; R312; reset choice 0 -/
  expectAt : Nat := 0
  /-- LOAD_MA; 16 bits; R325; reset 0 -/
  loadMa : Nat := 0
  /-- PIN_MV; 16 bits; R325; reset choice 0 -/
  pinMv : Nat := 0
  /-- FAULTS, sticky; 16 bits; R325; reset 0 -/
  faults : Half := 0#16
  /-- hardware counter; 32 bits; R322; reset 0 -/
  count : Word := 0#32
  /-- level of the sentinel after the counter glitch filter; 1 bit; R322; reset choice 0 -/
  cntLevel : Bool := false
  /-- reported double-point state; 2 bits; R320; reset 0b00 -/
  dp : BitVec 2 := 0#2
  /-- stamp at which the raw state left an end position; 64 bits; R320; reset empty -/
  dpLeft : Option Nat := none
  /-- the instant of that stamp on MONO's count; 64 bits; R97, R320; reset choice 0 -/
  dpAt : Nat := 0
  /-- late; 1 bit; R320; reset 0 -/
  dpLate : Bool := false
  /-- consecutive failed coupler loops; 2 bits; R475; reset 0 -/
  loopFails : Nat := 0
  /-- the channel is lost; 1 bit; R43, R475; reset 0 -/
  lost : Bool := false
  /-- no good status frame within the refresh limit; 1 bit; R145; reset 1 -/
  stale : Bool := true
  /-- validated or readback level as the logic side last received it; 1 bit; R295, R463; reset 0 -/
  rx : Bool := false
  /-- instant of the last good status frame; 64 bits; R145; reset choice 0 -/
  statusAt : Nat := 0
  /-- the published QX part of the command, absent before the first publish; 1 bit; R173, R261; reset none -/
  qx : Option Bool := none
  /-- the rule part of the command; 1 bit; R261; reset none -/
  ruleCmd : Option Bool := none
  /-- FRESH is owed on the next command frame; 1 bit; R314; reset 0 -/
  freshOwed : Bool := false
  /-- instant the last command frame left the logic side; 64 bits; R295; reset choice 0 -/
  cmdAt : Nat := 0
  /-- the command frame last sent; R295; reset none -/
  lastCmd : Option CmdFrame := none
  /-- the level of the reflex input state as Rime last took it; 1 bit; R261; reset 0 -/
  reflexIn : Bool := false
deriving DecidableEq, Repr, Inhabited

/-- The field side. -/
structure Field where
  /-- field dies 0-3; R294; reset unpowered -/
  dies : Tbl FieldDie := []
  /-- channels 0-63; R295; reset OFF -/
  ch : Tbl Channel := []
  /-- FLD_CFG values kept in the MRAM system area; R324; reset none -/
  kept : Tbl (Option ChanCfg) := []
  /-- counts saved by the HOLDUP dump; 64 × 32 bits; R323; reset 0 -/
  savedCounts : Tbl Word := []
deriving DecidableEq, Repr, Inhabited

/-- A supervised key or debounced input (R328, R331). -/
structure Key where
  /-- state under debounce and instant of its first sample; R329; reset none -/
  cand : Option (Nat × Nat) := none
  /-- STAMP_FLAGS of that instant; 8 bits; R107; reset 0 -/
  flags : Byte := 0#8
  /-- consecutive samples of that state; R328; reset 0 -/
  samples : Nat := 0
  /-- confirmed state: 0 open, 1 pressed, 2 fault; 2 bits; R331; reset 0 -/
  state : Nat := 0
  /-- stamp of the confirmed press; 64 bits; R329; reset choice 0 -/
  pressAt : Nat := 0
deriving DecidableEq, Repr, Inhabited

/-- The operator panel. -/
structure Panel where
  /-- matrix keys 0-63, touch keys 64-71, plugs 72-75, LR_LOCAL 76, LR_REMOTE 77, USB_VBUS 78; R328; reset open -/
  keys : Tbl Key := []
  /-- FAULTS since the last read; 64 bits; R342; reset 0 -/
  faults : Dword := 0#64
  /-- local/remote position: 0 none, 1 LOCAL, 2 REMOTE, 3 FAULT; 2 bits; R332; reset choice 0 -/
  lr : Nat := 0
  /-- instant both lines began to read the same; 64 bits; R332; reset none -/
  lrSameAt : Option Nat := none
  /-- KEY_POPULATED; 64 bits; R340; reset all 1 -/
  populated : Dword := BitVec.allOnes 64
  /-- KEY_DEBOUNCE_MS; 8 bits; R340; reset 20 -/
  debounceMs : Nat := 20
  /-- STUCK_S; 8 bits; R340; reset 60 -/
  stuckS : Nat := 60
  /-- LED_MA; 8 bits; R340; reset 5 -/
  ledMa : Nat := 5
  /-- TOUCH_SENS; 8 bits; R340; reset 8 -/
  touchSens : Nat := 8
  /-- PNL_CFG has been applied; 1 bit; R340; reset 0 -/
  cfgSet : Bool := false
  /-- host-owned LED modes; 2 bits each; R341; reset 0 off -/
  leds : Tbl Nat := []
  /-- slot out of IDLE; 4 bits; R336; reset none -/
  slot : Option Nat := none
  /-- its state: 0 IDLE, 1 SELECTED, 2 EXECUTING; 2 bits; R336; reset 0 -/
  slotState : Nat := 0
  /-- select or execute stamp; 64 bits; R336; reset choice 0 -/
  slotAt : Nat := 0
  /-- presence keys closed together since; 64 bits; R338; reset none -/
  presHold : Option Nat := none
  /-- the gesture was aborted by a third key; 1 bit; R338; reset 0 -/
  presAborted : Bool := false
  /-- a completed gesture and its instant; 64 bits; R338; reset none -/
  presence : Option Nat := none
  /-- TAI_NS of the last completed gesture; 64 bits; R343; reset 0 -/
  presenceTai : Nat := 0
  /-- instant of the last completed gesture however used, for recovery; 64 bits; R83, R528; reset none -/
  lastGesture : Option Nat := none
deriving DecidableEq, Repr, Inhabited

/-- A GOOSE subscription (R349-R352, R361). -/
structure GooseSub where
  enable : Bool := false
  acceptTest : Bool := false
  requireAuth : Bool := false
  appid : Nat := 0
  dst : BitVec 48 := 0#48
  vlan : Nat := 0
  confRev : Word := 0#32
  gocbRef : Bytes := []
  datSet : Bytes := []
  alg : Nat := 0
  keyId : Word := 0#32
  key : Bytes := []
  nextKeyId : Word := 0#32
  nextKey : Bytes := []
  /-- last stNum and sqNum; 32 bits each; R350; reset no state -/
  last : Option (Word × Word) := none
  /-- expire as MONO, unset before the first message; 64 bits; R350; reset none -/
  expire : Option Nat := none
  stale : Bool := true
  /-- FLAGS of NET_STATUS; 8 bits; R364; reset 0 -/
  flags : Byte := 0#8
  talMs : Nat := 0
  lastTai : Nat := 0
  accepted : Nat := 0
  rejected : Nat := 0
deriving DecidableEq, Repr, Inhabited

/-- A GOOSE message as sent (R354). -/
structure GooseTx where
  pub : Nat := 0
  stNum : Nat := 0
  sqNum : Nat := 0
  talMs : Nat := 0
  /-- members with their values; a UtcTime member is in `tai` and `quality`, a quality member in `test` -/
  values : List (Nat × Word) := []
  octets : List (Nat × Bytes) := []
  tai : Nat := 0
  quality : Byte := 0#8
  test : Bool := false
  ports : Nat := 0
  alg : Nat := 0
  keyId : Word := 0#32
deriving DecidableEq, Repr, Inhabited

/-- A GOOSE publication (R353-R355, R362). -/
structure GoosePub where
  enable : Bool := false
  test : Bool := false
  appid : Nat := 0
  dst : BitVec 48 := 0#48
  vlan : Nat := 0x8000
  confRev : Word := 1#32
  t0Ms : Nat := 1000
  t1Ms : Nat := 4
  gocbRef : Bytes := []
  datSet : Bytes := []
  goId : Bytes := []
  alg : Nat := 0
  keyId : Word := 0#32
  key : Bytes := []
  /-- stNum and sqNum of the next repetition; 32 bits each; R354; reset 0 (stNum begins at 1) -/
  stNum : Nat := 0
  sqNum : Nat := 0
  /-- interval that follows the last message, ms; R354; reset 0 -/
  curveMs : Nat := 0
  /-- MONO of the next message; 64 bits; R354; reset none -/
  nextAt : Option Nat := none
  /-- a change of identity starts a new stNum; 1 bit; R362; reset 0 -/
  newState : Bool := false
  /-- member values and OCTET STRING members as the latest publish left them; R354; reset none -/
  vals : List (Nat × Word) := []
  octs : List (Nat × Bytes) := []
  /-- instant and quality octet of that publish, for UtcTime members; 64 and 8 bits; R353; reset 0 -/
  pubTai : Nat := 0
  pubQuality : Byte := 0#8
  lastTai : Nat := 0
  sent : Nat := 0
deriving DecidableEq, Repr, Inhabited

/-- A sample waiting in the image store (R358). -/
structure SvSample where
  cnt : Nat := 0
  tai : Nat := 0
  vals : List (Int × Word) := []
  synch : Nat := 0
deriving DecidableEq, Repr, Inhabited

/-- A sampled-value stream (R357, R358, R363). -/
structure SvStream where
  enable : Bool := false
  acceptTest : Bool := false
  requireAuth : Bool := false
  appid : Nat := 0x4000
  dst : BitVec 48 := 0#48
  spc : Nat := 0
  freq : Nat := 0
  confRev : Word := 0#32
  svId : Bytes := []
  alg : Nat := 0
  keyId : Word := 0#32
  key : Bytes := []
  nextKeyId : Word := 0#32
  nextKey : Bytes := []
  /-- samples waiting in the image store: smpCnt, TAI, eight values with quality, SmpSynch; two cycles at most; R358; reset empty -/
  samples : List SvSample := []
  /-- last smpCnt; 16 bits; R357; reset none -/
  lastCnt : Option Nat := none
  missing : Nat := 0
  /-- samples of the last two nominal cycles, newest first; the first cycle is the window of the results; R171, R172; reset
  empty -/
  window : List SvSample := []
  valid : Bool := false
  flags : Byte := 0#8
  lastTai : Nat := 0
  accepted : Nat := 0
  rejected : Nat := 0
deriving DecidableEq, Repr, Inhabited

/-- The substation network engine. -/
structure Net where
  /-- MODE: 0 SINGLE, 1 PRP, 2 HSR; 8 bits; R360; reset 1 -/
  mode : Nat := 1
  /-- SPEED; 8 bits; R360; reset 0 -/
  speed : Byte := 0#8
  /-- SUP_S; 8 bits; R360; reset 2 -/
  supS : Nat := 2
  /-- FLAGS; 8 bits; R360; reset 0 -/
  flags : Byte := 0#8
  /-- RX_RING; 64 bits; R360; reset 0 -/
  rxRing : Nat := 0
  /-- TX_RING; 64 bits; R360; reset 0 -/
  txRing : Nat := 0
  /-- SLOTS; 16 bits; R360; reset 64 -/
  slots : Nat := 64
  /-- next receive and send slot; 16 bits; R348; reset 0 -/
  rxSlot : Nat := 0
  txSlot : Nat := 0
  /-- links up: NET0, NET1; 2 bits; R364; reset 0 -/
  link : BitVec 2 := 0#2
  /-- port counters: DUP_DISCARDED, WRONG_LAN, HSR_FORWARDED, HOST_DROPPED, AUTH_FAIL, FCS_ERRORS; 32 bits each; R364; reset 0 -/
  dup : Nat := 0
  wrongLan : Nat := 0
  hsrFwd : Nat := 0
  hostDropped : Nat := 0
  authFail : Nat := 0
  fcs : Nat := 0
  /-- module MAC address, fused; 48 bits; R344; reset choice 0 -/
  mac : BitVec 48 := 0#48
  /-- node table by MAC: instant last seen + 1 and sequence numbers seen; 512 entries; R344; reset empty -/
  nodes : Tbl (Nat × List Nat) := []
  subs : Tbl GooseSub := []
  pubs : Tbl GoosePub := []
  sv : Tbl SvStream := []
  /-- GOOSE messages sent, newest first, as they leave; model's output port; R354; reset none -/
  sent : List GooseTx := []
  /-- supervision frames sent; model's output count; R344; reset 0 -/
  supSent : Nat := 0
  /-- instant of the last supervision frame; 64 bits; R344; reset choice 0 -/
  supAt : Nat := 0
  /-- host frames sent, newest first; model's output port; R348; reset none -/
  hostSent : List Bytes := []
deriving DecidableEq, Repr, Inhabited

/-- The controller's view of one station (R143, R379, R382). -/
structure StationRt where
  /-- diagnostic bits 0-7 of R143; 8 bits; reset 0 -/
  diag : Byte := 0#8
  lost : Bool := false
  /-- copies accepted in the running cycle; R379; reset 0 -/
  copies : Nat := 0
  /-- a returning copy failed SCRC in the cycle; R379; reset 0 -/
  crcError : Bool := false
  missed : Nat := 0
  good : Nat := 0
  lastSeen : Nat := 0
  hops : List Nat := [0, 0]
  corr : Nat := 0
  admitted : Bool := false
  /-- station state at the controller: 0 DOWN, 1 ADMIT, 2 CONFIG, 3 RUN; R389; reset 0 -/
  state : Nat := 0
  cfgTag : Nat := 0
  /-- the station's ring counters and firmware versions as its last STATUS reply gave them; R374, R389; reset none -/
  told : Bytes := []
  /-- the station's TO bits as last accepted, and bad; 256 bits; R253; reset 0 -/
  toBits : BitVec 256 := 0#256
  toBad : Bool := true
  /-- channels of the station whose next command is FRESH; 64 bits; R314, R372; reset 0 -/
  fresh : Dword := 0#64
  /-- nonce of the ADMIT exchange that this controller has begun; 32 bytes; R508; reset empty -/
  nonce : Bytes := []
  /-- the station's identity has been checked in that exchange; 1 bit; R508; reset 0 -/
  idOk : Bool := false
  /-- the last accepted slot said that the station turns frames; 1 bit; R371, R389; reset 0 -/
  turned : Bool := false
deriving DecidableEq, Repr, Inhabited

/-- A controller as a station sees it (R386), keyed 1 or 2. -/
structure CtlRt where
  /-- 0 unknown, 1 ADMIT in progress, 2 admitted; R386; reset 0 -/
  admission : Nat := 0
  /-- S_NONCE, C_NONCE and the controller's identity key of the exchange; 32, 32 and 96 bytes; R508; reset empty -/
  nonce : Bytes := []
  cNonce : Bytes := []
  key : Bytes := []
  /-- last good header: instant, claim, lease in 0.25 ms, and the instant of its last SUM; 64, 16, 8 and 64 bits; R380; reset 0 -/
  lastHeard : Nat := 0
  claim : Half := 0#16
  leaseQ : Nat := 4
  sumAt : Nat := 0
  /-- cycle whose IN data is latched, and the latched bytes; R378; reset none -/
  cycle : Option Nat := none
  inData : Bytes := []
  /-- outputs of the cycle have been taken; 1 bit; R378; reset 0 -/
  taken : Bool := false
  /-- outputs waiting for TX_TAI + ACT_NS; R378; reset none -/
  syncAt : Option Nat := none
  syncOut : Bytes := []
  /-- the outputs last taken from this controller, sent to the dies as its claim is obeyed; R368, R378; reset none -/
  out : Bytes := []
  /-- TO bits of its last good header, and its cycle in ns as two SUM frames showed it; 256 and 32 bits; R253, R380; reset 0 -/
  toBits : BitVec 256 := 0#256
  cycleNs : Nat := 0
deriving DecidableEq, Repr, Inhabited

/-- The Torvop ring. -/
structure Ring where
  /-- TOPOLOGY: 0 OFF, 1 LINE, 2 RING; 8 bits; R387; reset 2 -/
  topology : Nat := 2
  /-- LOSS_CYCLES; 8 bits; R387; reset 3 -/
  loss : Nat := 3
  /-- CYCLE_UNITS; 16 bits; R387; reset 8 -/
  units : Nat := 8
  /-- RING_ID; 32 bits; R387; reset choice 0 (the image gives it) -/
  ringId : Word := 0#32
  /-- ACT_NS; 32 bits; R387; reset 0 -/
  actNs : Nat := 0
  /-- RING_CFG or RING_STATION_CFG has been applied since the program load; 1 bit; R387; reset 0 -/
  cfgSet : Bool := false
  /-- stations ST01-ST62 configuration in force; R388; reset not configured -/
  cfg : Tbl StationBlock := []
  /-- stations at the controller, and at a station its own view as entry 0; R382, R389; reset 0 -/
  st : Tbl StationRt := []
  /-- CYCLE number; 32 bits; R370; reset 0 -/
  cycle : Nat := 0
  /-- the ring runs a cycle; 1 bit; R376; reset 0 -/
  running : Bool := false
  /-- no station is counted missing in the cycle that changes; 1 bit; R387; reset 0 -/
  cfgChanged : Bool := false
  /-- links up: RING0, RING1; 2 bits; R389; reset 0 -/
  link : BitVec 2 := 0#2
  /-- CRC_ERRORS; 32 bits; R389; reset 0 -/
  crcErrors : Nat := 0
  /-- LOSSES; 32 bits; R389; reset 0 -/
  losses : Nat := 0
  /-- link delays in ns, last 8 measurements per port; R375; reset none -/
  delays : Tbl (List Nat) := []
  /-- DELAY frames: requests and responses sent; model's output counts; R375; reset 0 -/
  delayReq : Nat := 0
  delayRsp : Nat := 0
  /-- BREAK_A and BREAK_B; 8 bits each; R389; reset 0xFF -/
  breakA : Nat := 0xFF
  breakB : Nat := 0xFF
  /-- frames sent, newest first: SUM, BEACON, MSG and forwarded frames by port; model's output port; reset none -/
  sent : List (Nat × Bytes) := []
  /-- SEQ of the next MSG; 32 bits; R374; reset choice 0 -/
  msgSeq : Nat := 0
  /-- instant of the last SUM; 64 bits; R376; reset choice 0 -/
  sumAt : Nat := 0
  /-- the instant at which the KEEPER's SUM last passed this controller; 64 bits; R368; reset none -/
  partnerSum : Option Nat := none
  /-- RING_STATUS requests that wait for their STATUS exchange: station, request, instant; R389; reset none -/
  asks : List (Nat × Nat × Nat) := []
  /-- BEACON frames sent since that SUM; 8 bits; R376; reset 0 -/
  beacons : Nat := 0
  /-- the end of the running cycle has been evaluated; 1 bit; R382; reset 0 -/
  ended : Bool := false
  /-- configuration block being received by this station; R374; reset empty -/
  block : Tbl Bytes := []
  /-- the active configuration block of this station; R385; reset none -/
  active : Option StationBlock := none
  /-- a committed block waiting for the next cycle of its controller, 1 or 2; R386; reset none -/
  committed : Option StationBlock := none
  committedBy : Nat := 0
  /-- changes past the BASE boundary that wait for the next cycle start; R387; reset empty -/
  next : List Bnd := []
  /-- controllers known to this station; R386; reset none -/
  ctl : Tbl CtlRt := []
  /-- station state: 0 DOWN, 1 ADMIT, 2 CONFIG, 3 RUN; R386; reset 0 -/
  stState : Nat := 0
  /-- arrival quality taken from the obeyed controller; 8 bits; R381; reset choice 0 -/
  ctlQuality : Byte := 0#8
deriving DecidableEq, Repr, Inhabited

/-- A RELEASE record waiting for its SNAPSHOT (R396). -/
structure RelRec where
  scan : Nat := 0
  snapMono : Nat := 0
  snapTai : Nat := 0
  source : Nat := 0
  data : Word := 0#32
deriving DecidableEq, Repr, Inhabited

/-- A GOOSE publication's position as the KEEPER shipped it (R355). -/
structure PubPos where
  stNum : Nat := 0
  sqNum : Nat := 0
  curveMs : Nat := 0
  /-- MONO of its arrival -/
  at0 : Nat := 0
deriving DecidableEq, Repr, Inhabited

/-- A command that the KEEPER forwarded (R395). -/
structure FwdCmd where
  code : Nat := 0
  scan : Nat := 0
  payload : Bytes := []
deriving DecidableEq, Repr, Inhabited

/-- An image point with its value and quality, as a snapshot ships it (R396). -/
structure ImgPoint where
  addr : Nat := 0
  val : Word := 0#32
  q : BitVec 4 := 0#4
deriving DecidableEq, Repr, Inhabited

/-- A record sent to the partner (R395): kind, task or code, scan, value. -/
structure PairTx where
  kind : Nat := 0
  num : Nat := 0
  scan : Nat := 0
  value : Nat := 0
  data : Bytes := []
deriving DecidableEq, Repr, Inhabited

/-- The pair. -/
structure Pair where
  /-- role; 2 bits; R390; reset SOLO -/
  role : Role := .solo
  /-- MODE configured: 1 pair member; 8 bits; R416; reset 0 -/
  mode : Nat := 0
  /-- PREF; 8 bits; R416; reset 0 -/
  pref : Nat := 0
  /-- LEASE_Q; 8 bits; R416; reset 4 -/
  leaseQ : Nat := 4
  /-- TAKEBACK_S; 16 bits; R416; reset 60 -/
  takebackS : Nat := 60
  /-- SEED, fused; 1 bit; R392; reset choice 0 -/
  seed : Bool := false
  /-- STATE: 0 ALONE, 1 LISTENING, 2 ALIGNING, 3 IN_STEP, 4 OUT_OF_STEP; 8 bits; R417; reset 0 -/
  state : Nat := 0
  /-- CAUSE; 8 bits; R417; reset 0 -/
  cause : Nat := 0
  /-- lanes up: PAIR0, PAIR1; 2 bits; R417; reset 0 -/
  lanes : BitVec 2 := 0#2
  /-- last heartbeat per lane; 64 bits each; R394; reset choice 0 -/
  hbAt : Tbl Nat := []
  /-- SEED_CLASH; 1 bit; R392; reset 0 -/
  seedClash : Bool := false
  /-- YIELD; 1 bit; R415; reset 0 -/
  yield : Bool := false
  /-- PAIR_SUSPECT; 1 bit; R402; reset 0 -/
  suspect : Bool := false
  /-- applied VALID; 1 bit; R403; reset 0 -/
  valid : Bool := false
  /-- applied HEALTH; 7 bits; R403; reset 127 -/
  health : Nat := 127
  /-- applied PREFERENCE; 7 bits; R403; reset 0 -/
  preference : Nat := 0
  /-- target HEALTH after settling; 7 bits; R404, R407; reset 127 -/
  targetHealth : Nat := 127
  /-- new HEALTH value not yet settled and instant it appeared; R404; reset none -/
  newHealth : Option (Nat × Nat) := none
  /-- partner's last claim; 16 bits; R417; reset 0 -/
  partnerClaim : Half := 0#16
  /-- instant a valid partner claim was last refreshed, and on the ring; 64 bits; R410, R411; reset none -/
  partnerAt : Option Nat := none
  partnerRingAt : Option Nat := none
  /-- what the partner's last HEARTBEAT said; R395; reset none -/
  partner : Option HbRec := none
  /-- partner's station presence mask; 64 bits; R404; reset 0 -/
  partnerPresence : Dword := 0#64
  /-- last health report of the partner; 64 bytes; R477; reset none -/
  partnerReport : Option Bytes := none
  /-- instant this module came into step; 64 bits; R405; reset none -/
  inStepAt : Option Nat := none
  /-- TAKEBACK_S has elapsed; 1 bit; R405; reset 0 -/
  takebackDone : Bool := false
  /-- BASE cycles published with matching OUT_CRC and no LAG; 5 bits; R400; reset 0 -/
  matched : Nat := 0
  /-- MISMATCHES; 32 bits; R417; reset 0 -/
  mismatches : Nat := 0
  /-- instants of the mismatches in the last hour; R402; reset none -/
  mismatchAt : List Nat := []
  /-- TAKEOVERS; 32 bits; R417; reset 0 -/
  takeovers : Nat := 0
  /-- arrivals of SNAPSHOT records in the last 1 s, for LAG_US: instant and ns after the KEEPER's snapshot; R417; reset none -/
  lags : List (Nat × Nat) := []
  /-- LAST_CHANGE_SCAN, LAST_CHANGE_TAI; 64 bits each; R417; reset 0 -/
  lastScan : Nat := 0
  lastTai : Nat := 0
  /-- handover scan S pending; 64 bits; R413; reset none -/
  handover : Option Nat := none
  /-- no new S before this instant; 64 bits; R414; reset choice 0 -/
  noHandoverBefore : Nat := 0
  /-- shipped snapshots not yet used: task to points; R396; reset none -/
  shipped : Tbl (Option (List ImgPoint)) := []
  /-- RELEASE records waiting for their SNAPSHOT: task to scan, SNAP_MONO, SNAP_TAI, source, DATA; R396; reset none -/
  releases : Tbl (Option RelRec) := []
  /-- partner OUT_CRC per task: scan and CRC; R399; reset none -/
  theirCrc : Tbl (Option (Nat × Nat)) := []
  /-- own OUT_CRC per task: scan and CRC; R399; reset none -/
  ourCrc : Tbl (Option (Nat × Nat)) := []
  /-- ACK of the APPRENTICE for scan: newest BASE scan acknowledged; 64 bits; R413; reset 0 -/
  ackScan : Nat := 0
  /-- this KEEPER's partner is aligned (ships records); 1 bit; R410; reset 0 -/
  shipping : Bool := false
  /-- instant alignment last failed; 64 bits; R401; reset none -/
  alignFailedAt : Option Nat := none
  /-- identities checked in step 1 of alignment; 1 bit; R401; reset 0 -/
  identityOk : Bool := false
  /-- the partner at this link's other end has been checked; 1 bit; R40; reset 0 -/
  known : Bool := false
  /-- nonces of the partner exchange that runs, the KEEPER's first; up to 64 bytes; R508; reset empty -/
  nonce : Bytes := []
  /-- identity key that the KEEPER showed in it; 96 bytes; R508; reset empty -/
  peerKey : Bytes := []
  /-- the copy is complete and J loaded, so this APPRENTICE takes its releases from RELEASE records; 1 bit; R401; reset 0 -/
  aligned : Bool := false
  /-- instant listening began; 64 bits; R391; reset none -/
  listenAt : Option Nat := none
  /-- records sent, newest first; model's output port; R395; reset none -/
  sent : List PairTx := []
  /-- GOOSE publication positions received: pub to stNum, sqNum, curve; R355; reset none -/
  pubState : Tbl (Option PubPos) := []
  /-- commands forwarded by the KEEPER and not yet applied: code, scan, payload; R395; reset none -/
  commands : List FwdCmd := []
  /-- a test round is running after an OUT_CRC mismatch; 1 bit; R402; reset 0 -/
  testRound : Bool := false
deriving DecidableEq, Repr, Inhabited

/-- A Ledger record in one tier (R424, R425). -/
structure LdgRec where
  cls : Nat := 2
  counter : Bool := false
  data : Bytes := []
  seq : Nat := 0
  wstamp : Nat := 0
  valid : Bool := true
  deleted : Bool := false
deriving DecidableEq, Repr, Inhabited

/-- A counter's two slots and delta cell (R437). -/
structure CntRec where
  valueA : Nat := 0
  genA : Nat := 0
  okA : Bool := true
  valueB : Nat := 0
  genB : Nat := 0
  okB : Bool := false
  delta : Nat := 0
  /-- GEN[15:0] of the delta cell -/
  genD : Nat := 0
deriving DecidableEq, Repr, Inhabited

/-- A commit marker and its dump (R434-R436). -/
structure Dump where
  seq : Nat := 0
  bytes : Nat := 0
  wstamp : Nat := 0
  tai : Nat := 0
  atSlumber : Bool := false
  valid : Bool := true
  recs : Tbl (Option LdgRec) := []
  /-- HOT records appended by a HOLDUP from SLUMBER, committed by a second marker -/
  delta : Tbl (Option LdgRec) := []
  deltaValid : Bool := false
deriving DecidableEq, Repr, Inhabited

/-- Parts received of a multi-part Ledger record (R446). -/
structure LdgParts where
  total : Nat := 0
  parts : Tbl Bytes := []
  at0 : Nat := 0
deriving DecidableEq, Repr, Inhabited

/-- An entry of the publish journal (R422). -/
structure JrnEnt where
  scan : Nat := 0
  task : Nat := 0
  /-- epoch of the layout of its instance words (R284) -/
  epoch : Nat := 0
  pairs : List (Nat × Word) := []
  committed : Bool := false
deriving DecidableEq, Repr, Inhabited

/-- A copy of the retentive data: words by key, and per task the epoch of the layout of its instance words (R284, R422). -/
structure Home where
  words : Tbl (Option Word) := []
  layout : Tbl Nat := []
deriving DecidableEq, Repr, Inhabited

/-- Table bytes waiting for the flip (R445), and the work that awaits it. -/
structure TblPart where
  table : Nat := 0
  offset : Nat := 0
  data : Bytes := []
  wid : Nat := 0
deriving DecidableEq, Repr, Inhabited

/-- A class set for a range of Ledger keys (R448). -/
structure ClsRule where
  first : Nat := 0
  last : Nat := 0
  cls : Nat := 2
deriving DecidableEq, Repr, Inhabited

/-- The Ledger, Firn, tables and retentive data. -/
structure Ledger where
  /-- MRAM fast tier, WARM and COLD records by key; R424-R430; reset empty -/
  mram : Tbl (Option LdgRec) := []
  /-- counters by key; R437; reset none -/
  cnt : Tbl (Option CntRec) := []
  /-- HOT records in Ledger SRAM; R426; reset empty -/
  hot : Tbl (Option LdgRec) := []
  /-- Firn log by key: the newest entry; R431; reset empty -/
  firn : Tbl (Option LdgRec) := []
  /-- classes configured, newest first: first key, last key, class 1 HOT, 2 WARM, 3 COLD; R448; reset none, so WARM -/
  cls : List ClsRule := []
  /-- committed dumps A and B; R434; reset none -/
  dumpA : Option Dump := none
  dumpB : Option Dump := none
  /-- a dump was cut short, so DUMP_LOST; 1 bit; R436; reset 0 -/
  dumpLost : Bool := false
  /-- DUMP_SEQ of a dump without a marker; 32 bits; R490; reset none -/
  dumpCut : Option Nat := none
  /-- boot count; 32 bits; R425; reset 0 -/
  boot : Nat := 0
  /-- Ledger writes in this boot; 32 bits; R425; reset 0 -/
  writes : Nat := 0
  /-- FINDINGS: LEDGER_TIE, LEDGER_LOST, MRAM repaired; 16 bits; R449; reset 0 -/
  findings : Half := 0#16
  /-- parts received of a multi-part record: key to (TOTAL, parts by offset, instant); R446; reset none -/
  parts : Tbl (Option LdgParts) := []
  /-- Firn's newest entries: key (records 0-65535, table pages from 2^20, chunks 2^40) to 2^20 × block + bytes; R431; reset none -/
  firnEnt : Tbl Nat := []
  /-- closed Firn erase blocks, oldest first; 512 blocks; R431, R432; reset none -/
  firnClosed : List Nat := []
  /-- retired Firn erase blocks; R432, R449; reset none -/
  firnRetired : List Nat := []
  /-- erase counts by block; 32 bits; R449; reset 0 (choice) -/
  firnErases : Tbl Nat := []
  /-- the open Firn block and the bytes appended to it; 9 and 18 bits; R431; reset 0 (choice) -/
  firnOpenBlk : Nat := 0
  firnOpen : Nat := 0
  /-- the flash die has failed; 1 bit; R33, R433; reset 0 -/
  flashFailed : Bool := false
  /-- instant since which the flash controller's lease is denied to Firn; 64 bits; R433; reset none -/
  leaseDenied : Option Nat := none
  /-- LEDGER_FALLBACK; 1 bit; R433; reset 0 -/
  fallback : Bool := false
  /-- catch-up running; 1 bit; R433; reset 0 -/
  catchUp : Bool := false
  /-- the MRAM tier is being opened: the Ledger is open; 1 bit; R439; reset 0 -/
  opened : Bool := false
  /-- MAG_ALERT; 1 bit; R441; reset 0 -/
  magAlert : Bool := false
  /-- MAG_AM and MAG_PEAK; 16 bits each; R449; reset 0 -/
  magNow : Nat := 0
  magPeak : Nat := 0
  /-- field at or above 3,000 A/m since; below 2,400 A/m since; 64 bits; R440; reset none -/
  magHighAt : Option Nat := none
  magLowAt : Option Nat := none
  /-- retentive home copy by key; 6 MiB; R422; reset empty -/
  home : Home := {}
  /-- publish journal, oldest first: SCAN, task, pairs, committed; 2 MiB; R422; reset empty -/
  journal : List JrnEnt := []
  /-- TYPE 3 chunks held in Firn: a copy of the home; R441; reset none -/
  homeFirn : Option Home := none
  /-- SCAN as last written to the system area; 64 bits; R162; reset 0 -/
  scanKept : Nat := 0
  /-- instant of the last WARM flush; 64 bits; R426; reset choice 0 -/
  warmAt : Nat := 0
  /-- pages replaced at a flip that a cycle released before it still reads; 10 bits; R445; reset 0 -/
  tblHeld : Nat := 0
  /-- table bytes waiting for the flip: table, offset, data, work id; R445; reset none -/
  tblStaged : List TblPart := []
deriving DecidableEq, Repr, Inhabited

/-- A dual-contact point (R463). -/
structure DualSt where
  /-- validated states of the two contacts as last evaluated, none before the first; 1 bit each; R463; reset none -/
  a : Option Bool := none
  b : Option Bool := none
  /-- 0 AGREE, 1 PENDING, 2 DISCREPANT -/
  state : Nat := 0
  since : Nat := 0
  v : Bool := false
deriving DecidableEq, Repr, Inhabited

/-- Interlocking and safety. -/
structure SafeFn where
  /-- dual-contact points by entry; R463; reset AGREE at 0 -/
  duals : Tbl DualSt := []
  /-- MSL connections by entry; R469; reset off -/
  conns : Tbl ConnSt := []
  /-- stored confirmation, key 0xFF02; 32 bits; R459; reset none -/
  confirmed : Option Word := none
  /-- pending check value of a pre-confirmed epoch; 32 bits; R460; reset none -/
  preConfirmed : Option Word := none
  /-- CONFIRM_TAI; 64 bits; R471; reset 0 -/
  confirmTai : Nat := 0
deriving DecidableEq, Repr, Inhabited

/-- A fault log entry (R489). -/
structure FaultEnt where
  tai : Nat := 0
  seq : Nat := 0
  code : Nat := 0
  cls : Nat := 0
  quality : Byte := 0#8
  whr : Word := 0#32
  data0 : Word := 0#32
  data1 : Word := 0#32
  count : Nat := 1
deriving DecidableEq, Repr, Inhabited

/-- Supervision: Tally, self-test, health, leases, fault log. -/
structure Superv where
  /-- Tally runs; 1 bit; R483; reset 0 -/
  tallyOn : Bool := false
  /-- PERIOD_US; 32 bits; R492; reset 100000 -/
  periodUs : Nat := 100000
  /-- CLK: 1 XS; 8 bits; R492; reset 0 -/
  clk : Nat := 0
  /-- TALLY_CFG change waiting for the next period: PERIOD_US, CLK; R492; reset none -/
  tallyNext : Option (Nat × Nat) := none
  /-- fuses WDF; 2 bits; R480; reset 0b00 -/
  wdf : Nat := 0
  /-- instant the period began; 64 bits; R480; reset choice 0 -/
  periodAt : Nat := 0
  /-- period length in force in ticks, and that of early service; 32 bits; R480, R483; reset 3200 -/
  ticks : Nat := 3200
  /-- slots satisfied in this period; 32 bits; R482; reset 0 -/
  satisfied : Word := 0#32
  /-- slots armed; 32 bits; R483; reset 0 -/
  armed : Word := 0#32
  /-- slots whose task has had an IN_WINDOW check-in since program start; 32 bits; R483; reset 0 -/
  ready : Word := 0#32
  /-- slots excused in this period; 32 bits; R483; reset 0 -/
  excused : Word := 0#32
  /-- periods still to be evaluated only for unchanged tasks; 2 bits; R483; reset 0 -/
  switchPeriods : Nat := 0
  /-- slots whose task the epoch switch changed, not evaluated in those periods; 32 bits; R483; reset 0 -/
  switchSlots : Word := 0#32
  /-- EARLY counters per slot; R481; reset 0 -/
  early : Tbl Nat := []
  /-- DUPLICATE and LATE counts per slot; R481; reset 0 -/
  dups : Tbl Nat := []
  /-- T00 and T01 passed the last period; 2 bits; R485; reset 0 -/
  stewardOk : Bool := false
  /-- TRIPS since power-up, always-on latch; 16 bits; R492; reset 0 -/
  trips : Nat := 0
  /-- instants of recent trips; R486; reset none -/
  tripAt : List Nat := []
  /-- trip cause latched by the always-on domain and not yet logged: mask, kind; R485; reset none -/
  tripLatched : Option (Word × Nat) := none
  /-- TALLY_STORM; 1 bit; R486; reset 0 -/
  storm : Bool := false
  /-- SLICE_MS; 16 bits; R493; reset 100 (choice: the image gives it) -/
  sliceMs : Nat := 100
  /-- SRAM_SCRUB_S; 16 bits; R493; reset 10 -/
  sramS : Nat := 10
  /-- MRAM_SCRUB_MIN; 16 bits; R493; reset 60 -/
  mramMin : Nat := 60
  /-- PATROL_DAYS; 8 bits; R493; reset 7 -/
  patrolDays : Nat := 7
  /-- instants of the last pass of each test: 0 SRAM scrub, 1 MRAM scrub, 2 flash patrol, 3 health report, 16 + e slice of engine e;
  64 bits each; R475, R477; reset 0 (choice) -/
  testAt : Tbl Nat := []
  /-- RUN_NOW in progress; 1 bit; R493; reset 0 -/
  runNow : Bool := false
  /-- health counters: ECC_CORR, ECC_UNCORR, UNIT_CHECKS, LOCKSTEP, SLICES, SLICE_FAILS, COUPLER_FAILS, LINK_ERRORS, EARLY, DUP,
  REVOCATIONS; R491; reset 0 -/
  ctr : Tbl Nat := []
  /-- STATE of the report: worst class since power-up; 8 bits; R491; reset 0 -/
  worst : Nat := 0
  /-- newest health report, 64 bytes; R477; reset none -/
  report : Option Bytes := none
  /-- number of reports built; 32 bits; R491; reset 0 -/
  reportSeq : Nat := 0
  /-- revocations per lease in the last 10 s: resource key to instants; R488; reset none -/
  revoked : Tbl (List Nat) := []
  /-- fault log, newest first; 8,192 × 32 bytes; R489; reset empty -/
  log : List FaultEnt := []
  /-- SEQ of the next entry; 32 bits; R489; reset 0 -/
  logSeq : Nat := 0
  /-- Steward restarts since power-up; 8 bits; R556; reset 0 -/
  stewardRestarts : Nat := 0
deriving DecidableEq, Repr, Inhabited

/-- A key-store slot (R501). -/
structure KeySlot where
  kind : Nat := 0
  key : Bytes := []
  maxRole : Nat := 0
deriving DecidableEq, Repr, Inhabited

/-- A session (R504-R506). -/
structure Session where
  id : Word := 0#32
  role : Nat := 0
  cred : Nat := 0
  idleS : Nat := 600
  usb : Bool := false
  pending : Bool := false
  hostNonce : Bytes := []
  devNonce : Bytes := []
  /-- instant of the last request naming it -/
  last : Nat := 0
deriving DecidableEq, Repr, Inhabited

/-- An armed debug token (R513, R514). -/
structure Token where
  ports : Byte := 0#8
  notBefore : Nat := 0
  notAfter : Nat := 0
  serial : Word := 0#32
deriving DecidableEq, Repr, Inhabited

/-- An audit log entry (R515). -/
structure AuditEnt where
  tai : Nat := 0
  seq : Nat := 0
  event : Nat := 0
  port : Nat := 0
  result : Nat := 0
  detail : Bytes := []
deriving DecidableEq, Repr, Inhabited

/-- Lifecycle, keys, sessions and debug. -/
structure Secure where
  /-- lifecycle state, from its fuse groups; 3 bits; R495; reset BLANK -/
  life : Lifecycle := .blank
  /-- module serial number, fused; 32 bits; R78; reset choice 0 -/
  serial : Word := 0#32
  /-- key store slots 0-31; R501; reset empty -/
  keys : Tbl KeySlot := []
  /-- KEY_SEQ stored; 32 bits; R502; reset 0 -/
  keySeq : Nat := 0
  /-- sessions, pending or open; at most 8; R505; reset none -/
  sessions : List Session := []
  /-- next session handle; 32 bits; R516; reset choice 1 -/
  nextSession : Nat := 1
  /-- nonces drawn; model's counter of a free value; R506; reset choice 0 -/
  draws : Nat := 0
  /-- instants of failed SES_AUTH per port (0 host, 1 USB); R507; reset none -/
  failures : Tbl (List Nat) := []
  /-- lockout end per port, 0 for none; 64 bits; R507; reset 0 -/
  lockout : Tbl Nat := []
  /-- audit log, newest first; 1,024 entries; R515; reset empty -/
  audit : List AuditEnt := []
  /-- SEQ of the next audit entry; 32 bits; R515; reset 0 (choice) -/
  auditSeq : Nat := 0
  /-- armed token; R514; reset none -/
  token : Option Token := none
  /-- erase of RETIRED in progress; 1 bit; R498; reset 0 -/
  erasing : Bool := false
  /-- identity key disabled; 1 bit; R498; reset 0 -/
  identityOff : Bool := false
  /-- TAP instruction in force; 8 bits; R510; reset 0xFF BYPASS -/
  tapIr : Nat := 0xFF
  /-- a refusal has been logged since the TAP reset; 1 bit; R510; reset 0 -/
  tapRefused : Bool := false
  /-- boundary cells preloaded; bytes; R510; reset choice empty -/
  boundary : Bytes := []
  /-- debug session level per port (0 TAP, 1 USB): 0 none, 1 observe, 2 control; R509; reset 0 -/
  dbg : Tbl Nat := []
  /-- attaches that wait until full service, bit 0 TAP and bit 1 USB; 2 bits; R511; reset none -/
  dbgWait : BitVec 2 := 0#2
  /-- bytes that debug wrote to MRAM by offset; model, log entry 29; R575; reset none -/
  mramRaw : Tbl (Option Byte) := []
  /-- Steward halted by control debug; 1 bit; R512; reset 0 -/
  stewardHalted : Bool := false
  /-- EXTEST in force; 1 bit; R512; reset 0 -/
  extest : Bool := false
  /-- last debug response: OP, STATUS, data; model's output port; R575; reset none -/
  dbgResp : Option (Nat × Nat × Bytes) := none
deriving DecidableEq, Repr, Inhabited

/-- Updates and firmware banks. -/
structure Update where
  /-- STATE of UPD_STATUS; 8 bits; R548; reset 0 -/
  state : Nat := 0
  /-- CAUSE; 8 bits; R548; reset 0 -/
  cause : Nat := 0
  /-- UPD_ID; 16 bits; R548; reset 0 -/
  id : Nat := 0
  /-- PHASE; 8 bits; R548; reset 0 -/
  phase : Nat := 0
  /-- header of the container; R544; reset empty -/
  header : Bytes := []
  /-- blocks stored; R545; reset none -/
  blocks : Tbl Bytes := []
  /-- parts of the verified manifest; R537; reset none -/
  parts : List UpdPart := []
  /-- the KIND 6 image of the verified update; R537; reset none -/
  image : Option Prog := none
  /-- TRIAL_S of the manifest; 16 bits; R537; reset 0 -/
  manifestTrial : Nat := 0
  /-- instant of the last UPD_ command; 64 bits; R545; reset choice 0 -/
  lastCmd : Nat := 0
  /-- boot selector ACTIVE: 0 A, 1 B; 8 bits; R538; reset 0 (choice) -/
  active : Nat := 0
  /-- boot selector STATE: 1 TRIAL; 8 bits; R538; reset 0 CONFIRMED -/
  trial : Bool := false
  /-- boot selector STARTS; 8 bits; R538; reset 0 -/
  starts : Nat := 0
  /-- boot selector TRIAL_S; 16 bits; R538; reset 0 -/
  trialS : Nat := 0
  /-- boot selector UPD_SEQ; 32 bits; R538; reset 0 -/
  updSeq : Nat := 0
  /-- trial window end as MONO; 64 bits; R540; reset none -/
  trialEnd : Option Nat := none
  /-- rollback floor; 32 bits; R540, R548; reset 0 (choice) -/
  floor : Nat := 0
  /-- firmware versions in bank A and bank B: Steward, system library, field dies FD0-FD3; 32 bits each; R78, R537; reset choice 0 -/
  fwA : List Word := List.replicate 6 0#32
  fwB : List Word := List.replicate 6 0#32
  /-- archived programs of bank A and bank B with their epochs; R538; reset none -/
  archA : Option (Prog × Nat × List EpochRec) := none
  archB : Option (Prog × Nat × List EpochRec) := none
  /-- revert copy of the retentive home; R540; reset none -/
  revertHome : Option Home := none
  /-- the recovery image waits for its refresh; 1 bit; R531; reset 0 -/
  refresh : Bool := false
  /-- versions in the recovery image; 32 bits each; R531; reset choice 0 -/
  recoveryFw : List Word := List.replicate 6 0#32
  /-- STATE of the partner; 8 bits; R548; reset 0 -/
  partnerState : Nat := 0
deriving DecidableEq, Repr, Inhabited

/-- A mailbox request being worked on (R561-R568). -/
structure Work where
  /-- work number, in acceptance order; model -/
  wid : Nat := 0
  mb : Nat := 0
  code : Nat := 0
  tag : Half := 0#16
  noIrq : Bool := false
  session : Word := 0#32
  role : Nat := 0
  payload : Bytes := []
  /-- the payload's CRC matched PCRC (R561) -/
  crcOk : Bool := true
  /-- instant of the doorbell -/
  rungAt : Nat := 0
  /-- steps 1-5 of R563 passed and the command may run -/
  accepted : Bool := false
  /-- the command has run and waits for its completion -/
  running : Bool := false
  /-- the command was answered PENDING and is deferred -/
  deferred : Bool := false
  /-- result of a deferred command waiting for the buffer: STATUS, payload -/
  result : Option (Nat × Bytes) := none
deriving DecidableEq, Repr, Inhabited

/-- A mailbox (R556, R564). -/
structure Mailbox where
  /-- MB_STATE[1:0]: 0 IDLE, 1 RUNNING, 2 DONE; 2 bits; R556; reset 0 -/
  state : Nat := 0
  /-- DEFERRED_RESULT; 1 bit; R556; reset 0 -/
  deferredResult : Bool := false
  /-- response count; 8 bits; R556; reset 0 -/
  responses : Nat := 0
  /-- MB_TAG; 16 bits; R556; reset 0 -/
  tag : Half := 0#16
  /-- doorbells ignored; 16 bits; R556; reset 0 -/
  ignored : Nat := 0
  /-- leases revoked; 16 bits; R556; reset 0 -/
  revokedN : Nat := 0
  /-- instant the lease began; 64 bits; R565; reset choice 0 -/
  leaseAt : Nat := 0
  /-- request buffer; 4,096 bytes; R556; reset 0 -/
  req : Memory := []
  /-- response buffer; 4,096 bytes; R556; reset 0 -/
  rsp : Memory := []
deriving DecidableEq, Repr, Inhabited

/-- The host port. -/
structure HostPort where
  /-- mailboxes MB0-MB7; R556; reset IDLE -/
  mb : Tbl Mailbox := []
  /-- requests taken or in work, in acceptance order; R568; reset none -/
  works : List Work := []
  /-- next work number; model; reset 1 -/
  nextWid : Nat := 1
  /-- IRQ_STATUS; 12 bits; R556; reset 0 -/
  irq : Word := 0#32
  /-- IRQ_ENABLE; 12 bits; R556; reset 0 -/
  irqEnable : Word := 0#32
  /-- latched high word of a 64-bit register; 32 bits; R557; reset choice 0 -/
  latch : Word := 0#32
  /-- value of the last window read (register, QSPI or status byte); model's output port; reset none -/
  readout : Bytes := []
  /-- PCIE_PERST_N is low; 1 bit; R552; reset choice 0 -/
  perst : Bool := false
  /-- host memory as the module has written it; R348, R571; reset empty -/
  hostMem : Memory := []
  /-- USB_VBUS present and enumerated; 1 bit; R574; reset 0 -/
  usb : Bool := false
  /-- MSI messages sent by group; model's output count; R559; reset 0 -/
  msi : Tbl Nat := []
  stream : HostStream := {}
deriving DecidableEq, Repr, Inhabited

/-- The whole module. -/
structure State where
  /-- ns since the model's origin, counted at the rate of MONO; model, log entry 2; reset choice 0 -/
  now : Nat := 0
  /-- instant of the last command on the time axis that the commands' `t` names, in ns; model, log entry 2; reset choice 0 -/
  axis : Nat := 0
  power : Power := {}
  bcr : Bcr := {}
  clk : Clocks := {}
  time : Timebase := {}
  cal : Calendar := {}
  ev : Events := {}
  img : Image := {}
  scan : Scan := {}
  ps : ProgStore := {}
  eng : Engines := {}
  rime : Rime := {}
  edit : Edit := {}
  fld : Field := {}
  panel : Panel := {}
  net : Net := {}
  ring : Ring := {}
  pair : Pair := {}
  ldg : Ledger := {}
  saf : SafeFn := {}
  sup : Superv := {}
  sec : Secure := {}
  upd : Update := {}
  host : HostPort := {}
  /-- commands that are waiting, first in first out; model; reset empty -/
  pending : List Instr := []
deriving DecidableEq, Repr, Inhabited

/-- The default trim curve of R131: points at −40 + 9k °C with 0.034 ppm/K² × (T − 25)², in 0.01 ppm. -/
def defaultCurve : List (Int × Int) :=
  (List.range 16).map fun k =>
    let d : Int := -40 + 9 * (k : Int)
    (d, (34 * (d - 25) * (d - 25) + 5) / 10)

/-- The module before its first power-up: OFF, lifecycle BLANK, TIME_LOST latched, every count at 0 (R64, R120, R578). -/
def State.reset : State :=
  { cal := { curve := defaultCurve } }

end Sys2Proof.Machine
end

