-- ==== Sys2Proof/Machine/Ops.lean ====
section
/-! DEFINITION. The named operations over the state that the meanings share: time and its quality octet, findings and the
fault log, events, interrupts, the image, tables of parts, and answers of mailbox commands. -/

namespace Sys2Proof.Machine

/-! ### Parts by number -/

/-- A task's runtime state. -/
def State.task (s : State) (n : Nat) : TaskRt := s.scan.tasks.get {} n
/-- The state with a task's runtime state replaced. -/
def State.setTask (s : State) (n : Nat) (v : TaskRt) : State :=
  { s with scan.tasks := s.scan.tasks.set {} n v }
/-- A field channel. -/
def State.chan (s : State) (n : Nat) : Channel := s.fld.ch.get {} n
/-- The state with a channel replaced. -/
def State.setChan (s : State) (n : Nat) (v : Channel) : State := { s with fld.ch := s.fld.ch.set {} n v }
/-- A field die. -/
def State.die (s : State) (n : Nat) : FieldDie := s.fld.dies.get {} n
/-- The state with a field die replaced. -/
def State.setDie (s : State) (n : Nat) (v : FieldDie) : State := { s with fld.dies := s.fld.dies.set {} n v }
/-- A mailbox. -/
def State.mbox (s : State) (n : Nat) : Mailbox := s.host.mb.get {} n
/-- The state with a mailbox replaced. -/
def State.setMbox (s : State) (n : Nat) (v : Mailbox) : State := { s with host.mb := s.host.mb.set {} n v }
/-- A region, by physical number. -/
def State.region (s : State) (n : Nat) : Region := s.eng.regions.get {} n
/-- The state with a region replaced. -/
def State.setRegion (s : State) (n : Nat) (v : Region) : State :=
  { s with eng.regions := s.eng.regions.set {} n v }
/-- A register bank, by physical engine and class. -/
def State.bank (s : State) (e c : Nat) : Bank := s.eng.banks.get {} (4 * e + c)
/-- The state with a register bank replaced. -/
def State.setBank (s : State) (e c : Nat) (v : Bank) : State :=
  { s with eng.banks := s.eng.banks.set {} (4 * e + c) v }
/-- The runtime state of a ring station at its controller. -/
def State.station (s : State) (n : Nat) : StationRt := s.ring.st.get {} n
/-- The state with a station replaced. -/
def State.setStation (s : State) (n : Nat) (v : StationRt) : State := { s with ring.st := s.ring.st.set {} n v }

/-! ### Time -/

/-- The part of a phase correction made in so many ns: the rate changes by at most ±100 ppm (R97). -/
def slewPart (d : Nat) (owed : Int) : Int := clampI (-((d / 10000 : Nat) : Int)) ((d / 10000 : Nat) : Int) owed

/-- The count that `d` ns of the axis give: the disciplined rate and its remainder, and a slew (R97). -/
def counted (d : Nat) (s : State) : Nat :=
  ((d : Int) + ((d : Int) * s.time.freqPpb + s.time.frac) / (10 ^ 9 : Int) + slewPart d s.time.slew).toNat

/-- Time moves on to the instant `t` of the axis; an instant earlier than the last command's counts as that one. While the
timebase runs, MONO and TAI advance at its disciplined rate and follow a slew, and with them the count on which every lease,
filter and discrepancy time of the model runs (R97; log entry 2). -/
def advance (t : Nat) (s : State) : State :=
  let d := t - s.axis
  if s.time.running then
    { s with
      axis := s.axis + d
      now := s.now + counted d s
      time.mono := s.time.mono + counted d s
      time.tai := s.time.tai + counted d s
      time.slew := s.time.slew - slewPart d s.time.slew
      time.frac := ((d : Int) * s.time.freqPpb + s.time.frac) % (10 ^ 9 : Int) }
  else { s with axis := s.axis + d, now := s.now + d }

/-- The largest `n ≤ cap` with `2⁻ⁿ ≥ den / num`, none when there is none (R112). -/
def accuracy (num den : Nat) : Nat → Option Nat
  | 0 => if den ≤ num then some 0 else none
  | n + 1 => if 2 ^ (n + 1) * den ≤ num then some (n + 1) else accuracy num den n

/-- TimeAccuracy in holdover: 1 µs per 60 s elapsed plus 60 ns, at most 23 (R112). -/
def holdoverAccuracy (elapsedNs : Nat) : Nat :=
  (accuracy (10 ^ 9 * (6 * 10 ^ 7)) (elapsedNs + 60 * (6 * 10 ^ 7)) 23).getD 31

/-- TimeAccuracy in FREE: 3 ppm of the time elapsed plus 31 µs, 31 when nothing satisfies it (R112). -/
def freeAccuracy (elapsedNs : Nat) : Nat :=
  (accuracy (10 ^ 9 * 10 ^ 6) (3 * elapsedNs + 31000 * 10 ^ 6) 30).getD 31

/-- The quality octet of the FREE row, counted from the last lock or setting (R109, R112, R113). -/
def freeQuality (s : State) : Byte :=
  BitVec.ofNat 8 (128 * bit s.cal.leapLoaded + 32 + freeAccuracy (s.time.tai - s.time.setAt))

/-- ClockFailure while a crystal has failed (R112). -/
def crystalFailed (s : State) : Byte := if s.clk.xmFail || s.clk.xsFail then 0x40#8 else 0#8

/-- LeapSecondsKnown in RUN: of the source in use, of the time before its loss, or of the leap table (R112). -/
def leapKnown (s : State) : Bool :=
  if s.time.state = 2 then
    match s.time.active with
    | 1 => s.time.ptpUtc.isSome || s.cal.leapLoaded
    | 4 => s.ring.ctlQuality.getLsbD 7
    | _ => s.time.irigLeap || s.cal.leapLoaded
  else if s.time.state = 3 then s.time.qualityBefore.getLsbD 7
  else s.cal.leapLoaded

/-- The quality octet in SLUMBER: ClockNotSynchronized as on entry, the accuracy of holdover or FREE from the time of entry
(R112, R113). -/
def slumberQuality (s : State) : Byte :=
  BitVec.ofNat 8 (128 * bit (leapKnown s) + if s.time.heldAtEntry then holdoverAccuracy (s.now - s.power.slumberAt)
    else 32 + freeAccuracy (s.now - s.power.slumberAt))

/-- The quality octet that a stamp taken now carries, before ClockFailure of a failed crystal is added (R112, R381). -/
def quality0 (s : State) : Byte :=
  if s.power.state = .slumber then slumberQuality s
  else if s.time.state = 2 then
    match s.time.active with
    | 1 => BitVec.ofNat 8 (128 * bit (s.time.ptpUtc.isSome || s.cal.leapLoaded) + 24)
    | 4 => s.ring.ctlQuality
    | _ => BitVec.ofNat 8 (128 * bit (s.time.irigLeap || s.cal.leapLoaded) + 23)
  else if s.time.state = 3 then
    BitVec.ofNat 8 (128 * bit (s.time.qualityBefore.getLsbD 7) + holdoverAccuracy (s.now - s.time.lostAt))
  else freeQuality s

/-- The quality octet that a stamp taken now carries (R112). -/
def quality (s : State) : Byte :=
  if s.time.timeLost then 0x7F#8 else quality0 s ||| crystalFailed s

/-- The module counts its program's boundaries and answers as RUN, with the timebase on. -/
def inRun (s : State) : Bool := s.power.state = .run

/-- Full service in RUN (R527). -/
def fullService (s : State) : Bool := s.power.state = .run && s.power.service = .full

/-- RUN with inputs sampled and stamped: early or full service, recovery or RETIRED_HOLD (R526, R529, R530). -/
def serving (s : State) : Bool :=
  s.power.state = .run && (s.power.service = .early || s.power.service = .full || s.power.service = .recovery
    || s.power.service = .retiredHold)

/-! ### Interrupts -/

/-- The MSI group of an IRQ_STATUS bit (R559). -/
def irqGroup (n : Nat) : Nat := if n < 8 then 0 else if n = 8 then 1 else if n = 11 then 3 else 2

/-- A bit of IRQ_STATUS is set; an enabled bit that changes from 0 to 1 sends its group's MSI, counted (R559). -/
def setIrq (n : Nat) (s : State) : State :=
  if s.host.irq.getLsbD n then s
  else
    { s with
      host.irq := s.host.irq ||| (1#32 <<< n)
      host.msi := if s.host.irqEnable.getLsbD n
        then s.host.msi.set 0 (irqGroup n) (s.host.msi.get 0 (irqGroup n) + 1) else s.host.msi }

/-- HOST_IRQ_N is low (R559). -/
def hostIrqLow (s : State) : Bool := decide (s.host.irq &&& s.host.irqEnable ≠ 0#32)

/-- STATE[3:0] of the register window (R556). -/
def stateBits (s : State) : Nat :=
  (match s.power.service with
    | .early => 1 | .full => 2 | .recovery | .retiredHold => 3 | _ => 0)
  + 4 * bit (s.power.state = .holdup) + 8 * bit (s.power.state = .slumber)

/-- IRQ_STATUS[11] is set where STATE[3:0] differs from what it was in `old` (R560). -/
def noteState (old s : State) : State := if stateBits old = stateBits s then s else setIrq 11 s

/-! ### Findings and the fault log -/

/-- WHERE of a fault log entry: level, region or die, and the numbered part (R489). -/
def whr (level die part : Nat) : Word := BitVec.ofNat 32 (level + 256 * die + 65536 * part)

/-- An occurrence folds into an entry (R474). -/
def folds (tai code cls : Nat) (w : Word) (e : FaultEnt) : Bool :=
  e.code = code && e.cls = cls && e.whr = w && decide (tai ≤ e.tai + 10 ^ 9) && decide (e.tai ≤ tai) && code ≠ 9

/-- The log with one occurrence folded into the newest entry that takes it. -/
def foldInto (tai code cls : Nat) (w : Word) : List FaultEnt → List FaultEnt
  | [] => []
  | e :: r =>
    if folds tai code cls w e then { e with count := min (e.count + 1) (2 ^ 32 - 1) } :: r
    else e :: foldInto tai code cls w r

/-- A finding or an information entry: counted in the health report and written to the fault log (R474, R489, R491). -/
def logFault (code cls : Nat) (w d0 d1 : Word) (s : State) : State :=
  { s with
    sup.worst := max s.sup.worst (cls - 1)
    sup.log := if s.sup.log.any (folds s.time.tai code cls w) then foldInto s.time.tai code cls w s.sup.log
      else ({ tai := s.time.tai, seq := s.sup.logSeq, code := code, cls := cls, quality := quality s, whr := w,
              data0 := d0, data1 := d1, count := 1 } :: s.sup.log).take 8192
    sup.logSeq := if s.sup.log.any (folds s.time.tai code cls w) then s.sup.logSeq
      else (s.sup.logSeq + 1) % 2 ^ 32 }

/-- A counter of the health report: it wraps at 2³² (R477, R491). Keys: 0 ECC_CORR, 1 ECC_UNCORR, 2 UNIT_CHECKS,
3 LOCKSTEP, 4 SLICES, 5 SLICE_FAILS, 6 COUPLER_FAILS, 7 LINK_ERRORS, 8 TALLY_EARLY, 9 TALLY_DUP, 10 REVOCATIONS. -/
def count (k n : Nat) (s : State) : State :=
  { s with sup.ctr := s.sup.ctr.set 0 k ((s.sup.ctr.get 0 k + n) % 2 ^ 32) }

/-- A number as a word. -/
def w32 (n : Nat) : Word := BitVec.ofNat 32 n

/-- An instant as a free value where the spec states none: the counter moves on (log entry 5). -/
def draw (s : State) : Word × State := (Config.free s.eng.fresh, { s with eng.fresh := s.eng.fresh + 1 })

/-! ### Claims, holds, abdication -/

/-- The claim as applied: VALID, HEALTH, PREFERENCE, SEED (R403). -/
def claimOf (s : State) : Half :=
  BitVec.ofNat 16 (32768 * bit s.pair.valid + 256 * (s.pair.health % 128) + 2 * (s.pair.preference % 128) % 256
    + bit s.pair.seed)

/-- Every field die is placed in hold (R318). -/
def holdAll (s : State) : State :=
  { s with fld.dies := s.fld.dies.over {} (fun _ d => { d with hold := true, holding := true }) [0, 1, 2, 3] }

/-- A channel's die. -/
def dieOf (ch : Nat) : Nat := ch / 16

/-- A station hears an admitted controller within its lease, with VALID set (R316, R380). -/
def ctlValid (s : State) (k : Nat) : Bool :=
  let c := s.ring.ctl.get {} k
  c.admission = 2 && c.claim.msb && decide (s.now < c.lastHeard + 250000 * c.leaseQ)

/-- The controller that a station obeys: the highest valid claim (R316, R380). -/
def obeyedCtl (s : State) : Option (Fin 3) :=
  if ctlValid s 1 && !(ctlValid s 2 && decide ((s.ring.ctl.get {} 1).claim < (s.ring.ctl.get {} 2).claim)) then some 1
  else if ctlValid s 2 then some 2 else none

/-- The claim source that carries the module's commands to its dies: its own logic side, and on a station the controller it
obeys (R316). -/
def cmdSource (s : State) : Option (Fin 3 × Half) :=
  if s.pair.role = .station then (obeyedCtl s).map fun k => (k, (s.ring.ctl.get {} k).claim)
  else some (0, claimOf s)

/-- OWNER of an ownership entry: 0 SCAN, 1 REFLEX, 2 MERGED (R260). -/
def ownMode (o : OwnerEntry) : Nat := (o.extractLsb' 0 2).toNat

/-- Rime sends the commands of the channels that it owns: not while it is stopped, nor with no program (R266, R267). -/
def rimeSends (s : State) : Bool := decide (s.rime.mode ≠ 0) && !s.rime.stopped

/-- The command frame of a channel now: the claim, FRESH, the scan's part and the rule's part (R261, R295, R314). A REFLEX
channel without a rule is de-energised in full service. -/
def cmdFrame (src : Fin 3) (claim : Half) (s : State) (ch : Nat) : CmdFrame :=
  let c := s.chan ch
  let o := ownMode c.owner
  { crcOk := true, src := src, claim := claim, fresh := c.freshOwed || decide (o ≠ 0), qx := if o = 1 then none else c.qx
    rule := if o = 0 then none
      else if o = 1 ∧ s.rime.mode = 2 ∧ !s.rime.set.any fun p => p.2.target % 4096 = ch then some false else c.ruleCmd }

/-- A command frame leaves the logic side for a channel, for one that Rime owns only while Rime sends (R266, R267, R295, R580). -/
def sendCmd (ch : Nat) (s : State) : State :=
  match cmdSource s with
  | some (src, claim) =>
    if serving s && (decide (ownMode (s.chan ch).owner = 0) || rimeSends s) then
      s.setChan ch { s.chan ch with lastCmd := some (cmdFrame src claim s ch), cmdAt := s.now, freshOwed := false }
    else s
  | none => s

/-- A change of claim sends a command frame to every channel (R580). -/
def sendAllCmds (s : State) : State := (List.range 64).foldl (fun s ch => sendCmd ch s) s

/-- The event controller's waiting records receive one (R106, R107; log entry 9). -/
def raise (r : EvRec) (s : State) : State := { s with ev.inbox := s.ev.inbox ++ [r] }

/-- An event at the instant `now`, with the quality of now (R110). -/
def eventNow (src kind : Nat) (data : Word) (s : State) : EvRec :=
  { tai := s.time.tai, source := src, kind := kind, quality := quality s, data := data }

/-- An event of a source is raised now. -/
def raiseNow (src kind : Nat) (data : Word) (s : State) : State := raise (eventNow src kind data s) s

/-- A change of the claim: EV087, and a command frame to every channel (R106, R580). -/
def claimChanged (s : State) : State := sendAllCmds (raiseNow 87 6 (w32 (claimOf s).toNat) s)

/-- VALID is cleared at once (R406). -/
def clearValid (s : State) : State :=
  if s.pair.valid then claimChanged { s with pair.valid := false } else s

/-- A disqualifying fault clears VALID; a pair member abdicates and logs the cause (R43, R406, R408). -/
def disqualify (cause : Nat) (s : State) : State :=
  let s1 := clearValid { s with power.disqualified := true, pair.handover := none }
  if s.pair.role = .keeper ∨ s.pair.role = .apprentice then
    logFault 0x51 3 (whr 4 0 0) (w32 cause) 0#32 { s1 with power.abdicated := true }
  else s1

/-! ### The image store -/

/-- The space and index of an image address (R10, R11). -/
def spaceOf (a : Nat) : Nat := a / 2 ^ 28
/-- The index within the space. -/
def indexOf (a : Nat) : Nat := a % 2 ^ 28
/-- The image address of a point. -/
def imgAddr (space index : Nat) : Nat := 2 ^ 28 * space + index

/-- The stored value of a point. -/
def imgVal (s : State) (a : Nat) : Word := s.img.val.get 0#32 a
/-- The value of a point is stored. -/
def setImg (a : Nat) (v : Word) (s : State) : State := { s with img.val := s.img.val.set 0#32 a v }
/-- The source quality of a point is stored; the default is STALE (R144). -/
def setQ (a : Nat) (q : BitVec 4) (s : State) : State := { s with img.q := s.img.q.set 2#4 a q }
/-- A value arrives from its source: VALID (R144, R145). -/
def setInput (a : Nat) (v : Word) (s : State) : State := setQ a 1#4 (setImg a v s)

/-- A boolean as a word. -/
def b32 (b : Bool) : Word := if b then 1#32 else 0#32

/-! ### Roles, regions -/

/-- The physical region of a logical one: in the 3-region partition the surviving regions in ascending order (R22). -/
def physRegion (s : State) (l : Nat) : Nat :=
  if s.power.threeRegion then
    ((List.range 4).filter fun r => !s.power.retired.getLsbD r).getD l 4
  else l

/-- The logical region of a physical one. -/
def logRegion (s : State) (p : Nat) : Nat :=
  if s.power.threeRegion then
    ((List.range p).filter fun r => !s.power.retired.getLsbD r).length
  else p

/-- A physical region is clocked and powered: in RUN where it is not retired, and on a STATION only until it has booted (R21, R66).
DEDUCED: a station has booted at full service. In SLUMBER the SRAM is held while nothing reaches it; HOLDUP takes the power away. -/
def regionUp (s : State) (p : Nat) : Bool :=
  decide (s.power.state = .run) && !s.power.retired.getLsbD p
    && !(decide (s.pair.role = .station) && decide (s.power.service = .full))

/-- The program in force. -/
def prog (s : State) : Prog := s.ps.prog.getD {}

/-- The partition in use (R22). -/
def partition (s : State) : Partition := if s.power.threeRegion then (prog s).part3 else (prog s).part4

/-- The partition that a task's cycle runs under: that of the program before the switch for a cycle released under it
(R161, R279). -/
def partitionFor (s : State) (n : Nat) : Partition :=
  match s.ps.oldProg with
  | some p =>
    if (s.task n).state ≠ .idle ∧ (s.task n).epoch ≠ s.ps.epoch then
      (if s.power.threeRegion then p.part3 else p.part4)
    else partition s
  | none => partition s

/-- The declaration of a task in the partition in use. -/
def taskDecl (s : State) (n : Nat) : Option TaskDecl := (partitionFor s n).tasks.find? fun d => d.num = n

/-- The engine clock in kHz (R46, R95). -/
def engineKhz (s : State) : Nat := match s.power.profile with
  | 0 => 600000 | 1 => 450000 | _ => 300000

/-! ### Mailbox answers -/

/-- A command's answer: a status with its response payload, or none yet (R564). -/
inductive Reply where
  | done (status : Nat) (payload : Bytes)
  | later
deriving DecidableEq, Repr

/-- DONE and the refusals (R570). -/
def DONE : Nat := 0
def PENDING : Nat := 1
def UNKNOWN_COMMAND : Nat := 0x10
def NOT_PERMITTED : Nat := 0x11
def BUSY : Nat := 0x12
def OWNED : Nat := 0x13
def WRONG_STATE : Nat := 0x14
def NOT_ATOMIC : Nat := 0x15
def CHECK_FAILED : Nat := 0x16
def NO_SPACE : Nat := 0x17
def NOT_PRESENT : Nat := 0x18

/-- The response message of a request (R561). -/
def responseBytes (w : Work) (status : Nat) (payload : Bytes) : Bytes :=
  leBytes 2 w.code ++ leBytes 2 w.tag.toNat ++ leBytes 2 (payload.take 4080).length ++ leBytes 2 status
    ++ leBytes 4 w.session.toNat ++ leBytes 4 (pcrc (payload.take 4080)).toNat ++ payload.take 4080

/-- A response is written into its mailbox's buffer (R560, R561, R564, R565). -/
def writeResponse (w : Work) (status : Nat) (payload : Bytes) (deferred : Bool) (s : State) : State :=
  let m := s.mbox w.mb
  let s1 := s.setMbox w.mb
    { m with
      state := 2
      deferredResult := deferred
      responses := (m.responses + 1) % 256
      tag := w.tag
      leaseAt := if deferred then s.now else m.leaseAt
      rsp := Memory.writeBytes [] 0 (responseBytes w status payload) }
  if w.noIrq && !deferred then s1 else setIrq w.mb s1

/-- The works without the one of a number. -/
def dropWork (wid : Nat) (s : State) : State :=
  { s with host.works := s.host.works.filter fun w => w.wid ≠ wid }

/-- A work is replaced by its new state. -/
def putWork (w : Work) (s : State) : State :=
  { s with host.works := s.host.works.map fun v => if v.wid = w.wid then w else v }

/-- A work ends with its result: the response is written, or the result of a deferred command waits for the buffer
(R564, R566). -/
def finish (w : Work) (status : Nat) (payload : Bytes) (s : State) : State :=
  if w.deferred then putWork { w with result := some (status, payload) } s
  else writeResponse w status payload false (dropWork w.wid s)

/-- The work of a number ends with its result; nothing where there is no such work. -/
def finishWid (wid status : Nat) (payload : Bytes) (s : State) : State :=
  match s.host.works.find? fun w => w.wid = wid with
  | some w => finish w status payload s
  | none => s

/-- The accepted request of a mailbox with a code, not yet run (R563). -/
def findRequest (mb code : Nat) (s : State) : Option Work :=
  s.host.works.find? fun w => w.mb = mb && w.code = code && w.accepted && !w.running && w.result.isNone

/-- A mailbox command runs: the request of that code in the mailbox, if there is one, takes its effect and its answer;
with no such request nothing happens (R563, R564; log entry 10). -/
def runCommand (t mb code : Nat) (f : Work → State → Reply × State) (s : State) : State :=
  let s0 := advance t s
  match findRequest mb code s0 with
  | none => s0
  | some w =>
    match f w s0 with
    | (.done status payload, s1) => finish ((s1.host.works.find? fun v => v.wid = w.wid).getD w) status payload s1
    | (.later, s1) => putWork { w with running := true } s1

/-- The checks of a card in order: the first that holds gives its status (R563). -/
def firstStatus : List (Bool × Nat) → Option Nat
  | [] => none
  | (b, st) :: r => if b then some st else firstStatus r

/-- A command whose card checks come first, each answered with an empty payload; the effect follows when none holds
(R563). -/
def checked (checks : List (Bool × Nat)) (k : Reply × State) (s : State) : Reply × State :=
  match firstStatus checks with
  | some st => (.done st [], s)
  | none => k

/-- The module is in HOLDUP. -/
def inHoldup (s : State) : Bool := s.power.state = .holdup

/-- The module is an APPRENTICE or a STATION. -/
def isApprentice (s : State) : Bool := s.pair.role = .apprentice
def isStation (s : State) : Bool := s.pair.role = .station
def isSolo (s : State) : Bool := s.pair.role = .solo
def isKeeper (s : State) : Bool := s.pair.role = .keeper
/-- The module is a member of a pair. -/
def inPair (s : State) : Bool := isKeeper s || isApprentice s

/-- A record goes to the partner while this KEEPER ships (R395). -/
def pairSend (r : PairTx) (s : State) : State :=
  if s.pair.shipping then { s with pair.sent := r :: s.pair.sent } else s

/-- An instant lies at or after another plus a span. -/
def passed (now since span : Nat) : Bool := decide (since + span ≤ now)

end Sys2Proof.Machine
end

