-- ==== Sys2Proof/Machine/Release.lean ====
section
/-! DEFINITION. Release of tasks, the event FIFO and its consumers, and the wake from SLUMBER. -/

namespace Sys2Proof.Machine

/-! ### Task release (R147-R149) -/

/-- An error task (R147). -/
def isErrorTask (n : Nat) : Bool := decide (48 ≤ n)
/-- An event task (R147). -/
def isEventTask (n : Nat) : Bool := decide (16 ≤ n ∧ n < 48)
/-- A periodic task (R147). -/
def isPeriodicTask (n : Nat) : Bool := decide (1 ≤ n ∧ n < 16)

/-- Register-bank class of a task: 0 BASE, 1 periodic, 2 event, 3 error (R148, R185). -/
def taskClass (n : Nat) : Nat := if n = 0 then 0 else if n < 16 then 1 else if n < 48 then 2 else 3

/-- Entries of the queue of an error task (R149). -/
def queueSize (n : Nat) : Nat := if n = 48 then 62 else if n = 49 then 2 else 48

/-- TASK_CFG's value for a task, where one was set (R182). -/
def cfgOf (s : State) (n : Nat) : TaskCfg := (s.scan.cfg.get none n).getD {}

/-- EXTEST or a halt under control debug has stopped task release (R512). -/
def debugStopped (s : State) : Bool := s.sec.extest || s.sec.stewardHalted || decide (s.eng.halted ≠ 0#16)

/-- The task may be released: full service, a running program that contains it, no restart due, not disabled, no retirement
waiting, no debug stop, no listening for a partner, no SLUMBER entry that a VIN drop stopped, and no clocks still to start
after a wake (R44, R65, R70, R147, R165, R182, R391, R512). -/
def mayRelease (s : State) (n : Nat) : Bool :=
  !debugStopped s && !s.power.waking && decide (s.power.slumberStep = 0) && decide (s.pair.state ≠ 1) && fullService s
    && s.power.restart.isNone && decide (s.scan.mode = 2) && !s.power.failed && !s.power.remapPending
    && (taskDecl s n).isSome && ((cfgOf s n).enable || !(isPeriodicTask n || isEventTask n))

/-- A task's cycle is released (R147, R161). -/
def startRelease (n : Nat) (c : Cause) (s : State) : State :=
  let r := s.task n
  s.setTask n { r with state := .released, cause := c, releasedAt := s.time.mono, epoch := s.ps.epoch
                       late := r.lateNext, lateNext := false }

/-- The scan of a committed epoch's switch has come: every release from this boundary on waits for it (R279). -/
def switchDue (s : State) : Bool :=
  decide (s.edit.state = 2) && decide (s.scan.mode = 2) && s.scan.atBoundary && decide (s.edit.switchScan ≤ s.scan.scan)
    && (!isApprentice s || s.edit.switchAt.isSome)

/-- A release arrives for a task: released at once when it is idle, else pending, queued or skipped (R149). One that comes at a
switch that is due, or in the hold of a changed task, waits; BASE is released again after the switch in any case (R279,
R280). -/
def release (n : Nat) (c : Cause) (s : State) : State :=
  let r := s.task n
  let held := r.held || switchDue s
  if held && !isErrorTask n then
    if n = 0 then s
    else if r.heldRelease = none then s.setTask n { r with heldRelease := some c }
    else s.setTask n { r with skipped := r.skipped + 1, lateNext := true }
  else if r.state = .idle && !held then startRelease n c s
  else if isErrorTask n then
    if r.queue.length < queueSize n then s.setTask n { r with queue := r.queue ++ [c] }
    else s.setTask n { r with skipped := r.skipped + 1, lateNext := true }
  else if isPeriodicTask n then s.setTask n { r with skipped := r.skipped + 1, lateNext := true }
  else if r.pending = none ∧ !s.power.releaseHold then s.setTask n { r with pending := some c }
  else s.setTask n { r with skipped := r.skipped + 1, lateNext := true }

/-- A release on the module's own account: an APPRENTICE takes its releases from the KEEPER alone (R396). -/
def releaseOwn (n : Nat) (c : Cause) (s : State) : State :=
  if mayRelease s n && !isApprentice s then release n c s else s

/-- After a cycle ends, the next release of the task starts: an error task's queue, a pending release, and BASE again at
once (R147, R149, R156). -/
def releaseNext (n : Nat) (s : State) : State :=
  let r := s.task n
  if r.held || switchDue s then s else
  match r.queue, r.pending with
  | c :: q, _ => startRelease n c (s.setTask n { r with queue := q })
  | [], some c => startRelease n c (s.setTask n { r with pending := none })
  | [], none => if n = 0 then releaseOwn 0 {} s else s

/-! ### Event FIFO (R110, R111, R578) -/

/-- Records the FIFO holds (R110). -/
def fifoSize : Nat := 8192

/-- A consumer whose next record is the one that leaves the FIFO gets its overflow marker begun or extended (R111);
the marker's SEQ is a free value (log entry 5). -/
def missRecord (consumer : Nat) (lost : EvRec) (s : State) : State :=
  match s.ev.markers.get none consumer with
  | some m => { s with ev.markers := s.ev.markers.set none consumer (some { m with lost := m.lost + 1 }) }
  | none =>
    { s with
      ev.markers := s.ev.markers.set none consumer
        (some { tai := s.time.tai, seq := (Config.free s.eng.fresh).toNat, source := 0xFF, kind := 4,
                quality := quality s, lost := 1, aux := lost.tai })
      eng.fresh := s.eng.fresh + 1 }

/-- The host stream is set up (R183, R573). -/
def streamOn (s : State) : Bool := decide (s.host.stream.ringAddr ≠ 0)

/-- A consumer at the index of the record that leaves moves on and misses it (R111). -/
def consumersMiss (lost : EvRec) (s : State) : State :=
  let i := s.ev.written - s.ev.fifo.length
  let s := if streamOn s ∧ s.ev.hostPos ≤ i then
    missRecord 1 lost { s with ev.hostPos := i + 1 } else s
  let s := match s.ev.usbPos with
    | some p => if p ≤ i then missRecord 2 lost { s with ev.usbPos := some (i + 1) } else s
    | none => s
  [1, 2].foldl (fun s c =>
    let p := s.ev.ringPos.get 0 c
    if (s.ring.ctl.get {} c).admission = 2 ∧ p ≤ i then
      missRecord (2 + c) lost { s with ev.ringPos := s.ev.ringPos.set 0 c (i + 1) } else s) s

/-- The SOE log takes a record; the newest 1,048,576 are held (R184, R443). -/
def soeAppend (r : EvRec) (s : State) : State :=
  { s with
    ev.soe := if s.ev.soe.length < 1048576 then s.ev.soe ++ [r] else s.ev.soe.tail ++ [r]
    ev.soeUnarchived := s.ev.soeUnarchived + 1 }

/-- One more than the newest SEQ in the SOE log, overflow markers apart: a time-step marker is a record of the FIFO like any
other (R98, R578). -/
def soeNext (s : State) : Nat :=
  match s.ev.soe.reverse.find? fun r => decide (r.source ≠ 0xFF ∨ r.kind ≠ 4) with
  | some r => (r.seq + 1) % 2 ^ 32
  | none => 0

/-- The SOE log writer takes its overflow marker, where it missed records, and then the records not yet in the log (R71 step
4, R111; log entry 12). -/
def soeDrain (s : State) : State :=
  let todo := (s.ev.markers.get none 0).toList ++ s.ev.fifo.drop (s.ev.fifo.length - (s.ev.written - s.ev.soePos))
  { todo.foldl (fun s r => soeAppend r s) s with
    ev.soePos := s.ev.written, ev.markers := s.ev.markers.set none 0 none }

/-- A record enters the FIFO: it takes the next SEQ, the oldest record leaves a full FIFO, and in full service the SOE
log writer takes it at once (R110, R111, R578; log entry 12). -/
def enterRecord (r : EvRec) (s : State) : State :=
  let s := if s.ev.fifo.length < fifoSize then s else
    match s.ev.fifo with
    | [] => s
    | o :: rest =>
      let s1 := consumersMiss o s
      let s2 := if s1.ev.soePos ≤ s1.ev.written - s1.ev.fifo.length then
        missRecord 0 o { s1 with ev.soePos := s1.ev.written - s1.ev.fifo.length + 1 } else s1
      { s2 with ev.fifo := rest }
  let s := { s with
    ev.fifo := s.ev.fifo ++ [{ r with seq := s.ev.seqNext }]
    ev.seqNext := (s.ev.seqNext + 1) % 2 ^ 32
    ev.written := s.ev.written + 1 }
  if fullService s || decide (s.power.service = .retiredHold) then soeDrain s else s

/-- An event's kind passes the edge an event task chose: 0 rise, 1 fall, 2 both; a press counts as a rise, a release as a
fall, and a state value passes every choice (R147, R182; log entry 13). -/
def edgePasses (edge kind : Nat) : Bool :=
  edge = 2 || kind = 6 || (edge = 0 && (kind = 0 || kind = 2)) || (edge = 1 && (kind = 1 || kind = 3))

/-- The edge chosen for an event task (R182). -/
def edgeOf (s : State) (d : TaskDecl) : Nat := (cfgOf s d.num).edge.getD d.edge

/-- Every event task bound to the record's source with its edge is released, in hardware (R111, R150). -/
def triggerTasks (r : EvRec) (s : State) : State :=
  (partition s).tasks.foldl (fun s d =>
    if isEventTask d.num && d.source = r.source && edgePasses (edgeOf s d) r.kind then
      releaseOwn d.num { evTai := r.tai, evData := r.data, evSeq := r.seq } s
    else s) s

/-! ### Wake from SLUMBER -/

/-- PERIOD in force of a periodic task (R147, R182). -/
def periodUs (s : State) (d : TaskDecl) : Nat := (cfgOf s d.num).timeUs.getD d.periodUs
/-- PHASE in force of a periodic task (R147, R182). -/
def phaseUs (s : State) (d : TaskDecl) : Nat := (cfgOf s d.num).phaseUs.getD d.phaseUs

/-- The first `k` with PHASE + k · PERIOD at or after an instant of the task's MONO (R147). -/
def gridK (phase period mono : Nat) : Nat :=
  if mono ≤ phase then 0 else (mono - phase + period - 1) / period

/-- MONO as tasks see it: the module's MONO plus the pair offset (R97, R398). -/
def taskMono (s : State) : Nat := ((s.time.mono : Int) + s.time.pairOffset).toNat

/-- Periodic tasks skip the releases they missed (R68). -/
def skipMissed (s : State) : State :=
  (partition s).tasks.foldl (fun s d =>
    if isPeriodicTask d.num then
      let r := s.task d.num
      let k := gridK (1000 * phaseUs s d) (1000 * periodUs s d) (taskMono s)
      s.setTask d.num { r with nextK := max r.nextK k, skipped := r.skipped + (k - r.nextK) }
    else s) s

/-- LAST_WAKE in SYS_STATE_GET (R80). -/
def wakeCode : WakeCause → Nat
  | .none => 0 | .event n => 4096 + n | .alarm => 8192 | .wakeN => 12288 | .host => 16384 | .usbPlug => 20480
  | .debug => 24576

/-- Clock sources are enabled now, in the bit order of CLK_STATUS (R89). -/
def enableClocks (ns : List Nat) (s : State) : State :=
  { s with clk.since := ns.foldl (fun m n => m.set 0 n s.now) s.clk.since }

/-- A rule's delay state cleared, its output kept (R266, R268). -/
def clearDelay (now : Nat) (q : RuleSt) : RuleSt := { pend := q.out, since := now, out := q.out }

/-- The delays of Rime's rules clear; outputs and flags stay as they are (R266). -/
def clearDelays (s : State) : State := { s with rime.rules := s.rime.rules.mapVal {} fun _ r => clearDelay s.time.mono r }

/-- The module wakes: SLUMBER goes back to RUN and the stopped clocks are enabled again; until PLL_SYS is READY no task is
released (R65, R68, R69, R89). A failed XM stays as it is, with PLL_NET stopped (R92, R94). -/
def wakeUp (c : WakeCause) (s : State) : State :=
  if s.power.state ≠ .slumber then s
  else
    noteState s (enableClocks [1, 3, 4, 5] { s with
      power.state := .run
      power.lastWake := c
      power.keptWake := .none
      power.slumberReq := false
      power.slumberStep := 0
      power.waking := true })

/-- The wake completes as PLL_SYS locks: Rime resumes with its delays cleared, BASE starts at once, periodic tasks skip what
they missed and Tally begins a new period (R68, R266, R480). -/
def wakeDone (s : State) : State :=
  if !s.power.waking then s
  else
    releaseOwn 0 {} (skipMissed (clearDelays { s with
      power.waking := false
      rime.mode := if s.ps.prog.isSome then 2 else 0
      rime.sweepAt := s.now
      fld.dies := s.fld.dies.over {} (fun _ d => { d with hold := s.ps.prog.isNone }) [0, 1, 2, 3]
      sup.tallyOn := true
      sup.periodAt := s.now
      sup.satisfied := 0#32
      sup.excused := 0#32 }))

/-- A source wakes the module, or is kept while SLUMBER is being entered (R69, R70). -/
def wakeBy (c : WakeCause) (s : State) : State :=
  if s.power.state = .slumber then wakeUp c s
  else if s.power.slumberReq ∧ s.power.keptWake = .none then { s with power.keptWake := c } else s

end Sys2Proof.Machine
end

