-- ==== Sys2Proof/Machine/Host.lean ====
section
/-! DEFINITION. The host port: the register window, mailboxes, the event stream, QSPI and the service USB
(R550-R577, R183). -/

namespace Sys2Proof.Machine

/-! ### Requests -/

/-- The module's logic side answers on its ports: RUN or HOLDUP, with no reset hold (R523, R556). -/
def portsUp (s : State) : Bool :=
  (s.power.state = .run || s.power.state = .holdup) && s.power.service ≠ .resetHeld && s.power.service ≠ .booting

/-- A mailbox of the service USB (R550). -/
def isUsbMb (n : Nat) : Bool := decide (6 ≤ n)

/-- The header and payload of a request in a mailbox buffer (R561). -/
def parseRequest (wid mb now : Nat) (m : Bytes) : Work :=
  let len := min 4080 (leNat (slice m 4 2))
  let p := slice m 16 len
  { wid := wid, mb := mb, code := leNat (slice m 0 2), tag := BitVec.ofNat 16 (leNat (slice m 2 2))
    noIrq := (m.getD 6 0#8).getLsbD 0, session := w32 (leNat (slice m 8 4)), payload := p
    crcOk := decide (pcrc p = w32 (leNat (slice m 12 4))), rungAt := now }

/-- Deferred commands of a mailbox still running (R556, R566). -/
def deferredRunning (s : State) (mb : Nat) : Nat :=
  (s.host.works.filter fun w => w.mb = mb && w.deferred && w.result.isNone).length

/-- A deferred result waits for the mailbox's buffer (R566). -/
def waitingResult (s : State) (mb : Nat) : Option Work :=
  s.host.works.find? fun w => w.mb = mb && w.result.isSome

/-- One mailbox is rung with the request bytes in its buffer (R564, R566, R568). -/
def ring1 (n : Nat) (s : State) : State :=
  let m := s.mbox n
  if m.state ≠ 0 ∨ (waitingResult s n).isSome then
    s.setMbox n { m with ignored := min (m.ignored + 1) 65535 }
  else
    let w := parseRequest s.host.nextWid n s.now (Memory.readBytes m.req 0 4096)
    let s1 := { s with host.nextWid := s.host.nextWid + 1 }
    if 8 ≤ deferredRunning s n then
      writeResponse w BUSY [] false (s1.setMbox n { m with leaseAt := s.now })
    else
      { s1.setMbox n { m with state := 1, deferredResult := false, leaseAt := s.now } with
        host.works := s1.host.works ++ [w] }

/-- Bits of a word among some numbers, ascending. -/
def bitsOf (mask : Word) (ns : List Nat) : List Nat := ns.filter fun n => mask.getLsbD n

/-- DOORBELL over the host port: MB0-MB5, ascending; MB6 and MB7 belong to the service USB (R550, R556). -/
def ringHost (mask : Word) (s : State) : State := (bitsOf mask (List.range 6)).foldl (fun s n => ring1 n s) s

/-- The end of a bulk OUT transfer rings MB6 or MB7 (R564, R574); a transfer to a mailbox that is not IDLE is counted. -/
def ringUsb (mask : Word) (req : Bytes) (s : State) : State :=
  (bitsOf mask [6, 7]).foldl (fun s n =>
    let s := if (s.mbox n).state = 0 then
      s.setMbox n { s.mbox n with req := Memory.writeBytes [] 0 (req.take 4096) } else s
    ring1 n s) s

/-- A waiting deferred result goes to the idle mailbox's buffer (R564, R566). -/
def deliverDeferred (n : Nat) (s : State) : State :=
  match waitingResult s n with
  | some w =>
    match w.result with
    | some (st, p) => writeResponse w st p true (dropWork w.wid s)
    | none => s
  | none => s

/-- One response is released (R564). -/
def release1 (n : Nat) (s : State) : State :=
  let m := s.mbox n
  if m.state = 2 then deliverDeferred n (s.setMbox n { m with state := 0, deferredResult := false }) else s

/-- The codes of the command index (R577). -/
def commandCodes : List Nat :=
  [0x0101, 0x0102, 0x0103, 0x0104, 0x0105, 0x0106, 0x0201, 0x0202, 0x0203, 0x0204, 0x0205, 0x0206, 0x0207, 0x0208, 0x0209,
   0x0301, 0x0302, 0x0303, 0x0304, 0x0305, 0x0306, 0x0307, 0x0308, 0x0309, 0x030A, 0x0401, 0x0402, 0x0403, 0x0404, 0x0405,
   0x0501, 0x0502, 0x0503, 0x0504, 0x0601, 0x0602, 0x0603, 0x0604, 0x0701, 0x0702, 0x0703, 0x0704, 0x0705,
   0x0801, 0x0802, 0x0803, 0x0901, 0x0902, 0x0903, 0x0A01, 0x0A02, 0x0A03, 0x0A04, 0x0A05, 0x0A06, 0x0B01, 0x0B02, 0x0B03,
   0x0C01, 0x0C02, 0x0C03, 0x0C04, 0x0D01, 0x0D02, 0x0D03, 0x0D04, 0x0D05, 0x0D06,
   0x0E01, 0x0E02, 0x0E03, 0x0E04, 0x0E05, 0x0E06]

/-- A bit of a payload byte; 0 beyond the payload. -/
def payloadBit (p : Bytes) (off bitNo : Nat) : Bool := (p.getD off 0#8).getLsbD bitNo

/-- The least role a command asks for, as the Roles row of its card lays down: 0 VIEWER, 1 OPERATOR, 2 ENGINEER,
3 SECURITY_ADMIN (R503). -/
def roleNeeded (life : Lifecycle) (code : Nat) (p : Bytes) : Nat :=
  match code with
  | 0x0101 | 0x0103 | 0x0201 | 0x0204 | 0x0205 | 0x0305 | 0x0306 | 0x030A | 0x0405 | 0x0502 | 0x0603 | 0x0705 | 0x0803
  | 0x0902 | 0x0A04 | 0x0A06 | 0x0B01 | 0x0B03 | 0x0C01 | 0x0C04 | 0x0E05 => 0
  | 0x0104 | 0x0602 | 0x0A01 => 1
  | 0x0106 => if field p 0 1 0 = 2 then 3 else 2
  | 0x0304 => if field p 0 1 0 = 0 ∨ 3 < field p 0 1 0 then 1 else 2
  | 0x0501 => if payloadBit p 1 0 then 0 else 2
  | 0x0503 => if field p 1 1 0 = 0 then 0 else 2
  | 0x0604 => if field p 0 1 0 = 0 then 0 else 1
  | 0x0702 | 0x0703 | 0x0704 | 0x0802 => if payloadBit p 1 7 then 0 else 2
  | 0x0901 => if payloadBit p 3 7 then 0 else 2
  | 0x0A02 => if 0xFF00 ≤ field p 0 2 0 then 3 else 0
  | 0x0A03 => if payloadBit p 5 7 then 0 else 2
  | 0x0B02 => if field p 0 1 1 = 0 then 2 else 1
  | 0x0C02 => if payloadBit p 5 7 then 0 else 2
  | 0x0C03 => if payloadBit p 7 7 then 0 else 2
  | 0x0D03 => if field p 0 1 0 = 1 then 3 else 0
  | 0x0D04 => if life = .blank then 0 else 3
  | 0x0D05 => if life = .blank ∨ field p 1 1 0 = 5 then 0 else 3
  | 0x0E01 | 0x0E02 | 0x0E03 | 0x0E04 | 0x0E06 => if life = .blank ∨ life = .commission then 2 else 3
  | _ => 2

/-- Step 4 of R563: the session exists, is open on the request's port and ranks high enough (R503, R504). -/
def sessionOk (s : State) (w : Work) : Bool :=
  if w.code = 0x0D01 then true
  else s.sec.sessions.any fun x =>
    x.id = w.session && w.session ≠ 0#32 && x.usb = isUsbMb w.mb && (x.pending = decide (w.code = 0x0D02))
      && (w.code = 0x0D02 || decide (roleNeeded s.sec.life w.code w.payload ≤ x.role))

/-- The role of the request's session. -/
def sessionRole (s : State) (w : Work) : Nat :=
  match s.sec.sessions.find? fun x => x.id = w.session && x.usb = isUsbMb w.mb with
  | some x => x.role
  | none => 0

/-- Step 3 of R563: in recovery only the ports of RECOVERY_PORTS are served (R524, R530). -/
def portOk (s : State) (w : Work) : Bool :=
  if s.power.service = .recovery then s.bcr.recoveryPorts.getLsbD (bit (isUsbMb w.mb)) else true

/-- Commands that a STATION answers WRONG_STATE (R346, R384). -/
def stationRefuses (code : Nat) : Bool :=
  [0x0301, 0x0302, 0x0303, 0x0304, 0x0307, 0x0308, 0x0401, 0x0402, 0x0403, 0x0404, 0x0501, 0x0502, 0x0503, 0x0504,
   0x0801, 0x0802, 0x0701, 0x0702, 0x0703, 0x0704].contains code

/-- Step 5 of R563: the service and power state allow the command (R73, R408, R526, R530), and the role of a station
(R346, R384). -/
def stateOk (s : State) (w : Work) : Bool :=
  let ses := decide (0x0D01 ≤ w.code ∧ w.code ≤ 0x0D03)
  if s.power.state = .holdup then w.code = 0x0103
  else if s.power.service = .retiredHold then w.code = 0x0101 || w.code = 0x0103 || w.code = 0x030A || ses
  else if s.power.service = .early then w.code = 0x0101 || w.code = 0x0103 || ses
  else if s.power.service = .recovery then
    w.code = 0x0101 || w.code = 0x0103 || ses || w.code = 0x0106 || decide (0x0E01 ≤ w.code ∧ w.code ≤ 0x0E06)
  else if isKeeper s && s.power.abdicated then false
  else !(isStation s && stationRefuses w.code)

/-- Steps 1 to 5 of R563: the first that fails. -/
def admission (s : State) (w : Work) : Option Nat :=
  firstStatus
    [(!w.crcOk, CHECK_FAILED), (!commandCodes.contains w.code, UNKNOWN_COMMAND), (!portOk s w, NOT_PERMITTED),
     (!sessionOk s w, NOT_PERMITTED), (!stateOk s w, WRONG_STATE)]

/-- The sessions with the use of one noted (R505). -/
def touchSession (w : Work) (s : State) : State :=
  { s with sec.sessions := s.sec.sessions.map fun x =>
      if x.id = w.session && x.usb = isUsbMb w.mb && !x.pending then { x with last := s.now } else x }

/-- Requests that Steward works on (R568). -/
def inWork (s : State) : Nat := (s.host.works.filter fun w => w.accepted && w.result.isNone).length

/-- A waiting request is accepted or refused by steps 1 to 5 of R563 (R568). -/
def accept1 (w : Work) (s : State) : State :=
  match admission s w with
  | some st => finish w st [] (touchSession w s)
  | none => touchSession w (putWork { w with accepted := true, role := sessionRole s w } s)

/-! ### Doorbells, responses, registers -/

/-- A host access in SLUMBER: with WAKE_FLAGS[1] it wakes the module and its write is ignored; without it doorbells are
counted as ignored (R69, R558). -/
def slumberAccess (bells : List Nat) (s : State) : State :=
  if s.power.wakeFlags.getLsbD 1 then wakeBy .host s
  else bells.foldl (fun s n => s.setMbox n { s.mbox n with ignored := min ((s.mbox n).ignored + 1) 65535 }) s

/-- Whether the module is in SLUMBER. -/
def inSlumber (s : State) : Bool := s.power.state = .slumber

/-- SLUMBER is being entered: the BASE boundary has come after SYS_SLUMBER (R68, R70). -/
def enteringSlumber (s : State) : Bool := s.power.slumberReq && (s.scan.atBoundary || decide (s.power.slumberStep ≠ 0))

/-- A host access: in SLUMBER it may wake the module; while SLUMBER is being entered it has its effect and is kept as a wake (R69,
R70, R558). -/
def hostAccess (bells : List Nat) (f : State → State) (s : State) : State :=
  if inSlumber s then slumberAccess bells s
  else if enteringSlumber s && s.power.wakeFlags.getLsbD 1 then f (wakeBy .host s) else f s

/-- DOORBELL (R564). -/
def doorbell (mask : Word) (usbPort : Bool) (req : Bytes) (s : State) : State :=
  if usbPort then (if portsUp s && s.host.usb then ringUsb mask req s else s)
  else hostAccess (bitsOf mask (List.range 6)) (fun s => if portsUp s then ringHost mask s else s) s

/-- DOORBELL: a doorbell rings its mailboxes (R564). -/
def execDoorbell (t : Nat) (mask : Word) (usbPort : Bool) (req : Bytes) (s : State) : Result State :=
  .next (doorbell mask usbPort req (advance t s))

/-- REQUEST_ACCEPT: the oldest request waiting in the mailbox passes steps 1 to 5 of R563 or is refused, unless 8 are
being worked on (R568); a halted Steward takes none (R512). -/
def requestAccept (mb : Nat) (s : State) : State :=
  if !portsUp s || s.sec.stewardHalted then s
  else match s.host.works.find? fun w => w.mb = mb && !w.accepted with
  | some w => if inWork s < 8 then accept1 w s else s
  | none => s

/-- REQUEST_ACCEPT. -/
def execRequestAccept (t : Nat) (mb : Fin 8) (s : State) : Result State := .next (requestAccept mb (advance t s))

/-- An event record in its 32 bytes (R110). -/
def recBytes (r : EvRec) : Bytes :=
  leBytes 8 r.tai ++ leBytes 4 r.seq ++ leBytes 1 r.source ++ leBytes 1 r.kind ++ [r.quality, r.flags]
    ++ leBytes 4 r.data.toNat ++ leBytes 4 r.lost ++ leInt 8 r.aux

/-- A completed read of the USB record interface: while it is attached the packet carries its overflow marker, where one waits, and
the next records, up to 16 in all (R111, R574). -/
def usbRecords (s : State) : State :=
  match s.ev.usbPos with
  | none => s
  | some p =>
    let m := (s.ev.markers.get none 2).toList
    let rs := (s.ev.fifo.drop (s.ev.fifo.length - (s.ev.written - p))).take (16 - m.length)
    { s with ev.usbPos := some (p + rs.length), ev.markers := s.ev.markers.set none 2 none
             host.readout := (m ++ rs).flatMap recBytes }

/-- RELEASE: the mailboxes of the mask release their responses (R556, R564). A completed USB read of MB6 or MB7 is bit 6 or 7 of its
mask, and one of the record interface bit 8 (R574; log entry 56). -/
def releaseMb (mask : Word) (usbPort : Bool) (s : State) : State :=
  let free (ns : List Nat) (s : State) := if portsUp s then (bitsOf mask ns).foldl (fun s n => release1 n s) s else s
  if usbPort then
    let s1 := free [6, 7] s
    if portsUp s && s.host.usb && mask.getLsbD 8 then usbRecords s1 else s1
  else hostAccess [] (free (List.range 6)) s

/-- RELEASE. -/
def execRelease (t : Nat) (mask : Word) (usbPort : Bool) (s : State) : Result State :=
  .next (releaseMb mask usbPort (advance t s))

/-- IRQ_STATUS: bits written as 1 are cleared (R556). -/
def irqClear (mask : Word) (s : State) : State :=
  hostAccess [] (fun s => { s with host.irq := s.host.irq &&& ~~~mask }) s

/-- IRQ_STATUS. -/
def execIrqStatus (t : Nat) (mask : Word) (s : State) : Result State := .next (irqClear mask (advance t s))

/-- RD_INDEX as read is taken: one that moves backward or beyond WR_INDEX is taken as WR_INDEX (R572). -/
def takeRdIndex (rd : Nat) (s : State) : State :=
  { s with
    host.stream.kick := false
    host.stream.rdIndex :=
      if rd < s.host.stream.rdIndex ∨ s.host.stream.wrIndex < rd then s.host.stream.wrIndex else rd }

/-- The ring in host memory is full (R572). -/
def ringFull (s : State) : Bool :=
  decide (s.host.stream.records ≤ s.host.stream.wrIndex - s.host.stream.rdIndex)

/-- EVT_KICK: the stream reads the host's read index at once (R556, R572). -/
def execEvtKick (t rd : Nat) (s : State) : Result State :=
  let s := advance t s
  .next (hostAccess [] (fun s => if streamOn s && !s.host.perst then takeRdIndex rd s else s) s)

/-- RD_INDEX_POLL: while the ring stays full, or when kicked, the stream reads RD_INDEX (R572). -/
def execRdIndexPoll (t rd : Nat) (s : State) : Result State :=
  let s := advance t s
  .next (if streamOn s && !s.host.perst && (ringFull s || s.host.stream.kick) then takeRdIndex rd s else s)

/-- MB_STATE, MB_TAG and MB_COUNTS of a mailbox (R556). -/
def mbWord (s : State) (n off : Nat) : Word :=
  let m := s.mbox n
  match off with
  | 0 => w32 ((if isUsbMb n then 3 else m.state) + 4 * bit m.deferredResult + 16 * (deferredRunning s n % 16)
      + 256 * m.responses)
  | 4 => m.tag.setWidth 32
  | 8 => w32 (m.ignored + 65536 * m.revokedN)
  | _ => 0#32

/-- The bytes of a command's request payload that are WO or reserved, as first byte and length: they read as zero (R6, R8). -/
def hiddenBytes : Nat → List (Nat × Nat)
  | 0x0105 => [(1, 1)]
  | 0x0202 => [(2, 2)]
  | 0x0203 => [(0x15, 3)]
  | 0x0206 => [(1, 1), (9, 3)]
  | 0x0207 => [(1, 3)]
  | 0x0208 => [(1, 1)]
  | 0x0209 => [(4, 4)]
  | 0x0304 => [(1, 3)]
  | 0x0306 => [(7, 1)]
  | 0x0307 => [(1, 3)]
  | 0x0308 => [(3, 1), (0xC, 4)]
  | 0x0309 => [(0x16, 2)]
  | 0x0501 => [(2, 2)]
  | 0x0601 => [(0xC, 4)]
  | 0x0602 => [(3, 5)]
  | 0x0701 => [(0x16, 2)]
  | 0x0702 => [(0x91, 3), (0x94, 72)]
  | 0x0703 => [(0xD5, 3), (0xD8, 36)]
  | 0x0704 => [(0x51, 3), (0x54, 72)]
  | 0x0802 => [(0xB, 5)]
  | 0x0901 => [(6, 2)]
  | 0x0A03 => [(6, 2)]
  | 0x0A06 => [(1, 3)]
  | 0x0C02 | 0x0C03 => []
  | 0x0104 | 0x0801 => []
  | 0x0E04 => [(1, 1)]
  | _ => [(0, 4080)]

/-- A byte of a request buffer reads as zero: the header, whose fields are WO, and the WO and reserved bytes of the payload of the
command that it holds (R6, R8, R561). -/
def hiddenByte (code off : Nat) : Bool :=
  decide (off < 16) || (hiddenBytes code).any fun r => decide (16 + r.1 ≤ off ∧ off < 16 + r.1 + r.2)

/-- A word of a request buffer as it reads (R8, R556). -/
def requestWord (m : Memory) (off : Nat) : Word :=
  let code := leNat (Memory.readBytes m 0 2)
  w32 (leNat ((List.range 4).flatMap fun i =>
    if hiddenByte code (off + i) then [0#8] else Memory.readBytes m (off + i) 1))

/-- A word of the register window; the high word of a 64-bit register is the latched one (R556, R557). -/
def windowWord (s : State) (off : Nat) : Word :=
  if off = 0 then 0x00019664#32
  else if off = 4 then w32 (stateBits s + 256 * (s.sup.stewardRestarts % 256))
  else if off = 8 then s.host.irq
  else if off = 0xC then s.host.irqEnable
  else if off = 0x20 then w32 (s.host.stream.wrIndex % 2 ^ 32)
  else if off = 0x24 then s.host.latch
  else if 0x100 ≤ off ∧ off < 0x180 then mbWord s ((off - 0x100) / 16) ((off - 0x100) % 16)
  else if 0x10000 ≤ off ∧ off < 0x18000 then
    requestWord (s.mbox ((off - 0x10000) / 4096)).req ((off - 0x10000) % 4096)
  else if 0x18000 ≤ off ∧ off < 0x20000 then
    Memory.readWord (s.mbox ((off - 0x18000) / 4096)).rsp ((off - 0x18000) % 4096)
  else 0#32

/-- Reading the low word of a 64-bit register latches its high word (R557). -/
def latchFor (off : Nat) (s : State) : State :=
  if off = 0x20 then { s with host.latch := w32 (s.host.stream.wrIndex / 2 ^ 32) } else s

/-- HIGH_WORD_LATCH: a read of a 64-bit register's low word (R557). -/
def execHighWordLatch (t off : Nat) (s : State) : Result State :=
  let s := advance t s
  let read (s : State) := latchFor off { s with host.readout := leBytes 4 (windowWord s off).toNat }
  .next (hostAccess [] (fun s => if portsUp s then read s else s) (if inSlumber s then read s else s))

/-- A word written to the window (R556); a request buffer ignores writes unless its mailbox is IDLE, and the buffers of
MB6 and MB7 belong to the service USB (R550, R564). -/
def writeWord (off : Nat) (v : Word) (s : State) : State :=
  if off = 8 then { s with host.irq := s.host.irq &&& ~~~v }
  else if off = 0xC then { s with host.irqEnable := v &&& 0xFFF#32 }
  else if off = 0x10 then ringHost v s
  else if off = 0x14 then (bitsOf v (List.range 6)).foldl (fun s n => release1 n s) s
  else if off = 0x18 then { s with host.stream.kick := true }
  else if 0x10000 ≤ off ∧ off < 0x16000 then
    let n := (off - 0x10000) / 4096
    if (s.mbox n).state = 0 then
      s.setMbox n { s.mbox n with req := Memory.writeWord (s.mbox n).req ((off - 0x10000) % 4096) v }
    else s
  else s

/-- REGISTER_WRITE: a 32-bit write to the window (R556, R557). -/
def execRegisterWrite (t off : Nat) (v : Word) (s : State) : Result State :=
  let s := advance t s
  .next (hostAccess (if off = 0x10 then bitsOf v (List.range 6) else [])
    (fun s => if portsUp s && off % 4 = 0 then writeWord off v s else s) s)

/-- MAILBOX_PENDING: 2 s after the doorbell a request without a result is answered PENDING and goes on as a deferred
command (R564, R568). -/
def mailboxPending (mb : Nat) (s : State) : State :=
  match s.host.works.find? fun w => w.mb = mb && !w.deferred && w.result.isNone with
  | some w =>
    if (s.mbox mb).state = 1 ∧ passed s.now w.rungAt (2 * 10 ^ 9) then
      writeResponse w PENDING [] false (putWork { w with deferred := true } s)
    else s
  | none => s

/-- MAILBOX_PENDING. -/
def execMailboxPending (t : Nat) (mb : Fin 8) (s : State) : Result State := .next (mailboxPending mb (advance t s))

/-- DEFERRED_RESULT: the result of a deferred command reaches its idle mailbox (R564). -/
def execDeferredResult (t : Nat) (mb : Fin 8) (s : State) : Result State :=
  let s := advance t s
  .next (if (s.mbox mb).state = 0 then deliverDeferred mb s else s)

/-! ### QSPI and PCIe -/

/-- `n` words read from an offset up, latching as they go; beyond 0x1FFFF zeros (R555, R557). -/
def readWords (off : Nat) : Nat → State → State
  | 0, s => s
  | n + 1, s =>
    readWords (off + 4) n
      (latchFor off { s with host.readout := s.host.readout ++ leBytes 4 (windowWord s off).toNat })

/-- The whole words of a byte string. -/
def wordsOf : Nat → Bytes → List Word
  | 0, _ => []
  | n + 1, b => w32 (leNat (b.take 4)) :: wordsOf n (b.drop 4)

/-- Words written from an offset up; a write beyond 0x1FFFF is ignored (R555). -/
def writeWords (off : Nat) : List Word → State → State
  | [], s => s
  | v :: r, s => writeWords (off + 4) r (writeWord off v s)

/-- QSPI_READ: a read of whole words over the QSPI target, at most 4,096 bytes (R554, R555). -/
def execQspiRead (t addr len : Nat) (s : State) : Result State :=
  let s := advance t s
  let start := { s with host.readout := [] }
  .next (if !s.power.hostQspi then s
         else
           let read := readWords (addr % 2 ^ 24) (min 1024 (len / 4))
           hostAccess [] (fun s => if portsUp s then read { s with host.readout := [] } else s)
             (if inSlumber s then read start else s))

/-- QSPI_WRITE: a write of whole words over the QSPI target; a trailing partial word is discarded (R554, R555). -/
def execQspiWrite (t addr : Nat) (data : Bytes) (s : State) : Result State :=
  let s := advance t s
  let ws := wordsOf (min 1024 (data.length / 4)) data
  .next (if !s.power.hostQspi then s
         else hostAccess (if addr = 0x10 then (ws.take 1).flatMap fun v => bitsOf v (List.range 6) else [])
           (fun s => if portsUp s then writeWords (addr % 2 ^ 24) ws s else s) s)

/-- QSPI_STATUS: the status byte, window ready and HOST_IRQ_N (R554). -/
def execQspiStatus (t : Nat) (s : State) : Result State :=
  let s := advance t s
  .next (if !s.power.hostQspi then s
         else hostAccess [] (fun s => s)
           { s with host.readout := [BitVec.ofNat 8 (bit (portsUp s || inSlumber s) + 2 * bit (hostIrqLow s))] })

/-- PCIE_PERST_N: the PCIe controller and the window's interrupt state reset; bus-master writes are held (R552). -/
def execPciePerstN (t : Nat) (s : State) : Result State :=
  let s := advance t s
  .next (if s.power.hostQspi then s
         else { s with host.perst := true, host.irq := 0#32, host.irqEnable := 0#32 })

/-- PCIE_PERST_N_RELEASE: bus-master writes go on (R552). -/
def execPciePerstNRelease (t : Nat) (s : State) : Result State :=
  .next { advance t s with host.perst := false }

/-- WINDOW_ACCESS_IN_SLUMBER: a read returns the window as it stood at entry; a write is ignored; the access wakes the
module unless WAKE_FLAGS[1] is clear (R69, R558). -/
def execWindowAccessInSlumber (t : Nat) (write : Bool) (off : Nat) (v : Word) (s : State) : Result State :=
  let s := advance t s
  .next (if !inSlumber s then s
         else if write then slumberAccess (if off = 0x10 then bitsOf v (List.range 6) else []) s
         else slumberAccess [] (latchFor off { s with host.readout := leBytes 4 (windowWord s off).toNat }))

/-! ### Event stream -/

/-- A record is written to the ring in host memory (R571, R573). -/
def streamPut (r : EvRec) (s : State) : State :=
  let h := s.host.stream
  let s1 := { s with
    host.hostMem := Memory.writeBytes s.host.hostMem (h.ringAddr + 32 * (h.wrIndex % h.records)) (recBytes r)
    host.stream.wrIndex := h.wrIndex + 1
    host.stream.sinceIrq := h.sinceIrq + 1
    host.stream.firstAt := if h.sinceIrq = 0 then s.now else h.firstAt }
  if h.irqEvery ≤ h.sinceIrq + 1 then setIrq 8 { s1 with host.stream.sinceIrq := 0 } else s1

/-- Records go out while the ring has room; a source that SOURCES stops is passed over (R183, R572). -/
def streamRecords : List EvRec → State → State
  | [], s => s
  | r :: rest, s =>
    if ringFull s then s
    else
      let s1 := { s with ev.hostPos := s.ev.hostPos + 1 }
      if r.source < 128 && !s.host.stream.sources.getLsbD r.source then streamRecords rest s1
      else streamRecords rest (streamPut r s1)

/-- A waiting overflow marker of the host stream goes out first (R111, R183). -/
def streamMarker (s : State) : State :=
  match s.ev.markers.get none 1 with
  | some m => if ringFull s then s else streamPut m { s with ev.markers := s.ev.markers.set none 1 none }
  | none => s

/-- EVENT_STREAM_WRITE: the records that wait are written to the ring, then WR_INDEX to the index block (R553, R572). -/
def eventStreamWrite (s : State) : State :=
  if !fullService s || s.power.hostQspi || !streamOn s || s.host.perst then s
  else
    let s1 := streamMarker s
    let s2 := if (s1.ev.markers.get none 1).isSome then s1
      else streamRecords (s1.ev.fifo.drop (s1.ev.fifo.length - (s1.ev.written - s1.ev.hostPos))) s1
    { s2 with host.hostMem :=
        Memory.writeBytes s2.host.hostMem (s2.host.stream.rdptrAddr + 8) (leBytes 8 s2.host.stream.wrIndex) }

/-- EVENT_STREAM_WRITE. -/
def execEventStreamWrite (t : Nat) (s : State) : Result State := .next (eventStreamWrite (advance t s))

/-- EVENT_STREAM_IRQ_US: a record written since the last interrupt has waited IRQ_US (R573). -/
def execEventStreamIrqUs (t : Nat) (s : State) : Result State :=
  let s := advance t s
  .next (if streamOn s && s.host.stream.sinceIrq ≠ 0
            && passed s.now s.host.stream.firstAt (1000 * s.host.stream.irqUs) then
           setIrq 8 { s with host.stream.sinceIrq := 0 } else s)

/-- RING_RECORDS rounded down to a power of two within 256-1,048,576 (R183). -/
def roundRecords (n : Nat) : Nat := 2 ^ Nat.log2 (clamp 256 1048576 n)

/-- EVT_STREAM_CFG's effect and answer (R183, R571, R573). -/
def evtStreamCfg (w : Work) (s : State) : Reply × State :=
  let p := w.payload
  let ringA := field p 0 8 0 / 4096 * 4096
  let rdptr := field p 8 8 0 / 16 * 16
  let recs := roundRecords (field p 0x10 4 4096)
  let every := clamp 1 (recs / 2) (field p 0x14 2 64)
  let us := clamp 10 100000 (field p 0x18 4 1000)
  let src : BitVec 128 := if 44 ≤ p.length then BitVec.ofNat 128 (leNat (slice p 0x1C 16)) else BitVec.allOnes 128
  let echo := leBytes 8 ringA ++ leBytes 8 rdptr ++ leBytes 4 recs ++ leBytes 2 every ++ zeros 2 ++ leBytes 4 us
    ++ leBytes 16 src.toNat
  let h := s.host.stream
  let h1 := { h with ringAddr := ringA, rdptrAddr := rdptr, records := recs, irqEvery := every, irqUs := us
                     sources := src }
  let s1 := if ringA = h.ringAddr then { s with host.stream := h1 }
    else if ringA = 0 then { s with host.stream := { h1 with wrIndex := 0, rdIndex := 0, sinceIrq := 0 } }
    else { s with
      host.stream := { h1 with wrIndex := 0, rdIndex := 0, sinceIrq := 0, kick := false }
      host.hostMem := Memory.writeBytes s.host.hostMem rdptr (zeros 16)
      ev.hostPos := s.ev.written - s.ev.fifo.length
      ev.markers := s.ev.markers.set none 1 none }
  checked [(s.power.hostQspi || inHoldup s, WRONG_STATE)] (.done DONE echo, s1) s

/-- EVT_STREAM_CFG (R183). -/
def execEvtStreamCfg (t : Nat) (mb : Fin 8) (s : State) : Result State := .next (runCommand t mb 0x0309 evtStreamCfg s)

/-! ### Service USB -/

/-- MB6 and MB7 go back to IDLE and their requests in flight are lost (R574). -/
def usbDiscard (s : State) : State :=
  let idle (m : Mailbox) : Mailbox := { m with state := 0, deferredResult := false }
  { (s.setMbox 6 (idle (s.mbox 6))).setMbox 7 (idle (s.mbox 7)) with
    host.works := s.host.works.filter fun w => !isUsbMb w.mb }

/-- Requests in flight are discarded and the record interface detaches (R574). -/
def usbVbusRemoval (s : State) : State :=
  if !s.host.usb then s
  else
    { usbDiscard s with
      host.usb := false
      ev.usbPos := none
      ev.markers := s.ev.markers.set none 2 none }

/-- USB_EVENT_ATTACH: alternate setting 1 attaches the USB consumer at the oldest record held, setting 0 detaches it
(R111, R574). -/
def execUsbEventAttach (t : Nat) (setting : Bool) (s : State) : Result State :=
  let s := advance t s
  .next (if !s.host.usb then s
         else { s with
           ev.usbPos := if setting then some (s.ev.written - s.ev.fifo.length) else none
           ev.markers := s.ev.markers.set none 2 none })

end Sys2Proof.Machine
end

