-- ==== Sys2Proof/Machine/Image.lean ====
section
/-! DEFINITION. What the records of a program image, an epoch and a station block say, read from their bytes (R255, R282,
R297, R335, R349, R353, R385, R453, R462, R465). -/

namespace Sys2Proof.Machine

/-- An unsigned little-endian field of a record. -/
def recF (b : Bytes) (off len : Nat) : Nat := leNat (slice b off len)

/-- A bit of a record's field. -/
def recBit (b : Bytes) (off len i : Nat) : Bool := (recF b off len).testBit i

/-- A table of records, each read by `f`. -/
def readTable {α β : Type} [DecidableEq β] (d : β) (f : α → β) (t : Tbl α) : Tbl β :=
  t.foldl (fun m e => m.set d e.1 (f e.2)) []

/-! ### Rime (R255) -/

/-- A rule record of 64 bytes (R255). -/
def ruleFrom (b : Bytes) : Rule :=
  { inp := (List.range 16).map fun k => recF b (2 * k) 2 % 4096
    inv := BitVec.ofNat 16 (recF b 0x20 2), group := BitVec.ofNat 8 (recF b 0x22 1), final := BitVec.ofNat 8 (recF b 0x23 1 % 16)
    terms := (List.range 8).map fun j => BitVec.ofNat 16 (recF b (0x24 + 2 * j) 2)
    target := recF b 0x34 2 % 4096, enabled := recBit b 0x36 2 0, early := recBit b 0x36 2 1
    onDelayUs := min 10000000 (recF b 0x38 4), offDelayUs := min 10000000 (recF b 0x3C 4) }

/-! ### Channels (R297) -/

/-- A configuration record read from a payload or a record; a field beyond its end takes its default (R297, R562). -/
def readCfg (p : Bytes) (o : Nat) : ChanCfg :=
  { function := field p o 1 0, mode := BitVec.ofNat 8 (field p (o + 1) 1 0), nominal := field p (o + 2) 1 0
    thrPct := field p (o + 3) 1 50, hystPct := field p (o + 4) 1 5, iWet := field p (o + 5) 1 4
    filterUs := field p (o + 6) 2 3000, cntFilter := field p (o + 8) 2 20, cntEdge := field p (o + 10) 1 0
    pulseMs := field p (o + 12) 4 100, safMs := field p (o + 16) 2 50, discMs := field p (o + 18) 2 5000
    offsetMv := field p (o + 20) 2 0 }

/-- A configuration record with its clamps, but for the SAF minimum of R315 (R297). -/
def clampRec (c : ChanCfg) : ChanCfg :=
  let low := c.mode.getLsbD 0
  { c with
    mode := c.mode &&& 0x3F#8
    nominal := if 5 < c.nominal then 0 else c.nominal
    thrPct := clamp 10 90 c.thrPct
    hystPct := clamp 1 10 c.hystPct
    iWet := clamp (if low then 1 else 2) (if low then 4 else 20) c.iWet
    filterUs := min 20000 c.filterUs
    cntFilter := clamp 1 10000 c.cntFilter
    cntEdge := min 2 c.cntEdge
    pulseMs := clamp 1 60000 c.pulseMs
    safMs := clamp 5 10000 c.safMs
    discMs := clamp 10 30000 c.discMs
    offsetMv := min 3000 c.offsetMv }

/-- A channel record of an image (R297). -/
def chanFrom (b : Bytes) : ChanCfg := clampRec (readCfg b 0)

/-! ### Panel and network (R335, R349, R353) -/

/-- A select-before-operate slot record (R335). -/
def sboFrom (b : Bytes) : SboSlot :=
  { selectKey := recF b 0 1, execKey := recF b 1 1, cancelKey := recF b 2 1, localOnly := recBit b 3 1 0
    selWindowMs := clamp 1000 120000 (recF b 4 4), execWindowMs := clamp 100 60000 (recF b 8 4) }

/-- A map entry of `refs` subscriptions or publications (R349, R353). -/
def mapFrom (refs : Nat) (b : Bytes) : MapEntry :=
  { ref := recF b 0 1 % refs, member := recF b 1 1, qmember := recF b 2 1, type := recF b 3 1 % 16, point := recF b 4 4 }

/-! ### Safety parameter block (R453, R454, R462, R465) -/

/-- A dual-contact entry (R462). -/
def dualFrom (b : Bytes) : DualDecl :=
  { chA := recF b 0 1, chB := recF b 1 1, antivalent := recBit b 2 1 0, safe := recBit b 2 1 1, discMs := recF b 4 2 }

/-- A connection entry, with the ACK point that the program gives its block (R465). -/
def connFrom (ack : Nat) (b : Bytes) : ConnDecl :=
  { dir := recF b 0 1, medium := recF b 1 1, ref := recF b 2 1, member := recF b 3 1, word := recF b 4 2, len := recF b 6 1
    task := recF b 7 1, identity := w32 (recF b 8 4), timeExpMs := recF b 0xC 2, refreshMs := recF b 0xE 2
    manual := recBit b 0x10 1 0, ack := ack }

/-- A safety parameter block (R453). -/
def spbFrom (acks : Tbl Nat) (b : Bytes) : Spb :=
  let nd := recF b 0x50 1
  let nc := recF b 0x51 1
  let nr := recF b 0x52 2
  let conn0 := 0x60 + 8 * nd
  { bytes := b, magic := recF b 0 4, version := recF b 4 2
    taskMask := BitVec.ofNat 64 (recF b 8 8), codeHash := slice b 0x10 16
    channelMask := BitVec.ofNat 64 (recF b 0x20 8), stationMask := BitVec.ofNat 64 (recF b 0x28 8)
    tableMask := BitVec.ofNat 256 (recF b 0x30 32)
    duals := (List.range nd).map fun i => dualFrom (slice b (0x60 + 8 * i) 8)
    conns := (List.range nc).map fun i => connFrom (acks.get 0 i) (slice b (conn0 + 24 * i) 24)
    releases := (List.range nr).map fun i => recF b (conn0 + 24 * nc + 4 * i) 4 }

/-! ### The parts that carry records -/

/-- A station block with its records read (R255, R297, R385). -/
def readBlock (b : StationBlock) : StationBlock :=
  { b with chanCfg := readTable {} chanFrom b.chanRecs, rules := readTable {} ruleFrom b.ruleRecs }

/-- A program image with its records read (R255, R297, R335, R349, R353, R385, R453). -/
def readImage (p : Prog) : Prog :=
  { p with
    rules := readTable {} ruleFrom p.ruleRecs, chanCfg := readTable {} chanFrom p.chanRecs
    sbo := readTable {} sboFrom p.sboRecs
    gooseIn := p.mapsIn.map (mapFrom 128), gooseOut := p.mapsOut.map (mapFrom 64)
    spb := if p.spbBytes = [] then none else some (spbFrom p.acks p.spbBytes)
    stations := p.stations.mapVal {} fun _ b => readBlock b }

/-- A migration entry of 16 bytes, with its partition and the epoch that carries it (R282). -/
def migrationFrom (epoch part : Nat) (b : Bytes) : Migration :=
  { epoch := epoch, part := part, task := recF b 0 1, op := recF b 1 1 % 16, srcRegion := recF b 1 1 / 16 % 4
    dstRegion := recF b 1 1 / 64, len := recF b 2 2, src := recF b 4 4, dst := recF b 8 4, value := w32 (recF b 0xC 4) }

end Sys2Proof.Machine
end

