-- ==== Sys2Proof/Machine/Tasks.lean ====
section
/-! DEFINITION. Task cycles: stripes on engines, snapshot, barriers, abandonment, program start and stop, and the loading of
regions (R22, R140-R174, R185-R186). -/

namespace Sys2Proof.Machine

/-! ### Engines and stripes -/

/-- The physical engine of a logical engine number, 4 × region + slot (R22). -/
def physEngine (s : State) (l : Nat) : Nat := 4 * physRegion s (l / 4) + l % 4
/-- The logical engine number of a physical engine. -/
def logEngine (s : State) (p : Nat) : Nat := 4 * logRegion s (p / 4) + p % 4

/-- The region of a physical engine runs PAIRED in the partition in use (R26, R47). -/
def isPaired (s : State) (phys : Nat) : Bool := (partition s).paired.getLsbD (logRegion s phys)

/-- A physical engine is the odd one of a pair, which writes nothing outward (R18, R210). -/
def isOdd (s : State) (e : Nat) : Bool := isPaired s (e / 4) && decide (e % 2 = 1)

/-- The engine number of a stripe. -/
def stripeEngine (p : Stripe) : Nat := 4 * p.region + p.slot

/-- The stripes of a task in a phase. -/
def stripesOf (d : TaskDecl) (phase : Nat) : List Stripe := d.stripes.filter fun p => p.phase = phase

/-- The stripe a logical engine runs for a task in a phase. -/
def stripeAt (d : TaskDecl) (phase l : Nat) : Option Stripe :=
  d.stripes.find? fun p => p.phase = phase && stripeEngine p = l

/-- A bank with the state of the Reset column, at a stripe's entry (R185, R186). -/
def freshBank (task phase : Nat) (entry : Word) : Bank :=
  { pc := entry, task := some task, phase := phase, waiting := false }

/-- A stripe of a phase starts on its engine, in a PAIRED region on both engines of the pair (R18, R186). -/
def startStripe (n phase l : Nat) (entry : Word) (s : State) : State :=
  let e := physEngine s l
  let c := taskClass n
  let keep (b : Bank) : Bank := { freshBank n phase entry with
    trapCause := b.trapCause, trapAddr := b.trapAddr, trapSyl := b.trapSyl, trapX := b.trapX }
  let s1 := s.setBank e c (keep (s.bank e c))
  let s2 := if isPaired s (e / 4) then s1.setBank (e + 1) c (keep (s1.bank (e + 1) c)) else s1
  let r := s2.task n
  s2.setTask n { r with toStart := r.toStart.filter fun x => x ≠ (phase, l) }

/-- The bank of a class on a logical engine is free for another stripe of the class (R148). -/
def bankFree (s : State) (l c : Nat) : Bool := (s.bank (physEngine s l) c).task.isNone

/-- Rank of a task: ERR_TRAP, ERR_STATION, ERR_OVERRUN, then by number with BASE last; lower is first (R148). -/
def rank (n : Nat) : Nat :=
  if n = 50 then 0 else if n = 48 then 1 else if n = 49 then 2 else if 16 ≤ n then n - 13
  else if 1 ≤ n then n + 34 else 100

/-- The running tasks of a class with a stripe waiting for an engine, best rank first (R148). -/
def waitingTask (s : State) (l c : Nat) : Option Nat :=
  ((partition s).tasks.filter fun d =>
      taskClass d.num = c && decide ((s.task d.num).state = .running) && ((s.task d.num).toStart.any fun x => x.2 = l)).foldl
    (fun best d => match best with
      | none => some d.num
      | some b => if rank d.num < rank b then some d.num else some b) none

/-- An engine whose bank of a class is free starts the best waiting stripe of the class (R148). -/
def dispatch1 (l c : Nat) (s : State) : State :=
  if bankFree s l c then
    match waitingTask s l c with
    | some n =>
      match taskDecl s n, (s.task n).toStart.find? fun x => x.2 = l with
      | some d, some x =>
        match stripeAt d x.1 l with
        | some p => startStripe n x.1 l p.entry s
        | none => s
      | _, _ => s
    | none => s
  else s

/-- Every free bank takes its best waiting stripe (R148). -/
def dispatch (s : State) : State :=
  (List.range 16).foldl (fun s l => [3, 2, 1, 0].foldl (fun s c => dispatch1 l c s) s) s

/-- A phase begins: every engine that holds a stripe of it, and has not ended the cycle, is to start it; one that still runs
its stripe of an earlier phase does so after that (R148, R157, R237). -/
def beginPhase (n phase : Nat) (s : State) : State :=
  match taskDecl s n with
  | some d =>
    let r := s.task n
    dispatch (s.setTask n { r with
      phase := phase, arrived := [], barrier := none, phaseDirty := []
      toStart := r.toStart ++ ((stripesOf d phase).map fun p => (phase, stripeEngine p)).filter fun x => !r.ended.contains x.2 })
  | none => s

/-- The banks of a task are given back, with the state of R186 at its next stripe; trap words stay (R156, R210). -/
def freeBanks (n : Nat) (s : State) : State :=
  { s with eng.banks := s.eng.banks.mapVal {} fun _ b =>
      if b.task = some n then { ({} : Bank) with
        trapCause := b.trapCause, trapAddr := b.trapAddr, trapSyl := b.trapSyl, trapX := b.trapX } else b }

/-- The bank of one engine and class is given back. -/
def freeBank (e c : Nat) (s : State) : State :=
  let b := s.bank e c
  s.setBank e c { ({} : Bank) with
    trapCause := b.trapCause, trapAddr := b.trapAddr, trapSyl := b.trapSyl, trapX := b.trapX }

/-! ### Region data and its mirror -/

/-- A dirty word's key: logical region and data address (R166). -/
def dataKey (region addr : Nat) : Nat := 2 ^ 32 * region + addr

/-- A word of a logical region's data SRAM. -/
def dataWord (s : State) (region addr : Nat) : Word :=
  Memory.readWord (s.region (physRegion s region)).data (addr - 0x10000000)

/-- A word of a logical region's data SRAM is written. -/
def setDataWord (region addr : Nat) (v : Word) (s : State) : State :=
  let p := physRegion s region
  let r := s.region p
  s.setRegion p { r with data := Memory.writeWord r.data (addr - 0x10000000) v }

/-- A word of the instance mirror (R166). -/
def mirrorWord (s : State) (region addr : Nat) : Word := Memory.readWord (s.scan.mirror.get [] region) addr

/-- A word of the instance mirror is written (R166). -/
def setMirrorWord (region addr : Nat) (v : Word) (s : State) : State :=
  { s with scan.mirror := s.scan.mirror.set [] region (Memory.writeWord (s.scan.mirror.get [] region) addr v) }

/-- The words a task changed go back to the mirror's values (R156). -/
def restoreData (keys : List Nat) (s : State) : State :=
  keys.foldl (fun s k => setDataWord (k / 2 ^ 32) (k % 2 ^ 32) (mirrorWord s (k / 2 ^ 32) (k % 2 ^ 32)) s) s

/-- The words a task changed are copied to the mirror (R166). -/
def mirrorData (keys : List Nat) (s : State) : State :=
  keys.foldl (fun s k => setMirrorWord (k / 2 ^ 32) (k % 2 ^ 32) (dataWord s (k / 2 ^ 32) (k % 2 ^ 32)) s) s

/-! ### Abandonment -/

/-- A task's runtime state with no cycle in progress; that a cycle overran, or that one before a cycle never run was late,
still shows in the next (R142, SX10). -/
def noCycle (r : TaskRt) : TaskRt :=
  { r with state := .idle, snap := {}, snapSys := [], buf := [], dirty := [], phaseDirty := [], phase := 0, arrived := []
           toStart := [], barrier := none, ended := [], overrun := false, oldTables := none
           lateNext := r.lateNext || r.overrun || (decide (r.state = .released) && r.late) }

/-- A cycle is abandoned: nothing is published, its stripes stop, its buffer is discarded and its instance data goes back
(R156). -/
def dropCycle (n : Nat) (s : State) : State :=
  let r := s.task n
  if r.state = .running then
    let s1 := restoreData r.dirty (freeBanks n s)
    s1.setTask n (noCycle (s1.task n))
  else if r.state = .released then s.setTask n (noCycle r)
  else s

/-- A cycle is abandoned, and the task's next release follows (R149, R156). -/
def abandonCycle (n : Nat) (s : State) : State :=
  let s1 := dropCycle n s
  dispatch (if mayRelease s1 n then releaseNext n s1 else s1)

/-- Every cycle in progress is abandoned, and no release is left pending (R71, R174, R485). -/
def abandonAll (s : State) : State :=
  s.scan.tasks.keys.foldl (fun s n =>
    let s1 := dropCycle n s
    s1.setTask n { s1.task n with pending := none, queue := [], held := false, heldRelease := none }) s

/-! ### Forces and the snapshot -/

/-- A point's forced value, where it is forced (R181). -/
def forceOf (s : State) (a : Nat) : Option Word := s.scan.forces.get none a

/-- A point's value with its force applied (R180, R181). -/
def forcedVal (s : State) (a : Nat) : Word := (forceOf s a).getD (imgVal s a)

/-- The configuration of a channel in force on the logic side: FLD_CFG's value, else the image's (R297, R324). -/
def chanCfg (s : State) (ch : Nat) : ChanCfg :=
  match s.fld.kept.get none ch with
  | some c => c
  | none => if isStation s then ((s.ring.active.getD {}).chanCfg).get {} ch else (prog s).chanCfg.get {} ch

/-- MODE bits of a channel record (R297). -/
def modeBit (c : ChanCfg) (i : Nat) : Bool := c.mode.getLsbD i

/-- The station's configuration in force: RING_STATION_CFG's value, else the image's (R388). -/
def stationCfg (s : State) (n : Nat) : StationBlock := s.ring.cfg.get ((prog s).stations.get {} n) n

/-- The station is configured on a ring that is not OFF (R579). -/
def stationOn (s : State) (n : Nat) : Bool := (stationCfg s n).enable && decide (s.ring.topology ≠ 0)

/-- The station of a station point and the point's number there: IX from 0, IW from 512, diagnostic bits from 640 (R138, R139,
R143). -/
def stationPoint (a : Nat) : Nat × Nat :=
  let i := indexOf a
  match spaceOf a with
  | 1 => if 64 ≤ i ∧ i < 31808 then ((i - 64) / 512 + 1, (i - 64) % 512) else (0, 0)
  | 4 => if i < 7936 then (i / 128 + 1, 512 + i % 128) else (0, 0)
  | 8 => if i < 3968 then (i / 64 + 1, 640 + i % 64) else (0, 0)
  | _ => (0, 0)

/-- A station's points after a change of the configuration: one that was not configured starts at 0 with STALE, not lost; points
that are counted no longer are not refreshed (R144, R579). -/
def renewStation (old : State) (n : Nat) (s : State) : State :=
  let b := stationCfg s n
  let mine (f : Nat → Bool) (a : Nat) : Bool := decide ((stationPoint a).1 = n) && f (stationPoint a).2
  if !stationOn s n then s
  else if !stationOn old n then
    { s with
      img.val := s.img.val.drop (mine fun _ => true), img.q := s.img.q.drop (mine fun _ => true)
      ring.st := s.ring.st.set {} n { admitted := (s.station n).admitted } }
  else
    { s with img.q := s.img.q.drop (mine fun k =>
        decide (b.inBits ≤ k ∧ k < 512) || decide (512 + b.inWords ≤ k ∧ k < 640)) }

/-- Every station's points after a change of the configuration. -/
def renewStations (old s : State) : State := (List.range 63).foldl (fun s n => if n = 0 then s else renewStation old n s) s

/-- The consuming MSL connections over GOOSE (R465). -/
def gooseConns (s : State) : List ConnDecl := ((prog s).spb.getD {}).conns.filter fun c => c.dir = 0 && c.medium = 0

/-- The 19 carrier words of a consuming connection (R466). -/
def carrierIn (c : ConnDecl) : List Nat := (List.range 19).map fun i => imgAddr 4 (c.word + i)

/-- The points of a GOOSE subscription: those its map entries name and the carrier words of its connections (R349, R466). -/
def subPoints (s : State) (k : Nat) : List Nat :=
  (((prog s).gooseIn.filter fun m => m.ref = k).flatMap fun m => if m.type = 1 then [m.point, m.point + 1] else [m.point])
    ++ ((gooseConns s).filter fun c => c.ref = k).flatMap carrierIn

/-- Some subscription has the point (R579). -/
def gooseNames (s : State) (a : Nat) : Bool :=
  ((prog s).gooseIn.any fun m => m.point = a || (m.type = 1 && m.point + 1 = a)) || (gooseConns s).any fun c => (carrierIn c).contains a

/-- The point has a source in the configuration in force (R579); reserved words have none (R139, R172). -/
def hasSource (s : State) (a : Nat) : Bool :=
  let i := indexOf a
  match spaceOf a with
  | 1 => if i < 64 then decide ((chanCfg s i).function ≠ 0)
         else if i < 31808 then stationOn s ((i - 64) / 512 + 1) && !isStation s
         else decide (i < 32768) && !isStation s && gooseNames s a
  | 4 => if i < 7936 then stationOn s (i / 128 + 1) && !isStation s
         else if i < 8000 then modeBit (chanCfg s (i - 7936)) 5
         else if i < 8192 then false
         else if i < 12288 then decide ((prog s).sv.get 0 ((i - 8192) / 512) ≠ 0) && (decide (i % 512 < 4) || decide (8 ≤ i % 512 ∧ i % 512 < 160))
         else decide (i < 16384) && !isStation s && gooseNames s a
  | 8 => stationOn s (i / 64 + 1) && decide (i < 3968) && decide (i % 64 < 8)
  | _ => true

/-- The even channel of the double point that a channel belongs to (R320). -/
def dpEven (s : State) (ch : Nat) : Option Nat :=
  if (chanCfg s (ch / 2 * 2)).function = 1 && modeBit (chanCfg s (ch / 2 * 2)) 3 then some (ch / 2 * 2) else none

/-- The dual-contact entry that a channel belongs to (R462). -/
def dualOf (s : State) (ch : Nat) : Option Nat :=
  ((prog s).spb.getD {}).duals.findIdx? fun d => d.chA = ch || d.chB = ch

/-- The other channel of a double point or of a dual-contact point (R321, R464). -/
def partnerChan (s : State) (ch : Nat) : Option Nat :=
  match dpEven s ch with
  | some e => some (2 * e + 1 - ch)
  | none => ((prog s).spb.getD {}).duals.findSome? fun d =>
      if d.chA = ch then some d.chB else if d.chB = ch then some d.chA else none

/-- A channel's frames are not received, or the channel or its die is lost (R43, R145). -/
def chanStale (s : State) (ch : Nat) : Bool := (s.chan ch).stale || (s.chan ch).lost || (s.die (dieOf ch)).lost

/-- Quality of a local IX point: the worse of the two channels of a double or dual-contact point (R145, R321, R464). -/
def ixQuality (s : State) (ch : Nat) : BitVec 4 :=
  if chanStale s ch || ((partnerChan s ch).map (chanStale s)).getD false then 2#4 else 1#4

/-- The qualities of a channel's points follow its frames (R145, R322). -/
def markIx (ch : Nat) (s : State) : State :=
  let s1 := setQ (imgAddr 1 ch) (ixQuality s ch) (setQ (imgAddr 4 (7936 + ch)) (if chanStale s ch then 2#4 else 1#4) s)
  match partnerChan s ch with
  | some p => setQ (imgAddr 1 p) (ixQuality s p) s1
  | none => s1

/-- An address lies in one of some ranges. -/
def inRanges (rs : List Range) (a : Nat) : Bool := rs.any fun r => decide (r.lo ≤ a ∧ a < r.hi)

/-- Some task of the partition in use declares the point as an output (R141, R155). -/
def taskWrites (s : State) (a : Nat) : Bool := (partition s).tasks.any fun d => inRanges d.outputs a

/-- The points that carry a quality: inputs, diagnostic bits and the Rime flags that Rime writes (R141, R144). -/
def carriesQuality (s : State) (a : Nat) : Bool :=
  match spaceOf a with
  | 1 | 4 | 8 => true
  | 6 => !taskWrites s a
  | _ => false

/-- The module's image store holds the point: a station's holds its channels' states and counters and the commands it applies
(R384). -/
def holdsPoint (s : State) (a : Nat) : Bool :=
  !isStation s || match spaceOf a with
    | 1 | 2 => decide (indexOf a < 64)
    | 4 => decide (7936 ≤ indexOf a ∧ indexOf a < 8000)
    | _ => false

/-- The quality of a point as a snapshot gives it; Rime flags are always VALID. A forced point without a source shows FORCED
beside 0b000 (R144, R145, R181, R579; log entry 48). -/
def pointQuality (s : State) (a : Nat) : BitVec 4 :=
  if !carriesQuality s a || !holdsPoint s a then 0#4
  else
    let f : BitVec 4 := if (forceOf s a).isSome then 8#4 else 0#4
    if spaceOf a = 6 then 1#4 ||| f
    else (if hasSource s a then s.img.q.get 2#4 a else 0#4) ||| f

/-- The value of a point as a snapshot gives it: the forced value, else 0 for a point without a source (R181, R579; log entry
48). -/
def pointValue (s : State) (a : Nat) : Word :=
  match forceOf s a with
  | some v => v
  | none => if hasSource s a && holdsPoint s a then imgVal s a else 0#32

end Sys2Proof.Machine
end

