-- ==== Sys2Proof/Machine/Fail.lean ====
section
/-! DEFINITION. How a fault climbs: region retirement, module-level failure, abandoned edits (R23-R25, R37, R43, R44, R288). -/

namespace Sys2Proof.Machine

/-- An edit ends in ABORTED with a cause; its staged data and its reservation go (R288, R293). -/
def abortEdit (cause : Nat) (s : State) : State :=
  { s with edit.state := 5, edit.cause := cause, edit.header := [], edit.blocks := [], edit.epoch := none
           edit.switchAt := none, saf.preConfirmed := none }

/-- A region retirement discards an edit that stages or is committed, and lifts the hold of one that switches (R288). -/
def editOnRetire (s : State) : State :=
  if s.edit.state = 1 ∨ s.edit.state = 2 then abortEdit 4 s
  else if s.edit.state = 3 then { s with edit.state := 4, edit.epoch := none, ps.oldProg := none } else s

/-- A module-level failure: a pair member abdicates; a SOLO module stops publishing, lets every field die hold and restarts.
Rime goes on (R37). A STATION's dies fall to their output rules as the claims they hear stop. -/
def moduleFailure (cause : Nat) (s : State) : State :=
  let s1 := disqualify cause s
  if isSolo s1 then
    abandonAll (holdAll { s1 with power.failed := true, power.restart := some .moduleFailure })
  else { s1 with power.failed := true }

/-- A region is power-gated with its SRAM cleared (R23). -/
def clearRegion (p : Nat) (s : State) : State :=
  { s.setRegion p {} with
    eng.banks := s.eng.banks.drop fun k => decide (k / 16 = p)
    eng.slices := s.eng.slices.drop fun k => decide (k / 4 = p)
    eng.tallyState := s.eng.tallyState.drop fun k => decide (k / 4 = p) }

/-- A region is retired: every cycle is abandoned, the region cleared and the retirement logged; the module resumes on the
3-region partition at REMAP_RESUME, and a KEEPER abdicates. A second region, or an image without a 3-region partition, is a
module-level failure (R23, R25, R43, R44, R174, R483). `cause` is the fault code that led to it (R490). -/
def retireRegion (p cause : Nat) (s : State) : State :=
  if s.power.retired.getLsbD p then s
  else
    let fatal := decide (s.power.retired ≠ 0#4) || (s.ps.prog.isSome && !(prog s).has3)
    let cls := if fatal || isKeeper s then 3 else 2
    let s1 := editOnRetire (abandonAll s)
    let s2 := clearRegion p { s1 with power.retired := s1.power.retired ||| (1#4 <<< p) }
    let s3 := logFault 6 cls (whr 2 p 0) (w32 cause) 0#32 s2
    if fatal then moduleFailure 6 s3
    else
      let s4 := { s3 with power.remapPending := true, power.remapAt := s3.now, sup.tallyOn := false }
      if isKeeper s4 then disqualify 6 s4 else s4

end Sys2Proof.Machine
end

