-- ==== Sys2Proof/Machine/Ledger.lean ====
section
/-! DEFINITION. The Ledger, Firn, retentive data, the magnetometer, the event archive and the tables (R419-R451). -/

namespace Sys2Proof.Machine

/-! ### Records and classes -/

/-- The class set for a key: COLD for system keys, WARM where none was set (R424, R448). -/
def classOf (s : State) (k : Nat) : Nat :=
  if 0xFF00 ≤ k then 3
  else match s.ldg.cls.find? fun r => decide (r.first ≤ k ∧ k ≤ r.last) with
    | some r => r.cls
    | none => 2

/-- The record in the MRAM fast tier, with tombstones (R424). -/
def mramRec (s : State) (k : Nat) : Option LdgRec := s.ldg.mram.get none k
/-- The HOT record in Ledger SRAM (R426). -/
def hotRec (s : State) (k : Nat) : Option LdgRec := s.ldg.hot.get none k
/-- The newest Firn entry of a key (R431). -/
def firnRec (s : State) (k : Nat) : Option LdgRec := s.ldg.firn.get none k

/-- The current record of a key with its tombstone: HOT in SRAM, else MRAM (R426). -/
def rawRec (s : State) (k : Nat) : Option LdgRec := (hotRec s k).orElse fun _ => mramRec s k

/-- The current record of a key, absent once deleted. -/
def curRec (s : State) (k : Nat) : Option LdgRec := (rawRec s k).filter fun r => !r.deleted && r.valid

/-- SEQ after one more write: it wraps from 2³² − 1 to 1 (R425). -/
def nextSeq (n : Nat) : Nat := if n = 2 ^ 32 - 1 then 1 else n + 1

/-- SEQ that the next write of a key carries (R425). -/
def seqFor (s : State) (k : Nat) : Nat := nextSeq ((rawRec s k).elim 0 LdgRec.seq)

/-- WSTAMP of the next write: boot count above, writes of this boot below, saturating (R425). -/
def wstampNow (s : State) : Nat := 2 ^ 32 * (s.ldg.boot % 2 ^ 32) + min s.ldg.writes (2 ^ 32 - 1)

/-- Bytes a HOT record counts for: 16 plus the data rounded up to 8 (R427). -/
def hotSize (r : LdgRec) : Nat := 16 + (r.data.length + 7) / 8 * 8

/-- Total size of the HOT records (R427). -/
def hotBytes (s : State) : Nat :=
  (s.ldg.hot.map fun p => p.2.elim 0 fun r => if r.deleted then 0 else hotSize r).sum

/-- Pool blocks of a record: two slots of ⌈(32 + data)/64⌉ blocks (R430); a deleted record takes none. -/
def poolBlocks (r : LdgRec) : Nat := if r.deleted then 0 else 2 * ((32 + (if r.counter then 16 else r.data.length) + 63) / 64)

/-- Free pool blocks of 46,080 (R429). -/
def poolFree (s : State) : Nat := 46080 - (s.ldg.mram.map fun p => p.2.elim 0 poolBlocks).sum

/-! ### Counters (R437, R438) -/

/-- Slot A is the base: valid, its GEN[15:0] equal to the delta cell's. -/
def CntRec.baseIsA (c : CntRec) : Bool := c.okA && c.genA % 65536 = c.genD

/-- A counter's value: base.VALUE + DELTA, saturating at 2¹²⁸ − 1 (R437, R438). -/
def CntRec.value (c : CntRec) : Nat :=
  min ((if CntRec.baseIsA c then c.valueA else c.valueB) + c.delta) (2 ^ 128 - 1)

/-- The other slot takes a value under the next GEN, then the delta cell names it with delta 0 (R437). -/
def CntRec.put (c : CntRec) (v : Nat) : CntRec :=
  if CntRec.baseIsA c then
    { c with valueB := min v (2 ^ 128 - 1), genB := (c.genA + 1) % 2 ^ 32, okB := true, delta := 0
             genD := (c.genA + 1) % 2 ^ 32 % 65536 }
  else
    { c with valueA := min v (2 ^ 128 - 1), genA := (c.genB + 1) % 2 ^ 32, okA := true, delta := 0
             genD := (c.genB + 1) % 2 ^ 32 % 65536 }

/-- A fold (R437). -/
def CntRec.fold (c : CntRec) : CntRec := CntRec.put c (CntRec.value c)

/-- An ADD: into the delta cell, or through a fold where DELTA would pass 2⁴⁸ − 1 (R437). -/
def CntRec.add (c : CntRec) (n : Nat) : CntRec :=
  if c.delta + n < 2 ^ 48 then { c with delta := c.delta + n } else CntRec.put c (CntRec.value c + n)

/-- The data of a record as it reads; a counter reads as its u128 value (R447). -/
def recData (s : State) (k : Nat) (r : LdgRec) : Bytes :=
  if r.counter then leBytes 16 (((s.ldg.cnt.get none k).getD {}).value) else r.data

/-! ### Firn (R431-R433) -/

/-- Usable bytes of an erase block: all pages but the summary page (R421, R431). -/
def firnBlockBytes : Nat := 258048

/-- Free erase blocks (R432, R449). -/
def firnFree (s : State) : Nat := 512 - (1 + s.ldg.firnClosed.length + s.ldg.firnRetired.length)

/-- Live bytes of an erase block (R432). -/
def firnLive (s : State) (b : Nat) : Nat :=
  (s.ldg.firnEnt.map fun p => if p.2 / 2 ^ 20 = b + 1 then p.2 % 2 ^ 20 else 0).sum

/-- The next free block after the open one (R431). -/
def nextFreeBlock (s : State) : Nat :=
  let free (b : Nat) : Bool :=
    b ≠ s.ldg.firnOpenBlk && !s.ldg.firnClosed.contains b && !s.ldg.firnRetired.contains b
  (((List.range 512).map fun i => (s.ldg.firnOpenBlk + 1 + i) % 512).find? free).getD s.ldg.firnOpenBlk

/-- Compaction could free a block (R433). -/
def canCompact (s : State) : Bool := s.ldg.firnClosed.any fun b => decide (firnLive s b < firnBlockBytes)

/-- The flash controller's lease has been denied to Firn for more than 1 s (R433). -/
def leaseGone (s : State) : Bool :=
  match s.ldg.leaseDenied with
  | some a => passed s.now a (10 ^ 9 + 1)
  | none => false

/-- Firn is available (R433). -/
def firnAvailable (s : State) : Bool :=
  !s.ldg.flashFailed && (decide (8 ≤ firnFree s) || canCompact s) && !leaseGone s

/-- The head of Firn, in a block with room for so many bytes more: an entry never crosses a block (R431). -/
def firnRoom (size : Nat) (s : State) : State :=
  if s.ldg.firnOpen + size ≤ firnBlockBytes then s
  else { s with ldg.firnClosed := s.ldg.firnClosed ++ [s.ldg.firnOpenBlk]
                ldg.firnOpenBlk := nextFreeBlock s
                ldg.firnOpen := 0 }

/-- An entry of so many data bytes goes to the head (R431). -/
def firnPlace (key len : Nat) (s : State) : State :=
  let size := (32 + len + 31) / 32 * 32
  let s1 := firnRoom size s
  { s1 with
    ldg.firnOpen := s1.ldg.firnOpen + size
    ldg.firnEnt := s1.ldg.firnEnt.set 0 key (2 ^ 20 * (s1.ldg.firnOpenBlk + 1) + size) }

/-- A page program of Firn is abandoned: the page is spent, and its entry, whose CRC fails, is ignored (R431, R487). -/
def firnSpoil (s : State) : State :=
  let s1 := firnRoom 4096 s
  { s1 with ldg.firnOpen := (s1.ldg.firnOpen / 4096 + 1) * 4096 }

/-- A record, or its delete, is appended to Firn (R431). -/
def firnAppendRec (k : Nat) (r : LdgRec) (s : State) : State :=
  let data := if r.deleted then [] else recData s k r
  firnPlace k data.length { s with ldg.firn := s.ldg.firn.set none k (some { r with data := data }) }

/-- Firn turns out to be unavailable: LEDGER_FALLBACK with its finding, once (R433, R490). -/
def noteFallback (s : State) : State :=
  if s.ldg.fallback then s
  else logFault 0x42 2 (whr 3 2 0) (w32 (if s.ldg.flashFailed then 0 else if leaseGone s then 2 else 1)) 0#32
    { s with ldg.fallback := true, ldg.catchUp := true }

/-- The current copy of a key is newer than its Firn copy (R426, R433). -/
def firnBehind (s : State) (k : Nat) : Bool :=
  match rawRec s k with
  | none => false
  | some r => match firnRec s k with
    | none => true
    | some f => newerSeq r.seq f.seq

/-- What the flash link does to a transfer (R12, R433): a bad CRC is a finding and the entry is tried again, a link that fails for
good is the failure of the flash die, and a lease that is denied counts from its first denial. -/
def flashServes (l : FlashLink) (s : State) : State :=
  match l with
  | .good => { s with ldg.leaseDenied := none }
  | .badCrc => logFault 0x22 2 (whr 3 2 0) 7#32 1#32 (count 7 1 s)
  | .failed => { s with ldg.flashFailed := true }
  | .denied => { s with ldg.leaseDenied := some (s.ldg.leaseDenied.getD s.now) }

/-- FIRN_APPEND: the key's current copy is appended: a COLD record, or any while MAG_ALERT is set (R426, R441). -/
def firnAppend (k : Nat) (l : FlashLink) (s : State) : State :=
  if !s.ldg.opened || !(classOf s k = 3 || s.ldg.magAlert) || !firnBehind s k then s
  else
    let s1 := flashServes l s
    if !firnAvailable s1 then noteFallback s1
    else match l, rawRec s k with
      | .good, some r => firnAppendRec k r s1
      | _, _ => s1

/-- FIRN_APPEND. -/
def execFirnAppend (t : Nat) (write : FirnWrite) (s : State) : Result State :=
  .next (firnAppend write.key.toNat write.link (advance t s))

/-- Keys that hold a record in MRAM or SRAM. -/
def ldgKeys (s : State) : List Nat := s.ldg.mram.keys ++ (s.ldg.hot.keys.filter fun k => (mramRec s k).isNone)

/-- WARM_FLUSH, every 10 s: WARM counters fold, and each WARM record newer than its Firn copy is appended (R426, R437). -/
def warmFlush (s : State) : State :=
  if !s.ldg.opened || !passed s.now s.ldg.warmAt (10 ^ 10) then s
  else
    let folded := { s with ldg.warmAt := s.now, ldg.cnt := s.ldg.cnt.mapVal none fun k c => if classOf s k = 2 then c.map CntRec.fold else c }
    if !firnAvailable folded then noteFallback folded
    else (ldgKeys folded).foldl (fun s k =>
      if classOf s k = 2 && firnBehind s k then
        match mramRec s k with
        | some r => firnAppendRec k r s
        | none => s
      else s) folded

/-- WARM_FLUSH. -/
def execWarmFlush (t : Nat) (s : State) : Result State := .next (warmFlush (advance t s))

/-- The closed block with the fewest live bytes, the oldest on a tie (R432). -/
def compactBlock (s : State) : Option Nat :=
  s.ldg.firnClosed.foldl (fun best b => match best with
    | none => some b
    | some x => if firnLive s b < firnLive s x then some b else some x) none

/-- FIRN_COMPACTION: the block with the fewest live bytes has its live entries copied to the head and is erased; one that
fails to erase is retired (R432). -/
def firnCompaction (eraseOk : Bool) (s : State) : State :=
  if s.ldg.flashFailed || !s.ldg.opened || decide (24 ≤ firnFree s) then s
  else match compactBlock s with
  | none => s
  | some b =>
    let live := s.ldg.firnEnt.filter fun p => p.2 / 2 ^ 20 = b + 1
    let s1 := live.foldl (fun s p => firnPlace p.1 (p.2 % 2 ^ 20 - 32) s) s
    let s2 := { s1 with ldg.firnClosed := s1.ldg.firnClosed.filter fun x => x ≠ b
                        ldg.firnErases := s1.ldg.firnErases.set 0 b (s1.ldg.firnErases.get 0 b + 1) }
    if eraseOk then s2 else { s2 with ldg.firnRetired := s2.ldg.firnRetired ++ [b] }

/-- FIRN_COMPACTION. -/
def execFirnCompaction (t : Nat) (eraseOk : Bool) (s : State) : Result State :=
  .next (firnCompaction eraseOk (advance t s))

/-- FIRN_CATCH_UP: Firn is back; every record newer than its Firn copy is appended and the flag clears (R433). -/
def firnCatchUp (s0 : State) : State :=
  let s := { s0 with ldg.leaseDenied := none }
  if !s.ldg.fallback || !firnAvailable s then s0
  else
    let s1 := (ldgKeys s).foldl (fun s k =>
      if firnBehind s k && classOf s k ≠ 1 then
        match rawRec s k with
        | some r => firnAppendRec k r s
        | none => s
      else s) s
    { s1 with ldg.fallback := false, ldg.catchUp := false }

/-- FIRN_CATCH_UP. -/
def execFirnCatchUp (t : Nat) (s : State) : Result State := .next (firnCatchUp (advance t s))

/-! ### Dumps (R434-R436) -/

/-- The committed dump: valid, with the highest DUMP_SEQ (R436). -/
def committedDump (s : State) : Option Dump :=
  match s.ldg.dumpA.filter Dump.valid, s.ldg.dumpB.filter Dump.valid with
  | some a, some b => if newerSeq b.seq a.seq then some b else some a
  | some a, none => some a
  | none, b => b

/-- The records of a dump, with its delta segment where that is committed (R436). -/
def dumpRecs (d : Dump) : Tbl (Option LdgRec) :=
  if d.deltaValid then d.delta.foldl (fun m p => m.set none p.1 p.2) d.recs else d.recs

/-- DUMP_SEQ of the committed dump, 0 before the first. -/
def dumpSeq (s : State) : Nat := (committedDump s).elim 0 Dump.seq

/-- The dump image of the HOT records (R434). -/
def dumpOf (s : State) (atSlumber valid : Bool) : Dump :=
  { seq := (dumpSeq s + 1) % 2 ^ 32, bytes := hotBytes s, wstamp := wstampNow s, tai := s.time.tai, atSlumber := atSlumber
    valid := valid, recs := s.ldg.hot }

/-- A dump goes to the area the last commit did not use; without its marker it is ignored (R434, R436). -/
def writeDump (atSlumber valid : Bool) (s : State) : State :=
  let d := dumpOf s atSlumber valid
  let aIsCommitted := (committedDump s).isSome && decide (s.ldg.dumpA = committedDump s)
  let s1 := if aIsCommitted then { s with ldg.dumpB := some d } else { s with ldg.dumpA := some d }
  if valid then { s1 with ldg.dumpCut := none } else { s1 with ldg.dumpCut := some d.seq }

/-- The HOT records that changed since a dump. -/
def hotChanges (d : Dump) (s : State) : Tbl (Option LdgRec) :=
  s.ldg.hot.filter fun p => d.recs.get none p.1 ≠ p.2

/-- Bytes of a delta segment (R434, R435). -/
def deltaBytes (m : Tbl (Option LdgRec)) : Nat := (m.map fun p => p.2.elim 0 hotSize).sum

/-- The dump of a HOLDUP that began in SLUMBER: a delta segment of at most 192 KiB with a second marker, else a full dump
(R435). -/
def slumberDelta (valid : Bool) (s : State) : State :=
  match committedDump s with
  | none => writeDump false valid s
  | some d =>
    let delta := hotChanges d s
    if 196608 < deltaBytes delta then writeDump false valid s
    else
      let d1 : Dump := { d with delta := delta, deltaValid := valid, atSlumber := if valid then false else d.atSlumber }
      if s.ldg.dumpA = some d then { s with ldg.dumpA := some d1 } else { s with ldg.dumpB := some d1 }

/-- Every counter folds at a dump (R437). -/
def foldAll (s : State) : State := { s with ldg.cnt := s.ldg.cnt.mapVal none fun _ c => c.map CntRec.fold }

/-- Home writes of the journal's entries are completed and the checkpoint moves; an entry without its commit, and everything after
it, is ignored (R422, R423). -/
def homeWrite (s : State) : State :=
  { s with
    ldg.home := (s.ldg.journal.takeWhile JrnEnt.committed).foldl (fun h e =>
      { words := e.pairs.foldl (fun w p => w.set none p.1 (some p.2)) h.words, layout := h.layout.set 0 e.task e.epoch }) s.ldg.home
    ldg.journal := [] }

/-- Bytes of a journal entry: SCAN, task and word count, the pairs, CRC and commit cell (R422; log entry 55). -/
def journalBytes (e : JrnEnt) : Nat := 24 + 8 * e.pairs.length

/-- An entry joins the journal; before that is half full the checkpoint moves (R422, R423). -/
def journalAdd (e : JrnEnt) (s : State) : State :=
  let s1 := if ((s.ldg.journal ++ [e]).map journalBytes).sum < 1048576 then s else homeWrite s
  { s1 with ldg.journal := s1.ldg.journal ++ [e] }

/-- Steps 3 to 6 of the HOLDUP table that touch memory: retentive writes complete, the FIFO goes to the SOE log, HOT data is
dumped and the marker written unless VHOLD has fallen below 12 V (R71, R72, R434). -/
def powerDump (fromSlumber : Bool) (s : State) : State :=
  let valid := decide (12000 ≤ s.power.vholdMv)
  let s1 := foldAll (soeDrain (homeWrite s))
  if !s1.ldg.opened then s1
  else if fromSlumber then slumberDelta valid s1 else writeDump false valid s1

/-- RETENTIVE_HOME_WRITE: journal entries reach the home copy; under MAG_ALERT the home copy follows to Firn (R422, R423,
R441). -/
def retentiveHomeWrite (s : State) : State :=
  let s1 := homeWrite s
  if s1.ldg.magAlert && firnAvailable s1 then
    firnPlace (2 ^ 40) 4096 { s1 with ldg.homeFirn := some s1.ldg.home } else s1

/-- RETENTIVE_HOME_WRITE. -/
def execRetentiveHomeWrite (t : Nat) (s : State) : Result State := .next (retentiveHomeWrite (advance t s))

/-! ### Opening the Ledger (R439) -/

/-- One key is brought to one copy: the newer SEQ, else equal data, else the later WSTAMP, else MRAM with LEDGER_TIE; a newer
delete removes the key; no valid copy is LEDGER_LOST (R439). -/
def reconcileKey (k : Nat) (s : State) : State :=
  let m := (rawRec s k).filter LdgRec.valid
  let f := (firnRec s k).filter LdgRec.valid
  let putM (r : LdgRec) (s : State) : State :=
    let s1 := if (hotRec s k).isSome then { s with ldg.hot := s.ldg.hot.set none k (some r) }
      else { s with ldg.mram := s.ldg.mram.set none k (some { r with data := if r.counter then [] else r.data }) }
    if r.counter && !r.deleted then
      { s1 with ldg.cnt := s1.ldg.cnt.set none k (some { valueA := leNat r.data }) } else s1
  match m, f with
  | none, none =>
    if (rawRec s k).isNone && (firnRec s k).isNone then s
    else logFault 0x41 2 (whr 4 0 k) (w32 k) 0#32
      { s with ldg.mram := s.ldg.mram.set none k none, ldg.hot := s.ldg.hot.set none k none
               ldg.firn := s.ldg.firn.set none k none, ldg.findings := s.ldg.findings ||| 2#16 }
  | some r, none =>
    if classOf s k = 1 || !firnAvailable s then s else firnAppendRec k r s
  | none, some g => putM g s
  | some r, some g =>
    if newerSeq g.seq r.seq then putM g s
    else if newerSeq r.seq g.seq then
      if classOf s k = 1 || !firnAvailable s then s else firnAppendRec k r s
    else if r.deleted = g.deleted ∧ recData s k r = g.data then s
    else if r.wstamp < g.wstamp then putM g s
    else if g.wstamp < r.wstamp then (if firnAvailable s then firnAppendRec k r s else s)
    else
      let s1 := logFault 0x40 2 (whr 4 0 k) (w32 k) (w32 r.seq)
        { s with ldg.findings := s.ldg.findings ||| 1#16 }
      if firnAvailable s1 then firnAppendRec k r s1 else s1

/-- The HOT records at a start: the committed dump's, which count as the MRAM tier for their keys, unless MRAM holds a newer copy,
which HOLDUP_RESERVE_LOW or a change of class has put there (R427, R439, R448). -/
def hotAtStart (s : State) : Tbl (Option LdgRec) :=
  s.ldg.mram.foldl (fun m p => match p.2, m.get none p.1 with
      | some r, some h => if r.valid && newerSeq r.seq h.seq then m.set none p.1 (if r.cls = 1 then some r else none) else m
      | some r, none => if r.valid && r.cls = 1 then m.set none p.1 (some r) else m
      | none, _ => m)
    ((committedDump s).elim [] dumpRecs)

/-- The Ledger opens: the boot count rises, the committed dump is loaded, a newer dump without a marker is DUMP_LOST, and
every key is reconciled (R425, R428, R436, R439). -/
def openLedger (s : State) : State :=
  let s1 := { s with
    ldg.boot := (s.ldg.boot + 1) % 2 ^ 32
    ldg.writes := 0
    ldg.parts := []
    ldg.hot := hotAtStart s
    ldg.warmAt := s.now
    ldg.dumpLost := s.ldg.dumpCut.isSome
    ldg.opened := true }
  let s2 := match s.ldg.dumpCut with
    | some q => logFault 0x77 2 (whr 4 0 0) (w32 q) 0#32 { s1 with ldg.dumpCut := none }
    | none => s1
  ((ldgKeys s2) ++ (s2.ldg.firn.keys.filter fun k => (rawRec s2 k).isNone)).foldl (fun s k => reconcileKey k s) s2

/-! ### Writes -/

/-- The record written by a write, in the places its class lays down (R426, R427). -/
def placeRec (k : Nat) (r : LdgRec) (s : State) : State :=
  let s1 := { s with ldg.writes := s.ldg.writes + 1 }
  if r.cls = 1 then
    let s2 := { s1 with ldg.hot := s1.ldg.hot.set none k (some r) }
    if s.power.reserveLow then { s2 with ldg.mram := s2.ldg.mram.set none k (some r) } else s2
  else { s1 with ldg.mram := s1.ldg.mram.set none k (some r), ldg.hot := s1.ldg.hot.set none k none }

/-- Class applied to a record: a counter is never HOT (R427). -/
def applyClass (s : State) (k : Nat) (counter : Bool) : Nat :=
  if counter && classOf s k = 1 then 2 else classOf s k

/-- A new record of a key with its SEQ and WSTAMP (R425). -/
def newRec (s : State) (k : Nat) (counter deleted : Bool) (data : Bytes) : LdgRec :=
  { cls := applyClass s k counter, counter := counter, data := data, seq := seqFor s k, wstamp := wstampNow s
    deleted := deleted }

/-- A record finds room: HOT within 2 MiB, pool blocks for the others (R427, R430). -/
def fits (s : State) (k : Nat) (r : LdgRec) : Bool :=
  let hotOk := r.cls ≠ 1 || decide (hotBytes s - (hotRec s k).elim 0 hotSize + hotSize r ≤ 2097152)
  let needsPool := r.cls ≠ 1 || s.power.reserveLow
  hotOk && (!needsPool || decide (poolBlocks r ≤ poolFree s + (mramRec s k).elim 0 poolBlocks))

/-- The parts received cover bytes 0 to TOTAL − 1 (R446). -/
def partsComplete (p : LdgParts) : Bool :=
  decide (p.total ≤ p.parts.foldl (fun reach e => if e.1 ≤ reach then max reach (e.1 + e.2.length) else reach) 0)

/-- The bytes the parts make. -/
def partsData (p : LdgParts) : Bytes :=
  Memory.readBytes (p.parts.foldl (fun m e => Memory.writeBytes m e.1 e.2) []) 0 p.total

/-- LDG_WRITE's answer (R446). -/
def ldgEcho (s : State) (k op applied : Nat) : Bytes :=
  let r := rawRec s k
  leBytes 2 k ++ leBytes 1 op ++ leBytes 1 applied ++ leBytes 4 (r.elim 0 LdgRec.seq) ++ leBytes 8 (r.elim 0 LdgRec.wstamp)
    ++ leBytes 1 (r.elim (classOf s k) LdgRec.cls) ++ zeros 7

/-- A counter's record is stamped for a write; COLD counters fold at once (R437). -/
def putCounter (k : Nat) (c : CntRec) (s : State) : State :=
  let r := newRec s k true false []
  let c1 := if r.cls = 3 then CntRec.fold c else c
  placeRec k r { s with ldg.cnt := s.ldg.cnt.set none k (some c1) }

/-- LDG_WRITE's effect and answer (R446). -/
def ldgWrite (w : Work) (s : State) : Reply × State :=
  let p := w.payload
  let k := field p 0 2 0
  let op := if 3 < field p 2 1 0 then 0 else field p 2 1 0
  let expect := field p 4 4 0
  let off := field p 8 2 0
  let total := min 4096 (field p 0xA 2 (p.length - 16))
  let data := (p.drop 16).take (total - off)
  let cur := curRec s k
  let isCounter := cur.elim false LdgRec.counter
  let rec1 := newRec s k false false data
  let cntRec := newRec s k true false []
  let done (applied : Nat) (s : State) : Reply × State := (.done DONE (ldgEcho s k op applied), s)
  let effect : Reply × State :=
    match op with
    | 1 => done 1 (placeRec k (newRec s k false true [])
        { s with ldg.cnt := s.ldg.cnt.set none k none, ldg.parts := s.ldg.parts.set none k none })
    | 2 => done 1 (putCounter k (CntRec.add ((s.ldg.cnt.get none k).getD {}) (leNat (data.take 8))) s)
    | 3 => done 1 (putCounter k (CntRec.put ((s.ldg.cnt.get none k).getD {}) (leNat (data.take 16))) s)
    | _ =>
      if off = 0 ∧ total ≤ data.length then
        done 1 (placeRec k rec1 { s with ldg.cnt := s.ldg.cnt.set none k none, ldg.parts := s.ldg.parts.set none k none })
      else
        let old : LdgParts := if off = 0 then {} else (s.ldg.parts.get none k).getD {}
        let q : LdgParts := { total := total, parts := old.parts.set [] off data, at0 := s.now }
        if partsComplete q then
          done 1 (placeRec k (newRec s k false false (partsData q))
            { s with ldg.cnt := s.ldg.cnt.set none k none, ldg.parts := s.ldg.parts.set none k none })
        else done 0 { s with ldg.parts := s.ldg.parts.set none k (some q) }
  checked
    [(expect ≠ 0 && decide (cur.elim 0 LdgRec.seq ≠ expect), CHECK_FAILED),
     ((op = 2 || op = 3) && cur.isSome && !isCounter, CHECK_FAILED),
     (op = 0 && !fits s k { rec1 with data := List.replicate total 0#8 }, NO_SPACE),
     (op = 3 && cur.isNone && !fits s k cntRec, NO_SPACE),
     ((op = 1 || op = 2) && cur.isNone, NOT_PRESENT),
     (decide (0xFF00 ≤ k), NOT_PERMITTED),
     (inHoldup s, WRONG_STATE)] effect s

/-- LDG_WRITE (R446). -/
def execLdgWrite (t : Nat) (mb : Fin 8) (s : State) : Result State := .next (runCommand t mb 0x0A01 ldgWrite s)

/-- LDG_PART_TIMEOUT: parts are discarded after 1 s without a further part (R446). -/
def execLdgPartTimeout (t : Nat) (key : Half) (s : State) : Result State :=
  let s := advance t s
  .next (match s.ldg.parts.get none key.toNat with
    | some p => if passed s.now p.at0 (10 ^ 9) then { s with ldg.parts := s.ldg.parts.set none key.toNat none } else s
    | none => s)

/-- LDG_READ's answer (R447). -/
def ldgRead (w : Work) (s : State) : Reply × State :=
  let p := w.payload
  let k := field p 0 2 0
  match curRec s k with
  | none => (.done NOT_PRESENT [], s)
  | some r =>
    let d := recData s k r
    let off := field p 2 2 0
    let cnt := min (min 4056 (field p 4 2 4056)) (d.length - off)
    (.done DONE (leBytes 2 k ++ leBytes 1 r.cls ++ leBytes 1 (bit r.counter) ++ leBytes 2 d.length ++ leBytes 2 cnt
      ++ leBytes 4 r.seq ++ leBytes 2 off ++ zeros 2 ++ leBytes 8 r.wstamp ++ (d.drop off).take cnt), s)

/-- LDG_READ (R447). -/
def execLdgRead (t : Nat) (mb : Fin 8) (s : State) : Result State := .next (runCommand t mb 0x0A02 ldgRead s)

/-- One record moves to a new class: leaving HOT it is written to MRAM, entering HOT it keeps its MRAM copy; a record that
becomes COLD is appended to Firn (R448). -/
def reclass (cls k : Nat) (s : State) : State :=
  match rawRec s k with
  | none => s
  | some r =>
    let c := if r.counter && cls = 1 then 2 else cls
    let r1 := { r with cls := c }
    let s1 := if c = 1 then { s with ldg.hot := s.ldg.hot.set none k (some r1) }
      else { s with ldg.mram := s.ldg.mram.set none k (some r1), ldg.hot := s.ldg.hot.set none k none }
    if c = 3 && firnAvailable s1 && firnBehind s1 k then firnAppendRec k r1 s1 else s1

/-- LDG_CLASS_CFG's effect and answer (R427, R448). -/
def ldgClassCfg (w : Work) (s : State) : Reply × State :=
  let p := w.payload
  let first := min (field p 0 2 0) 0xFEFF
  let last := max first (min (field p 2 2 0) 0xFEFF)
  let cls := let c := field p 4 1 2; if c = 0 ∨ 3 < c then 2 else c
  let query := payloadBit p 5 7
  let keys := (ldgKeys s).filter fun k => decide (first ≤ k ∧ k ≤ last)
  let s1 := keys.foldl (fun s k => reclass cls k s)
    { s with ldg.cls := { first := first, last := last, cls := cls } :: s.ldg.cls }
  let kept := if cls = 1 then (keys.filter fun k => (rawRec s k).elim false LdgRec.counter).length else 0
  let echo (c : Nat) (st : State) (kept : Nat) : Bytes :=
    leBytes 2 first ++ leBytes 2 last ++ leBytes 1 c ++ leBytes 1 (if query then 128 else 0) ++ zeros 2
      ++ leBytes 4 (hotBytes st) ++ leBytes 2 kept ++ zeros 2
  if query then (.done DONE (echo (classOf s first) s 0), s)
  else checked [(decide (2097152 < hotBytes s1), NO_SPACE), (inHoldup s, WRONG_STATE)]
    (.done DONE (echo cls s1 kept), s1) s
where
  /-- A bit of a payload byte; 0 beyond the payload. -/
  payloadBit (p : Bytes) (off bitNo : Nat) : Bool := (p.getD off 0#8).getLsbD bitNo

/-- LDG_CLASS_CFG (R448). -/
def execLdgClassCfg (t : Nat) (mb : Fin 8) (s : State) : Result State := .next (runCommand t mb 0x0A03 ldgClassCfg s)

/-- Records still to append while catch-up runs (R449). -/
def catchupLeft (s : State) : Nat :=
  if s.ldg.catchUp then ((ldgKeys s).filter fun k => firnBehind s k && classOf s k ≠ 1).length else 0

/-- LDG_STATUS's answer; FINDINGS and MAG_PEAK clear as they are read (R449). -/
def ldgStatus (_w : Work) (s : State) : Reply × State :=
  let flags := bit (firnAvailable s) + 2 * bit s.ldg.fallback + 4 * bit (s.ldg.catchUp && firnAvailable s) + 8 * bit s.ldg.magAlert
    + 16 * bit s.power.reserveLow + 32 * bit s.ldg.dumpLost
  let d := committedDump s
  (.done DONE (leBytes 2 flags ++ leBytes 2 s.ldg.findings.toNat
    ++ leBytes 4 ((ldgKeys s).filter fun k => (curRec s k).isSome).length ++ leBytes 4 (hotBytes s) ++ leBytes 4 (poolFree s)
    ++ leBytes 2 (firnFree s) ++ leBytes 2 s.ldg.firnRetired.length
    ++ leBytes 4 (s.ldg.firnErases.foldl (fun m p => max m p.2) 0) ++ leBytes 4 s.ldg.boot ++ leBytes 4 (dumpSeq s)
    ++ leBytes 8 (d.elim 0 Dump.tai) ++ leBytes 2 s.ldg.magNow ++ leBytes 2 s.ldg.magPeak ++ leBytes 4 (catchupLeft s)),
   { s with ldg.findings := 0#16, ldg.magPeak := s.ldg.magNow })

/-- LDG_STATUS (R449). -/
def execLdgStatus (t : Nat) (mb : Fin 8) (s : State) : Result State := .next (runCommand t mb 0x0A04 ldgStatus s)

/-! ### Magnetometer (R440-R442) -/

/-- MAG_SAMPLE: a sample of the magnitude and its runs above 3,000 and below 2,400 A/m (R440). -/
def execMagSample (t mag : Nat) (s : State) : Result State :=
  let s := advance t s
  .next { s with
    ldg.magNow := min mag 65535
    ldg.magPeak := max s.ldg.magPeak (min mag 65535)
    ldg.magHighAt := if 3000 ≤ mag then some (s.ldg.magHighAt.getD s.now) else none
    ldg.magLowAt := if mag < 2400 then some (s.ldg.magLowAt.getD s.now) else none }

/-- MAG_ALERT_SET: at or above 3,000 A/m for 10 ms; EV085 and a finding are raised and the home copy goes to Firn (R440,
R441). -/
def execMagAlertSet (t : Nat) (s : State) : Result State :=
  let s := advance t s
  .next (match s.ldg.magHighAt with
    | some a =>
      if !s.ldg.magAlert && passed s.now a (10 * 10 ^ 6) then
        let s1 := logFault 0x33 0 (whr 3 1 0) (w32 s.ldg.magNow) 0#32
          (raiseNow 85 0 (w32 s.ldg.magNow) { s with ldg.magAlert := true })
        if firnAvailable s1 then firnPlace (2 ^ 40) 4096 { s1 with ldg.homeFirn := some s1.ldg.home } else s1
      else s
    | none => s)

/-- A key's MRAM copy is found bad by a scrub and repaired by R439 (R442, R475). -/
def repairKey (k : Nat) (s : State) : State :=
  reconcileKey k { s with ldg.mram := s.ldg.mram.set none k ((mramRec s k).map fun r => { r with valid := false }) }

/-- The retentive home copy is found bad by a scrub: it is repaired from its newest TYPE 3 chunks, and without them it is lost
(R442, R475). -/
def repairHome (s : State) : State :=
  match s.ldg.homeFirn with
  | some h => { s with ldg.home := h }
  | none => logFault 0x41 2 (whr 3 1 0) 0xFFFFFFFF#32 0#32 { s with ldg.home := {}, ldg.findings := s.ldg.findings ||| 2#16 }

/-- MAG_ALERT_CLEAR: below 2,400 A/m for 10 s; all of MRAM is scrubbed and repaired (blocks of the program store and table pages
take their contents back from the archive and from Firn), and the TYPE 3 chunks go (R440, R442, R449). -/
def execMagAlertClear (t : Nat) (bad : MagDamage) (s : State) : Result State :=
  let s := advance t s
  .next (match s.ldg.magLowAt with
    | some a =>
      if s.ldg.magAlert && passed s.now a (10 ^ 10) then
        let repaired := bad.home || bad.pages || decide (bad.keys ≠ [])
        let s0 := bad.keys.foldl (fun s k => repairKey k s)
          { s with ldg.magAlert := false, ldg.findings := if repaired then s.ldg.findings ||| 4#16 else s.ldg.findings }
        let s1 := if bad.home then repairHome s0 else s0
        { s1 with ldg.homeFirn := none, ldg.firnEnt := s1.ldg.firnEnt.set 0 (2 ^ 40) 0 }
      else s
    | none => s)

/-! ### SOE archive (R443) -/

/-- Records go to the archive; the oldest erase block of 8,192 records is erased when space is needed (R420, R443). -/
def archiveRecs (rs : List EvRec) (s : State) : State :=
  { s with ev.archive :=
      if s.ev.archive.length + rs.length ≤ 5767168 then s.ev.archive ++ rs else s.ev.archive.drop 8192 ++ rs }

/-- SOE_ARCHIVE_APPEND: as each 128 records of the SOE log fill they are appended to the archive; under MAG_ALERT each
record at once (R441, R443). -/
def execSoeArchiveAppend (t : Nat) (s : State) : Result State :=
  let s := advance t s
  let n := if s.ldg.magAlert then s.ev.soeUnarchived else s.ev.soeUnarchived / 128 * 128
  .next (if s.ldg.flashFailed || n = 0 then s
    else
      let from0 := s.ev.soe.drop (s.ev.soe.length - s.ev.soeUnarchived)
      { archiveRecs (from0.take n) s with ev.soeUnarchived := s.ev.soeUnarchived - n })

/-! ### Scrubs of memory (R475) -/

/-- A test is due: its interval has passed since its last pass, or a full round has been asked for (R475, R476). -/
def testDue (k ns : Nat) (s : State) : Bool := s.sup.runNow || s.pair.testRound || passed s.now (s.sup.testAt.get 0 k) ns

/-- A pass of a test begins its next interval. -/
def tested (k : Nat) (s : State) : State := { s with sup.testAt := s.sup.testAt.set 0 k s.now }

/-- Every word that a scrub has corrected is counted and logged, with its memory and address (R15, R475; log entry 52). -/
def noteCorrected (w : Word) (words : List (Nat × Nat)) (s : State) : State :=
  words.foldl (fun s c => logFault 1 1 w (w32 c.1) (w32 c.2) (count 0 1 s)) s

/-- MRAM_SCRUB, every MRAM_SCRUB_MIN: corrected cells are counted and logged, bad keys and the home copy repaired; a program store
that cannot be repaired, and a failed MRAM die or memory link, are module-level failures (R12, R43, R442, R475). -/
def execMramScrub (t : Nat) (corrected : List Nat) (bad : ScrubDamage) (linkFailed : Bool) (s : State) : Result State :=
  let s := advance t s
  .next (if !inRun s || !testDue 1 (s.sup.mramMin * 60 * 10 ^ 9) s then s
    else
      let s1 := noteCorrected (whr 3 1 0) (corrected.map fun a => (5, a)) (tested 1 s)
      let s3 := bad.keys.foldl (fun s k => repairKey k (count 1 1 s)) s1
      let s2 := if bad.home then repairHome (count 1 1 s3) else s3
      if bad.program || linkFailed then moduleFailure 2 (logFault 2 3 (whr 3 1 0) 5#32 0#32 (count 1 1 s2)) else s2)

/-- FLASH_PATROL, every PATROL_DAYS: pages with heavy correction are rewritten and counted; the block of an uncorrectable page is
retired after the page is taken from its other copy; a failed flash die leaves the fallback (R43, R433, R475). -/
def execFlashPatrol (t : Nat) (rewritten : List Nat) (found : PatrolFound) (s : State) : Result State :=
  let s := advance t s
  .next (if !inRun s || s.ldg.flashFailed then s
    else if found.dieFailed then noteFallback { s with ldg.flashFailed := true }
    else if !testDue 2 (s.sup.patrolDays * 86400 * 10 ^ 9) s then s
    else
      let s1 := noteCorrected (whr 3 2 0) (rewritten.map fun a => (6, a)) (tested 2 s)
      if found.badBlocks = 0 then s1
      else
        let s2 := logFault 2 2 (whr 3 2 0) 6#32 0#32 (count 1 found.badBlocks s1)
        { s2 with
          ldg.firnRetired := s2.ldg.firnRetired ++ s2.ldg.firnClosed.take found.badBlocks
          ldg.firnClosed := s2.ldg.firnClosed.drop found.badBlocks })

/-! ### Tables (R444, R445, R450, R451) -/

/-- The pages of the window that a change touches (R444, R445). -/
def pagesOf (base off len : Nat) : List Nat :=
  if len = 0 then [] else (List.range ((base + off + len - 1) / 4096 + 1 - (base + off) / 4096)).map fun k => (base + off) / 4096 + k

/-- The pages for which the staged changes have taken spare ones. -/
def stagedPages (s : State) : List Nat :=
  (s.ldg.tblStaged.flatMap fun c => pagesOf ((prog s).tables.get {} c.table).base c.offset c.data.length).dedup

/-- Old pages not yet returned: some cycle released before a flip still reads them (R445). -/
def heldPages (s : State) : Nat := if s.scan.tasks.any fun t => t.2.oldTables.isSome then s.ldg.tblHeld else 0

/-- One change in the window. -/
def applyTable (s : State) (m : Memory) (c : TblPart) : Memory :=
  Memory.writeBytes m (((prog s).tables.get {} c.table).base + c.offset) c.data

/-- The flip: every staged change takes effect in arrival order, its command is answered; a cycle released before keeps the
old pages (R206, R445, R450). -/
def flipTables (s : State) : State :=
  if s.ldg.tblStaged = [] then s
  else
    let old := s.eng.tables
    let staged := s.ldg.tblStaged
    let s1 := { s with
      scan.tasks := s.scan.tasks.mapVal {} fun _ r =>
        if r.state = .idle ∨ r.oldTables.isSome then r else { r with oldTables := some old }
      eng.tables := staged.foldl (applyTable s) old
      ldg.tblHeld := heldPages s + (stagedPages s).length
      ldg.tblStaged := [] }
    staged.foldl (fun s c =>
      let s2 := if firnAvailable s then firnPlace (2 ^ 20 + 65536 * c.table + c.offset / 4096) 4096 s else s
      finishWid c.wid DONE (leBytes 1 c.table ++ zeros 3 ++ leBytes 4 c.data.length ++ leBytes 8 s2.scan.scan) s2) s1

/-- The module stands at a BASE boundary, or no program runs that would reach one (R162). -/
def boundary (s : State) : Bool := s.scan.atBoundary || decide (s.scan.mode ≠ 2)

/-- TABLE_FLIP: at the BASE boundary the page map flips (R445). -/
def execTableFlip (t : Nat) (s : State) : Result State :=
  let s := advance t s
  .next (if boundary s then flipTables s else s)

/-- A command forwarded as received to a partner whose identity has been checked, in step or not, with the last scan before its
effect: a command that arrives between a publish and the next snapshot acts before that snapshot (R40, R79, R395). -/
def forward (code : Nat) (payload : Bytes) (s : State) : State :=
  if isKeeper s && s.pair.known && decide (s.pair.lanes ≠ 0#2) then
    { s with pair.sent := { kind := 6, num := code, scan := s.scan.scan - bit s.scan.atBoundary, data := payload } :: s.pair.sent }
  else s

/-- A task of a function marked safety (R452, R455). -/
def spb (s : State) : Spb := (prog s).spb.getD {}

/-- TBL_WRITE's effect: the change is staged for the flip (R445, R450). -/
def tblWrite (w : Work) (s : State) : Reply × State :=
  let p := w.payload
  let tb := field p 0 1 0
  let d := (prog s).tables.get {} tb
  let off := field p 4 4 0
  let data := (p.drop 8).take (d.len - off)
  checked
    [(decide (d.len = 0 ∨ d.len < off), NOT_PRESENT),
     (decide (512 < heldPages s + ((stagedPages s ++ pagesOf d.base off data.length).dedup).length), BUSY),
     ((spb s).tableMask.getLsbD tb && (prog s).spb.isSome, NOT_PERMITTED),
     (s.ps.prog.isNone || isStation s || isApprentice s || inHoldup s, WRONG_STATE)]
    (.later, forward 0x0A05 p
      { s with ldg.tblStaged := s.ldg.tblStaged ++ [{ table := tb, offset := off, data := data, wid := w.wid }] }) s

/-- TBL_WRITE (R450). -/
def execTblWrite (t : Nat) (mb : Fin 8) (s : State) : Result State := .next (runCommand t mb 0x0A05 tblWrite s)

/-- TBL_READ's answer (R451). -/
def tblRead (w : Work) (s : State) : Reply × State :=
  let p := w.payload
  let tb := field p 0 1 0
  let d := (prog s).tables.get {} tb
  let off := field p 4 4 0
  let cnt := min (min 4064 (field p 8 4 4064)) (d.len - off)
  checked [(decide (d.len = 0 ∨ d.len < off), NOT_PRESENT)]
    (.done DONE (leBytes 1 tb ++ zeros 3 ++ leBytes 4 off ++ leBytes 4 cnt ++ zeros 4
      ++ Memory.readBytes s.eng.tables (d.base + off) cnt), s) s

/-- TBL_READ (R451). -/
def execTblRead (t : Nat) (mb : Fin 8) (s : State) : Result State := .next (runCommand t mb 0x0A06 tblRead s)

end Sys2Proof.Machine
end

