-- ==== Sys2Proof/Machine/Supervision.lean ====
section
/-! DEFINITION. Supervision: self-test, health report, Tally, leases, the fault log (R474-R494, R43). -/

namespace Sys2Proof.Machine

/-! ### Tally -/

/-- Ticks of a period: PERIOD_US at the nominal clock, to the nearest multiple of 8, at least 32 (R480). -/
def ticksOf (us clk : Nat) : Nat :=
  let n := if clk = 1 then us * 512 else us * 4
  let d := if clk = 1 then 15625 else 125
  max 32 ((n + 4 * d) / (8 * d) * 8)

/-- W of a period: P/8, P/4, P/2 or 3P/4 as WDF says (R480). -/
def windowOpen (p wdf : Nat) : Nat := match wdf with
  | 0 => p / 8 | 1 => p / 4 | 2 => p / 2 | _ => 3 * p / 4

/-- Tally's count now, in ticks of the chosen clock (R480, R481). -/
def tallyCount (s : State) : Nat :=
  (s.now - s.sup.periodAt) * (if s.sup.clk = 1 then 32768 else 32000) / 10 ^ 9

/-- The task that holds a program slot in the slot map of the partition in use, as 256 × task + logical engine + 1; 0 when no
one does (R478, R483). -/
def slotHolder (s : State) (n : Nat) : Nat := if n < 2 then 0 else (partition s).tally.get 0 n

/-- A mask of the slots of a list. -/
def slotMask (ns : List Nat) : Word := ns.foldl (fun m n => m ||| (1#32 <<< n)) 0#32

/-- Slots held: T00 and T01 by Steward, others as the image gives them (R478). -/
def heldMask (s : State) : Word :=
  slotMask ((List.range 32).filter fun n => n < 2 || slotHolder s n ≠ 0)

/-- Slots to be armed in the period that begins now (R483). -/
def armedMask (s : State) : Word :=
  if s.power.service ≠ .full then 1#32
  else if s.scan.mode ≠ 2 ∨ (isApprentice s ∧ s.pair.state ≠ 3) then 3#32
  else 3#32 ||| slotMask ((List.range 32).filter fun n =>
    slotHolder s n ≠ 0 && (s.sup.ready.getLsbD n || decide (s.scan.startedAt + 2 * 10 ^ 9 ≤ s.now)))

/-- A period begins with count 0 and any TALLY_CFG change in force (R480, R492); an APPRENTICE starts with every program
slot excused (R483); early service runs with P of 1 s. -/
def newPeriod (s : State) : State :=
  let s1 : State := match s.sup.tallyNext with
    | some (us, c) => { s with sup.periodUs := us, sup.clk := c, sup.tallyNext := none }
    | none => s
  let s2 : State := { s1 with
    sup.periodAt := s1.now
    sup.satisfied := 0#32
    sup.excused := if isApprentice s1 then 0xFFFFFFFC#32 else 0#32
    sup.ticks := if s1.power.service = .full then ticksOf s1.sup.periodUs s1.sup.clk else ticksOf 1000000 s1.sup.clk
    eng.tallyState := [] }
  { s2 with sup.armed := armedMask s2, sup.switchPeriods := s1.sup.switchPeriods - 1 }

/-- A check-in of a slot at the count in force: EARLY, IN_WINDOW, DUPLICATE or LATE (R481). -/
def checkIn (n : Nat) (s : State) : State :=
  let c := tallyCount s
  let p := s.sup.ticks
  if !s.sup.tallyOn then s
  else if c < windowOpen p s.sup.wdf then
    count 8 1 { s with sup.early := s.sup.early.set 0 n (s.sup.early.get 0 n + 1) }
  else if c < p ∧ s.sup.satisfied.getLsbD n = false then
    { s with sup.satisfied := s.sup.satisfied ||| (1#32 <<< n), sup.ready := s.sup.ready ||| (1#32 <<< n) }
  else count 9 1 { s with sup.dups := s.sup.dups.set 0 n (s.sup.dups.get 0 n + 1) }

/-- A store to TALLY_CHECKIN by a physical engine: a slot this engine holds checks in and shows in TALLY_STATE; one it does
not hold is logged (R209, R210, R481). -/
def engineCheckIn (e n : Nat) (s : State) : State :=
  if slotHolder s n ≠ 0 ∧ (slotHolder s n - 1) % 256 = logEngine s e then
    let s1 := checkIn n s
    { s1 with eng.tallyState := s1.eng.tallyState.set 0#32 e (s1.eng.tallyState.get 0#32 e ||| (1#32 <<< n)) }
  else logFault 0xA 0 (whr 1 (e / 4) e) (w32 n) (w32 e) s

/-- Slots that the period requires: armed, not excused, Steward's alone at an APPRENTICE not in step, and in the two periods of an
epoch switch not of a changed task (R482, R483). -/
def requiredMask (s : State) : Word :=
  s.sup.armed &&& ~~~s.sup.excused &&& (if isApprentice s ∧ s.pair.state ≠ 3 then 3#32 else 0xFFFFFFFF#32)
    &&& (if s.sup.switchPeriods = 0 then 0xFFFFFFFF#32 else ~~~s.sup.switchSlots)

/-- A Tally trip: release stops, cycles are abandoned, the dies hold, VALID clears; if T00 and T01 passed, the trip is
logged and steps 3 to 6 of R71 run; then the logic die resets and a restart follows, at a KEEPER once it has sent its cleared claim
for one lease, Rime running on till then (R485, R43, R406). -/
def tallyTrip (mask : Word) (kind : Nat) (stewardPassed : Bool) (s : State) : State :=
  let s1 := disqualify 0x10 (holdAll (abandonAll s))
  let s2 := { s1 with
    sup.tallyOn := false
    sup.trips := min (s1.sup.trips + 1) 65535
    sup.tripAt := s1.now :: s1.sup.tripAt.take 15 }
  let s3 := if stewardPassed then powerDump false (logFault 0x10 3 (whr 4 0 0) mask (w32 kind) s2)
    else { s2 with sup.tripLatched := some (mask, kind) }
  if isKeeper s && fullService s then
    { s3 with power.restart := some .trip, power.tripUntil := some (s.now + 250000 * s.pair.leaseQ), power.startReady := false }
  else
    { s3 with rime.mode := 0, power.restart := some .trip, power.service := .booting, power.startReady := false
              power.pwrGood := false }

/-- TALLY_WINDOW_OPEN: Steward is signalled, and each of its two loops that is not hung checks in its slot (R478). -/
def execTallyWindowOpen (t : Nat) (hungMain hungLedger : Bool) (s : State) : Result State :=
  let s := advance t s
  .next (if !s.sup.tallyOn || s.sec.stewardHalted || decide (tallyCount s < windowOpen s.sup.ticks s.sup.wdf) then s
    else
      let s1 := if hungMain then s else checkIn 0 s
      if hungLedger then s1 else checkIn 1 s1)

/-- TALLY_PERIOD_END: the period passes if every slot it requires is satisfied, and the next begins; else Tally trips
(R481, R482). -/
def tallyPeriodEnd (s : State) : State :=
  if !s.sup.tallyOn || decide (tallyCount s < s.sup.ticks) then s
  else
    let missing := requiredMask s &&& ~~~s.sup.satisfied
    let steward := s.sup.satisfied.getLsbD 0 && s.sup.satisfied.getLsbD 1
    if missing = 0#32 then newPeriod { s with sup.stewardOk := steward }
    else tallyTrip missing 0 steward s

/-- TALLY_PERIOD_END. -/
def execTallyPeriodEnd (t : Nat) (s : State) : Result State := .next (tallyPeriodEnd (advance t s))

/-! ### Self-test -/

/-- Self-tests run while a program runs (R475). -/
def testing (s : State) : Bool := fullService s && decide (s.scan.mode = 2)

/-- No task is running or pending on a physical engine (R476). -/
def engineIdle (s : State) (e : Nat) : Bool := [0, 1, 2, 3].all fun c => (s.bank e c).task.isNone

/-- TEST_SLICE: every SLICE_MS an engine runs one slice in its idle time or at a BASE boundary; a failure retires its region (R23,
R475, R476). -/
def testSlice (e : Nat) (pass : Bool) (s : State) : State :=
  if !testing s || s.power.retired.getLsbD (e / 4) || !(engineIdle s e || s.scan.atBoundary)
      || !testDue (16 + e) (s.sup.sliceMs * 10 ^ 6) s then s
  else
    let n := s.eng.slices.get 0 e
    if pass then count 4 1 { tested (16 + e) s with eng.slices := s.eng.slices.set 0 e ((n + 1) % 256) }
    else
      let cls := if isKeeper s || decide (s.power.retired ≠ 0#4) then 3 else 2
      retireRegion (e / 4) 5 (logFault 5 cls (whr 1 (e / 4) e) (w32 n) 0#32 (count 5 1 s))

/-- TEST_SLICE. -/
def execTestSlice (t : Nat) (e : Fin 16) (pass : Bool) (s : State) : Result State := .next (testSlice e pass (advance t s))

/-- An APPRENTICE falls out of step with a cause (R400, R406, R417). -/
def outOfStep (cause : Nat) (s : State) : State :=
  if isApprentice s && decide (s.pair.state = 2 ∨ s.pair.state = 3) then
    logFault 0x7A 0 (whr 5 0 0) (w32 cause) (w32 s.scan.scan)
      (clearValid { s with
        pair.state := 4, pair.handover := none, pair.cause := cause, pair.matched := 0, pair.aligned := false, pair.inStepAt := none, pair.takebackDone := false
        pair.lastScan := s.scan.scan, pair.lastTai := s.time.tai, pair.alignFailedAt := some s.now })
  else s

/-- TEST_ROUND_COMPLETE: the round of RUN_NOW or of an OUT_CRC mismatch ends; a failure is disqualifying, and if both pass
the APPRENTICE falls out of step, with PAIR_SUSPECT at the third mismatch within one hour (R402, R476). -/
def testRoundComplete (pass : Bool) (s : State) : State :=
  let s0 := { s with sup.runNow := false }
  if !s.pair.testRound then s0
  else
    let s1 := { s0 with pair.testRound := false }
    if !pass then disqualify 0x50 s1
    else if !isApprentice s then s1
    else
      let recent := (s.pair.mismatchAt.filter fun a => decide (s.now ≤ a + 3600 * 10 ^ 9)).length
      if 3 ≤ recent then
        logFault 0x7B 2 (whr 5 0 0) (w32 recent) 0#32 (outOfStep 6 { s1 with pair.suspect := true })
      else outOfStep 2 s1

/-- TEST_ROUND_COMPLETE. -/
def execTestRoundComplete (t : Nat) (pass : Bool) (s : State) : Result State :=
  .next (testRoundComplete pass (advance t s))

/-- SRAM_SCRUB, every SRAM_SCRUB_S: corrected words of a region, or of the image store (4), are counted and logged; an uncorrectable
word in region SRAM retires the region, one in the image store is disqualifying (R15, R43, R475; log entry 52). -/
def sramScrub (corrected : List (Fin 5 × Nat)) (bad : BitVec 4) (badStore : Bool) (s : State) : State :=
  if !testing s || !testDue 0 (s.sup.sramS * 10 ^ 9) s then s
  else
    let s1 := corrected.foldl (fun s c =>
      noteCorrected (if c.1.val = 4 then whr 4 0 0 else whr 2 c.1 0) [(c.1.val, c.2)] s) (tested 0 s)
    let s2 := (List.range 4).foldl (fun s p =>
      if bad.getLsbD p && !s.power.retired.getLsbD p then
        retireRegion p 2 (logFault 2 (if isKeeper s then 3 else 2) (whr 2 p 0) (w32 p) 0#32 (count 1 1 s))
      else s) s1
    if badStore then moduleFailure 2 (logFault 2 3 (whr 4 0 0) 4#32 0#32 (count 1 1 s2)) else s2

/-- SRAM_SCRUB. -/
def execSramScrub (t : Nat) (corrected : List (Fin 5 × Nat)) (bad : BitVec 4) (badStore : Bool) (s : State) : Result State :=
  .next (sramScrub corrected bad badStore (advance t s))

/-- A channel coupler's finding: FAULTS bit COUPLER, logged as COUPLER_FAIL and counted (R12, R325, R490). -/
def couplerFinding (ch : Nat) (s : State) : State :=
  logFault 0x20 2 (whr 0 (dieOf ch) ch) (w32 ch) 0#32
    (count 6 1 (s.setChan ch { s.chan ch with faults := (s.chan ch).faults ||| 0x40#16 }))

/-- COUPLER_LOOPBACK: a loop fails by its CRC or beyond 100 ns; after 3 consecutive failed loops a channel is lost and held, its
input stale (R12, R43, R475, R580). -/
def couplerLoopback (ch : Nat) (crcOk : Bool) (rttNs : Nat) (s : State) : State :=
  let c := s.chan ch
  if !serving s then s
  else if crcOk && decide (rttNs ≤ 100) then s.setChan ch { c with loopFails := 0 }
  else
    let n := c.loopFails + 1
    if n < 3 ∨ c.lost then s.setChan ch { c with loopFails := min n 3 }
    else markIx ch (couplerFinding ch (s.setChan ch { c with loopFails := 3, lost := true }))

/-- COUPLER_LOOPBACK. -/
def execCouplerLoopback (t : Nat) (ch : Fin 64) (crcOk : Bool) (rttNs : Nat) (s : State) : Result State :=
  .next (couplerLoopback ch crcOk rttNs (advance t s))

/-- CONTROL_COUPLER_LOOPBACK: one control coupler failing is reported and the die goes on with the other; with both silent
the die sees the logic side as silent, holds and counts as lost, as it does with its power transformer failed, when VFLDd alone
powers it (R12, R43, R61, R318). -/
def controlCouplerLoopback (d : Nat) (okA okB txOk : Bool) (s : State) : State :=
  let x := s.die d
  if !serving s then s
  else
    let gone := !txOk || (!okA && !okB)
    let s1 := s.setDie d { x with couplerA := okA, couplerB := okB, txLost := !txOk, lost := gone, holding := x.holding || gone
                                  powered := x.powered && (txOk || decide (x.vfldMv ≠ 0)) }
    let s2 := if !okA && x.couplerA then logFault 0x20 2 (whr 3 d 0) (w32 (16 * d)) 1#32 (count 6 1 s1) else s1
    let s3 := if !okB && x.couplerB then logFault 0x20 2 (whr 3 d 0) (w32 (16 * d)) 2#32 (count 6 1 s2) else s2
    if gone && !x.lost then
      (List.range 16).foldl (fun s i => markIx (16 * d + i) s)
        (logFault 0x21 2 (whr 3 d 0) (w32 d) 0#32 s3)
    else s3

/-- CONTROL_COUPLER_LOOPBACK. -/
def execControlCouplerLoopback (t : Nat) (d : Fin 4) (loop : CouplerLoop) (txOk : Bool) (s : State) : Result State :=
  .next (controlCouplerLoopback d loop.okA loop.okB txOk (advance t s))

/-- A partner lane goes down: 0 missed heartbeats, 1 error rate (R394, R490). -/
def laneFails (lane why : Nat) (s : State) : State :=
  if s.pair.lanes.getLsbD lane then
    logFault 0x79 2 (whr 5 0 lane) (w32 lane) (w32 why)
      { s with pair.lanes := s.pair.lanes &&& ~~~(1#2 <<< lane) }
  else s

/-- LINK_ERROR_WINDOW: errors are counted; a rate above 10⁻¹⁰ is a finding and takes a partner lane down (R394, R475). -/
def linkErrorWindow (link errors bits : Nat) (s : State) : State :=
  let s1 := count 7 errors s
  if bits < errors * 10 ^ 10 then
    let s2 := logFault 0x22 2 (whr 4 0 link) (w32 link) (w32 errors) s1
    if 4 ≤ link then laneFails (link - 4) 1 s2 else s2
  else s1

/-- LINK_ERROR_WINDOW. -/
def execLinkErrorWindow (t : Nat) (link : Fin 6) (errors bits : Nat) (s : State) : Result State :=
  let s := advance t s
  .next (if inRun s then linkErrorWindow link errors bits s else s)

/-! ### Health report -/

/-- The target PREFERENCE: 0 when yielding, the incumbent's bit for the module in control, PREF alone after TAKEBACK_S in step
(R405). -/
def targetPref (s : State) : Nat :=
  if s.pair.yield then 0
  else if !isApprentice s then 2 * s.pair.pref + 1
  else if s.pair.takebackDone then 2 * s.pair.pref else 0

/-- The target claim (R407). -/
def targetClaim (s : State) : Half :=
  BitVec.ofNat 16 (32768 * bit s.pair.valid + 256 * (s.pair.targetHealth % 128) + 2 * (targetPref s % 128)
    + bit s.pair.seed)

/-- Share of the current slice round completed, over the engines in service (R491). -/
def roundPct (s : State) : Nat :=
  let es := (List.range 16).filter fun e => !s.power.retired.getLsbD (e / 4)
  if es = [] then 0 else (es.map fun e => s.eng.slices.get 0 e).sum * 100 / (256 * es.length)

/-- The health report's 64 bytes (R491). -/
def reportBytes (s : State) : Bytes :=
  let c (k : Nat) := s.sup.ctr.get 0 k
  leBytes 8 s.time.tai ++ leBytes 4 s.sup.reportSeq ++ leBytes 2 (targetClaim s).toNat ++ leBytes 1 s.sup.worst
    ++ leBytes 1 s.power.retired.toNat ++ leBytes 4 (c 0) ++ leBytes 4 (c 1) ++ leBytes 4 (c 2) ++ leBytes 4 (c 3)
    ++ leBytes 4 (c 4) ++ leBytes 2 (c 5) ++ leBytes 2 (c 6) ++ leBytes 4 (c 7) ++ leBytes 4 (c 8) ++ leBytes 4 (c 9)
    ++ leBytes 4 (c 10) ++ leBytes 4 ((s.sup.logSeq + 2 ^ 32 - 1) % 2 ^ 32) ++ leBytes 1 (roundPct s) ++ zeros 3

/-- HEALTH_REPORT_BUILD: every 100 ms a report is built; in a pair it goes to the partner (R477). -/
def execHealthReportBuild (t : Nat) (s : State) : Result State :=
  let s := advance t s
  .next (if !fullService s || !passed s.now (s.sup.testAt.get 0 3) (10 ^ 8) then s
    else
      let s1 := { tested 3 s with sup.report := some (reportBytes s), sup.reportSeq := (s.sup.reportSeq + 1) % 2 ^ 32 }
      if inPair s then { s1 with pair.sent := { kind := 7, data := reportBytes s } :: s1.pair.sent } else s1)

/-- HEALTH_REPORT's answer (R491). -/
def healthReport (w : Work) (s : State) : Reply × State :=
  let which := if 1 < field w.payload 0 1 0 then 0 else field w.payload 0 1 0
  if which = 1 then
    match s.pair.partnerReport with
    | some r => (.done DONE r, s)
    | none => (.done NOT_PRESENT [], s)
  else (.done DONE (s.sup.report.getD (zeros 64)), s)

/-- HEALTH_REPORT (R491). -/
def execHealthReport (t : Nat) (mb : Fin 8) (s : State) : Result State := .next (runCommand t mb 0x0C01 healthReport s)

/-! ### Steward -/

/-- A Steward restart: every mailbox goes IDLE and its running request is lost, an edit that stages is discarded, the
restart is counted and IRQ_STATUS[11] set (R288, R560, R564, R567). -/
def stewardRestart (s : State) : State :=
  let s1 := { s with
    host.works := []
    host.mb := s.host.mb.mapVal {} fun _ m => { m with state := 0, deferredResult := false }
    sup.stewardRestarts := (s.sup.stewardRestarts + 1) % 256 }
  let s2 := if s1.edit.state = 1 then abortEdit 6 { s1 with edit.asked := false } else s1
  setIrq 11 s2

/-- STEWARD_RESTART. -/
def execStewardRestart (t : Nat) (s : State) : Result State :=
  let s := advance t s
  .next (if portsUp s then stewardRestart s else s)

/-! ### Commands -/

/-- The window of a setting is shorter than CHECKIN_US (R484): 29.76 µs or 30.52 µs per tick at the fastest tolerance. -/
def windowTooShort (s : State) (us clk checkinUs : Nat) : Bool :=
  let p := ticksOf us clk
  decide ((p - windowOpen p s.sup.wdf) * (if clk = 1 then 3052 else 2976) < 100 * checkinUs)

/-- TALLY_CFG's effect and answer (R484, R492). -/
def tallyCfg (w : Work) (s : State) : Reply × State :=
  let p := w.payload
  let query := payloadBit p 5 7
  let us := if query then s.sup.periodUs else clamp 1000 10000000 (field p 0 4 100000)
  let clk := if query then s.sup.clk else if 1 < field p 4 1 0 then 0 else field p 4 1 0
  let ticks := ticksOf us clk
  let echo := leBytes 4 us ++ leBytes 1 clk ++ leBytes 1 (if query then 128 else 0) ++ leBytes 1 s.sup.wdf ++ zeros 1
    ++ leBytes 4 ticks ++ leBytes 4 (ticks - windowOpen ticks s.sup.wdf) ++ leBytes 4 (heldMask s).toNat
    ++ leBytes 4 s.sup.armed.toNat ++ leBytes 4 (prog s).checkinUs ++ leBytes 2 s.sup.trips ++ zeros 2
  if query then (.done DONE echo, s)
  else checked [(windowTooShort s us clk (prog s).checkinUs || inHoldup s, WRONG_STATE)]
    (.done DONE echo, { s with sup.tallyNext := some (us, clk) }) s

/-- TALLY_CFG (R492). -/
def execTallyCfg (t : Nat) (mb : Fin 8) (s : State) : Result State := .next (runCommand t mb 0x0C02 tallyCfg s)

/-- SELFTEST_CFG's effect and answer (R476, R493). -/
def selftestCfg (w : Work) (s : State) : Reply × State :=
  let p := w.payload
  let query := payloadBit p 7 7
  let run := payloadBit p 7 0
  let img := min (prog s).sliceMs 100
  let s1 := if query then s else { s with
    sup.sliceMs := clamp img 100 (field p 0 2 (prog s).sliceMs)
    sup.sramS := clamp 1 60 (field p 2 2 10)
    sup.mramMin := clamp 10 1440 (field p 4 2 60)
    sup.patrolDays := clamp 1 30 (field p 6 1 7)
    sup.runNow := s.sup.runNow || run
    eng.slices := if run then [] else s.eng.slices }
  let echo := leBytes 2 s1.sup.sliceMs ++ leBytes 2 s1.sup.sramS ++ leBytes 2 s1.sup.mramMin ++ leBytes 1 s1.sup.patrolDays
    ++ leBytes 1 (bit run + 128 * bit query)
  if query then (.done DONE echo, s)
  else checked [(run && s.sup.runNow, BUSY), (inHoldup s, WRONG_STATE)] (.done DONE echo, s1) s

/-- SELFTEST_CFG (R493). -/
def execSelftestCfg (t : Nat) (mb : Fin 8) (s : State) : Result State := .next (runCommand t mb 0x0C03 selftestCfg s)

/-- A fault log entry in its 32 bytes (R489). -/
def faultBytes (e : FaultEnt) : Bytes :=
  leBytes 8 e.tai ++ leBytes 4 e.seq ++ leBytes 2 e.code ++ leBytes 1 e.cls ++ [e.quality] ++ leBytes 4 e.whr.toNat
    ++ leBytes 4 e.data0.toNat ++ leBytes 4 e.data1.toNat ++ leBytes 4 e.count

/-- FAULT_LOG_READ's answer (R494). -/
def faultLogRead (w : Work) (s : State) : Reply × State :=
  let p := w.payload
  let log := s.sup.log.reverse
  match log.head?, s.sup.log.head? with
  | some oldest, some newest =>
    let start := field p 0 4 0
    let older := newerSeq oldest.seq start
    let from0 := if older then oldest.seq else start
    let n := min (clamp 1 127 (field p 4 2 127)) log.length
    let minCls := min 3 (field p 6 1 0)
    let es := ((log.filter fun e => !newerSeq from0 e.seq).filter fun e => decide (minCls ≤ e.cls)).take n
    let first := es.head?.elim from0 FaultEnt.seq
    checked [(newerSeq start newest.seq, NOT_PRESENT)]
      (.done DONE (leBytes 4 first ++ leBytes 2 es.length ++ leBytes 1 (bit older) ++ zeros 1 ++ leBytes 4 oldest.seq
        ++ leBytes 4 newest.seq ++ es.flatMap faultBytes), s) s
  | _, _ => (.done NOT_PRESENT [], s)

/-- FAULT_LOG_READ (R494). -/
def execFaultLogRead (t : Nat) (mb : Fin 8) (s : State) : Result State := .next (runCommand t mb 0x0C04 faultLogRead s)

end Sys2Proof.Machine
end

