-- ==== Sys2Proof/Machine/Access.lean ====
section
/-! DEFINITION. What an engine reaches: the windows of its address map, the process image as the running task sees it, the
system words, and the two stacks (R142, R152-R158, R202-R218). -/

namespace Sys2Proof.Machine

/-! ### Claims in force (R142, R209, R410) -/

/-- The partner's claim stands: it is valid and was refreshed within its lease. -/
def partnerClaims (s : State) : Bool :=
  s.pair.partnerClaim.msb && (match s.pair.partnerAt with
    | some a => decide (s.now ≤ a + 250000 * (s.pair.partner.elim s.pair.leaseQ HbRec.leaseQ))
    | none => false)

/-- The highest valid claim in force, 0 where there is none (R209). -/
def highestClaim (s : State) : Half :=
  let own := if s.pair.valid then claimOf s else 0#16
  let other := if partnerClaims s then s.pair.partnerClaim else 0#16
  if own < other then other else own

/-- SX2 IN_CONTROL: this module's claim is the highest valid claim (R142). -/
def inControl (s : State) : Bool := s.pair.valid && decide (highestClaim s = claimOf s)

/-! ### The running stripe -/

/-- Why a syllable traps: cause and sub-cause (R217). -/
abbrev Trp := Nat × Nat

/-- ALIGN (R217). -/
def tAlign (sub : Nat) : Trp := (6, sub)
/-- IMAGE_BOUND (R218). -/
def tBound (sub : Nat) : Trp := (7, sub)
/-- STACK (R213). -/
def tStack (sub : Nat) : Trp := (5, sub)

/-- What a bundle runs in: the state at its start, its engine (the even one of a pair), class, task, stripe and bank with
every write that has landed. -/
structure Ctx where
  s : State
  e : Nat
  c : Nat
  n : Nat
  d : TaskDecl
  st : Stripe
  b : Bank

/-- A register as a bundle reads it; g0 reads zero (R187). -/
def Ctx.reg (x : Ctx) (r : Nat) : Word := if r = 0 then 0#32 else x.b.g.get 0#32 r

/-- A pair as a bundle reads it (R188). -/
def Ctx.pair (x : Ctx) (r : Nat) : Dword := joinPair (x.reg r) (x.reg (r + 1))

/-- The physical region of the engine. -/
def Ctx.region (x : Ctx) : Nat := x.e / 4

/-- The logical region of the engine. -/
def Ctx.logical (x : Ctx) : Nat := logRegion x.s x.region

/-- The root block that the running cycle's epoch has in its region (R161, R275, R279). -/
def Ctx.root (x : Ctx) : Nat :=
  let r := x.s.region x.region
  if (x.s.task x.n).epoch = x.s.ps.epoch then r.root else r.rootOld

/-- The other stripes of the same phase (R158). -/
def Ctx.others (x : Ctx) : List Stripe :=
  x.d.stripes.filter fun p => p.phase = x.st.phase && stripeEngine p ≠ stripeEngine x.st

/-! ### The process image as a task sees it (R137-R143, R152-R158, R208, R218) -/

/-- The index lies in the space (R11, R142, R143). -/
def indexOk (space i : Nat) : Bool :=
  match space with
  | 1 | 2 => decide (i < 32768)
  | 3 => decide (i < 1048576)
  | 4 | 5 => decide (i < 16384)
  | 6 => decide (i < 256)
  | 7 => decide (i < 256 ∨ (4096 ≤ i ∧ i < 5120))
  | 8 => decide (i < 3968)
  | _ => false

/-- A word point: IW, QW and the system words. -/
def isWordPoint (a : Nat) : Bool :=
  spaceOf a = 4 || spaceOf a = 5 || (spaceOf a = 7 && decide (4096 ≤ indexOf a))

/-- The space code and the index are good (R218 sub-causes 0 and 1). -/
def addrCheck (a : Nat) : Option Trp :=
  if spaceOf a = 0 ∨ 9 ≤ spaceOf a then some (tBound 0)
  else if indexOk (spaceOf a) (indexOf a) then none else some (tBound 1)

/-- A point may be read: declared, and not in another stripe's write mask (R152, R158). -/
def Ctx.readCheck (x : Ctx) (a : Nat) : Option Trp :=
  if !(inRanges x.d.inputs a || inRanges x.d.outputs a) then some (tBound 2)
  else if x.others.any fun p => inRanges p.wImg a then some (tBound 5) else none

/-- A point may be written: a declared output in the stripe's write mask; of space 0x7 only SX12 by an error task
(R142, R155, R158, R228). -/
def Ctx.writeCheck (x : Ctx) (a : Nat) : Option Trp :=
  if spaceOf a = 7 ∧ !(indexOf a = 12 && isErrorTask x.n) then some (tBound 8)
  else if !inRanges x.d.outputs a || spaceOf a = 8 then some (tBound 3)
  else if !inRanges x.st.wImg a then some (tBound 4) else none

/-- The value of a point: a declared output reads the buffer, and before the task writes it what was last published; an
input reads the snapshot (R152, R153). -/
def Ctx.point (x : Ctx) (a : Nat) : Word :=
  let r := x.s.task x.n
  if inRanges x.d.outputs a then (r.buf.get none a).getD (if spaceOf a = 7 then flag x.s.scan.sx12 else imgVal x.s a)
  else if spaceOf a = 7 then r.snapSys.get 0#32 a
  else r.snap.val.get 0#32 a

/-- The quality nibble of a point; an output and a system point carry none (R144, R207). -/
def Ctx.quality (x : Ctx) (a : Nat) : BitVec 4 :=
  if inRanges x.d.outputs a || spaceOf a = 7 then 0#4 else (x.s.task x.n).snap.q.get 0#4 a

/-- The first check that fails. -/
def firstTrap (checks : List (Option Trp)) : Option Trp := checks.findSome? id

/-- A read of one point by image address (R208, R236). -/
def Ctx.readPoint (x : Ctx) (a : Nat) : Except Trp Word :=
  match firstTrap [addrCheck a, x.readCheck a] with
  | some t => .error t
  | none => .ok (x.point a)

/-- The quality of one point by image address. -/
def Ctx.readQuality (x : Ctx) (a : Nat) : Except Trp (BitVec 4) :=
  match firstTrap [addrCheck a, x.readCheck a] with
  | some t => .error t
  | none => .ok (x.quality a)

/-- Points from an address up, as one word with the first point in bit 0. -/
def Ctx.packed (x : Ctx) (a : Nat) : Nat → Word
  | 0 => 0#32
  | k + 1 => Ctx.packed x a k ||| (if truth (x.point (a + k)) then 1#32 <<< k else 0#32)

/-- The 32 points of a bit space that share a word. -/
def wordPoints (a : Nat) : List Nat := (List.range 32).map fun k => a / 32 * 32 + k

/-- A word of the image by image address: a word point, or 32 points (R234 ILDW). -/
def Ctx.readImgWord (x : Ctx) (a : Nat) : Except Trp Word :=
  if isWordPoint a then x.readPoint a
  else match firstTrap (addrCheck a :: (wordPoints a).map x.readCheck) with
    | some t => .error t
    | none => .ok (x.packed (a / 32 * 32) 32)

/-- The stores of a word to the image: a word point, or 32 points (R208, R234 ISTW). -/
def Ctx.writeImgWord (x : Ctx) (a : Nat) (v : Word) : Except Trp (List (Nat × Word)) :=
  if isWordPoint a then
    match firstTrap [addrCheck a, x.writeCheck a] with
    | some t => .error t
    | none => .ok [(a, v)]
  else match firstTrap (addrCheck a :: (wordPoints a).map x.writeCheck) with
    | some t => .error t
    | none => .ok ((List.range 32).map fun k => (a / 32 * 32 + k, flag (v.getLsbD k)))

/-- The store of one point: a word point takes the word, a bit point its truth (R228, R234). -/
def Ctx.writePoint (x : Ctx) (a : Nat) (v : Word) : Except Trp (List (Nat × Word)) :=
  match firstTrap [addrCheck a, x.writeCheck a] with
  | some t => .error t
  | none => .ok [(a, if isWordPoint a then v else flag (truth v))]

/-! ### Engine addresses (R202-R209) -/

/-- Bytes of the code window (R202). -/
def codeSize : Nat := 0x400000

/-- The address lies in the data window. -/
def inData (a : Nat) : Bool := decide (0x10000000 ≤ a ∧ a < 0x10200000)
/-- The address lies in the table window. -/
def inTables (a : Nat) : Bool := decide (0x40000000 ≤ a ∧ a < 0x43000000)
/-- The address lies in the image window. -/
def inImage (a : Nat) : Bool := decide (0x20000000 ≤ a ∧ a < 0x30000000)
/-- The address lies in the system-word window. -/
def inSys (a : Nat) : Bool := decide (0x60000000 ≤ a ∧ a < 0x60001000)

/-- A byte of the code window under a root: the reserved part reads zero, and the vector table is that of the root's block (R204,
R275). -/
def codeByte (r : Region) (root off : Nat) : Byte :=
  if off < 0x100 then 0#8
  else if off < 0x140 then Memory.readByte r.code (root + (off - 0x100))
  else Memory.readByte r.code off

/-- The data words that an access of `len` bytes touches. -/
def dataWords (a len : Nat) : List Nat := ((List.range ((len + 3) / 4)).map fun k => a / 4 * 4 + 4 * k)

/-- The read mask check of data words (R158). -/
def Ctx.dataReadCheck (x : Ctx) (a len : Nat) : Option Trp :=
  if x.others.any fun p => p.region = x.logical && (dataWords a len).any (inRanges p.wData) then some (tBound 5) else none

/-- The write mask check of data words (R158). -/
def Ctx.dataWriteCheck (x : Ctx) (a len : Nat) : Option Trp :=
  if (dataWords a len).all (inRanges x.st.wData) then none else some (tBound 4)

/-- Bytes of the region data SRAM. -/
def Ctx.dataBytes (x : Ctx) (a len : Nat) : Bytes := Memory.readBytes (x.s.region x.region).data (a - 0x10000000) len

/-- The image address of the value part of an image-window offset, or why there is none (R207). -/
def windowPoint (off : Nat) : Except Trp Nat :=
  let sp := off / 0x1000000
  let o := off % 0x1000000
  if sp = 0 ∨ 9 ≤ sp then .error (tBound 0)
  else
    let i := if sp = 4 ∨ sp = 5 ∨ (sp = 7 ∧ 0x4000 ≤ o) then o / 4 else o / 4 * 32
    if 0x800000 ≤ o ∨ (sp = 7 ∧ 0x20 ≤ o ∧ o < 0x4000) then .error (tBound 1)
    else if indexOk sp i then .ok (imgAddr sp i) else .error (tBound 1)

/-- The points whose nibbles a quality word holds, none for space 0x7 (R207). -/
def qualityPoints (off : Nat) : Except Trp (List Nat) :=
  let sp := off / 0x1000000
  let i := (off % 0x1000000 - 0x800000) / 4 * 8
  if sp = 0 ∨ 9 ≤ sp then .error (tBound 0)
  else if !indexOk sp i then .error (tBound 1)
  else if sp = 7 then .ok [] else .ok ((List.range 8).map fun k => imgAddr sp (i + k))

/-- A word load from the image window (R207, R208). -/
def Ctx.imageLoad (x : Ctx) (off : Nat) : Except Trp Word :=
  if 0x800000 ≤ off % 0x1000000 then
    match qualityPoints off with
    | .error t => .error t
    | .ok ps =>
      match firstTrap (ps.map x.readCheck) with
      | some t => .error t
      | none => .ok (BitVec.ofNat 32 (ps.foldr (fun a acc => (x.quality a).toNat + 16 * acc) 0))
  else match windowPoint off with
    | .error t => .error t
    | .ok a => x.readImgWord a

/-- TRAP_CAUSE, CLAIM and the other system words that fit one word (R209). -/
def Ctx.sysWord (x : Ctx) (off : Nat) : Word :=
  let r := x.s.task x.n
  let lo (v : Nat) : Word := w32 (v % 2 ^ 32)
  let hi (v : Nat) : Word := w32 (v / 2 ^ 32 % 2 ^ 32)
  match off with
  | 0x000 => lo x.s.time.tai
  | 0x004 => hi x.s.time.tai
  | 0x008 => lo (taskMono x.s)
  | 0x00C => hi (taskMono x.s)
  | 0x010 => lo r.snapMono
  | 0x014 => hi r.snapMono
  | 0x018 => lo r.snapTai
  | 0x01C => hi r.snapTai
  | 0x020 => lo x.s.scan.scan
  | 0x024 => hi x.s.scan.scan
  | 0x028 => w32 (x.n + 256 * x.c + 1024 * (x.logical % 4) + 4096 * (x.e % 16) + 65536 * (x.st.phase % 256))
  | 0x02C => w32 r.epoch
  | 0x030 => lo x.b.cycles
  | 0x034 => hi x.b.cycles
  | 0x038 => w32 (x.b.ds.length + x.b.dsSpilled + 65536 * (x.b.rs.length + x.b.rsSpilled))
  | 0x03C => r.snapQuality.setWidth 32
  | 0x040 => x.b.trapCause
  | 0x044 => x.b.trapAddr
  | 0x048 => x.b.trapSyl
  | 0x04C => x.b.trapX
  | 0x054 => x.s.eng.tallyState.get 0#32 x.e
  | 0x058 => highestClaim x.s ++ claimOf x.s
  | _ => 0#32

/-- The word at each 4 bytes of a load of 4 or 8 bytes. -/
def loadWords (f : Nat → Except Trp Word) (a len : Nat) : Except Trp Bytes :=
  match f a with
  | .error t => .error t
  | .ok v =>
    if len = 4 then .ok (leBytes 4 v.toNat)
    else match f (a + 4) with
      | .error t => .error t
      | .ok u => .ok (leBytes 4 v.toNat ++ leBytes 4 u.toNat)

/-- A load of 1, 2, 4 or 8 bytes, in the order of checks of R203; the table window answers only TLD (R235). -/
def Ctx.load (x : Ctx) (a len : Nat) : Except Trp Bytes :=
  if !(decide (a < codeSize) || inData a || inImage a || inSys a) then .error (tBound 6)
  else if a % len ≠ 0 then .error (tAlign 0)
  else if a < codeSize then .ok ((List.range len).map fun k => codeByte (x.s.region x.region) x.root (a + k))
  else if inData a then
    match x.dataReadCheck a len with
    | some t => .error t
    | none => .ok (x.dataBytes a len)
  else if len < 4 then .error (tBound 7)
  else if inImage a then loadWords (fun o => x.imageLoad o) (a - 0x20000000) len
  else loadWords (fun o => .ok (x.sysWord o)) (a - 0x60000000) len

/-- A load from the MRAM table window (R206, R235). -/
def Ctx.tableLoad (x : Ctx) (a len : Nat) : Except Trp Bytes :=
  if !inTables a then .error (tBound 6)
  else if a % len ≠ 0 then .error (tAlign 0)
  else .ok (Memory.readBytes ((x.s.task x.n).oldTables.getD x.s.eng.tables) (a - 0x40000000) len)

/-- An access to the data window alone, as instance opcodes and generators make it (R215, R233, R234, R244). -/
def Ctx.dataLoad (x : Ctx) (a len : Nat) : Except Trp Bytes :=
  if !inData a then .error (tBound 6)
  else if a % len ≠ 0 then .error (tAlign 0)
  else match x.dataReadCheck a len with
    | some t => .error t
    | none => .ok (x.dataBytes a len)

/-! ### What a syllable does -/

/-- One effect of a syllable, applied at the end of its bundle in bundle order (R197, R225). -/
inductive Act where
  /-- a register takes a value after a latency -/
  | reg (r : Nat) (v : Word) (lat : Nat)
  /-- bytes go to region data SRAM at an engine address -/
  | data (a : Nat) (b : Bytes)
  /-- a spilled entry goes to the spill area (R212) -/
  | spill (a : Nat) (v : Word)
  /-- a point of the private buffer takes a value -/
  | point (a : Nat) (v : Word)
  /-- TALLY_CHECKIN -/
  | checkIn (n : Nat)
  | gen (k : Nat) (g : Gen)
  | dataStack (ds : List Word) (spilled : Nat)
  | retStack (rs : List (Word × Word)) (spilled : Nat)
  | inst (v : Word)
  | jump (pc : Word)
  | stall (n : Nat)
  | barrier (n : Nat)
  | tend
deriving DecidableEq, Repr

/-- What evaluating a syllable answers: its acts, or its trap. -/
abbrev Eff := Except Trp (List Act)

/-- One register result. -/
def Eff.reg (r : Nat) (v : Word) (lat : Nat) : Eff := .ok [.reg r v lat]

/-- A pair result (R188). -/
def Eff.pair (r : Nat) (v : Dword) (lat : Nat) : Eff := .ok [.reg r (loWord v) lat, .reg (r + 1) (hiWord v) lat]

/-- A store of 1, 2, 4 or 8 bytes, in the order of checks of R203 (R208, R209). -/
def Ctx.store (x : Ctx) (a : Nat) (b : Bytes) : Eff :=
  let len := b.length
  if !(decide (a < codeSize) || inData a || inImage a || inTables a || inSys a) then .error (tBound 6)
  else if a % len ≠ 0 then .error (tAlign 0)
  else if inData a then
    match x.dataWriteCheck a len with
    | some t => .error t
    | none => .ok [.data a b]
  else if inImage a && decide (4 ≤ len) then
    let one (o : Nat) (v : Word) : Eff :=
      if 0x800000 ≤ o % 0x1000000 then .error (tBound 7)
      else match windowPoint o with
        | .error t => .error t
        | .ok p => (x.writeImgWord p v).map fun ps => ps.map fun q => .point q.1 q.2
    match one (a - 0x20000000) (w32 (leNat (b.take 4))) with
    | .error t => .error t
    | .ok l =>
      if len = 4 then .ok l
      else (one (a - 0x20000000 + 4) (w32 (leNat (b.drop 4)))).map fun m => l ++ m
  else if a = 0x60000050 ∧ len = 4 then .ok [.checkIn (leNat b % 32)]
  else .error (tBound 7)

/-- A store to the data window alone. -/
def Ctx.dataStore (x : Ctx) (a : Nat) (b : Bytes) : Eff :=
  if !inData a then .error (tBound 6)
  else if a % b.length ≠ 0 then .error (tAlign 0)
  else match x.dataWriteCheck a b.length with
    | some t => .error t
    | none => .ok [.data a b]

/-! ### Stacks (R211-R213) -/

/-- A stack in progress: entries on die with the top first, entries spilled, acts so far, stall. -/
structure Stk (α : Type) where
  top : List α
  spilled : Nat
  acts : List Act := []
  stall : Nat := 0

/-- A word of the spill area as the bundle finds it. -/
def Ctx.spillWord (x : Ctx) (a : Nat) : Word := w32 (leNat (x.dataBytes a 4))

/-- A push on the data stack: with 64 entries on die the 16 oldest are spilled first (R212, R213). -/
def Ctx.pushData (x : Ctx) (v : Word) (k : Stk Word) : Except Trp (Stk Word) :=
  if k.top.length < 64 then .ok { k with top := v :: k.top }
  else if x.st.dataSpillLen < 4 * (k.spilled + 16) then .error (tStack 0)
  else
    let old := (k.top.drop 48).reverse
    .ok { top := v :: k.top.take 48, spilled := k.spilled + 16
          acts := k.acts ++ (List.range 16).map fun i => .spill (x.st.dataSpill + 4 * (k.spilled + i)) (old.getD i 0#32)
          stall := k.stall + 8 }

/-- A pop from the data stack: with none on die the newest spilled entries, 16 at most, are filled first (R212, R213). -/
def Ctx.popData (x : Ctx) (k : Stk Word) : Except Trp (Word × Stk Word) :=
  match k.top with
  | v :: r => .ok (v, { k with top := r })
  | [] =>
    let m := min 16 k.spilled
    match ((List.range m).map fun i => x.spillWord (x.st.dataSpill + 4 * (k.spilled - m + i))).reverse with
    | v :: r => .ok (v, { k with top := r, spilled := k.spilled - m, stall := k.stall + 10 })
    | [] => .error (tStack 1)

/-- A push on the return stack (R211-R213). -/
def Ctx.pushRet (x : Ctx) (v : Word × Word) : Except Trp (Stk (Word × Word)) :=
  let top := x.b.rs
  if top.length < 64 then .ok { top := v :: top, spilled := x.b.rsSpilled }
  else if x.st.retSpillLen < 8 * (x.b.rsSpilled + 16) then .error (tStack 2)
  else
    let old := (top.drop 48).reverse
    .ok { top := v :: top.take 48, spilled := x.b.rsSpilled + 16
          acts := (List.range 16).flatMap fun i =>
            let p := old.getD i (0#32, 0#32)
            let a := x.st.retSpill + 8 * (x.b.rsSpilled + i)
            [.spill a p.1, .spill (a + 4) p.2]
          stall := 16 }

/-- A pop from the return stack (R211-R213). -/
def Ctx.popRet (x : Ctx) : Except Trp ((Word × Word) × Stk (Word × Word)) :=
  match x.b.rs with
  | v :: r => .ok (v, { top := r, spilled := x.b.rsSpilled })
  | [] =>
    let m := min 16 x.b.rsSpilled
    let a (i : Nat) : Nat := x.st.retSpill + 8 * (x.b.rsSpilled - m + i)
    match ((List.range m).map fun i => (x.spillWord (a i), x.spillWord (a i + 4))).reverse with
    | v :: r => .ok (v, { top := r, spilled := x.b.rsSpilled - m, stall := 18 })
    | [] => .error (tStack 3)

/-- The acts that leave a data stack as it stands. -/
def dataStackActs (k : Stk Word) : List Act := k.acts ++ [.dataStack k.top k.spilled, .stall k.stall]

/-- The acts that leave a return stack as it stands. -/
def retStackActs (k : Stk (Word × Word)) : List Act := k.acts ++ [.retStack k.top k.spilled, .stall k.stall]

end Sys2Proof.Machine
end

