-- ==== Sys2Proof/Machine/Float.lean ====
section
/-! DEFINITION. binary32 arithmetic of the M class: exact values, one rounding to nearest even, subnormals as zero
(R231, R232, R250). -/

namespace Sys2Proof.Machine

/-- A binary32 datum as an exact value: ±m · 2^e, an infinity or a NaN (R232). -/
inductive Flt where
  | nan
  | inf (neg : Bool)
  | fin (neg : Bool) (m : Nat) (e : Int)
deriving DecidableEq, Repr

/-- The one NaN that results carry (R232). -/
def nan32 : Word := 0x7FC00000#32

/-- A word read as binary32; a subnormal is read as zero of its sign (R232). -/
def Flt.unpack (w : Word) : Flt :=
  let ex := (w.extractLsb' 23 8).toNat
  let fr := (w.extractLsb' 0 23).toNat
  if ex = 255 then (if fr = 0 then .inf w.msb else .nan)
  else if ex = 0 then .fin w.msb 0 0
  else .fin w.msb (fr + 2 ^ 23) ((ex : Int) - 150)

/-- A sign bit with the rest of a word. -/
def signed32 (neg : Bool) (n : Nat) : Word := BitVec.ofNat 32 (2 ^ 31 * bit neg + n)

/-- ±m · 2^e, or a little more where `sticky` says so, rounded to nearest even at 24 bits, then to zero below 2⁻¹²⁶ and to
infinity above the range (R232). -/
def roundF (neg : Bool) (m : Nat) (e : Int) (sticky : Bool) : Word :=
  if m = 0 then signed32 neg 0
  else
    let len := Nat.log2 m + 1
    let d := len - 24
    let q := if len ≤ 24 then m * 2 ^ (24 - len) else m / 2 ^ d
    let r := if len ≤ 24 then 0 else m % 2 ^ d
    let half := if len ≤ 24 then 1 else 2 ^ (d - 1)
    let up := decide (half < r) || (decide (r = half) && (sticky || decide (q % 2 = 1)))
    let q1 := if up then q + 1 else q
    let e1 := e + (len : Int) - 24
    let q2 := if q1 = 2 ^ 24 then 2 ^ 23 else q1
    let e2 := if q1 = 2 ^ 24 then e1 + 1 else e1
    let ex := e2 + 150
    if ex ≤ 0 then signed32 neg 0
    else if 255 ≤ ex then signed32 neg 0x7F800000
    else signed32 neg (ex.toNat * 2 ^ 23 + (q2 - 2 ^ 23))

/-- The word of an exact value (R232). -/
def Flt.pack : Flt → Word
  | .nan => nan32
  | .inf neg => signed32 neg 0x7F800000
  | .fin neg m e => roundF neg m e false

/-- The negated value. -/
def Flt.neg : Flt → Flt
  | .nan => .nan
  | .inf s => .inf !s
  | .fin s m e => .fin (!s) m e

/-- An exact signed numerator over 2^e. -/
def scaled (neg : Bool) (m : Nat) (e lo : Int) : Int :=
  let v : Int := (m * 2 ^ (e - lo).toNat : Nat)
  if neg then -v else v

/-- The exact sum; an exact zero is −0 only where both terms are negative (R232). -/
def Flt.add : Flt → Flt → Flt
  | .nan, _ => .nan
  | _, .nan => .nan
  | .inf s, .inf t => if s = t then .inf s else .nan
  | .inf s, _ => .inf s
  | _, .inf t => .inf t
  | .fin s m e, .fin t n f =>
    let lo := min e f
    let v := scaled s m e lo + scaled t n f lo
    .fin (if v = 0 then s && t else decide (v < 0)) v.natAbs lo

/-- The exact product. -/
def Flt.mul : Flt → Flt → Flt
  | .nan, _ => .nan
  | _, .nan => .nan
  | .inf s, .inf t => .inf (s != t)
  | .inf s, .fin t n _ => if n = 0 then .nan else .inf (s != t)
  | .fin s m _, .inf t => if m = 0 then .nan else .inf (s != t)
  | .fin s m e, .fin t n f => .fin (s != t) (m * n) (e + f)

/-- A quotient of whole numbers as binary32 (R358). -/
def ratioF (neg : Bool) (n d : Nat) : Word := roundF neg (n * 2 ^ 60 / d) (-60) (decide (n * 2 ^ 60 % d ≠ 0))

/-- binary32 ga + gb (R231). -/
def fAdd (a b : Word) : Word := ((Flt.unpack a).add (Flt.unpack b)).pack
/-- binary32 ga − gb (R231). -/
def fSub (a b : Word) : Word := ((Flt.unpack a).add (Flt.unpack b).neg).pack
/-- binary32 ga × gb (R231). -/
def fMul (a b : Word) : Word := ((Flt.unpack a).mul (Flt.unpack b)).pack
/-- d + a × b rounded once (R231). -/
def fMac (d a b : Word) : Word := ((Flt.unpack d).add ((Flt.unpack a).mul (Flt.unpack b))).pack
/-- d − a × b rounded once (R231). -/
def fMsc (d a b : Word) : Word := ((Flt.unpack d).add ((Flt.unpack a).mul (Flt.unpack b)).neg).pack

/-- The order of two values that are not NaN: x ≤ y, with −0 and +0 equal. -/
def Flt.le : Flt → Flt → Bool
  | .inf true, _ => true
  | _, .inf false => true
  | .inf false, _ => false
  | _, .inf true => false
  | .fin s m e, .fin t n f => decide (scaled s m e (min e f) ≤ scaled t n f (min e f))
  | _, _ => false

/-- The sign of a value. -/
def Flt.sign : Flt → Bool
  | .nan => false
  | .inf s => s
  | .fin s _ _ => s

/-- x is the minimum of two values that are not NaN; −0 is less than +0 (R231). -/
def Flt.isMin (x y : Flt) : Bool := x.le y && (!y.le x || x.sign || !y.sign)

/-- FMIN: a NaN operand gives the other (R231). -/
def fMin (a b : Word) : Word :=
  match Flt.unpack a, Flt.unpack b with
  | .nan, y => y.pack
  | x, .nan => x.pack
  | x, y => if x.isMin y then x.pack else y.pack

/-- FMAX (R231). -/
def fMax (a b : Word) : Word :=
  match Flt.unpack a, Flt.unpack b with
  | .nan, y => y.pack
  | x, .nan => x.pack
  | x, y => if x.isMin y then y.pack else x.pack

/-- FSGN: magnitude, negation, magnitude with another's sign; a NaN gives the one NaN (R231, R232). -/
def fSgn (sub : Nat) (a b : Word) : Word :=
  let s := if sub = 0 then false else if sub = 1 then !a.msb else b.msb
  match Flt.unpack a with
  | .nan => nan32
  | .inf _ => (Flt.inf s).pack
  | .fin _ m e => (Flt.fin s m e).pack

/-- FCMP: equal, less, less or equal, unordered (R231). -/
def fCmp (sub : Nat) (a b : Word) : Bool :=
  match Flt.unpack a, Flt.unpack b with
  | .nan, _ => decide (sub = 3)
  | _, .nan => decide (sub = 3)
  | x, y => match sub with
    | 0 => x.le y && y.le x
    | 1 => x.le y && !y.le x
    | 2 => x.le y
    | _ => false

/-- The whole number nearest to m · 2^e, ties to even, or toward zero (R231). -/
def toWhole (m : Nat) (e : Int) (nearest : Bool) : Nat :=
  if 0 ≤ e then m * 2 ^ e.toNat
  else
    let d := (-e).toNat
    let q := m / 2 ^ d
    let r := m % 2 ^ d
    if nearest && (decide (2 ^ d < 2 * r) || (decide (2 * r = 2 ^ d) && decide (q % 2 = 1))) then q + 1 else q

/-- A value as a whole number brought into a range; NaN gives 0 (R232). -/
def fToInt (lo hi : Int) (nearest : Bool) (a : Word) : Int :=
  match Flt.unpack a with
  | .nan => 0
  | .inf s => if s then lo else hi
  | .fin s m e => clampI lo hi (if s then -(toWhole m e nearest : Int) else (toWhole m e nearest : Int))

/-- FCVT (R231, R232). -/
def fCvt (sub : Nat) (a : Word) : Word :=
  match sub with
  | 0 => roundF a.msb a.toInt.natAbs 0 false
  | 1 => roundF false a.toNat 0 false
  | 2 => BitVec.ofInt 32 (fToInt (-(2 ^ 31)) (2 ^ 31 - 1) true a)
  | 3 => BitVec.ofInt 32 (fToInt (-(2 ^ 31)) (2 ^ 31 - 1) false a)
  | _ => BitVec.ofInt 32 (fToInt 0 (2 ^ 32 - 1) true a)

/-- FDIV, the operation that step B1 emulates (R250). -/
def fDiv (a b : Word) : Word :=
  match Flt.unpack a, Flt.unpack b with
  | .nan, _ => nan32
  | _, .nan => nan32
  | .inf _, .inf _ => nan32
  | .inf s, .fin t _ _ => (Flt.inf (s != t)).pack
  | .fin s _ _, .inf t => signed32 (s != t) 0
  | .fin s m e, .fin t n f =>
    if n = 0 then (if m = 0 then nan32 else (Flt.inf (s != t)).pack)
    else roundF (s != t) (m * 2 ^ 60 / n) (e - f - 60) (decide (m * 2 ^ 60 % n ≠ 0))

/-- The whole square root, built from bit `i - 1` down. -/
def isqrt (n : Nat) : Nat → Nat → Nat
  | 0, r => r
  | i + 1, r => isqrt n i (if (r + 2 ^ i) * (r + 2 ^ i) ≤ n then r + 2 ^ i else r)

/-- FSQRT, the operation that step B1 emulates; NaN for a negative non-zero operand (R250). -/
def fSqrt (a : Word) : Word :=
  match Flt.unpack a with
  | .nan => nan32
  | .inf s => if s then nan32 else (Flt.inf false).pack
  | .fin s m e =>
    if m = 0 then signed32 s 0
    else if s then nan32
    else
      let odd := e % 2 = 1
      let n := (if odd then 2 * m else m) * 2 ^ 60
      let r := isqrt n 44 0
      roundF false r (((if odd then e - 1 else e) - 60) / 2) (decide (r * r ≠ n))

end Sys2Proof.Machine
end

