-- ==== Sys2Proof/Machine/AluOps.lean ====
section
/-! DEFINITION. What each opcode of the A class, the word ALU, does, one definition each (R229, R230). -/

namespace Sys2Proof.Machine

/-- A result of two registers, with latency 1 (R198, R229). -/
def alu2 (x : Ctx) (w : Word) (f : Word → Word → Word) : Eff := Eff.reg (sylGd w) (f (x.reg (sylGa w)) (x.reg (sylGb w))) 1

/-- A result of a register and an immediate, with latency 1 (R193, R229). -/
def aluImm (x : Ctx) (w : Word) (k : Option (BitVec 28)) (sext : Bool) (f : Word → Word → Word) : Eff :=
  Eff.reg (sylGd w) (f (x.reg (sylGa w)) (immRRI w k sext)) 1

/-- A shift amount: the low 5 bits (R229). -/
def shiftBy (v : Word) : Nat := v.toNat % 32

/-- A division: a divisor of zero traps, else latency 12 with 11 cycles of stall (R198, R229, R230). -/
def divide (x : Ctx) (w : Word) (f : Word → Word → Word) : Eff :=
  if x.reg (sylGb w) = 0#32 then .error (3, 0)
  else .ok [.reg (sylGd w) (f (x.reg (sylGa w)) (x.reg (sylGb w))) 12, .stall 11]

/-- ADD (R229). -/
def opAdd (x : Ctx) (w : Word) : Eff :=
  alu2 x w fun a b => a + b

/-- SUB (R229). -/
def opSub (x : Ctx) (w : Word) : Eff :=
  alu2 x w fun a b => a - b

/-- AND (R229). -/
def opAnd (x : Ctx) (w : Word) : Eff :=
  alu2 x w fun a b => a &&& b

/-- OR (R229). -/
def opOr (x : Ctx) (w : Word) : Eff :=
  alu2 x w fun a b => a ||| b

/-- XOR (R229). -/
def opXor (x : Ctx) (w : Word) : Eff :=
  alu2 x w fun a b => a ^^^ b

/-- SHL (R229). -/
def opShl (x : Ctx) (w : Word) : Eff :=
  alu2 x w fun a b => a <<< shiftBy b

/-- SHR (R229). -/
def opShr (x : Ctx) (w : Word) : Eff :=
  alu2 x w fun a b => a >>> shiftBy b

/-- SAR (R229). -/
def opSar (x : Ctx) (w : Word) : Eff :=
  alu2 x w fun a b => a.sshiftRight (shiftBy b)

/-- MIN (R229). -/
def opMin (x : Ctx) (w : Word) : Eff :=
  alu2 x w fun a b => if leS a b then a else b

/-- MAX (R229). -/
def opMax (x : Ctx) (w : Word) : Eff :=
  alu2 x w fun a b => if leS a b then b else a

/-- MINU (R229). -/
def opMinu (x : Ctx) (w : Word) : Eff :=
  alu2 x w fun a b => if a ≤ b then a else b

/-- MAXU (R229). -/
def opMaxu (x : Ctx) (w : Word) : Eff :=
  alu2 x w fun a b => if a ≤ b then b else a

/-- CMPEQ (R229). -/
def opCmpeq (x : Ctx) (w : Word) : Eff :=
  alu2 x w fun a b => flag (decide (a = b))

/-- CMPNE (R229). -/
def opCmpne (x : Ctx) (w : Word) : Eff :=
  alu2 x w fun a b => flag (decide (a ≠ b))

/-- CMPLT (R229). -/
def opCmplt (x : Ctx) (w : Word) : Eff :=
  alu2 x w fun a b => flag (ltS a b)

/-- CMPLTU (R229). -/
def opCmpltu (x : Ctx) (w : Word) : Eff :=
  alu2 x w fun a b => flag (borrowOut a b)

/-- CMPLE (R229). -/
def opCmple (x : Ctx) (w : Word) : Eff :=
  alu2 x w fun a b => flag (leS a b)

/-- CMPLEU (R229). -/
def opCmpleu (x : Ctx) (w : Word) : Eff :=
  alu2 x w fun a b => flag (decide (a ≤ b))

/-- CARRY (R229). -/
def opCarry (x : Ctx) (w : Word) : Eff :=
  alu2 x w fun a b => flag (carryOut a b)

/-- BORROW (R229). -/
def opBorrow (x : Ctx) (w : Word) : Eff :=
  alu2 x w fun a b => flag (borrowOut a b)

/-- ADDS, saturating (R229). -/
def opAdds (x : Ctx) (w : Word) : Eff :=
  alu2 x w fun a b => saturate32 (a.toInt + b.toInt)

/-- SUBS, saturating (R229). -/
def opSubs (x : Ctx) (w : Word) : Eff :=
  alu2 x w fun a b => saturate32 (a.toInt - b.toInt)

/-- ADDI (R229). -/
def opAddi (x : Ctx) (w : Word) (k : Option (BitVec 28)) : Eff :=
  aluImm x w k true fun a i => a + i

/-- ANDI (R229). -/
def opAndi (x : Ctx) (w : Word) (k : Option (BitVec 28)) : Eff :=
  aluImm x w k false fun a i => a &&& i

/-- ORI (R229). -/
def opOri (x : Ctx) (w : Word) (k : Option (BitVec 28)) : Eff :=
  aluImm x w k false fun a i => a ||| i

/-- XORI (R229). -/
def opXori (x : Ctx) (w : Word) (k : Option (BitVec 28)) : Eff :=
  aluImm x w k false fun a i => a ^^^ i

/-- SHLI (R229). -/
def opShli (x : Ctx) (w : Word) (k : Option (BitVec 28)) : Eff :=
  aluImm x w k false fun a i => a <<< shiftBy i

/-- SHRI (R229). -/
def opShri (x : Ctx) (w : Word) (k : Option (BitVec 28)) : Eff :=
  aluImm x w k false fun a i => a >>> shiftBy i

/-- SARI (R229). -/
def opSari (x : Ctx) (w : Word) (k : Option (BitVec 28)) : Eff :=
  aluImm x w k false fun a i => a.sshiftRight (shiftBy i)

/-- CMPEQI (R229). -/
def opCmpeqi (x : Ctx) (w : Word) (k : Option (BitVec 28)) : Eff :=
  aluImm x w k true fun a i => flag (decide (a = i))

/-- CMPLTI (R229). -/
def opCmplti (x : Ctx) (w : Word) (k : Option (BitVec 28)) : Eff :=
  aluImm x w k true fun a i => flag (ltS a i)

/-- CMPLTUI (R229). -/
def opCmpltui (x : Ctx) (w : Word) (k : Option (BitVec 28)) : Eff :=
  aluImm x w k true fun a i => flag (borrowOut a i)

/-- LI (R229). -/
def opLi (_x : Ctx) (w : Word) (k : Option (BitVec 28)) : Eff :=
  Eff.reg (sylGd w) (immRI w k true) 1

/-- EXT: sign- or zero-extends a byte or half (R229). -/
def opExt (x : Ctx) (w : Word) : Eff :=
  let a := x.reg (sylGa w)
  Eff.reg (sylGd w)
    (match sylSub w with
      | 0 => signExt 8 a
      | 1 => signExt 16 a
      | 2 => zeroExt 8 a
      | _ => zeroExt 16 a) 1

/-- CLZ; 32 for 0 (R229). -/
def opClz (x : Ctx) (w : Word) : Eff :=
  Eff.reg (sylGd w) (w32 (leadingZeros (x.reg (sylGa w)) 32)) 1

/-- POPC (R229). -/
def opPopc (x : Ctx) (w : Word) : Eff :=
  Eff.reg (sylGd w) (w32 (onesIn (x.reg (sylGa w)) 32)) 1

/-- ADD64 (R188, R229). -/
def opAdd64 (x : Ctx) (w : Word) : Eff :=
  Eff.pair (sylGd w) (x.pair (sylGa w) + x.pair (sylGb w)) 1

/-- SUB64 (R188, R229). -/
def opSub64 (x : Ctx) (w : Word) : Eff :=
  Eff.pair (sylGd w) (x.pair (sylGa w) - x.pair (sylGb w)) 1

/-- CMPLTU64 (R229). -/
def opCmpltu64 (x : Ctx) (w : Word) : Eff :=
  Eff.reg (sylGd w) (flag (decide (x.pair (sylGa w) < x.pair (sylGb w)))) 1

/-- CMPLT64 (R229). -/
def opCmplt64 (x : Ctx) (w : Word) : Eff :=
  Eff.reg (sylGd w) (flag (decide ((x.pair (sylGa w)).toInt < (x.pair (sylGb w)).toInt))) 1

/-- DIV (R229, R230). -/
def opDiv (x : Ctx) (w : Word) : Eff :=
  divide x w fun a b => quotS a b

/-- DIVU (R229, R230). -/
def opDivu (x : Ctx) (w : Word) : Eff :=
  divide x w fun a b => a / b

/-- REM (R229, R230). -/
def opRem (x : Ctx) (w : Word) : Eff :=
  divide x w fun a b => remS a b

/-- REMU (R229, R230). -/
def opRemu (x : Ctx) (w : Word) : Eff :=
  divide x w fun a b => a % b

end Sys2Proof.Machine
end

