-- ==== Sys2Proof/Machine/BitOps.lean ====
section
/-! DEFINITION. What each opcode of the B class, the bit unit, does, one definition each (R227, R228). -/

namespace Sys2Proof.Machine

/-- An operand of Boolean meaning with its SUB inversion. -/
def sense (v : Word) (inv : Bool) : Bool := truth v != inv

/-- A Boolean result of two operands, inverted by SUB[2] (R227). -/
def bitOp (x : Ctx) (w : Word) (f : Bool → Bool → Bool) : Eff :=
  Eff.reg (sylGd w)
    (flag (f (sense (x.reg (sylGa w)) (w.getLsbD 0)) (sense (x.reg (sylGb w)) (w.getLsbD 1)) != w.getLsbD 2)) 1

/-- A result read from one image point (R227, R228). -/
def fromPoint (x : Ctx) (w : Word) (k : Option (BitVec 28)) (f : Word → BitVec 4 → Word) : Eff :=
  match x.readPoint (immBI w k) with
  | .error t => .error t
  | .ok v => Eff.reg (sylGd w) (f v (x.quality (immBI w k))) 1

/-- BAND (R227). -/
def opBand (x : Ctx) (w : Word) : Eff :=
  bitOp x w fun a b => a && b

/-- BOR (R227). -/
def opBor (x : Ctx) (w : Word) : Eff :=
  bitOp x w fun a b => a || b

/-- BXOR (R227). -/
def opBxor (x : Ctx) (w : Word) : Eff :=
  bitOp x w fun a b => a != b

/-- NEZ: gd = a (R227). -/
def opNez (x : Ctx) (w : Word) : Eff :=
  Eff.reg (sylGd w) (flag (truth (x.reg (sylGa w)))) 1

/-- EQZ: gd = ¬a (R227). -/
def opEqz (x : Ctx) (w : Word) : Eff :=
  Eff.reg (sylGd w) (flag (!truth (x.reg (sylGa w)))) 1

/-- BEXT: gd = ga[n mod 32] (R227). -/
def opBext (x : Ctx) (w : Word) (k : Option (BitVec 28)) : Eff :=
  Eff.reg (sylGd w) (flag ((x.reg (sylGa w)).getLsbD ((immRRI w k false).toNat % 32))) 1

/-- BINS: gd[n mod 32] = a, the other bits stay (R227). -/
def opBins (x : Ctx) (w : Word) (k : Option (BitVec 28)) : Eff :=
  let m : Word := 1#32 <<< ((immRRI w k false).toNat % 32)
  let old := x.reg (sylGd w)
  Eff.reg (sylGd w) (if truth (x.reg (sylGa w)) then old ||| m else old &&& ~~~m) 1

/-- BLD: the value of a point, 0 or 1 (R227, R228). -/
def opBld (x : Ctx) (w : Word) (k : Option (BitVec 28)) : Eff :=
  fromPoint x w k fun v _ => flag (truth v)

/-- BST: the point takes (gd ≠ 0) (R227, R228). -/
def opBst (x : Ctx) (w : Word) (k : Option (BitVec 28)) : Eff :=
  (x.writePoint (immBI w k) (flag (truth (x.reg (sylGd w))))).map fun ps => ps.map fun p => .point p.1 p.2

/-- BLDQ: the quality nibble of a point (R227). -/
def opBldq (x : Ctx) (w : Word) (k : Option (BitVec 28)) : Eff :=
  fromPoint x w k fun _ q => q.setWidth 32

/-- BLDG: the value of a point where it is VALID or FORCED; as BLD for a point that carries no quality (R227, R228). -/
def opBldg (x : Ctx) (w : Word) (k : Option (BitVec 28)) : Eff :=
  fromPoint x w k fun v q =>
    flag (truth v && (q.getLsbD 0 || q.getLsbD 3 || !carriesQuality x.s (immBI w k)))

end Sys2Proof.Machine
end

