-- ==== Sys2Proof/Machine/CtlOps.lean ====
section
/-! DEFINITION. What each opcode of the C class, control, does, one definition each (R196, R237-R241). -/

namespace Sys2Proof.Machine

/-- The target of a relative branch: pc + 4 × o (R237, R238). -/
def target (x : Ctx) (w : Word) (k : Option (BitVec 28)) : Word := x.b.pc + 4#32 * immRI w k true

/-- A taken branch, jump, call or return stalls one cycle (R198). -/
def taken (pc : Word) : List Act := [.jump pc, .stall 1]

/-- A jump to an address whose bits [1:0] must be zero (R196, R238). -/
def jumpTo (pc : Word) (acts : List Act) : Eff := if pc.toNat % 4 ≠ 0 then .error (tAlign 1) else .ok (acts ++ taken pc)

/-- A push of the return address and inst, before what follows (R237). -/
def withCall (x : Ctx) (next : Word) (f : List Act → Eff) : Eff :=
  match x.pushRet (next, x.b.inst) with
  | .error t => .error t
  | .ok k => f (retStackActs k)

/-- BNZ (R237). -/
def opBnz (x : Ctx) (w : Word) (k : Option (BitVec 28)) : Eff :=
  if truth (x.reg (sylGd w)) then .ok (taken (target x w k)) else .ok []

/-- BZ (R237). -/
def opBz (x : Ctx) (w : Word) (k : Option (BitVec 28)) : Eff :=
  if truth (x.reg (sylGd w)) then .ok [] else .ok (taken (target x w k))

/-- LOOP (R237). -/
def opLoop (x : Ctx) (w : Word) (k : Option (BitVec 28)) : Eff :=
  let v := x.reg (sylGd w) - 1#32
  .ok (.reg (sylGd w) v 1 :: (if truth v then taken (target x w k) else []))

/-- JMPR (R237). -/
def opJmpr (x : Ctx) (w : Word) : Eff :=
  jumpTo (x.reg (sylGa w)) []

/-- CALL (R237). -/
def opCall (x : Ctx) (next : Word) (w : Word) (k : Option (BitVec 28)) : Eff :=
  withCall x next fun l => .ok (l ++ taken (target x w k))

/-- CALLR: the target is checked before the push (R237, R238). -/
def opCallr (x : Ctx) (next : Word) (w : Word) : Eff :=
  match jumpTo (x.reg (sylGa w)) [] with
  | .error t => .error t
  | .ok j => withCall x next fun l => .ok (l ++ j)

/-- FBCALL: inst = gd (R237, R239). -/
def opFbcall (x : Ctx) (next : Word) (w : Word) (k : Option (BitVec 28)) : Eff :=
  withCall x next fun l => .ok (l ++ .inst (x.reg (sylGd w)) :: taken (target x w k))

/-- FBCALLR: inst = gb; the target is checked before the push (R237-R239). -/
def opFbcallr (x : Ctx) (next : Word) (w : Word) : Eff :=
  match jumpTo (x.reg (sylGa w)) [] with
  | .error t => .error t
  | .ok j => withCall x next fun l => .ok (l ++ .inst (x.reg (sylGb w)) :: j)

/-- RET: both the address and the saved inst come back (R237). -/
def opRet (x : Ctx) : Eff :=
  match x.popRet with
  | .error t => .error t
  | .ok p => jumpTo p.1.1 (retStackActs p.2 ++ [.inst p.1.2])

/-- INSTSET (R237). -/
def opInstset (x : Ctx) (w : Word) : Eff :=
  .ok [.inst (x.reg (sylGa w))]

/-- INSTGET (R237). -/
def opInstget (x : Ctx) (w : Word) : Eff :=
  Eff.reg (sylGd w) x.b.inst 1

/-- BARRIER n (R237, R240). -/
def opBarrier (w : Word) (k : Option (BitVec 28)) : Eff :=
  .ok [.barrier (immRI w k false).toNat]

/-- TEND (R237, R241). -/
def opTend  : Eff :=
  .ok [.tend]

/-- TRAP n: SOFT with sub-cause n mod 256 (R237). -/
def opTrap (w : Word) (k : Option (BitVec 28)) : Eff :=
  .error (2, (immRI w k false).toNat % 256)

end Sys2Proof.Machine
end

