-- ==== Sys2Proof/Machine/LoadOps.lean ====
section
/-! DEFINITION. What each opcode of the L class, loads, stores, stacks and instances, does, one definition each (R211-R213,
R234-R236, R244-R249). -/

namespace Sys2Proof.Machine

/-- The engine address ga + i (R234). -/
def addrOf (x : Ctx) (w : Word) (k : Option (BitVec 28)) : Nat := (x.reg (sylGa w) + immRRI w k true).toNat

/-- The instance address inst + i of an RI opcode (R234). -/
def instRI (x : Ctx) (w : Word) (k : Option (BitVec 28)) : Nat := (x.b.inst + immRI w k false).toNat

/-- The instance address inst + i of an RRI opcode (R244). -/
def instRRI (x : Ctx) (w : Word) (k : Option (BitVec 28)) : Nat := (x.b.inst + immRRI w k false).toNat

/-- A load that writes one register (R234). -/
def intoReg (w : Word) (lat : Nat) (f : Word → Word) (r : Except Trp Bytes) : Eff :=
  r.map fun b => [.reg (sylGd w) (f (w32 (leNat b))) lat]

/-- A load that writes a pair (R234). -/
def intoPair (w : Word) (lat : Nat) (r : Except Trp Bytes) : Eff :=
  r.map fun b => [.reg (sylGd w) (w32 (leNat (b.take 4))) lat, .reg (sylGd w + 1) (w32 (leNat (b.drop 4))) lat]

/-- The bytes of gd, and of pair gd. -/
def gdBytes (x : Ctx) (w : Word) : Bytes := leBytes 4 (x.reg (sylGd w)).toNat
/-- The bytes of pair gd. -/
def pairBytes (x : Ctx) (w : Word) : Bytes := gdBytes x w ++ leBytes 4 (x.reg (sylGd w + 1)).toNat

/-- A table load stalls its engine for 23 cycles after its issue (R198, R206). -/
def stalled (e : Eff) : Eff := e.map fun l => l ++ [.stall 23]

/-- The image address ga + i as a plain sum (R236). -/
def imgSum (x : Ctx) (w : Word) (k : Option (BitVec 28)) : Nat := addrOf x w k

/-! ### Timers, edges and counters (R244-R249) -/

/-- The checks of an instance opcode whose sub-instance is `len` bytes at a multiple of `al`; the words written start at
`off`, and those read end where they end (R244). -/
def instCheck (x : Ctx) (a len al off wlen : Nat) : Option Trp :=
  if !(inData a && inData (a + len - 1)) then some (tBound 6)
  else if a % al ≠ 0 then some (tAlign 0)
  else firstTrap [x.dataReadCheck a (off + wlen), x.dataWriteCheck (a + off) wlen]

/-- A u64 of a sub-instance. -/
def u64At (b : Bytes) (off : Nat) : Nat := leNat ((b.drop off).take 8)

/-- A timer sub-instance (R245). -/
structure Timer where
  pt : Nat
  start : Nat
  et : Nat
  acc : Nat
  q : Bool
  prev : Bool
  timed : Bool
deriving DecidableEq, Repr

/-- A timer as its bytes say; a START in the future becomes now (R245, R246). -/
def readTimer (now : Nat) (b : Bytes) : Timer :=
  let st := w32 (leNat ((b.drop 0x20).take 4))
  { pt := min (u64At b 0) (2 ^ 63 - 1), start := min (u64At b 8) now, et := u64At b 0x10, acc := u64At b 0x18
    q := st.getLsbD 0, prev := st.getLsbD 1, timed := st.getLsbD 2 }

/-- START, ET, ACC and STATE as the instruction writes them (R245). -/
def timerBytes (t : Timer) : Bytes :=
  leBytes 8 t.start ++ leBytes 8 t.et ++ leBytes 8 t.acc ++ leBytes 4 (bit t.q + 2 * bit t.prev + 4 * bit t.timed)

/-- A timer opcode: the step runs on the sub-instance and gd takes Q (R244-R246). -/
def timerOp (x : Ctx) (w : Word) (k : Option (BitVec 28)) (step : Nat → Word → Timer → Timer) : Eff :=
  let a := instRRI x w k
  match instCheck x a 0x24 8 8 0x1C with
  | some t => .error t
  | none =>
    let now := (x.s.task x.n).snapMono
    let t := step now (x.reg (sylGa w)) (readTimer now (x.dataBytes a 0x24))
    .ok [.data (a + 8) (timerBytes t), .reg (sylGd w) (flag t.q) 2]

/-- TON's step (R246). -/
def stepTon (now : Nat) (ga : Word) (t : Timer) : Timer :=
  let inp := truth ga
  let start := if inp && !t.prev then now else t.start
  if inp then { t with start := start, q := decide (t.pt ≤ now - start), et := min (now - start) t.pt, prev := true }
  else { t with q := false, et := 0, prev := false }

/-- TOF's step (R246). -/
def stepTof (now : Nat) (ga : Word) (t : Timer) : Timer :=
  if truth ga then { t with q := true, et := 0, timed := false, prev := true }
  else
    let t1 := if t.prev then { t with start := now, timed := true } else t
    if t1.timed then
      if t1.pt ≤ now - t1.start then { t1 with q := false, et := t1.pt, timed := false, prev := false }
      else { t1 with q := true, et := now - t1.start, prev := false }
    else { t1 with q := false, prev := false }

/-- TP's step: the end of a running pulse is decided before a new rise (R246). -/
def stepTp (now : Nat) (ga : Word) (t : Timer) : Timer :=
  let inp := truth ga
  let t1 := if t.q then
      (if t.pt ≤ now - t.start then { t with q := false, et := t.pt } else { t with et := now - t.start })
    else t
  let t2 := if inp && !t.prev && !t1.q then { t1 with start := now, q := decide (0 < t.pt), et := 0 } else t1
  let t3 := if !inp && !t2.q then { t2 with et := 0 } else t2
  { t3 with prev := inp }

/-- TACC's step: IN is ga[0] and RESET ga[1] (R246). -/
def stepTacc (now : Nat) (ga : Word) (t : Timer) : Timer :=
  if ga.getLsbD 1 then { t with acc := 0, q := false, et := 0, prev := false }
  else
    let inp := ga.getLsbD 0
    let start := if inp && !t.prev then now else t.start
    let acc := if !inp && t.prev then min (t.acc + (now - start)) (2 ^ 63 - 1) else t.acc
    let tot := acc + (if inp then now - start else 0)
    { t with start := start, acc := acc, q := decide (t.pt ≤ tot), et := min tot t.pt, prev := inp }

/-- An edge opcode: the previous input is kept in the sub-instance (R248). -/
def edgeOp (x : Ctx) (w : Word) (k : Option (BitVec 28)) (f : Bool → Bool → Bool) : Eff :=
  let a := instRRI x w k
  match instCheck x a 4 4 0 4 with
  | some t => .error t
  | none =>
    let inp := truth (x.reg (sylGa w))
    let prev := (w32 (leNat (x.dataBytes a 4))).getLsbD 0
    .ok [.data a (leBytes 4 (bit inp)), .reg (sylGd w) (flag (f inp prev)) 2]

/-- What a counter keeps beside PV (R249). -/
structure Cnt where
  pv : Int
  cv : Int
  cu : Bool
  cd : Bool
deriving DecidableEq, Repr

/-- CV within s32: it saturates and never wraps (R249). -/
def satCv (v : Int) : Int := clampI (-(2 ^ 31)) (2 ^ 31 - 1) v

/-- A counter opcode: CV from PV, CV, the rises and the level bits of ga; the bits of STATE that the opcode has
an input or a result for are stored, and the others stay (R249). -/
def counterOp (x : Ctx) (w : Word) (k : Option (BitVec 28)) (cuBit cdBit : Option Nat) (cv : Word → Bool → Bool → Cnt → Int)
    (out : Bool → Bool → List Act) : Eff :=
  let a := instRRI x w k
  match instCheck x a 0x10 4 4 8 with
  | some t => .error t
  | none =>
    let b := x.dataBytes a 0x10
    let st := wordAt b 2
    let g := x.reg (sylGa w)
    let old : Cnt := { pv := (wordAt b 0).toInt, cv := (wordAt b 1).toInt, cu := st.getLsbD 0, cd := st.getLsbD 1 }
    let cu := cuBit.elim old.cu fun i => g.getLsbD i
    let cd := cdBit.elim old.cd fun i => g.getLsbD i
    let v := satCv (cv g (cu && !old.cu) (cd && !old.cd) old)
    let qu := if cuBit.isSome then decide (old.pv ≤ v) else st.getLsbD 2
    let qd := if cdBit.isSome then decide (v ≤ 0) else st.getLsbD 3
    .ok (.data (a + 4) (leInt 4 v ++ leBytes 4 (bit cu + 2 * bit cd + 4 * bit qu + 8 * bit qd)) :: out qu qd)
where
  /-- A word of the sub-instance. -/
  wordAt (b : Bytes) (i : Nat) : Word := w32 (leNat ((b.drop (4 * i)).take 4))

/-- LDB (R234). -/
def opLdb (x : Ctx) (w : Word) (k : Option (BitVec 28)) : Eff :=
  intoReg w 2 (signExt 8) (x.load (addrOf x w k) 1)

/-- LDBU (R234). -/
def opLdbu (x : Ctx) (w : Word) (k : Option (BitVec 28)) : Eff :=
  intoReg w 2 id (x.load (addrOf x w k) 1)

/-- LDH (R234). -/
def opLdh (x : Ctx) (w : Word) (k : Option (BitVec 28)) : Eff :=
  intoReg w 2 (signExt 16) (x.load (addrOf x w k) 2)

/-- LDHU (R234). -/
def opLdhu (x : Ctx) (w : Word) (k : Option (BitVec 28)) : Eff :=
  intoReg w 2 id (x.load (addrOf x w k) 2)

/-- LDW (R234). -/
def opLdw (x : Ctx) (w : Word) (k : Option (BitVec 28)) : Eff :=
  intoReg w 2 id (x.load (addrOf x w k) 4)

/-- LDD (R234). -/
def opLdd (x : Ctx) (w : Word) (k : Option (BitVec 28)) : Eff :=
  intoPair w 2 (x.load (addrOf x w k) 8)

/-- STB (R234). -/
def opStb (x : Ctx) (w : Word) (k : Option (BitVec 28)) : Eff :=
  x.store (addrOf x w k) ((gdBytes x w).take 1)

/-- STH (R234). -/
def opSth (x : Ctx) (w : Word) (k : Option (BitVec 28)) : Eff :=
  x.store (addrOf x w k) ((gdBytes x w).take 2)

/-- STW (R234). -/
def opStw (x : Ctx) (w : Word) (k : Option (BitVec 28)) : Eff :=
  x.store (addrOf x w k) ((gdBytes x w).take 4)

/-- STD (R234). -/
def opStd (x : Ctx) (w : Word) (k : Option (BitVec 28)) : Eff :=
  x.store (addrOf x w k) (pairBytes x w)

/-- LDWI (R234). -/
def opLdwi (x : Ctx) (w : Word) (k : Option (BitVec 28)) : Eff :=
  intoReg w 2 id (x.dataLoad (instRI x w k) 4)

/-- LDDI (R234). -/
def opLddi (x : Ctx) (w : Word) (k : Option (BitVec 28)) : Eff :=
  intoPair w 2 (x.dataLoad (instRI x w k) 8)

/-- STWI (R234). -/
def opStwi (x : Ctx) (w : Word) (k : Option (BitVec 28)) : Eff :=
  x.dataStore (instRI x w k) (gdBytes x w)

/-- STDI (R234). -/
def opStdi (x : Ctx) (w : Word) (k : Option (BitVec 28)) : Eff :=
  x.dataStore (instRI x w k) (pairBytes x w)

/-- ILD: a word point, or a bit point as 0 or 1 (R234, R236). -/
def opIld (x : Ctx) (w : Word) (k : Option (BitVec 28)) : Eff :=
  (x.readPoint (imgSum x w k)).map fun v => [.reg (sylGd w) v 2]

/-- ILDQ (R234, R236). -/
def opIldq (x : Ctx) (w : Word) (k : Option (BitVec 28)) : Eff :=
  (x.readQuality (imgSum x w k)).map fun q => [.reg (sylGd w) (q.setWidth 32) 2]

/-- IST (R234, R236). -/
def opIst (x : Ctx) (w : Word) (k : Option (BitVec 28)) : Eff :=
  (x.writePoint (imgSum x w k) (x.reg (sylGd w))).map fun ps => ps.map fun p => .point p.1 p.2

/-- ILDW: a word point, or the 32 points of a bit word (R234). -/
def opIldw (x : Ctx) (w : Word) (k : Option (BitVec 28)) : Eff :=
  (x.readImgWord (immBI w k)).map fun v => [.reg (sylGd w) v 2]

/-- ISTW (R234). -/
def opIstw (x : Ctx) (w : Word) (k : Option (BitVec 28)) : Eff :=
  (x.writeImgWord (immBI w k) (x.reg (sylGd w))).map fun ps => ps.map fun p => .point p.1 p.2

/-- TLDB (R234, R235). -/
def opTldb (x : Ctx) (w : Word) (k : Option (BitVec 28)) : Eff :=
  stalled (intoReg w 24 (signExt 8) (x.tableLoad (addrOf x w k) 1))

/-- TLDBU (R234, R235). -/
def opTldbu (x : Ctx) (w : Word) (k : Option (BitVec 28)) : Eff :=
  stalled (intoReg w 24 id (x.tableLoad (addrOf x w k) 1))

/-- TLDH (R234, R235). -/
def opTldh (x : Ctx) (w : Word) (k : Option (BitVec 28)) : Eff :=
  stalled (intoReg w 24 (signExt 16) (x.tableLoad (addrOf x w k) 2))

/-- TLDHU (R234, R235). -/
def opTldhu (x : Ctx) (w : Word) (k : Option (BitVec 28)) : Eff :=
  stalled (intoReg w 24 id (x.tableLoad (addrOf x w k) 2))

/-- TLDW (R234, R235). -/
def opTldw (x : Ctx) (w : Word) (k : Option (BitVec 28)) : Eff :=
  stalled (intoReg w 24 id (x.tableLoad (addrOf x w k) 4))

/-- TLDD (R234, R235). -/
def opTldd (x : Ctx) (w : Word) (k : Option (BitVec 28)) : Eff :=
  stalled (intoPair w 24 (x.tableLoad (addrOf x w k) 8))

/-- PUSH (R211-R213). -/
def opPush (x : Ctx) (w : Word) : Eff :=
  (x.pushData (x.reg (sylGd w)) { top := x.b.ds, spilled := x.b.dsSpilled }).map dataStackActs

/-- POP (R211-R213). -/
def opPop (x : Ctx) (w : Word) : Eff :=
  (x.popData { top := x.b.ds, spilled := x.b.dsSpilled }).map fun p => .reg (sylGd w) p.1 1 :: dataStackActs p.2

/-- PUSHD: low word first (R211-R213). -/
def opPushd (x : Ctx) (w : Word) : Eff :=
  match x.pushData (x.reg (sylGd w)) { top := x.b.ds, spilled := x.b.dsSpilled } with
  | .error t => .error t
  | .ok k => (x.pushData (x.reg (sylGd w + 1)) k).map dataStackActs

/-- POPD: high word first (R211-R213). -/
def opPopd (x : Ctx) (w : Word) : Eff :=
  match x.popData { top := x.b.ds, spilled := x.b.dsSpilled } with
  | .error t => .error t
  | .ok p => (x.popData p.2).map fun q =>
      .reg (sylGd w) q.1 1 :: .reg (sylGd w + 1) p.1 1 :: dataStackActs q.2

/-- TON (R245, R246). -/
def opTon (x : Ctx) (w : Word) (k : Option (BitVec 28)) : Eff :=
  timerOp x w k stepTon

/-- TOF (R245, R246). -/
def opTof (x : Ctx) (w : Word) (k : Option (BitVec 28)) : Eff :=
  timerOp x w k stepTof

/-- TP (R245, R246). -/
def opTp (x : Ctx) (w : Word) (k : Option (BitVec 28)) : Eff :=
  timerOp x w k stepTp

/-- TACC (R245, R246). -/
def opTacc (x : Ctx) (w : Word) (k : Option (BitVec 28)) : Eff :=
  timerOp x w k stepTacc

/-- RTRIG: gd = in ∧ ¬prev (R248). -/
def opRtrig (x : Ctx) (w : Word) (k : Option (BitVec 28)) : Eff :=
  edgeOp x w k fun i p => i && !p

/-- FTRIG: gd = ¬in ∧ prev (R248). -/
def opFtrig (x : Ctx) (w : Word) (k : Option (BitVec 28)) : Eff :=
  edgeOp x w k fun i p => !i && p

/-- CTU (R249). -/
def opCtu (x : Ctx) (w : Word) (k : Option (BitVec 28)) : Eff :=
  counterOp x w k (some 0) none
    (fun g up _ c => if g.getLsbD 1 then 0 else if up then c.cv + 1 else c.cv)
    fun qu _ => [.reg (sylGd w) (flag qu) 2]

/-- CTD (R249). -/
def opCtd (x : Ctx) (w : Word) (k : Option (BitVec 28)) : Eff :=
  counterOp x w k none (some 0)
    (fun g _ down c => if g.getLsbD 1 then c.pv else if down then c.cv - 1 else c.cv)
    fun _ qd => [.reg (sylGd w) (flag qd) 2]

/-- CTUD: R before LD; a rise of both changes nothing (R249). -/
def opCtud (x : Ctx) (w : Word) (k : Option (BitVec 28)) : Eff :=
  counterOp x w k (some 0) (some 1)
    (fun g up down c =>
      if g.getLsbD 2 then 0 else if g.getLsbD 3 then c.pv
      else if up && !down then c.cv + 1 else if down && !up then c.cv - 1 else c.cv)
    fun qu qd => [.reg (sylGd w) (flag qu) 2, .reg (sylGd w + 1) (flag qd) 2]

end Sys2Proof.Machine
end

