-- ==== Sys2Proof/Machine/MacOps.lean ====
section
/-! DEFINITION. What each opcode of the M class, the MAC and DSP unit, does, one definition each (R214-R216, R231-R233, R250). -/

namespace Sys2Proof.Machine

/-- A result of two registers, with latency 2 (R198, R231). -/
def mac2 (x : Ctx) (w : Word) (f : Word → Word → Word) : Eff := Eff.reg (sylGd w) (f (x.reg (sylGa w)) (x.reg (sylGb w))) 2

/-- A result of gd and two registers, with latency 2 (R231). -/
def mac3 (x : Ctx) (w : Word) (f : Word → Word → Word → Word) : Eff :=
  Eff.reg (sylGd w) (f (x.reg (sylGd w)) (x.reg (sylGa w)) (x.reg (sylGb w))) 2

/-! ### Address generators (R214-R216) -/

/-- A generator as the bundle reads it. -/
def Ctx.gen (x : Ctx) (k : Nat) : Gen := x.b.a.get {} k

/-- The address of an access through a generator (R215). -/
def genAddr (g : Gen) : Nat := (g.base + g.idx).toNat

/-- The bits `lo` to `hi - 1` of a word in reverse order. -/
def revField (v : Word) (lo hi : Nat) : Nat :=
  (List.range (hi - lo)).foldl (fun acc i => 2 * acc + bit (v.getLsbD (lo + i))) 0

/-- A field of `n` bits put back in reverse order at bit `lo`. -/
def putRev (r lo n : Nat) : Word :=
  (List.range n).foldl (fun acc i => if r / 2 ^ i % 2 = 1 then acc ||| (1#32 <<< (lo + n - 1 - i)) else acc) 0#32

/-- IDX plus STEP over the bits `lo` to `hi - 1` with the carry running from high to low; the others stay (R215). -/
def reverseCarryAdd (idx step : Word) (hi lo : Nat) : Word :=
  let mask : Word := ((1#32 <<< hi) - 1#32) &&& ~~~((1#32 <<< lo) - 1#32)
  (idx &&& ~~~mask) ||| putRev ((revField idx lo hi + revField step lo hi) % 2 ^ (hi - lo)) lo (hi - lo)

/-- IDX after an access (R215). -/
def nextIdx (g : Gen) : Word :=
  let mode := (g.mode.extractLsb' 0 2).toNat
  let e := (g.mode.extractLsb' 2 2).toNat
  if g.len = 0#32 ∨ mode = 0 ∨ mode = 3 then g.idx + g.step
  else if mode = 1 then BitVec.ofInt 32 (((g.idx.toNat : Int) + g.step.toInt) % (g.len.toNat : Int))
  else
    let b := Nat.log2 g.len.toNat
    if b ≤ e then g.idx + g.step else reverseCarryAdd g.idx g.step b e

/-- The generator's act after an access (R215). -/
def stepGen (x : Ctx) (k : Nat) : Act := .gen k { x.gen k with idx := nextIdx (x.gen k) }

/-- An effect that reads `len` bytes through the generator and updates it (R233). -/
def throughGen (x : Ctx) (w : Word) (len : Nat) (f : Bytes → List Act) : Eff :=
  match x.dataLoad (genAddr (x.gen (sylAgn w))) len with
  | .error t => .error t
  | .ok b => .ok (f b ++ [stepGen x (sylAgn w)])

/-- A word of a loaded string. -/
def wordIn (b : Bytes) (k : Nat) : Word := w32 (leNat ((b.drop (4 * k)).take 4))

/-- MUL (R231). -/
def opMul (x : Ctx) (w : Word) : Eff :=
  mac2 x w fun a b => a * b

/-- MULH (R231). -/
def opMulh (x : Ctx) (w : Word) : Eff :=
  mac2 x w fun a b => hiWord (prodS a b)

/-- MULHU (R231). -/
def opMulhu (x : Ctx) (w : Word) : Eff :=
  mac2 x w fun a b => hiWord (prodU a b)

/-- MULW (R231). -/
def opMulw (x : Ctx) (w : Word) : Eff :=
  Eff.pair (sylGd w) (prodS (x.reg (sylGa w)) (x.reg (sylGb w))) 2

/-- MAC (R231). -/
def opMac (x : Ctx) (w : Word) : Eff :=
  mac3 x w fun d a b => d + a * b

/-- MACW (R231). -/
def opMacw (x : Ctx) (w : Word) : Eff :=
  Eff.pair (sylGd w) (x.pair (sylGd w) + prodS (x.reg (sylGa w)) (x.reg (sylGb w))) 2

/-- FADD (R231, R232). -/
def opFadd (x : Ctx) (w : Word) : Eff :=
  mac2 x w fun a b => fAdd a b

/-- FSUB (R231, R232). -/
def opFsub (x : Ctx) (w : Word) : Eff :=
  mac2 x w fun a b => fSub a b

/-- FMUL (R231, R232). -/
def opFmul (x : Ctx) (w : Word) : Eff :=
  mac2 x w fun a b => fMul a b

/-- FMAC, rounded once (R231, R232). -/
def opFmac (x : Ctx) (w : Word) : Eff :=
  mac3 x w fMac

/-- FMSC, rounded once (R231, R232). -/
def opFmsc (x : Ctx) (w : Word) : Eff :=
  mac3 x w fMsc

/-- FMIN (R231). -/
def opFmin (x : Ctx) (w : Word) : Eff :=
  mac2 x w fMin

/-- FMAX (R231). -/
def opFmax (x : Ctx) (w : Word) : Eff :=
  mac2 x w fMax

/-- FSGN (R231). -/
def opFsgn (x : Ctx) (w : Word) : Eff :=
  mac2 x w (fSgn (sylSub w))

/-- FCMP (R231). -/
def opFcmp (x : Ctx) (w : Word) : Eff :=
  mac2 x w fun a b => flag (fCmp (sylSub w) a b)

/-- FCVT (R231, R232). -/
def opFcvt (x : Ctx) (w : Word) : Eff :=
  mac2 x w fun a _ => fCvt (sylSub w) a

/-- MLD: the element at ak, extended as SUB says (R231, R233). -/
def opMld (x : Ctx) (w : Word) : Eff :=
  let len := 2 ^ (sylAgSub w % 4)
  throughGen x w len fun b =>
    let v := w32 (leNat (b.take 4))
    match sylAgSub w % 4 with
    | 0 => [.reg (sylGd w) (if w.getLsbD 2 then signExt 8 v else v) 2]
    | 1 => [.reg (sylGd w) (if w.getLsbD 2 then signExt 16 v else v) 2]
    | 2 => [.reg (sylGd w) v 2]
    | _ => [.reg (sylGd w) v 2, .reg (sylGd w + 1) (wordIn b 1) 2]

/-- MST: gd or pair gd to ak (R231, R233). -/
def opMst (x : Ctx) (w : Word) : Eff :=
  let v : Bytes := leBytes 4 (x.reg (sylGd w)).toNat ++ leBytes 4 (x.reg (sylGd w + 1)).toNat
  (x.dataStore (genAddr (x.gen (sylAgn w))) (v.take (2 ^ (sylAgSub w % 4)))).map fun l => l ++ [stepGen x (sylAgn w)]

/-- FMACA: gd + gb × the element at ak (R231). -/
def opFmaca (x : Ctx) (w : Word) : Eff :=
  throughGen x w 4 fun b => [.reg (sylGd w) (fMac (x.reg (sylGd w)) (x.reg (sylGa w)) (wordIn b 0)) 2]

/-- FMAC2A: both accumulators take the element times a coefficient (R231). -/
def opFmac2a (x : Ctx) (w : Word) : Eff :=
  throughGen x w 4 fun b =>
    [.reg (sylGd w) (fMac (x.reg (sylGd w)) (wordIn b 0) (x.reg (sylGa w))) 2,
     .reg (sylGd w + 1) (fMac (x.reg (sylGd w + 1)) (wordIn b 0) (x.reg (sylGa w + 1))) 2]

/-- CMULA: the complex product, each part rounded once (R231). -/
def opCmula (x : Ctx) (w : Word) : Eff :=
  throughGen x w 8 fun b =>
    let f (v : Word) : Flt := Flt.unpack v
    let br := f (x.reg (sylGa w))
    let bi := f (x.reg (sylGa w + 1))
    let mr := f (wordIn b 0)
    let mi := f (wordIn b 1)
    [.reg (sylGd w) ((br.mul mr).add (bi.mul mi).neg).pack 2,
     .reg (sylGd w + 1) ((br.mul mi).add (bi.mul mr)).pack 2]

/-- AGSET: a field of ak takes gb; reserved bits of MODE are stored as zero (R231, R233). -/
def opAgset (x : Ctx) (w : Word) : Eff :=
  let g := x.gen (sylAgn w)
  let v := x.reg (sylGa w)
  .ok [.gen (sylAgn w)
    (match sylAgSub w with
      | 0 => { g with base := v }
      | 1 => { g with len := v }
      | 2 => { g with step := v }
      | 3 => { g with idx := v }
      | _ => { g with mode := v &&& 0xF#32 })]

/-- AGGET: gd takes a field of ak (R231). -/
def opAgget (x : Ctx) (w : Word) : Eff :=
  let g := x.gen (sylAgn w)
  Eff.reg (sylGd w)
    (match sylAgSub w with
      | 0 => g.base
      | 1 => g.len
      | 2 => g.step
      | 3 => g.idx
      | _ => g.mode) 1

/-- FDIV, as the system library gives it its effect (R250). -/
def opFdiv (x : Ctx) (w : Word) : Eff :=
  mac2 x w fDiv

/-- FSQRT, as the system library gives it its effect (R250). -/
def opFsqrt (x : Ctx) (w : Word) : Eff :=
  mac2 x w fun a _ => fSqrt a

end Sys2Proof.Machine
end

