-- ==== Sys2Proof/Machine/Bundle.lean ====
section
/-! DEFINITION. Bundles: delivery of syllables, issue, latencies and retire, traps and their entry, emulation, lockstep, and
the ends that BARRIER and TEND make (R17-R20, R45, R156-R157, R185-R222, R240, R241, R250). -/

namespace Sys2Proof.Machine

/-! ### Evaluation of a syllable -/

/-- A B-class syllable (R227). -/
def evalB (x : Ctx) (w : Word) (k : Option (BitVec 28)) : Eff :=
  match sylOp w with
  | 0x00 => opBand x w
  | 0x01 => opBor x w
  | 0x02 => opBxor x w
  | 0x03 => opNez x w
  | 0x04 => opEqz x w
  | 0x08 => opBext x w k
  | 0x09 => opBins x w k
  | 0x20 => opBld x w k
  | 0x21 => opBst x w k
  | 0x22 => opBldq x w k
  | 0x23 => opBldg x w k
  | _ => .error (1, 0)

/-- An A-class syllable (R229). -/
def evalA (x : Ctx) (w : Word) (k : Option (BitVec 28)) : Eff :=
  match sylOp w with
  | 0x00 => opAdd x w
  | 0x01 => opSub x w
  | 0x02 => opAddi x w k
  | 0x03 => opAnd x w
  | 0x04 => opOr x w
  | 0x05 => opXor x w
  | 0x06 => opAndi x w k
  | 0x07 => opOri x w k
  | 0x08 => opXori x w k
  | 0x09 => opShl x w
  | 0x0A => opShr x w
  | 0x0B => opSar x w
  | 0x0C => opShli x w k
  | 0x0D => opShri x w k
  | 0x0E => opSari x w k
  | 0x0F => opMin x w
  | 0x10 => opMax x w
  | 0x11 => opMinu x w
  | 0x12 => opMaxu x w
  | 0x13 => opCmpeq x w
  | 0x14 => opCmpne x w
  | 0x15 => opCmplt x w
  | 0x16 => opCmpltu x w
  | 0x17 => opCmple x w
  | 0x18 => opCmpleu x w
  | 0x19 => opCmpeqi x w k
  | 0x1A => opCmplti x w k
  | 0x1B => opCmpltui x w k
  | 0x1C => opCarry x w
  | 0x1D => opBorrow x w
  | 0x1E => opAdds x w
  | 0x1F => opSubs x w
  | 0x20 => opLi x w k
  | 0x21 => opExt x w
  | 0x22 => opClz x w
  | 0x23 => opPopc x w
  | 0x24 => opAdd64 x w
  | 0x25 => opSub64 x w
  | 0x26 => opCmpltu64 x w
  | 0x27 => opCmplt64 x w
  | 0x28 => opDiv x w
  | 0x29 => opDivu x w
  | 0x2A => opRem x w
  | 0x2B => opRemu x w
  | _ => .error (1, 0)

/-- An M-class syllable (R231). -/
def evalM (x : Ctx) (w : Word) : Eff :=
  match sylOp w with
  | 0x00 => opMul x w
  | 0x01 => opMulh x w
  | 0x02 => opMulhu x w
  | 0x03 => opMulw x w
  | 0x04 => opMac x w
  | 0x05 => opMacw x w
  | 0x10 => opFadd x w
  | 0x11 => opFsub x w
  | 0x12 => opFmul x w
  | 0x13 => opFmac x w
  | 0x14 => opFmsc x w
  | 0x15 => opFmin x w
  | 0x16 => opFmax x w
  | 0x17 => opFsgn x w
  | 0x18 => opFcmp x w
  | 0x19 => opFcvt x w
  | 0x20 => opMld x w
  | 0x21 => opMst x w
  | 0x22 => opFmaca x w
  | 0x23 => opFmac2a x w
  | 0x24 => opCmula x w
  | 0x28 => opAgset x w
  | 0x29 => opAgget x w
  | _ => .error (1, 0)

/-- An L-class syllable (R234). -/
def evalL (x : Ctx) (w : Word) (k : Option (BitVec 28)) : Eff :=
  match sylOp w with
  | 0x00 => opLdb x w k
  | 0x01 => opLdbu x w k
  | 0x02 => opLdh x w k
  | 0x03 => opLdhu x w k
  | 0x04 => opLdw x w k
  | 0x05 => opLdd x w k
  | 0x08 => opStb x w k
  | 0x09 => opSth x w k
  | 0x0A => opStw x w k
  | 0x0B => opStd x w k
  | 0x10 => opLdwi x w k
  | 0x11 => opLddi x w k
  | 0x12 => opStwi x w k
  | 0x13 => opStdi x w k
  | 0x18 => opIld x w k
  | 0x19 => opIldq x w k
  | 0x1A => opIst x w k
  | 0x1C => opIldw x w k
  | 0x1D => opIstw x w k
  | 0x20 => opTldb x w k
  | 0x21 => opTldbu x w k
  | 0x22 => opTldh x w k
  | 0x23 => opTldhu x w k
  | 0x24 => opTldw x w k
  | 0x25 => opTldd x w k
  | 0x28 => opPush x w
  | 0x29 => opPop x w
  | 0x2A => opPushd x w
  | 0x2B => opPopd x w
  | 0x30 => opTon x w k
  | 0x31 => opTof x w k
  | 0x32 => opTp x w k
  | 0x33 => opTacc x w k
  | 0x34 => opRtrig x w k
  | 0x35 => opFtrig x w k
  | 0x36 => opCtu x w k
  | 0x37 => opCtd x w k
  | 0x38 => opCtud x w k
  | _ => .error (1, 0)

/-- A C-class syllable; `next` is the address of the bundle after it (R237). -/
def evalC (x : Ctx) (next w : Word) (k : Option (BitVec 28)) : Eff :=
  match sylOp w with
  | 0x00 => opBnz x w k
  | 0x01 => opBz x w k
  | 0x02 => opLoop x w k
  | 0x03 => opJmpr x w
  | 0x04 => opCall x next w k
  | 0x05 => opCallr x next w
  | 0x06 => opFbcall x next w k
  | 0x07 => opFbcallr x next w
  | 0x08 => opRet x
  | 0x09 => opInstset x w
  | 0x0A => opInstget x w
  | 0x10 => opBarrier w k
  | 0x11 => opTend
  | 0x12 => opTrap w k
  | _ => .error (1, 0)

/-- One syllable with its X; an X itself does nothing (R191, R194). -/
def evalSyl (x : Ctx) (next w : Word) (k : Option (BitVec 28)) : Eff :=
  if isX w then .ok []
  else if emulated w then .error (1, emulateSub w)
  else match sylClass w with
    | 0 => evalB x w k
    | 1 => evalA x w k
    | 2 => evalM x w
    | 3 => evalL x w k
    | _ => evalC x next w k

/-- The syllables of a bundle in order: every act, or the first trap with its slot (R201). -/
def evalAll (x : Ctx) (next : Word) (ws : List Word) : Nat → List Word → Except (Trp × Nat) (List Act)
  | _, [] => .ok []
  | i, w :: r =>
    match evalSyl x next w ((xAt ws i).map sylX) with
    | .error t => .error (t, i)
    | .ok l => (evalAll x next ws (i + 1) r).map fun m => l ++ m

/-! ### Writes in flight (R197, R199) -/

/-- A write joins those in flight, in the order in which they land; of two that land together the younger is later. -/
def addWrite (p : PendWrite) : List PendWrite → List PendWrite
  | [] => [p]
  | q :: r => if q.due ≤ p.due then q :: addWrite p r else p :: q :: r

/-- Every write whose cycle has ended lands (R197). -/
def land (cycle : Nat) (b : Bank) : Bank :=
  { b with
    g := (b.inflight.filter fun p => p.due < cycle).foldl (fun g p => g.set 0#32 p.reg p.val) b.g
    inflight := b.inflight.filter fun p => !decide (p.due < cycle) }

/-! ### Applying a bundle -/

/-- A stored data word counts as changed in the cycle and in the phase (R156, R159, R166). -/
def markDirty (n : Nat) (keys : List Nat) (s : State) : State :=
  let r := s.task n
  let add (l : List Nat) : List Nat := keys.foldl (fun l k => if l.contains k then l else l ++ [k]) l
  s.setTask n { r with dirty := add r.dirty, phaseDirty := add r.phaseDirty }

/-- Bytes written to the region data SRAM of the running engine. -/
def writeData (p a : Nat) (b : Bytes) (s : State) : State :=
  let r := s.region p
  s.setRegion p { r with data := Memory.writeBytes r.data (a - 0x10000000) b }

/-- One act on the bank. -/
def bankAct (t : Nat) (a : Act) (b : Bank) : Bank :=
  match a with
  | .reg r v lat => if r = 0 then b else { b with inflight := addWrite { due := t + lat - 1, reg := r, val := v } b.inflight }
  | .gen k g => { b with a := b.a.set {} k g }
  | .dataStack ds n => { b with ds := ds, dsSpilled := n }
  | .retStack rs n => { b with rs := rs, rsSpilled := n }
  | .inst v => { b with inst := v }
  | .jump pc => { b with pc := pc }
  | _ => b

/-- One act on what stands outside the bank (R200, R208, R210, R225). -/
def outAct (x : Ctx) (s : State) (a : Act) : State :=
  match a with
  | .data ad b => markDirty x.n ((dataWords ad b.length).map (dataKey x.logical)) (writeData x.region ad b s)
  | .spill ad v => writeData x.region ad (leBytes 4 v.toNat) s
  | .point p v => let r := s.task x.n; s.setTask x.n { r with buf := r.buf.set none p (some v) }
  | .checkIn n => engineCheckIn x.e n s
  | _ => s

/-- The issue stall of a bundle: the stalls of its syllables added (R198). -/
def stallOf (l : List Act) : Nat := (l.map fun a => match a with
  | .stall n => n
  | _ => 0).sum

/-- The engine's cycles pass: they count for the banks of its other classes whose stripes run (R197, R209). -/
def passCycles (e c cost : Nat) (s : State) : State :=
  [0, 1, 2, 3].foldl (fun s c1 =>
    let b := s.bank e c1
    if c1 ≠ c ∧ b.task.isSome ∧ !b.waiting then s.setBank e c1 { b with cycles := b.cycles + cost } else s) s

/-- In a PAIRED region the odd engine of the pair stands as its even engine does (R18). -/
def copyPair (e c : Nat) (s : State) : State :=
  if isPaired s (e / 4) then s.setBank (e + 1) c (s.bank e c) else s

/-- The bank of a pair, or of one engine, is given back. -/
def freePair (e c : Nat) (s : State) : State :=
  let s1 := freeBank e c s
  if isPaired s1 (e / 4) then freeBank (e + 1) c s1 else s1

/-- An engine arrives at a barrier: its bank is given back with the state of R186 and the engine may take another stripe
(R148, R157, R186, R240). -/
def arrive (x : Ctx) (n : Nat) (s : State) : State :=
  let l := stripeEngine x.st
  let r := s.task x.n
  dispatch (freePair x.e x.c (s.setTask x.n { r with arrived := r.arrived ++ [l], barrier := some n }))

/-- A stripe ends the task's cycle on its engine, which takes no later stripe of the cycle (R157, R237, R241). -/
def endStripe (x : Ctx) (s : State) : State :=
  let r := s.task x.n
  dispatch (freePair x.e x.c (s.setTask x.n { r with
    ended := r.ended ++ [stripeEngine x.st], toStart := r.toStart.filter fun q => q.2 ≠ stripeEngine x.st }))

/-- A bundle's acts take effect at its end (R197, R240). -/
def applyActs (x : Ctx) (next : Word) (l : List Act) (s : State) : State :=
  let cost := 1 + stallOf l
  let b1 := l.foldl (fun b a => bankAct x.b.cycles a b) { x.b with pc := next, bundle := [], chk := .ok, chkSlot := 0 }
  let b2 := { b1 with cycles := x.b.cycles + cost }
  let s1 := l.foldl (outAct x) (s.setBank x.e x.c b2)
  let s2 := copyPair x.e x.c (passCycles x.e x.c cost s1)
  match l.findSome? (fun a => match a with
      | .barrier n => some (some n)
      | .tend => some none
      | _ => none) with
  | some (some n) => arrive x n s2
  | some none => endStripe x s2
  | none => s2

/-! ### Traps (R217-R222) -/

/-- TRAP_CAUSE (R209). -/
def causeWord (t : Trp) (slot : Nat) : Word := w32 (t.1 + 256 * t.2 + 65536 * slot)

/-- The bank with the four trap words of a trap (R209, R220). -/
def trapWords (t : Trp) (slot : Nat) (ws : List Word) (b : Bank) : Bank :=
  { b with
    trapCause := causeWord t slot, trapAddr := b.pc, trapSyl := ws.getD slot 0#32, trapX := (xAt ws slot).getD 0#32
    bundle := [], chk := .ok, chkSlot := 0 }

/-- A trap that abandons the cycle: fault log, ERR_TRAP with its cause words, of TRAP_CAUSE the cause number alone (R142, R149,
R156, R165, R217, R220). -/
def abandonTrap (x : Ctx) (t : Trp) (slot : Nat) (ws : List Word) (s : State) : State :=
  let b := trapWords t slot ws x.b
  let here := whr 1 x.region x.e
  let s1 := abandonCycle x.n (copyPair x.e x.c (s.setBank x.e x.c b))
  let s2 := logFault 7 0 here b.trapCause b.trapAddr s1
  let s3 := if t.1 = 8 then logFault 3 2 here (w32 t.2) b.trapAddr (count 2 1 s2) else s2
  if x.n = 50 then s3
  else dispatch (releaseOwn 50
    { trapCause := b.trapCause &&& 0xFF#32, trapTask := x.n, trapAddr := b.trapAddr, trapEngine := x.e } s3)

/-- The vector of a resumable cause in the root that the cycle runs under, 0 for any other (R161, R217, R219, R275). -/
def vectorOf (x : Ctx) (cause : Nat) : Word :=
  if 1 ≤ cause ∧ cause ≤ 3 then
    w32 (leNat ((List.range 4).map fun k => codeByte (x.s.region x.region) x.root (0x100 + 4 * cause + k)))
  else 0#32

/-- Cycles of the two operations that the system library emulates, from issue to issue (R250). -/
def emulCycles (w : Word) : Nat := if sylOp w = 0x1B then 66 else 58

/-- The syllable is FDIV or FSQRT (R250). -/
def libraryOp (w : Word) : Bool := sylClass w = 2 && (sylOp w = 0x1A || sylOp w = 0x1B) && sylSub w = 0

/-- What the system library's dispatcher gives an emulated operation: the whole effect on gd alone (R250). -/
def libraryActs (x : Ctx) (w : Word) : List Act :=
  match (if sylOp w = 0x1B then opFsqrt x w else opFdiv x w) with
  | .ok l => l ++ [.stall (emulCycles w - 1)]
  | .error _ => []

/-- What the system library's DIV_ZERO handler writes: the value that the image names for the task, by default 0 for a
quotient and the dividend for a remainder (R221, R230). -/
def divZeroValue (x : Ctx) (w : Word) : Word :=
  x.d.divValue.getD (if sylOp w = 0x28 ∨ sylOp w = 0x29 then 0#32 else x.reg (sylGa w))

/-- A trap is taken: its handler is entered with the return pushed, or the cycle is abandoned; a handler that is the system
library's dispatcher of EMULATE gives FDIV and FSQRT their effect, and one that is its DIV_ZERO handler writes the task's
value (R194, R198, R220, R221, R230, R250; log entry 49). -/
def takeTrap (x : Ctx) (next : Word) (t : Trp) (slot : Nat) (ws : List Word) (s : State) : State :=
  let v := vectorOf x t.1
  if v = 0#32 then abandonTrap x t slot ws s
  else match x.pushRet (next, x.b.inst) with
    | .error u => abandonTrap x u slot ws s
    | .ok k =>
      let xb := { x with b := trapWords t slot ws x.b }
      let w := ws.getD slot 0#32
      if t.1 = 1 ∧ libraryOp w ∧ v = (prog s).sysLibVec then applyActs xb next (libraryActs x w) s
      else if t.1 = 3 ∧ v = (prog s).sysLibDiv then
        applyActs xb next [.reg (sylGd w) (divZeroValue x w) 1, .stall 6] s
      else applyActs xb next (retStackActs k ++ [.jump v, .stall 6]) s

/-- A lockstep mismatch: neither result is published, the cycle is abandoned and the region retired (R43, R45). -/
def lockstep (x : Ctx) (s : State) : State :=
  let s1 := logFault 4 (if isKeeper s then 3 else 2) (whr 2 x.region 0) x.b.pc (w32 x.n) (count 3 1 s)
  retireRegion x.region 4 s1

/-! ### Delivery and issue -/

/-- Syllables from an address up that lie inside the populated code window (R195). -/
def roomAt (pc : Word) : Nat := (codeSize - pc.toNat + 3) / 4

/-- The active class of an engine: the highest whose stripe runs (R148). -/
def activeClass (s : State) (e : Nat) : Option Nat :=
  [3, 2, 1, 0].find? fun c => (s.bank e c).task.isSome && !(s.bank e c).waiting

/-- The context of the active bank, its landed writes in (R185, R197). -/
def context (s : State) (e c : Nat) : Option Ctx :=
  let b := land (s.bank e c).cycles (s.bank e c)
  match b.task with
  | none => none
  | some n =>
    match taskDecl s n with
    | none => none
    | some d =>
      (stripeAt d b.phase (logEngine s e)).map fun st => { s := s, e := e, c := c, n := n, d := d, st := st, b := b }

/-- A complete bundle issues: its form, then what the units found, then its syllables in order (R195, R201, R217). -/
def issueBundle (x : Ctx) (ws : List Word) (cut : Bool) (s : State) : State :=
  let next := x.b.pc + 4#32 * BitVec.ofNat 32 ws.length
  match breaksRule ws cut with
    | some (rule, slot) => takeTrap x next (4, rule) slot ws s
    | none =>
      if isPaired s x.region && decide (x.b.chk ≠ .ok) then lockstep x s
      else if x.b.chk = .parity then takeTrap x next (8, 0) x.b.chkSlot ws s
      else if x.b.chk = .residue then takeTrap x next (8, 1) x.b.chkSlot ws s
      else match evalAll x next ws 0 ws with
        | .error (t, slot) => takeTrap x next t slot ws s
        | .ok l => applyActs x next l s

/-- The even engine of a pair in a PAIRED region, else the engine itself (R18). -/
def leadEngine (s : State) (e : Nat) : Nat := if isPaired s (e / 4) then e / 2 * 2 else e

/-- The engine issues: debug has not halted it, or lets it take one bundle (R512, R575). -/
def mayIssue (s : State) (e : Nat) : Bool := !s.eng.halted.getLsbD e || s.eng.step.getLsbD e

/-- The words that a delivery adds: the syllable and its X, with STOP in the last of them (R190, R195). -/
def delivered (b : Issue) (w : Word) : List Word :=
  match b.x with
  | none => [if b.stop then w ||| 0x80000000#32 else w]
  | some v => [w, (if b.stop then 0xD0000000#32 else 0x50000000#32) ||| v.setWidth 32]

/-- A check found a fault that stops the bundle; a corrected error does not (R15, R17). -/
def stopsBundle : UnitCheck → Bool
  | .ok | .corrected _ => false
  | _ => true

/-- A single-bit error that ECC corrected in the region's SRAM as the syllable came is reported, and no more (R15, R43; log entry
52). -/
def reportCorrection (b : Issue) (s : State) : State :=
  match b.chk with
  | .corrected a => logFault 1 1 (whr 0 (b.e / 4) b.e) (w32 (b.e / 4)) (w32 a) (count 0 1 s)
  | _ => s

/-- A syllable is delivered to the active bank of its engine; the syllable that ends the bundle issues it (R190, R195). -/
def deliverSyl (b : Issue) (w : Word) (s0 : State) : State :=
  let s := reportCorrection b s0
  let e := leadEngine s b.e
  if !mayIssue s e then s
  else match activeClass s e with
    | none => s
    | some c =>
      match context s e c with
      | none => s
      | some x =>
        let all := (x.b.bundle ++ delivered b w).take 8
        let room := roomAt x.b.pc
        let ws := all.take room
        let cut := decide (ws.length < 8) && (decide (room < all.length) || (decide (room = all.length) && !b.stop))
        let b1 := if stopsBundle b.chk ∧ x.b.chk = .ok then { x.b with chk := b.chk, chkSlot := x.b.bundle.length } else x.b
        if b.stop || cut || decide (8 ≤ all.length) then
          issueBundle { x with b := b1 } ws cut { s with eng.step := s.eng.step &&& ~~~(1#16 <<< e) }
        else copyPair e c (s.setBank e c { b1 with bundle := all })

end Sys2Proof.Machine
end

