-- ==== Sys2Proof/Machine/BitUnit.lean ====
section
/-! DEFINITION. The rows of the B class, the bit unit (R227): each delivers its syllable to the active bank of its engine. -/

namespace Sys2Proof.Machine

/-- BAND: the syllable is delivered to its engine; `opBand` is what it does (R227). -/
def execBand (b : Issue) (gd ga gb : BitVec 6) (sub : BitVec 4) (s : State) : Result State :=
  .next (deliverSyl b (encRRR 0 0x00 gd ga gb sub) s)

/-- BOR: the syllable is delivered to its engine; `opBor` is what it does (R227). -/
def execBor (b : Issue) (gd ga gb : BitVec 6) (sub : BitVec 4) (s : State) : Result State :=
  .next (deliverSyl b (encRRR 0 0x01 gd ga gb sub) s)

/-- BXOR: the syllable is delivered to its engine; `opBxor` is what it does (R227). -/
def execBxor (b : Issue) (gd ga gb : BitVec 6) (sub : BitVec 4) (s : State) : Result State :=
  .next (deliverSyl b (encRRR 0 0x02 gd ga gb sub) s)

/-- NEZ: the syllable is delivered to its engine; `opNez` is what it does (R227). -/
def execNez (b : Issue) (gd ga gb : BitVec 6) (sub : BitVec 4) (s : State) : Result State :=
  .next (deliverSyl b (encRRR 0 0x03 gd ga gb sub) s)

/-- EQZ: the syllable is delivered to its engine; `opEqz` is what it does (R227). -/
def execEqz (b : Issue) (gd ga gb : BitVec 6) (sub : BitVec 4) (s : State) : Result State :=
  .next (deliverSyl b (encRRR 0 0x04 gd ga gb sub) s)

/-- BEXT: the syllable is delivered to its engine; `opBext` is what it does (R227). -/
def execBext (b : Issue) (gd ga : BitVec 6) (imm : BitVec 10) (s : State) : Result State :=
  .next (deliverSyl b (encRRI 0 0x08 gd ga imm) s)

/-- BINS: the syllable is delivered to its engine; `opBins` is what it does (R227). -/
def execBins (b : Issue) (gd ga : BitVec 6) (imm : BitVec 10) (s : State) : Result State :=
  .next (deliverSyl b (encRRI 0 0x09 gd ga imm) s)

/-- BLD: the syllable is delivered to its engine; `opBld` is what it does (R227). -/
def execBld (b : Issue) (gd : BitVec 6) (space : BitVec 4) (index : BitVec 12) (s : State) : Result State :=
  .next (deliverSyl b (encBI 0 0x20 gd space index) s)

/-- BST: the syllable is delivered to its engine; `opBst` is what it does (R227). -/
def execBst (b : Issue) (gd : BitVec 6) (space : BitVec 4) (index : BitVec 12) (s : State) : Result State :=
  .next (deliverSyl b (encBI 0 0x21 gd space index) s)

/-- BLDQ: the syllable is delivered to its engine; `opBldq` is what it does (R227). -/
def execBldq (b : Issue) (gd : BitVec 6) (space : BitVec 4) (index : BitVec 12) (s : State) : Result State :=
  .next (deliverSyl b (encBI 0 0x22 gd space index) s)

/-- BLDG: the syllable is delivered to its engine; `opBldg` is what it does (R227). -/
def execBldg (b : Issue) (gd : BitVec 6) (space : BitVec 4) (index : BitVec 12) (s : State) : Result State :=
  .next (deliverSyl b (encBI 0 0x23 gd space index) s)

end Sys2Proof.Machine
end

