-- ==== Sys2Proof/Machine/Calendar.lean ====
section
/-! DEFINITION. The calendar, steps of TAI, the trim and the backup charger (R98, R118-R136). -/

namespace Sys2Proof.Machine

/-! ### Dates (R124) -/

/-- A leap year (R124). -/
def leapYear (y : Nat) : Bool := (y % 4 = 0 && y % 100 ≠ 0) || y % 400 = 0

/-- Length of a month. -/
def monthLen (y m : Nat) : Nat :=
  if m = 2 then (if leapYear y then 29 else 28) else if m = 4 ∨ m = 6 ∨ m = 9 ∨ m = 11 then 30 else 31

/-- Days of a year before a month. -/
def daysBefore (y m : Nat) : Nat := ((List.range (m - 1)).map fun i => monthLen y (i + 1)).sum

/-- Days since 2000-01-01 of a date from 2000 to 2399. -/
def dayNumber (y m d : Nat) : Nat :=
  365 * (y - 2000) + (y - 2000 + 3) / 4 - (bit (decide (2100 < y)) + bit (decide (2200 < y)) + bit (decide (2300 < y)))
    + daysBefore y m + (d - 1)

/-- Year and day of year of a day number, searched over a bounded number of years. -/
def splitYear : Nat → Nat → Nat → Nat × Nat
  | 0, y, n => (y, n)
  | fuel + 1, y, n =>
    let len := if leapYear y then 366 else 365
    if n < len then (y, n) else splitYear fuel (y + 1) (n - len)

/-- Month and day of a day of year. -/
def splitMonth (y : Nat) : Nat → Nat → Nat → Nat × Nat
  | 0, m, n => (m, n + 1)
  | fuel + 1, m, n => if n < monthLen y m then (m, n + 1) else splitMonth y fuel (m + 1) (n - monthLen y m)

/-- The date of a day number. -/
def dateOf (n : Nat) : Nat × Nat × Nat :=
  let (y, r) := splitYear 400 2000 n
  let (m, d) := splitMonth y 11 1 r
  (y, m, d)

/-- WEEKDAY: 1 is Monday; 2000-01-01 is 6 (R124). -/
def weekday (n : Nat) : Nat := (n + 5) % 7 + 1

/-- UTC seconds from 1970-01-01 to 2000-01-01. -/
def epoch2000 : Nat := 946684800

/-! ### TAI−UTC and the leap table (R126, R127) -/

/-- TAI−UTC of the table on a day: the base and every entry of an earlier day (R126). -/
def tableOffset (s : State) (day : Nat) : Int :=
  s.cal.baseOffset + ((s.cal.leaps.filter fun e => decide (e.1 < day)).map Prod.snd).sum

/-- PTP is the source in use and LOCKED. -/
def ptpLocked (s : State) : Bool := s.time.state = 2 && s.time.active = 1

/-- TAI−UTC in force on a day: PTP's while PTP is LOCKED, else the table's with the leaps that IEEE 1344 announced against it
(R126, R127). -/
def utcOffset (s : State) (day : Nat) : Int :=
  if ptpLocked s then s.time.ptpUtc.getD (tableOffset s day) else tableOffset s day + s.cal.leapAdj

/-- The calendar's day number. -/
def calDay (s : State) : Nat := dayNumber s.cal.year s.cal.month s.cal.day

/-- DELTA that the table gives the end of a day, 0 for none (R126). -/
def tableLeap (s : State) (day : Nat) : Int := ((s.cal.leaps.find? fun e => e.1 = day).map Prod.snd).getD 0

/-- IRIG-B is the source in use and LOCKED, with IEEE 1344 leap data (R101, R127). -/
def irigAnnounces (s : State) : Bool :=
  decide (s.time.state = 2 ∧ s.time.active = 2) && s.time.irigFlags.getLsbD 0 && s.time.irigLeap

/-- DELTA of the end of today: PTP's announcement while it is LOCKED, IEEE 1344's while IRIG-B is, else the table's (R126,
R127). -/
def leapToday (s : State) : Int :=
  if ptpLocked s then (if s.time.leap61 then 1 else if s.time.leap59 then -1 else 0)
  else if irigAnnounces s then (if s.time.leap61 then 1 else 0)
  else tableLeap s (calDay s)

/-- TAI−UTC on a day as the calendar will stand there: a leap announced for the end of today changes it from tomorrow on (R126,
R127). -/
def offsetOn (s : State) (day : Nat) : Int :=
  utcOffset s day + (if calDay s < day then
    (if ptpLocked s then leapToday s
     else if irigAnnounces s then leapToday s - tableLeap s (calDay s) else 0) else 0)

/-- SLOW ticks in a second: 32,768 on XS, 32,000 on RC_SLOW (R84, R90). -/
def slowHz (s : State) : Nat := if s.clk.slowRc then 32000 else 32768

/-- SLOW ticks since the last whole second of the calendar (R124). -/
def ticksNow (s : State) : Nat :=
  if s.cal.halted then s.cal.subsec else s.cal.subsec + (s.now - s.cal.secondAt) * slowHz s / 10 ^ 9

/-- SUBSEC now (R124). -/
def subsecNow (s : State) : Nat := min 32767 (ticksNow s)

/-- The calendar stands at a whole second: one begins now, or is due (R91, R124). -/
def atWholeSecond (s : State) : Bool := decide (ticksNow s = 0 ∨ 32768 ≤ ticksNow s)

/-- SLOW takes its ticks from XS or RC_SLOW from now on; SUBSEC stands where it stood (R90, R124). -/
def setSlow (rc : Bool) (s : State) : State :=
  if s.clk.slowRc = rc then s
  else { s with
    clk.slowRc := rc
    cal.subsec := if s.power.vaonGood then subsecNow s else s.cal.subsec
    cal.secondAt := if s.power.vaonGood && !s.cal.halted then s.now else s.cal.secondAt }

/-- A pending switch of SLOW takes effect; one back to XS clears XS_FAIL (R91, R115). -/
def slowSwitch (s : State) : State :=
  match s.clk.switch with
  | some (1, target) =>
    let s1 := setSlow (decide (target ≠ 0)) { s with clk.switch := none }
    if target = 0 then { s1 with clk.xsFail := false } else s1
  | _ => s

/-- TAI of a calendar value (R125). -/
def taiOf (offset : Int) (day hour minute second subsec : Nat) : Nat :=
  (((epoch2000 + 86400 * day + 3600 * hour + 60 * minute + second : Nat) + offset) * 10 ^ 9).toNat + subsec * 30517578 / 1000

/-- The calendar converted to TAI (R125). -/
def calTai (s : State) : Nat :=
  taiOf (utcOffset s (calDay s)) (calDay s) s.cal.hour s.cal.minute s.cal.second (subsecNow s)

/-- The calendar takes a date and time with SUBSEC 0, from this instant. -/
def setCal (y m d h mi sec : Nat) (s : State) : State :=
  { s with
    cal.year := y, cal.month := m, cal.day := d, cal.hour := h, cal.minute := mi, cal.second := sec
    cal.subsec := 0, cal.secondAt := s.now }

/-- The day whose first TAI second, from 2000-01-01 on, is the last at or before `n` (R125, R126). -/
def dayOfTai (s : State) (n : Int) : Nat :=
  let g := ((n - s.cal.baseOffset) / 86400).toNat
  let starts (d : Nat) : Bool := decide (86400 * (d : Int) + offsetOn s d ≤ n)
  if starts (g + 1) then g + 1 else if starts g then g else g - 1

/-- The calendar takes the UTC date, time and SUBSEC of TAI now; the second before a leap's 00:00:00 is 23:59:60 (R125,
R126). -/
def reloadCal (s : State) : State :=
  let n : Int := ((s.time.tai / 10 ^ 9 : Nat) : Int) - epoch2000
  let day := dayOfTai s n
  let (y, m, d) := dateOf day
  let r := (n - 86400 * (day : Int) - offsetOn s day).toNat
  let (h, mi, sec) := if r < 86400 then (r / 3600, r / 60 % 60, r % 60) else (23, 59, 60)
  { setCal y m d h mi sec s with cal.subsec := s.time.tai % 10 ^ 9 * slowHz s / 10 ^ 9, cal.reload := false }

/-! ### Steps of TAI (R98) -/

/-- The armed token is discarded and an observe session ends (R514). -/
def dropToken (s : State) : State :=
  { s with
    sec.token := none
    sec.dbg := s.sec.dbg.mapVal 0 fun _ v => if v = 1 ∧ s.sec.life = .sealed then 0 else v }

/-- A token stands only inside its window and while TIME_LOST is clear (R514). -/
def checkToken (s : State) : State :=
  match s.sec.token with
  | some k => if s.time.timeLost || decide (s.time.tai < k.notBefore ∨ k.notAfter < s.time.tai) then dropToken s else s
  | none => s

/-- The next 1 µs boundary of MONO (R98). -/
def toMicro (s : State) : State :=
  let d := (1000 - s.time.mono % 1000) % 1000
  { s with axis := s.axis + d, now := s.now + d, time.mono := s.time.mono + d, time.tai := s.time.tai + d }

/-- TAI steps by an amount at a 1 µs boundary; the marker enters the FIFO between the records before and after; MONO is
unchanged by the step (R97, R98). -/
def stepBy (delta : Int) (s : State) : State :=
  let s0 := toMicro s
  let new := ((s0.time.tai : Int) + delta).toNat
  let s1 := { s0 with
    time.tai := new
    time.slew := 0
    time.steps := min (s.time.steps + 1) 65535
    time.lastStep := delta
    time.setAt := new }
  checkToken (enterRecord { tai := new, source := 0xFF, kind := 5, quality := quality s1, aux := delta } s1)

/-! ### Counting -/

/-- One second on, with leap seconds; true when the count wraps past 2399 (R124, R126). -/
def nextSecond (s : State) : State × Bool :=
  let c := s.cal
  let leap := leapToday s
  let last := if leap = 1 then 60 else if leap = -1 then 58 else 59
  let endOfDay := c.hour = 23 ∧ c.minute = 59
  if endOfDay ∧ last ≤ c.second ∨ ¬ endOfDay ∧ c.hour = 23 ∧ c.minute = 59 then
    let n := calDay s + 1
    let (y, m, d) := dateOf n
    if 2400 ≤ y then (setCal 2000 1 1 0 0 0 s, true) else (setCal y m d 0 0 0 s, false)
  else if endOfDay then (setCal c.year c.month c.day 23 59 (c.second + 1) s, false)
  else if c.second < 59 then (setCal c.year c.month c.day c.hour c.minute (c.second + 1) s, false)
  else if c.minute < 59 then (setCal c.year c.month c.day c.hour (c.minute + 1) 0 s, false)
  else (setCal c.year c.month c.day (c.hour + 1) 0 0 s, false)

/-- TIME_LOST is latched with its finding (R120, R124, R490): cause 0 detector, 1 first power-up, 2 wrap. -/
def latchTimeLost (cause : Nat) (s : State) : State :=
  checkToken (logFault 0x72 2 (whr 4 0 0) (w32 cause) 0#32 { s with time.timeLost := true })

/-- The trim in 0.01 ppm at a temperature: interpolated, end values held, plus the learned offset (R131). -/
def trimAt (curve : List (Int × Int)) (temp learned : Int) : Int :=
  let rec go : List (Int × Int) → Int
    | [] => 0
    | [(_, p)] => p
    | (t0, p0) :: (t1, p1) :: r =>
      if temp ≤ t0 then p0
      else if temp < t1 then p0 + (p1 - p0) * (temp - t0) / (t1 - t0)
      else go ((t1, p1) :: r)
  go curve + learned

/-- One SLOW tick of XS in ps (R124, R125). -/
def tickPs : Int := 30517578

/-- The trim's phase grows by the correction in use, 10 ns a second for each 0.01 ppm; the whole ticks owed are added or dropped
at the second, so less than one stays owed (R131). -/
def applyTrim (s : State) : State :=
  if s.cal.halted then s
  else
    let owed := s.cal.trimPhase + 10000 * s.cal.trim
    let n := owed.tdiv tickPs
    { s with
      cal.trimPhase := owed.tmod tickPs
      cal.subsec := s.cal.subsec + n.toNat
      cal.secondAt := s.cal.secondAt + (-n).toNat * 30517578 / 1000 }

/-- A learning interval begins at the temperature of now (R131). -/
def learnAnew (s : State) : State := { s with cal.learnAt := s.now, cal.learnLo := s.cal.temp, cal.learnHi := s.cal.temp }

/-- The temperature bounds of the learning interval take the temperature of now; one that leaves ±1 K begins it anew (R131). -/
def learnTemp (s : State) : State :=
  let lo := min s.cal.learnLo s.cal.temp
  let hi := max s.cal.learnHi s.cal.temp
  if hi - lo ≤ 2 then { s with cal.learnLo := lo, cal.learnHi := hi } else learnAnew s

/-- The temperature is read every second in RUN and SLUMBER, every minute in BACKUP (R131). -/
def readTemp (temp : Int) (s : State) : State :=
  if s.power.state = .run ∨ s.power.state = .slumber ∨ s.cal.second = 0 then
    learnTemp { s with cal.temp := temp, cal.trim := trimAt s.cal.curve temp s.cal.learned } else s

/-- In RUN and SLUMBER the calendar is compared with the timebase; a difference above one tick, 30,517.578 ns, reloads it at the
next whole second (R125). -/
def compareCal (s : State) : State :=
  if (s.power.state = .run ∨ s.power.state = .slumber) ∧ s.time.taiLoaded
      ∧ 30517 < (((calTai s : Nat) : Int) - s.time.tai).natAbs then { s with cal.reload := true } else s

/-- VRTC_LOW: VRTC below 2.2 V in RUN (R123). DESIGN CHOICE: the spec says when the flag is set and not when it clears; it clears
at a whole second in RUN with VRTC at 2.2 V or more (log entry 47). -/
def checkVrtc (s : State) : State :=
  if s.power.state = .run then
    if s.power.vrtcMv < 2200 ∧ !s.cal.vrtcLow then
      logFault 0x73 0 (whr 4 0 0) (w32 s.power.vrtcMv) 0#32 { s with cal.vrtcLow := true }
    else { s with cal.vrtcLow := decide (s.power.vrtcMv < 2200) }
  else s

/-- The value of a CAL_SET takes effect: TAI steps to match, TIME_LOST clears, MONO is untouched (R120, R128). -/
def loadCal (y m d h mi sec : Nat) (s : State) : State :=
  let s1 := { setCal y m d h mi sec s with cal.halted := false, cal.reload := false, time.timeLost := false }
  stepBy ((calTai s1 : Int) - s1.time.tai) s1

/-- CAL_SET's echo (R133). -/
def calEcho (mode y m d h mi sec : Nat) (step : Int) : Bytes :=
  leBytes 1 mode ++ zeros 1 ++ leBytes 2 y ++ leBytes 1 m ++ leBytes 1 d ++ leBytes 1 h ++ leBytes 1 mi ++ leBytes 1 sec
    ++ zeros 3 ++ leInt 8 step

/-- A waiting NEXT_SECOND takes effect, and its request is answered (R128, R133). -/
def loadNext (c : CalNext) (s : State) : State :=
  let s1 := loadCal c.year c.month c.day c.hour c.minute c.second s
  finishWid c.wid DONE (calEcho 0 c.year c.month c.day c.hour c.minute c.second s1.time.lastStep) s1

/-- TAI−UTC or the leap that the source in use announces differs from a loaded table (R127). DEDUCED: with no table loaded there
is none to differ from. -/
def leapDisagrees (s : State) : Bool :=
  let day := calDay s
  s.cal.leapLoaded && ((ptpLocked s && decide (s.time.ptpUtc.getD (tableOffset s day) ≠ tableOffset s day))
    || ((ptpLocked s || irigAnnounces s) && decide (leapToday s ≠ tableLeap s day)))

/-- A disagreement that begins raises LEAP_MISMATCH; the table is left as it is (R127, R490). -/
def noteLeap (old s : State) : State :=
  if leapDisagrees s && !leapDisagrees old then
    logFault 0x35 0 (whr 4 0 0) (BitVec.ofInt 32 (utcOffset s (calDay s))) (BitVec.ofInt 32 (tableOffset s (calDay s))) s
  else s

/-- The count goes on by one second; a day that ends with a leap which IEEE 1344 announced against the table changes TAI−UTC,
and the leap it announced is past (R124, R127). -/
def countSecond (s : State) : State :=
  let (s1, wrapped) := nextSecond s
  let s2 := if irigAnnounces s && decide (calDay s1 ≠ calDay s) then
    { s1 with cal.leapAdj := s.cal.leapAdj + (leapToday s - tableLeap s (calDay s)), time.leap61 := false } else s1
  if wrapped then latchTimeLost 2 s2 else s2

/-- CALENDAR_SECOND: a whole second of the always-on domain: what waits for it takes effect, else the count goes on unless it is
halted (R91, R124-R131). -/
def calendarSecond (temp : Int) (s : State) : State :=
  if !s.power.vaonGood then s
  else
    let s1 : State :=
      if !s.cal.next.isEmpty then s.cal.next.foldl (fun s c => loadNext c s) { s with cal.next := [] }
      else if s.cal.halted then s
      else if s.cal.reload then reloadCal s
      else countSecond s
    noteLeap s (checkVrtc (compareCal (applyTrim (readTemp temp (slowSwitch s1)))))

/-- CALENDAR_SECOND. -/
def execCalendarSecond (t : Nat) (temp : Int) (s : State) : Result State := .next (calendarSecond temp (advance t s))

/-- TRIM_LEARN_INTERVAL: 10 min with AUTO and a LOCKED source in which the temperature stayed within ±1 K move the learned offset
toward the residual, by an amount the spec leaves open, within ±30.00 ppm (R131; log entry 5). -/
def execTrimLearnInterval (t : Nat) (residual : Int) (s : State) : Result State :=
  let s := advance t s
  .next (if s.cal.auto && decide (s.time.state = 2) && passed s.now s.cal.learnAt (600 * 10 ^ 9) then
      let (f, s1) := draw s
      let learned := s.cal.learned + (residual - s.cal.learned) * (f.toNat : Int) / (2 ^ 32 : Int)
      learnAnew { s1 with cal.learned := clampI (-3000) 3000 learned }
    else s)

/-- A halt ends without a value: the finding, and a reload from TAI (R129). -/
def endHalt (s : State) : State :=
  logFault 0x34 0 (whr 4 0 0) 0#32 0#32 { s with cal.halted := false, cal.reload := true }

/-- CAL_HALT_TIMEOUT: a halt of 10 s ends and the calendar reloads at the next whole second (R129). -/
def execCalHaltTimeout (t : Nat) (s : State) : Result State :=
  let s := advance t s
  .next (if s.cal.halted && passed s.now s.cal.haltAt (10 ^ 10) then endHalt s else s)

/-- HOLDUP entry ends a halt in the same way, before the logic rails go off; no whole second may come in that time, so the reload
takes place at once (R129; log entry 47). -/
def holdupCal (s : State) : State :=
  let s1 := { s with cal.next := [] }
  if s.cal.halted then reloadCal (endHalt s1) else if s.cal.reload then reloadCal s1 else s1

/-- CAL_GET's answer (R132). -/
def calGet (_w : Work) (s : State) : Reply × State :=
  let flags := bit s.time.timeLost + 2 * bit s.cal.halted + 4 * bit (leapToday s ≠ 0) + 8 * bit s.cal.vrtcLow
    + 16 * bit s.clk.slowRc
  (.done DONE (leBytes 2 s.cal.year ++ leBytes 1 s.cal.month ++ leBytes 1 s.cal.day ++ leBytes 1 s.cal.hour
    ++ leBytes 1 s.cal.minute ++ leBytes 1 s.cal.second ++ leBytes 1 (weekday (calDay s)) ++ leBytes 2 (subsecNow s)
    ++ leInt 2 (utcOffset s (calDay s)) ++ leBytes 1 flags ++ [quality s] ++ leInt 1 s.cal.temp ++ zeros 1
    ++ leBytes 8 (calTai s) ++ leInt 2 s.cal.trim ++ leInt 2 s.cal.learned ++ leBytes 2 s.power.vrtcMv ++ zeros 2), s)

/-- CAL_GET (R132). -/
def execCalGet (t : Nat) (mb : Fin 8) (s : State) : Result State := .next (runCommand t mb 0x0205 calGet s)

/-- The largest SECOND at a minute: 60 or 58 at the end of a day with a leap entry (R130). -/
def maxSecond (s : State) (y m d h mi : Nat) : Nat :=
  if h = 23 ∧ mi = 59 then
    match s.cal.leaps.find? fun e => e.1 = dayNumber y m d with
    | some (_, x) => if x = 1 then 60 else 58
    | none => 59
  else 59

/-- CAL_SET's effect and answer (R128-R130, R133). DESIGN CHOICE: a NEXT_SECOND that waits stays in line behind HALT, RUN_NOW and a
further NEXT_SECOND, so that each is answered; a HALT in a halt leaves the 10 s of R129 running; above 60, SECOND becomes 59
where 60 is allowed (log entry 47). -/
def calSet (w : Work) (s : State) : Reply × State :=
  let p := w.payload
  let mode := if 2 < field p 0 1 0 then 0 else field p 0 1 0
  let y := clamp 2000 2399 (field p 2 2 2000)
  let m := clamp 1 12 (field p 4 1 1)
  let d := clamp 1 (monthLen y m) (field p 5 1 1)
  let h := min 23 (field p 6 1 0)
  let mi := min 59 (field p 7 1 0)
  let sec := let v := field p 8 1 0
    if v = 60 then min 60 (maxSecond s y m d h mi) else min v (min 59 (maxSecond s y m d h mi))
  let effect : Reply × State :=
    match mode with
    | 1 => (.done DONE (calEcho 1 y m d h mi sec 0),
        { s with cal.halted := true, cal.haltAt := if s.cal.halted then s.cal.haltAt else s.now, cal.subsec := subsecNow s })
    | 2 => let s1 := loadCal y m d h mi sec s
        (.done DONE (calEcho 2 y m d h mi sec s1.time.lastStep), s1)
    | _ => (.later, { s with cal.next := s.cal.next ++
        [{ year := y, month := m, day := d, hour := h, minute := mi, second := sec, wid := w.wid }] })
  checked [(decide (s.time.state = 2) || isStation s || inHoldup s, WRONG_STATE)] effect s

/-- CAL_SET (R133). -/
def execCalSet (t : Nat) (mb : Fin 8) (s : State) : Result State := .next (runCommand t mb 0x0206 calSet s)

/-- Points of a trim curve in a payload (R134). -/
def curvePoints (p : Bytes) : Nat → Nat → List (Int × Int)
  | 0, _ => []
  | n + 1, off =>
    (toSigned 8 (leNat (slice p off 1)), clampI (-20000) 20000 (toSigned 16 (leNat (slice p (off + 2) 2))))
      :: curvePoints p n (off + 4)

/-- Temperatures strictly ascending (R134). -/
def ascending : List (Int × Int) → Bool
  | (a, _) :: (b, q) :: r => decide (a < b) && ascending ((b, q) :: r)
  | _ => true

/-- CAL_TRIM_CURVE's effect and answer (R134): POINTS wholly covered are taken, none covered is the default curve. -/
def calTrimCurve (w : Work) (s : State) : Reply × State :=
  let p := w.payload
  let flags := if 1 ≤ p.length then leNat (slice p 0 1) else 1
  let query := decide (flags / 128 % 2 = 1)
  let covered := decide (68 ≤ p.length)
  let curve := if covered then curvePoints p 16 4 else defaultCurve
  let echo (st : State) (f : Nat) : Bytes :=
    leBytes 1 f ++ zeros 3 ++ st.cal.curve.flatMap fun q => leInt 1 q.1 ++ zeros 1 ++ leInt 2 q.2
  let s1 := { s with
    cal.curve := curve
    cal.auto := decide (flags % 2 = 1)
    cal.learned := if flags / 2 % 2 = 1 then 0 else s.cal.learned }
  if query then (.done DONE (echo s (bit s.cal.auto + 128)), s)
  else checked [(!ascending curve, CHECK_FAILED), (inHoldup s, WRONG_STATE)]
    (.done DONE (echo s1 (flags % 4)), s1) s

/-- CAL_TRIM_CURVE (R134). -/
def execCalTrimCurve (t : Nat) (mb : Fin 8) (s : State) : Result State := .next (runCommand t mb 0x0207 calTrimCurve s)

/-- The charger's least and greatest current limit of a mode in µA (R122). -/
def chargeLimit : Nat → Nat × Nat
  | 1 => (80, 120) | 2 => (800, 1200) | _ => (0, 0)

/-- BACKUP_CFG's effect and answer; the charge current and its limit flag are measured, so free values within the mode's current
limit, and 0 while the charger is OFF (R122, R123, R135; log entry 5). -/
def backupCfg (w : Work) (s : State) : Reply × State :=
  let m := if 2 < field w.payload 0 1 0 then 0 else field w.payload 0 1 0
  let (f, s0) := draw s
  let ua := f.toNat % ((chargeLimit m).2 + 1)
  let lim := decide (m ≠ 0 ∧ (chargeLimit m).1 ≤ ua) && f.getLsbD 31
  let s1 := { s0 with cal.backupMode := m, cal.backupSet := true }
  checked [(inHoldup s, WRONG_STATE)]
    (.done DONE (leBytes 1 m ++ zeros 1 ++ leBytes 2 s.power.vrtcMv ++ leBytes 2 ua
      ++ leBytes 1 (bit s.cal.vrtcLow + 2 * bit lim) ++ zeros 1), s1) s

/-- BACKUP_CFG (R135). -/
def execBackupCfg (t : Nat) (mb : Fin 8) (s : State) : Result State := .next (runCommand t mb 0x0208 backupCfg s)

/-- Leap entries of a payload: day, DELTA as its sign (R136). -/
def leapEntries (p : Bytes) : Nat → Nat → List (Nat × Int)
  | 0, _ => []
  | n + 1, off =>
    (leNat (slice p off 4), Int.sign (toSigned 8 (leNat (slice p (off + 4) 1)))) :: leapEntries p n (off + 8)

/-- The days of the entries ascend. -/
def daysAscend : List (Nat × Int) → Bool
  | (a, _) :: (b, q) :: r => decide (a < b) && daysAscend ((b, q) :: r)
  | _ => true

/-- A day is the last of its month. -/
def lastOfMonth (n : Nat) : Bool :=
  let (y, m, d) := dateOf n
  decide (d = monthLen y m)

/-- LEAP_TABLE_SET's effect and answer: the table is replaced as a whole and kept under key 0xFF01 (R126, R136). DESIGN CHOICE:
the spec gives that record no layout; it holds BASE_OFFSET, COUNT, 4 zero bytes and the entries as sent (log entry 47). -/
def leapTableSet (w : Work) (s : State) : Reply × State :=
  let p := w.payload
  let base := clampI 0 127 (fieldS p 0 2 32)
  let n := min (min 64 (field p 2 2 0)) ((p.length - 8) / 8)
  let es := leapEntries p n 8
  let s1 := { s with cal.baseOffset := base, cal.leaps := es, cal.leapLoaded := true, cal.leapAdj := 0 }
  let s2 := placeRec 0xFF01 (newRec s 0xFF01 false false (leInt 2 base ++ leBytes 2 n ++ zeros 4 ++ (p.drop 8).take (8 * n))) s1
  checked
    [(es.any (fun e => e.2 = 0) || !daysAscend es || es.any (fun e => !lastOfMonth e.1), CHECK_FAILED),
     (inHoldup s, WRONG_STATE)]
    (.done DONE (leInt 2 base ++ leBytes 2 n ++ leInt 2 (utcOffset s2 (calDay s2)) ++ zeros 2), noteLeap s s2) s

/-- LEAP_TABLE_SET (R136). -/
def execLeapTableSet (t : Nat) (mb : Fin 8) (s : State) : Result State := .next (runCommand t mb 0x0209 leapTableSet s)

end Sys2Proof.Machine
end

