-- ==== Sys2Proof/Machine/Clock.lean ====
section
/-! DEFINITION. Clock sources, switching and monitors, the time sources, the event controller's stamps, and their commands
(R84-R117, R578). -/

namespace Sys2Proof.Machine

/-! ### Links and failures of a clock -/

/-- The bit of a source in READY and FAIL; Tally's clock has none (R114). -/
def srcBit : ClkSrc → Nat
  | .rcSlow => 0 | .rcFast => 1 | .xs => 2 | .xm => 3 | .pllSys => 4 | .pllNet => 5 | .tally => 6

/-- READY of a source. -/
def clkReady (s : State) (n : Nat) : Bool := s.clk.ready.getLsbD n

/-- A bit of READY is set or cleared. -/
def setReady (n : Nat) (v : Bool) (s : State) : State :=
  { s with clk.ready := if v then s.clk.ready ||| (1#6 <<< n) else s.clk.ready &&& ~~~(1#6 <<< n) }

/-- FAIL of a source is set (R114). -/
def setFail (n : Nat) (s : State) : State := { s with clk.fail := s.clk.fail ||| (1#6 <<< n) }

/-- Every GOOSE subscription's inputs become STALE (R96, R351). -/
def gooseAllStale (s : State) : State :=
  let s1 := { s with net.subs := s.net.subs.mapVal {} fun _ g => { g with stale := true } }
  (List.range 128).foldl (fun s k => (subPoints s k).foldl (fun s a => setQ a 2#4 s) s) s1

/-- Both network ports, the ring and the partner link go down; link changes of NET0 and NET1 are events (R94, R96, R106). -/
def linksDown (s : State) : State :=
  let was := s.net.link
  let s1 := gooseAllStale { s with
    clk.pllNetLinks := (s.pair.lanes ++ s.ring.link ++ s.net.link)
    net.link := 0#2
    ring.link := 0#2
    pair.lanes := 0#2, pair.known := false }
  let s2 := if was.getLsbD 0 then raiseNow 82 1 0#32 s1 else s1
  let s3 := if was.getLsbD 1 then raiseNow 83 1 0#32 s2 else s2
  if isStation s3 then { s3 with ring.stState := 0, ring.ctl := [] } else s3

/-- PLL_NET stops: its READY falls and the links go down (R89, R94). -/
def pllNetStops (s : State) : State := linksDown (setReady 5 false s)

/-- Class of a clock finding: disqualifying in a pair, whose partner link is lost (R96). -/
def linkClass (s : State) : Nat := if inPair s then 3 else 2

/-- A failure that takes the partner link is disqualifying in a pair (R96). -/
def linkFails (s : State) : State := if inPair s then disqualify 0x30 s else s

/-- An XM failure: SYS_REF is RC_FAST, XM_FAIL stands, PLL_NET stops and the links go down (R94, R96). -/
def xmFailure (s : State) : State :=
  let s1 := setFail 3 (setReady 3 false { s with clk.sysRefRc := true, clk.xmFail := true, clk.pllNetAt := none })
  linkFails (pllNetStops (logFault 0x30 (linkClass s1) (whr 4 0 0) 3#32 0#32 s1))

/-- An XS failure: SLOW is RC_SLOW and XS_FAIL stands (R93, R94). -/
def xsFailure (s : State) : State :=
  let s1 := setFail 2 (setReady 2 false (setSlow true { s with clk.xsFail := true, clk.monitorSwitched := true }))
  logFault 0x30 2 (whr 4 0 0) 2#32 0#32 s1

/-! ### Ready flags -/

/-- A time has passed since a source was enabled. -/
def sinceEnabled (s : State) (n ns : Nat) : Bool := passed s.now (s.clk.since.get 0 n) ns

/-- The reference of PLL_SYS is READY (R90). -/
def refReady (s : State) : Bool := if s.clk.sysRefRc then clkReady s 1 else clkReady s 3

/-- The condition of READY of a source in the state it is in (R84, R89): a PLL has had its reference for the 10 µs of its lock;
the good cycles that XS and XM need besides are what the command says. -/
def mayReady (s : State) (src : ClkSrc) : Bool :=
  match src with
  | .rcSlow => s.power.vaonGood && sinceEnabled s 0 (10 ^ 6)
  | .rcFast => inRun s && sinceEnabled s 1 20000
  | .xs => s.power.vaonGood && sinceEnabled s 2 (s.bcr.xsStart * 10 ^ 8)
  | .xm => inRun s && sinceEnabled s 3 (s.bcr.xmStart * 500000)
  | .pllSys => inRun s && refReady s && sinceEnabled s 4 10000
  | .pllNet => inRun s && !s.clk.sysRefRc && clkReady s 3 && sinceEnabled s 5 10000
  | .tally => false

/-- CLOCK_READY: READY is set; SLOW switches to XS when XS first becomes READY after power-up, the PLLs lock on an XM that becomes
READY, and with PLL_SYS a wake completes (R65, R68, R89, R92). A recovered XM that failed becomes READY too, and CLK_SWITCH may
then take it (R91, R92). -/
def clockReady (src : ClkSrc) (s : State) : State :=
  if !mayReady s src then s
  else
    let s1 := setReady (srcBit src) true s
    match src with
    | .xs =>
      let s2 := { s1 with clk.xsWasReady := true }
      if s.clk.xsWasReady ∨ s.clk.monitorSwitched then s2 else setSlow false s2
    | .xm => if s.clk.sysRefRc ∨ clkReady s 3 then s1 else enableClocks [4, 5] s1
    | .pllSys => wakeDone s1
    | _ => s1

/-- CLOCK_READY. -/
def execClockReady (t : Nat) (src : ClkSrc) (s : State) : Result State := .next (clockReady src (advance t s))

/-- XM_START_TIMEOUT: XM not READY within 4 × XM_START is an XM failure (R93). -/
def execXmStartTimeout (t : Nat) (s : State) : Result State :=
  let s := advance t s
  .next (if inRun s && !clkReady s 3 && !s.clk.xmFail && sinceEnabled s 3 (4 * s.bcr.xmStart * 500000)
    then xmFailure s else s)

/-- XS_START_TIMEOUT: XS not READY within 2 × XS_START is an XS failure (R93). -/
def execXsStartTimeout (t : Nat) (s : State) : Result State :=
  let s := advance t s
  .next (if s.power.vaonGood && !clkReady s 2 && !s.clk.xsFail && sinceEnabled s 2 (2 * s.bcr.xsStart * 10 ^ 8)
    then xsFailure s else s)

/-! ### Monitors (R94) -/

/-- PLL_NET loses lock: the links go down, and it is restarted once (R94, R96). DESIGN CHOICE: 'as for XM' takes the stop of
PLL_NET, the finding and the links, not XM_FAIL, which is XM's own flag; and 'restarted once' counts once for each start, not
for each trip (log entry 46). -/
def pllNetTrip (s : State) : State :=
  let s1 := logFault 0x30 (linkClass s) (whr 4 0 0) 5#32 0#32 (setFail 5 s)
  let s2 := linkFails (pllNetStops s1)
  if s.clk.pllNetRestarted then { s2 with clk.pllNetAt := none }
  else { s2 with clk.pllNetRestarted := true, clk.pllNetAt := some s.now }

/-- RC_FAST out of tolerance: in service a finding, with the monitors that depend on it disabled; at start-up the module is
held in reset (R94). -/
def rcFastTrip (s : State) : State :=
  let s1 := setFail 1 (setReady 1 false s)
  if s.power.service = .booting then
    { s1 with clk.rcHold := true, power.service := .resetHeld, power.pwrGood := false }
  else logFault 0x30 2 (whr 4 0 0) 1#32 0#32 { s1 with clk.monitorsOff := true }

/-- CLOCK_MONITOR_TRIP: the outcome of the monitor of a source; monitors that need RC_FAST or XM stand down in SLUMBER, and
those that depend on a failed RC_FAST are off (R94-R96). -/
def clockMonitorTrip (src : ClkSrc) (s : State) : State :=
  match src with
  | .xs => if s.power.state ≠ .off && clkReady s 2 then xsFailure s else s
  | .rcSlow => s
  | .rcFast => if inRun s then rcFastTrip s else s
  | .xm => if inRun s && !s.clk.monitorsOff && clkReady s 3 then xmFailure s else s
  | .pllSys =>
    if inRun s && clkReady s 4 then
      moduleFailure 0x30 (logFault 0x30 3 (whr 4 0 0) 4#32 0#32 (setFail 4 (setReady 4 false s)))
    else s
  | .pllNet => if inRun s && clkReady s 5 then pllNetTrip s else s
  | .tally =>
    if inRun s && s.sup.tallyOn && !s.clk.monitorsOff then
      tallyTrip (requiredMask s &&& ~~~s.sup.satisfied) 1 s.sup.stewardOk s
    else s

/-- CLOCK_MONITOR_TRIP. -/
def execClockMonitorTrip (t : Nat) (src : ClkSrc) (s : State) : Result State :=
  .next (clockMonitorTrip src (advance t s))

/-- PLL_NET_RELOCK: within 10 ms of its single restart the lock brings the links back (R94). -/
def pllNetRelock (locked : Bool) (s : State) : State :=
  match s.clk.pllNetAt with
  | some a =>
    if locked && decide (s.now ≤ a + 10 ^ 7) then
      let m := s.clk.pllNetLinks
      let s1 := setReady 5 true { s with
        clk.pllNetAt := none
        net.link := m.extractLsb' 0 2
        ring.link := m.extractLsb' 2 2
        pair.lanes := m.extractLsb' 4 2 }
      let s2 := if m.getLsbD 0 then raiseNow 82 0 0#32 s1 else s1
      if m.getLsbD 1 then raiseNow 83 0 0#32 s2 else s2
    else { s with clk.pllNetAt := none }
  | none => s

/-- PLL_NET_RELOCK. -/
def execPllNetRelock (t : Nat) (locked : Bool) (s : State) : Result State :=
  let s := advance t s
  .next (if inRun s then pllNetRelock locked s else s)

/-- RC_FAST_RETRY: every second the PMU tries again; with RC_FAST in tolerance start-up goes on (R94). -/
def execRcFastRetry (t : Nat) (inTolerance : Bool) (s : State) : Result State :=
  let s := advance t s
  .next (if s.clk.rcHold && inTolerance then
      setReady 1 true { s with clk.rcHold := false, power.service := if s.power.resetLow then .resetHeld else .booting }
    else s)

/-! ### Switching -/

/-- A pending switch of SYS_REF takes effect; one back to XM clears XM_FAIL (R91, R94, R115). -/
def refSwitch (s : State) : State :=
  match s.clk.switch with
  | some (0, target) =>
    let s1 := { s with clk.switch := none }
    if target = 0 then { enableClocks [5] s1 with clk.sysRefRc := false, clk.xmFail := false }
    else if s.clk.sysRefRc then s1 else pllNetStops { s1 with clk.sysRefRc := true }
  | _ => s

/-- CLOCK_SWITCH_APPLY: a switch of SYS_REF applies at a BASE boundary, one of SLOW at a whole second of the calendar (R91). -/
def clockSwitchApply (s : State) : State :=
  let s1 := if boundary s then refSwitch s else s
  if atWholeSecond s1 then slowSwitch s1 else s1

/-- CLOCK_SWITCH_APPLY. -/
def execClockSwitchApply (t : Nat) (s : State) : Result State := .next (clockSwitchApply (advance t s))

/-- Worst-case BASE cycle of the partition in use for a profile (R49, R79). -/
def worstBase (s : State) (profile : Nat) : Nat :=
  match taskDecl s 0 with
  | some d => d.worstUs.getD profile 0
  | none => 0

/-- SYS_PROFILE_SET's answer (R79). -/
def profileReply (s : State) (p : Nat) : Bytes :=
  leBytes 1 p ++ zeros 3 ++ leBytes 4 (worstBase s p) ++ leBytes 8 s.scan.scan

/-- PROFILE_CHANGE_APPLY: at the BASE boundary the waiting profile changes apply in order, each is answered, and task release
is held while PLL_SYS settles (R49, R79, R85). -/
def profileChangeApply (s : State) : State :=
  if !boundary s then s
  else
    let waiting := s.scan.bnd.filterMap fun b => match b with
      | .profile p wid => some (p, wid)
      | _ => none
    let s1 := { s with scan.bnd := s.scan.bnd.filter fun b => match b with
      | .profile _ _ => false
      | _ => true }
    waiting.foldl (fun s c =>
      let s2 := { s with power.profile := c.1, power.releaseHold := true, power.holdSince := s.time.mono }
      finishWid c.2 DONE (profileReply s2 c.1) s2) s1

/-- PROFILE_CHANGE_APPLY. -/
def execProfileChangeApply (t : Nat) (s : State) : Result State := .next (profileChangeApply (advance t s))

/-- The held time leaves the cycle time of every task whose cycle stood in the hold (R85). -/
def excuseHold (s : State) : State :=
  { s with scan.tasks := s.scan.tasks.mapVal {} fun _ r =>
      if r.state = .idle then r
      else { r with releasedAt := r.releasedAt + (s.time.mono - max r.releasedAt s.power.holdSince) } }

/-- PLL_SYS_SETTLED: the hold ends, and the releases that fell within it follow (R85). -/
def execPllSysSettled (t : Nat) (s : State) : Result State :=
  let s := advance t s
  .next (if s.power.releaseHold then
      s.power.heldReleases.foldl (fun s n => releaseOwn n {} s)
        { excuseHold s with power.releaseHold := false, power.heldReleases := [] }
    else s)

/-! ### Stamps (R106-R110) -/

/-- A record enters the FIFO, releases the event tasks bound to it and wakes the module where its source is enabled (R69,
R110, R111, R150). -/
def deliver (r : EvRec) (s : State) : State :=
  let s1 := triggerTasks { r with seq := s.ev.seqNext } (enterRecord r s)
  if s.power.wakeEv.getLsbD r.source then wakeBy (.event r.source) s1 else s1

/-- A stamp taken now; in early service with 1 µs resolution, its flag and the FREE quality (R107, R109). -/
def stampNow (src kind : Nat) (data : Word) (s : State) : EvRec :=
  if serving s && !fullService s then
    { tai := s.time.tai / 1000 * 1000, source := src, kind := kind, data := data, flags := 4#8
      quality := if s.time.timeLost then 0x7F#8 else freeQuality s ||| crystalFailed s }
  else eventNow src kind data s

/-- The first waiting record of a source, and the inbox without it. -/
def takeWaiting (src : Nat) : List EvRec → Option (EvRec × List EvRec)
  | [] => none
  | r :: rest =>
    if r.source = src then some (r, rest)
    else (takeWaiting src rest).map fun p => (p.1, r :: p.2)

/-- Time to the next XS tick, counted from the last whole second of the calendar (R107). -/
def nextTick (s : State) : Nat :=
  let d := (s.now - s.cal.secondAt) * 1000
  (d + 30517577) / 30517578 * 30517578 / 1000 - (s.now - s.cal.secondAt)

/-- A free interpolator of a group: at most 4, each busy for at most 61.04 µs (R108). -/
def interpFree (s : State) (g : Nat) : Bool :=
  decide ((s.ev.interp.filter fun e => e.group = g && decide (s.now < e.at0 + 61036)).length < 4)

/-- An edge in SLUMBER starts an interpolator (R108). -/
def startInterp (g src kind : Nat) (data : Word) (s : State) : State :=
  { s with ev.interp := (s.ev.interp.filter fun e => e.group ≠ g || decide (s.now < e.at0 + 61036))
      ++ [{ group := g, source := src, kind := kind, data := data, at0 := s.now }] }

/-- An edge of the source can come from outside the model's own records: EV064-EV087; the records of EV096-EV127 wait already, and
EV088-EV095 have none (R106). -/
def canRaise (src : Nat) : Bool := decide (64 ≤ src ∧ src < 88)

/-- The waiting records that enter before one of EV096-EV127: those with its stamp and a lower source among them (R265). -/
def earlierPeers (r : EvRec) (inbox : List EvRec) : List EvRec :=
  (inbox.filter fun x => decide (96 ≤ x.source ∧ x.source < r.source ∧ x.tai = r.tai)).insertionSort fun a b => a.source ≤ b.source

/-- An edge of the always-on domain in SLUMBER: an interpolator times it, or with none free it is stamped at the next tick; an
enabled source wakes the module (R69, R107, R108). -/
def sleepEdge (src kind : Nat) (data : Word) (s : State) : State :=
  let s1 := if interpFree s 4 then startInterp 4 src kind data s
    else
      let r := eventNow src kind data s
      enterRecord { r with tai := r.tai + nextTick s, flags := 2#8 } s
  if s.power.wakeEv.getLsbD src then wakeBy (.event src) s1 else s1

/-- EVENT_STAMP: the first waiting record of the source enters the FIFO, after those of its publish with lower sources; an edge of
another origin is stamped now, or in SLUMBER by the always-on domain (R107, R108, R110, R265; log entry 9). -/
def eventStamp (src kind : Nat) (data : Word) (s : State) : State :=
  let live := serving s || decide (s.power.state = .slumber)
  match takeWaiting src s.ev.inbox with
  | some (r, rest) =>
    if live then
      let first := earlierPeers r rest
      deliver r (first.foldl (fun s x => deliver x s) { s with ev.inbox := rest.filter fun x => !first.contains x })
    else s
  | none =>
    if !live || !canRaise src then s
    else if s.power.state = .slumber ∧ src < 82 then sleepEdge src kind data s
    else deliver (stampNow src kind data s) s

/-- EVENT_STAMP. -/
def execEventStamp (t : Nat) (src : Fin 128) (kind : Nat) (data : Word) (s : State) : Result State :=
  .next (eventStamp src kind data (advance t s))

/-- The edge time of an interpolator: tick − N1 / N2 × 30,517.578 ns (R108). -/
def interpTime (n1 n2 tick : Nat) : Nat := tick - n1 * 30517578 / (1000 * n2)

/-- INTERPOLATOR_DONE: the oldest edge of the group gets its time: a channel's candidate, a panel input's, or a record
of the always-on domain (R108). -/
def interpolatorDone (g n1 n2 tick : Nat) (s : State) : State :=
  match s.ev.interp.find? fun e => e.group = g with
  | none => s
  | some e =>
    let s1 := { s with ev.interp := s.ev.interp.erase e }
    let at1 := interpTime n1 n2 tick
    if g < 4 then
      let c := s1.chan e.source
      if c.cand.isSome then s1.setChan e.source { c with cand := some at1, candFlags := 1#8 } else s1
    else if 128 ≤ e.source then
      let k := s1.panel.keys.get {} (e.source - 128)
      match k.cand with
      | some (st, _) =>
        { s1 with panel.keys := s1.panel.keys.set {} (e.source - 128) { k with cand := some (st, s.now + at1 - s.time.tai) } }
      | none => s1
    else deliver { tai := at1, source := e.source, kind := e.kind, data := e.data, quality := quality s1, flags := 1#8 } s1

/-- INTERPOLATOR_DONE. -/
def execInterpolatorDone (t : Nat) (group : Fin 5) (n1 n2 tickTai : Nat) (s : State) : Result State :=
  .next (interpolatorDone group n1 n2 tickTai (advance t s))

/-! ### Time sources (R99-R105, R127) -/

/-- A source's acquisition. -/
def timeSrc (s : State) (k : Nat) : TimeSrc := s.time.src.get {} k

/-- A source's acquisition is replaced. -/
def setTimeSrc (k : Nat) (v : TimeSrc) (s : State) : State := { s with time.src := s.time.src.set {} k v }

/-- A source has had a valid measurement within 3 s (R99). -/
def measuring (s : State) (k : Nat) : Bool := decide (timeSrc s k ≠ {}) && decide (s.now < (timeSrc s k).last + 3 * 10 ^ 9)

/-- The timebase's state changes, with the event EV084; a lock begins a learning interval, and FREE and ACQUIRING hold PPS_OUT
low (R104, R106, R131). -/
def setTimeState (st active : Nat) (s : State) : State :=
  if s.time.state = st ∧ s.time.active = active then s
  else
    let s1 := { s with
      time.state := st, time.active := active
      time.ppsHighUntil := if st = 2 ∨ st = 3 then s.time.ppsHighUntil else none }
    raiseNow 84 6 (w32 st) (if st = 2 ∧ s.time.state ≠ 2 then learnAnew s1 else s1)

/-- The source in use is lost and no other is LOCKED: holdover begins, at the last disciplined rate (R105, R112). -/
def loseLock (s : State) : State :=
  setTimeState 3 0 { s with time.qualityBefore := quality0 s, time.lostAt := s.now, time.setAt := s.time.tai }

/-- The first source of the list that is LOCKED is used; with none the timebase holds over, and in FREE it acquires (R99,
R105). -/
def reselect (s : State) : State :=
  match s.time.list.find? fun k => k ≠ 0 && (timeSrc s k).locked with
  | some k =>
    let s1 := setTimeState 2 k s
    { s1 with time.setAt := s1.time.tai }
  | none =>
    if s.time.state = 2 then loseLock s
    else if s.time.state = 0 ∧ s.time.list.any (measuring s) then setTimeState 1 0 s
    else if s.time.state = 1 ∧ !s.time.list.any (measuring s) then setTimeState 0 0 s
    else s

/-- The source whose measurements correct the timebase: the one in use, none in holdover, which keeps the last disciplined rate,
and before a lock the first listed that measures (R99, R105). -/
def steers (s : State) (k : Nat) : Bool :=
  if s.time.state = 2 then decide (s.time.active = k)
  else decide (s.time.state ≠ 3) && decide (s.time.list.find? (measuring s) = some k)

/-- The rate correction that a measurement asks for, within the ±5 % of R94 beyond which a clock has failed (R97; log entry
46). -/
def rateOf (ppb : Int) : Int := clampI (-50000000) 50000000 ppb

/-- The timebase is corrected by a measured offset, the module's time less the source's: its rate is disciplined, and its phase
slewed up to STEP_THRESH_US and stepped beyond it (R97). The spec gives the discipline no rule: the rate comes with the
measurement. -/
def correct (offset ppb : Int) (s : State) : State :=
  if offset.natAbs ≤ 1000 * s.time.stepUs then { s with time.slew := -offset, time.freqPpb := rateOf ppb }
  else stepBy (-offset) { s with time.freqPpb := rateOf ppb }

/-- A valid measurement of a source: LOCKED after 10 consecutive offsets within ±250 ns, lost after 3 consecutive beyond
±10 µs (R99). TIME_LOST clears as PTP becomes LOCKED, whatever its place in the list (R120). -/
def takeOffset (k : Nat) (offset ppb : Int) (s : State) : State :=
  let r := timeSrc s k
  let good := if offset.natAbs ≤ 250 then min 10 (r.good + 1) else 0
  let bad := if 10000 < offset.natAbs then min 3 (r.bad + 1) else 0
  let locked := if r.locked then decide (bad < 3) else decide (10 ≤ good)
  let s1 := setTimeSrc k { good := if r.locked && !locked then 0 else good, bad := bad, locked := locked, last := s.now }
    { s with time.timeLost := s.time.timeLost && !(decide (k = 1) && locked && !r.locked) }
  let s2 := if steers s1 k then
      correct offset ppb { s1 with time.offset := clampI (-(2 ^ 31 - 1)) (2 ^ 31 - 1) offset } else s1
  reselect s2

/-- The source is listed, and the module disciplines its timebase with its own sources (R99, R103). -/
def mayMeasure (s : State) (k : Nat) : Bool := fullService s && !isStation s && s.time.list.contains k

/-- An edge of an origin of the always-on domain: stamped in service, and in SLUMBER by an interpolator (R106-R108). -/
def originEdge (src kind : Nat) (data : Word) (s : State) : State :=
  if s.power.state = .slumber then sleepEdge src kind data s
  else if serving s then raise (stampNow src kind data s) s else s

/-- The PTP domain in force (R116). -/
def ptpDomain (s : State) : Nat :=
  if s.time.ptpDomain = 0xFFFF then (if s.time.ptpProfile = 1 then 254 else 0) else s.time.ptpDomain

/-- What the best master selection compares, in its order (R100). PRESUMED: the dataset comparison of IEEE 1588, which the profiles
of R100 take over (log entry 46). -/
def masterKey (id : Nat) (m : PtpMaster) : List Nat :=
  [m.priority1, m.clockClass, m.accuracy, m.variance, m.priority2, m.gm.toNat, m.steps, id]

/-- The first of two keys is the better one. -/
def keyBetter : List Nat → List Nat → Bool
  | a :: r, b :: q => decide (a < b) || (decide (a = b) && keyBetter r q)
  | _, _ => false

/-- The master selected: the best of those heard in the last 3 s (R99, R100). -/
def bestMaster (s : State) : Option (Nat × PtpMaster) :=
  (s.time.masters.filterMap fun p => p.2.map fun m => (p.1, m)).foldl (fun best p =>
    if decide (p.2.last + 3 * 10 ^ 9 ≤ s.now) then best
    else match best with
      | none => some p
      | some b => if keyBetter (masterKey p.1 p.2) (masterKey b.1 b.2) then some p else best) none

/-- The time properties come from the master selected (R100, R127). -/
def takeMaster (s : State) : State :=
  match bestMaster s with
  | some (_, m) =>
    { s with time.gm := m.gm, time.ptpUtc := m.utcOffset, time.leap61 := m.leap61, time.leap59 := m.leap59 }
  | none => s

/-- A message of a master of the chosen domain: its dataset, a measurement of the one selected, or a management message, which
is ignored (R99, R100). -/
def ptpBody (id : Nat) (b : PtpBody) (s : State) : State :=
  match b with
  | .announce d alt =>
    takeMaster { s with
      time.masters := s.time.masters.set none id (some
        { priority1 := d.priority1, clockClass := d.clockClass, accuracy := d.accuracy, variance := d.variance
          priority2 := d.priority2, gm := d.gm, steps := d.steps, utcOffset := d.utcOffset, leap61 := d.leap61
          leap59 := d.leap59, last := s.now })
      time.altOffset := if alt.isSome then alt else s.time.altOffset }
  | .sync offset ppb =>
    if (bestMaster s).map Prod.fst = some id then takeOffset 1 offset ppb (takeMaster s) else s
  | .management => s

/-- PTP_FRAME: in HSR the frame is forwarded in hardware; a message of the chosen domain on a chosen port is taken (R99, R100,
R116, R127). -/
def ptpFrame (m : PtpMsg) (s : State) : State :=
  let s0 := if decide (s.net.mode = 2) && serving s && s.net.link = 3#2 then { s with net.hsrFwd := (s.net.hsrFwd + 1) % 2 ^ 32 }
    else s
  if !mayMeasure s 1 || !s.time.portMask.getLsbD m.port || !s.net.link.getLsbD m.port || decide (m.domain.toNat ≠ ptpDomain s)
  then s0
  else noteLeap s (ptpBody m.src.toNat m.body s0)

/-- PTP_FRAME. -/
def execPtpFrame (t : Nat) (m : PtpMsg) (s : State) : Result State := .next (ptpFrame m (advance t s))

/-- The year of an IRIG-B frame: that of IEEE 1344 where it is used, else that of B004-B007, both two digits of the calendar's
century; else the calendar's (R101). -/
def irigYear (use : Option Irig1344) (m : IrigMsg) (s : State) : Nat :=
  match use.bind (fun c => c.year) <|> m.year with
  | some y => s.cal.year / 100 * 100 + y % 100
  | none => s.cal.year

/-- TAI of the on-time mark that a frame labels; local time becomes UTC by its local offset (R101). -/
def irigTai (use : Option Irig1344) (m : IrigMsg) (s : State) : Int :=
  let half : Int := if s.time.irigFlags.getLsbD 1 then (use.map Irig1344.localHalfHours).getD 0 else 0
  let day := dayNumber (irigYear use m s) 1 1 + (m.day - 1)
  (taiOf (utcOffset s day) day m.hour m.minute m.second 0 : Int) - half * 1800 * 10 ^ 9

/-- IRIG_FRAME: a frame with good parity is measured once per second: its label, with IRIG_DELAY_NS, against the timebase; its
on-time mark is EV081 (R101, R106, R127). DESIGN CHOICE: the mark is an edge and is stamped whether or not the parity of its
frame fails. PRESUMED: a time quality of 15 says that the frame's clock has failed, so that the frame is no valid measurement;
UTC is local time less the local offset (log entry 46). -/
def irigFrame (m : IrigMsg) (s : State) : State :=
  let s0 := originEdge 81 0 0#32 s
  if !m.parityOk || !mayMeasure s 2 then s0
  else
    let use := if s.time.irigFlags.getLsbD 0 then m.ieee1344 else none
    let s1 := { s0 with
      time.irigLeap := use.isSome
      time.irigLocal := (use.map Irig1344.localHalfHours).getD 0, time.irigQuality := (use.map Irig1344.quality).getD 0
      time.leap61 := if ptpLocked s then s.time.leap61 else (use.map Irig1344.leapPending).getD false }
    if (use.map Irig1344.quality).getD 0 = 15 then s1
    else noteLeap s (takeOffset 2 ((s1.time.tai : Int) - s1.time.irigDelay - irigTai use m s1) m.ppb s1)

/-- IRIG_FRAME. -/
def execIrigFrame (t : Nat) (m : IrigMsg) (s : State) : Result State := .next (irigFrame m (advance t s))

/-- PPS_IN_EDGE: the rising edge, corrected by PPS_DELAY_NS, marks the calendar's nearest whole second; more than ±400 ms from it
is an invalid measurement; it is EV080 (R102, R106). -/
def ppsInEdge (ppb : Int) (s : State) : State :=
  let s0 := originEdge 80 0 0#32 s
  let e : Int := (calTai s : Int) - s.time.ppsDelay
  let label := (e + 500000000) / 10 ^ 9 * 10 ^ 9
  if !mayMeasure s 3 || decide (400000000 < (e - label).natAbs) then s0
  else takeOffset 3 ((s0.time.tai : Int) - s0.time.ppsDelay - label) ppb s0

/-- PPS_IN_EDGE. -/
def execPpsInEdge (t : Nat) (ppb : Int) (s : State) : Result State := .next (ppsInEdge ppb (advance t s))

/-- TIME_SOURCE_TIMEOUT: a source without a valid measurement for 3 s is lost; operand 3 is the ring, lost for a station
when no obeyed controller is heard (R99, R105, R381). -/
def timeSourceTimeout (k : Nat) (s : State) : State :=
  if k = 4 then
    let heard := s.ring.ctl.any fun c => decide (c.2.admission = 2) && decide (s.now < c.2.lastHeard + 3 * 10 ^ 9)
    if isStation s && decide (s.time.state = 2) && !heard then loseLock s else s
  else
    let r := timeSrc s k
    if r ≠ {} ∧ passed s.now r.last (3 * 10 ^ 9) then reselect (setTimeSrc k {} s) else s

/-- TIME_SOURCE_TIMEOUT. -/
def execTimeSourceTimeout (t : Nat) (src : Fin 4) (s : State) : Result State :=
  let s := advance t s
  .next (if inRun s then timeSourceTimeout (src + 1) s else s)

/-- HOLDOVER_EXPIRY: after HOLDOVER_S the state is FREE; SLUMBER keeps the state of its entry (R105, R113). -/
def execHoldoverExpiry (t : Nat) (s : State) : Result State :=
  let s := advance t s
  .next (if s.time.state = 3 ∧ s.power.state ≠ .slumber ∧ passed s.now s.time.lostAt (s.time.holdoverS * 10 ^ 9)
    then setTimeState 0 0 s else s)

/-- PPS_OUT_EDGE: at a whole second of TAI, which is one of UTC, PPS_OUT rises for PPS_OUT_MS while a source is LOCKED or in
holdover, and is held low otherwise (R104, R116). -/
def execPpsOutEdge (t : Nat) (s : State) : Result State :=
  let s := advance t s
  let live := inRun s && (s.time.state = 2 || s.time.state = 3) && decide (s.time.ppsOutMs ≠ 0)
  .next (if live && decide (s.time.tai % 10 ^ 9 ≠ 0) then s
    else { s with time.ppsHighUntil := if live then some (s.now + s.time.ppsOutMs * 10 ^ 6) else none })

/-! ### Commands -/

/-- The engine clock as reported: nominal on XM; after an XM failure between 94.2 % and 100 % of it, a free value (R95,
R114; log entry 5). -/
def engineKhzNow (s : State) : Nat × State :=
  let n := engineKhz s
  if s.clk.sysRefRc then
    let (f, s1) := draw s
    (n * 942 / 1000 + f.toNat % (n - n * 942 / 1000 + 1), s1)
  else (n, s)

/-- CLK_STATUS's answer; the measured errors are free values, those of XM and XS 0 when no source is LOCKED (R114; log entry
5). -/
def clkStatus (_w : Work) (s : State) : Reply × State :=
  let (khz, s1) := engineKhzNow s
  let (a, s2) := draw s1
  let (b, s3) := draw s2
  let locked := decide (s.time.state = 2)
  let half (v : Nat) := if locked then v % 65536 else 0
  (.done DONE (leBytes 1 s.clk.ready.toNat ++ leBytes 1 s.clk.fail.toNat ++ leBytes 1 (bit s.clk.sysRefRc)
    ++ leBytes 1 (bit s.clk.slowRc) ++ leBytes 4 khz ++ leBytes 4 (khz / s.bcr.rbusDiv) ++ leBytes 4 (2500000 / s.bcr.pbusDiv)
    ++ leBytes 4 (2 * khz) ++ leBytes 2 (half a.toNat) ++ leBytes 2 (half (a.toNat / 65536)) ++ leBytes 2 b.toNat
    ++ leBytes 2 (b.toNat / 65536) ++ leBytes 1 s.bcr.xmStart ++ leBytes 1 s.bcr.xsStart ++ leBytes 1 s.bcr.rbusDiv
    ++ leBytes 1 s.bcr.pbusDiv), { s3 with clk.fail := 0#6 })

/-- CLK_STATUS (R114). -/
def execClkStatus (t : Nat) (mb : Fin 8) (s : State) : Result State := .next (runCommand t mb 0x0201 clkStatus s)

/-- CLK_SWITCH's effect and answer (R91, R115). -/
def clkSwitch (w : Work) (s : State) : Reply × State :=
  let dom := min 1 (field w.payload 0 1 0)
  let target := if 1 < field w.payload 1 1 0 then 0 else field w.payload 1 1 0
  let need := if dom = 0 then (if target = 0 then 3 else 1) else (if target = 0 then 2 else 0)
  checked
    [(!clkReady s need, WRONG_STATE), (decide (dom = 0 ∧ target = 1) && !isSolo s, WRONG_STATE), (inHoldup s, WRONG_STATE),
     (s.clk.switch.isSome, BUSY)]
    (.done DONE (leBytes 1 dom ++ leBytes 1 target ++ leBytes 1 s.clk.ready.toNat ++ zeros 1),
      { s with clk.switch := some (dom, target) }) s

/-- CLK_SWITCH (R115). -/
def execClkSwitch (t : Nat) (mb : Fin 8) (s : State) : Result State := .next (runCommand t mb 0x0202 clkSwitch s)

/-- The priority list with values above 3 and repeats made 0 (R116). -/
def cleanList (a b c : Nat) : List Nat :=
  let f (x : Nat) := if 3 < x then 0 else x
  let a := f a
  let b := if f b = a then 0 else f b
  let c := if f c = a ∨ f c = b then 0 else f c
  [a, b, c]

/-- TIME_SOURCE_CFG's effect and answer (R116). -/
def timeSourceCfg (w : Work) (s : State) : Reply × State :=
  let p := w.payload
  let list := cleanList (field p 0 1 1) (field p 1 1 2) (field p 2 1 3)
  let prof := if 1 < field p 3 1 0 then 0 else field p 3 1 0
  let dom := if 255 < field p 4 2 0xFFFF then 0xFFFF else field p 4 2 0xFFFF
  let flags := field p 0x10 1 1 % 4
  let flags := if flags % 2 = 1 then flags else 0
  let mask := field p 0x14 1 3 % 4
  let mask := if mask = 0 then 3 else mask
  let s1 := { s with
    time.list := list
    time.ptpProfile := prof
    time.ptpDomain := dom
    time.holdoverS := clamp 1 3600 (field p 6 2 60)
    time.irigDelay := min 100000 (field p 8 4 0)
    time.ppsDelay := min 100000 (field p 0xC 4 0)
    time.irigFlags := BitVec.ofNat 8 flags
    time.ppsOutMs := min 200 (field p 0x11 1 100)
    time.stepUs := clamp 10 10000 (field p 0x12 2 1000)
    time.portMask := BitVec.ofNat 8 mask
    time.ppsHighUntil := if min 200 (field p 0x11 1 100) = 0 then none else s.time.ppsHighUntil
    time.src := s.time.src.drop fun k => !list.contains k }
  let echo := leBytes 1 (list.getD 0 0) ++ leBytes 1 (list.getD 1 0) ++ leBytes 1 (list.getD 2 0) ++ leBytes 1 prof
    ++ leBytes 2 dom ++ leBytes 2 s1.time.holdoverS ++ leBytes 4 s1.time.irigDelay ++ leBytes 4 s1.time.ppsDelay
    ++ leBytes 1 flags ++ leBytes 1 s1.time.ppsOutMs ++ leBytes 2 s1.time.stepUs ++ leBytes 1 mask ++ zeros 3
  checked [(isStation s || inHoldup s, WRONG_STATE)] (.done DONE echo, reselect s1) s

/-- TIME_SOURCE_CFG (R116). -/
def execTimeSourceCfg (t : Nat) (mb : Fin 8) (s : State) : Result State := .next (runCommand t mb 0x0203 timeSourceCfg s)

/-- Seconds since the source was lost, 0 when LOCKED and before the first loss (R117). -/
def holdoverElapsed (s : State) : Nat :=
  if s.time.state = 2 ∨ s.time.lostAt = 0 then 0 else (s.now - s.time.lostAt) / 10 ^ 9

/-- The rate correction in use: the discipline's, and 100 ppm while a phase correction is being slewed (R97, R117). -/
def rateNow (s : State) : Int := s.time.freqPpb + 100000 * s.time.slew.sign

/-- TIME_STATUS's answer (R117). -/
def timeStatus (_w : Work) (s : State) : Reply × State :=
  let flags := bit s.time.timeLost + 2 * bit s.clk.xsFail + 4 * bit s.clk.xmFail + 8 * bit (leapToday s ≠ 0)
  (.done DONE (leBytes 8 s.time.tai ++ leBytes 8 s.time.mono ++ leBytes 1 s.time.active ++ leBytes 1 s.time.state
    ++ [quality s] ++ leBytes 1 flags ++ leInt 4 s.time.offset ++ leInt 4 (rateNow s) ++ leBytes 4 (holdoverElapsed s)
    ++ (leBytes 8 s.time.gm.toNat).reverse ++ leInt 2 (utcOffset s (calDay s)) ++ leBytes 2 s.time.steps ++ zeros 4
    ++ leInt 8 s.time.lastStep), s)

/-- TIME_STATUS (R117). -/
def execTimeStatus (t : Nat) (mb : Fin 8) (s : State) : Result State := .next (runCommand t mb 0x0204 timeStatus s)

end Sys2Proof.Machine
end

