-- ==== Sys2Proof/Machine/Net.lean ====
section
/-! DEFINITION. The substation network: frame path, GOOSE subscription and publication, sampled values, host frames and the
network commands (R344-R364). -/

namespace Sys2Proof.Machine

/-! ### Ports and redundancy (R344-R347) -/

/-- A port that carries frames: up, and not NET1 of SINGLE mode (R345, R346). -/
def portLive (s : State) (p : Nat) : Bool :=
  inRun s && !isStation s && s.net.link.getLsbD p && !(s.net.mode = 0 && p = 1)

/-- The node table with the oldest entry dropped when it is full (R344; log entry 24). -/
def roomForNode (nodes : Tbl (Nat × List Nat)) : Tbl (Nat × List Nat) :=
  if nodes.length < 512 then nodes
  else
    match nodes.foldl (fun b e => match b with
        | some x => if e.2.1 < x.2 then some (e.1, e.2.1) else some x
        | none => some (e.1, e.2.1)) (none : Option (Nat × Nat)) with
    | some x => nodes.drop fun k => k = x.1
    | none => nodes

/-- A received frame passes the port: it is counted, forwarded in HSR, and kept unless it is a duplicate (R344, R345). An
entry holds 2 × sequence number + port of the newest 1,024 copies. -/
def netAccept (h : NetHdr) (s : State) : Bool × State :=
  if !portLive s h.port then (false, s)
  else if !h.fcsOk then (false, { s with net.fcs := (s.net.fcs + 1) % 2 ^ 32 })
  else if s.net.mode = 0 then (true, s)
  else
    let s0 := if s.net.mode = 1 && h.wrongLan then { s with net.wrongLan := (s.net.wrongLan + 1) % 2 ^ 32 } else s
    match h.seq with
    | none => (true, s0)
    | some q =>
      let key := h.src.toNat
      let seen := (s0.net.nodes.get (0, []) key).2
      let mine := 2 * q.toNat + h.port
      let dup := seen.contains (2 * q.toNat) || seen.contains (2 * q.toNat + 1)
      let room := if (s0.net.nodes.get (0, []) key).1 = 0 then roomForNode s0.net.nodes else s0.net.nodes
      let s1 := { s0 with net.nodes := room.set (0, []) key (s0.now + 1, (mine :: seen).take 1024) }
      let s2 := if s1.net.mode = 2 && h.dst ≠ s1.net.mac && h.src ≠ s1.net.mac && !seen.contains mine then
        { s1 with net.hsrFwd := (s1.net.hsrFwd + 1) % 2 ^ 32 } else s1
      if dup then (false, { s2 with net.dup := (s2.net.dup + 1) % 2 ^ 32 })
      else (decide (h.src ≠ s2.net.mac), s2)

/-- SUPERVISION_FRAME: a PRP or HSR supervision frame goes to the node table (R344, R347). -/
def execSupervisionFrame (t : Nat) (hdr : NetHdr) (s : State) : Result State :=
  let s := advance t s
  .next (let r := netAccept hdr s
    if r.1 && s.net.mode ≠ 0 then
      let k := hdr.src.toNat
      let room := if (r.2.net.nodes.get (0, []) k).1 = 0 then roomForNode r.2.net.nodes else r.2.net.nodes
      { r.2 with net.nodes := room.set (0, []) k (r.2.now + 1, (r.2.net.nodes.get (0, []) k).2) }
    else r.2)

/-- SUPERVISION_SEND: a supervision frame every SUP_S seconds in PRP and HSR (R344). -/
def execSupervisionSend (t : Nat) (s : State) : Result State :=
  let s := advance t s
  .next (if inRun s && !isStation s && s.net.mode ≠ 0 && clkReady s 5 && passed s.now s.net.supAt (s.net.supS * 10 ^ 9) then
      { s with net.supSent := s.net.supSent + 1, net.supAt := s.now }
    else s)

/-- NODE_ENTRY_AGE: an entry not seen for 60 s ages out (R344). -/
def execNodeEntryAge (t : Nat) (mac : BitVec 48) (s : State) : Result State :=
  let s := advance t s
  let e := s.net.nodes.get (0, []) mac.toNat
  .next (if e.1 ≠ 0 ∧ e.1 - 1 + 60 * 10 ^ 9 ≤ s.now then { s with net.nodes := s.net.nodes.set (0, []) mac.toNat (0, []) }
    else s)

/-- NET_LINK_CHANGE: a port's link goes up or down, with EV082 or EV083 (R106, R345). -/
def netLink (port : Nat) (up : Bool) (s : State) : State :=
  if s.net.link.getLsbD port = up then s
  else if up && (!inRun s || isStation s || !clkReady s 5 || (s.net.mode = 0 && port = 1)) then s
  else raiseNow (82 + port) (bit (!up)) (b32 up) { s with
    net.link := if up then s.net.link ||| (1#2 <<< port) else s.net.link &&& ~~~(1#2 <<< port) }

/-- NET_LINK_CHANGE. -/
def execNetLinkChange (t : Nat) (port : Fin 2) (up : Bool) (s : State) : Result State := .next (netLink port up (advance t s))

/-! ### GOOSE subscription (R349-R352, R356) -/

/-- A string without the zeros that pad it. -/
def unpad (b : Bytes) : Bytes := (b.reverse.dropWhile fun x => x = 0#8).reverse

/-- The program-defined sources bound in one way (R106). -/
def boundTo (s : State) (b : EvBind) : List Nat :=
  ((List.range 32).map fun k => 96 + k).filter fun k => (prog s).evBind.get .none k = b

/-- The frame's VLAN suits a subscription: 0 takes any (R361). -/
def vlanSuits (want : Nat) (got : BitVec 12) : Bool := want = 0 || want = got.toNat

/-- The tag verifies under one key (R356). -/
def tagGood (alg : Nat) (key covered tag : Bytes) : Bool := Config.mac alg key covered = tag

/-- The member suits an entry's TYPE (R349, R350). -/
def typeSuits (ms : List GVal) (m : MapEntry) : Bool :=
  (match m.type, ms.getD m.member .other with
    | 0, .bool _ => true
    | 1, .dbpos _ => true
    | 2, .int _ => true
    | 3, .float _ => true
    | _, _ => false)
  && (m.qmember = 0xFF || (match ms.getD m.qmember .other with | .quality _ _ => true | _ => false))

/-- The quality that a quality member gives a point (R351). -/
def memberQ (ms : List GVal) (q : Nat) : BitVec 4 :=
  if q = 0xFF then 1#4
  else match ms.getD q .other with
    | .quality true false => 1#4
    | .quality true true => 4#4
    | _ => 2#4

/-- One mapped point takes its member's value and quality (R349, R351). -/
def applyEntry (ms : List GVal) (m : MapEntry) (s : State) : State :=
  let q := memberQ ms m.qmember
  match ms.getD m.member .other with
  | .bool b => setQ m.point q (setImg m.point (b32 b) s)
  | .dbpos v => setQ (m.point + 1) q (setImg (m.point + 1) (b32 (v.getLsbD 0))
      (setQ m.point q (setImg m.point (b32 (v.getLsbD 1)) s)))
  | .int v => setQ m.point q (setImg m.point (BitVec.ofInt 32 (clampI (-(2 ^ 31)) (2 ^ 31 - 1) v)) s)
  | .float v => setQ m.point q (setImg m.point v s)
  | _ => s

/-- The carrier words of an MSL connection take the OCTET STRING, zero padded (R466). -/
def applyCarrier (ms : List GVal) (c : ConnDecl) (s : State) : State :=
  match ms.getD c.member .other with
  | .octets b => (List.range 19).foldl (fun s i =>
      let a := imgAddr 4 (c.word + i)
      setQ a 1#4 (setImg a (w32 (leNat (slice b (4 * i) 4))) s)) s
  | _ => s

/-- The subscription that takes a message (R347). -/
def gooseSubFor (s : State) (m : GooseMsg) : Option Nat :=
  (List.range 128).find? fun k =>
    let g := s.net.subs.get {} k
    g.enable && g.dst = m.hdr.dst && g.appid = m.appid.toNat && vlanSuits g.vlan m.hdr.vlan
      && unpad g.gocbRef = unpad m.gocbRef

/-- A subscription is replaced. -/
def setSub (k : Nat) (g : GooseSub) (s : State) : State := { s with net.subs := s.net.subs.set {} k g }

/-- A message is dropped with a flag of NET_STATUS (R350, R364). -/
def dropGoose (k : Nat) (flagBits : Byte) (s : State) : State :=
  let g := s.net.subs.get {} k
  setSub k { g with flags := g.flags ||| flagBits, rejected := (g.rejected + 1) % 2 ^ 32 } s

/-- A failed authentication is counted (R350, R364). -/
def authFails (s : State) : State := { s with net.authFail := (s.net.authFail + 1) % 2 ^ 32 }

/-- The tag verifies under a next key that has been given (R356). -/
def nextGood (alg : Nat) (key covered tag : Bytes) : Bool := decide (key ≠ []) && tagGood alg key covered tag

/-- A message that verifies under the next key makes it current (R356). -/
def rollKey (g : GooseSub) (m : GooseMsg) : GooseSub :=
  if g.alg ≠ 0 && !tagGood g.alg g.key m.covered m.tag then
    { g with keyId := g.nextKeyId, key := g.nextKey, nextKeyId := 0#32, nextKey := [] }
  else g

/-- A message of a subscription, by the steps of R350. -/
def gooseTake (k : Nat) (m : GooseMsg) (s : State) : State :=
  let g := s.net.subs.get {} k
  let entries := (prog s).gooseIn.filter fun e => e.ref = k
  let conns := (gooseConns s).filter fun c => c.ref = k
  let authOk := g.alg = 0 || tagGood g.alg g.key m.covered m.tag || nextGood g.alg g.nextKey m.covered m.tag
  let isOctets (c : ConnDecl) : Bool := match m.members.getD c.member .other with | .octets _ => true | _ => false
  if !authOk || (g.alg = 0 && g.requireAuth) then dropGoose k 8#8 (authFails s)
  else
    let g := rollKey g m
    let s := setSub k g s
    if unpad g.datSet ≠ unpad m.datSet || g.confRev ≠ m.confRev then dropGoose k 1#8 s
    else if m.ndsCom then dropGoose k 0#8 s
    else if m.test && !g.acceptTest then dropGoose k 4#8 s
    else if g.last.any fun l => l.1 = m.stNum && !newerSeq m.sqNum.toNat l.2.toNat then dropGoose k 0#8 s
    else if !(entries.all (typeSuits m.members)) || !(conns.all isOctets) then dropGoose k 2#8 s
    else
      let s1 := conns.foldl (fun s c => applyCarrier m.members c s)
        (entries.foldl (fun s e => applyEntry m.members e s) s)
      let s2 := setSub k { g with
        last := some (m.stNum, m.sqNum), expire := some (s1.time.mono + m.talMs * 10 ^ 6), stale := false
        talMs := m.talMs, lastTai := s1.time.tai, accepted := (g.accepted + 1) % 2 ^ 32 } s1
      if g.last.map Prod.fst = some m.stNum then s2
      else (boundTo s2 (.goose k)).foldl (fun s src => raiseNow src 6 m.stNum s) s2

/-- GOOSE_RX: a GOOSE frame (R345, R347, R350). -/
def execGooseRx (t : Nat) (m : GooseMsg) (s : State) : Result State :=
  let s := advance t s
  let r := netAccept m.hdr s
  .next (if r.1 then
      match gooseSubFor r.2 m with
      | some k => gooseTake k m r.2
      | none => r.2
    else r.2)

/-- A subscription's points become STALE (R351). -/
def subStale (k : Nat) (s : State) : State :=
  let s1 := setSub k { s.net.subs.get {} k with stale := true } s
  (subPoints s1 k).foldl (fun s a => setQ a 2#4 s) s1

/-- GOOSE_EXPIRY: expire passes without an accepted message (R145, R351). -/
def execGooseExpiry (t : Nat) (sub : Fin 128) (s : State) : Result State :=
  let s := advance t s
  let g := s.net.subs.get {} sub
  .next (match g.expire with
    | some e => if g.enable && !g.stale && decide (e ≤ s.time.mono) then subStale sub s else s
    | none => s)

/-! ### GOOSE publication (R353-R355) -/

/-- The member values of a publication as the image stands, forces included (R181, R353). -/
def pubValues (s : State) (k : Nat) : List (Nat × Word) :=
  ((prog s).gooseOut.filter fun e => e.ref = k && e.type < 4).map fun e =>
    (e.member, if e.type = 1 then
      w32 (2 * bit (forcedVal s e.point ≠ 0#32) + bit (forcedVal s (e.point + 1) ≠ 0#32)) else forcedVal s e.point)

/-- The producing MSL connections over a publication (R465). -/
def pubConns (s : State) (k : Nat) : List ConnDecl :=
  (((prog s).spb.getD {}).conns.filter fun c => c.dir = 1 && c.medium = 0 && c.ref = k)

/-- The OCTET STRING members of a publication: 12 + LEN bytes from the carrier words (R466). -/
def pubOctets (s : State) (k : Nat) : List (Nat × Bytes) :=
  (pubConns s k).map fun c =>
    (c.member, ((List.range 19).flatMap fun i => leBytes 4 (forcedVal s (imgAddr 5 (c.word + i))).toNat).take (12 + c.len))

/-- A publication is replaced. -/
def setPub (k : Nat) (g : GoosePub) (s : State) : State := { s with net.pubs := s.net.pubs.set {} k g }

/-- The ports that carry what the module sends: those in use whose link is up (R345). -/
def sendPorts (s : State) : Nat := (s.net.link &&& if s.net.mode = 0 then 1#2 else 3#2).toNat

/-- A message leaves on the ports in use, and the KEEPER passes the publication's position on (R354, R355, R395). -/
def sendGoose (k : Nat) (s : State) : State :=
  let g := s.net.pubs.get {} k
  let m : GooseTx := { pub := k, stNum := g.stNum, sqNum := g.sqNum, talMs := 2 * g.curveMs, values := g.vals, octets := g.octs
                       tai := g.pubTai, quality := g.pubQuality, test := g.test, ports := sendPorts s
                       alg := g.alg, keyId := g.keyId }
  let s1 := setPub k { g with
    nextAt := some (s.time.mono + g.curveMs * 10 ^ 6), lastTai := s.time.tai, sent := (g.sent + 1) % 2 ^ 32 } s
  pairSend { kind := 4, num := k, scan := s.scan.scan, value := g.stNum, data := leBytes 4 g.sqNum ++ leBytes 4 g.curveMs }
    { s1 with net.sent := (m :: s1.net.sent).take 64 }

/-- A new state: stNum up by one, sqNum 0, and the curve from T1 (R354). -/
def newGooseState (k : Nat) (s : State) : State :=
  let g := s.net.pubs.get {} k
  sendGoose k (setPub k { g with
    stNum := if g.stNum = 2 ^ 32 - 1 then 1 else g.stNum + 1, sqNum := 0, curveMs := g.t1Ms, newState := false } s)

/-- A publication at a publish: a changed point starts a new state, as does the first publish after a program start (R354);
a module out of control only keeps the values (R355). -/
def pubAtPublish (k : Nat) (s : State) : State :=
  let g := s.net.pubs.get {} k
  if !g.enable then s
  else
    let vals := pubValues s k
    let octs := pubOctets s k
    let change := decide (g.vals ≠ vals) || decide (g.octs ≠ octs)
    let s1 := setPub k { g with vals := vals, octs := octs, pubTai := s.time.tai, pubQuality := quality s } s
    if inControl s1 && !isStation s1 && (g.stNum = 0 || change || g.newState) then newGooseState k s1 else s1

/-- Every publication at a publish (R354). -/
def gooseOnPublish (s : State) : State := (List.range 64).foldl (fun s k => pubAtPublish k s) s

/-- After a program start stNum begins again at 1 (R354). -/
def gooseStart (s : State) : State :=
  { s with net.pubs := s.net.pubs.mapVal {} fun _ g =>
      { g with stNum := 0, sqNum := 0, curveMs := 0, nextAt := none, newState := false, vals := [], octs := [] } }

/-- The interval that follows a repetition: doubled, and T0 once that would reach it (R354). -/
def nextCurve (g : GoosePub) : Nat := if g.t0Ms ≤ 2 * g.curveMs then g.t0Ms else 2 * g.curveMs

/-- GOOSE_REPEAT: the next message of a publication is due (R354, R355, R362). -/
def gooseRepeat (k : Nat) (s : State) : State :=
  let g := s.net.pubs.get {} k
  match g.nextAt with
  | some a =>
    if g.enable && decide (a ≤ s.time.mono) && inControl s && fullService s && s.scan.mode = 2 && !isStation s then
      if g.newState then newGooseState k s
      else sendGoose k (setPub k { g with
        sqNum := if g.sqNum = 2 ^ 32 - 1 then 1 else g.sqNum + 1, curveMs := nextCurve g } s)
    else s
  | none => s

/-- GOOSE_REPEAT. -/
def execGooseRepeat (t : Nat) (pub : Fin 64) (s : State) : Result State := .next (gooseRepeat pub (advance t s))

/-- The publications go on where the KEEPER left them (R355, R410). -/
def takePubs (s : State) : State :=
  s.pair.pubState.foldl (fun s e => match e.2 with
    | some p =>
      let g := s.net.pubs.get {} e.1
      setPub e.1 { g with stNum := p.stNum, sqNum := p.sqNum, curveMs := p.curveMs
                          nextAt := some (p.at0 + p.curveMs * 10 ^ 6) } s
    | none => s) s

/-! ### Sampled values (R171, R357, R358) -/

/-- Samples per cycle and cycles per second of a stream (R363). -/
def spcOf (g : SvStream) : Nat := if g.spc = 1 then 256 else 80
/-- Nominal frequency of a stream. -/
def freqOf (g : SvStream) : Nat := if g.freq = 1 then 60 else 50

/-- The stream that takes a message (R347). -/
def svFor (s : State) (m : SvMsg) : Option Nat :=
  (List.range 8).find? fun k =>
    let g := s.net.sv.get {} k
    g.enable && g.dst = m.hdr.dst && g.appid = m.appid.toNat && unpad g.svId = unpad m.svId

/-- A stream is replaced. -/
def setSv (k : Nat) (g : SvStream) (s : State) : State := { s with net.sv := s.net.sv.set {} k g }

/-- A frame of a stream is dropped and counted in REJECTED (R357). -/
def dropSv (k : Nat) (flagBits : Byte) (s : State) : State :=
  let g := s.net.sv.get {} k
  setSv k { g with flags := g.flags ||| flagBits, rejected := (g.rejected + 1) % 2 ^ 32 } s

/-- The samples of a frame, from its first smpCnt on. -/
def samplesOf (modulus synch tai : Nat) : Nat → List (List (Int × Word)) → List SvSample
  | _, [] => []
  | c, a :: r => { cnt := c, tai := tai, vals := a, synch := synch } :: samplesOf modulus synch tai ((c + 1) % modulus) r

/-- The samples that a gap leaves out, which count as missing; at most two cycles are held (R357, R358). -/
def missingSamples (modulus n next : Nat) : List SvSample :=
  (List.range n).map fun i => { cnt := (next + i) % modulus }

/-- A frame of a stream is taken (R356, R357, R358). -/
def svTake (k : Nat) (m : SvMsg) (s : State) : State :=
  let g := s.net.sv.get {} k
  let modulus := spcOf g * freqOf g
  let authOk := g.alg = 0 || tagGood g.alg g.key m.covered m.tag || nextGood g.alg g.nextKey m.covered m.tag
  if !authOk || (g.alg = 0 && g.requireAuth) then dropSv k 8#8 (authFails s)
  else
    let g := if g.alg ≠ 0 && !tagGood g.alg g.key m.covered m.tag then
      { g with keyId := g.nextKeyId, key := g.nextKey, nextKeyId := 0#32, nextKey := [] } else g
    let s := setSv k g s
    if g.confRev ≠ m.confRev then dropSv k 1#8 s
    else if m.simulation && !g.acceptTest then dropSv k 4#8 s
    else if m.asdus.any (fun a => a.length ≠ 8) || m.asdus.length ≠ (if g.spc = 1 then 8 else 1) || modulus ≤ m.smpCnt then
      dropSv k 0#8 s
    else
      let next := g.lastCnt.elim m.smpCnt fun c => (c + 1) % modulus
      let gap := (m.smpCnt + modulus - next) % modulus
      let lost := missingSamples modulus (min gap (2 * spcOf g)) ((m.smpCnt + modulus - min gap (2 * spcOf g)) % modulus)
      let all := g.samples ++ lost ++ samplesOf modulus m.smpSynch s.time.tai m.smpCnt m.asdus
      setSv k { g with
        samples := all.drop (all.length - 2 * spcOf g)
        lastCnt := some ((m.smpCnt + m.asdus.length - 1) % modulus)
        missing := (g.missing + gap) % 2 ^ 32, lastTai := s.time.tai, accepted := (g.accepted + 1) % 2 ^ 32 } s

/-- SV_RX: a sampled-value frame (R345, R347, R357). -/
def execSvRx (t : Nat) (m : SvMsg) (s : State) : Result State :=
  let s := advance t s
  let r := netAccept m.hdr s
  .next (if r.1 then
      match svFor r.2 m with
      | some k => svTake k m r.2
      | none => r.2
    else r.2)

/-- A channel's value in A or V as binary32: 1 mA or 10 mV per count (R172, R357, R358). -/
def svWord (c : Nat) (v : Int) : Word := ratioF (decide (v < 0)) v.natAbs (if c < 4 then 1000 else 100)

/-- The validity of a value, bits [1:0] of its quality: 0 good, 1 invalid, 3 questionable (log entry 25). -/
def validity (v : Int × Word) : Nat := v.2.toNat % 4

/-- A sample is missing (R357, R358). -/
def sampleMissing (x : SvSample) : Bool := decide (x.vals = [])
/-- A value of the sample is invalid (R172). -/
def sampleInvalid (x : SvSample) : Bool := x.vals.any fun v => validity v = 1 || validity v = 2
/-- A value of the sample is questionable (R172). -/
def sampleQuestionable (x : SvSample) : Bool := x.vals.any fun v => validity v = 3

/-- One sample goes into the eight ring buffers and the write index advances; a missing one is written as 0 (R358). -/
def ringSample (b : SvBuf) (x : SvSample) (s : State) : State :=
  let i := (dataWord s b.region b.index).toNat
  let n := max 1 (b.len / 4)
  let s1 := (List.range 8).foldl (fun s c =>
    setDataWord b.region (b.base + c * b.len + 4 * (i % n)) ((x.vals[c]?).elim 0#32 fun v => svWord c v.1) s) s
  setDataWord b.region b.index (w32 ((i + 1) % n)) s1

/-- The streams bound to a task (R171). -/
def svBound (s : State) (n : Nat) : List Nat :=
  (List.range 8).filter fun k => decide ((prog s).sv.get 0 k ≠ 0) && decide ((prog s).sv.get 0 k / 1024 = n)

/-- At a snapshot of the bound task the waiting samples go to its ring buffers; a quarter cycle without a sample counts as
missing (R171, R358; log entry 25). -/
def svSnapshot (n : Nat) (s : State) : State :=
  (svBound s n).foldl (fun s k =>
    let g := s.net.sv.get {} k
    if !g.enable then s
    else
      let s1 := g.samples.foldl (fun s x => ringSample ((prog s).svBuf.get {} k) x s) s
      let new := if g.samples = [] ∧ g.lastCnt.isSome then List.replicate (spcOf g / 4) {} else g.samples.reverse
      setSv k { g with samples := [], window := (new ++ g.window).take (2 * spcOf g) } s1) s

/-- The samples of the last nominal cycle, newest first (R171). -/
def svWindow (g : SvStream) : List SvSample := g.window.take (spcOf g)

/-- Samples missing in the window (R171, R172). -/
def svMissing (g : SvStream) : Nat := spcOf g - ((svWindow g).filter fun x => !sampleMissing x).length

/-- The results of a stream are VALID: at most 2 samples missing in the window and none invalid or questionable (R171). -/
def svGood (g : SvStream) : Bool :=
  g.enable && decide (svMissing g ≤ 2) && !(svWindow g).any fun x => sampleInvalid x || sampleQuestionable x

/-- STATUS of a stream's results; SmpSynch 2 is global (R172; log entry 25). -/
def svStatus (g : SvStream) : Nat :=
  let w := svWindow g
  min 255 (svMissing g) + 256 * bit (w.any fun x => !sampleMissing x && decide (x.synch ≠ 2))
    + 512 * bit (w.any sampleInvalid) + 1024 * bit (w.any sampleQuestionable)

/-- A result word of a stream (R172). -/
def svWordOf (g : SvStream) (w : Nat) : Word :=
  let tai := ((svWindow g).find? fun x => !sampleMissing x).elim 0 SvSample.tai
  let vals (l : List SvSample) : List (List Int) := l.map fun x => x.vals.map Prod.fst
  match w with
  | 0 => w32 (svStatus g)
  | 1 => w32 (tai % 2 ^ 32)
  | 2 => w32 (tai / 2 ^ 32 % 2 ^ 32)
  | _ => Config.svResult (freqOf g) (vals (g.window.drop (spcOf g))) (vals (svWindow g)) w

/-- The result words of a stream (R172). -/
def svWords (k : Nat) : List Nat :=
  ((List.range 160).filter fun w => w < 4 || 8 ≤ w).map fun w => imgAddr 4 (8192 + 512 * k + w)

/-- What a publish holds with the results of the task's streams; a word that the task's own code has stored stands (R171,
R172). -/
def svResults (n : Nat) (buf : Tbl (Option Word)) (s : State) : Tbl (Option Word) :=
  ((svBound s n).filter fun k => (s.net.sv.get {} k).enable).foldl (fun buf k =>
    (svWords k).foldl (fun buf a =>
      if (buf.get none a).isSome then buf
      else buf.set none a (some (svWordOf (s.net.sv.get {} k) (indexOf a % 512)))) buf) buf

/-- At the bound task's publish the results take their quality, and a change between VALID and STALE raises the bound source's
record (R171, R358). -/
def svPublish (n : Nat) (s : State) : State :=
  (svBound s n).foldl (fun s k =>
    let g := s.net.sv.get {} k
    let ok := svGood g
    let s1 := (svWords k).foldl (fun s a => setQ a (if ok then 1#4 else 2#4) s) (setSv k { g with valid := ok } s)
    if g.valid = ok then s1 else (boundTo s1 (.sv k)).foldl (fun s src => raiseNow src 6 (b32 ok) s) s1) s

/-! ### Host frames (R348) -/

/-- The host rings exist and their host port works (R348, R550). -/
def ringsLive (s : State) : Bool := inRun s && !s.power.hostQspi && !s.host.perst && !isStation s

/-- A frame goes to the next slot of the host receive ring, if the host has handed it over; FLAGS says the port, and whether the
duplicate had also been seen (R348). -/
def hostFrame (port : Nat) (frame : Bytes) (owned dupSeen : Bool) (s : State) : State :=
  if ringsLive s && s.net.rxRing ≠ 0 && owned && decide (frame.length ≤ 2032) then
    let a := s.net.rxRing + 2048 * s.net.rxSlot
    { s with
      host.hostMem := Memory.writeBytes s.host.hostMem a
        (leBytes 2 frame.length ++ leBytes 1 (2 * port + 4 * bit (dupSeen && s.net.mode ≠ 0)) ++ zeros 5 ++ leBytes 8 s.time.tai ++ frame)
      net.rxSlot := (s.net.rxSlot + 1) % s.net.slots }
  else { s with net.hostDropped := (s.net.hostDropped + 1) % 2 ^ 32 }

/-- The EtherType of a frame, after its VLAN tag if it has one. -/
def etherType (frame : Bytes) : Nat :=
  let e (o : Nat) : Nat := leNat (slice frame o 2).reverse
  if e 12 = 0x8100 then e 16 else e 12

/-- A frame of PTP, of PRP or HSR supervision, of GOOSE or of SV, which no host ring takes (R347). -/
def engineFrame (frame : Bytes) : Bool := [0x88F7, 0x88FB, 0x88B8, 0x88BA].contains (etherType frame)

/-- HOST_FRAME_RX: any other frame, unicast to the module, broadcast, or multicast when FLAGS[0] is set (R347, R348). -/
def execHostFrameRx (t : Nat) (hdr : NetHdr) (frame : Bytes) (slot : HostSlot) (s : State) : Result State :=
  let s := advance t s
  let r := netAccept hdr s
  let multicast := hdr.dst.getLsbD 40
  let wanted := hdr.dst = s.net.mac || hdr.dst = BitVec.allOnes 48 || (multicast && s.net.flags.getLsbD 0)
  .next (if r.1 && wanted && !engineFrame frame then hostFrame hdr.port frame slot.owned slot.dupSeen r.2 else r.2)

/-- Slots of the send ring are read in order up to the first that the host still owns (R348). -/
def sendSlots : List TxSlot → State → State
  | [], s => s
  | x :: r, s =>
    if x.own then
      sendSlots r { s with
        net.hostSent := if 14 ≤ x.len ∧ x.len ≤ 2032 then (slice x.frame 0 x.len :: s.net.hostSent).take 64 else s.net.hostSent
        host.hostMem := Memory.writeByte s.host.hostMem (s.net.txRing + 2048 * s.net.txSlot + 2) 0#8
        net.txSlot := (s.net.txSlot + 1) % s.net.slots }
    else s

/-- HOST_TX_POLL (R348). -/
def execHostTxPoll (t : Nat) (slots : List TxSlot) (s : State) : Result State :=
  let s := advance t s
  .next (if ringsLive s && s.net.txRing ≠ 0 then sendSlots slots s else s)

/-! ### Commands (R360-R364) -/

/-- A number in network byte order from six bytes. -/
def macOf (b : Bytes) : BitVec 48 := BitVec.ofNat 48 (leNat b.reverse)
/-- Six bytes in network byte order. -/
def macBytes (m : BitVec 48) : Bytes := (leBytes 6 m.toNat).reverse

/-- NET_PORT_CFG's effect and answer (R345, R360). -/
def netPortCfg (w : Work) (s : State) : Reply × State :=
  let p := w.payload
  let mode := if 2 < field p 0 1 1 then 0 else field p 0 1 1
  let speed := BitVec.ofNat 8 (field p 1 1 0 % 4)
  let flags := BitVec.ofNat 8 (field p 3 1 0 % 2)
  let rx := field p 4 8 0 / 4096 * 4096
  let tx := field p 0xC 8 0 / 4096 * 4096
  let slots := 2 ^ Nat.log2 (clamp 16 1024 (field p 0x14 2 64))
  let restart := mode ≠ s.net.mode || speed ≠ s.net.speed
  let s0 := if restart then netLink 0 false (netLink 1 false s) else s
  let s1 := { s0 with
    net.mode := mode
    net.speed := speed
    net.supS := clamp 1 60 (field p 2 1 2)
    net.flags := flags
    net.rxSlot := if rx = s.net.rxRing ∧ slots = s.net.slots then s.net.rxSlot else 0
    net.txSlot := if tx = s.net.txRing ∧ slots = s.net.slots then s.net.txSlot else 0
    net.rxRing := rx
    net.txRing := tx
    net.slots := slots
    net.nodes := if mode = s.net.mode then s.net.nodes else [] }
  let echo := leBytes 1 mode ++ leBytes 1 speed.toNat ++ leBytes 1 s1.net.supS ++ leBytes 1 flags.toNat ++ leBytes 8 rx
    ++ leBytes 8 tx ++ leBytes 2 slots ++ zeros 2
  checked [(isStation s || (s.power.hostQspi && (rx ≠ 0 || tx ≠ 0)) || inHoldup s, WRONG_STATE)] (.done DONE echo, s1) s

/-- NET_PORT_CFG (R360). -/
def execNetPortCfg (t : Nat) (mb : Fin 8) (s : State) : Result State := .next (runCommand t mb 0x0701 netPortCfg s)

/-- GOOSE_SUB_CFG's echo, keys as zeros (R361). -/
def subEcho (k : Nat) (query : Bool) (g : GooseSub) : Bytes :=
  leBytes 1 k ++ leBytes 1 (bit g.enable + 2 * bit g.acceptTest + 4 * bit g.requireAuth + 128 * bit query)
    ++ leBytes 2 g.appid ++ macBytes g.dst ++ leBytes 2 g.vlan ++ leBytes 4 g.confRev.toNat ++ slice g.gocbRef 0 64
    ++ slice g.datSet 0 64 ++ leBytes 1 g.alg ++ zeros 3 ++ zeros 36 ++ zeros 36

/-- The subscription that a request asks for (R361). -/
def subOf (p : Bytes) : GooseSub :=
  { enable := payloadBit p 1 0, acceptTest := payloadBit p 1 1, requireAuth := payloadBit p 1 2
    appid := min (field p 2 2 0) 0x3FFF, dst := macOf (fieldB p 4 6), vlan := field p 0xA 2 0 % 4096
    confRev := w32 (field p 0xC 4 0), gocbRef := fieldB p 0x10 64, datSet := fieldB p 0x50 64
    alg := if 5 < field p 0x90 1 0 then 0 else field p 0x90 1 0
    keyId := w32 (field p 0x94 4 0), key := fieldB p 0x98 32
    nextKeyId := w32 (field p 0xB8 4 0), nextKey := fieldB p 0xBC 32 }

/-- Two subscriptions have the same network identity (R361). -/
def sameSub (a b : GooseSub) : Bool :=
  a.appid = b.appid && a.dst = b.dst && a.vlan = b.vlan && a.confRev = b.confRev && a.gocbRef = b.gocbRef
    && a.datSet = b.datSet

/-- A subscription is configured: a changed identity begins with no state, and one that is disabled reads STALE (R351,
R361). -/
def configureSub (k : Nat) (g : GooseSub) (s : State) : State :=
  let old := s.net.subs.get {} k
  if sameSub old g && g.enable then
    setSub k { g with
      last := old.last, expire := old.expire, stale := old.stale, flags := old.flags, talMs := old.talMs
      lastTai := old.lastTai, accepted := old.accepted, rejected := old.rejected } s
  else subStale k (setSub k g s)

/-- GOOSE_SUB_CFG's effect and answer (R361). -/
def gooseSubCfg (w : Work) (s : State) : Reply × State :=
  let p := w.payload
  let k := min (field p 0 1 0) 127
  let query := payloadBit p 1 7
  let g := subOf p
  checked [(!query && g.enable && unpad g.gocbRef = [], CHECK_FAILED),
      (isStation s || isApprentice s || inHoldup s, WRONG_STATE)]
    (if query then (.done DONE (subEcho k true (s.net.subs.get {} k)), s)
      else (.done DONE (subEcho k false g), forward 0x0702 p (configureSub k g s))) s

/-- GOOSE_SUB_CFG (R361). -/
def execGooseSubCfg (t : Nat) (mb : Fin 8) (s : State) : Result State := .next (runCommand t mb 0x0702 gooseSubCfg s)

/-- GOOSE_PUB_CFG's echo, the key as zeros (R362). -/
def pubEcho (k : Nat) (query : Bool) (g : GoosePub) : Bytes :=
  leBytes 1 k ++ leBytes 1 (bit g.enable + 2 * bit g.test + 128 * bit query) ++ leBytes 2 g.appid ++ macBytes g.dst
    ++ leBytes 2 g.vlan ++ leBytes 4 g.confRev.toNat ++ leBytes 2 g.t0Ms ++ leBytes 2 g.t1Ms ++ slice g.gocbRef 0 64
    ++ slice g.datSet 0 64 ++ slice g.goId 0 64 ++ leBytes 1 g.alg ++ zeros 3 ++ zeros 36

/-- First destination address of GOOSE, 01-0C-CD-01-00-00 (R362). -/
def gooseBase : Nat := 0x010CCD010000

/-- The publication that a request asks for (R362). -/
def pubOf (p : Bytes) (k : Nat) : GoosePub :=
  let dst := (macOf (fieldB p 4 6)).toNat
  let t0 := clamp 100 60000 (field p 0x10 2 1000)
  { enable := payloadBit p 1 0, test := payloadBit p 1 1, appid := min (field p 2 2 0) 0x3FFF
    dst := BitVec.ofNat 48 (if gooseBase ≤ dst ∧ dst ≤ gooseBase + 0x1FF then dst else gooseBase + k)
    vlan := (field p 0xA 2 0x8000 / 8192) * 8192 + field p 0xA 2 0x8000 % 4096
    confRev := w32 (field p 0xC 4 1), t0Ms := t0, t1Ms := clamp 1 (t0 / 4) (field p 0x12 2 4)
    gocbRef := fieldB p 0x14 64, datSet := fieldB p 0x54 64, goId := fieldB p 0x94 64
    alg := if 5 < field p 0xD4 1 0 then 0 else field p 0xD4 1 0
    keyId := w32 (field p 0xD8 4 0), key := fieldB p 0xDC 32 }

/-- Two publications have the same network identity (R362). -/
def samePub (a b : GoosePub) : Bool :=
  a.appid = b.appid && a.dst = b.dst && a.vlan = b.vlan && a.confRev = b.confRev && a.gocbRef = b.gocbRef
    && a.datSet = b.datSet && a.goId = b.goId

/-- A publication is configured; a change of identity starts a new stNum at the next message (R362). -/
def configurePub (k : Nat) (g : GoosePub) (s : State) : State :=
  let old := s.net.pubs.get {} k
  setPub k { g with
    stNum := old.stNum, sqNum := old.sqNum, curveMs := old.curveMs, nextAt := old.nextAt
    newState := old.newState || !samePub old g, vals := old.vals, octs := old.octs, pubTai := old.pubTai
    pubQuality := old.pubQuality, lastTai := old.lastTai, sent := old.sent } s

/-- GOOSE_PUB_CFG's effect and answer (R362). -/
def goosePubCfg (w : Work) (s : State) : Reply × State :=
  let p := w.payload
  let k := min (field p 0 1 0) 63
  let query := payloadBit p 1 7
  let g := pubOf p k
  checked [(isStation s || isApprentice s || inHoldup s, WRONG_STATE)]
    (if query then (.done DONE (pubEcho k true (s.net.pubs.get {} k)), s)
      else (.done DONE (pubEcho k false g), forward 0x0703 p (configurePub k g s))) s

/-- GOOSE_PUB_CFG (R362). -/
def execGoosePubCfg (t : Nat) (mb : Fin 8) (s : State) : Result State := .next (runCommand t mb 0x0703 goosePubCfg s)

/-- SV_SUB_CFG's echo, keys as zeros (R363). -/
def svEcho (k : Nat) (query : Bool) (g : SvStream) : Bytes :=
  leBytes 1 k ++ leBytes 1 (bit g.enable + 2 * bit g.acceptTest + 4 * bit g.requireAuth + 128 * bit query)
    ++ leBytes 2 g.appid ++ macBytes g.dst ++ leBytes 1 g.spc ++ leBytes 1 g.freq ++ leBytes 4 g.confRev.toNat
    ++ slice g.svId 0 64 ++ leBytes 1 g.alg ++ zeros 3 ++ zeros 36 ++ zeros 36

/-- The stream that a request asks for (R363). -/
def svOf (p : Bytes) : SvStream :=
  { enable := payloadBit p 1 0, acceptTest := payloadBit p 1 1, requireAuth := payloadBit p 1 2
    appid := clamp 0x4000 0x7FFF (field p 2 2 0x4000), dst := macOf (fieldB p 4 6)
    spc := if 1 < field p 0xA 1 0 then 0 else field p 0xA 1 0
    freq := if 1 < field p 0xB 1 0 then 0 else field p 0xB 1 0
    confRev := w32 (field p 0xC 4 0), svId := fieldB p 0x10 64
    alg := if 5 < field p 0x50 1 0 then 0 else field p 0x50 1 0
    keyId := w32 (field p 0x54 4 0), key := fieldB p 0x58 32
    nextKeyId := w32 (field p 0x78 4 0), nextKey := fieldB p 0x7C 32 }

/-- A stream is configured; one that changes begins with no state. -/
def configureSv (k : Nat) (g : SvStream) (s : State) : State :=
  let old := s.net.sv.get {} k
  if g.enable && old.enable && g.appid = old.appid && g.dst = old.dst && g.spc = old.spc && g.freq = old.freq
      && g.confRev = old.confRev && g.svId = old.svId then
    setSv k { g with
      samples := old.samples, lastCnt := old.lastCnt, missing := old.missing, window := old.window, valid := old.valid
      flags := old.flags, lastTai := old.lastTai, accepted := old.accepted, rejected := old.rejected } s
  else setSv k { g with valid := old.valid } s

/-- The bound task fixes FREQ through its period and the largest SPC through its ring buffers (R363). -/
def svSuits (s : State) (k : Nat) (g : SvStream) : Bool :=
  let d := (prog s).sv.get 0 k
  let per := (taskDecl s (d / 1024)).elim 0 TaskDecl.periodUs
  per = (if g.freq = 1 then 4167 else 5000) && decide (spcOf g ≤ d % 1024)

/-- SV_SUB_CFG's effect and answer (R363). -/
def svSubCfg (w : Work) (s : State) : Reply × State :=
  let p := w.payload
  let k := min (field p 0 1 0) 7
  let query := payloadBit p 1 7
  let g := svOf p
  checked [((prog s).sv.get 0 k = 0, NOT_PRESENT),
      ((!query && !svSuits s k g) || isStation s || isApprentice s || inHoldup s, WRONG_STATE)]
    (if query then (.done DONE (svEcho k true (s.net.sv.get {} k)), s)
      else (.done DONE (svEcho k false g), forward 0x0704 p (configureSv k g s))) s

/-- SV_SUB_CFG (R363). -/
def execSvSubCfg (t : Nat) (mb : Fin 8) (s : State) : Result State := .next (runCommand t mb 0x0704 svSubCfg s)

/-- LINK of NET_STATUS (R364). -/
def linkByte (s : State) : Nat :=
  s.net.link.toNat + 4 * bit (s.net.link.getLsbD 0 && !s.net.speed.getLsbD 0)
    + 8 * bit (s.net.link.getLsbD 1 && !s.net.speed.getLsbD 1)

/-- NET_STATUS's second part: state, flags, numbers, TAL, times and counts of what SEL names (R364). -/
def netPart (s : State) (sel k : Nat) : Bytes :=
  let part (st : Nat) (fl : Byte) (a b tal tai acc rej : Nat) : Bytes :=
    leBytes 1 st ++ leBytes 1 fl.toNat ++ zeros 2 ++ leBytes 4 a ++ leBytes 4 b ++ leBytes 4 tal ++ leBytes 8 tai
      ++ leBytes 4 acc ++ leBytes 4 rej
  if sel = 1 then
    let g := s.net.subs.get {} k
    part (if !g.enable then 0 else if g.expire.isNone then 1 else if g.stale then 3 else 2) g.flags
      (g.last.elim 0 fun l => l.1.toNat) (g.last.elim 0 fun l => l.2.toNat) g.talMs g.lastTai g.accepted g.rejected
  else if sel = 2 then
    let g := s.net.pubs.get {} k
    part (if !g.enable then 0 else if inControl s && s.scan.mode = 2 && g.stNum ≠ 0 then 1 else 2) 0#8 g.stNum g.sqNum
      (g.nextAt.elim 0 fun a => (a - s.time.mono) / 10 ^ 6) g.lastTai g.sent 0
  else if sel = 3 then
    let g := s.net.sv.get {} k
    part (if !g.enable then 0 else if g.lastCnt.isNone then 1 else if g.valid then 2 else 3) g.flags (g.lastCnt.getD 0)
      g.missing 0 g.lastTai g.accepted g.rejected
  else zeros 32

/-- NET_STATUS's answer; FLAGS clears as it is read (R364). -/
def netStatus (w : Work) (s : State) : Reply × State :=
  let sel := if 3 < field w.payload 0 1 0 then 0 else field w.payload 0 1 0
  let k := min (field w.payload 1 1 0) (if sel = 1 then 127 else if sel = 2 then 63 else if sel = 3 then 7 else 0)
  let s1 := if sel = 1 then setSub k { s.net.subs.get {} k with flags := 0#8 } s
    else if sel = 3 then setSv k { s.net.sv.get {} k with flags := 0#8 } s else s
  (.done DONE (macBytes s.net.mac ++ leBytes 1 s.net.mode ++ leBytes 1 (linkByte s) ++ leBytes 4 s.net.dup
    ++ leBytes 4 s.net.wrongLan ++ leBytes 4 s.net.hsrFwd ++ leBytes 4 s.net.hostDropped ++ leBytes 4 s.net.authFail
    ++ leBytes 4 s.net.fcs ++ netPart s sel k), s1)

/-- NET_STATUS (R364). -/
def execNetStatus (t : Nat) (mb : Fin 8) (s : State) : Result State := .next (runCommand t mb 0x0705 netStatus s)

end Sys2Proof.Machine
end

