-- ==== Sys2Proof/Machine/Crypto.lean ====
section
/-! DEFINITION. SHA-384 and ECDSA P-384 verification, which the containers, sessions, tokens and key changes use
(R500, R532). -/

namespace Sys2Proof

/-! ### SHA-384 (R500; FIPS 180-4) -/

/-- The round constants of SHA-384, eight words to a row, first word highest: the fractions of the cube roots of the first 80
primes. -/
def shaConst : List Nat := [
  0x428a2f98d728ae227137449123ef65cdb5c0fbcfec4d3b2fe9b5dba58189dbbc3956c25bf348b53859f111f1b605d019923f82a4af194f9bab1c5ed5da6d8118,
  0xd807aa98a303024212835b0145706fbe243185be4ee4b28c550c7dc3d5ffb4e272be5d74f27b896f80deb1fe3b1696b19bdc06a725c71235c19bf174cf692694,
  0xe49b69c19ef14ad2efbe4786384f25e30fc19dc68b8cd5b5240ca1cc77ac9c652de92c6f592b02754a7484aa6ea6e4835cb0a9dcbd41fbd476f988da831153b5,
  0x983e5152ee66dfaba831c66d2db43210b00327c898fb213fbf597fc7beef0ee4c6e00bf33da88fc2d5a79147930aa72506ca6351e003826f142929670a0e6e70,
  0x27b70a8546d22ffc2e1b21385c26c9264d2c6dfc5ac42aed53380d139d95b3df650a73548baf63de766a0abb3c77b2a881c2c92e47edaee692722c851482353b,
  0xa2bfe8a14cf10364a81a664bbc423001c24b8b70d0f89791c76c51a30654be30d192e819d6ef5218d69906245565a910f40e35855771202a106aa07032bbd1b8,
  0x19a4c116b8d2d0c81e376c085141ab532748774cdf8eeb9934b0bcb5e19b48a8391c0cb3c5c95a634ed8aa4ae3418acb5b9cca4f7763e373682e6ff3d6b2b8a3,
  0x748f82ee5defb2fc78a5636f43172f6084c87814a1f0ab728cc702081a6439ec90befffa23631e28a4506cebde82bde9bef9a3f7b2c67915c67178f2e372532b,
  0xca273eceea26619cd186b8c721c0c207eada7dd6cde0eb1ef57d4f7fee6ed17806f067aa72176fba0a637dc5a2c898a6113f9804bef90dae1b710b35131c471b,
  0x28db77f523047d8432caab7b40c724933c9ebe0a15c9bebc431d67c49c100d4c4cc5d4becb3e42b6597f299cfc657e2a5fcb6fab3ad6faec6c44198c4a475817]

/-- The initial hash value of SHA-384, packed as a row of constants. -/
def sha384Init : Nat :=
  0xcbbb9d5dc1059ed8629a292a367cd5079159015a3070dd17152fecd8f70e593967332667ffc00b318eb44a8768581511db0c2e0d64f98fa747b5481dbefa4fa4

/-- The 64-bit words of a packed row of eight. -/
def unpackRow (row : Nat) : List Dword := (List.range 8).map fun i => BitVec.ofNat 64 (row / 2 ^ (64 * (7 - i)))

/-- A big-endian number of a byte string. -/
def beNat (b : Bytes) : Nat := b.foldl (fun a x => 256 * a + x.toNat) 0

/-- `n` bytes of a number, highest first. -/
def beBytes (n v : Nat) : Bytes := (leBytes n v).reverse

/-- The padded message: 0x80, zeros, and the bit length in 16 bytes. -/
def shaPad (m : Bytes) : Bytes :=
  m ++ 0x80#8 :: zeros ((239 - m.length % 128) % 128) ++ beBytes 16 (8 * m.length)

/-- The word at a place of a block, or of a window of words. -/
def shaWord (block : Bytes) (i : Nat) : Dword := BitVec.ofNat 64 (beNat (slice block (8 * i) 8))

/-- A word rotated right by each of some counts, the results added without carry; a last shift drops bits where one is asked. -/
def shaMix (rot : List Nat) (x last : Dword) : Dword := rot.foldl (fun acc n => acc ^^^ x.rotateRight n) last

/-- The next word of the message schedule from the window of the last 16. -/
def shaNext (w : List Dword) : Dword :=
  let at' (i : Nat) : Dword := w.getD i 0#64
  let near := shaMix [19, 61] (at' 14) (at' 14 >>> 6)
  let far := shaMix [1, 8] (at' 1) (at' 1 >>> 7)
  at' 0 + far + at' 9 + near

/-- The eight working words after a round that takes in one schedule word and one constant. -/
def shaRound (v : List Dword) (kw : Dword) : List Dword :=
  let at' (i : Nat) : Dword := v.getD i 0#64
  let pick := at' 6 ^^^ (at' 4 &&& (at' 5 ^^^ at' 6))
  let most := (at' 0 &&& at' 1) ||| (at' 2 &&& (at' 0 ||| at' 1))
  let add := at' 7 + shaMix [14, 18, 41] (at' 4) 0#64 + pick + kw
  (add + shaMix [28, 34, 39] (at' 0) 0#64 + most) :: (v.take 3 ++ (at' 3 + add) :: (v.drop 4).take 3)

/-- The rounds over the constants, with the schedule's window sliding along. -/
def shaRounds : List Dword → List Dword → List Dword → List Dword
  | [], _, v => v
  | k :: rest, w, v => shaRounds rest (w.tail ++ [shaNext w]) (shaRound v (k + w.headD 0#64))

/-- One block is taken in. -/
def shaBlock (h : List Dword) (b : Bytes) : List Dword :=
  List.zipWith (· + ·) h (shaRounds (shaConst.flatMap unpackRow) ((List.range 16).map (shaWord b)) h)

/-- Blocks of 128 bytes. -/
def shaBlocks : Nat → Bytes → List Dword → List Dword
  | 0, _, h => h
  | n + 1, b, h => shaBlocks n (b.drop 128) (shaBlock h (b.take 128))

/-- SHA-384 of a byte string: 48 bytes in standard order (R532). -/
def sha384 (m : Bytes) : Bytes :=
  let p := shaPad m
  ((shaBlocks (p.length / 128) p (unpackRow sha384Init)).take 6).flatMap fun w => beBytes 8 w.toNat

/-! ### ECDSA P-384 (R500; SEC 1) -/

/-- The field prime of P-384. -/
def p384P : Nat := 2 ^ 384 - 2 ^ 128 - 2 ^ 96 + 2 ^ 32 - 1
/-- The order of the base point. -/
def p384N : Nat :=
  0xffffffffffffffffffffffffffffffffffffffffffffffffc7634d81f4372ddf581a0db248b0a77aecec196accc52973
/-- The coefficient b. -/
def p384B : Nat :=
  0xb3312fa7e23ee7e4988e056be3f82d19181d9c6efe8141120314088f5013875ac656398d8a2ed19d2a85c8edd3ec2aef
/-- The base point. -/
def p384Gx : Nat :=
  0xaa87ca22be8b05378eb1c71ef320ad746e1d3b628ba79b9859f741e082542a385502f25dbf55296c3a545e3872760ab7
def p384Gy : Nat :=
  0x3617de4a96262c6f5d9e98bf9292dc29f8f41dbd289a147ce9da3113b5f0b8c00a60b1ce1d7e819d7a431d7c90ea0e5f

/-- `b ^ e mod m` by squaring over `fuel` bits. -/
def powMod : Nat → Nat → Nat → Nat → Nat
  | 0, _, _, _ => 1
  | fuel + 1, b, e, m =>
    let r := powMod fuel (b * b % m) (e / 2) m
    if e % 2 = 1 then r * b % m else r % m

/-- The inverse modulo a prime. -/
def invMod (a m : Nat) : Nat := powMod 384 (a % m) (m - 2) m

/-- A difference modulo P. -/
def subP (a b : Nat) : Nat := (a + (p384P - b % p384P)) % p384P

/-- A point in Jacobian coordinates; Z = 0 is the point at infinity. -/
structure JPoint where
  x : Nat
  y : Nat
  z : Nat
deriving DecidableEq, Repr

/-- A point doubled. -/
def JPoint.dbl (p : JPoint) : JPoint :=
  let m := p384P
  let d := p.z * p.z % m
  let g := p.y * p.y % m
  let b := p.x * g % m
  let al := 3 * (subP p.x d * ((p.x + d) % m) % m) % m
  let x3 := subP (al * al % m) (8 * b % m)
  let yz := (p.y + p.z) % m
  let z3 := subP (subP (yz * yz % m) g) d
  { x := x3, y := subP (al * subP (4 * b % m) x3 % m) (8 * (g * g % m) % m), z := z3 }

/-- Two points added. -/
def JPoint.add (p q : JPoint) : JPoint :=
  if p.z = 0 then q
  else if q.z = 0 then p
  else
    let m := p384P
    let z1 := p.z * p.z % m
    let z2 := q.z * q.z % m
    let u1 := p.x * z2 % m
    let u2 := q.x * z1 % m
    let s1 := p.y * (q.z * z2 % m) % m
    let s2 := q.y * (p.z * z1 % m) % m
    if u1 = u2 then (if s1 = s2 then p.dbl else { x := 1, y := 1, z := 0 })
    else
      let h := subP u2 u1
      let r := subP s2 s1
      let hh := h * h % m
      let hhh := h * hh % m
      let v := u1 * hh % m
      let x3 := subP (subP (r * r % m) hhh) (2 * v % m)
      { x := x3, y := subP (r * subP v x3 % m) (s1 * hhh % m), z := p.z * q.z % m * h % m }

/-- A multiple of a point, over `fuel` bits. -/
def JPoint.mul : Nat → Nat → JPoint → JPoint
  | 0, _, _ => { x := 1, y := 1, z := 0 }
  | fuel + 1, k, p =>
    let r := JPoint.mul fuel (k / 2) p.dbl
    if k % 2 = 1 then JPoint.add r p else r

/-- A public key is a point of the curve. -/
def onCurve (x y : Nat) : Bool :=
  decide (x < p384P) && decide (y < p384P)
    && decide (y * y % p384P = (x * x % p384P * x + (p384P - 3) * x + p384B) % p384P)

/-- ECDSA P-384 over SHA-384: signature r, s and key x, y of 48 big-endian bytes each (R500). -/
def ecdsaVerify (key msg sig : Bytes) : Bool :=
  let x := beNat (key.take 48)
  let y := beNat (key.drop 48)
  let r := beNat (sig.take 48)
  let s := beNat (sig.drop 48)
  if decide (key.length = 96) && decide (sig.length = 96) && onCurve x y && decide (0 < r ∧ r < p384N)
      && decide (0 < s ∧ s < p384N) then
    let e := beNat (sha384 msg)
    let w := invMod s p384N
    let q := JPoint.add (JPoint.mul 384 (e * w % p384N) { x := p384Gx, y := p384Gy, z := 1 })
      (JPoint.mul 384 (r * w % p384N) { x := x, y := y, z := 1 })
    if q.z = 0 then false
    else
      let zi := invMod q.z p384P
      decide (q.x * (zi * zi % p384P) % p384P % p384N = r)
  else false

end Sys2Proof
end

