-- ==== Sys2Proof/Machine/Power.lean ====
section
/-! DEFINITION. Supplies, holdup, SLUMBER, wake, heat, the reset input, and the system commands (R57-R83, R118-R121,
R523). -/

namespace Sys2Proof.Machine

/-! ### Shared -/

/-- A presence gesture is valid: completed within the last 60 s and not consumed (R338). -/
def presenceValid (s : State) : Bool :=
  match s.panel.presence with
  | some a => decide (s.now < a + 60 * 10 ^ 9)
  | none => false

/-- The first action that requires the gesture consumes it (R338). -/
def consumePresence (s : State) : State := { s with panel.presence := none }

/-- Every debug session ends (R71, R511). -/
def endDebug (s : State) : State :=
  { s with sec.dbg := [], sec.dbgWait := 0#2, sec.extest := false, sec.stewardHalted := false, eng.halted := 0#16 }

/-- The engines stop: tasks that had not finished are abandoned and every bank is given back (R71 step 3, R156). -/
def stopEngines (s : State) : State :=
  let s1 := abandonAll s
  { s1 with eng.banks := [] }

/-- A select-before-operate slot out of IDLE is returned to IDLE without a record (R337). -/
def resetSlot (s : State) : State := { s with panel.slot := none, panel.slotState := 0 }

/-- Counts of the channels are saved (R323). -/
def saveCounts (s : State) : State :=
  { s with fld.savedCounts := (List.range 64).foldl (fun m c => m.set 0#32 c (s.chan c).count) s.fld.savedCounts }

/-- The charger regulates VHOLD to VHOLD_SET in RUN, and in SLUMBER until VHOLD is there (R62). -/
def regulate (s : State) : State :=
  { s with power.charging := decide (s.power.state = .run ∨ s.power.state = .slumber)
      && decide (s.power.vholdMv < 1000 * s.power.vholdSet) }

/-- The logic rails are on and its clocks wait to start: what a power-up leaves before the start-up table; SLOW may take XS again,
which is enabled anew where it is not READY (R60, R92, R93, R522). -/
def railsOn (kind : Restart) (s : State) : State :=
  let s1 := enableClocks (if clkReady s 2 then [1, 3] else [1, 2, 3]) s
  regulate { s1 with
    power.state := .run, power.service := if s.power.resetLow then .resetHeld else .booting
    power.startReady := false, power.restart := some kind, power.tripUntil := none, power.bootAt := s.now
    clk.xsWasReady := false, clk.monitorSwitched := false }

/-- The always-on domain begins to count: its clocks start (R89, R93, R120). -/
def alwaysOn (s : State) : State :=
  if s.power.vaonGood then s
  else enableClocks [0, 2] { s with power.vaonGood := true, cal.secondAt := s.now }

/-- The always-on domain resets: TIME_LOST, the calendar at 2000-01-01 on RC_SLOW, the counts it held lost; it counts on from here
while VAON stands (R120, R121, R578). -/
def alwaysOnLost (s : State) : State :=
  let s1 := latchTimeLost 0 { s with clk.slowRc := true }
  enableClocks [0, 2] { setCal 2000 1 1 0 0 0 s1 with
    cal.halted := false, cal.next := [], cal.reload := false, cal.trimPhase := 0, cal.leapAdj := 0
    clk.xsWasReady := false, clk.monitorSwitched := false, clk.xsFail := false
    clk.ready := s1.clk.ready &&& 0x3A#6
    time.setAt := 0, ev.seqNext := soeNext s
    sup.trips := 0, sup.tripAt := [], sup.tripLatched := none }

/-- VIN beyond the absolute maximum rating (R58). -/
def overstressed (vinMv : Nat) : Bool := decide (60000 < vinMv)

/-! ### VIN and VRTC -/

/-- VIN_GOOD: VIN rises; at 17.0 V it is good and the module starts from OFF or BACKUP; at 16.0 V or more a running qualification
ends (R60, R64, R65, R71). A HOLDUP that runs goes on (R72). -/
def vinGood (mv : Nat) (s : State) : State :=
  let s1 := { s with power.vinMv := mv, power.vinOk := s.power.vinOk || decide (17000 ≤ mv)
                     power.vinLowAt := if 16000 ≤ mv then none else s.power.vinLowAt
                     power.vaonIn := s.power.vaonIn || decide (17000 ≤ mv) }
  if (s.power.state = .off ∨ s.power.state = .backup) ∧ 17000 ≤ mv then
    railsOn .power (alwaysOn { s1 with power.holdupN := false })
  else s1

/-- VIN_GOOD. -/
def execVinGood (t vinMv : Nat) (s : State) : Result State :=
  if overstressed vinMv then .fault .overstress else .next (vinGood vinMv (advance t s))

/-- VIN_FALL: below 16.0 V the 200 µs qualification runs in RUN and SLUMBER, VIN is good no more, and VAON_IN goes (R60, R71,
R118). -/
def vinFall (mv : Nat) (s : State) : State :=
  if 16000 ≤ mv then { s with power.vinMv := mv, power.vinLowAt := none }
  else { s with
    power.vinMv := mv, power.vinOk := false, power.vaonIn := false
    power.vinLowAt := if s.power.vinLowAt.isSome then s.power.vinLowAt else some s.now }

/-- VIN_FALL. -/
def execVinFall (t vinMv : Nat) (s : State) : Result State :=
  if overstressed vinMv then .fault .overstress else .next (vinFall vinMv (advance t s))

/-- Steps 2 and 3 of the HOLDUP table: the charger stops, debug and tokens end, the engines stop and the regions are power-gated;
Rime runs on (R66, R71, R129, R266, R337, R406, R511, R573). HOT data that a SLUMBER entry has dumped is not dumped again (R70). -/
def holdupBegin (s : State) : State :=
  let dumped := decide (s.power.state = .slumber ∨ 3 ≤ s.power.slumberStep)
  let s1 := holdupCal (endDebug (resetSlot (clearValid s)))
  let s2 := stopEngines (holdAll { s1 with
    power.charging := false, power.holdupN := true, power.pwrGood := false, power.slumberReq := false
    power.slumberStep := 0, power.waking := false, power.holdupSlumber := dumped
    sup.tallyOn := false, sec.token := none, host.stream := {} })
  noteState s { s2 with power.state := .holdup, eng.regions := [] }

/-- Steps 4 to 6: the event FIFO goes to the SOE log, HOT data is dumped with its marker while VHOLD lasts, and Rime stops (R71,
R72, R266, R323). -/
def holdupDump (s : State) : State :=
  let s1 := powerDump s.power.holdupSlumber (saveCounts s)
  { s1 with rime.mode := 0 }

/-- Steps 2 to 6 of the HOLDUP table, as a low RESET_N runs them too (R71, R523). -/
def holdupSteps (s : State) : State := holdupDump (holdupBegin s)

/-- The always-on rail has a source: VAON_IN, or VRTC at 1.6 V or more (R64, R118). DESIGN CHOICE: within the 1.58-1.62 V of
R119 the detector trips below 1.60 V, its typical value, which is the 1.6 V of R64 (log entry 45). -/
def vaonFed (s : State) : Bool := s.power.vaonIn || decide (1600 ≤ s.power.vrtcMv)

/-- VAON falls below the detector threshold: the always-on domain resets; with VIN below 16.0 V the module is OFF, else VAON_IN takes
over and the domain counts on from here (R65, R120, R121). -/
def vaonLost (s : State) : State :=
  let s1 := alwaysOnLost s
  if 16000 ≤ s.power.vinMv then s1
  else { s1 with power.vaonGood := false, power.state := if s.power.state = .backup then .off else s.power.state }

/-- The logic rails go off: BACKUP or OFF as VAON stands; a die without VFLD loses its power (R61, R64, R65, R71 step 7). -/
def railsOff (s : State) : State :=
  let s1 := { s with
    power.state := .backup, power.service := .booting, power.startReady := false, power.restart := none
    power.vaonIn := decide (16000 ≤ s.power.vinMv), time.running := false, clk.ready := s.clk.ready &&& 5#6
    host.works := [], host.mb := [], host.irq := 0#32, sec.sessions := [] }
  let s2 := { s1 with fld.dies := s1.fld.dies.over {} (fun _ d => { d with powered := d.powered && decide (d.vfldMv ≠ 0) })
                        [0, 1, 2, 3] }
  if vaonFed s2 then s2 else vaonLost s2

/-- Steps 4 to 7: the dump, then start-up if VIN is good, else rails off (R65, R71, R72). -/
def holdupEnd (s : State) : State :=
  let s1 := { holdupDump s with power.vinLowAt := none }
  if s1.power.vinOk then railsOn .holdup { s1 with power.holdupN := false } else railsOff s1

/-- HOLDUP_ENTRY: VIN below 16.0 V for 200 µs runs HOLDUP through step 7. DESIGN CHOICE: with `through` false the command ends
after step 3, so that what comes about in HOLDUP (a request, VHOLD_COLLAPSE, VIN_GOOD) can be commanded before the next
HOLDUP_ENTRY ends it (R65, R70-R73; log entry 45). -/
def holdupEntry (through : Bool) (s : State) : State :=
  if s.power.state = .holdup then holdupEnd s
  else match s.power.vinLowAt with
  | none => s
  | some a =>
    if (s.power.state = .run ∨ s.power.state = .slumber) ∧ passed s.now a 200000 then
      (if through then holdupEnd (holdupBegin s) else holdupBegin s)
    else s

/-- HOLDUP_ENTRY. -/
def execHoldupEntry (run : HoldupRun) (s : State) : Result State := .next (holdupEntry run.through (advance run.t s))

/-- Capacitance in force in µF: as last measured, before that C_BOARD_UF (R63, R82). -/
def capUf (s : State) : Nat := s.power.cMeasuredUf.getD s.power.cBoardUf

/-- The reserve 0.85 × ½ × C × (VHOLD² − 12²) in units of 10⁻¹⁵ J: µF and mV (R63). -/
def reserveUnits (cUf vMv : Nat) : Nat := 425 * cUf * (vMv * vMv - 144000000)

/-- The reserve in units of 0.1 mJ, rounded down and saturating (R80). -/
def reserve01mJ (s : State) : Nat := min 65535 (reserveUnits (capUf s) s.power.vholdMv / 10 ^ 11)

/-- The reserve is judged: below 20.4 mJ the flag is set, with its finding as it begins (R63, R82). -/
def judgeReserve (s : State) : State :=
  let low := decide (reserveUnits (capUf s) s.power.vholdMv < 204 * 10 ^ 11)
  let s1 := { s with power.reserveLow := low }
  if low && !s.power.reserveLow then logFault 0x32 2 (whr 4 0 0) (w32 (reserve01mJ s1)) 0#32 s1 else s1

/-- VHOLD_COLLAPSE: VHOLD has fallen; below 12 V no commit marker is written. Outside HOLDUP the charger works against it and the
reserve is judged (R62, R63, R72). -/
def vholdCollapse (mv : Nat) (s : State) : State :=
  let s1 := { s with power.vholdMv := mv }
  if s.power.state = .run ∨ s.power.state = .slumber then judgeReserve (regulate s1) else s1

/-- VHOLD_COLLAPSE. -/
def execVholdCollapse (t vholdMv : Nat) (s : State) : Result State := .next (vholdCollapse vholdMv (advance t s))

/-- VAON_HANDOVER: with VIN at 16.0 V or more VAON_IN takes over; the count is not disturbed (R118, R121). -/
def execVaonHandover (t : Nat) (s : State) : Result State :=
  let s := advance t s
  .next (if 16000 ≤ s.power.vinMv then alwaysOn { s with power.vaonIn := true } else s)

/-- VRTC_APPLIED: a VRTC that brings VAON to 1.6 V or more leads from OFF to BACKUP; TIME_LOST stays latched (R65). -/
def vrtcApplied (mv : Nat) (s : State) : State :=
  let s1 := { s with power.vrtcMv := mv }
  if s.power.state = .off ∧ 1600 ≤ mv then alwaysOn { s1 with power.state := .backup } else s1

/-- VRTC_APPLIED. -/
def execVrtcApplied (t vrtcMv : Nat) (s : State) : Result State :=
  if 4000 < vrtcMv then .fault .overstress else .next (vrtcApplied vrtcMv (advance t s))

/-- TIME_LOST_DETECT: VAON, fed from VRTC, falls below the detector threshold before VAON_IN takes over (R119-R121). -/
def timeLostDetect (mv : Nat) (s : State) : State :=
  let s1 := { s with power.vrtcMv := mv }
  if s.power.vaonGood && !vaonFed s1 then vaonLost s1 else s1

/-- TIME_LOST_DETECT. -/
def execTimeLostDetect (t vrtcMv : Nat) (s : State) : Result State := .next (timeLostDetect vrtcMv (advance t s))

/-! ### Reset input (R523) -/

/-- RESET_N_ASSERT: steps 2 to 6 of HOLDUP run, then the logic die stays in reset; the field dies do not. -/
def resetAssert (s : State) : State :=
  let s0 := { s with power.resetLow := true }
  if s.power.resetLow then s0
  else if s.power.state = .run ∨ s.power.state = .slumber then
    let s1 := if s.power.service = .booting ∨ s.power.service = .resetHeld then s0 else holdupSteps s0
    { s1 with power.state := .run, power.service := .resetHeld, power.startReady := false, time.running := false
              power.restart := some (if s.power.service = .booting then s.power.restart.getD .resetN else .resetN)
              power.holdupN := s.power.holdupN }
  else s0

/-- RESET_N_ASSERT. -/
def execResetNAssert (t : Nat) (s : State) : Result State := .next (resetAssert (advance t s))

/-- RESET_N_RELEASE: start-up resumes at step 2 (R523). -/
def execResetNRelease (t : Nat) (s : State) : Result State :=
  let s := advance t s
  let s1 := { s with power.resetLow := false }
  .next (if s.power.state = .run ∧ s.power.service = .resetHeld ∧ !s.clk.rcHold then
      { s1 with power.service := .booting, power.bootAt := s.now } else s1)

/-! ### SLUMBER (R67-R70) -/

/-- Steps 1 to `k` of SLUMBER entry, from the step an entry that a VIN drop stopped had reached: with every task finished, the dies
are placed in hold, and HOT data is dumped with its marker (R68, R70). -/
def slumberSteps (k : Nat) (s : State) : State :=
  let from0 := s.power.slumberStep
  let s1 := if from0 < 1 ∧ 1 ≤ k then abandonAll s else s
  let s2 := if from0 < 2 ∧ 2 ≤ k then holdAll s1 else s1
  let s3 := if from0 < 3 ∧ 3 ≤ k then writeDump true true (foldAll s2) else s2
  { s3 with power.slumberStep := max from0 k }

/-- Step 4: the clocks stop. The sources are acquired anew after the wake, and stamps carry holdover or FREE from here on (R64,
R66, R68, R96, R112, R113, R266). -/
def slumberStop (s : State) : State :=
  let held := decide (s.time.state = 2 ∨ s.time.state = 3)
  let s1 := if s.time.state = 2 then loseLock s else s
  regulate { s1 with
    power.state := .slumber, power.slumberReq := false, power.slumberStep := 0, power.slumberAt := s.now
    time.heldAtEntry := held, time.src := [], time.masters := []
    clk.ready := s1.clk.ready &&& 5#6, clk.pllNetAt := none
    rime.mode := 0, sup.tallyOn := false, panel.presHold := none }

/-- SLUMBER_ENTRY: at the BASE boundary, with no task running, the steps of R68 run; a wake kept meanwhile follows at once. With
`drop` VIN falls after so many steps, which stops the entry (R64, R68, R70). -/
def slumberEntry (drop : Option (Fin 4 × Nat)) (s : State) : State :=
  let busy := s.scan.tasks.any fun p => p.2.state = .running
  if !s.power.slumberReq || s.power.state ≠ .run || !boundary s || busy || s.power.vinLowAt.isSome then s
  else match drop with
  | some (k, mv) => vinFall mv (slumberSteps k s)
  | none =>
    let s1 := slumberStop (slumberSteps 3 s)
    let s2 := noteState s s1
    if s.power.keptWake = .none then s2 else wakeUp s.power.keptWake s2

/-- SLUMBER_ENTRY. -/
def execSlumberEntry (run : SlumberRun) (s : State) : Result State :=
  .next (slumberEntry run.drop (advance run.t s))

/-- WAKE_N_LOW: WAKE_N low for at least 1 µs wakes the module where WAKE_FLAGS[0] is set; it is the event source EV079 (R69,
R106, R108). -/
def execWakeNLow (t lowNs : Nat) (s : State) : Result State :=
  let s := advance t s
  let s1 := originEdge 79 0 0#32 s
  .next (if decide (1000 ≤ lowNs) && s1.power.wakeFlags.getLsbD 0 then wakeBy .wakeN s1 else s1)

/-- ALARM_TAI_WAKE: TAI has reached ALARM_TAI (R69, R81). -/
def execAlarmTaiWake (t : Nat) (s : State) : Result State :=
  let s := advance t s
  .next (if s.power.alarmTai ≠ 0 ∧ s.power.alarmTai ≤ s.time.tai then wakeBy .alarm s else s)

/-! ### Holdup controller (R62, R63) -/

/-- HOLDUP_CHARGE_DONE: the capacitance is measured from the charge time, and the reserve is judged (R62, R63, R427). DESIGN
CHOICE: the measured capacitance is taken in whole µF, rounded down, as SYS_STATE_GET reports it (log entry 45). -/
def holdupChargeDone (fromMv toMv chargeUs : Nat) (s : State) : State :=
  let s0 := regulate { s with power.vholdMv := toMv }
  if toMv ≤ fromMv then judgeReserve s0
  else judgeReserve { s0 with power.cMeasuredUf := some (s.power.chargeMa * chargeUs / (toMv - fromMv)) }

/-- HOLDUP_CHARGE_DONE. -/
def execHoldupChargeDone (t fromMv toMv chargeUs : Nat) (s : State) : Result State :=
  .next (holdupChargeDone fromMv toMv chargeUs (advance t s))

/-! ### Heat (R75, R76) -/

/-- THERMAL_WARN: a die sensor at 110 °C or more sets the flag and raises EV086; the profile is untouched (R75, R76, R106). DESIGN
CHOICE: the spec does not say when the flag clears; it clears at a THERMAL_WARN that leaves every die below 110 °C, with no
hysteresis (log entry 45). -/
def thermalWarn (die : Nat) (temp : Int) (s : State) : State :=
  let s1 := { s with power.temps := s.power.temps.set 0 die temp }
  let warn := (List.range 7).any fun k => decide (110 ≤ s1.power.temps.get 0 k)
  let s2 := { s1 with power.thermalWarn := warn }
  if warn && !s.power.thermalWarn then
    raiseNow 86 0 (w32 die) (logFault 0x31 0 (whr 3 die 0) (w32 die) (BitVec.ofInt 32 temp) s2)
  else s2

/-- THERMAL_WARN. -/
def execThermalWarn (t : Nat) (die : Fin 7) (temp : Int) (s : State) : Result State :=
  let s := advance t s
  .next (if serving s || decide (s.power.state = .slumber) then thermalWarn die temp s else s)

/-- DIE_OVERTEMP: the logic, MRAM or flash die at 125 °C is a module-level failure, whatever the logic side does; a module in
SLUMBER handles it in RUN (R37, R75, R76). -/
def dieOvertemp (die : Nat) (temp : Int) (s : State) : State :=
  if s.power.state ≠ .run ∧ s.power.state ≠ .slumber then s
  else
    let s1 := thermalWarn die temp s
    if 125 ≤ temp then
      noteState s (moduleFailure 0x31
        (logFault 0x31 3 (whr 3 die 0) (w32 die) (BitVec.ofInt 32 temp) { s1 with power.state := .run }))
    else s1

/-- DIE_OVERTEMP. -/
def execDieOvertemp (t : Nat) (die : Fin 3) (temp : Int) (s : State) : Result State :=
  .next (dieOvertemp die temp (advance t s))

/-! ### System commands (R78-R83) -/

/-- The identity public key as it is sent: 96 bytes (R500). -/
def idPub : Bytes := slice Config.identityKey 0 96

/-- IDENT: SHA-384 of the identity public key (R500). -/
def ident : Bytes := sha384 idPub

/-- Firmware versions of the bank in force (R78, R538). -/
def fwNow (s : State) : List Word := if s.upd.active = 1 then s.upd.fwB else s.upd.fwA
/-- The firmware version of a field die in the bank in force (R537). -/
def dieFw (s : State) (n : Nat) : Word := (fwNow s).getD (2 + n) 0#32

/-- A role's code (R78). -/
def roleCode : Role → Nat
  | .solo => 0 | .keeper => 1 | .apprentice => 2 | .station => 3

/-- A lifecycle state's code (R78). -/
def lifeCode : Lifecycle → Nat
  | .blank => 0 | .commission => 1 | .sealed => 2 | .locked => 3 | .retired => 4

/-- SYS_INFO's answer (R78). -/
def sysInfo (_w : Work) (s : State) : Reply × State :=
  (.done DONE (leBytes 2 0x9664 ++ leBytes 1 0xB1 ++ leBytes 1 (roleCode s.pair.role) ++ leBytes 1 (lifeCode s.sec.life)
    ++ leBytes 1 (bit s.power.hostQspi) ++ leBytes 1 (bit s.power.vio33) ++ leBytes 1 (bit s.pair.seed)
    ++ leBytes 4 ((fwNow s).getD 0 0#32).toNat ++ leBytes 4 ((fwNow s).getD 1 0#32).toNat ++ ident.take 16
    ++ leBytes 4 s.bcr.crc.toNat ++ leBytes 4 s.sec.serial.toNat), s)

/-- SYS_INFO (R78). -/
def execSysInfo (t : Nat) (mb : Fin 8) (s : State) : Result State := .next (runCommand t mb 0x0101 sysInfo s)

/-- The worst cases of a profile fit the maximum BASE cycle in force and every period (R49, R182). -/
def profileFits (s : State) (p : Nat) : Bool :=
  (partition s).tasks.all fun d =>
    if d.num = 0 then decide (d.worstUs.getD p 0 ≤ (cfgOf s 0).timeUs.getD d.baseMaxUs)
    else !isPeriodicTask d.num || decide (d.worstUs.getD p 0 ≤ periodUs s d)

/-- An edit is in progress (R67, R79). -/
def editBusy (s : State) : Bool := decide (1 ≤ s.edit.state ∧ s.edit.state ≤ 3)

/-- An update is being received, verified, activated or tried (R67, R544). -/
def updBusy (s : State) : Bool := decide (1 ≤ s.upd.state ∧ s.upd.state ≤ 4)

/-- SYS_PROFILE_SET's effect: the change waits for the BASE boundary; a KEEPER's goes to both (R49, R79). -/
def sysProfileSet (w : Work) (s : State) : Reply × State :=
  let p := min 2 (field w.payload 0 1 1)
  checked
    [(s.ps.prog.isNone || isApprentice s || inHoldup s || !profileFits s p, WRONG_STATE),
     (editBusy s || decide (s.upd.state = 3), BUSY)]
    (.later, forward 0x0102 (leBytes 1 p) { s with scan.bnd := s.scan.bnd ++ [.profile p w.wid] }) s

/-- SYS_PROFILE_SET (R79). -/
def execSysProfileSet (t : Nat) (mb : Fin 8) (s : State) : Result State := .next (runCommand t mb 0x0102 sysProfileSet s)

/-- PAIRED regions by physical number (R80). -/
def pairedMask (s : State) : Nat := ((List.range 4).map fun p =>
  if s.power.retired.getLsbD p then 0 else 2 ^ p * bit (isPaired s p)).sum

/-- A field die reports (R80, R319). -/
def dieReports (s : State) (d : Nat) : Bool := (s.die d).powered && !(s.die d).lost && !(s.die d).fwRestart

/-- SYS_STATE_GET's answer (R80). -/
def sysStateGet (_w : Work) (s : State) : Reply × State :=
  let flags := bit s.power.reserveLow + 2 * bit s.power.thermalWarn
    + ((List.range 4).map fun d => 2 ^ (2 + d) * bit (s.die d).vfldLow).sum + 64 * bit (decide (36000 < s.power.vinMv))
  (.done DONE (leBytes 1 (if inHoldup s then 2 else 0) ++ leBytes 1 (bit (decide (s.power.service = .full)))
    ++ leBytes 1 s.power.profile ++ leBytes 1 (pairedMask s + 16 * s.power.retired.toNat) ++ leBytes 2 s.power.vinMv
    ++ leBytes 2 s.power.vholdMv ++ leBytes 2 s.power.vrtcMv ++ leBytes 2 (wakeCode s.power.lastWake)
    ++ ((List.range 4).flatMap fun d => leBytes 2 (if dieReports s d then (s.die d).vfldMv else 0))
    ++ leBytes 2 (reserve01mJ s) ++ leBytes 2 (s.power.cMeasuredUf.getD 0)
    ++ ((List.range 7).flatMap fun k => leInt 1 (s.power.temps.get 0 k)) ++ zeros 1 ++ leBytes 4 flags), s)

/-- SYS_STATE_GET (R80). -/
def execSysStateGet (t : Nat) (mb : Fin 8) (s : State) : Result State := .next (runCommand t mb 0x0103 sysStateGet s)

/-- Some ring station is configured (R67). -/
def anyStation (s : State) : Bool := (List.range 62).any fun i => (stationCfg s (i + 1)).enable

/-- The image has a REFLEX, MERGED or SAF channel (R67). -/
def hasReflex (s : State) : Bool :=
  (List.range 64).any fun c =>
    decide (ownMode ((prog s).owner.get 0x40#32 c) ≠ 0) || modeBit (chanCfg s c) 2

/-- SYS_SLUMBER's effect: its values are taken and the entry waits for the BASE boundary (R67, R68, R81). DESIGN CHOICE: the card
names no condition for BUSY; it is the answer while an accepted entry still waits (log entry 45). -/
def sysSlumber (w : Work) (s : State) : Reply × State :=
  let p := w.payload
  let ev := BitVec.ofNat 128 (field p 0 16 0)
  let alarm := field p 0x10 8 0
  let alarm := if alarm ≠ 0 ∧ alarm < s.time.tai + 10 ^ 7 then s.time.tai + 10 ^ 7 else alarm
  let flags := field p 0x18 1 7 % 8
  let flags := if ev = 0#128 ∧ alarm = 0 ∧ flags = 0 then 2 else flags
  checked
    [(!isSolo s || anyStation s || hasReflex s || editBusy s || updBusy s || inHoldup s, WRONG_STATE),
     (s.power.slumberReq, BUSY)]
    (.done DONE (leBytes 16 ev.toNat ++ leBytes 8 alarm ++ leBytes 1 flags),
      { s with power.wakeEv := ev, power.alarmTai := alarm, power.wakeFlags := BitVec.ofNat 8 flags
               power.slumberReq := true, power.keptWake := .none }) s

/-- SYS_SLUMBER (R81). -/
def execSysSlumber (t : Nat) (mb : Fin 8) (s : State) : Result State := .next (runCommand t mb 0x0104 sysSlumber s)

/-- SYS_HOLDUP_CFG's effect and answer (R62, R82). -/
def sysHoldupCfg (w : Work) (s : State) : Reply × State :=
  let p := w.payload
  let v := clamp 20 34 (field p 0 1 34)
  let ma := clamp 50 400 (field p 2 2 200) / 50 * 50
  let c := clamp 47 4700 (field p 4 2 470)
  let s1 := judgeReserve (regulate
    { s with power.vholdSet := v, power.chargeMa := ma, power.cBoardUf := c, power.holdupCfgSet := true })
  checked [(inHoldup s, WRONG_STATE)]
    (.done DONE (leBytes 1 v ++ zeros 1 ++ leBytes 2 ma ++ leBytes 2 c ++ leBytes 2 (reserve01mJ s1)
      ++ leBytes 2 (s1.power.cMeasuredUf.getD 0)), s1) s

/-- SYS_HOLDUP_CFG (R82). -/
def execSysHoldupCfg (t : Nat) (mb : Fin 8) (s : State) : Result State := .next (runCommand t mb 0x0105 sysHoldupCfg s)

/-- Steps 3 to 6 of the HOLDUP table, before a restart that keeps the rails: no task runs on, HOT data is dumped and every
field die holds; START_UP follows (R31, R83). -/
def goDown (kind : Restart) (s : State) : State :=
  let s1 := stopEngines (holdAll (clearValid { s with power.restart := some kind, sup.tallyOn := false }))
  powerDump false (saveCounts s1)

/-- The kind of restart of a SYS_RESTART mode (R83). -/
def restartKind : Nat → Restart
  | 1 => .cold | 2 => .recovery | _ => .warm

/-- SYS_RESTART's effect: in a pair with an APPRENTICE in step the restart waits for the takeover (R83, R528). -/
def sysRestart (w : Work) (s : State) : Reply × State :=
  let mode := if 2 < field w.payload 0 1 0 then 0 else field w.payload 0 1 0
  let force := field w.payload 1 1 0 % 2
  let life := s.sec.life
  let inStep := s.pair.state = 3
  let wait := isKeeper s && inStep
  let s0 := if mode = 2 ∧ life = .sealed then consumePresence s else s
  let s1 := if wait then clearValid { s0 with power.restartAfterTakeover := some (restartKind mode) }
    else goDown (restartKind mode) s0
  checked
    [(decide (mode = 2) && (life = .locked || life = .retired || (life = .sealed && !presenceValid s)), NOT_PERMITTED),
     (inHoldup s || (isKeeper s && !inStep && decide (force = 0)), WRONG_STATE), (decide (s.upd.state = 3), BUSY)]
    (.done DONE (leBytes 1 mode ++ leBytes 1 force), s1) s

/-- SYS_RESTART (R83). -/
def execSysRestart (t : Nat) (mb : Fin 8) (s : State) : Result State := .next (runCommand t mb 0x0106 sysRestart s)

end Sys2Proof.Machine
end

