-- ==== Sys2Proof/Machine/Panel.lean ====
section
/-! DEFINITION. The operator panel: debounce and supervision, the local/remote switch, select-before-operate, the presence
gesture, LEDs, and the panel commands (R328-R343). -/

namespace Sys2Proof.Machine

/-! ### Inputs -/

/-- An input's number: keys 0-63, touch 64-71, plugs 72-75, LR_LOCAL 76, LR_REMOTE 77, USB_VBUS 78. -/
def inputNo : PanelInput → Nat
  | .key k => k | .touch k => 64 + k | .tplug k => 72 + k | .lrLocal => 76 | .lrRemote => 77 | .usbVbus => 78

/-- The state a land's level means: a plug and a switch line are active low (R328, R332). -/
def inputState (n : Nat) (level : Bool) : Nat := if 72 ≤ n ∧ n ≤ 77 then bit (!level) else bit level

/-- The event source of an input (R328). -/
def inputSource (n : Nat) : Nat := if n < 64 then 64 else if n < 76 then n + 1 else if n < 78 then 77 else 78

/-- An input's debounced state. -/
def panelKey (s : State) (n : Nat) : Key := s.panel.keys.get {} n
/-- An input's state is replaced. -/
def setKey (n : Nat) (k : Key) (s : State) : State := { s with panel.keys := s.panel.keys.set {} n k }

/-- The input is sampled: in RUN, and in SLUMBER where its source may wake the module (R328). -/
def sampled (s : State) (n : Nat) : Bool :=
  serving s || (inRun s && s.power.recoveryWait)
    || (s.power.state = .slumber && (s.power.wakeEv.getLsbD (inputSource n) || (n = 78 && s.power.wakeFlags.getLsbD 2)))

/-- A new state of an input begins its debounce; its first sample is the edge that is stamped, in SLUMBER by an interpolator, or at
the next tick when none is free (R108, R329). -/
def beginKey (n st : Nat) (s : State) : State :=
  let k := panelKey s n
  if s.power.state ≠ .slumber then setKey n { k with cand := some (st, s.now), samples := 1, flags := 0#8 } s
  else if interpFree s 4 then
    startInterp 4 (128 + n) 0 0#32 (setKey n { k with cand := some (st, s.now), samples := 1, flags := 1#8 } s)
  else setKey n { k with cand := some (st, s.now + nextTick s), samples := 1, flags := 2#8 } s

/-- A sample of an input: a new state starts its debounce, the confirmed state ends it (R329, R331). A faulted key takes
nothing but OPEN. -/
def sampleKey (n st : Nat) (s : State) : State :=
  let k := panelKey s n
  if st = k.state ∨ (k.state = 2 ∧ st = 1) then setKey n { k with cand := none, samples := 0 } s
  else match k.cand with
    | some (c, a) => if c = st then setKey n { k with cand := some (c, a), samples := k.samples + 1 } s
        else beginKey n st s
    | none => beginKey n st s

/-- Debounce of an input in ns; a touch key is confirmed by its samples (R328). -/
def debounceNs (s : State) (n : Nat) : Nat := if n < 64 then 10 ^ 6 * s.panel.debounceMs else 2 * 10 ^ 7

/-- The change under debounce is due (R328). -/
def dueKey (s : State) (n : Nat) : Bool :=
  let k := panelKey s n
  match k.cand with
  | some (_, a) => if 64 ≤ n ∧ n < 72 then decide (3 ≤ k.samples) else passed s.now a (debounceNs s n)
  | none => false

/-! ### Records -/

/-- A panel record with the stamp of an instant in the past (R329). -/
def panelRec (src kind data at1 : Nat) (s : State) : EvRec :=
  { stampNow src kind (w32 data) s with tai := s.time.tai + at1 - s.now }

/-- A KIND 6 record of the panel on EV064 (R330). -/
def panelEvent (slot event at1 : Nat) (s : State) : State := raise (panelRec 64 6 (65536 * slot + 1048576 * event) at1 s) s

/-! ### Select-before-operate (R335-R337) -/

/-- A slot's record. -/
def sboSlot (s : State) (i : Nat) : SboSlot := (prog s).sbo.get {} i
/-- SEL_WINDOW in ns (R335). -/
def selWindow (s : State) (i : Nat) : Nat := 10 ^ 6 * clamp 1000 120000 (sboSlot s i).selWindowMs
/-- EXEC_WINDOW in ns (R335). -/
def execWindow (s : State) (i : Nat) : Nat := 10 ^ 6 * clamp 100 60000 (sboSlot s i).execWindowMs

/-- The slots whose SELECT_KEY is among some keys. -/
def selectedBy (s : State) (ks : List Nat) : List Nat :=
  (List.range 16).filter fun i => (sboSlot s i).selectKey ≠ 0xFF && ks.contains (sboSlot s i).selectKey

/-- The slot returns to IDLE with a record (R336). -/
def slotIdle (event at1 : Nat) (s : State) : State :=
  match s.panel.slot with
  | some i => resetSlot (panelEvent i event at1 s)
  | none => s

/-- REFUSED for some slots (R336). -/
def refuse (is : List Nat) (at1 : Nat) (s : State) : State := is.foldl (fun s i => panelEvent i 5 at1 s) s

/-- The select or execute window that runs, on MONO: its end and the event that its end is (R336). -/
def slotEnd (s : State) (i : Nat) : Nat × Nat :=
  if s.panel.slotState = 1 then (s.panel.slotAt + selWindow s i, 4) else (s.panel.slotAt + execWindow s i, 6)

/-- A window that has run by an instant of MONO returns the slot to IDLE, with the stamp of its end (R336, R337). -/
def settleSlot (mono : Nat) (s : State) : State :=
  match s.panel.slot with
  | some i =>
    let (e, event) := slotEnd s i
    if e ≤ mono then slotIdle event (s.now - (s.time.mono - e)) s else s
  | none => s

/-- Presses confirmed in one sample, with the instant of their first sample, act on the slots as a window that had run by then left
them; their stamps are on MONO (R336, R337). -/
def sboPress (ks : List Nat) (at1 : Nat) (s0 : State) : State :=
  if !fullService s0 ∨ s0.ps.prog.isNone then s0
  else
    let mono := s0.time.mono - (s0.now - at1)
    let s := settleSlot mono s0
    let sel := selectedBy s ks
    match s.panel.slot with
    | none =>
      match sel with
      | [i] =>
        if (sboSlot s i).localOnly && s.panel.lr ≠ 1 then refuse [i] at1 s
        else { panelEvent i 1 at1 s with panel.slot := some i, panel.slotState := 1, panel.slotAt := mono }
      | _ => refuse sel at1 s
    | some i =>
      let c := sboSlot s i
      let both := decide (2 ≤ sel.length)
      let s1 : State :=
        if s.panel.slotState ≠ 1 then s
        else if (ks.contains c.selectKey && !both) || (c.cancelKey ≠ 0xFF && ks.contains c.cancelKey) then slotIdle 3 at1 s
        else if c.execKey ≠ 0xFF && ks.contains c.execKey then
          { panelEvent i 2 at1 s with panel.slotState := 2, panel.slotAt := mono }
        else s
      refuse (sel.filter fun j => j ≠ i || both) at1 s1

/-- A key faults: the slot it belongs to is cancelled while SELECTED (R336). -/
def sboFault (n : Nat) (s : State) : State :=
  match s.panel.slot with
  | some i =>
    let c := sboSlot s i
    if s.panel.slotState = 1 ∧ (c.selectKey = n ∨ c.execKey = n ∨ c.cancelKey = n) then slotIdle 3 s.now s else s
  | none => s

/-- The switch leaves LOCAL: a LOCAL_ONLY slot is cancelled while SELECTED (R336). -/
def sboLocal (s : State) : State :=
  match s.panel.slot with
  | some i => if s.panel.slotState = 1 ∧ (sboSlot s i).localOnly ∧ s.panel.lr ≠ 1 then slotIdle 3 s.now s else s
  | none => s

/-! ### Presence (R338) -/

/-- A key is pressed. -/
def pressed (s : State) (n : Nat) : Bool := decide ((panelKey s n).state = 1)

/-- The gesture follows the keys, `at1` the instant of their last change: it starts with both presence keys closed and no other key
pressed, and a third key during the hold aborts it until both are released. Gestures are recognised in full service, and by the
recovery ROM at start-up (R338, R528). -/
def trackPresence (at1 : Nat) (s : State) : State :=
  let a := pressed s s.bcr.presKeyA
  let b := pressed s s.bcr.presKeyB
  let other := (List.range 72).any fun n => n ≠ s.bcr.presKeyA && n ≠ s.bcr.presKeyB && pressed s n
  if !a && !b then { s with panel.presHold := none, panel.presAborted := false }
  else if a && b && !s.panel.presAborted && (fullService s || s.power.recoveryWait) then
    if other then { s with panel.presAborted := s.panel.presHold.isSome, panel.presHold := none }
    else if s.panel.presHold.isSome then s
    else
      let since := max at1 (max (panelKey s s.bcr.presKeyA).pressAt (panelKey s s.bcr.presKeyB).pressAt)
      { s with panel.presHold := some since }
  else { s with panel.presHold := none }

/-! ### Confirmation -/

/-- A record whose edge was stamped in SLUMBER carries that stamp's flags (R107). -/
def edgeFlags (f : Byte) (r : EvRec) : EvRec := if f = 0#8 then r else { r with flags := f }

/-- The local/remote position after its lines: one clean position, or the same on both (R332). -/
def lrUpdate (f : Byte) (at1 : Nat) (s : State) : State :=
  let l := pressed s 76
  let r := pressed s 77
  if l = r then { s with panel.lrSameAt := if s.panel.lrSameAt.isSome then s.panel.lrSameAt else some at1 }
  else
    let pos := if l then 1 else 2
    let s1 := { s with panel.lrSameAt := none, panel.lr := pos }
    if s.panel.lr = pos then s1 else sboLocal (raise (edgeFlags f (panelRec 77 6 pos at1 s1)) s1)

/-- A confirmed change takes effect and is recorded (R328-R332). -/
def takeChange (n : Nat) (s : State) : State :=
  let k := panelKey s n
  match k.cand with
  | none => s
  | some (st, a) =>
    let s1 := setKey n { k with cand := none, samples := 0, state := st, pressAt := if st = 1 then a else k.pressAt } s
    if n < 64 then
      if st = 1 then raise (edgeFlags k.flags <| panelRec 64 2 n a s1) s1
      else if st = 0 then (if k.state = 1 then raise (edgeFlags k.flags <| panelRec 64 3 n a s1) s1 else s1)
      else
        let s2 := { s1 with panel.faults := s1.panel.faults ||| (1#64 <<< n) }
        sboFault n (if k.state = 1 then raise (edgeFlags k.flags <| panelRec 64 3 (n + 512) a s2) s2 else s2)
    else if n < 76 then raise (edgeFlags k.flags <| panelRec (inputSource n) (1 - st) 0 a s1) s1
    else if n < 78 then lrUpdate k.flags a s1
    else
      let s2 := { s1 with host.usb := s1.host.usb || decide (st = 1) }
      raise (edgeFlags k.flags <| panelRec 78 (1 - st) 0 a s2) s2

/-- The wake that a confirmed change of an input makes: a plug of USB, not its removal, and an enabled source (R69, R328). -/
def panelWake (n : Nat) (s : State) : State :=
  if n = 78 ∧ (panelKey s 78).state = 1 ∧ s.power.wakeFlags.getLsbD 2 then wakeBy .usbPlug s
  else if s.power.wakeEv.getLsbD (inputSource n) then wakeBy (.event (inputSource n)) s else s

/-- Changes whose first sample was the same are confirmed together (R337). -/
def confirmTogether (ns : List Nat) (at1 : Nat) (s : State) : State :=
  let presses := ns.filter fun n => decide (n < 72) && ((panelKey s n).cand.map Prod.fst) = some 1
  let s1 := ns.foldl (fun s n => takeChange n s) s
  let s2 := trackPresence at1 (if presses = [] then s1 else sboPress presses at1 s1)
  ns.foldl (fun s n => panelWake n s) s2

/-- First-sample instant of a change under debounce. -/
def candAt (s : State) (n : Nat) : Option Nat := (panelKey s n).cand.map Prod.snd

/-- A change that is due is confirmed, with every key and touch change due from the same sample. -/
def confirm (n : Nat) (s : State) : State :=
  if !sampled s n || !dueKey s n then s
  else
    let mates := (List.range 72).filter fun m => m ≠ n && dueKey s m && candAt s m = candAt s n
    confirmTogether (if n < 72 then (n :: mates).mergeSort else [n]) ((candAt s n).getD s.now) s

/-- PANEL_DEBOUNCE_CONFIRM. -/
def execPanelDebounceConfirm (t : Nat) (inp : PanelInput) (s : State) : Result State :=
  .next (confirm (inputNo inp) (advance t s))

/-- State of a cross-point class: pressed, released, fault (R331). -/
def classState : KeyClass → Nat
  | .closed => 1 | .openKey => 0 | .broken => 2 | .faulty => 2

/-- KEY_MATRIX_SCAN: a row is measured; changes whose debounce has run are confirmed by the sample (R328, R331). -/
def keyMatrixScan (row : Nat) (classes : List KeyClass) (s : State) : State :=
  let cols := (List.range 8).filter fun c => s.panel.populated.getLsbD (8 * row + c) && sampled s (8 * row + c)
  let s1 := cols.foldl (fun s c =>
    match classes[c]? with
    | some x => sampleKey (8 * row + c) (classState x) s
    | none => s) s
  cols.foldl (fun s c => confirm (8 * row + c) s) s1

/-- KEY_MATRIX_SCAN. -/
def execKeyMatrixScan (t : Nat) (row : Fin 8) (classes : List KeyClass) (s : State) : Result State :=
  .next (keyMatrixScan row classes (advance t s))

/-- PANEL_INPUT_SAMPLE: an input that is not of the matrix is sampled; `level` is the level of its land, or touched (R328). -/
def execPanelInputSample (t : Nat) (inp : PanelInput) (level : Bool) (s : State) : Result State :=
  let s := advance t s
  let n := inputNo inp
  .next (if 64 ≤ n ∧ sampled s n then sampleKey n (inputState n level) s else s)

/-- KEY_STUCK: a key held CLOSED beyond STUCK_S is reported and stays pressed (R331). -/
def execKeyStuck (t : Nat) (k : Fin 64) (s : State) : Result State :=
  let s := advance t s
  .next (if pressed s k && passed s.now (panelKey s k).pressAt (s.panel.stuckS * 10 ^ 9 + 1) then
      { s with panel.faults := s.panel.faults ||| (1#64 <<< k.val) } else s)

/-- LR_FAULT: both lines have read the same for 100 ms (R332). -/
def execLrFault (t : Nat) (s : State) : Result State :=
  let s := advance t s
  .next (match s.panel.lrSameAt with
    | some a => if serving s && s.panel.lr ≠ 3 && passed s.now a (10 ^ 8) then
        let s1 := { s with panel.lr := 3 }
        sboLocal (raise (panelRec 77 6 3 s.now s1) s1) else s
    | none => s)

/-- SBO_SEL_TIMEOUT: the select window has run; a press first sampled inside it is still awaited (R336, R337). -/
def execSboSelTimeout (t : Nat) (s : State) : Result State :=
  let s := advance t s
  .next (match s.panel.slot with
    | some i =>
      let c := sboSlot s i
      let awaited := [c.execKey, c.cancelKey, c.selectKey].any fun n => match (panelKey s n).cand with
        | some (st, a) => st = 1 && decide (s.time.mono - (s.now - a) < s.panel.slotAt + selWindow s i)
        | none => false
      if s.panel.slotState = 1 && !awaited then settleSlot s.time.mono s else s
    | none => s)

/-- EXEC_END: EXEC_WINDOW_MS has run from the execute stamp (R336). -/
def execExecEnd (t : Nat) (s : State) : Result State :=
  let s := advance t s
  .next (match s.panel.slot with
    | some _ => if s.panel.slotState = 2 then settleSlot s.time.mono s else s
    | none => s)

/-- The module enters the recovery ROM: early service continues with VALID clear, and no program runs (R528, R530). -/
def enterRecovery (s : State) : State :=
  noteState s (clearValid { s with power.service := .recovery, power.recoveryWait := false, power.startReady := false
                                   power.pwrGood := true, scan.mode := 0, rime.mode := 1, sup.tallyOn := false })

/-- PRESENCE_COMPLETE: both presence keys CLOSED together for 3.0 s; at start-up the ROM's own scan uses it to enter recovery
only (R338, R528). -/
def presenceComplete (s : State) : State :=
  match s.panel.presHold with
  | some a =>
    if !passed s.now a (3 * 10 ^ 9) then s
    else
      let s1 := { s with panel.presHold := none, panel.presAborted := true }
      if s.power.recoveryWait then enterRecovery s1
      else if fullService s then
        panelEvent 0 7 s.now { s1 with panel.presence := some s.now, panel.presenceTai := s.time.tai, panel.lastGesture := some s.now }
      else s1
  | none => s

/-- PRESENCE_COMPLETE. -/
def execPresenceComplete (t : Nat) (s : State) : Result State := .next (presenceComplete (advance t s))

/-- PRESENCE_EXPIRY: a gesture stays valid for 60 s (R338). -/
def execPresenceExpiry (t : Nat) (s : State) : Result State :=
  let s := advance t s
  .next (if s.panel.presence.isSome && !presenceValid s then consumePresence s else s)

/-- The records of the panel's present state at a program start (R330). -/
def panelInitial (s : State) : State :=
  let s1 := (List.range 64).foldl (fun s n =>
    if pressed s n then raise (panelRec 64 2 (n + 256) s.now s) s else s) s
  let s2 := (List.range 4).foldl (fun s i => raise (panelRec (73 + i) (bit (!pressed s (72 + i))) 0 s.now s) s) s1
  let s3 := raise (panelRec 77 6 s2.panel.lr s2.now s2) s2
  raise (panelRec 78 (bit (!pressed s3 78)) 0 s3.now s3) s3

/-! ### Commands -/

/-- The LED entry in force (R334, R385). -/
def ledEntry (s : State) (i : Nat) : Half := (if isStation s then (s.ring.active.getD {}).leds else (prog s).leds).get 0#16 i

/-- The LED follows a flag (R334). -/
def ledOwned (s : State) (i : Nat) : Bool := (ledEntry s i).getLsbD 8

/-- An LED is lit; the phase of a blinking one is a free value (R334, R341; log entry 5). -/
def ledLit (s : State) (phase : Word) (i : Nat) : Bool :=
  let e := ledEntry s i
  let mode := if ledOwned s i then
      (if imgVal s (imgAddr 6 (e.extractLsb' 0 8).toNat) = 0#32 then 0
       else let m := (e.extractLsb' 9 2).toNat; if m = 3 then 1 else m + 1)
    else s.panel.leds.get 0 i
  fullService s && decide (mode ≠ 0) && (decide (mode = 1) || phase.getLsbD i)

/-- Bits packed into bytes: bit k of byte j is number 8j + k. -/
def keyBytes (n : Nat) (f : Nat → Bool) : Bytes := packBits n ((List.range (8 * n)).map f)

/-- PNL_CFG's effect and answer; the presence keys are always populated (R340). -/
def pnlCfg (w : Work) (s : State) : Reply × State :=
  let p := w.payload
  let pop : Dword := BitVec.ofNat 64 (field p 0 8 (2 ^ 64 - 1)) ||| (1#64 <<< s.bcr.presKeyA) ||| (1#64 <<< s.bcr.presKeyB)
  let s1 := { s with
    panel.keys := s.panel.keys.drop fun k => decide (k < 64) && !pop.getLsbD k
    panel.populated := pop
    panel.debounceMs := clamp 5 50 (field p 8 1 20)
    panel.stuckS := clamp 10 255 (field p 9 1 60)
    panel.ledMa := clamp 1 10 (field p 10 1 5)
    panel.touchSens := clamp 2 50 (field p 11 1 8)
    panel.cfgSet := true }
  checked [(inHoldup s, WRONG_STATE)]
    (.done DONE (leBytes 8 pop.toNat ++ leBytes 1 s1.panel.debounceMs ++ leBytes 1 s1.panel.stuckS
      ++ leBytes 1 s1.panel.ledMa ++ leBytes 1 s1.panel.touchSens ++ zeros 4), s1) s

/-- PNL_CFG (R340). -/
def execPnlCfg (t : Nat) (mb : Fin 8) (s : State) : Result State := .next (runCommand t mb 0x0601 pnlCfg s)

/-- PNL_LED's effect and answer (R334, R341). -/
def pnlLed (w : Work) (s : State) : Reply × State :=
  let p := w.payload
  let mask := field p 0 2 0
  let mode := if 3 < field p 2 1 0 then 0 else field p 2 1 0
  let chosen := (List.range 16).filter fun i => decide (mask / 2 ^ i % 2 = 1)
  let s1 := { s with panel.leds := chosen.foldl (fun m i => m.set 0 i mode) s.panel.leds }
  checked [(chosen.any (ledOwned s), OWNED), (inHoldup s, WRONG_STATE)]
    (.done DONE (leBytes 2 mask ++ leBytes 1 mode ++ zeros 5), s1) s

/-- PNL_LED (R341). -/
def execPnlLed (t : Nat) (mb : Fin 8) (s : State) : Result State := .next (runCommand t mb 0x0602 pnlLed s)

/-- PRESENCE: 0 none, 1 holding, 2 valid (R342). -/
def presenceCode (s : State) : Nat := if presenceValid s then 2 else if s.panel.presHold.isSome then 1 else 0

/-- Remaining validity of the gesture in ms (R342). -/
def presLeftMs (s : State) : Nat :=
  match s.panel.presence with
  | some a => (a + 60 * 10 ^ 9 - s.now) / 10 ^ 6
  | none => 0

/-- PNL_STATUS's answer; FAULTS is cleared by the read (R342). -/
def pnlStatus (_w : Work) (s : State) : Reply × State :=
  let (f, s1) := draw s
  (.done DONE (keyBytes 8 (pressed s) ++ leBytes 8 s.panel.faults.toNat ++ keyBytes 1 (fun i => pressed s (64 + i))
    ++ leBytes 1 (((List.range 4).map fun i => 2 ^ i * bit (pressed s (72 + i))).sum + 16 * s.panel.lr + 64 * bit (pressed s 78))
    ++ keyBytes 2 (ledLit s f) ++ leBytes 1 (s.panel.slot.getD 0xFF) ++ leBytes 1 s.panel.slotState
    ++ leBytes 1 (presenceCode s) ++ zeros 1 ++ leBytes 4 (presLeftMs s) ++ zeros 4), { s1 with panel.faults := 0#64 })

/-- PNL_STATUS (R342). -/
def execPnlStatus (t : Nat) (mb : Fin 8) (s : State) : Result State := .next (runCommand t mb 0x0603 pnlStatus s)

/-- PNL_PRESENCE's effect and answer: it reports the gesture and can withdraw it (R343). -/
def pnlPresence (w : Work) (s : State) : Reply × State :=
  let s1 := if field w.payload 0 1 0 = 1 then consumePresence s else s
  (.done DONE (leBytes 1 (presenceCode s1) ++ zeros 3 ++ leBytes 4 (presLeftMs s1) ++ leBytes 8 s.panel.presenceTai), s1)

/-- PNL_PRESENCE (R343). -/
def execPnlPresence (t : Nat) (mb : Fin 8) (s : State) : Result State := .next (runCommand t mb 0x0604 pnlPresence s)

end Sys2Proof.Machine
end

