-- ==== Sys2Proof/Machine/Field.lean ====
section
/-! DEFINITION. The field dies and their channels: sentinels, validation, outputs, protection, claims, double points,
counters, the field commands (R294-R327, R580), and the leases (R487, R488). -/

namespace Sys2Proof.Machine

/-! ### Channels -/

/-- CONTINUOUS (R297). -/
def continuous (c : ChanCfg) : Bool := modeBit c 0
/-- SAF (R297). -/
def isSaf (c : ChanCfg) : Bool := modeBit c 2
/-- An output channel: LEVEL or PULSE (R297). -/
def isOutput (c : ChanCfg) : Bool := decide (c.function = 2 ∨ c.function = 3)
/-- An input channel (R297). -/
def isInput (c : ChanCfg) : Bool := decide (c.function = 1)
/-- COUNTER_EN of an input channel (R297, R322). -/
def counts (c : ChanCfg) : Bool := isInput c && modeBit c 5

/-- The sample interval in ns (R302, R303). -/
def sampleNs (c : ChanCfg) : Nat := if continuous c then 1000 else 62500

/-- FILTER_US rounded up to whole sample intervals, in ns; a readback has no filter (R303, R312). -/
def filterNs (c : ChanCfg) : Nat :=
  if isInput c then (1000 * c.filterUs + sampleNs c - 1) / sampleNs c * sampleNs c else 0

/-- OFFSET_MV as it counts: a readback has none (R300, R312). -/
def offsetOf (c : ChanCfg) : Nat := if isInput c then c.offsetMv else 0

/-- VTH_R at the land, in units of 10 µV (R300). -/
def riseLevel (c : ChanCfg) : Nat := max 100000 (c.thrPct * (24000 + offsetOf c) - 100 * offsetOf c)
/-- VTH_F at the land, in units of 10 µV (R300). -/
def fallLevel (c : ChanCfg) : Nat := max 50000 (riseLevel c - c.hystPct * 24000)

/-- The land lies at a threshold or above it, for a comparator that is off by `dev` mV, 250 mV at most (R302). -/
def above (pinMv level : Nat) (dev : Int) : Bool := decide ((level : Int) + 100 * clampI (-250) 250 dev ≤ 100 * (pinMv : Int))

/-- The sentinel switches at VTH_R rising and VTH_F falling (R300). -/
def sentinelLevel (c : ChanCfg) (old : Bool) (pinMv : Nat) (dev : Int) : Bool :=
  above pinMv (if old then fallLevel c else riseLevel c) dev

/-- A sample: the burden comparator compares with VTH_F in both directions; a readback, which draws no burden, keeps the
hysteresis of its thresholds (R300, R312). -/
def sampleLevel (c : ChanCfg) (old : Bool) (pinMv : Nat) (dev : Int) : Bool :=
  if isInput c then above pinMv (fallLevel c) dev else sentinelLevel c old pinMv dev

/-- A record of FLD_CFG takes effect once a burden period has begun since: `span` ns later (R306). -/
def settleCfg (now span : Nat) (c : Channel) : Channel :=
  match c.cfgNext with
  | some n => if passed now c.cfgAt span then { c with cfg := n, cfgNext := none } else c
  | none => c

/-- A channel with the record of FLD_CFG that a burden period has put in force by now (R302, R306). -/
def State.chanNow (s : State) (ch : Nat) : Channel := settleCfg s.now 62500 (s.chan ch)

/-- Reflex glitch filter in ns (R260). -/
def reflexNs (o : OwnerEntry) : Nat := 20 * max 1 (o.extractLsb' 6 10).toNat

/-- The reflex input state in FAST mode: the sentinel once it has rested for the reflex filter (R261). -/
def fastState (s : State) (c : Channel) : Bool :=
  if passed s.now c.lastEdge (reflexNs c.owner) then c.sentinel else c.reflexIn

/-- The die works and talks to the channel (R294). -/
def dieLive (s : State) (ch : Nat) : Bool := (s.die (dieOf ch)).powered
/-- The die's firmware functions run (R294). -/
def dieFirmware (s : State) (ch : Nat) : Bool := dieLive s ch && !(s.die (dieOf ch)).fwRestart

/-- A driver is on: its latch, with no trip and with VFLD (R310-R312). -/
def driverOn (s : State) (ch : Nat) : Bool :=
  let c := s.chan ch
  c.latch && !c.tripped && dieLive s ch && !(s.die (dieOf ch)).vfldLow

/-- A finding of a channel: its sticky bit and its log entry (R325, R490). -/
def chanFault (ch n : Nat) (s : State) : State :=
  let c := s.chan ch
  logFault 0x70 2 (whr 0 (dieOf ch) ch) (w32 ch) (w32 n) (s.setChan ch { c with faults := c.faults ||| (1#16 <<< n) })

/-- The count after its glitch filter: a level that has rested for CNT_FILTER is taken, and an edge of the chosen kind counts
(R322). -/
def settleCount (now : Nat) (c : Channel) : Channel :=
  if counts c.cfg && c.sentinel != c.cntLevel && passed now c.lastEdge (100 * c.cfg.cntFilter) then
    { c with
      cntLevel := c.sentinel
      count := if c.cfg.cntEdge = 2 ∨ (c.cfg.cntEdge = 0 ∧ c.sentinel) ∨ (c.cfg.cntEdge = 1 ∧ !c.sentinel) then c.count + 1
        else c.count }
  else c

/-- The FAST state as it stands now, with the instant since which it and the validated state disagree (R261). -/
def settleReflex (now : Nat) (c : Channel) : Channel :=
  if c.sentinel != c.reflexIn && passed now c.lastEdge (reflexNs c.owner) then
    { c with
      reflexIn := c.sentinel
      reflexAt := if c.sentinel = c.validated then none else some (c.lastEdge + reflexNs c.owner) }
  else c

/-! ### Inputs -/

/-- The stamp of an edge now with its flags and quality: to 1 µs in early service, by an interpolator or at the next tick in
SLUMBER (R107, R108). -/
def edgeStamp (ch : Nat) (s : State) : (Nat × Byte × Byte) × State :=
  if s.power.state = .slumber then
    if interpFree s (dieOf ch) then ((s.time.tai, 1#8, quality s), startInterp (dieOf ch) ch 0 0#32 s)
    else ((s.time.tai + nextTick s, 2#8, quality s), s)
  else
    let r := stampNow ch 0 0#32 s
    ((r.tai, r.flags, r.quality), s)

/-- Since when sentinel and samples disagree (R304). -/
def disagree (now : Nat) (c : Channel) : Option Nat := if c.sentinel = c.sample then none else c.disagreeAt.orElse fun _ => some now

/-- SENTINEL_EDGE: a land voltage that crosses the sentinel's threshold is an edge: it is stamped and updates the candidate; a
counter counts it once its filter has passed (R300, R303, R322). -/
def sentinelEdge (ch pinMv : Nat) (dev : Int) (s : State) : State :=
  let c0 := s.chanNow ch
  let level := sentinelLevel c0.cfg c0.sentinel pinMv dev
  if !dieLive s ch || c0.cfg.function = 0 then s
  else if level = c0.sentinel then s.setChan ch { c0 with pinMv := pinMv }
  else
    let c1 := settleReflex s.now (settleCount s.now c0)
    let fresh := level != c1.validated && c1.cand.isNone
    let (st, s1) := if fresh then edgeStamp ch s else ((0, 0#8, 0#8), s)
    let c2 := if fresh then { c1 with cand := some st.1, candFlags := st.2.1, candQ := st.2.2 } else c1
    let c3 := { c2 with sentinel := level, lastEdge := s.now, pinMv := pinMv }
    s1.setChan ch { c3 with disagreeAt := disagree s.now c3 }

/-- SENTINEL_EDGE. -/
def execSentinelEdge (t : Nat) (ch : Fin 64) (pinMv : Nat) (dev : Int) (s : State) : Result State :=
  .next (sentinelEdge ch pinMv dev (advance t s))

/-- The double point after a validation or a tick: reported state, left, late; each change of the reported state is one
record (R320, R321). -/
def dpStep (e : Nat) (stamp : Nat) (flags q : Byte) (s : State) : State :=
  let c := s.chan e
  let raw : BitVec 2 := BitVec.ofNat 2 (2 * bit c.validated + bit (s.chan (e + 1)).validated)
  if raw = 2#2 ∨ raw = 1#2 then
    let s1 := s.setChan e { c with dp := raw, dpLeft := none, dpLate := false }
    if raw = c.dp then s1
    else raise { tai := stamp, source := e, kind := 6, quality := q, flags := flags, data := w32 raw.toNat } s1
  else
    let left := c.dpLeft.getD stamp
    let at1 := if c.dpLeft.isSome then c.dpAt else s.now + stamp - s.time.tai
    let late := c.dp = 2#2 || c.dp = 1#2
    let due := !late || decide (at1 + 10 ^ 6 * c.cfg.discMs ≤ s.now)
    if due && raw ≠ c.dp then
      let lateNow := late || c.dpLate
      let s1 := s.setChan e { c with dp := raw, dpLeft := some left, dpAt := at1, dpLate := lateNow }
      raise { tai := left, source := e, kind := 6, quality := q, flags := flags
              data := w32 (raw.toNat + 256 * bit lateNow) } (chanFault e 11 s1)
    else s.setChan e { c with dpLeft := some left, dpAt := at1 }

/-- A transition is validated: its record goes to the event controller, and RISE_SEEN or FALL_SEEN is set; a double point and
a dual-contact point have their own records (R303, R321, R464). -/
def validated (ch : Nat) (level : Bool) (s : State) : State :=
  let c := s.chan ch
  let (st, fl, q) := match c.cand with
    | some a => (a, c.candFlags, c.candQ)
    | none => let r := stampNow ch 0 0#32 s; (r.tai, r.flags, r.quality)
  let c := settleReflex s.now c
  let s1 := s.setChan ch { c with
    reflexAt := if c.reflexIn = level then none else some s.now
    validated := level, stamp := st, cand := none, run := none, candFlags := fl, candQ := q
    riseSeen := c.riseSeen || level, fallSeen := c.fallSeen || !level }
  let r : EvRec := { tai := st, source := ch, kind := bit (!level), quality := q, flags := fl, data := b32 level }
  match dpEven s ch, dualOf s ch with
  | some e, _ => dpStep e st fl q s1
  | none, some _ => s1
  | none, none => raise r s1

/-- BURDEN_SAMPLE: the validation filter runs on a sample of an input or of a readback, 3.5 µs after the burden period began; it
validates a transition or rejects a glitch (R300, R302, R303, R306, R312). -/
def burdenSample (ch pinMv : Nat) (dev : Int) (s : State) : State :=
  let c0 := settleCfg s.now (if continuous (s.chan ch).cfg then 0 else 3500) (s.chan ch)
  let level := sampleLevel c0.cfg c0.validated pinMv dev
  if !dieFirmware s ch || c0.cfg.function = 0 then s
  else
    let c1 := { c0 with sample := level, pinMv := pinMv }
    let c := { c1 with disagreeAt := disagree s.now c1 }
    if level = c.validated then
      let rest := c.cand.isSome && c.sentinel = c.validated && passed s.now c.lastEdge (max (filterNs c.cfg) 62500)
      s.setChan ch (if rest then { c with run := none, cand := none, rejects := min (c.rejects + 1) 65535 }
        else { c with run := none })
    else
      let start := c.run.getD s.now
      let s1 := s.setChan ch { c with run := some start }
      if passed s.now start (filterNs c.cfg) then validated ch level s1 else s1

/-- BURDEN_SAMPLE. -/
def execBurdenSample (t : Nat) (ch : Fin 64) (seen : Comparator) (s : State) : Result State :=
  .next (burdenSample ch seen.pinMv seen.devMv (advance t s))

/-- INDUCED: sentinel and samples have disagreed for 100 ms (R304). -/
def execInduced (t : Nat) (ch : Fin 64) (s : State) : Result State :=
  let s := advance t s
  let c := s.chan ch
  .next (match c.disagreeAt with
    | some a => if dieFirmware s ch && isInput c.cfg && !c.faults.getLsbD 7 && passed s.now a (10 ^ 8)
        then chanFault ch 7 s else s
    | none => s)

/-- The tasks that declare a CAPTURE channel keep what its status frame has seen (R170). -/
def keepSeen (ch : Nat) (c : Channel) (s : State) : State :=
  let v := bit c.riseSeen + 2 * bit c.fallSeen
  if v = 0 ∨ !modeBit c.cfg 1 then s
  else (partition s).tasks.foldl (fun s d =>
    if inRanges d.inputs (imgAddr 1 ch) then
      let r := s.task d.num
      s.setTask d.num { r with capSeen := r.capSeen.set 0 ch (r.capSeen.get 0 ch ||| v) }
    else s) s

/-- The value of a channel's IX point: its level, the reported state of a double point, or v of a dual-contact point (R312,
R321, R464). -/
def ixValue (s : State) (ch : Nat) : Bool :=
  match dpEven s ch, dualOf s ch with
  | some e, _ => if ch = e then (s.chan e).dp.getLsbD 1 else (s.chan e).dp.getLsbD 0
  | none, some n => (s.saf.duals.get {} n).v
  | none, none => (s.chan ch).rx

/-- STATUS_FRAME: a good frame brings the channel's state and count into the image store; one that fails its CRC is discarded with
a finding (R12, R145, R146, R295). -/
def statusFrame (ch : Nat) (crcOk : Bool) (s : State) : State :=
  let c := settleCount s.now (s.chan ch)
  if !dieFirmware s ch || c.lost || (s.die (dieOf ch)).lost || !serving s || c.cfg.function = 0 then s
  else if !crcOk then couplerFinding ch s
  else
    let s1 := keepSeen ch c (s.setChan ch { c with rx := c.validated, stale := false, statusAt := s.now
                                                   riseSeen := false, fallSeen := false })
    let s2 := setImg (imgAddr 1 ch) (b32 (ixValue s1 ch)) s1
    let s3 := match dpEven s ch with
      | some e => setImg (imgAddr 1 (2 * e + 1 - ch)) (b32 (ixValue s2 (2 * e + 1 - ch))) s2
      | none => s2
    markIx ch (if counts c.cfg then setImg (imgAddr 4 (7936 + ch)) c.count s3 else s3)

/-- STATUS_FRAME. -/
def execStatusFrame (t : Nat) (ch : Fin 64) (crcOk : Bool) (s : State) : Result State :=
  .next (statusFrame ch crcOk (advance t s))

/-- STALE_TIMEOUT: no good frame for 250 µs (R145). -/
def execStaleTimeout (t : Nat) (ch : Fin 64) (s : State) : Result State :=
  let s := advance t s
  let c := s.chan ch
  .next (if !c.stale && passed s.now c.statusAt 250000 then markIx ch (s.setChan ch { c with stale := true }) else s)

/-- DP_DISCREPANCY_TIMEOUT: a tick of the die's count evaluates the double point; before an edge has taken it from 00 at power-up
there is nothing to time (R320). -/
def execDpDiscrepancyTimeout (t : Nat) (ch : Fin 64) (s : State) : Result State :=
  let s := advance t s
  .next (if dieFirmware s ch then
      match dpEven s ch with
      | some e => match (s.chan e).dpLeft with
        | some a => dpStep e a (s.chan e).candFlags (s.chan e).candQ s
        | none => s
      | none => s
    else s)

/-! ### Claims and commands -/

/-- A claim source's claim is valid: VALID set, refreshed within the lease (R316). -/
def claimValid (s : State) (c : ClaimSrc) : Bool :=
  c.heard && c.claim.getLsbD 15 && decide (s.now < c.last + 250000 * c.leaseQ)

/-- The source with the highest valid claim (R39, R316). -/
def bestSource (s : State) (d : FieldDie) : Option Nat :=
  [0, 1, 2].foldl (fun best k =>
    let c := d.claims.get {} k
    if !claimValid s c then best
    else match best with
      | none => some k
      | some b => if (d.claims.get {} b).claim < c.claim then some k else some b) none

/-- The command of an accepted frame after ownership and merge; none leaves the latch (R261, R266). -/
def mergedCmd (o : OwnerEntry) (f : CmdFrame) : Option Bool :=
  match ownMode o with
  | 0 => f.qx
  | 1 => f.rule
  | _ => if f.rule = some true then some (o.getLsbD 2) else f.qx

/-- The latch state after a command of a channel that may not be tripped or de-energised: pulses start on a rise (R313,
R317). -/
def applyLatch (now : Nat) (c : Channel) (old : Bool) : Channel :=
  if c.cfg.function = 3 then
    let start := c.applied && !old && c.pulseArmed && c.pulseEnd.isNone && !c.tripped && !c.safOff
    { c with
      pulseEnd := if start then some (now + 10 ^ 6 * c.cfg.pulseMs) else c.pulseEnd
      pulseArmed := if start then false else c.pulseArmed || (!c.applied && c.pulseEnd.isNone)
      latch := start || c.pulseEnd.isSome }
  else { c with latch := c.applied && !c.tripped && !c.safOff }

/-- The SAF timer and the re-energising rule on an accepted frame (R314). -/
def safFrame (now : Nat) (fresh cmd : Bool) (c : Channel) : Channel :=
  if !isSaf c.cfg || !fresh then c
  else
    { c with
      safAt := some (now + 10 ^ 6 * c.cfg.safMs)
      safOff := c.safOff && !(cmd && c.safSeen0)
      safSeen0 := c.safOff && !cmd || (c.safSeen0 && !cmd) }

/-- A trip ends when the applied command has been 0 for 10 ms (R310). -/
def settleTrip (now : Nat) (c : Channel) : Channel :=
  match c.zeroAt with
  | some a => if c.tripped && !c.applied && passed now a (10 ^ 7) then { c with tripped := false } else c
  | none => c

/-- An accepted frame acts on an output channel: trip state, pulse start and SAF timer, then the latch (R317). -/
def applyFrame (now : Nat) (f : CmdFrame) (c0 : Channel) : Channel :=
  let c := settleTrip now (settleCfg now 62500 c0)
  if !isOutput c.cfg then c
  else
    match mergedCmd c.owner f with
    | none => safFrame now f.fresh c.applied c
    | some cmd =>
      let c1 := safFrame now f.fresh cmd { c with
        applied := cmd, zeroAt := if cmd then none else if c.applied then some now else c.zeroAt.orElse fun _ => some now }
      applyLatch now c1 c.applied

/-- COMMAND_FRAME at a die: the claim of the own logic side is refreshed, while a station's dies hear their controllers'
claims in the headers (R380); the frame of the highest valid claim is accepted and applied (R316-R318). A frame that fails its CRC
is discarded with a finding, and sent again; a lost channel or die receives none (R12, R43, R295). -/
def commandFrame (ch : Nat) (f : CmdFrame) (s : State) : State :=
  let n := dieOf ch
  let d := s.die n
  if !d.powered || d.lost || (s.chan ch).lost then s
  else if !f.crcOk then
    let s1 := couplerFinding ch s
    s1.setChan ch { s1.chan ch with cmdAt := s.now }
  else
    let d1 := if f.src = 0 then
        { d with claims := d.claims.set {} f.src { claim := f.claim, last := s.now, leaseQ := s.pair.leaseQ, heard := true } }
      else d
    let best := bestSource s d1
    let d2 := { d1 with obeyed := best, holding := d1.holding || best.isNone }
    let s1 := s.setDie n d2
    if best ≠ some f.src.val ∨ d2.hold then s1
    else
      let s2 := s1.setDie n { d2 with holding := false }
      let was := driverOn s2 ch
      let s3 := s2.setChan ch (applyFrame s.now f (s2.chan ch))
      if driverOn s3 ch = was then s3 else s3.setChan ch { s3.chan ch with expectAt := s.now }

/-- COMMAND_FRAME. -/
def execCommandFrame (t : Nat) (ch : Fin 64) (f : CmdFrame) (s : State) : Result State :=
  .next (commandFrame ch f (advance t s))

/-- COMMAND_FRAME_REFRESH: 125 µs after the last, a command frame leaves the logic side (R295, R409, R580). -/
def execCommandFrameRefresh (t : Nat) (ch : Fin 64) (s : State) : Result State :=
  let s := advance t s
  .next (if passed s.now (s.chan ch).cmdAt 125000 then sendCmd ch s else s)

/-- CLAIM_LEASE_EXPIRY: a source's claim lapses one lease after its last refresh; with no valid claim the die is HOLDING
(R316, R318). -/
def claimLeaseExpiry (n k : Nat) (s : State) : State :=
  let d := s.die n
  let c := d.claims.get {} k
  if !d.powered || !c.heard || !passed s.now c.last (250000 * c.leaseQ) then s
  else
    let d1 := { d with claims := d.claims.set {} k { c with heard := false } }
    let best := bestSource s d1
    s.setDie n { d1 with obeyed := best, holding := d1.holding || best.isNone }

/-- CLAIM_LEASE_EXPIRY. -/
def execClaimLeaseExpiry (t : Nat) (die : Fin 4) (src : Fin 3) (s : State) : Result State :=
  .next (claimLeaseExpiry die src (advance t s))

/-! ### Protection, readback, timers -/

/-- A SAF channel de-energises until a fresh 0 then 1 (R314). -/
def safDrop (now : Nat) (c : Channel) : Channel :=
  { c with latch := false, safOff := true, safSeen0 := false, pulseEnd := none, expectAt := now }

/-- READBACK: the readback has differed from the expected level for more than 2 ms (R312, R314). -/
def execReadback (t : Nat) (ch : Fin 64) (s : State) : Result State :=
  let s := advance t s
  let c := s.chan ch
  .next (if dieFirmware s ch && isOutput c.cfg && c.validated != driverOn s ch && passed s.now c.expectAt 2000001 then
      let s1 := if isSaf c.cfg then s.setChan ch (safDrop s.now c) else s
      chanFault ch 5 s1
    else s)

/-- OPEN_LOAD: with OPEN_DETECT, a driver that is on has carried less than its open-load threshold of 1 to 3 mA for 10 ms (R308,
R312). -/
def execOpenLoad (t : Nat) (ch : Fin 64) (load : LoadCurrent) (s : State) : Result State :=
  let s := advance t s
  let c := s.chan ch
  let s1 := s.setChan ch { c with loadMa := load.loadUa / 1000 }
  .next (if dieFirmware s ch && isOutput c.cfg && modeBit c.cfg 4 && driverOn s ch && decide (load.loadUa < clamp 1000 3000 load.threshUa) then
      chanFault ch 4 s1
    else s)

/-- A trip latches the channel off and ends a running pulse; its finding is the trip's bit (R310, R313, R325). -/
def trip (ch n : Nat) (s : State) : State :=
  let c := s.chan ch
  if c.tripped then s
  else
    chanFault ch n (s.setChan ch { c with
      tripped := true, latch := false, pulseEnd := none, pulseArmed := !c.applied
      expectAt := s.now, zeroAt := if c.applied then none else c.zeroAt.orElse fun _ => some s.now })

/-- The channel drives an output (R310). -/
def driving (s : State) (ch : Nat) : Bool := isOutput (s.chan ch).cfg && driverOn s ch

/-- A channel's load current is measured (R325). -/
def setLoad (ch ma : Nat) (s : State) : State := s.setChan ch { s.chan ch with loadMa := ma }

/-- OVERLOAD: above 280 mA for longer than 20 ms; a SHORT when the limit is active at that instant (R310). -/
def execOverload (t : Nat) (ch : Fin 64) (loadMa : Nat) (limiting : Bool) (s : State) : Result State :=
  let s := advance t s
  .next (if driving s ch && decide (280 < loadMa) then trip ch (bit limiting) (setLoad ch loadMa s) else s)

/-- SHORT: the current limit active for longer than 20 ms (R310). -/
def execShort (t : Nat) (ch : Fin 64) (loadMa : Nat) (s : State) : Result State :=
  let s := advance t s
  .next (if driving s ch then trip ch 1 (setLoad ch loadMa s) else s)

/-- THERMAL: the driver junction reaches its trip level (R310). -/
def execThermal (t : Nat) (ch : Fin 64) (s : State) : Result State :=
  let s := advance t s
  .next (if dieLive s ch && isOutput (s.chan ch).cfg then trip ch 2 (s.setChan ch { s.chan ch with hot := true }) else s)

/-- The channel with the highest current, the lower number first on a tie. -/
def highest (base : Nat) (ks : List Nat) (s : State) : Option Nat :=
  ks.foldl (fun best k =>
    if !driving s (base + k) then best
    else match best with
      | none => some (base + k)
      | some b => if (s.chan b).loadMa < (s.chan (base + k)).loadMa then some (base + k) else some b) none

/-- DIE_OVERLOAD: the total above the die's trip level, 2.0 to 2.2 A, for 5 ms trips the channel with the highest current (R308,
R310). -/
def dieOverload (n : Nat) (currents : List Nat) (tripMa : Nat) (s : State) : State :=
  let cs := currents.take 16
  let d := s.die n
  if !d.powered then s
  else
    let high := decide (clamp 2000 2200 tripMa < cs.sum)
    let s1 := (s.setDie n { d with currentMa := cs.sum, overload := high })
    let s2 := (List.range 16).foldl (fun s k => setLoad (16 * n + k) (cs.getD k 0) s) s1
    if high then
      match highest (16 * n) (List.range 16) s2 with
      | some ch => trip ch 3 s2
      | none => s2
    else s2

/-- DIE_OVERLOAD. -/
def execDieOverload (t : Nat) (die : Fin 4) (load : DieLoad) (s : State) : Result State :=
  .next (dieOverload die load.currents load.tripMa (advance t s))

/-- TRIP_CLEAR: the applied command has been 0 for 10 ms (R310). -/
def execTripClear (t : Nat) (ch : Fin 64) (s : State) : Result State :=
  let s := advance t s
  .next (s.setChan ch (settleTrip s.now (s.chan ch)))

/-- The expected level of a die's outputs changes now (R312). -/
def expectNow (n : Nat) (s : State) : State :=
  (List.range 16).foldl (fun s k => s.setChan (16 * n + k) { s.chan (16 * n + k) with expectAt := s.now }) s

/-- VFLD_LOW: below 17.0 V the die switches every driver off and reports; with no VFLD and no logic side it loses its power
(R61, R311). -/
def vfldLow (n mv : Nat) (s : State) : State :=
  let d := s.die n
  let low := decide (mv < 17000)
  let dark := decide (mv = 0) && (s.power.state = .off || s.power.state = .backup || d.txLost)
  let s1 := s.setDie n { d with vfldMv := mv, vfldLow := d.vfldLow || low, powered := d.powered && !dark }
  if low && !d.vfldLow then
    expectNow n (if serving s then logFault 0x71 2 (whr 3 n 0) (w32 n) (w32 mv) s1 else s1)
  else s1

/-- VFLD_LOW. -/
def execVfldLow (t : Nat) (die : Fin 4) (mv : Nat) (s : State) : Result State :=
  if 36000 < mv then .fault .overstress else .next (vfldLow die mv (advance t s))

/-- VFLD_RESTORE: above 18.0 V the drivers follow their latches (R311). -/
def vfldRestore (n mv : Nat) (s : State) : State :=
  let d := s.die n
  let s1 := s.setDie n { d with vfldMv := mv, vfldLow := d.vfldLow && decide (mv ≤ 18000) }
  if d.vfldLow && decide (18000 < mv) then expectNow n s1 else s1

/-- VFLD_RESTORE. -/
def execVfldRestore (t : Nat) (die : Fin 4) (mv : Nat) (s : State) : Result State :=
  if 36000 < mv then .fault .overstress else .next (vfldRestore die mv (advance t s))

/-- PULSE_END: the pulse ends after PULSE_MS, whatever the command (R31, R313). -/
def execPulseEnd (t : Nat) (ch : Fin 64) (s : State) : Result State :=
  let s := advance t s
  let c := s.chan ch
  .next (match c.pulseEnd with
    | some e => if e ≤ s.now then
        s.setChan ch { c with pulseEnd := none, latch := false, pulseArmed := !c.applied, expectAt := s.now } else s
    | none => s)

/-- SAF_TIMEOUT: the safety timer expires and the channel de-energises (R31, R314). -/
def execSafTimeout (t : Nat) (ch : Fin 64) (s : State) : Result State :=
  let s := advance t s
  let c := s.chan ch
  .next (match c.safAt with
    | some e => if e ≤ s.now ∧ isSaf c.cfg then chanFault ch 9 (s.setChan ch { safDrop s.now c with safAt := none }) else s
    | none => s)

/-! ### Dies -/

/-- The ownership entry of a channel in the configuration in force (R260, R385). -/
def ownerOf (s : State) (ch : Nat) : OwnerEntry :=
  if isStation s then ((s.ring.active.getD {}).owner).get 0x40#32 ch else (prog s).owner.get 0x40#32 ch

/-- The logic side sends a die its configuration records (R297, R319). -/
def configureDie (n : Nat) (s : State) : State :=
  let s1 := s.setDie n { s.die n with configured := true }
  (List.range 16).foldl (fun s k =>
    let ch := 16 * n + k
    s.setChan ch { s.chan ch with cfg := chanCfg s ch, cfgNext := none, owner := ownerOf s ch }) s1

/-- A channel whose die has lost power: the die's part at its power-up state, the logic side's part kept (R319). -/
def freshChannel (c : Channel) : Channel :=
  { qx := c.qx, ruleCmd := c.ruleCmd, freshOwed := c.freshOwed, cmdAt := c.cmdAt, lastCmd := c.lastCmd, rx := c.rx
    stale := true, statusAt := c.statusAt, faults := c.faults, lost := c.lost, loopFails := c.loopFails }

/-- FIELD_DIE_POWER_UP: latches de-energised, timers idle, counters at 0, channels OFF; a running logic side sends the
configuration (R319). -/
def fieldDiePowerUp (n : Nat) (s : State) : State :=
  let d := s.die n
  let s1 := s.setDie n { powered := true, txLost := d.txLost, lost := d.txLost, vfldMv := d.vfldMv, vfldLow := decide (d.vfldMv < 17000), couplerA := true
                         couplerB := true, lostPower := true, hold := d.hold, fw := dieFw s n }
  let s2 := (List.range 16).foldl (fun s k =>
    let ch := 16 * n + k
    markIx ch (s.setChan ch (freshChannel (s.chan ch)))) s1
  if serving s then configureDie n s2 else s2

/-- FIELD_DIE_POWER_UP. -/
def execFieldDiePowerUp (t : Nat) (die : Fin 4) (s : State) : Result State := .next (fieldDiePowerUp die (advance t s))

/-- FIELD_DIE_FW_RESTART: the firmware functions stop, the hardware functions go on (R294). -/
def execFieldDieFwRestart (t : Nat) (die : Fin 4) (s : State) : Result State :=
  let s := advance t s
  let d := s.die die
  .next (if d.powered && !d.fwRestart then
      s.setDie die { d with fwRestart := true, restarts := min (d.restarts + 1) 65535 } else s)

/-- FIELD_DIE_FW_RESTART_DONE: the firmware functions resume (R294, R320). -/
def execFieldDieFwRestartDone (t : Nat) (die : Fin 4) (s : State) : Result State :=
  let s := advance t s
  .next (s.setDie die { s.die die with fwRestart := false })

/-! ### Commands -/

/-- The channel carries a function marked safety (R455). -/
def safetyChan (s : State) (ch : Nat) : Bool := (spb s).channelMask.getLsbD ch

/-- BASE_MAX in force in µs (R163, R182). -/
def baseMaxUs (s : State) : Nat := (cfgOf s 0).timeUs.getD ((taskDecl s 0).elim 0 TaskDecl.baseMaxUs)

/-- The least SAF_TIMEOUT_MS of a channel (R315). -/
def safFloor (s : State) (ch : Nat) : Nat :=
  if ownMode (ownerOf s ch) ≠ 0 then 1
  else
    match (partition s).tasks.find? fun d => inRanges d.outputs (imgAddr 2 ch) with
    | some d => (2 * (if d.num = 0 then baseMaxUs s else periodUs s d) + 999) / 1000
    | none => 0

/-- A configuration record with its clamps (R297, R315). -/
def clampCfg (s : State) (ch : Nat) (c : ChanCfg) : ChanCfg :=
  { clampRec c with safMs := max (clampRec c).safMs (safFloor s ch) }

/-- A configuration record's 32 bytes (R297). -/
def cfgBytes (c : ChanCfg) : Bytes :=
  leBytes 1 c.function ++ [c.mode] ++ leBytes 1 c.nominal ++ leBytes 1 c.thrPct ++ leBytes 1 c.hystPct ++ leBytes 1 c.iWet
    ++ leBytes 2 c.filterUs ++ leBytes 2 c.cntFilter ++ leBytes 1 c.cntEdge ++ zeros 1 ++ leBytes 4 c.pulseMs
    ++ leBytes 2 c.safMs ++ leBytes 2 c.discMs ++ leBytes 2 c.offsetMv ++ zeros 10

/-- Channels of a die with CONTINUOUS set (R298, R325). -/
def contCount (s : State) (n : Nat) : Nat :=
  ((List.range 16).filter fun k => decide ((chanCfg s (16 * n + k)).function = 1) && continuous (chanCfg s (16 * n + k))).length

/-- FLD_CFG's effect and answer: only fields not fixed to the image change (R297, R306, R324). -/
def fldCfg (w : Work) (s : State) : Reply × State :=
  let p := w.payload
  let ch := min 63 (field p 0 1 0)
  let query := decide (field p 1 1 0 % 2 = 1)
  let old := chanCfg s ch
  let new := clampCfg s ch (readCfg p 4)
  let fixed := decide (new.function ≠ old.function) || decide (new.mode &&& 0x2E#8 ≠ old.mode &&& 0x2E#8)
  let fifth := isInput new && continuous new && !continuous old && decide (4 ≤ contCount s (dieOf ch))
  let echo (o : Nat) (c : ChanCfg) : Bytes := leBytes 1 ch ++ leBytes 1 o ++ zeros 2 ++ cfgBytes c
  let s1 := { s with fld.kept := s.fld.kept.set none ch (some new) }
  let s2 := if dieLive s ch then s1.setChan ch { s1.chanNow ch with cfgNext := some new, cfgAt := s.now } else s1
  let state := s.ps.prog.isNone || isStation s || inHoldup s
  if query then
    checked [(state, WRONG_STATE), ((s.die (dieOf ch)).fwRestart, BUSY)] (.done DONE (echo 1 old), s) s
  else
    checked [(fixed, OWNED), (fifth, NO_SPACE), (safetyChan s ch, NOT_PERMITTED), (state, WRONG_STATE),
        ((s.die (dieOf ch)).fwRestart, BUSY)]
      (.done DONE (echo 0 new), s2) s

/-- FLD_CFG (R324). -/
def execFldCfg (t : Nat) (mb : Fin 8) (s : State) : Result State := .next (runCommand t mb 0x0501 fldCfg s)

/-- The die part of FLD_STATUS (R325). -/
def dieBytes (s : State) (n : Nat) : Bytes :=
  let d := s.die n
  let best := bestSource s d
  let flags := bit (d.holding || d.hold || best.isNone) + 2 * bit d.couplerA + 4 * bit d.couplerB + 8 * bit d.vfldLow
    + 16 * bit d.overload + 32 * bit d.fwRestart + 64 * bit d.lostPower
  leBytes 1 n ++ leBytes 1 flags ++ leBytes 2 d.vfldMv ++ leBytes 2 d.currentMa ++ leInt 1 (s.power.temps.get 0 (3 + n))
    ++ leBytes 1 (contCount s n) ++ leBytes 2 (best.elim 0 fun k => (d.claims.get {} k).claim.toNat) ++ leBytes 2 d.restarts
    ++ leBytes 4 d.fw.toNat

/-- A channel entry of FLD_STATUS (R325). -/
def chanBytes (s : State) (ch : Nat) : Bytes :=
  let c := settleCount s.now (s.chan ch)
  let st := bit c.validated + 2 * bit c.sentinel + 4 * bit c.latch + 8 * bit (driverOn s ch) + 16 * bit c.pulseEnd.isSome
    + 32 * bit c.safOff + 64 * bit c.tripped
  let dp := if dpEven s ch = some ch then c.dp.toNat else 0
  leBytes 1 ch ++ leBytes 1 st ++ leBytes 2 c.faults.toNat ++ leBytes 2 c.pinMv ++ leBytes 2 c.loadMa ++ leBytes 2 c.rejects
    ++ leBytes 1 dp ++ zeros 1 ++ leBytes 4 (if counts c.cfg then c.count.toNat else 0)

/-- FLD_STATUS's answer; the sticky bits are cleared by the read (R325). -/
def fldStatus (w : Work) (s : State) : Reply × State :=
  let n := min 3 (field w.payload 0 1 0)
  let s1 := s.setDie n { s.die n with lostPower := false }
  let s2 := (List.range 16).foldl (fun s k =>
    s.setChan (16 * n + k) { s.chan (16 * n + k) with faults := 0#16 }) s1
  checked [(isStation s, WRONG_STATE)]
    (.done DONE (dieBytes s n ++ (List.range 16).flatMap fun k => chanBytes s (16 * n + k)), s2) s

/-- FLD_STATUS (R325). -/
def execFldStatus (t : Nat) (mb : Fin 8) (s : State) : Result State := .next (runCommand t mb 0x0502 fldStatus s)

/-- FLD_COUNTER's effect and answer (R323, R326). -/
def fldCounter (w : Work) (s : State) : Reply × State :=
  let p := w.payload
  let ch := min 63 (field p 0 1 0)
  let op := if 1 < field p 1 1 0 then 0 else field p 1 1 0
  let c := settleCount s.now (s.chan ch)
  let c1 := if op = 1 then { c with count := w32 (field p 4 4 0) } else c
  checked [(!counts (chanCfg s ch), NOT_PRESENT), (decide (op = 1) && safetyChan s ch, NOT_PERMITTED),
      (isStation s || inHoldup s, WRONG_STATE)]
    (.done DONE (leBytes 1 ch ++ leBytes 1 op ++ zeros 2 ++ leBytes 4 c1.count.toNat ++ leBytes 8 s.time.tai),
      s.setChan ch c1) s

/-- FLD_COUNTER (R326). -/
def execFldCounter (t : Nat) (mb : Fin 8) (s : State) : Result State := .next (runCommand t mb 0x0503 fldCounter s)

/-- FLD_TEST's effect and answer. Whether THERMAL still holds, the outcome and the round trip of a loop, and the measured
threshold, which passes within the comparator's accuracy, are found by measurement, so free values (R302, R310, R327, R580; log
entry 5). -/
def fldTest (w : Work) (s : State) : Reply × State :=
  let p := w.payload
  let ch := min 63 (field p 0 1 0)
  let test := let v := field p 1 1 1; if 2 < v then 1 else v
  let c := s.chan ch
  let answer (r detail : Nat) : Reply := .done DONE (leBytes 1 ch ++ leBytes 1 test ++ leBytes 1 r ++ zeros 1 ++ leBytes 4 detail)
  let (f, s0) := draw s
  let effect : Reply × State :=
    match test with
    | 0 =>
      if !isOutput c.cfg then (answer 2 0, s)
      else if !c.tripped then (answer 0 0, s)
      else if c.hot && f.getLsbD 0 then (answer 1 0, s0)
      else
        let s1 := if c.hot then s0 else s
        (answer 0 0, s1.setChan ch { c with tripped := false, hot := false })
    | 1 => if f.toNat ≤ 100 then (answer 0 f.toNat, s0) else (answer 1 f.toNat, s0)
    | _ =>
      let v := f.toNat % 65536
      let near := decide (100 * v ≤ riseLevel c.cfg + 25000) && decide (riseLevel c.cfg ≤ 100 * v + 25000)
      if c.cfg.function = 0 then (answer 2 0, s) else (answer (bit (!near)) v, s0)
  checked [((s.die (dieOf ch)).fwRestart, BUSY),
      (isStation s || inHoldup s, WRONG_STATE)] effect s

/-- FLD_TEST (R327). -/
def execFldTest (t : Nat) (mb : Fin 8) (s : State) : Result State := .next (runCommand t mb 0x0504 fldTest s)

/-! ### Leases (R27, R487, R488) -/

/-- A resource's row in R487 and its holder's number, for LEASE_REVOKED (R490). -/
def leaseRow : LeaseRes → Nat × Nat
  | .imagePort r _ _ => (0, r) | .flash h _ _ => (1, h) | .mailbox n => (2, n) | .lane n _ _ => (3, n) | .claim => (4, 0)
  | .shadow r => (5, r)

/-- A revocation is counted, logged, and noted for the count of three within 10 s (R488, R490). -/
def noteRevoked (res : LeaseRes) (s : State) : State :=
  let (row, holder) := leaseRow res
  let k := 16 * row + holder
  let recent := (s.sup.revoked.get [] k).filter fun a => decide (s.now ≤ a + 10 ^ 10)
  logFault 0x12 0 (whr 4 0 holder) (w32 row) (w32 holder)
    (count 10 1 { s with sup.revoked := s.sup.revoked.set [] k (s.now :: recent) })

/-- The holder's lease on the resource has been revoked 3 times within 10 s (R488). -/
def thriceRevoked (res : LeaseRes) (s : State) : Bool :=
  let (row, holder) := leaseRow res
  decide (3 ≤ (s.sup.revoked.get [] (16 * row + holder)).length)

/-- A revocation of a Steward service's lease: the third within 10 s restarts Steward (R488). -/
def revokeSteward (res : LeaseRes) (s : State) : State :=
  let s1 := noteRevoked res s
  if thriceRevoked res s1 then stewardRestart s1 else s1

/-- A mailbox's lease is revoked: its request is discarded (R487, R564, R565). -/
def revokeMailbox (n : Fin 8) (s : State) : State :=
  let m := s.mbox n
  let s1 := s.setMbox n { m with revokedN := min (m.revokedN + 1) 65535 }
  if m.state = 2 then release1 n s1
  else
    let s2 := s1.setMbox n { s1.mbox n with state := 0 }
    { s2 with host.works := s2.host.works.filter fun w => w.mb ≠ n.val || w.deferred }

/-- LEASE_EXPIRY: a grant at its maximum hold is revoked and its unfinished work discarded: a transfer with its task's cycle, a page
program, while an erase is retried and a burst resent; the claim lapses at every output stage. A holder revoked three times within
10 s is faulty (R27, R316, R487, R488, R564). -/
def leaseExpiry (res : LeaseRes) (s : State) : State :=
  match res with
  | .imagePort r task held =>
    if (s.task task).state = .idle ∨ held < 100000 then s
    else
      let s1 := noteRevoked res (abandonCycle task s)
      if thriceRevoked res s1 then retireRegion r 0x12 s1 else s1
  | .flash h erase held =>
    if held < 20 * 10 ^ 6 ∨ s.ldg.flashFailed then s
    else revokeSteward res (if h.val = 0 ∧ !erase then firnSpoil s else s)
  | .mailbox n =>
    if (s.mbox n).state = 0 ∨ !passed s.now (s.mbox n).leaseAt (10 ^ 10) then s else noteRevoked res (revokeMailbox n s)
  | .lane _ steward held =>
    if held < 200000 then s else if steward then revokeSteward res s else noteRevoked res s
  | .claim => (List.range 4).foldl (fun s n => claimLeaseExpiry n 0 s) s
  | .shadow _ =>
    if s.edit.state = 1 ∧ passed s.now s.edit.lastCmd (60 * 10 ^ 9) then noteRevoked res (abortEdit 2 s) else s

/-- LEASE_EXPIRY. -/
def execLeaseExpiry (t : Nat) (res : LeaseRes) (s : State) : Result State :=
  let s := advance t s
  .next (if portsUp s then leaseExpiry res s else s)

end Sys2Proof.Machine
end

