-- ==== Sys2Proof/Machine/Rime.lean ====
section
/-! DEFINITION. The reflex plane: signals, rules, delays, the sweep and its stop (R251-R270). -/

namespace Sys2Proof.Machine

/-! ### Signals -/

/-- A rule of the set in force. -/
def ruleOf (s : State) (n : Nat) : Rule := s.rime.set.get {} n

/-- The mode evaluates a rule: EARLY rules alone in early service, all rules in full service (R266). -/
def ruleRuns (s : State) (r : Rule) : Bool :=
  !s.rime.stopped && (decide (s.rime.mode = 2) || (decide (s.rime.mode = 1) && r.early))

/-- A rule's output as rules and flags see it; a rule that the mode does not evaluate reads 0 (R257, R266). -/
def ruleOut (s : State) (n : Nat) : Bool := ruleRuns s (ruleOf s n) && (s.rime.rules.get {} n).out

/-- The reflex input state of a channel: FAST or VALIDATED (R260, R261). -/
def reflexState (s : State) (ch : Nat) : Bool :=
  let c := s.chan ch
  if c.owner.getLsbD 3 then decide (imgVal s (imgAddr 1 ch) ≠ 0#32) else fastState s c

/-- This controller runs the ring: full service, no restart due, PLL_NET ready, topology not OFF (R94, R387). -/
def ringRuns (s : State) : Bool :=
  fullService s && !isStation s && clkReady s 5 && (s.power.restart.isNone || s.power.tripUntil.isSome) && decide (s.ring.topology ≠ 0)

/-- A controller's TI bit by its map: bad where the entry is invalid, the ring or Rime's PLL_NET clock does not run, or the station
is not configured, lost, or brought no good copy in the last cycle (R251, R254, R266). -/
def tiBit (s : State) (k : Nat) : Option Bool :=
  let e := s.rime.tiMap.get 0#16 k
  let n := (e.extractLsb' 8 6).toNat
  let r := s.station n
  if e.getLsbD 15 && decide (n ≠ 0 ∧ n ≠ 63) && ringRuns s && stationOn s n && !r.lost && !r.toBad then
    some (r.toBits.getLsbD (e.extractLsb' 0 8).toNat)
  else none

/-- A signal's value, none when it is bad (R251). -/
def signal (s : State) (x : Nat) : Option Bool :=
  let i := x % 4096
  if i < 0x40 then
    if hasSource s (imgAddr 1 i) && (s.img.q.get 2#4 (imgAddr 1 i)).getLsbD 1 then none else some (reflexState s i)
  else if i < 0x140 then some (decide (imgVal s (imgAddr 6 (i - 0x40)) ≠ 0#32))
  else if i < 0x240 then
    if isStation s then
      match obeyedCtl s with
      | some k =>
        let c := s.ring.ctl.get {} k
        if s.now ≤ c.lastHeard + c.cycleNs then some (c.toBits.getLsbD (i - 0x140)) else none
      | none => none
    else tiBit s (i - 0x140)
  else if i = 0x7FF then some true
  else if 0x800 ≤ i then some (ruleOut s (i - 0x800))
  else some false

/-! ### Evaluation (R256) -/

/-- The literals: a bad input gives 0 whatever INV says. -/
def literals (s : State) (r : Rule) : List Bool :=
  (List.range 16).map fun k =>
    match signal s (r.inp.getD k 0x7FE) with
    | none => false
    | some v => v != r.inv.getLsbD k

/-- A term: the AND of its literals; an empty term gives 1. -/
def termOf (lits : List Bool) (mask : Half) : Bool :=
  (List.range 16).all fun k => !mask.getLsbD k || lits.getD k false

/-- The result of a rule's four levels; 0 for one that is not ENABLED (R255, R256). -/
def ruleResult (s : State) (r : Rule) : Bool :=
  let lits := literals s r
  let t := (List.range 8).map fun j => termOf lits (r.terms.getD j 0#16)
  let g0 := (List.range 4).any fun j => r.group.getLsbD j && t.getD j false
  let g1 := (List.range 4).any fun j => r.group.getLsbD (4 + j) && t.getD (4 + j) false
  r.enabled && r.final.getLsbD (2 * bit g1 + bit g0)

/-- When a change of a rule whose result stands since an instant falls due: at once without a delay, else at the first 1 µs tick of
MONO that the delay reaches (R257). -/
def delayDue (since delayUs : Nat) : Nat := if delayUs = 0 then since else (since + 1000 * delayUs + 999) / 1000 * 1000

/-- The delay stage (R257). -/
def delayStage (r : Rule) (mono : Nat) (result : Bool) (q : RuleSt) : RuleSt :=
  let q1 := if result != q.pend then { q with pend := result, since := mono } else q
  if result && !q1.out && decide (delayDue q1.since r.onDelayUs ≤ mono) then { q1 with out := true }
  else if !result && q1.out && decide (delayDue q1.since r.offDelayUs ≤ mono) then { q1 with out := false }
  else q1

/-- The stamp of a Rime-written flag: the Rime clock edge, 4 ns apart on the PLL_NET clock (R265; log entry 51). -/
def rimeStamp (r : EvRec) : EvRec := { r with tai := r.tai / 4 * 4 }

/-- Events bound to flags, some of which have changed: EV096-EV127 in ascending source number, all with one stamp, which `f` makes of
the stamp of now (R106, R265). -/
def flagEvents (f : EvRec → EvRec) (changed : Nat → Option Bool) (s : State) : State :=
  (List.range 32).foldl (fun s k =>
    match (prog s).evBind.get .none (96 + k) with
    | .flag rf e => match changed rf with
      | some new => if edgePasses e (bit (!new)) then raise (f (stampNow (96 + k) (bit (!new)) (b32 new) s)) s else s
      | none => s
    | _ => s) s

/-- Events of one flag. -/
def flagEvent (f : EvRec → EvRec) (rf : Nat) (new : Bool) (s : State) : State :=
  flagEvents f (fun i => if i = rf then some new else none) s

/-- A rule's output goes to its target: an RF flag, a TO bit, or a channel that it owns (R252, R261, R295). -/
def writeTarget (r : Rule) (v changed : Bool) (s : State) : State :=
  let x := r.target % 4096
  if x < 0x40 then
    let c := s.chan x
    if ownMode c.owner = 0 ∨ (s.rime.mode = 1 ∧ !r.early) then s
    else
      let s1 := s.setChan x { c with ruleCmd := some v }
      if changed || c.ruleCmd ≠ some v then sendCmd x s1 else s1
  else if x < 0x140 then
    let i := x - 0x40
    let was := decide (imgVal s (imgAddr 6 i) ≠ 0#32)
    let s1 := setImg (imgAddr 6 i) (b32 v)
      { s with rime.rf := if v then s.rime.rf ||| (1#256 <<< i) else s.rime.rf &&& ~~~(1#256 <<< i) }
    if was = v then s1 else flagEvent rimeStamp i v s1
  else if x < 0x240 then
    let i := x - 0x140
    { s with rime.toBits := if v then s.rime.toBits ||| (1#256 <<< i) else s.rime.toBits &&& ~~~(1#256 <<< i) }
  else s

/-- One rule is evaluated through its levels and its delay stage, and its output dispatched (R256, R257). -/
def evalRule (n : Nat) (s : State) : State :=
  let r := ruleOf s n
  if !ruleRuns s r then s
  else
    let q := s.rime.rules.get {} n
    let q1 := delayStage r s.time.mono (ruleResult s r) q
    writeTarget r q1.out (q1.out != q.out) { s with rime.rules := s.rime.rules.set {} n q1 }

/-! ### Passes (R258) -/

/-- The rule that targets a flag, if any. -/
def flagWriter (s : State) (rf : Nat) : Option Nat :=
  (s.rime.set.find? fun p => p.2.target % 4096 = 0x40 + rf).map Prod.fst

/-- The rules whose results or flags a rule reads. -/
def ruleSources (s : State) (n : Nat) : List Nat :=
  (ruleOf s n).inp.filterMap fun x =>
    let i := x % 4096
    if 0x800 ≤ i then some (i - 0x800)
    else if 0x40 ≤ i ∧ i < 0x140 then flagWriter s (i - 0x40) else none

/-- The rules that read one of some rules, directly or through their chain: at most 16 deep. -/
def dependents (s : State) : Nat → List Nat → List Nat
  | 0, ns => ns
  | fuel + 1, ns =>
    let more := s.rime.set.keys.filter fun k => !ns.contains k && (ruleSources s k).any ns.contains
    if more = [] then ns else dependents s fuel (ns ++ more)

/-- An order in which every rule follows the rules it reads. -/
def passOrder (s : State) : Nat → List Nat → List Nat
  | 0, todo => todo
  | fuel + 1, todo =>
    let ready := todo.filter fun n => !(ruleSources s n).any fun m => m ≠ n && todo.contains m
    if ready = [] then todo else ready ++ passOrder s fuel (todo.filter fun n => !ready.contains n)

/-- A pass over some rules and every rule that depends on them, each after its sources (R258). -/
def evalPass (ns : List Nat) (s : State) : State :=
  (passOrder s 17 (dependents s 16 ns)).foldl (fun s n => evalRule n s) s

/-- An enabled rule of a set reads the channel (R261). -/
def setReads (set : Tbl Rule) (ch : Nat) : Bool := set.any fun p => p.2.enabled && p.2.inp.any fun x => x % 4096 = ch

/-- The comparison of a channel that no enabled rule read before begins now (R261). -/
def startCompare (old new : Tbl Rule) (s : State) : State :=
  (List.range 64).foldl (fun s ch =>
    if setReads new ch && !setReads old ch then
      let c := settleReflex s.now (s.chan ch)
      s.setChan ch { c with reflexAt := c.reflexAt.map fun _ => s.now }
    else s) s

/-- The rule that targets a channel. -/
def chanWriter (set : Tbl Rule) (ch : Nat) : Option Nat := (set.find? fun p => p.2.target % 4096 = ch).map Prod.fst

/-- The rule part of every owned channel's command follows the rule that targets it now, with that rule's output as it stands; a
channel without a rule has none (R261, R268). -/
def retarget (s : State) : State :=
  if s.rime.mode ≠ 2 then s
  else (List.range 64).foldl (fun s ch =>
    let c := s.chan ch
    if ownMode c.owner = 0 then s
    else
      let v := (chanWriter s.rime.set ch).map fun n => ruleOut s n
      if c.ruleCmd = v then s else sendCmd ch (s.setChan ch { c with ruleCmd := v })) s

/-- A rule set and TI map come into force: an unchanged rule keeps its output and delay state, a changed or new one keeps its output
with its delay state cleared, a removed one reads 0 (R261, R268). -/
def setRules (new : Tbl Rule) (map : Tbl Half) (s : State) : State :=
  startCompare s.rime.set new { s with
    rime.rules := s.rime.rules.mapVal {} fun n q =>
      if new.get {} n = s.rime.set.get {} n then q
      else if (new.get {} n) = {} then {} else clearDelay s.time.mono q
    rime.set := new
    rime.tiMap := map }

/-- The rule set changes while Rime runs (R268). -/
def changeRules (new : Tbl Rule) (map : Tbl Half) (s : State) : State := retarget (setRules new map s)

/-- Rime stops: it sends no further command, and the stop is a module-level failure (R267, R490). -/
def rimeStop (cause : Nat) (s : State) : State :=
  moduleFailure 0x61 (logFault 0x61 3 (whr 4 0 0) (w32 cause) 0#32 { s with rime.stopped := true, rime.mode := 0 })

/-- RULE_EVALUATION: an input of the rule has changed; an evaluator mismatch or a rule-store error stops Rime (R259, R267). -/
def ruleEvaluation (n : Nat) (evalOk storeOk : Bool) (s : State) : State :=
  if s.rime.mode = 0 ∨ s.rime.stopped ∨ !serving s then s
  else if !storeOk then rimeStop 1 s
  else if !evalOk then rimeStop 0 s
  else evalPass [n] s

/-- RULE_EVALUATION. -/
def execRuleEvaluation (t : Nat) (rule : Fin 2048) (evalOk storeOk : Bool) (s : State) : Result State :=
  .next (ruleEvaluation rule evalOk storeOk (advance t s))

/-- The instant of the sweep after those that have begun by now (R259). -/
def nextSweep (s : State) : Nat := s.rime.sweepAt + 16400 * ((s.now - s.rime.sweepAt) / 16400 + 1)

/-- RIME_SWEEP: at an instant of its 16.4 µs grid every rule is evaluated once, in both evaluators (R259, R267). -/
def rimeSweep (evalOk storeOk : Bool) (s : State) : State :=
  if s.rime.mode = 0 ∨ s.rime.stopped ∨ !serving s ∨ s.now < s.rime.sweepAt then s
  else if !storeOk then rimeStop 1 s
  else if !evalOk then rimeStop 0 s
  else evalPass s.rime.set.keys { s with rime.sweepAt := nextSweep s }

/-- RIME_SWEEP. -/
def execRimeSweep (tick : SweepTick) (s : State) : Result State :=
  .next (rimeSweep tick.evalOk tick.storeOk (advance tick.t s))

/-- RULE_DELAY_EXPIRY: a delayed change falls due at a tick of MONO (R257, R259). -/
def execRuleDelayExpiry (t : Nat) (tick : RuleTick) (s : State) : Result State :=
  .next (ruleEvaluation tick.rule tick.evalOk tick.storeOk (advance t s))

/-- An enabled rule of the set in force reads the channel (R261). -/
def ruleReads (s : State) (ch : Nat) : Bool := setReads s.rime.set ch

/-- REFLEX_DISAGREE: FAST and validated states have disagreed for the filter time plus 1 ms (R261). -/
def reflexDisagree (ch : Nat) (s : State) : State :=
  let c := settleReflex s.now (s.chan ch)
  match c.reflexAt with
  | some a =>
    if isInput c.cfg && ruleReads s ch && !c.faults.getLsbD 8 && passed s.now a (filterNs c.cfg + 1000001) then
      logFault 0x62 2 (whr 0 (dieOf ch) ch) (w32 ch) 0#32 (s.setChan ch { c with faults := c.faults ||| 0x100#16 })
    else s
  | none => s

/-- REFLEX_DISAGREE. -/
def execReflexDisagree (t : Nat) (ch : Fin 64) (s : State) : Result State := .next (reflexDisagree ch (advance t s))

end Sys2Proof.Machine
end

