-- ==== Sys2Proof/Machine/SafetyFn.lean ====
section
/-! DEFINITION. Interlocking and safety: the safety CRC, the check value and its confirmation, dual-contact inputs, the
Maelsel safety layer, and the safety commands (R452-R473). -/

namespace Sys2Proof.Machine

/-! ### The check value (R457-R461) -/

/-- One bit of the safety CRC (R457). -/
def safBit (c : Word) : Word := if c.msb then (c <<< 1) ^^^ 0x741B8CD7#32 else c <<< 1

/-- So many bits of the safety CRC. -/
def safBits : Nat → Word → Word
  | 0, c => c
  | n + 1, c => safBits n (safBit c)

/-- The safety CRC of some bytes from a seed (R457). -/
def safetyCrc (seed : Word) (bs : Bytes) : Word := 
  bs.foldl (fun (c : Word) (d : Byte) => safBits 8 (c ^^^ (BitVec.setWidth 32 d <<< 24))) seed

/-- The check value of a program, 0 without a safety parameter block (R458, R471). -/
def checkOf (p : Prog) : Word := match p.spb with
  | some b => safetyCrc 0xFFFFFFFF#32 b.bytes
  | none => 0#32

/-- The safety state is CONFIRMED: the stored confirmation equals the check value of the program in force (R459). -/
def confirmed (s : State) : Bool := (prog s).spb.isSome && decide (s.saf.confirmed = some (checkOf (prog s)))

/-- STATE of SAF_STATUS: 0 no block, 1 UNCONFIRMED, 2 CONFIRMED (R471). -/
def safState (s : State) : Nat := if (prog s).spb.isNone then 0 else if confirmed s then 2 else 1

/-- The check value of a COMMITTED epoch that changes it, 0 otherwise (R471). -/
def pendingCheck (s : State) : Word :=
  match s.edit.epoch with
  | some e => if s.edit.state = 2 && checkOf e.result ≠ checkOf (prog s) then checkOf e.result else 0#32
  | none => 0#32

/-- A COMMITTED epoch changes the check value (R472). -/
def epochChangesCheck (s : State) : Bool :=
  match s.edit.epoch with
  | some e => s.edit.state = 2 && checkOf e.result ≠ checkOf (prog s)
  | none => false

/-- The stored confirmation changes: system Ledger key 0xFF02 holds the check value and the TAI of its confirmation, and is deleted
by a withdrawal (R459, R460; log entry 54). -/
def storeConfirm (v : Option Word) (s : State) : State :=
  match v with
  | some c => placeRec 0xFF02 (newRec s 0xFF02 false false (leBytes 4 c.toNat ++ leBytes 8 s.time.tai))
      { s with saf.confirmed := some c, saf.confirmTai := s.time.tai }
  | none =>
    let s1 := { s with saf.confirmed := none }
    if (curRec s 0xFF02).isNone then s1 else placeRec 0xFF02 (newRec s 0xFF02 false true []) s1

/-- The stored confirmation as the Ledger holds it at a start (R439, R459). -/
def loadConfirm (s : State) : State :=
  match curRec s 0xFF02 with
  | some r => { s with saf.confirmed := some (w32 (recF r.data 0 4)), saf.confirmTai := recF r.data 4 8 }
  | none => { s with saf.confirmed := none, saf.confirmTai := 0 }

/-- A confirmation or withdrawal takes effect (R460). -/
def applyConfirm (op scope : Nat) (check : Word) (s : State) : State :=
  if op = 1 then { storeConfirm none s with saf.preConfirmed := if scope = 1 then none else s.saf.preConfirmed }
  else if scope = 1 then
    if epochChangesCheck s && check = pendingCheck s then { s with saf.preConfirmed := some check } else s
  else if (prog s).spb.isSome && check = checkOf (prog s) then
    storeConfirm (some check) s
  else s

/-- The pending confirmations take effect, and their commands are answered (R460, R472). -/
def safConfirmApply (s : State) : State :=
  let mine := s.scan.bnd.filter fun b => match b with | .safConfirm _ _ _ _ => true | _ => false
  let rest := s.scan.bnd.filter fun b => match b with | .safConfirm _ _ _ _ => false | _ => true
  mine.foldl (fun s b => match b with
    | .safConfirm op scope check wid =>
      let s1 := applyConfirm op scope check s
      finishWid wid DONE (leBytes 1 op ++ leBytes 1 scope ++ leBytes 1 (safState s1) ++ zeros 1 ++ leBytes 4 check.toNat
        ++ leBytes 8 s1.scan.scan) s1
    | _ => s) { s with scan.bnd := rest }

/-- SAF_CONFIRM_APPLY: at the BASE boundary (R460). -/
def execSafConfirmApply (t : Nat) (s : State) : Result State :=
  let s := advance t s
  .next (if boundary s then safConfirmApply s else s)

/-- At the switch scan the pending check value of a pre-confirmed epoch becomes the confirmation (R460). -/
def safAtSwitch (s : State) : State :=
  match s.saf.preConfirmed with
  | some c =>
    let s1 := { s with saf.preConfirmed := none }
    if c = checkOf (prog s) then storeConfirm (some c) s1 else s1
  | none => s

/-- SAF_CONFIRM's effect and answer; the gesture is consumed whether the check value matches or not (R460, R472). -/
def safConfirm (w : Work) (s : State) : Reply × State :=
  let p := w.payload
  let op := if 1 < field p 0 1 1 then 1 else field p 0 1 1
  let scope := if 1 < field p 1 1 0 then 0 else field p 1 1 0
  let check := w32 (field p 4 4 0)
  let wanted := if scope = 1 then pendingCheck s else checkOf (prog s)
  let s1 := consumePresence s
  match firstStatus
      [(op = 0 && check ≠ wanted, CHECK_FAILED),
       (op = 0 && !presenceValid s, NOT_PERMITTED),
       ((prog s).spb.isNone || (scope = 1 && !epochChangesCheck s) || isApprentice s || isStation s
          || s.sec.life = .retired || inHoldup s, WRONG_STATE)] with
  | some st => (.done st [], s1)
  | none =>
    (.later, forward 0x0B02 p { s1 with
      scan.bnd := s1.scan.bnd ++ [.safConfirm op scope (if op = 1 then wanted else check) w.wid] })

/-- SAF_CONFIRM (R472). -/
def execSafConfirm (t : Nat) (mb : Fin 8) (s : State) : Result State := .next (runCommand t mb 0x0B02 safConfirm s)

/-- While UNCONFIRMED every release that a task writes enters the image as 0 at its publish (R459). -/
def blockReleases (d : TaskDecl) (buf : Tbl (Option Word)) (s : State) : Tbl (Option Word) :=
  if (prog s).spb.isSome && !confirmed s then
    ((spb s).releases.filter fun a => inRanges d.outputs a).foldl (fun b a => b.set none a (some 0#32)) buf
  else buf

/-! ### Dual-contact inputs (R462-R464) -/

/-- A record of a dual-contact point on EV(CH_A): DATA[0] v, DATA[8] DISCREPANT (R464). -/
def dualRecord (d : DualDecl) (x : DualSt) (stamp : Nat) (q flags : Byte) (s : State) : State :=
  raise { tai := stamp, source := d.chA, kind := 6, quality := q, flags := flags, data := w32 (bit x.v + 256 * bit (x.state = 2)) } s

/-- The unit's new state takes effect: both IX points hold v; a change of v or an entry into DISCREPANT raises a record, and
the entry is logged (R463, R464). -/
def setDual (n : Nat) (d : DualDecl) (x : DualSt) (stamp : Nat) (q flags : Byte) (s : State) : State :=
  let old := s.saf.duals.get {} n
  let s1 := { s with saf.duals := s.saf.duals.set {} n x }
  let s2 := markIx d.chA (setImg (imgAddr 1 d.chB) (b32 x.v) (setImg (imgAddr 1 d.chA) (b32 x.v) s1))
  let enters := x.state = 2 && old.state ≠ 2
  let s3 := if enters then logFault 0x60 2 (whr 4 0 n) (w32 d.chA) (w32 d.chB) s2 else s2
  if enters || x.v ≠ old.v then dualRecord d x stamp q flags s3 else s3

/-- The unit's step on a change of a contact; `b` is inverted when antivalent (R463). -/
def dualStep (d : DualDecl) (now : Nat) (a b : Bool) (x : DualSt) : DualSt :=
  if x.state = 2 then
    if a = d.safe ∧ b = d.safe then { x with state := 0, v := d.safe } else { x with v := d.safe }
  else if a = b then
    if x.state = 1 ∧ x.since + 10 ^ 6 * d.discMs ≤ now then { x with state := 2, v := d.safe } else { x with state := 0, v := a }
  else if x.state = 0 then { x with state := 1, since := now, v := d.safe }
  else { x with v := d.safe }

/-- DUAL_CONTACT_CHANGE: the unit receives a validated state of either contact; its two evaluators agree, or the module fails
(R37, R463). -/
def dualChange (n : Nat) (evalOk : Bool) (s : State) : State :=
  match (spb s).duals[n]? with
  | none => s
  | some d =>
    if !serving s then s
    else if !evalOk then moduleFailure 0x60 s
    else
      let x := s.saf.duals.get {} n
      let a := (s.chan d.chA).rx
      let b := (s.chan d.chB).rx
      if x.a = some a ∧ x.b = some b then s
      else
        let ch := if x.a = some a then d.chB else if x.b = some b then d.chA
          else if (s.chan d.chA).stamp < (s.chan d.chB).stamp then d.chB else d.chA
        let c := s.chan ch
        setDual n d { dualStep d s.time.mono a (b != d.antivalent) x with a := some a, b := some b } c.stamp c.candQ
          c.candFlags s

/-- DUAL_CONTACT_CHANGE. -/
def execDualContactChange (t : Nat) (n : Fin 32) (evalOk : Bool) (s : State) : Result State :=
  .next (dualChange n evalOk (advance t s))

/-- DUAL_DISCREPANCY: a 1 ms tick of MONO at which a PENDING point has reached DISC_MS; the two evaluators agree, or the module
fails (R37, R463). -/
def execDualDiscrepancy (t : Nat) (tick : DualTick) (s : State) : Result State :=
  let s := advance t s
  .next (match (spb s).duals[tick.n.val]? with
    | none => s
    | some d =>
      let x := s.saf.duals.get {} tick.n
      if !serving s || x.state ≠ 1 then s
      else if !tick.evalOk then moduleFailure 0x60 s
      else if decide (x.since + 10 ^ 6 * d.discMs ≤ s.time.mono / 10 ^ 6 * 10 ^ 6) then
        let r := stampNow d.chA 6 0#32 s
        setDual tick.n d { x with state := 2, v := d.safe } r.tai r.quality r.flags s
      else s)

/-- At a start each point holds its safe value until its contacts have been received (R463). -/
def dualStart (s : State) : State :=
  { s with saf.duals := ((spb s).duals.zipIdx).foldl (fun m e => m.set {} e.2 { v := e.1.safe }) [] }

/-! ### The Maelsel safety layer (R465-R470) -/

/-- Carrier bytes of a PDU: 19 words (R466). -/
def pduBytes : Nat := 76

/-- Image address of a connection's carrier word. -/
def carrier (c : ConnDecl) (i : Nat) : Nat := imgAddr (if c.dir = 0 then 4 else 5) (c.word + i)

/-- A PDU over a payload (R467). -/
def pduOf (c : ConnDecl) (seq status : Nat) (payload : Bytes) : Bytes :=
  let body := leBytes 1 1 ++ leBytes 1 c.len ++ leBytes 2 seq ++ leBytes 1 status ++ zeros 3 ++ slice payload 0 c.len
  slice (body ++ leBytes 4 (safetyCrc c.identity body).toNat) 0 pduBytes

/-- A fault of a consumer: MANUAL waits for ACK, otherwise the block goes to SYNC at once (R469). -/
def connFail (i : Nat) (c : ConnDecl) (cause : Nat) (tai : Nat) (x : ConnSt) (s : State) : ConnSt × State :=
  ({ x with
      state := if c.manual then 3 else 1
      synced := false
      cause := cause
      payload := []
      faultTai := tai
      timeouts := (x.timeouts + bit (cause = 1)) % 2 ^ 32
      seqErrors := (x.seqErrors + bit (cause = 3)) % 2 ^ 32 },
   logFault 0x7C 2 (whr 4 0 i) (w32 i) (w32 cause) s)

/-- An accepted PDU (R469). -/
def connAccept (now tai seq status : Nat) (st : Nat) (payload : Bytes) (x : ConnSt) : ConnSt :=
  { x with state := st, synced := true, lastSeq := seq, accept := now, acceptTai := tai, pstatus := status
           payload := if st = 2 then payload else [] }

/-- MSL_RECV examines a PDU (R469). -/
def connExamine (i : Nat) (c : ConnDecl) (now tai : Nat) (pdu : Bytes) (x : ConnSt) (s : State) : ConnSt × State :=
  let x := { x with lastPdu := pdu }
  let len := field pdu 1 1 0
  let seq := field pdu 2 2 0
  let status := field pdu 4 1 0
  let payload := slice pdu 8 c.len
  let d := (seq + 65536 - x.lastSeq) % 65536
  let fresh := decide (1 ≤ d ∧ d ≤ 32767)
  if field pdu 0 1 0 ≠ 1 ∨ len ≠ c.len then connFail i c 4 tai x s
  else if safetyCrc c.identity (pdu.take (8 + len)) ≠ w32 (field pdu (8 + len) 4 0) then
    let y := { x with crcFails := (x.crcFails + 1) % 2 ^ 32, lastCrcFail := some now }
    if x.lastCrcFail.any fun a => decide (now ≤ a + 10 ^ 10) then connFail i c 2 tai y s else (y, s)
  else if status / 2 % 2 = 1 ∧ x.state ≠ 1 then
    if c.manual then connFail i c 5 tai x s
    else ({ x with state := 1, lastSeq := seq, synced := false, payload := [] }, s)
  else if x.state = 1 then
    if x.synced && fresh && decide (now < x.accept + 10 ^ 6 * c.timeExpMs) then
      (connAccept now tai seq status 2 payload x, s)
    else (connAccept now tai seq status 1 payload x, s)
  else if x.state = 2 then
    if fresh then (connAccept now tai seq status 2 payload x, s) else connFail i c 3 tai x s
  else (x, s)

/-- One execution of MSL_RECV in a cycle of its task, on the task's snapshot (R469). -/
def mslRecv (n i : Nat) (c : ConnDecl) (s : State) : State :=
  let r := s.task n
  let x0 := s.saf.conns.get {} i
  let ack := c.ack ≠ 0 && decide (r.snap.val.get 0#32 c.ack ≠ 0#32)
  let x1 := if x0.state = 0 then { x0 with state := 1 }
    else if x0.state = 3 && ack && !x0.ackPrev then { x0 with state := 1, synced := false } else x0
  let pdu := (List.range 19).flatMap fun k => leBytes 4 (r.snap.val.get 0#32 (carrier c k)).toNat
  let good := (List.range 19).all fun k => (r.snap.q.get 0#4 (carrier c k)).getLsbD 0
  let (x2, s2) := if good && pdu ≠ slice x1.lastPdu 0 pduBytes then connExamine i c r.snapMono r.snapTai pdu x1 s else (x1, s)
  let (x3, s3) := if x2.state = 2 && decide (x2.accept + 10 ^ 6 * c.timeExpMs ≤ r.snapMono) then
    connFail i c 1 r.snapTai x2 s2 else (x2, s2)
  { s3 with saf.conns := s3.saf.conns.set {} i { x3 with ackPrev := ack } }

/-- One execution of MSL_SEND in a cycle of its task: the payload is what the program has put into the carrier words, and the
words change only with SEQ (R459, R468; log entry 26). -/
def mslSend (n i : Nat) (c : ConnDecl) (buf : Tbl (Option Word)) (s : State) : Tbl (Option Word) × State :=
  let r := s.task n
  let x := s.saf.conns.get {} i
  let given := slice ((List.range 16).flatMap fun k => match buf.get none (carrier c (2 + k)) with
    | some v => leBytes 4 v.toNat
    | none => slice x.payload (4 * k) 4) 0 c.len
  let safe := !confirmed s
  let out := if safe then zeros c.len else given
  let due := x.state = 0 || out ≠ x.sentPayload || decide (x.accept + 10 ^ 6 * c.refreshMs ≤ r.snapMono)
  let seq := if x.state = 0 then 1 else (x.lastSeq + 1) % 65536
  let status := bit safe + 2 * bit (r.snapMono < s.scan.startMono + 10 ^ 9)
  let pdu := pduOf c seq status out
  let ks := List.range 19
  if due then
    (ks.foldl (fun b k => b.set none (carrier c k) (some (w32 (leNat (slice pdu (4 * k) 4))))) buf,
     { s with saf.conns := s.saf.conns.set {} i { x with
        state := if safe then 1 else 2, lastSeq := seq, pstatus := status, accept := r.snapMono, acceptTai := r.snapTai
        payload := given, sentPayload := out } })
  else
    (ks.foldl (fun b k => b.set none (carrier c k) none) buf,
     { s with saf.conns := s.saf.conns.set {} i { x with payload := given } })

/-- The MSL blocks of a task run in its cycle; the buffer carries what its producers send (R468, R469). -/
def mslRun (n : Nat) (buf : Tbl (Option Word)) (s : State) : Tbl (Option Word) × State :=
  (((spb s).conns.zipIdx).filter fun e => e.1.task = n).foldl (fun a e =>
    if e.1.dir = 0 then (a.1, mslRecv n e.2 e.1 a.2) else mslSend n e.2 e.1 a.1 a.2) (buf, s)

/-! ### Commands (R471, R473) -/

/-- Bits of the entries that hold, first in bit 0. -/
def maskOf (bs : List Bool) : Nat := bs.foldr (fun b a => bit b + 2 * a) 0

/-- The dual-contact entries that are DISCREPANT. -/
def discrepant (s : State) : List Bool := ((spb s).duals.zipIdx).map fun e => (s.saf.duals.get {} e.2).state = 2

/-- The consuming connections in FAULT. -/
def connFaults (s : State) : List Bool :=
  ((spb s).conns.zipIdx).map fun e => e.1.dir = 0 && (s.saf.conns.get {} e.2).state = 3

/-- SAF_STATUS's answer (R471). -/
def safStatus (_w : Work) (s : State) : Reply × State :=
  let flags := bit s.saf.preConfirmed.isSome + 2 * bit (safState s = 1) + 4 * bit ((discrepant s).any id)
    + 8 * bit ((connFaults s).any id)
  (.done DONE (leBytes 1 (safState s) ++ leBytes 1 flags ++ leBytes 1 (spb s).duals.length ++ leBytes 1 (spb s).conns.length
    ++ leBytes 4 (checkOf (prog s)).toNat ++ leBytes 4 (s.saf.confirmed.getD 0#32).toNat ++ leBytes 4 (pendingCheck s).toNat
    ++ leBytes 4 (maskOf (discrepant s)) ++ leBytes 8 (maskOf (connFaults s)) ++ leBytes 2 (spb s).releases.length ++ zeros 2
    ++ leBytes 8 s.saf.confirmTai), s)

/-- SAF_STATUS (R471). -/
def execSafStatus (t : Nat) (mb : Fin 8) (s : State) : Result State := .next (runCommand t mb 0x0B01 safStatus s)

/-- SAF_CONN_STATUS's answer (R473). -/
def safConnStatus (w : Work) (s : State) : Reply × State :=
  let conns := (spb s).conns
  let k := min (field w.payload 0 1 0) (conns.length - 1)
  match conns[k]? with
  | none => (.done NOT_PRESENT [], s)
  | some c =>
    let x := s.saf.conns.get {} k
    (.done DONE (leBytes 1 k ++ leBytes 1 c.dir ++ leBytes 1 c.medium ++ leBytes 1 x.state ++ leBytes 1 x.cause
      ++ leBytes 1 x.pstatus ++ leBytes 2 x.lastSeq ++ leBytes 4 c.identity.toNat ++ leBytes 2 c.timeExpMs
      ++ leBytes 2 c.refreshMs ++ leBytes 4 (if x.state = 0 then 0 else (taskMono s - x.accept) / 10 ^ 6) ++ leBytes 4 x.crcFails
      ++ leBytes 4 x.seqErrors ++ leBytes 4 x.timeouts ++ leBytes 8 x.acceptTai ++ leBytes 8 x.faultTai), s)

/-- SAF_CONN_STATUS (R473). -/
def execSafConnStatus (t : Nat) (mb : Fin 8) (s : State) : Result State := .next (runCommand t mb 0x0B03 safConnStatus s)

end Sys2Proof.Machine
end

