-- ==== Sys2Proof/Machine/Boundary.lean ====
section
/-! DEFINITION. What changes at a BASE boundary: program start and stop, the image of a start, forces, the epoch switch, the
pair's comparison of publishes and its handover (R142, R161-R165, R173, R178-R182, R271-R285, R399-R402, R413). -/

namespace Sys2Proof.Machine

/-! ### System points (R142) -/

/-- The bits of lost stations, bit n − 1 for station n (R142, SW18-SW19). -/
def lostMask (s : State) : Nat :=
  ((List.range 62).map fun i => 2 ^ i * bit (stationOn s (i + 1) && (s.station (i + 1)).lost)).sum

/-- SX3: the partner is in step (R142, R400). -/
def pairInStep (s : State) : Bool := inPair s && decide (s.pair.state = 3)

/-- A system bit or word as a task reads it in the snapshot that stands in its runtime state (R142). -/
def sysPoint (s : State) (n i : Nat) : Word :=
  let r := s.task n
  let lo (v : Nat) : Word := w32 (v % 2 ^ 32)
  let hi (v : Nat) : Word := w32 (v / 2 ^ 32 % 2 ^ 32)
  let ev := if isEventTask n then r.cause else {}
  let tr := if n = 50 then r.cause else {}
  match i with
  | 0 => b32 r.firstCycle
  | 1 => b32 s.power.threeRegion
  | 2 => b32 (inControl s)
  | 3 => b32 (pairInStep s)
  | 4 => b32 (decide (s.time.state = 2))
  | 5 => b32 s.time.timeLost
  | 6 => b32 s.power.reserveLow
  | 7 => b32 s.power.thermalWarn
  | 8 => b32 (decide (lostMask s ≠ 0))
  | 9 => b32 (decide (s.panel.lr = 1))
  | 10 => b32 r.late
  | 11 => b32 (decide (s.scan.forces ≠ []))
  | 12 => b32 s.scan.sx12
  | 4096 => lo s.scan.scan
  | 4097 => hi s.scan.scan
  | 4098 => lo r.snapMono
  | 4099 => hi r.snapMono
  | 4100 => lo r.snapTai
  | 4101 => hi r.snapTai
  | 4102 => lo r.lastUs
  | 4103 => lo r.maxUs
  | 4104 => lo r.skipped
  | 4105 => lo s.scan.overruns
  | 4106 => tr.trapCause
  | 4107 => w32 tr.trapTask
  | 4108 => tr.trapAddr
  | 4109 => w32 tr.trapEngine
  | 4110 => lo ev.evTai
  | 4111 => hi ev.evTai
  | 4112 => ev.evData
  | 4113 => lo ev.evSeq
  | 4114 => lo (lostMask s)
  | 4115 => hi (lostMask s)
  | 4116 => if n = 48 then w32 r.cause.station else 0#32
  | 4117 => w32 r.epoch
  | 4118 => w32 s.power.profile
  | 4119 => r.snapQuality.setWidth 32
  | _ => 0#32

/-! ### Words of the image and of retentive data -/

/-- A word of the image: a word point, or the 32 flags from an address up. -/
def imgWord (s : State) (a : Nat) : Word :=
  if isWordPoint a then imgVal s a
  else (List.range 32).foldl (fun w k => if imgVal s (a + k) ≠ 0#32 then w ||| (1#32 <<< k) else w) 0#32

/-- 32 flags are stored from a word. -/
def setFlags (a : Nat) (w : Word) (s : State) : State :=
  (List.range 32).foldl (fun s k => setImg (a + k) (b32 (w.getLsbD k)) s) s

/-- The addresses of a range, `step` apart. -/
def addrs (step : Nat) (r : Range) : List Nat := (List.range ((r.hi - r.lo + step - 1) / step)).map fun k => r.lo + step * k

/-- Logical regions of the partition in use. -/
def regionCount (s : State) : Nat := if s.power.threeRegion then 3 else 4

/-- Where a word of the 4-region partition's instance data stands in the partition in use (R22, R174). -/
def placeOf (s : State) (region addr : Nat) : Option (Nat × Nat) :=
  if !s.power.threeRegion then some (region, addr)
  else ((prog s).instMap.find? fun m => m.region4 = region && decide (m.addr4 ≤ addr ∧ addr < m.addr4 + 4 * m.words)).map fun m =>
    (m.region3, m.addr3 + (addr - m.addr4))

/-- Home key of an instance word (R422). -/
def instKey (region addr : Nat) : Nat := 2 ^ 40 + dataKey region addr

/-- The retentive instance words: home key, and the place in the partition in use (R140, R166). -/
def retentiveInst (s : State) : List (Nat × Nat × Nat) :=
  (prog s).instRetentive.flatMap fun e => (addrs 4 e.2).filterMap fun a =>
    (placeOf s e.1 a).map fun q => (instKey e.1 a, q.1, q.2)

/-- The retentive MX words by image address (R140). -/
def retentiveMx (s : State) : List Nat := (prog s).mxRetentive.flatMap (addrs 32)

/-- Bytes placed in a memory, addresses counted from `base`. -/
def placeBytes (base : Nat) (runs : List Run) (l : Nat) : Memory :=
  (runs.filter fun e => e.region = l).foldl (fun m e => Memory.writeBytes m (e.addr - base) e.bytes) []

/-- The word at a data address of a logical region among initial values. -/
def initWord (runs : List Run) (region a : Nat) : Word := Memory.readWord (placeBytes 0 runs region) a

/-! ### Migration (R282-R284) -/

/-- One word of a migration entry, by its operation (R282). -/
def migrateWord (m : Migration) (old : Word) : Word :=
  match m.op with
  | 0 => old
  | 1 => m.value
  | 2 => fCvt 0 old
  | _ => fCvt 2 old

/-- The words of an instance. -/
def instWords (d : InstDecl) : List Nat := (List.range d.words).map fun k => d.addr + 4 * k

/-- An epoch's migration of a task in a partition: every word of its new instances by data key, from the initial values of the
epoch and then from the entries; `old` reads the layout before (R282; log entry 16). -/
def migrateOnce (part n : Nat) (old : Nat → Nat → Word) (e : EpochRec) : Tbl (Option Word) :=
  let insts := (if part = 4 then e.inst4 else e.inst3).filter fun d => d.task = n
  let init := if part = 4 then e.init4 else e.init3
  let fresh := insts.flatMap fun d => (instWords d).map fun a => (dataKey d.region a, initWord init d.region a)
  let moved := (e.migrations.filter fun m => m.task = n && m.part = part).flatMap fun m => (List.range m.len).map fun i =>
    (dataKey m.dstRegion (m.dst + 4 * i), migrateWord m (old m.srcRegion (m.src + 4 * i)))
  (fresh ++ moved).foldl (fun t w => t.set none w.1 (some w.2)) []

/-- The migrations of several epochs, one after the other; `base` reads the oldest layout for the first of them (R284). -/
def migrateAll (part n : Nat) (base : EpochRec → Nat → Nat → Word) : List EpochRec → Tbl (Option Word) → Tbl (Option Word)
  | [], w => w
  | e :: r, w => migrateAll part n base r (migrateOnce part n (fun q a => (w.get none (dataKey q a)).getD (base e q a)) e)

/-- The epochs by which a layout of a task's instances is older than that of another epoch (R284). -/
def dueEpochs (s : State) (n since upto : Nat) : List EpochRec :=
  s.edit.applied.filter fun e => decide (since < e.num ∧ e.num ≤ upto) && e.taskMask.getLsbD n

/-- An instance word of the 4-region partition is retentive (R140, R422). -/
def isRetentive (p : Prog) (region a : Nat) : Bool := p.instRetentive.any fun e => e.1 = region && decide (e.2.lo ≤ a ∧ a < e.2.hi)

/-- A task's retentive instance words of an older layout are brought to that of the epoch in force by the stored entries; a word
that no commit has left reads as that layout's initial value (R284). -/
def settleTask (s : State) (h : Home) (n : Nat) : Home :=
  match dueEpochs s n (s.ldg.home.layout.get 0 n) s.ps.epoch with
  | [] => h
  | es =>
    let old (e : EpochRec) (q a : Nat) : Word := (s.ldg.home.words.get none (instKey q a)).getD (initWord e.oldInit4 q a)
    { words := (migrateAll 4 n old es []).foldl (fun t w =>
        if isRetentive (prog s) (w.1 / 2 ^ 32) (w.1 % 2 ^ 32) then t.set none (2 ^ 40 + w.1) w.2 else t) h.words
      layout := h.layout.set 0 n s.ps.epoch }

/-- The home copy, with the journal's committed entries, in the layouts of the epoch in force (R284, R423). -/
def settleHome (s : State) : State :=
  let s1 := homeWrite s
  { s1 with ldg.home := ((partition s1).tasks.map TaskDecl.num).foldl (settleTask s1) s1.ldg.home }

/-- Retentive data is restored from the home copy; a word that no commit has left there keeps its initial value (R173, R284,
R423). -/
def restoreRetentive (s : State) : State :=
  let s0 := settleHome s
  let s1 := (retentiveMx s0).foldl (fun s a => (s0.ldg.home.words.get none a).elim s fun v => setFlags a v s) s0
  (retentiveInst s1).foldl (fun s e => (s0.ldg.home.words.get none e.1).elim s fun v =>
    setMirrorWord e.2.1 e.2.2 v (setDataWord e.2.1 e.2.2 v s)) s1

/-- The home copy takes the initial values, in the layouts of the epoch in force (R173). -/
def resetHome (s : State) : State :=
  let h1 := (retentiveMx s).foldl (fun (h : Tbl (Option Word)) a => h.set none a (some (imgWord s a))) []
  let h2 := (retentiveInst s).foldl (fun (h : Tbl (Option Word)) e => h.set none e.1 (some (dataWord s e.2.1 e.2.2))) h1
  let lay := ((partition s).tasks.map TaskDecl.num).foldl (fun (m : Tbl Nat) n => m.set 0 n s.ps.epoch) []
  { s with ldg.home := { words := h2, layout := lay }, ldg.journal := [] }

/-! ### Regions (R22, R28, R173, R275) -/

/-- Where a partition places the root block of a region: the vector table stands first in it. An image that names no place has
it in the window of R204 itself (R275; log entry 50). -/
def rootOf (q : Partition) (l : Nat) : Nat := q.roots.getD l 0x100

/-- One region takes its code, its data and its root, and the mirror its instance data (R166, R275). -/
def loadRegion (s : State) (l : Nat) : State :=
  let q := partition s
  let s1 := s.setRegion (physRegion s l)
    { code := placeBytes 0 q.code l, data := placeBytes 0x10000000 q.dataInit l, root := rootOf q l, rootOld := rootOf q l }
  { s1 with scan.mirror := s1.scan.mirror.set [] l (placeBytes 0 q.dataInit l) }

/-- Every region of the partition in use is loaded. -/
def loadRegions (s : State) : State := (List.range (regionCount s)).foldl loadRegion { s with scan.mirror := [] }

/-! ### Forces (R181) -/

/-- A force is set or released, each change in the fault log (R181, R490). -/
def forcePoint (op addr : Nat) (v : Word) (s : State) : State :=
  match op with
  | 0 => logFault 9 0 (whr 4 0 0) (w32 addr) v { s with scan.forces := s.scan.forces.set none addr (some v) }
  | 1 => match forceOf s addr with
    | some old => logFault 9 0 (whr 4 0 1) (w32 addr) old { s with scan.forces := s.scan.forces.set none addr none }
    | none => s
  | _ => s.scan.forces.foldl (fun s e => match e.2 with
      | some old => logFault 9 0 (whr 4 0 1) (w32 e.1) old s
      | none => s) { s with scan.forces := [] }

/-- Every force is released, as a start does (R181). -/
def releaseForces (s : State) : State := forcePoint 2 0 0#32 s

/-! ### Program start and stop (R162, R165, R173, R178) -/

/-- How a program starts (R173). -/
inductive StartKind where
  | restore | cold | kept
deriving DecidableEq, Repr, Inhabited

/-- Points that a start initialises: outputs, MX and scan-written flags (R141, R173). -/
def startsFresh (s : State) (a : Nat) : Bool :=
  match spaceOf a with
  | 2 | 3 | 5 => true
  | 6 => taskWrites s a
  | _ => false

/-- The image at an initialising start: initial values of the program image; inputs and Rime's flags stay (R141, R173). -/
def initImage (s : State) : State :=
  let keep := s.img.val.drop (startsFresh s)
  { s with
    img.val := (prog s).init.foldl (fun (m : Tbl Word) e => if startsFresh s e.1 then m.set 0#32 e.1 e.2 else m) keep
    scan.published := [], scan.outForces := []
    fld.ch := s.fld.ch.mapVal {} fun _ c => { c with qx := none }
    saf.conns := [] }

/-- Runtime states at a program start: first cycles, counts at 0, grids from now; instance data that is kept stands in the layout
that it had (R142, R147, R284). -/
def startTasks (k : StartKind) (s : State) : State :=
  { s with scan.tasks := (partition s).tasks.foldl (fun (m : Tbl TaskRt) d =>
      let old := s.task d.num
      m.set {} d.num
        { nextK := if isPeriodicTask d.num then gridK (1000 * phaseUs s d) (1000 * periodUs s d) (taskMono s) else 0
          layout := if k = .kept then old.layout else s.ps.epoch, capLevel := old.capLevel, capSeen := old.capSeen }) [] }

/-- The first SCAN of a start: 1 after a cold start or with a new image, else one more than was last written (R162). -/
def firstScan (k : StartKind) (s : State) : Nat := if k = .cold then 1 else s.ldg.scanKept + 1

/-- The program starts (R162, R165, R173, R181, R483). -/
def startProgram (k : StartKind) (s : State) : State :=
  let s1 := releaseForces (abandonAll s)
  let s2 := match k with
    | .kept => s1
    | .cold => dualStart (resetHome (initImage (loadRegions s1)))
    | .restore => dualStart (restoreRetentive (initImage (loadRegions s1)))
  let s3 := startTasks k s2
  let s4 := { s3 with
    scan.mode := 2, scan.scan := firstScan k s3, scan.sx12 := false, scan.stopPending := false
    scan.overruns := 0, scan.startedAt := s3.now, scan.startMono := (taskMono s3), scan.atBoundary := false
    rime.mode := 2, rime.sweepAt := if s3.rime.mode = 2 then s3.rime.sweepAt else s3.now, fld.dies := s3.fld.dies.over {} (fun _ d => { d with hold := false }) [0, 1, 2, 3]
    ps.lastStarted := (prog s3).imageId, sup.ready := 0#32, sup.tallyOn := true }
  dispatch (releaseOwn 0 {} (gooseStart s4))

/-- The program stops: cycles in progress are abandoned, outputs hold, Rime runs on, slots go IDLE and Tally requires Steward
alone (R31, R165, R178, R266, R337, R483). -/
def stopProgram (s : State) : State :=
  let s1 := abandonAll (resetSlot s)
  { s1 with
    scan.mode := if s.ps.prog.isSome then 1 else 0
    scan.stopPending := false
    scan.atBoundary := true
    sup.armed := s1.sup.armed &&& 3#32 }

/-- The table window as an image declares it (R444). -/
def tablesOf (p : Prog) : Memory := p.tables.foldl (fun m e => Memory.writeBytes m e.2.base e.2.data) []

/-- An image comes into force: epochs begin again at 0, values kept until the next program load go, Rime takes its rules and
the dies their configuration (R162, R182, R254, R271, R324, R387, R444, R492, R493). -/
def installImage (p : Prog) (s : State) : State :=
  let s1 := { s with
    ps.prog := some p, ps.pendingImg := none, ps.epoch := 0, ps.epochsSigned := true, ps.oldProg := none
    ldg.scanKept := 0
    scan.cfg := [], fld.kept := []
    ring.cfg := [], ring.cfgSet := false, ring.topology := p.ringTopology, ring.units := p.ringUnits, ring.loss := p.ringLoss
    ring.ringId := p.ringId, ring.actNs := 0
    eng.tables := tablesOf p, ldg.tblStaged := []
    sup.tallyNext := some (p.tallyPeriodUs, p.tallyClk), sup.sliceMs := p.sliceMs
    edit.applied := []
    scan.tasks := [] }
  let s2 := setRules p.rules p.tiMap { s1 with
    rime.rules := [], rime.set := [], fld.ch := s1.fld.ch.mapVal {} fun _ c => { c with ruleCmd := none } }
  renewStations s ((List.range 4).foldl (fun s n => if (s.die n).powered then configureDie n s else s) s2)

/-! ### Shipped releases (R396) -/

/-- The record's causes: the trap, the station or the event that released the task (R142, R395). -/
def causeOf (n : Nat) (r : RelRec) : Cause :=
  if n = 50 then { trapCause := r.data, trapTask := r.source }
  else if n = 48 then { station := r.source }
  else { evTai := r.snapTai, evData := r.data, evSeq := r.source }

/-- Forces of inputs that the shipped snapshot shows (R181, R395). -/
def shipForces (ps : List ImgPoint) (s : State) : State :=
  { s with scan.forces := ps.foldl (fun m p =>
      if spaceOf p.addr = 7 then m else m.set none p.addr (if p.q.getLsbD 3 then some p.val else none)) s.scan.forces }

/-- A task is released once its RELEASE and its SNAPSHOT are both there, with the shipped instant (R396). -/
def takeShipped (n : Nat) (s : State) : State :=
  match s.pair.releases.get none n, s.pair.shipped.get none n with
  | some r, some ps =>
    if isApprentice s && s.pair.aligned && !switchDue s && mayRelease s n && decide ((s.task n).state = .idle) then
      let s1 := shipForces ps (startRelease n (causeOf n r) { s with pair.releases := s.pair.releases.set none n none })
      let s2 := s1.setTask n { s1.task n with snapMono := r.snapMono, snapTai := r.snapTai }
      { s2 with scan.scan := if n = 0 then r.scan else s.scan.scan }
    else s
  | _, _ => s

/-! ### The epoch switch (R161, R268, R278-R284) -/

/-- A task is a changed task of an epoch (R271). -/
def changedTask (e : Epoch) (n : Nat) : Bool := decide (n < 51) && e.taskMask.getLsbD n

/-- The changed tasks whose cycle was released under the old epoch and has not ended (R280). -/
def oldCycles (e : Epoch) (s : State) : List Nat :=
  (List.range 51).filter fun n => changedTask e n && decide ((s.task n).state ≠ .idle) && decide ((s.task n).epoch ≠ s.ps.epoch)

/-- What waited for a task issues, unless its releases are held: a release from before the hold, then the one that fell in it,
and BASE at once (R147, R149, R279, R280). -/
def issueHeld (n : Nat) (s : State) : State :=
  let r := s.task n
  if r.held then s
  else
    let s1 := s.setTask n { r with heldRelease := none }
    let s2 := if r.state = .idle ∧ mayRelease s1 n then releaseNext n s1 else s1
    match r.heldRelease with
    | some c => if mayRelease s2 n then release n c s2 else s2
    | none => s2

/-- A held task is free again (R280). -/
def liftTask (n : Nat) (s : State) : State :=
  let r := s.task n
  if r.held then issueHeld n (s.setTask n { r with held := false }) else s

/-- Once no changed task's old cycle runs, held releases issue, the old code is no longer in use and the edit is DONE (R280,
R281). -/
def liftHold (s : State) : State :=
  match s.edit.epoch with
  | none => s
  | some e =>
    if s.edit.state ≠ 3 ∨ oldCycles e s ≠ [] then s
    else (List.range 51).foldl (fun s n => liftTask n s) { s with edit.state := 4, edit.epoch := none, ps.oldProg := none }

/-- A changed task at the switch: its first new release is held while `hold` stands, but for BASE, which has no cycle in flight
at its own boundary; its grid goes on from now (R147, R280, R281). -/
def switchTask (hold : Bool) (n : Nat) (s : State) : State :=
  let r := s.task n
  match (partition s).tasks.find? fun d => d.num = n with
  | none => s
  | some d =>
    let k := gridK (1000 * phaseUs s d) (1000 * periodUs s d) (taskMono s)
    s.setTask n { r with
      held := hold && decide (n ≠ 0), nextK := if isPeriodicTask n then max r.nextK k else r.nextK }

/-- One region's root flips (R275, R279). -/
def flipRoot (l : Nat) (s : State) : State :=
  let p := physRegion s l
  let r := s.region p
  s.setRegion p { r with rootOld := r.root, root := r.rootNext.getD r.root, rootNext := none }

/-- The Tally slots of changed tasks (R483). -/
def changedSlots (e : Epoch) (s : State) : Word :=
  slotMask ((List.range 32).filter fun n => slotHolder s n ≠ 0 && changedTask e ((slotHolder s n - 1) / 256))

/-- What the program store keeps of an epoch that comes into force (R278, R284). -/
def epochRec (e : Epoch) (old : Prog) (num : Nat) : EpochRec :=
  { num := num, taskMask := e.taskMask, migrations := e.migrations
    inst4 := e.result.part4.instances, inst3 := e.result.part3.instances
    init4 := e.result.part4.dataInit, init3 := e.result.part3.dataInit
    oldInit4 := old.part4.dataInit, oldMap := old.instMap }

/-- The switch: every root flips, Rime changes rule sets, EPOCH increases by one, and what waited for it issues under the new
epoch (R161, R268, R271, R279-R281, R460, R483). -/
def switchNow (e : Epoch) (s : State) : State :=
  let s0 := { s with ps.oldProg := s.ps.prog, ps.prog := some e.result, ps.epoch := s.ps.epoch + 1
                     ps.epochsSigned := s.ps.epochsSigned && s.edit.signed, edit.state := 3
                     edit.applied := s.edit.applied ++ [epochRec e (prog s) (s.ps.epoch + 1)] }
  let s1 := (List.range (regionCount s0)).foldl (fun s l => flipRoot l s) s0
  let hold := decide (oldCycles e s1 ≠ [])
  let s2 := ((List.range 51).filter (changedTask e)).foldl (fun s n => switchTask hold n s) s1
  let s3 := changeRules e.result.rules e.result.tiMap { s2 with
    sup.switchPeriods := 2, sup.switchSlots := changedSlots e s2 }
  let s4 := liftHold (safAtSwitch s3)
  (List.range 51).foldl (fun s n => takeShipped n (issueHeld n s)) s4

/-- A committed epoch whose S has come is applied; an APPRENTICE that has not committed it, though it holds SWITCH_AT, falls out
of step instead (R278, R279, R287). -/
def epochSwitch (s : State) : State :=
  let due (S : Nat) : Bool := boundary s && (decide (s.scan.mode ≠ 2) || decide (S ≤ s.scan.scan))
  match s.edit.epoch, s.edit.switchAt with
  | some e, _ =>
    if s.edit.state ≠ 2 ∨ !due s.edit.switchScan ∨ (isApprentice s ∧ s.edit.switchAt.isNone) then s
    else switchNow e { s with edit.switchScan := if s.scan.mode = 2 then s.edit.switchScan else s.scan.scan }
  | none, some S => if isApprentice s && decide (s.edit.state = 1) && due S then outOfStep 4 (abortEdit 5 s) else s
  | none, none => s

/-- EPOCH_SWITCH: at an APPRENTICE that holds no SWITCH_AT for its edit, the partner's S has come without it (R279, R287; log entry
32). -/
def epochSwitchEvent (s : State) : State :=
  if isApprentice s && boundary s && decide (s.edit.state = 1 ∨ s.edit.state = 2) && s.edit.switchAt.isNone then
    outOfStep 4 (abortEdit 5 s)
  else epochSwitch s

/-- EPOCH_SWITCH (R279). -/
def execEpochSwitch (t : Nat) (s : State) : Result State := .next (epochSwitchEvent (advance t s))

/-! ### Changes that wait for the boundary (R162) -/

/-- TASK_CFG's answer (R182). -/
def taskCfgReply (s : State) (n : Nat) : Bytes :=
  match taskDecl s n with
  | none => zeros 16
  | some d =>
    let time := if n = 0 then baseMaxUs s else if isPeriodicTask n then periodUs s d else 0
    leBytes 1 n ++ leBytes 1 (bit (cfgOf s n).enable) ++ leBytes 1 (if isEventTask n then edgeOf s d else 0) ++ zeros 1
      ++ leBytes 4 time ++ leBytes 4 (if isPeriodicTask n then phaseUs s d else 0) ++ zeros 4

/-- New runtime parameters of a task, its grid from now (R147, R182). -/
def applyTaskCfg (n : Nat) (c : TaskCfg) (s : State) : State :=
  let s1 := { s with scan.cfg := s.scan.cfg.set none n (some c) }
  match taskDecl s1 n with
  | some d => if isPeriodicTask n then
      s1.setTask n { s1.task n with nextK := gridK (1000 * phaseUs s1 d) (1000 * periodUs s1 d) (taskMono s1) } else s1
  | none => s1

/-- PRG_MODE takes effect: REPLACE starts the pending image in the manner of a WARM restart (R173, R178). -/
def applyMode (mode : Nat) (s : State) : State :=
  match mode with
  | 0 => if s.scan.mode = 2 then liftHold (stopProgram s) else s
  | 1 =>
    let s := if s.sup.storm && inPair s then { s with sup.storm := false, pair.state := 1, pair.listenAt := some s.now }
      else { s with sup.storm := false }
    if s.scan.mode = 1 then panelInitial (startProgram .kept s) else s
  | 2 => panelInitial (startProgram .cold (stopProgram s))
  | _ => match s.ps.pendingImg with
    | some p => panelInitial (startProgram .restore (installImage p (stopProgram s)))
    | none => s

/-- The program archive of a bank, 0 A and 1 B (R538). -/
def archiveOf (s : State) (bank : Nat) : Option (Prog × Nat × List EpochRec) := if bank = 0 then s.upd.archA else s.upd.archB
/-- The archive of a bank is written (R538). -/
def setArchive (bank : Nat) (v : Option (Prog × Nat × List EpochRec)) (s : State) : State :=
  if bank = 0 then { s with upd.archA := v } else { s with upd.archB := v }

/-- Activation: the revert copy is taken, the selector names the other bank in TRIAL, and the WARM restart follows (R540
steps 1-3, R547). -/
def applyActivate (trialS : Nat) (s : State) : State :=
  let old := s.upd.active
  let s1 := setArchive old (s.ps.prog.map fun p => (p, s.ps.epoch, s.edit.applied)) s
  goDown .update { s1 with
    upd.state := 3, upd.active := 1 - old, upd.trial := true, upd.starts := 0, upd.trialS := trialS
    upd.updSeq := (s.upd.updSeq + 1) % 2 ^ 32
    upd.revertHome := if s.upd.image.isSome then some (homeWrite s).ldg.home else none }

/-- A revert: the selector names the old bank, CONFIRMED; after a program image the old image, its epochs and the revert copy
come back (R540). -/
def revertState (cause : Nat) (s : State) : State :=
  let old := 1 - s.upd.active
  let s1 := { s with
    upd.state := 6, upd.cause := cause, upd.active := old, upd.trial := false, upd.starts := 0, upd.trialEnd := none
    upd.phase := 0, upd.updSeq := (s.upd.updSeq + 1) % 2 ^ 32, upd.image := none, upd.revertHome := none }
  match s.upd.image, archiveOf s old with
  | some _, some (p, e, recs) =>
    { installImage p s1 with ps.epoch := e, edit.applied := recs, ldg.home := s.upd.revertHome.getD s.ldg.home, ldg.journal := [] }
  | _, _ => s1

/-- A revert of a running module makes a WARM restart (R540). -/
def revertUpdate (cause : Nat) (s : State) : State := revertState cause (goDown .update s)

/-- One waiting change takes effect and its command is answered. -/
def applyBnd1 (b : Bnd) (s : State) : State :=
  match b with
  | .taskCfg n c wid => let s1 := applyTaskCfg n c s; finishWid wid DONE (taskCfgReply s1 n) s1
  | .prgMode mode wid =>
    let at1 := s.scan.scan
    let s1 := applyMode mode s
    finishWid wid DONE (leBytes 1 mode ++ zeros 3 ++ leBytes 8 (if mode = 0 then at1 else s1.scan.scan)) s1
  | .force op addr v => forcePoint op addr v s
  | .updActivate trialS => applyActivate trialS s
  | .ringCfg .. => { s with ring.next := s.ring.next ++ [b] }
  | .ringStation .. => { s with ring.next := s.ring.next ++ [b] }
  | .profile .. => { s with scan.bnd := s.scan.bnd ++ [b] }
  | .safConfirm .. => { s with scan.bnd := s.scan.bnd ++ [b] }

/-- The waiting changes take effect in the order they were accepted, but for those that a row of their own applies (R162). -/
def applyBnd (s : State) : State := s.scan.bnd.foldl (fun s b => applyBnd1 b s) { s with scan.bnd := [] }

/-- While no program runs a change takes effect at once (R178). -/
def applyIfStopped (s : State) : State := if s.scan.mode = 2 then s else applyBnd s

/-- STOP_REQUEST_APPLY: SX12 was 1 after a publish, so the program enters STOPPED at the BASE boundary; a committed epoch then
switches at once (R165, R288). -/
def stopRequestApply (s : State) : State :=
  if s.scan.stopPending && boundary s then epochSwitch (liftHold (stopProgram s)) else s

/-- STOP_REQUEST_APPLY. -/
def execStopRequestApply (t : Nat) (s : State) : Result State := .next (stopRequestApply (advance t s))

/-! ### The pair's comparison (R399-R402) -/

/-- The OUT_CRC of both modules differ: a finding in both and a test round (R402). -/
def crcMismatch (n scan : Nat) (s : State) : State :=
  logFault 0x50 2 (whr 5 0 0) (w32 n) (w32 scan)
    { s with
      pair.testRound := true
      pair.mismatches := (s.pair.mismatches + 1) % 2 ^ 32
      pair.mismatchAt := s.now :: (s.pair.mismatchAt.filter fun a => decide (s.now < a + 3600 * 10 ^ 9)) }

/-- The OUT_CRC of a task and scan are compared once both are known; in phase 2 of an update with a program image they are
only recorded (R399, R400). -/
def compareCrc (n : Nat) (s : State) : State :=
  match s.pair.ourCrc.get none n, s.pair.theirCrc.get none n with
  | some (a, x), some (b, y) =>
    if a ≠ b then s
    else
      let s1 := { s with pair.ourCrc := s.pair.ourCrc.set none n none, pair.theirCrc := s.pair.theirCrc.set none n none }
      if x = y ∨ (s.upd.phase = 2 ∧ s.upd.image.isSome) then
        (if n = 0 then { s1 with pair.matched := min 31 (s.pair.matched + 1) } else s1)
      else crcMismatch n a s1
  | _, _ => s

/-- An APPRENTICE with 16 matching BASE cycles and no disqualifying finding is IN_STEP and sets VALID (R400). -/
def tryInStep (s : State) : State :=
  if isApprentice s && decide (s.pair.state = 2) && decide (16 ≤ s.pair.matched) && s.pair.identityOk && !s.power.disqualified
      && !s.pair.suspect then
    claimChanged { s with pair.state := 3, pair.valid := true, pair.inStepAt := some s.now, pair.takebackDone := false }
  else s

/-! ### Handover at S (R407, R413) -/

/-- The target claim is published as the applied claim (R407). -/
def takeTarget (s : State) : State :=
  let s1 := { s with pair.health := s.pair.targetHealth, pair.preference := targetPref s }
  if claimOf s1 = claimOf s then s1 else claimChanged s1

/-- The partner's target claim as its newest health report says, else its last claim (R395, R407, R491). -/
def partnerTarget (s : State) : Half :=
  match s.pair.partnerReport with
  | some r => BitVec.ofNat 16 (leNat (slice r 12 2))
  | none => s.pair.partnerClaim

/-- At S the module that is not in control gets the higher claim: an update's phase or a revert forces it (R542, R543), else
HEALTH ranks above PREFERENCE (R413, R415). -/
def swapsAtS (s : State) : Bool :=
  let theirs := (partnerTarget s).toNat / 256 % 128
  decide (s.upd.phase ≠ 0) || decide (s.upd.state = 4) || (isApprentice s && decide (s.upd.state = 6))
    || (if isKeeper s then decide (s.pair.targetHealth ≤ theirs) else decide (theirs ≤ s.pair.targetHealth))

/-- A handover ends without effect; a PAIR_SWITCH that waits for it is answered (R414). -/
def dropHandover (s : State) : State :=
  let s1 := { s with pair.handover := none }
  match s1.host.works.find? fun w => w.code = 0x0903 && w.running with
  | some w => finish w WRONG_STATE [] s1
  | none => s1

/-- PAIR_SWITCH is answered with S (R418). -/
def answerSwitch (S : Nat) (s : State) : State :=
  match s.host.works.find? fun w => w.code = 0x0903 && w.running with
  | some w => finish w DONE (zeros 4 ++ leBytes 8 S) s
  | none => s

/-- What both modules note of a change of control (R417). -/
def changeControl (role : Role) (S : Nat) (s : State) : State :=
  { s with pair.role := role, pair.takeovers := (s.pair.takeovers + 1) % 2 ^ 32, pair.lastScan := S, pair.lastTai := s.time.tai
           pair.theirCrc := [], pair.ourCrc := [], pair.takebackDone := false }

/-- The KEEPER yields control at S; in phase 3 of an update it then activates, and a trial that has run out reverts (R413,
R542, R543). -/
def yieldControl (S : Nat) (s : State) : State :=
  let s1 := answerSwitch S (takeTarget { changeControl .apprentice S s with
    pair.shipping := false, pair.aligned := true, pair.inStepAt := some s.now })
  if s.upd.phase = 3 then applyActivate s.upd.trialS { s1 with upd.phase := 4 }
  else if s.upd.state = 4 ∧ (s.upd.trialEnd.elim false fun e => decide (e ≤ s.time.mono)) then revertUpdate 4 s1
  else s1

/-- The APPRENTICE takes control at S: from S on its own releases and snapshots, which it ships (R413). -/
def gainControl (S : Nat) (s : State) : State :=
  let s1 := takeTarget { changeControl .keeper S s with
    pair.shipping := true, pair.aligned := false, pair.ackScan := S, pair.shipped := [], pair.releases := []
    upd.phase := if s.upd.phase = 2 then 4 else s.upd.phase }
  releaseOwn 0 {} (takePubs s1)

/-- The roles change at S: the KEEPER applies it with the APPRENTICE's ACK of S − 1, the APPRENTICE with the SNAPSHOT of BASE
for S (R413, R414). -/
def handoverApply (s : State) : State :=
  match s.pair.handover with
  | none => s
  | some S =>
    if !boundary s ∨ s.scan.scan < S then s
    else
      let s0 := { s with pair.handover := none }
      if isKeeper s then
        if s.pair.ackScan + 1 < S ∨ s.pair.state ≠ 3 then dropHandover s
        else if swapsAtS s then yieldControl S s0 else answerSwitch S (takeTarget s0)
      else if isApprentice s && (s.pair.shipped.get none 0).isSome && decide (s.pair.state = 3) then
        if swapsAtS s then gainControl S s0 else takeTarget s0
      else s0

/-- HANDOVER (R413). -/
def execHandover (t : Nat) (s : State) : Result State := .next (handoverApply (advance t s))

/-- What still waits for the boundary takes effect before the next BASE snapshot (R162). -/
def flushBoundary (s : State) : State :=
  handoverApply (stopRequestApply (epochSwitch (safConfirmApply (flipTables (profileChangeApply (applyBnd s))))))

end Sys2Proof.Machine
end

