-- ==== Sys2Proof/Machine/Control.lean ====
section
/-! DEFINITION. The rows of the C class, control, and the emulated syllables (R194, R237): each delivers its syllable to the active
bank of its engine. -/

namespace Sys2Proof.Machine

/-- EMULATED_SYLLABLE: a syllable of any class and opcode that the engine takes as emulated (R194). -/
def execEmulatedSyllable (b : Issue) (cls : BitVec 3) (opcode : BitVec 6) (operands : BitVec 22) (s : State) : Result State :=
  .next (deliverSyl b ((0#1 ++ cls ++ opcode ++ operands).setWidth 32) s)

/-- BNZ: the syllable is delivered to its engine; `opBnz` is what it does (R237). -/
def execBnz (b : Issue) (gd : BitVec 6) (imm : BitVec 16) (s : State) : Result State :=
  .next (deliverSyl b (encRI 4 0x00 gd imm) s)

/-- BZ: the syllable is delivered to its engine; `opBz` is what it does (R237). -/
def execBz (b : Issue) (gd : BitVec 6) (imm : BitVec 16) (s : State) : Result State :=
  .next (deliverSyl b (encRI 4 0x01 gd imm) s)

/-- LOOP: the syllable is delivered to its engine; `opLoop` is what it does (R237). -/
def execLoop (b : Issue) (gd : BitVec 6) (imm : BitVec 16) (s : State) : Result State :=
  .next (deliverSyl b (encRI 4 0x02 gd imm) s)

/-- JMPR: the syllable is delivered to its engine; `opJmpr` is what it does (R237). -/
def execJmpr (b : Issue) (gd ga gb : BitVec 6) (sub : BitVec 4) (s : State) : Result State :=
  .next (deliverSyl b (encRRR 4 0x03 gd ga gb sub) s)

/-- CALL: the syllable is delivered to its engine; `opCall` is what it does (R237). -/
def execCall (b : Issue) (gd : BitVec 6) (imm : BitVec 16) (s : State) : Result State :=
  .next (deliverSyl b (encRI 4 0x04 gd imm) s)

/-- CALLR: the syllable is delivered to its engine; `opCallr` is what it does (R237). -/
def execCallr (b : Issue) (gd ga gb : BitVec 6) (sub : BitVec 4) (s : State) : Result State :=
  .next (deliverSyl b (encRRR 4 0x05 gd ga gb sub) s)

/-- FBCALL: the syllable is delivered to its engine; `opFbcall` is what it does (R237). -/
def execFbcall (b : Issue) (gd : BitVec 6) (imm : BitVec 16) (s : State) : Result State :=
  .next (deliverSyl b (encRI 4 0x06 gd imm) s)

/-- FBCALLR: the syllable is delivered to its engine; `opFbcallr` is what it does (R237). -/
def execFbcallr (b : Issue) (gd ga gb : BitVec 6) (sub : BitVec 4) (s : State) : Result State :=
  .next (deliverSyl b (encRRR 4 0x07 gd ga gb sub) s)

/-- RET: the syllable is delivered to its engine; `opRet` is what it does (R237). -/
def execRet (b : Issue) (gd ga gb : BitVec 6) (sub : BitVec 4) (s : State) : Result State :=
  .next (deliverSyl b (encRRR 4 0x08 gd ga gb sub) s)

/-- INSTSET: the syllable is delivered to its engine; `opInstset` is what it does (R237). -/
def execInstset (b : Issue) (gd ga gb : BitVec 6) (sub : BitVec 4) (s : State) : Result State :=
  .next (deliverSyl b (encRRR 4 0x09 gd ga gb sub) s)

/-- INSTGET: the syllable is delivered to its engine; `opInstget` is what it does (R237). -/
def execInstget (b : Issue) (gd ga gb : BitVec 6) (sub : BitVec 4) (s : State) : Result State :=
  .next (deliverSyl b (encRRR 4 0x0A gd ga gb sub) s)

/-- BARRIER: the syllable is delivered to its engine; `opBarrier` is what it does (R237). -/
def execBarrier (b : Issue) (gd : BitVec 6) (imm : BitVec 16) (s : State) : Result State :=
  .next (deliverSyl b (encRI 4 0x10 gd imm) s)

/-- TEND: the syllable is delivered to its engine; `opTend` is what it does (R237). -/
def execTend (b : Issue) (gd : BitVec 6) (imm : BitVec 16) (s : State) : Result State :=
  .next (deliverSyl b (encRI 4 0x11 gd imm) s)

/-- TRAP: the syllable is delivered to its engine; `opTrap` is what it does (R237). -/
def execTrap (b : Issue) (gd : BitVec 6) (imm : BitVec 16) (s : State) : Result State :=
  .next (deliverSyl b (encRI 4 0x12 gd imm) s)

end Sys2Proof.Machine
end

