-- ==== Sys2Proof/Machine/Container.lean ====
section
/-! DEFINITION. The signed container that carries program images, epochs and updates: its header, signatures, blocks and
payload (R532-R536). -/

namespace Sys2Proof.Machine

/-- An unsigned field of a header; bytes beyond its end read zero. -/
def hdrF (h : Bytes) (off len : Nat) : Nat := leNat (slice h off len)

/-- BLOCK_SIZE, TABLE_BLOCKS, PAYLOAD_LEN, DATA_BLOCKS, FLAGS, CVERSION and ROLLBACK of a header (R532). -/
def hdrBlockSize (h : Bytes) : Nat := hdrF h 0x0A 2
def hdrTables (h : Bytes) : Nat := hdrF h 0x0C 2
def hdrPayload (h : Bytes) : Nat := hdrF h 0x10 4
def hdrData (h : Bytes) : Nat := hdrF h 0x14 4
def hdrOwner (h : Bytes) : Bool := (hdrF h 7 1).testBit 0
def hdrVendor (h : Bytes) : Bool := (hdrF h 7 1).testBit 1
def hdrCVersion (h : Bytes) : Nat := hdrF h 0x2C 4
def hdrRollback (h : Bytes) : Nat := hdrF h 0x30 4
/-- IMAGE_ID: the first four bytes of PAYLOAD_HASH (R532). -/
def hdrImageId (h : Bytes) : Word := w32 (hdrF h 0x38 4)
/-- HDR_LEN as the header's parts give it (R532). -/
def hdrLen (h : Bytes) : Nat := 0x70 + 48 * hdrTables h + 96 * (bit (hdrOwner h) + bit (hdrVendor h))
/-- Blocks of the container, table blocks first (R532). -/
def hdrBlocks (h : Bytes) : Nat := hdrTables h + hdrData h

/-- Check 1 of R533: MAGIC, VERSION, KIND, HDR_LEN and the geometry of R532. -/
def hdrForm (kind total : Nat) (h : Bytes) : Bool :=
  let bs := hdrBlockSize h
  decide (hdrF h 0 4 = 0x31434E44 ∧ hdrF h 4 2 = 1 ∧ hdrF h 6 1 = kind ∧ hdrF h 8 2 = hdrLen h ∧ hdrLen h ≤ h.length)
    && decide (512 ≤ bs ∧ bs ≤ 4064 ∧ bs % 32 = 0 ∧ 1 ≤ hdrTables h ∧ hdrTables h ≤ 78)
    && decide (hdrPayload h = total ∧ hdrData h = (hdrPayload h + bs - 1) / bs ∧ hdrData h ≤ hdrTables h * (bs / 48))

/-- Check 2 of R533: PART, MIN_STEP and TARGET_IDENT. -/
def hdrTarget (h : Bytes) : Bool :=
  decide (hdrF h 0x18 2 = 0x9664 ∧ hdrF h 0x1A 1 ≤ 0xB1)
    && (slice h 0x1C 16 = zeros 16 || slice h 0x1C 16 = ident.take 16)

/-- The bytes that the signatures cover (R532). -/
def hdrSigned (h : Bytes) : Bytes := h.take (0x70 + 48 * hdrTables h)

/-- SIG_VENDOR is present and verifies against the ROM key (R501, R534). -/
def vendorOk (h : Bytes) : Bool :=
  hdrVendor h && ecdsaVerify (slice Config.vendorKey 0 96) (hdrSigned h) (slice h (0x70 + 48 * hdrTables h) 96)

/-- A key-store slot. -/
def keySlot (s : State) (n : Nat) : KeySlot := s.sec.keys.get {} n

/-- SIG_OWNER is present and verifies with the key of OWNER_SLOT, a filled slot 0, 2 or 3 (R501, R532). -/
def ownerOk (s : State) (h : Bytes) : Bool :=
  let n := hdrF h 0x1B 1
  hdrOwner h && (n = 0 || n = 2 || n = 3) && decide ((keySlot s n).kind ≠ 0)
    && ecdsaVerify (keySlot s n).key (hdrSigned h) (slice h (0x70 + 48 * hdrTables h + 96 * bit (hdrVendor h)) 96)

/-- SIG_OWNER as the lifecycle demands it (R495, R534). -/
def ownerSuits (s : State) (h : Bytes) : Bool :=
  match s.sec.life with
  | .blank => true
  | .commission => !hdrOwner h || ownerOk s h
  | .sealed | .locked => ownerOk s h
  | .retired => false

/-- The checks of R533 in order, each failure CHECK_FAILED; an update also needs the vendor's signature and the rollback
floor. -/
def headerOk (kind total : Nat) (h : Bytes) (s : State) : Bool :=
  hdrForm kind total h && hdrTarget h && (decide (kind ≠ 3) || vendorOk h) && ownerSuits s h
    && (decide (kind ≠ 3) || decide (s.upd.floor ≤ hdrRollback h))

/-- The length that a block must have: BLOCK_SIZE, the rest of the payload for the last data block; the last table block
may be shorter (R532). -/
def blockLenOk (h : Bytes) (i len : Nat) : Bool :=
  let bs := hdrBlockSize h
  let tb := hdrTables h
  if i < tb then len = bs || (i + 1 = tb && decide (len ≤ bs))
  else if i + 1 = hdrBlocks h then len = hdrPayload h - (hdrData h - 1) * bs else len = bs

/-- A block passes its hash: a table block against TABLE_HASH, a data block against its entry in a stored table block
(R535). -/
def blockHashOk (h : Bytes) (blocks : Tbl Bytes) (i : Nat) (data : Bytes) : Bool :=
  let tb := hdrTables h
  let per := hdrBlockSize h / 48
  if i < tb then sha384 data = slice h (0x70 + 48 * i) 48
  else
    let j := i - tb
    let t := blocks.get [] (j / per)
    decide (t ≠ []) && decide (sha384 data = slice t (48 * (j % per)) 48)

/-- Every block is stored. -/
def allStored (h : Bytes) (blocks : Tbl Bytes) : Bool :=
  (List.range (hdrBlocks h)).all fun i => decide (blocks.get [] i ≠ [])

/-- The payload that the stored data blocks make. -/
def payloadOf (h : Bytes) (blocks : Tbl Bytes) : Bytes :=
  ((List.range (hdrData h)).map fun j => blocks.get [] (hdrTables h + j)).flatten

/-- The whole-container check of R536. -/
def payloadOk (h : Bytes) (blocks : Tbl Bytes) : Bool := decide (sha384 (payloadOf h blocks) = slice h 0x38 48)

/-- A block command's answer and effect, common to programs, epochs and updates (R176, R290, R535, R545): the identifier is
known or not, the block is a repeat, fails, or is stored. -/
def takeBlock (id : Nat) (known : Bool) (h : Bytes) (blocks : Tbl Bytes) (p : Bytes) (store : Tbl Bytes → State)
    (s : State) : Reply × State :=
  let i := min (field p 4 4 0) (hdrBlocks h - 1)
  let data := p.drop 8
  let answer (n : Nat) : Reply := .done DONE (leBytes 2 id ++ zeros 2 ++ leBytes 4 n)
  let repeated := decide (blocks.get [] i ≠ [])
  let bad := !repeated && (!blockLenOk h i data.length || !blockHashOk h blocks i data)
  checked [(known && bad, CHECK_FAILED), (!known, WRONG_STATE)]
    (if repeated then (answer blocks.length, s) else (answer (blocks.length + 1), store (blocks.set [] i data))) s

end Sys2Proof.Machine
end

