-- ==== Sys2Proof/Machine/ImageCheck.lean ====
section
/-! DEFINITION. The consistency rules that a program image must keep: checks 3 and 4 of PRG_LOAD_END (R177). -/

namespace Sys2Proof.Machine

/-! ### Shapes of a partition -/

/-- Two ranges share an address. -/
def meets (a b : Range) : Bool := decide (max a.lo b.lo < min a.hi b.hi)

/-- Every pair of different places in a list satisfies `f`. -/
def pairsOk {α : Type} (f : α → α → Bool) : List α → Bool
  | [] => true
  | a :: r => r.all (f a) && pairsOk f r

/-- The words of a mask range of the image: a bit space counts in words of 32 points (R158). -/
def wordRange (r : Range) : Range :=
  if isWordPoint r.lo then r else { lo := r.lo / 32 * 32, hi := (r.hi + 31) / 32 * 32 }

/-- The partitions that an image carries. -/
def partsOf (p : Prog) : List Partition := (if p.has4 then [p.part4] else []) ++ (if p.has3 then [p.part3] else [])

/-- A task is marked safety (R453). -/
def safetyTask (p : Prog) (n : Nat) : Bool := (p.spb.getD {}).taskMask.getLsbD n

/-- The tasks of a partition that declare a point as an output. -/
def writersOf (q : Partition) (a : Nat) : List TaskDecl := q.tasks.filter fun d => inRanges d.outputs a

/-- Some task of the image declares the point as an output. -/
def scanWrites (p : Prog) (a : Nat) : Bool := (partsOf p).any fun q => !(writersOf q a).isEmpty

/-- A byte of a region's code in a partition; 0 where the image has none. -/
def codeAt (q : Partition) (region a : Nat) : Byte :=
  match q.code.find? fun c => c.region = region && decide (c.addr ≤ a ∧ a < c.addr + c.bytes.length) with
  | some c => c.bytes.getD (a - c.addr) 0#8
  | none => 0#8

/-- A word of a region's code. -/
def codeWordAt (q : Partition) (region a : Nat) : Nat := leNat ((List.range 4).map fun k => codeAt q region (a + k))

/-! ### The rules -/

/-- R48: no function marked safety stands in a SINGLE region of the 3-region partition. -/
def rule48 (p : Prog) : Bool :=
  !p.has3 || p.part3.tasks.all fun d => !safetyTask p d.num || d.stripes.all fun t => p.part3.paired.getLsbD t.region

/-- An output range names points, none of space 0x8, and of space 0x7 only an error task's SX12 (R155). -/
def outputOk (n : Nat) (r : Range) : Bool :=
  let last := r.hi - 1
  (List.range (spaceOf last - spaceOf r.lo + 1)).all fun k =>
    let sp := spaceOf r.lo + k
    if sp = 7 then isErrorTask n && decide (r.lo = imgAddr 7 12 ∧ r.hi = imgAddr 7 12 + 1)
    else decide (1 ≤ sp ∧ sp < 7)

/-- R155: one writing task per point, and outputs only where a task may write; SX12 is the error tasks' alone, and they
may share it. -/
def rule155 (p : Prog) : Bool :=
  (partsOf p).all fun q =>
    (q.tasks.all fun d => d.outputs.all (outputOk d.num))
      && pairsOk (fun a b => a.outputs.all fun x => b.outputs.all fun y => decide (spaceOf x.lo = 7) || !meets x y) q.tasks

/-- R158: no two stripes of one phase may write the same word. -/
def rule158 (p : Prog) : Bool :=
  (partsOf p).all fun q => q.tasks.all fun d =>
    pairsOk (fun a b => decide (a.phase ≠ b.phase)
      || ((a.wImg.all fun x => b.wImg.all fun y => !meets (wordRange x) (wordRange y))
          && (decide (a.region ≠ b.region) || a.wData.all fun x => b.wData.all fun y => !meets x y))) d.stripes

/-- R219: the vectors of causes 1-3 in each region's root are 0 or aligned code addresses. -/
def rule219 (p : Prog) : Bool :=
  (partsOf p).all fun q => (List.range 4).all fun r => [1, 2, 3].all fun c =>
    let v := codeWordAt q r (q.roots.getD r 0x100 + 4 * c)
    decide (v % 4 = 0 ∧ v < 0x400000)

/-- The bundle at an address of a region's code: its syllables up to STOP, at most 8 (R195). -/
def bundleAt (q : Partition) (region a : Nat) : List Word :=
  let ws := (List.range 8).map fun k => w32 (codeWordAt q region (a + 4 * k))
  ws.take (((ws.findIdx? sylStop).getD 7) + 1)

/-- The address of a bundle's relative target (R237, R238). -/
def staticTarget (a : Nat) (w : Word) (x : Option Word) : Nat := (w32 a + 4#32 * immRI w (x.map sylX) true).toNat

/-- Where control may go from a bundle at `a` without passing a BARRIER, and the BARRIER that it holds; a register target is not
followed (R237, R240; log entry 50). -/
def bundleFlow (q : Partition) (region a : Nat) : List Nat × Option Nat :=
  let ws := bundleAt q region a
  let next := a + 4 * ws.length
  match (List.range ws.length).find? fun i => sylClass (ws.getD i 0#32) = 4 with
  | none => ([next], none)
  | some i =>
    let w := ws.getD i 0#32
    let t := staticTarget a w (xAt ws i)
    match sylOp w with
    | 0x00 | 0x01 | 0x02 | 0x04 | 0x06 => ([next, t], none)
    | 0x03 | 0x08 | 0x11 | 0x12 => ([], none)
    | 0x10 => ([], some (immRI w ((xAt ws i).map sylX) false).toNat)
    | _ => ([next], none)

/-- The BARRIERs that control reaches from some addresses, each as its number and the address of the bundle after it. -/
def barriersFrom (q : Partition) (region : Nat) : Nat → List Nat → List Nat → List (Nat × Nat)
  | 0, _, _ => []
  | _, [], _ => []
  | fuel + 1, a :: todo, seen =>
    if seen.contains a ∨ 0x400000 ≤ a then barriersFrom q region fuel todo seen
    else
      let f := bundleFlow q region a
      (match f.2 with | some n => [(n, a + 4 * (bundleAt q region a).length)] | none => [])
        ++ barriersFrom q region fuel (f.1 ++ todo) (a :: seen)

/-- The BARRIERs of a stripe's code. -/
def stripeBarriers (q : Partition) (t : Stripe) : List (Nat × Nat) := barriersFrom q t.region (codeSize / 2) [t.entry.toNat] []

/-- R240: every BARRIER of a stripe is in its list of barriers, and a stripe that its engine runs next has the address after that
BARRIER as its entry. -/
def rule240 (p : Prog) : Bool :=
  (partsOf p).all fun q => q.tasks.all fun d => d.stripes.all fun t => (stripeBarriers q t).all fun b =>
    (d.barriers.any fun x => x.n = b.1 && x.phase = t.phase && x.engines.contains (stripeEngine t))
      && (stripeAt d (t.phase + 1) (stripeEngine t)).all fun u => decide (u.entry.toNat = b.2)

/-! ### Rime and channels, of the module and of the station blocks (R251-R261, R297, R298, R385) -/

/-- What one unit carries: the module, or a station by its block. -/
structure UnitCfg where
  station : Option Nat := none
  rules : Tbl Rule := []
  owner : Tbl OwnerEntry := []
  chans : Tbl ChanCfg := []

/-- The units of an image (R385). -/
def unitsOf (p : Prog) : List UnitCfg :=
  { rules := p.rules, owner := p.owner, chans := p.chanCfg }
    :: p.stations.map fun e => { station := some e.1, rules := e.2.rules, owner := e.2.owner, chans := e.2.chanCfg }

/-- A flag of the unit has a writer other than Rime: a scan task, or for a station its controller (R253, R385). -/
def flagTaken (p : Prog) (u : UnitCfg) (i : Nat) : Bool :=
  match u.station with
  | none => scanWrites p (imgAddr 6 i)
  | some n => (p.stations.get {} n).rfController.getLsbD i

/-- The QX bit of a unit's channel (R138, R385). -/
def unitQx (u : UnitCfg) (ch : Nat) : Nat :=
  match u.station with
  | none => imgAddr 2 ch
  | some n => imgAddr 2 (64 + 512 * (n - 1) + ch)

/-- The index is a Rime signal (R251). -/
def signalOk (x : Nat) : Bool := decide (x < 0x240 ∨ x = 0x7FE ∨ x = 0x7FF ∨ (0x800 ≤ x ∧ x < 0x1000))

/-- R251: every input of a rule is a listed signal. -/
def rule251 (p : Prog) : Bool := (unitsOf p).all fun u => u.rules.all fun r => r.2.inp.all signalOk

/-- R252: every target is listed. -/
def rule252 (p : Prog) : Bool := (unitsOf p).all fun u => u.rules.all fun r => decide (r.2.target < 0x240 ∨ r.2.target = 0xFFF)

/-- R253: one writer per target: no two rules, no flag with another writer, no channel that the scan owns. -/
def rule253 (p : Prog) : Bool :=
  (unitsOf p).all fun u =>
    pairsOk (fun (a b : Nat × Rule) => decide (a.2.target = 0xFFF) || decide (a.2.target ≠ b.2.target)) u.rules
      && u.rules.all fun r =>
        if r.2.target < 0x40 then decide (ownMode (u.owner.get 0x40#32 r.2.target) ≠ 0)
        else if r.2.target < 0x140 then !flagTaken p u (r.2.target - 0x40) else true

/-- The rules that a rule reads: results, and flags that Rime writes (R258). -/
def readsRules (rs : Tbl Rule) (r : Rule) : List Nat :=
  r.inp.flatMap fun x =>
    if 0x800 ≤ x then [x - 0x800]
    else if 0x40 ≤ x ∧ x < 0x140 then (rs.filter fun q => decide (q.2.target = x)).map Prod.fst
    else []

/-- The rules that end a chain of at least so many rules more than those given. -/
def chainEnds (rs : Tbl Rule) : Nat → List Nat → List Nat
  | 0, ns => ns
  | k + 1, ns => chainEnds rs k ((rs.filter fun r => (readsRules rs r.2).any ns.contains).map Prod.fst)

/-- R258: no chain is deeper than 16 rules, and none is a loop. -/
def rule258 (p : Prog) : Bool := (unitsOf p).all fun u => (chainEnds u.rules 16 u.rules.keys).isEmpty

/-- R260: OWNER is not 3. -/
def rule260 (p : Prog) : Bool := (unitsOf p).all fun u => u.owner.all fun e => decide (ownMode e.2 ≠ 3)

/-- R261: a REFLEX channel's QX bit is no task's output, and REFLEX and MERGED channels are level outputs. -/
def rule261 (p : Prog) : Bool :=
  (unitsOf p).all fun u => u.owner.all fun e =>
    (decide (ownMode e.2 ≠ 1) || !scanWrites p (unitQx u e.1))
      && (decide (ownMode e.2 = 0) || decide ((u.chans.get {} e.1).function = 2))

/-- R297: FUNCTION is 0 to 3. -/
def rule297 (p : Prog) : Bool := (unitsOf p).all fun u => u.chans.all fun e => decide (e.2.function ≤ 3)

/-- R298: the marks that go with a FUNCTION, double points, and at most 4 CONTINUOUS channels per die. -/
def chansOk (cs : Tbl ChanCfg) : Bool :=
  (List.range 64).all (fun ch =>
    let c := cs.get {} ch
    let pair := modeBit c 3 || (decide (ch % 2 = 1) && modeBit (cs.get {} (ch - 1)) 3)
    (decide (c.function = 1) || !(modeBit c 1 || modeBit c 5 || modeBit c 3))
      && (!modeBit c 3 || (decide (ch % 2 = 0) && decide ((cs.get {} (ch + 1)).function = 1)))
      && !(pair && (modeBit c 1 || modeBit c 5))
      && (!modeBit c 2 || decide (c.function = 2 ∨ c.function = 3)))
    && (List.range 4).all fun d =>
      decide (((List.range 16).filter fun k => modeBit (cs.get {} (16 * d + k)) 0).length ≤ 4)

/-- R298, of the module and of every station. -/
def rule298 (p : Prog) : Bool := (unitsOf p).all fun u => chansOk u.chans

/-- The period of a task in the image: BASE_MAX for BASE (R315). -/
def imagePeriodUs (d : TaskDecl) : Nat := if d.num = 0 then d.baseMaxUs else d.periodUs

/-- A SAF channel's writers and timeout: BASE or a periodic task, and at least twice its period or a floor (R315, R383). -/
def safWriterOk (p : Prog) (a timeoutMs floorUs : Nat) : Bool :=
  (partsOf p).all fun q => (writersOf q a).all fun d =>
    decide (d.num < 16) && decide (2 * max (imagePeriodUs d) floorUs ≤ 1000 * timeoutMs)

/-- R315: SAF channels of the module. -/
def rule315 (p : Prog) : Bool :=
  (List.range 64).all fun ch =>
    let c := p.chanCfg.get {} ch
    !modeBit c 2 || (if ownMode (p.owner.get 0x40#32 ch) = 0 then safWriterOk p (imgAddr 2 ch) c.safMs 0 else decide (1 ≤ c.safMs))

/-- R335: the keys of the select-before-operate slots; the presence keys are those of the board. -/
def rule335 (s : State) (p : Prog) : Bool :=
  let used := p.sbo.filter fun e => e.2.selectKey ≠ 0xFF
  let keys (e : Nat × SboSlot) : List Nat := [e.2.selectKey, e.2.execKey, e.2.cancelKey].filter fun k => k ≠ 0xFF
  pairsOk (fun a b => decide (a.2.selectKey ≠ b.2.selectKey)) used
    && (used.all fun a => p.sbo.all fun b => decide (a.2.selectKey ≠ b.2.execKey ∧ a.2.selectKey ≠ b.2.cancelKey))
    && p.sbo.all fun e => (keys e).all fun k => decide (k ≠ s.bcr.presKeyA ∧ k ≠ s.bcr.presKeyB)

/-- The points of a map entry. -/
def entryPoints (m : MapEntry) : List Nat := if m.type = 1 then [m.point, m.point + 1] else [m.point]

/-- The points of an entry lie in the GOOSE part of the space that its TYPE suits (R349, R353): the bit space and the word
space are given. -/
def entryOk (bits words : Nat) (m : MapEntry) : Bool :=
  (entryPoints m).all fun a =>
    if m.type < 2 then decide (spaceOf a = bits ∧ 31808 ≤ indexOf a ∧ indexOf a < 32768)
    else decide (spaceOf a = words ∧ 12288 ≤ indexOf a ∧ indexOf a < 16384)

/-- R349: subscription map entries: their ranges, one writer per point, TYPE and space; at most 8,192 entries. -/
def rule349 (p : Prog) : Bool :=
  (p.gooseIn.all fun m => decide (m.type ≤ 3) && entryOk 1 4 m)
    && pairsOk (fun a b => !(entryPoints a).any (entryPoints b).contains) p.gooseIn
    && decide (p.gooseIn.length + p.gooseOut.length ≤ 8192)

/-- The members that a publication sends: map entries and the OCTET STRING members of connections (R353, R466). -/
def pubMembers (p : Prog) (k : Nat) : List Nat :=
  ((p.gooseOut.filter fun m => m.ref = k).map MapEntry.member)
    ++ (((p.spb.getD {}).conns.filter fun c => c.dir = 1 && c.medium = 0 && c.ref = k).map ConnDecl.member)

/-- R353: publication map entries: their ranges, and MEMBER from 0 without gaps. -/
def rule353 (p : Prog) : Bool :=
  (p.gooseOut.all fun m => decide (m.type = 4 ∨ m.type = 5) || (decide (m.type ≤ 3) && entryOk 2 5 m))
    && (List.range 64).all fun k =>
      let ms := pubMembers p k
      (List.range ms.length).all fun i => ms.contains i

/-- R383: SAF channels of the stations, with the ring cycle of the image. -/
def rule383 (p : Prog) : Bool :=
  p.stations.all fun e => (List.range 64).all fun ch =>
    let c := e.2.chanCfg.get {} ch
    !modeBit c 2 || decide (ownMode (e.2.owner.get 0x40#32 ch) ≠ 0)
      || safWriterOk p (imgAddr 2 (64 + 512 * (e.1 - 1) + ch)) c.safMs (125 * p.ringUnits / 4)

/-- A local LEVEL or PULSE channel that SCAN or MERGED owns, which a pair member must not have (R393). -/
def pairUnfit (p : Prog) : Bool :=
  (List.range 64).any fun ch =>
    decide (2 ≤ (p.chanCfg.get {} ch).function) && decide (ownMode (p.owner.get 0x40#32 ch) ≠ 1)

/-- R393: while PAIR_CFG's MODE 1 is in force. -/
def rule393 (s : State) (p : Prog) : Bool := decide (s.pair.mode ≠ 1) || !pairUnfit p

/-- R422: at most 6 MiB of retentive words. -/
def rule422 (p : Prog) : Bool := decide (p.retentiveBytes ≤ 6 * 2 ^ 20)

/-- The SAF mark of the channel that a QX bit commands, local or of a station (R454). -/
def safQx (p : Prog) (a : Nat) : Bool :=
  let i := indexOf a
  if spaceOf a ≠ 2 then false
  else if i < 64 then modeBit (p.chanCfg.get {} i) 2
  else decide (i < 31808) && decide ((i - 64) % 512 < 64)
    && modeBit ((p.stations.get {} ((i - 64) / 512 + 1)).chanCfg.get {} ((i - 64) % 512)) 2

/-- Rime reads a channel as a signal (R251). -/
def imageRuleReads (p : Prog) (ch : Nat) : Bool := p.rules.any fun r => r.2.enabled && r.2.inp.contains ch

/-- A channel may serve a dual contact: INPUT, no CAPTURE, COUNTER_EN or DP_PAIR, and VALIDATED where Rime reads it (R462). -/
def dualChanOk (p : Prog) (ch : Nat) : Bool :=
  let c := p.chanCfg.get {} ch
  decide (ch < 64 ∧ c.function = 1) && !(modeBit c 1 || modeBit c 3 || modeBit c 5)
    && !(decide (ch % 2 = 1) && modeBit (p.chanCfg.get {} (ch - 1)) 3)
    && (!imageRuleReads p ch || (p.owner.get 0x40#32 ch).getLsbD 3)

/-- R462: dual-contact entries. -/
def rule462 (p : Prog) : Bool :=
  let ds := (p.spb.getD {}).duals
  (ds.all fun d => dualChanOk p d.chA && dualChanOk p d.chB && decide (d.chA ≠ d.chB)
      && decide ((p.chanCfg.get {} d.chA).filterUs = (p.chanCfg.get {} d.chB).filterUs)
      && decide (10 ≤ d.discMs ∧ d.discMs ≤ 5000))
    && pairsOk (fun a b => decide (a.chA ≠ b.chA ∧ a.chA ≠ b.chB ∧ a.chB ≠ b.chA ∧ a.chB ≠ b.chB)) ds

/-- The carrier words of a connection lie where R466 places them. -/
def carriersOk (p : Prog) (c : ConnDecl) : Bool :=
  let used := (p.gooseIn ++ p.gooseOut).flatMap entryPoints
  if c.medium = 0 then
    decide (12288 ≤ c.word ∧ c.word + 19 ≤ 16384)
      && (List.range 19).all fun i => !used.contains (imgAddr (if c.dir = 0 then 4 else 5) (c.word + i))
  else
    let b := p.stations.get {} c.ref
    decide (128 * (c.ref - 1) ≤ c.word ∧ c.word + 19 ≤ 128 * (c.ref - 1) + (if c.dir = 0 then b.inWords else b.outWords))

/-- The task of a connection declares the 19 words (R465). -/
def carriersDeclared (p : Prog) (c : ConnDecl) : Bool :=
  (partsOf p).all fun q => q.tasks.all fun d =>
    decide (d.num ≠ c.task) || (List.range 19).all fun i =>
      inRanges (if c.dir = 0 then d.inputs else d.outputs) (imgAddr (if c.dir = 0 then 4 else 5) (c.word + i))

/-- A connection entry's fields lie in their ranges (R465). -/
def connOk (p : Prog) (c : ConnDecl) : Bool :=
  decide (c.dir ≤ 1 ∧ c.medium ≤ 1 ∧ c.len ≤ 64 ∧ c.identity ≠ 0#32 ∧ 5 ≤ c.timeExpMs ∧ c.timeExpMs ≤ 1000)
    && (if c.medium = 1 then decide (1 ≤ c.ref ∧ c.ref ≤ 62) else decide (c.ref < (if c.dir = 0 then 128 else 64)))
    && (decide (c.dir = 0) || decide (1 ≤ c.refreshMs ∧ c.refreshMs ≤ c.timeExpMs / 3))
    && safetyTask p c.task && carriersOk p c && carriersDeclared p c

/-- R465: connection entries; identities are not repeated. -/
def rule465 (p : Prog) : Bool :=
  let cs := (p.spb.getD {}).conns
  cs.all (connOk p) && pairsOk (fun a b => decide (a.identity ≠ b.identity)) cs

/-- The safety parameter block's own part of R455: MAGIC and VERSION, a length that its counts make, its masks, no safety error
task, releases, CODE_HASH (R453, R454). -/
def spbOk (p : Prog) (b : Spb) : Bool :=
  let tables := (List.range 256).flatMap fun t => if b.tableMask.getLsbD t then (p.tables.get {} t).data else []
  decide (b.magic = 0x42535053 ∧ b.version = 1) && (List.range 16).all (fun k => !b.taskMask.getLsbD (48 + k))
    && decide (b.bytes.length = 96 + 8 * b.duals.length + 24 * b.conns.length + 4 * b.releases.length)
    && decide (b.codeHash = (sha384 (Config.safetyCode p ++ tables)).take 16)
    && decide (b.duals.length ≤ 32 ∧ b.conns.length ≤ 64 ∧ b.releases.length ≤ 1024)
    && b.releases.all fun a => safQx p a && (partsOf p).all fun q => (writersOf q a).all fun d => safetyTask p d.num

/-- R455: the safety parameter block with its dual-contact and connection entries. -/
def rule455 (p : Prog) : Bool := p.spb.all fun b => spbOk p b && rule462 p && rule465 p

/-- R484: the window is long enough for CHECKIN_US with the period in force. -/
def rule484 (s : State) (p : Prog) : Bool := !windowTooShort s s.sup.periodUs s.sup.clk p.checkinUs

/-- Check 3 of R177: each rule in its order, and whether the image keeps it. -/
def imageRules (s : State) (p : Prog) : List (Nat × Bool) :=
  [(48, rule48 p), (155, rule155 p), (158, rule158 p), (219, rule219 p), (240, rule240 p), (251, rule251 p),
   (252, rule252 p), (253, rule253 p), (258, rule258 p), (260, rule260 p), (261, rule261 p), (297, rule297 p),
   (298, rule298 p), (315, rule315 p), (335, rule335 s p), (349, rule349 p), (353, rule353 p), (383, rule383 p),
   (393, rule393 s p), (422, rule422 p), (455, rule455 p), (462, rule462 p), (465, rule465 p), (484, rule484 s p)]

/-- The first rule that the image breaks, 0 where it keeps them all. -/
def brokenRule (s : State) (p : Prog) : Nat := (((imageRules s p).find? fun e => !e.2).map Prod.fst).getD 0

/-- A partition fits its regions: its stripes and code name them, and code and data fit (R177 check 4, R202, R205). -/
def partFits (n : Nat) (q : Partition) : Bool :=
  (q.tasks.all fun d => d.stripes.all fun t => decide (t.region < n ∧ t.slot < 4))
    && (q.code.all fun c => decide (c.region < n ∧ c.addr + c.bytes.length ≤ 0x400000))
    && (q.instances.all fun d => decide (d.region < n ∧ 0x10000000 ≤ d.addr ∧ d.addr + 4 * d.words ≤ 0x10200000))
    && q.dataInit.all fun c => decide (c.region < n ∧ 0x10000000 ≤ c.addr ∧ c.addr + c.bytes.length ≤ 0x10200000)

/-- Check 4 of R177. -/
def partsFit (p : Prog) : Bool := (!p.has4 || partFits 4 p.part4) && (!p.has3 || partFits 3 p.part3)

end Sys2Proof.Machine
end

