-- ==== Sys2Proof/Machine/Scan.lean ====
section
/-! DEFINITION. The execution commands: program load, mode and status, reading and forcing the image, task parameters, and
the SOE log (R175-R184). -/

namespace Sys2Proof.Machine

/-! ### Program load (R175-R177) -/

/-- A load is in progress. -/
def loading (s : State) : Bool := s.ps.loadId.isSome

/-- A pair's or station's refusal of commands that the KEEPER or a controller alone takes (R384, R390). -/
def notMine (s : State) : Bool := isApprentice s || isStation s || inHoldup s

/-- PRG_LOAD_BEGIN's effect and answer (R175). -/
def prgLoadBegin (w : Work) (s : State) : Reply × State :=
  let p := w.payload
  let total := field p 0 4 0
  let h := p.drop 8
  let id := s.ps.nextLoadId
  checked
    [(!headerOk 1 total h s, CHECK_FAILED), (decide (24 * 2 ^ 20 < total), NO_SPACE),
     (loading s || editBusy s || updBusy s, BUSY), (notMine s, WRONG_STATE)]
    (.done DONE (leBytes 2 id ++ leBytes 2 (hdrBlockSize h) ++ leBytes 4 (hdrBlocks h) ++ zeros 4),
      forward 0x0301 p { s with
        ps.loadId := some id, ps.nextLoadId := (id + 1) % 65536, ps.header := h, ps.blocks := [] }) s

/-- PRG_LOAD_BEGIN (R175). -/
def execPrgLoadBegin (t : Nat) (mb : Fin 8) (s : State) : Result State := .next (runCommand t mb 0x0301 prgLoadBegin s)

/-- PRG_LOAD_BLOCK's effect and answer (R176). -/
def prgLoadBlock (w : Work) (s : State) : Reply × State :=
  let id := field w.payload 0 2 0
  takeBlock id (decide (s.ps.loadId = some id)) s.ps.header s.ps.blocks w.payload
    (fun b => forward 0x0302 w.payload { s with ps.blocks := b }) s

/-- PRG_LOAD_BLOCK (R176). -/
def execPrgLoadBlock (t : Nat) (mb : Fin 8) (s : State) : Result State := .next (runCommand t mb 0x0302 prgLoadBlock s)

/-- The load ends: nothing of it is kept. -/
def dropLoad (s : State) : State := { s with ps.loadId := none, ps.header := [], ps.blocks := [] }

/-- The image of a loaded container: its parts, its IMAGE_ID and whether the owner signed it (R177, R497, R532). -/
def loadedImage (s : State) (h : Bytes) (blocks : Tbl Bytes) : Prog :=
  { readImage (Config.imageOf (payloadOf h blocks)) with imageId := hdrImageId h, len := hdrPayload h, signed := ownerOk s h }

/-- The first check of R177 that an image fails, 0 for none, and for check 3 the rule. -/
def loadCheck (s : State) (h : Bytes) (blocks : Tbl Bytes) : Nat × Nat :=
  let p := loadedImage s h blocks
  if !allStored h blocks then (1, 0)
  else if !payloadOk h blocks then (2, 0)
  else if brokenRule s p ≠ 0 then (3, brokenRule s p)
  else if !partsFit p then (4, 0) else (0, 0)

/-- PRG_LOAD_END's effect and answer (R177). -/
def prgLoadEnd (w : Work) (s : State) : Reply × State :=
  let id := field w.payload 0 2 0
  let c := loadCheck s s.ps.header s.ps.blocks
  let answer := leBytes 2 id ++ leBytes 1 c.1 ++ zeros 1 ++ leBytes 4 (hdrImageId s.ps.header).toNat ++ leBytes 2 c.2 ++ zeros 2
  if s.ps.loadId ≠ some id then (.done WRONG_STATE [], s)
  else if c.1 = 0 then
    (.done DONE answer, forward 0x0303 w.payload
      { dropLoad s with ps.pendingImg := some (loadedImage s s.ps.header s.ps.blocks) })
  else (.done CHECK_FAILED answer, forward 0x0303 w.payload (dropLoad s))

/-- PRG_LOAD_END (R177). -/
def execPrgLoadEnd (t : Nat) (mb : Fin 8) (s : State) : Result State := .next (runCommand t mb 0x0303 prgLoadEnd s)

/-! ### Mode and status (R178, R179) -/

/-- PRG_MODE's effect: it waits for the BASE boundary, or applies at once when the program is STOPPED; RUN is how an
APPRENTICE that TALLY_STORM holds takes up its work again (R178, R486). -/
def prgMode (w : Work) (s : State) : Reply × State :=
  let mode := if 3 < field w.payload 0 1 0 then 0 else field w.payload 0 1 0
  checked
    [((decide (mode < 3) && s.ps.prog.isNone) || (decide (mode = 3) && (s.ps.pendingImg.isNone || inPair s))
        || (notMine s && !(isApprentice s && s.sup.storm && decide (mode = 1) && !inHoldup s)), WRONG_STATE),
     (editBusy s || updBusy s, BUSY)]
    (.later, applyIfStopped (forward 0x0304 w.payload { s with scan.bnd := s.scan.bnd ++ [.prgMode mode w.wid] })) s

/-- PRG_MODE (R178). -/
def execPrgMode (t : Nat) (mb : Fin 8) (s : State) : Result State := .next (runCommand t mb 0x0304 prgMode s)

/-- PRG_STATUS's answer (R179). -/
def prgStatus (w : Work) (s : State) : Reply × State :=
  let n := if 50 < field w.payload 0 1 0 then 0 else field w.payload 0 1 0
  let st := isStation s
  let r := if (taskDecl s n).isSome && !st then s.task n else {}
  let worst := if st then 0 else (taskDecl s n).elim 0 fun d => d.worstUs.getD s.power.profile 0
  (.done DONE (leBytes 1 (if st then 0 else s.scan.mode) ++ leBytes 1 (if st then 0 else regionCount s)
    ++ leBytes 1 (if st then 0 else bit s.ps.pendingImg.isSome) ++ leBytes 1 n
    ++ leBytes 4 (if st then 0#32 else (prog s).imageId).toNat ++ leBytes 4 (if st then 0 else s.ps.epoch) ++ zeros 4
    ++ leBytes 8 (if st then 0 else s.scan.scan) ++ leBytes 4 (if st then 0 else s.scan.overruns) ++ leBytes 4 worst
    ++ leBytes 4 r.lastUs ++ leBytes 4 r.maxUs ++ leBytes 4 r.skipped ++ leBytes 4 r.cycles), s)

/-- PRG_STATUS (R179). -/
def execPrgStatus (t : Nat) (mb : Fin 8) (s : State) : Result State := .next (runCommand t mb 0x0305 prgStatus s)

/-! ### Reading the image (R180) -/

/-- One past the last index of a space, or of the SX or SW range that an index lies in (R11, R142, R180). -/
def spaceEnd (space i : Nat) : Nat :=
  match space with
  | 1 | 2 => 32768
  | 3 => 1048576
  | 4 | 5 => 16384
  | 6 => 256
  | 7 => if i < 256 then 256 else 5120
  | _ => 3968

/-- The value of a point as IMG_READ gives it: forced points read their forced value; a station's system points read 0 (R180,
R384). -/
def readValue (s : State) (a : Nat) : Word :=
  if spaceOf a = 7 then (if isStation s then 0#32 else sysPoint s 0 (indexOf a)) else pointValue s a

/-- Nibbles two to a byte, first in bits 3:0; `n` bytes (R180). -/
def packNibbles : Nat → List Nat → Bytes
  | 0, _ => []
  | n + 1, q => BitVec.ofNat 8 (q.getD 0 0 + 16 * q.getD 1 0) :: packNibbles n (q.drop 2)

/-- IMG_READ's answer (R180). -/
def imgRead (w : Work) (s : State) : Reply × State :=
  let p := w.payload
  let a := field p 0 4 0
  let quality := payloadBit p 6 0
  let most := if isWordPoint a then (if quality then 904 else 1018) else if quality then 6512 else 32576
  let n := min most (clamp 1 (spaceEnd (spaceOf a) (indexOf a) - indexOf a) (field p 4 2 1))
  let points := (List.range n).map fun k => a + k
  let vals := if isWordPoint a then points.flatMap fun x => leBytes 4 (readValue s x).toNat
    else packBits ((n + 7) / 8) (points.map fun x => decide (readValue s x ≠ 0#32))
  let qs := if quality then packNibbles ((n + 1) / 2) (points.map fun x => (pointQuality s x).toNat) else []
  checked [(spaceOf a = 0 || decide (9 ≤ spaceOf a) || !indexOk (spaceOf a) (indexOf a), CHECK_FAILED)]
    (.done DONE (leBytes 4 a ++ leBytes 2 n ++ leBytes 1 (bit quality) ++ zeros 1 ++ vals ++ qs), s) s

/-- IMG_READ (R180). -/
def execImgRead (t : Nat) (mb : Fin 8) (s : State) : Result State := .next (runCommand t mb 0x0306 imgRead s)

/-! ### Forces (R181) -/

/-- The station and the bit or word number of a station's point (R138, R139). -/
def stationPart (a : Nat) : Option (Nat × Nat) :=
  let i := indexOf a
  match spaceOf a with
  | 1 | 2 => if 64 ≤ i ∧ i < 31808 then some ((i - 64) / 512 + 1, (i - 64) % 512) else none
  | 4 | 5 => if i < 7936 then some (i / 128 + 1, i % 128) else none
  | _ => none

/-- The local channel of a point: its IX or QX bit, or its counter (R138, R139). -/
def channelPart (a : Nat) : Option Nat :=
  let i := indexOf a
  match spaceOf a with
  | 1 | 2 => if i < 64 then some i else none
  | 4 => if 7936 ≤ i ∧ i < 8000 then some (i - 7936) else none
  | _ => none

/-- A point of a function marked safety: a safety channel's or station's, an input or output that a safety task declares, or a
carrier word of a connection (R181, R452). -/
def safetyPoint (s : State) (a : Nat) : Bool :=
  (channelPart a).any (safetyChan s)
    || (stationPart a).any (fun e => (spb s).stationMask.getLsbD (e.1 - 1))
    || ((partition s).tasks.any fun d => safetyTask (prog s) d.num && (inRanges d.inputs a || inRanges d.outputs a))
    || (spb s).conns.any fun c => decide (carrier c 0 ≤ a ∧ a < carrier c 0 + 19)

/-- The QX bit of a channel that REFLEX owns (R181, R260). -/
def reflexQx (s : State) (a : Nat) : Bool :=
  spaceOf a = 2 && (match channelPart a, stationPart a with
    | some ch, _ => ownMode (ownerOf s ch) = 1
    | none, some (n, b) => decide (b < 64) && ownMode ((stationCfg s n).owner.get 0x40#32 b) = 1
    | none, none => false)

/-- The forces as they stand once those that wait for the boundary are in (R181). -/
def forcesAhead (s : State) : Tbl (Option Word) :=
  s.scan.bnd.foldl (fun m b => match b with
    | .force 0 a v => m.set none a (some v)
    | .force 1 a _ => m.set none a none
    | .force _ _ _ => []
    | _ => m) s.scan.forces

/-- IMG_FORCE's effect and answer: at once on a single module, at the BASE boundary in a pair (R181). -/
def imgForce (w : Work) (s : State) : Reply × State :=
  let p := w.payload
  let op := if 2 < field p 0 1 1 then 1 else field p 0 1 1
  let a := field p 4 4 0
  let raw := w32 (field p 8 4 0)
  let v := if isWordPoint a then raw else b32 (decide (raw ≠ 0#32))
  let ahead := forcesAhead s
  let after : Tbl (Option Word) := match op with
    | 0 => ahead.set none a (some v)
    | 1 => ahead.set none a none
    | _ => []
  let s1 := if inPair s then applyIfStopped (forward 0x0307 p { s with scan.bnd := s.scan.bnd ++ [.force op a v] })
    else forcePoint op a v s
  checked
    [(isApprentice s || inHoldup s, WRONG_STATE),
     (op ≠ 2 && !(decide (1 ≤ spaceOf a ∧ spaceOf a ≤ 5) && indexOk (spaceOf a) (indexOf a)), CHECK_FAILED),
     (op ≠ 2 && reflexQx s a, OWNED), (op ≠ 2 && safetyPoint s a, NOT_PERMITTED),
     (op = 0 && (ahead.get none a).isNone && decide (256 ≤ ahead.length), NO_SPACE)]
    (.done DONE (leBytes 1 op ++ zeros 3 ++ leBytes 4 a ++ leBytes 4 v.toNat
      ++ leBytes 2 after.length ++ zeros 2), s1) s

/-- IMG_FORCE (R181). -/
def execImgForce (t : Nat) (mb : Fin 8) (s : State) : Result State := .next (runCommand t mb 0x0307 imgForce s)

/-! ### Task parameters (R182) -/

/-- A period of a task breaks the SAF minimum of a local channel that it writes (R315). -/
def breaksLocal (s : State) (d : TaskDecl) (us : Nat) : Bool :=
  (List.range 64).any fun ch =>
    isSaf (chanCfg s ch) && ownMode (ownerOf s ch) = 0 && inRanges d.outputs (imgAddr 2 ch)
      && decide (1000 * (chanCfg s ch).safMs < 2 * us)

/-- A period of a task breaks the SAF minimum of a station channel that it writes (R383); a ring cycle is 31.25 µs per unit. -/
def breaksStation (s : State) (d : TaskDecl) (us : Nat) : Bool :=
  (List.range 62).any fun i =>
    let b := stationCfg s (i + 1)
    b.enable && (List.range 64).any fun ch =>
      isSaf (b.chanCfg.get {} ch) && ownMode (b.owner.get 0x40#32 ch) = 0 && inRanges d.outputs (imgAddr 2 (64 + 512 * i + ch))
        && decide (1000 * (b.chanCfg.get {} ch).safMs < 2 * max us (125 * s.ring.units / 4))

/-- The parameters that a TASK_CFG asks for, with its clamps (R182). -/
def askedCfg (s : State) (d : TaskDecl) (p : Bytes) : TaskCfg :=
  let time :=
    if d.num = 0 then max (clamp 100 10000000 (field p 4 4 d.baseMaxUs)) (d.worstUs.getD s.power.profile 0)
    else clamp d.periodUs (max d.periodUs 10000000) (field p 4 4 d.periodUs)
  { enable := !(isPeriodicTask d.num || isEventTask d.num) || decide (field p 1 1 1 ≠ 0)
    edge := some (min 2 (field p 2 1 d.edge)), timeUs := some time
    phaseUs := some (clamp 0 (time - 1) (field p 8 4 d.phaseUs)) }

/-- TASK_CFG's effect: it waits for the BASE boundary (R182). -/
def taskCfg (w : Work) (s : State) : Reply × State :=
  let p := w.payload
  let n := min 50 (field p 0 1 0)
  match taskDecl s n with
  | none => (.done NOT_PRESENT [], s)
  | some d =>
    if isErrorTask n then
      checked [(notMine s, WRONG_STATE)]
        (.done DONE (leBytes 1 n ++ leBytes 1 (field p 1 1 1) ++ leBytes 1 (field p 2 1 d.edge) ++ zeros 1
          ++ leBytes 4 (field p 4 4 d.periodUs) ++ leBytes 4 (field p 8 4 d.phaseUs) ++ zeros 4), s) s
    else
      let c := askedCfg s d p
      let us := c.timeUs.getD 0
      let timed := n = 0 || isPeriodicTask n
      checked
        [(!c.enable && safetyTask (prog s) n, NOT_PERMITTED),
         (notMine s || (timed && (breaksLocal s d us || breaksStation s d us))
            || (isPeriodicTask n && decide (us ≠ periodUs s d) && decide (svBound s n ≠ [])), WRONG_STATE)]
        (.later, applyIfStopped (forward 0x0308 p { s with scan.bnd := s.scan.bnd ++ [.taskCfg n c w.wid] })) s

/-- TASK_CFG (R182). -/
def execTaskCfg (t : Nat) (mb : Fin 8) (s : State) : Result State := .next (runCommand t mb 0x0308 taskCfg s)

/-! ### The SOE log (R184, R443) -/

/-- The records held: those of the archive that the SOE log no longer has, then the log. -/
def soeHeld (s : State) : List EvRec :=
  match s.ev.soe.head? with
  | some r => (s.ev.archive.filter fun x => newerSeq r.seq x.seq) ++ s.ev.soe
  | none => s.ev.archive

/-- SOE_READ's answer (R184). -/
def soeRead (w : Work) (s : State) : Reply × State :=
  let p := w.payload
  let held := soeHeld s
  let logFirst := (s.ev.soe.head?.map EvRec.seq)
  match held.head?, held.getLast? with
  | some oldest, some newest =>
    let start := field p 0 4 0
    let older := newerSeq oldest.seq start
    let from0 := if older then oldest.seq else start
    let rs := (held.filter fun r => !newerSeq from0 r.seq).take (clamp 1 127 (field p 4 2 127))
    let first := rs.head?.elim from0 EvRec.seq
    let archived := logFirst.elim true fun l => newerSeq l first
    checked [(newerSeq start newest.seq, NOT_PRESENT)]
      (.done DONE (leBytes 4 first ++ leBytes 2 rs.length ++ leBytes 1 (bit older + 2 * bit archived) ++ zeros 1
        ++ leBytes 4 oldest.seq ++ leBytes 4 newest.seq ++ rs.flatMap recBytes), s) s
  | _, _ => (.done NOT_PRESENT [], s)

/-- SOE_READ (R184). -/
def execSoeRead (t : Nat) (mb : Fin 8) (s : State) : Result State := .next (runCommand t mb 0x030A soeRead s)

end Sys2Proof.Machine
end

