-- ==== Sys2Proof/Machine/Edit.lean ====
section
/-! DEFINITION. Online edits: staging, the checks of a commit, arming the switch, abort and status (R271-R293). -/

namespace Sys2Proof.Machine

/-! ### The descriptor (R274) -/

/-- The epoch descriptor that follows a header. -/
def descOf (h : Bytes) : Bytes := slice (h.drop (hdrLen h)) 0 64

/-- CODE4 and CODE3 of a descriptor. -/
def descCode4 (d : Bytes) : List Nat := (List.range 4).map fun k => leNat (slice d (0x18 + 4 * k) 4)
/-- CODE3 of a descriptor. -/
def descCode3 (d : Bytes) : List Nat := (List.range 3).map fun k => leNat (slice d (0x28 + 4 * k) 4)

/-- The code of the partition in use, of the program and of an epoch before it whose cycles still run, in a region (R275). -/
def usedCode (s : State) (l : Nat) : List Range :=
  let old := match s.ps.oldProg with
    | some p => (if s.power.threeRegion then p.part3 else p.part4).code
    | none => []
  (((partition s).code ++ old).filter fun c => c.region = l).map fun c => { lo := c.addr, hi := c.addr + c.bytes.length }

/-- How many addresses from `0x140` up some ranges cover. -/
def coverage (rs : List Range) : Nat :=
  ((rs.insertionSort fun a b => a.lo ≤ b.lo).foldl (fun (c : Nat × Nat) r =>
    (max c.1 r.hi, c.2 + (r.hi - max c.1 r.lo))) (0x140, 0)).2

/-- Shadow space free in a logical region: all its code SRAM above the vector window that no code in use occupies (R275, R280). -/
def shadowFree (s : State) (l : Nat) : Nat := codeSize - 320 - coverage (usedCode s l)

/-- The new code fits the shadow space of every region in use (R277). -/
def fitsShadow (s : State) (d : Bytes) : Bool :=
  let code := if s.power.threeRegion then descCode3 d else descCode4 d
  (List.range (regionCount s)).all fun l => decide (code.getD l 0 ≤ shadowFree s l)

/-- The epoch has a part for both partitions: each part carries at least its roots (R275, R277). -/
def hasBoth (d : Bytes) : Bool := (descCode4 d).any (fun n => n ≠ 0) && (descCode3 d).any (fun n => n ≠ 0)

/-- A profile change waits for its boundary. -/
def profileWaits (s : State) : Bool := s.scan.bnd.any fun b => match b with | .profile _ _ => true | _ => false

/-- EDIT_STAGE's effect and answer (R289). -/
def editStage (w : Work) (s : State) : Reply × State :=
  let p := w.payload
  let total := field p 0 4 0
  let h := p.drop 8
  let d := descOf h
  let id := (s.edit.id + 1) % 65536
  let base := leNat (slice d 4 4)
  checked
    [(!fitsShadow s d || !hasBoth d, NOT_ATOMIC),
     (!headerOk 2 total h s || w32 (leNat (slice d 0 4)) ≠ (prog s).imageId || base ≠ s.ps.epoch, CHECK_FAILED),
     (decide (24 * 2 ^ 20 < (prog s).len + total), NO_SPACE),
     (editBusy s || loading s || updBusy s || profileWaits s, BUSY), (s.ps.prog.isNone || notMine s, WRONG_STATE)]
    (.done DONE (leBytes 2 id ++ leBytes 2 (hdrBlockSize h) ++ leBytes 4 (hdrBlocks h) ++ leBytes 4 (base + 1) ++ zeros 4),
      forward 0x0401 p { s with
        edit.state := 1, edit.cause := 0, edit.id := id, edit.newEpoch := base + 1, edit.header := h, edit.blocks := []
        edit.switchScan := 0, edit.epoch := none, edit.signed := ownerOk s h, edit.lastCmd := s.now, edit.switchAt := none }) s

/-- EDIT_STAGE (R289). -/
def execEditStage (t : Nat) (mb : Fin 8) (s : State) : Result State := .next (runCommand t mb 0x0401 editStage s)

/-- A command that names the staged edit keeps it from idling (R288). -/
def touchEdit (id : Nat) (s : State) : State :=
  if s.edit.state = 1 ∧ s.edit.id = id then { s with edit.lastCmd := s.now } else s

/-- The staged edit of an EDIT_ID (R290-R292). -/
def staged (s : State) (id : Nat) : Bool := decide (s.edit.state = 1 ∧ s.edit.id = id)

/-! ### The commit (R273, R277, R278, R291) -/

/-- The task stays as it is (R271). -/
def keeps (e : Epoch) (n : Nat) : Bool := !changedTask e n

/-- A partition with an epoch applied: the changed tasks' parts and the root are the epoch's, every other task keeps its code,
addresses and instance layout, and the system library its place (R271, R273, R275). -/
def mergePart (e : Epoch) (old new : Partition) : Partition :=
  let rootRun (c : Run) : Bool := c.task.isNone && decide (c.addr ≤ rootOf old c.region ∧ rootOf old c.region < c.addr + c.bytes.length)
  let merge (keepNone : Run → Bool) (a b : List Run) : List Run :=
    (a.filter fun c => c.task.elim (keepNone c) (keeps e)) ++ b.filter fun c => c.task.elim true (changedTask e)
  { old with
    tasks := (old.tasks.filter fun d => keeps e d.num) ++ new.tasks.filter fun d => changedTask e d.num
    code := merge (fun c => !rootRun c) old.code new.code
    roots := new.roots
    instances := (old.instances.filter fun d => keeps e d.task) ++ new.instances.filter fun d => changedTask e d.task
    dataInit := merge (fun _ => true) old.dataInit new.dataInit
    tally := new.tally }

/-- What the payload of an epoch container carries for a program, with the records read (R255, R271). -/
def offeredBy (old : Prog) (bytes : Bytes) : EpochImage :=
  let e := Config.epochOf old bytes
  { e with prog := readImage e.prog }

/-- The epoch of a payload: its descriptor, and the program with what R273 lets an epoch change; Rime's rules and TI map and the
safety parameter block change only where FLAGS says so. `num` is its number (R271-R274, R282). -/
def epochFrom (old : Prog) (num : Nat) (bytes : Bytes) : Epoch :=
  let flag (i : Nat) : Bool := (leNat (slice bytes 8 2)).testBit i
  let o := offeredBy old bytes
  let new := o.prog
  let e : Epoch :=
    { taskMask := BitVec.ofNat 64 (leNat (slice bytes 0xC 8)), safety := flag 0, code4 := descCode4 bytes, code3 := descCode3 bytes
      migrations := (o.migs.take (leNat (slice bytes 0x14 4))).map fun m => migrationFrom num m.1 m.2 }
  { e with result := { old with
      len := old.len + bytes.length
      part4 := mergePart e old.part4 new.part4, part3 := mergePart e old.part3 new.part3
      mxRetentive := new.mxRetentive, instRetentive := new.instRetentive, retentiveBytes := new.retentiveBytes
      instMap := (old.instMap.filter fun m => keeps e m.task) ++ new.instMap.filter fun m => changedTask e m.task
      init := new.init, evBind := new.evBind
      ruleRecs := if flag 1 then new.ruleRecs else old.ruleRecs, rules := if flag 1 then new.rules else old.rules
      tiMap := if flag 1 then new.tiMap else old.tiMap
      spbBytes := if flag 0 then new.spbBytes else old.spbBytes, acks := if flag 0 then new.acks else old.acks
      spb := if flag 0 then new.spb else old.spb } }

/-- The payload that the stored blocks of the edit make. -/
def stagedBytes (s : State) : Bytes := payloadOf s.edit.header s.edit.blocks

/-- The staged epoch (R274). -/
def stagedEpoch (s : State) : Epoch := epochFrom (prog s) s.edit.newEpoch (stagedBytes s)

/-- R268, R273 and R385: what an epoch offers leaves the channel table, the checking modes, the partitions, the error tasks and the
station blocks as they are (0 where it does). -/
def keptRule (old new : Prog) : Nat :=
  let errs (p : Partition) : List Nat := (p.tasks.map TaskDecl.num).filter isErrorTask
  if new.owner ≠ old.owner then 268
  else if new.part4.paired ≠ old.part4.paired ∨ new.part3.paired ≠ old.part3.paired ∨ new.has4 ≠ old.has4
      ∨ new.has3 ≠ old.has3 ∨ errs new.part4 ≠ errs old.part4 ∨ errs new.part3 ≠ errs old.part3 then 273
  else if new.stations ≠ old.stations then 385
  else 0

/-- A run of words from an address lies within the instances of a task in a region. -/
def inInstances (is : List InstDecl) (n region addr words : Nat) : Bool :=
  is.any fun d => d.task = n && d.region = region && decide (d.addr ≤ addr ∧ addr + 4 * words ≤ d.addr + 4 * d.words)

/-- A migration entry: it has words, belongs to a changed task, is aligned, and goes from the old instance to the new one
(R282). -/
def migrationOk (old : Prog) (e : Epoch) (m : Migration) : Bool :=
  let insts (p : Prog) : List InstDecl := if m.part = 4 then p.part4.instances else p.part3.instances
  decide (m.len ≠ 0 ∧ m.op ≤ 3 ∧ m.dst % 4 = 0) && changedTask e m.task
    && inInstances (insts e.result) m.task m.dstRegion m.dst m.len
    && (decide (m.op = 1) || (decide (m.src % 4 = 0) && inInstances (insts old) m.task m.srcRegion m.src m.len))

/-- R282 and R283: the migration entries, and no task migrates more than 65,536 words (0 where they hold). -/
def migrationRule (old : Prog) (e : Epoch) : Nat :=
  if !e.migrations.all (migrationOk old e) then 282
  else if (List.range 51).any fun n => [4, 3].any fun part =>
      decide (65536 < ((e.migrations.filter fun m => m.task = n && m.part = part).map Migration.len).sum) then 283
  else 0

/-- The rules of check 3 of R177 that speak of what an epoch may change (R273, R291). -/
def epochRules : List Nat := [48, 155, 158, 219, 240, 251, 252, 253, 258, 261, 315, 353, 383, 422, 455, 462, 465, 484]

/-- The rule that an epoch breaks, for check 5: check 3 of R177, then R268 and R273, then the migrations (R291). -/
def epochRule (s : State) (bytes : Bytes) (e : Epoch) : Nat :=
  let broken := ((imageRules s e.result).find? fun r => epochRules.contains r.1 && !r.2).elim 0 Prod.fst
  let kept := keptRule (prog s) (offeredBy (prog s) bytes).prog
  if broken ≠ 0 then broken else if kept ≠ 0 then kept else migrationRule (prog s) e

/-- The limit of a task's cycle: BASE_MAX or its period (R49, R277). -/
def cycleLimit (s : State) (d : TaskDecl) : Option Nat :=
  if d.num = 0 then some ((cfgOf s 0).timeUs.getD d.baseMaxUs)
  else if isPeriodicTask d.num then some (periodUs s d) else none

/-- What a task's migration adds to its first cycle in ns: 4 per word within a region, 8 across (R283). -/
def migrationNs (s : State) (e : Epoch) (n : Nat) : Nat :=
  ((e.migrations.filter fun m => m.task = n && m.part = regionCount s).map fun m =>
    m.len * (if m.op = 1 ∨ m.srcRegion = m.dstRegion then 4 else 8)).sum

/-- The partition in use of a program. -/
def partOf (s : State) (p : Prog) : Partition := if s.power.threeRegion then p.part3 else p.part4

/-- Check 6: the worst case of every task fits its limit in the profile in use. -/
def steadyFits (s : State) (e : Epoch) : Bool :=
  (partOf s e.result).tasks.all fun d => (cycleLimit s d).all fun lim => decide (d.worstUs.getD s.power.profile 0 ≤ lim)

/-- Check 7: the first cycle of every changed task with its migration fits too. -/
def firstFits (s : State) (e : Epoch) : Bool :=
  (partOf s e.result).tasks.all fun d => !changedTask e d.num || (cycleLimit s d).all fun lim =>
    decide (1000 * d.worstUs.getD s.power.profile 0 + migrationNs s e d.num ≤ 1000 * lim)

/-- Where the tasks that write a point can change within a range: its first point and the ends of declared outputs (R155). -/
def writerCuts (old new : Partition) (r : Range) : List Nat :=
  r.lo :: ((old.tasks ++ new.tasks).flatMap fun d => d.outputs.flatMap fun x => [x.lo, x.hi]).filter fun a =>
    decide (r.lo < a ∧ a < r.hi)

/-- The rules that write a Rime flag (R252, R253). -/
def flagRules (p : Prog) (a : Nat) : List Nat :=
  if spaceOf a = 6 then (p.rules.filter fun q => decide (q.2.target = 0x40 + indexOf a)).map Prod.fst else []

/-- The Rime flags within a range, as image addresses. -/
def rimeFlags (r : Range) : List Nat := ((List.range 256).map (imgAddr 6)).filter fun a => decide (r.lo ≤ a ∧ a < r.hi)

/-- The instances that a range of data addresses of a region reaches. -/
def instancesIn (q : Partition) (region : Nat) (r : Range) : List InstDecl :=
  q.instances.filter fun d => d.region = region && meets r { lo := d.addr, hi := d.addr + 4 * d.words }

/-- A task's inputs have the same writers before and after, its Rime flags the same rules, and the instances that it reads are laid
out alike (R272). -/
def sameReads (old new : Prog) (q0 q1 : Partition) (d : TaskDecl) : Bool :=
  (d.inputs.all fun r =>
      ((writerCuts q0 q1 r).all fun a => (writersOf q0 a).map TaskDecl.num = (writersOf q1 a).map TaskDecl.num)
        && (rimeFlags r).all fun a => flagRules old a = flagRules new a)
    && d.stripes.all fun t => t.rData.all fun r => instancesIn q0 t.region r = instancesIn q1 t.region r

/-- Every task that reads what the epoch changes is itself a changed task, in one partition (R272). -/
def closedPart (old new : Prog) (e : Epoch) (q0 q1 : Partition) : Bool :=
  q1.tasks.all fun d => changedTask e d.num || sameReads old new q0 q1 d

/-- A changed task stands in both partitions or in neither (R271). -/
def bothParts (e : Epoch) : Bool :=
  let has (q : Partition) (n : Nat) : Bool := q.tasks.any fun d => d.num = n
  (List.range 51).all fun n => !changedTask e n || has e.result.part4 n == has e.result.part3 n

/-- Check 3: the epoch is dependency-closed in both partitions, check 4 of R177 among it, and every changed task is carried whole
(R271, R272, R291; log entry 50). -/
def closedOk (old : Prog) (e : Epoch) : Bool :=
  bothParts e && partsFit e.result && closedPart old e.result e old.part4 e.result.part4
    && closedPart old e.result e old.part3 e.result.part3

/-- The runs of code that an epoch brings into a partition. -/
def newRuns (q0 q1 : Partition) : List Run := q1.code.filter fun c => !q0.code.contains c

/-- The range of a run. -/
def runRange (c : Run) : Range := { lo := c.addr, hi := c.addr + c.bytes.length }

/-- The new code and the new roots of a partition lie in shadow space, each root within a run of the epoch's (R275, R277). -/
def placedOk (n : Nat) (q0 q1 : Partition) : Bool :=
  ((newRuns q0 q1).all fun c => decide (0x140 ≤ c.addr ∧ c.addr + c.bytes.length ≤ codeSize)
      && q0.code.all fun d => decide (c.region ≠ d.region) || !meets (runRange c) (runRange d))
    && (List.range n).all fun l => decide (rootOf q1 l % 4 = 0) && (newRuns q0 q1).any fun c =>
      c.task.isNone && decide (c.region = l ∧ c.addr ≤ rootOf q1 l ∧ rootOf q1 l + 64 ≤ c.addr + c.bytes.length)

/-- Check 4: the placement of R275 in both partitions (R277, R291). -/
def placementOk (old : Prog) (e : Epoch) : Bool :=
  placedOk 4 old.part4 e.result.part4 && placedOk 3 old.part3 e.result.part3

/-- The descriptor that EDIT_STAGE read is that of the payload (R274; log entry 50). -/
def descOk (s : State) : Bool := decide (descOf s.edit.header = slice (stagedBytes s) 0 64)

/-- The first check of R291 that the staged epoch fails, 0 for none; the rule for check 5; and the status. -/
def commitCheck (s : State) (e : Epoch) : Nat × Nat × Nat :=
  if !allStored s.edit.header s.edit.blocks then (1, 0, CHECK_FAILED)
  else if !payloadOk s.edit.header s.edit.blocks || !descOk s then (2, 0, CHECK_FAILED)
  else if !closedOk (prog s) e then (3, 0, NOT_ATOMIC)
  else if !placementOk (prog s) e then (4, 0, NOT_ATOMIC)
  else if epochRule s (stagedBytes s) e ≠ 0 then (5, epochRule s (stagedBytes s) e, CHECK_FAILED)
  else if !steadyFits s e then (6, 0, WRONG_STATE)
  else if !firstFits s e then (7, 0, NOT_ATOMIC) else (0, 0, DONE)

/-- Steward writes the staged code into shadow space, never over code in use (R276; log entry 50). -/
def stageCode (s : State) : State :=
  let q := partOf s (stagedEpoch s).result
  (newRuns (partition s) q).foldl (fun s c =>
    let p := physRegion s c.region
    if decide (0x140 ≤ c.addr ∧ c.addr + c.bytes.length ≤ codeSize) && (usedCode s c.region).all (fun r => !meets (runRange c) r) then
      s.setRegion p { s.region p with code := Memory.writeBytes (s.region p).code c.addr c.bytes }
    else s) s

/-- EDIT_BLOCK's effect and answer: the block goes to the edit area, and once all are there and check the code stands in shadow
space (R276, R286, R290). -/
def editBlock (w : Work) (s : State) : Reply × State :=
  let id := field w.payload 0 2 0
  let s := if isApprentice s then s else touchEdit id s
  takeBlock id (staged s id && !isApprentice s) s.edit.header s.edit.blocks w.payload
    (fun b =>
      let s1 := forward 0x0402 w.payload { s with edit.blocks := b }
      if allStored s1.edit.header b && payloadOk s1.edit.header b then stageCode s1 else s1) s

/-- EDIT_BLOCK (R290). -/
def execEditBlock (t : Nat) (mb : Fin 8) (s : State) : Result State := .next (runCommand t mb 0x0402 editBlock s)

/-- The new root of a region is armed (R278). -/
def armRegion (q : Partition) (s : State) (l : Nat) : State :=
  let p := physRegion s l
  s.setRegion p { s.region p with rootNext := some (rootOf q l) }

/-- The epoch is committed with its switch scan, and the roots are armed (R278). -/
def commitEpoch (e : Epoch) (S : Nat) (s : State) : State :=
  let s1 := { s with edit.state := 2, edit.cause := 0, edit.epoch := some e, edit.switchScan := S, edit.asked := false }
  (List.range (regionCount s1)).foldl (armRegion (partOf s1 e.result)) s1

/-- EDIT_COMMIT's answer: the check that failed with its rule, and S (R291). -/
def commitAnswer (s : State) (id check rule n : Nat) : Bytes :=
  leBytes 2 id ++ leBytes 1 check ++ zeros 1 ++ leBytes 4 s.edit.newEpoch ++ leBytes 8 n ++ leBytes 2 rule ++ zeros 2

/-- This module runs its checks: the epoch is discarded, or committed with an S at least 3 scans ahead that SWITCH_AT carries to the
partner; while the program is STOPPED it switches at once (R278, R287, R288, R291). -/
def commitHere (id : Nat) (s : State) : Nat × Bytes × State :=
  let e := stagedEpoch s
  let c := commitCheck s e
  let S := if s.scan.mode = 2 then s.scan.scan + 3 else s.scan.scan
  if c.1 ≠ 0 then (c.2.2, commitAnswer s id c.1 c.2.1 0, abortEdit 7 s)
  else
    let s1 := pairSend { kind := 7, num := 2, scan := S } (commitEpoch e S s)
    (DONE, commitAnswer s id 0 0 S, if s.scan.mode = 2 then s1 else epochSwitch s1)

/-- EDIT_COMMIT's effect and answer. A KEEPER whose partner runs on its releases hands the command on and waits for the APPRENTICE's
checks (R286, R287, R291, R414). -/
def editCommit (w : Work) (s : State) : Reply × State :=
  let id := field w.payload 0 2 0
  let s := if isApprentice s then s else touchEdit id s
  if s.pair.handover.isSome && !isApprentice s then (.done BUSY [], s)
  else if !staged s id || isApprentice s || s.edit.asked then (.done WRONG_STATE [], s)
  else if isKeeper s && s.pair.shipping then (.later, forward 0x0403 w.payload { s with edit.asked := true })
  else
    let r := commitHere id s
    (.done r.1 r.2.1, r.2.2)

/-- EDIT_COMMIT (R291). -/
def execEditCommit (t : Nat) (mb : Fin 8) (s : State) : Result State := .next (runCommand t mb 0x0403 editCommit s)

/-- The EDIT_COMMIT that waits for the partner is answered. -/
def answerCommit (status : Nat) (payload : Bytes) (s : State) : State :=
  match s.host.works.find? fun w => w.code = 0x0403 && w.running with
  | some w => finish w status payload s
  | none => s

/-- The wait for the APPRENTICE's checks ends: it refused, which discards the epoch here too and gives its status; or it passed, or
is no longer there, and this KEEPER runs its own checks (R286). -/
def partnerChecked (status check rule : Nat) (s : State) : State :=
  if !s.edit.asked then s
  else
    let s1 := { s with edit.asked := false }
    if s.edit.state ≠ 1 then answerCommit WRONG_STATE [] s1
    else if status ≠ DONE then answerCommit status (commitAnswer s s.edit.id check rule 0) (abortEdit 7 s1)
    else
      let r := commitHere s.edit.id s1
      answerCommit r.1 r.2.1 r.2.2

/-- A forwarded EDIT_COMMIT at the APPRENTICE: it runs every check and reports the outcome; its S comes with SWITCH_AT (R286,
R287). -/
def apprenticeCommit (s : State) : State :=
  let e := stagedEpoch s
  let c := commitCheck s e
  let report (status : Nat) (s : State) : State :=
    { s with pair.sent := { kind := 7, num := 5, value := status, data := leBytes 1 c.1 ++ leBytes 2 c.2.1 } :: s.pair.sent }
  if s.edit.state ≠ 1 then report WRONG_STATE s
  else if c.1 ≠ 0 then report c.2.2 (abortEdit 7 s)
  else report DONE (commitEpoch e 0 s)

/-- EDIT_ABORT's effect and answer: accepted only in STAGING (R286, R292). -/
def editAbort (w : Work) (s : State) : Reply × State :=
  let id := field w.payload 0 2 0
  checked [(!staged s id || isApprentice s, WRONG_STATE)]
    (.done DONE (leBytes 2 id ++ zeros 2), partnerChecked DONE 0 0 (forward 0x0404 w.payload (abortEdit 1 s))) s

/-- EDIT_ABORT (R292). -/
def execEditAbort (t : Nat) (mb : Fin 8) (s : State) : Result State := .next (runCommand t mb 0x0404 editAbort s)

/-- EDIT_STATUS's answer; an APPRENTICE gives the host none (R286, R293). -/
def editStatus (w : Work) (s : State) : Reply × State :=
  let shadow (p : Nat) : Nat := if s.power.retired.getLsbD p then 0 else shadowFree s (logRegion s p)
  let held := ((List.range 51).filter fun n => (s.task n).held).length
  checked [(isApprentice s, WRONG_STATE)] (.done DONE (if isStation s then zeros 44 else
    leBytes 1 s.edit.state ++ leBytes 1 s.edit.cause ++ leBytes 2 s.edit.id ++ leBytes 4 s.ps.epoch
      ++ leBytes 4 s.edit.newEpoch ++ leBytes 4 s.edit.blocks.length ++ leBytes 8 s.edit.switchScan
      ++ ((List.range 4).flatMap fun p => leBytes 4 (shadow p)) ++ leBytes 2 held ++ zeros 2), forward 0x0405 w.payload s) s

/-- EDIT_STATUS (R293). -/
def execEditStatus (t : Nat) (mb : Fin 8) (s : State) : Result State := .next (runCommand t mb 0x0405 editStatus s)

/-- EDIT_IDLE_TIMEOUT: 60 s without an EDIT_ command for the staged EDIT_ID (R288). -/
def execEditIdleTimeout (t : Nat) (s : State) : Result State :=
  let s := advance t s
  .next (if s.edit.state = 1 ∧ passed s.now s.edit.lastCmd (60 * 10 ^ 9) then partnerChecked DONE 0 0 (abortEdit 2 s) else s)

end Sys2Proof.Machine
end

