-- ==== Sys2Proof/Machine/Security.lean ====
section
/-! DEFINITION. Lifecycle, keys, sessions, debug tokens, the TAP and the debug interface, the audit log (R495-R521, R575). -/

namespace Sys2Proof.Machine

/-! ### Audit log (R515) -/

/-- An audit entry in its 32 bytes. -/
def auditBytes (e : AuditEnt) : Bytes :=
  leBytes 8 e.tai ++ leBytes 4 e.seq ++ leBytes 2 e.event ++ leBytes 1 e.port ++ leBytes 1 e.result ++ slice e.detail 0 16

/-- A security event is kept in its place of the COLD system keys 0xFF10-0xFF17, a ring of 1,024 entries (R515). -/
def audit (event port result : Nat) (detail : Bytes) (s : State) : State :=
  let e : AuditEnt := { tai := s.time.tai, seq := s.sec.auditSeq, event := event, port := port, result := result, detail := detail }
  let i := s.sec.auditSeq % 1024
  let key := 0xFF10 + i / 128
  let old := slice ((rawRec s key).elim [] LdgRec.data) 0 4096
  let new := old.take (32 * (i % 128)) ++ auditBytes e ++ old.drop (32 * (i % 128) + 32)
  let s1 := placeRec key (newRec s key false false new) s
  { s1 with sec.audit := (e :: s.sec.audit).take 1024, sec.auditSeq := (s.sec.auditSeq + 1) % 2 ^ 32 }

/-- Port number of a mailbox in the audit log: 0 host, 1 USB. -/
def portOf (usb : Bool) : Nat := bit usb

/-- Free bytes where the spec states none (log entry 5). -/
def drawBytes : Nat → State → Bytes × State
  | 0, s => ([], s)
  | n + 1, s =>
    let (w, s1) := draw s
    let (r, s2) := drawBytes n s1
    (leBytes 4 w.toNat ++ r, s2)

/-! ### Sessions (R503-R507, R516-R518) -/

/-- A session ends; a granted one is logged (R505, R515). -/
def endSession (x : Session) (s : State) : State :=
  let s1 := { s with sec.sessions := s.sec.sessions.filter fun y => y.id ≠ x.id }
  if x.pending then s1 else audit 3 (portOf x.usb) 0 (leBytes 1 x.role) s1

/-- Every session of a list ends. -/
def endSessions (xs : List Session) (s : State) : State := xs.foldl (fun s x => endSession x s) s

/-- Failed SES_AUTH attempts of a port within the last 10 min (R507). -/
def failuresOf (usb : Bool) (s : State) : List Nat :=
  (s.sec.failures.get [] (portOf usb)).filter fun a => decide (s.now < a + 600 * 10 ^ 9)

/-- The port is locked out (R507). -/
def lockedOut (usb : Bool) (s : State) : Bool := decide (s.now < s.sec.lockout.get 0 (portOf usb))

/-- Sessions are granted without authentication: BLANK and RETIRED (R495, R506). -/
def freeSessions (s : State) : Bool := s.sec.life = .blank || s.sec.life = .retired

/-- The identity signature over a message; a free value once the key is disabled (R498, R500). -/
def identitySig (m : Bytes) (s : State) : Bytes × State :=
  if s.sec.identityOff then drawBytes 24 s else (slice (Config.identitySign m) 0 96, s)

/-- The credential of a slot may open a session in the role (R503, R516). -/
def credentialOk (s : State) (cred role : Nat) : Bool :=
  match s.sec.life with
  | .blank => true
  | .retired => decide (role = 0)
  | _ => decide (4 ≤ cred ∧ (keySlot s cred).kind = 3 ∧ role ≤ (keySlot s cred).maxRole)

/-- SES_OPEN's effect and answer (R506, R507, R516). -/
def sesOpen (w : Work) (s : State) : Reply × State :=
  let p := w.payload
  let usb := isUsbMb w.mb
  let role := if 3 < field p 0 1 0 then 0 else field p 0 1 0
  let cred := field p 1 1 4
  let idle := clamp 60 3600 (field p 2 2 600)
  let hostNonce := fieldB p 4 32
  let granted := freeSessions s
  let id := w32 (if s.sec.nextSession % 2 ^ 32 = 0 then 1 else s.sec.nextSession)
  let devNonce := slice (Config.nonce s.sec.draws) 0 32
  let (sig, s1) := identitySig (hostNonce ++ devNonce ++ leBytes 4 id.toNat ++ leBytes 1 role) s
  let x : Session := { id := id, role := role, cred := cred, idleS := idle, usb := usb, pending := !granted
                       hostNonce := hostNonce, devNonce := devNonce, last := s.now }
  let s2 := putWork { w with session := id }
    { s1 with sec.draws := s.sec.draws + 1, sec.nextSession := (id.toNat + 1) % 2 ^ 32, sec.sessions := s.sec.sessions ++ [x] }
  let s3 := if granted then audit 1 (portOf usb) DONE (leBytes 1 role) s2 else s2
  checked [(!credentialOk s cred role, NOT_PERMITTED), (decide (8 ≤ s.sec.sessions.length) || lockedOut usb s, BUSY)]
    (.done DONE (leBytes 4 id.toNat ++ leBytes 1 role ++ leBytes 1 cred ++ leBytes 2 idle ++ leBytes 1 (bit granted) ++ zeros 3
      ++ devNonce ++ idPub ++ sig), s3) s

/-- SES_OPEN (R516). -/
def execSesOpen (t : Nat) (mb : Fin 8) (s : State) : Result State := .next (runCommand t mb 0x0D01 sesOpen s)

/-- A failed SES_AUTH: the session ends, and the fifth failure within 10 min locks the port for 60 s and ends its pending
sessions (R507, R517). -/
def authFailed (x : Session) (s : State) : State :=
  let port := portOf x.usb
  let fp := (sha384 (keySlot s x.cred).key).take 16
  let s1 := audit 2 port CHECK_FAILED fp (endSession x s)
  let fs := s.now :: failuresOf x.usb s
  let s2 := { s1 with sec.failures := s1.sec.failures.set [] port fs }
  if fs.length < 5 then s2
  else audit 11 port 0 []
    (endSessions (s2.sec.sessions.filter fun y => y.pending && y.usb == x.usb)
      { s2 with sec.failures := s2.sec.failures.set [] port [], sec.lockout := s2.sec.lockout.set 0 port (s.now + 60 * 10 ^ 9) })

/-- SES_AUTH's effect and answer (R506, R517). -/
def sesAuth (w : Work) (s : State) : Reply × State :=
  let usb := isUsbMb w.mb
  match s.sec.sessions.find? fun x => x.id = w.session && x.usb = usb && x.pending with
  | none => (.done NOT_PERMITTED [], s)
  | some x =>
    let m := x.devNonce ++ x.hostNonce ++ leBytes 4 x.id.toNat ++ leBytes 1 x.role ++ ident
    if ecdsaVerify (keySlot s x.cred).key m (fieldB w.payload 0 96) then
      let s1 := { s with sec.sessions := s.sec.sessions.map fun y =>
        if y.id = x.id then { y with pending := false, last := s.now } else y }
      (.done DONE (leBytes 1 x.role ++ leBytes 1 (5 - (failuresOf usb s).length) ++ leBytes 2 x.idleS ++ zeros 4),
        audit 1 (portOf usb) DONE (leBytes 1 x.role) s1)
    else (.done CHECK_FAILED [], authFailed x s)

/-- SES_AUTH (R517). -/
def execSesAuth (t : Nat) (mb : Fin 8) (s : State) : Result State := .next (runCommand t mb 0x0D02 sesAuth s)

/-- SES_CLOSE's effect and answer: OP 0 ends the header's session, OP 1 every other one (R518). -/
def sesClose (w : Work) (s : State) : Reply × State :=
  let op := if field w.payload 0 1 0 = 1 then 1 else 0
  let gone := s.sec.sessions.filter fun x => if op = 0 then x.id = w.session else x.id ≠ w.session
  (.done DONE (leBytes 1 op ++ leBytes 1 gone.length ++ zeros 2), endSessions gone s)

/-- SES_CLOSE (R518). -/
def execSesClose (t : Nat) (mb : Fin 8) (s : State) : Result State := .next (runCommand t mb 0x0D03 sesClose s)

/-- SESSION_IDLE_TIMEOUT: a session without a request naming it for IDLE_S ends (R505). -/
def execSessionIdleTimeout (t : Nat) (session : Word) (s : State) : Result State :=
  let s := advance t s
  .next (match s.sec.sessions.find? fun x => x.id = session && !x.pending with
    | some x => if passed s.now x.last (10 ^ 9 * x.idleS) then endSession x s else s
    | none => s)

/-- SESSION_AUTH_TIMEOUT: a session 10 s pending ends (R505). -/
def execSessionAuthTimeout (t : Nat) (session : Word) (s : State) : Result State :=
  let s := advance t s
  .next (match s.sec.sessions.find? fun x => x.id = session && x.pending with
    | some x => if passed s.now x.last (10 ^ 10) then endSession x s else s
    | none => s)

/-- PORT_LOCKOUT_END: 60 s after the fifth failure SES_OPEN is taken again (R507). -/
def execPortLockoutEnd (t : Nat) (usb : Bool) (s : State) : Result State :=
  let s := advance t s
  .next (if lockedOut usb s then s else { s with sec.lockout := s.sec.lockout.set 0 (portOf usb) 0 })

/-! ### Control debug stops the outputs (R512) -/

/-- Entering EXTEST or a halt: release stops, running cycles are abandoned, VALID clears, the dies hold, Tally stops (R512). -/
def debugStop (s : State) : State := { holdAll (clearValid (abandonAll s)) with sup.tallyOn := false }

/-- An engine or Steward is halted by control debug. -/
def anyHalted (s : State) : Bool := s.sec.stewardHalted || decide (s.eng.halted ≠ 0#16)

/-- The halt and EXTEST end with a WARM restart (R83, R512). -/
def debugRestart (s : State) : State :=
  goDown .warm { s with sec.extest := false, sec.stewardHalted := false, eng.halted := 0#16, eng.step := 0#16 }

/-- Every debug session ends; after a halt or in EXTEST with a WARM restart (R512). -/
def endAllDebug (s : State) : State :=
  if anyHalted s || s.sec.extest then endDebug (debugRestart s) else endDebug s

/-! ### Lifecycle (R495-R499, R519) -/

/-- The lifecycle state of a code. -/
def lifeOf : Nat → Lifecycle
  | 0 => .blank | 1 => .commission | 2 => .sealed | 3 => .locked | _ => .retired

/-- A credential with MAX_ROLE SECURITY_ADMIN is enrolled (R497). -/
def adminEnrolled (s : State) : Bool :=
  (List.range 28).any fun i => decide ((keySlot s (4 + i)).kind = 3 ∧ (keySlot s (4 + i)).maxRole = 3)

/-- The preconditions of an advance (R497). -/
def advanceOk (s : State) (target : Nat) : Bool :=
  if target = 4 then decide (s.scan.mode ≠ 2)
  else match s.sec.life with
    | .blank => decide ((keySlot s 0).kind = 1 ∧ (keySlot s 1).kind = 4)
    | .commission => adminEnrolled s && (s.ps.prog.elim true Prog.signed) && (s.ps.pendingImg.elim true Prog.signed)
        && s.ps.epochsSigned && !editBusy s && !updBusy s
    | _ => true

/-- TARGET is the next state, or RETIRED from any other (R496). -/
def targetOk (s : State) (target : Nat) : Bool :=
  (decide (target = 4) && decide (s.sec.life ≠ .retired)) || decide (target = lifeCode s.sec.life + 1 ∧ target ≤ 3)

/-- A command of 0 goes to every output of the own dies (R498). -/
def commandZero (s : State) : State :=
  match cmdSource s with
  | some (src, claim) => (List.range 64).foldl (fun s ch =>
      commandFrame ch { crcOk := true, src := src, claim := claim, fresh := true, qx := some false, rule := some false } s) s
  | none => s

/-- Entry to RETIRED (R498). -/
def enterRetired (s : State) : State :=
  { holdAll (commandZero s) with sec.identityOff := true, sec.erasing := true }

/-- The state advances by its fuse group: sessions end, and debug that the new state does not allow (R495, R498, R505). -/
def advanceTo (target usb : Nat) (s : State) : State :=
  let s1 := endSessions s.sec.sessions { consumePresence s with sec.life := lifeOf target }
  let s2 := outOfStep 3 (audit 4 usb DONE (leBytes 1 target) s1)
  let s3 := if 2 ≤ target then dropToken (endAllDebug s2) else s2
  if target = 4 then enterRetired s3 else s3

/-- LIFECYCLE_ADVANCE's effect and answer (R496-R498, R519). -/
def lifecycleAdvance (w : Work) (s : State) : Reply × State :=
  let target := field w.payload 0 1 0
  let confirm := fieldB w.payload 4 16
  if confirm ≠ ident.take 16 then (.done CHECK_FAILED [], consumePresence s)
  else
    let s1 := advanceTo target (portOf (isUsbMb w.mb)) s
    checked
      [(!presenceValid s, NOT_PERMITTED),
       (!targetOk s target || !advanceOk s target || s.power.reserveLow || decide (s.power.vinMv < 16000) || inHoldup s,
        WRONG_STATE)]
      (.done DONE (leBytes 1 (lifeCode s1.sec.life) ++ leBytes 1 (bit s1.sec.erasing) ++ zeros 2), s1) s

/-- LIFECYCLE_ADVANCE (R519). -/
def execLifecycleAdvance (t : Nat) (mb : Fin 8) (s : State) : Result State := .next (runCommand t mb 0x0D04 lifecycleAdvance s)

/-- What the erase of RETIRED clears: key store, program store and archive, retentive data, tables, the Ledger and Firn;
the SOE log, the event archive and the fault log stay (R498). -/
def retiredErase (s : State) : State :=
  { s with
    sec.erasing := false
    sec.keys := [], sec.keySeq := 0, sec.audit := []
    ps := {}
    scan.mode := 0
    upd.archA := none, upd.archB := none, upd.revertHome := none
    eng.tables := []
    ldg := { opened := s.ldg.opened, boot := s.ldg.boot, flashFailed := s.ldg.flashFailed, magAlert := s.ldg.magAlert
             magNow := s.ldg.magNow, magPeak := s.ldg.magPeak, magHighAt := s.ldg.magHighAt, magLowAt := s.ldg.magLowAt
             firnErases := s.ldg.firnErases, firnRetired := s.ldg.firnRetired }
    saf.confirmed := none, saf.preConfirmed := none
    cal.leaps := [], cal.leapLoaded := false, cal.baseOffset := 32, cal.leapAdj := 0 }

/-- RETIRED_ERASE_DONE (R498). -/
def execRetiredEraseDone (t : Nat) (s : State) : Result State :=
  let s := advance t s
  .next (if s.sec.erasing then retiredErase s else s)

/-! ### Key store (R501, R502, R520) -/

/-- The kind that a slot holds (R501). -/
def slotKind (slot : Nat) : Nat := if slot = 0 then 1 else if slot = 1 then 4 else if slot < 4 then 2 else 3

/-- The change needs AUTH_SIG (R502). -/
def authNeeded (s : State) (slot : Nat) : Bool :=
  match s.sec.life with
  | .commission => decide (slot = 0 ∧ (keySlot s 0).kind ≠ 0)
  | .sealed | .locked => decide (2 ≤ slot)
  | _ => false

/-- R502 lets the change be made at all. -/
def enrollAllowed (s : State) (slot kind : Nat) : Bool :=
  match s.sec.life with
  | .blank | .commission => true
  | .sealed => decide (2 ≤ slot)
  | .locked => decide (2 ≤ slot ∧ kind = 0)
  | .retired => false

/-- Fingerprint of a slot's key; free for an empty slot (R520). -/
def fingerprint (k : KeySlot) (s : State) : Bytes × State :=
  if k.kind = 0 then drawBytes 4 s else ((sha384 k.key).take 16, s)

/-- A public key is a point on P-384 (R520). -/
def keyOnCurve (key : Bytes) : Bool := onCurve (beNat (slice key 0 48)) (beNat (slice key 48 48))

/-- KEY_ENROLL's answer (R520). -/
def enrollAnswer (slot : Nat) (s : State) : Reply × State :=
  let k := keySlot s slot
  let (fp, s1) := fingerprint k s
  (.done DONE (leBytes 1 slot ++ leBytes 1 k.kind ++ leBytes 1 k.maxRole ++ zeros 1 ++ leBytes 4 s.sec.keySeq ++ fp), s1)

/-- KEY_ENROLL's effect and answer (R502, R520). -/
def keyEnroll (w : Work) (s : State) : Reply × State :=
  let p := w.payload
  let slot := min 31 (field p 0 1 0)
  let kind := field p 1 1 0
  let maxRole := min 3 (field p 2 1 0)
  let seq := field p 4 4 0
  let key := fieldB p 8 96
  let auth := fieldB p 0x68 96
  let query := decide (kind = 5)
  let need := !query && authNeeded s slot
  let authBad := need && !(decide (s.sec.keySeq < seq) && ecdsaVerify (keySlot s 0).key (slice p 0 0x68 ++ ident) auth)
  let kindBad := decide (kind ≠ 0 ∧ kind ≠ slotKind slot)
  let keyBad := match kind with
    | 1 | 2 | 3 => !keyOnCurve key
    | 4 => !((keySlot s 0).kind = 1 && ecdsaVerify (keySlot s 0).key (ident ++ leBytes 4 s.sec.serial.toNat) key)
    | _ => false
  let new : KeySlot := if kind = 0 then {} else { kind := kind, key := key, maxRole := if kind = 3 then maxRole else 0 }
  let fp := (sha384 (if kind = 0 then (keySlot s slot).key else key)).take 16
  let s1 := audit 5 (portOf (isUsbMb w.mb)) DONE fp
    { s with sec.keys := s.sec.keys.set {} slot new, sec.keySeq := if need then seq else s.sec.keySeq }
  checked
    [(!query && (authBad || kindBad || keyBad), CHECK_FAILED), (!query && !enrollAllowed s slot kind && s.sec.life ≠ .retired, NOT_PERMITTED),
     (s.sec.life = .retired || inHoldup s, WRONG_STATE)]
    (if query then enrollAnswer slot s else enrollAnswer slot s1) s

/-- KEY_ENROLL (R520). -/
def execKeyEnroll (t : Nat) (mb : Fin 8) (s : State) : Result State := .next (runCommand t mb 0x0D05 keyEnroll s)

/-! ### Debug tokens (R513, R514, R521) -/

/-- A token passes every field of R513, its signature, IDENT and window (R513, R514). -/
def tokenOk (s : State) (k : Bytes) : Bool :=
  let slot := hdrF k 0x4C 1
  let nb := hdrF k 0x38 8
  let na := hdrF k 0x40 8
  decide (k.length = 176 ∧ hdrF k 0 4 = 0x4E4B5444 ∧ hdrF k 4 2 = 1 ∧ hdrF k 6 1 = 1 ∧ hdrF k 7 1 % 4 ≠ 0)
    && decide (na ≤ nb + 86400 * 10 ^ 9 ∧ nb ≤ s.time.tai ∧ s.time.tai ≤ na)
    && decide (slice k 8 48 = ident)
    && (slot = 0 || slot = 2 || slot = 3) && decide ((keySlot s slot).kind ≠ 0)
    && ecdsaVerify (keySlot s slot).key (k.take 0x50) (slice k 0x50 96)

/-- A token is checked and, when accepted, armed in place of the old one; the gesture is consumed on success and on a failed
check (R514, R521). -/
def loadToken (k : Bytes) (port : Nat) (s : State) : Nat × State :=
  let detail := leBytes 4 (hdrF k 0x48 4)
  if s.sec.life ≠ .sealed || s.time.timeLost || inHoldup s then (WRONG_STATE, audit 7 port WRONG_STATE detail s)
  else if !presenceValid s then (NOT_PERMITTED, audit 7 port NOT_PERMITTED detail s)
  else if !tokenOk s k then (CHECK_FAILED, audit 7 port CHECK_FAILED detail (consumePresence s))
  else
    let token : Token := { ports := BitVec.ofNat 8 (hdrF k 7 1), notBefore := hdrF k 0x38 8, notAfter := hdrF k 0x40 8
                           serial := w32 (hdrF k 0x48 4) }
    let s1 := dropToken (consumePresence s)
    (DONE, audit 6 port DONE detail { s1 with sec.token := some token })

/-- DBG_TOKEN's answer on DONE (R521). -/
def tokenAnswer (s : State) : Bytes :=
  match s.sec.token with
  | some k => leBytes 1 1 ++ leBytes 1 k.ports.toNat ++ zeros 2 ++ leBytes 4 k.serial.toNat ++ leBytes 8 k.notAfter
  | none => zeros 16

/-- DBG_TOKEN's effect and answer (R521). -/
def dbgToken (w : Work) (s : State) : Reply × State :=
  if field w.payload 0 1 1 = 0 then
    let (st, s1) := loadToken (fieldB w.payload 4 176) (portOf (isUsbMb w.mb)) s
    (.done st (if st = DONE then tokenAnswer s1 else []), s1)
  else
    checked [(s.sec.life ≠ .sealed || s.time.timeLost || inHoldup s, WRONG_STATE)]
      (.done DONE (tokenAnswer (dropToken s)), dropToken s) s

/-- DBG_TOKEN (R521). -/
def execDbgToken (t : Nat) (mb : Fin 8) (s : State) : Result State := .next (runCommand t mb 0x0D06 dbgToken s)

/-- TOKEN_EXPIRY: TAI has passed NOT_AFTER (R514). -/
def execTokenExpiry (t : Nat) (s : State) : Result State := .next (checkToken (advance t s))

/-! ### Attach and detach (R509-R512) -/

/-- The level that a port's session gets in RUN, 0 where none is allowed (R495, R511). -/
def attachLevel (port : Nat) (s : State) : Nat :=
  match s.sec.life with
  | .blank | .commission => 2
  | .sealed => match s.sec.token with
    | some k => bit (k.ports.getLsbD port)
    | none => 0
  | .locked => 0
  | .retired => 1

/-- Audit port of a debug port: 0 TAP, 1 USB. -/
def dbgPort (port : Nat) : Nat := if port = 0 then 2 else 1

/-- A session opens at a level; a token's session notes its serial number. -/
def openDebug (port : Nat) (s : State) : State :=
  audit 8 (dbgPort port) 0 (s.sec.token.elim [] fun k => leBytes 4 k.serial.toNat)
    { s with sec.dbg := s.sec.dbg.set 0 port (attachLevel port s) }

/-- An attach in RUN opens a session, or waits until full service (R511). -/
def attachRun (port : Nat) (s : State) : State :=
  if s.power.service = .full || s.power.service = .recovery || s.power.service = .retiredHold then openDebug port s
  else if s.power.service = .resetHeld then s
  else { s with sec.dbgWait := s.sec.dbgWait ||| (1#2 <<< port) }

/-- An attach by lifecycle and power state (R511). -/
def attach (port : Nat) (s : State) : State :=
  if s.power.state = .slumber then
    match s.sec.life with
    | .blank => s
    | .commission => attachRun port (wakeBy .debug s)
    | _ => audit 9 (dbgPort port) 0 [] s
  else if s.power.state = .run && attachLevel port s ≠ 0 then
    attachRun port (if enteringSlumber s && decide (s.sec.life = .commission) then wakeBy .debug s else s)
  else s

/-- The attaches that waited open their sessions at full service, where the lifecycle still allows them (R511). -/
def attachWaiting (s : State) : State :=
  [0, 1].foldl (fun s port => if s.sec.dbgWait.getLsbD port && attachLevel port s ≠ 0 then openDebug port s else s) s
    |> fun s => { s with sec.dbgWait := 0#2 }

/-- A port's session ends, after a halt with a WARM restart (R512). -/
def detach (port : Nat) (s : State) : State :=
  let s1 := { s with sec.dbg := s.sec.dbg.set 0 port 0, sec.dbgWait := s.sec.dbgWait &&& ~~~(1#2 <<< port) }
  if s.sec.dbg.get 0 port = 2 && anyHalted s then debugRestart s1 else s1

/-! ### TAP (R510) -/

/-- The TAP is powered and its port is not disabled: RUN and SLUMBER (R511). -/
def tapUp (s : State) : Bool := s.power.state = .run || s.power.state = .slumber

/-- The lifecycle allows a TAP instruction (R510). -/
def tapAllowed (s : State) (ir : Nat) : Bool :=
  match s.sec.life with
  | .blank | .commission => ir ≠ 0x21
  | .sealed => ir = 1 || ir = 2 || ir = 0xFF || ir = 0x21 || (ir = 0x20 && decide (attachLevel 0 s ≠ 0))
  | .retired => ir = 1 || ir = 2 || ir = 0xFF || ir = 0x20
  | .locked => ir = 1 || ir = 0xFF

/-- A refused instruction selects BYPASS; the first after each TAP reset is logged (R510). -/
def tapRefuse (s : State) : State :=
  let s1 := { s with sec.tapIr := 0xFF }
  if s.sec.tapRefused then s1 else audit 10 2 0 [] { s1 with sec.tapRefused := true }

/-- EXTEST is left with a WARM restart (R512). -/
def leaveExtest (s : State) : State := if s.sec.extest then debugRestart s else s

/-- A TAP instruction is taken with its effect, or refused (R510). -/
def tapInstr (ir : Nat) (f : State → State) (s : State) : State :=
  if !tapUp s then s
  else
    let s1 := leaveExtest s
    if tapAllowed s1 ir then f { s1 with sec.tapIr := ir } else tapRefuse s1

/-- EXTEST: in RUN the outputs stop and every field die holds (R510-R512). -/
def execExtest (t : Nat) (s : State) : Result State :=
  let s := advance t s
  .next (if s.power.state ≠ .run || s.sec.extest then s
         else if tapAllowed s 0 then debugStop { s with sec.tapIr := 0, sec.extest := true } else tapRefuse s)

/-- SAMPLE: the boundary cells are read (R510). -/
def execSample (t : Nat) (s : State) : Result State := .next (tapInstr 1 id (advance t s))

/-- PRELOAD: the boundary cells are loaded (R510). -/
def execPreload (t : Nat) (bits : Bytes) (s : State) : Result State :=
  .next (tapInstr 2 (fun s => { s with sec.boundary := bits }) (advance t s))

/-- BYPASS (R510). -/
def execBypass (t : Nat) (s : State) : Result State := .next (tapInstr 0xFF id (advance t s))

/-- DBG_SELECT: the debug access port, an attach where no session stands (R510, R511). -/
def execDbgSelect (t : Nat) (s : State) : Result State :=
  let s := advance t s
  .next (if s.power.state = .slumber then { attach 0 s with sec.tapIr := 0x20 }
         else tapInstr 0x20 (fun s => if s.sec.dbg.get 0 0 = 0 then attach 0 s else s) s)

/-- DBG_TOKEN_LOAD: the token register is loaded and checked as DBG_TOKEN (R510, R514). -/
def execDbgTokenLoad (t : Nat) (token : Bytes) (s : State) : Result State :=
  .next (tapInstr 0x21 (fun s => (loadToken (slice token 0 176) 2 s).2) (advance t s))

/-- TAP_RESET: EXTEST and the debug selection are left, and refusals are logged again (R510-R512). -/
def execTapReset (t : Nat) (s : State) : Result State :=
  let s := advance t s
  .next (if tapUp s then
      let s1 := detach 0 (leaveExtest s)
      { s1 with sec.tapIr := 0xFF, sec.tapRefused := false }
    else s)

/-- USB_DEBUG_OPEN: the host opens the USB debug interface, an attach (R510, R511). -/
def execUsbDebugOpen (t : Nat) (s : State) : Result State :=
  let s := advance t s
  .next (if s.host.usb && decide (s.sec.dbg.get 0 1 = 0) then attach 1 s else s)

/-- USB_VBUS_REMOVAL: requests and sessions of the service USB end, and so does its debug session (R505, R512, R574). -/
def execUsbVbusRemoval (t : Nat) (s : State) : Result State :=
  let s := advance t s
  .next (if s.host.usb then
      detach 1 (usbVbusRemoval (endSessions (s.sec.sessions.filter fun x => x.usb) s))
    else s)

/-! ### Debug packets (R575) -/

/-- Number of words of the registers below a register number, in the order of R185: g0-g63, pc, inst, five words of each
generator, the data stack, the return stack of 64-bit entries. -/
def regBase (r : Nat) : Nat := if r ≤ 150 then r else 150 + 2 * (r - 150)

/-- Word `i` of a bank in that order, none for an empty stack entry. -/
def bankWord (b : Bank) (i : Nat) : Option Word :=
  if i < 64 then some (if i = 0 then 0#32 else b.g.get 0#32 i)
  else if i = 64 then some b.pc
  else if i = 65 then some b.inst
  else if i < 86 then
    let a := b.a.get {} ((i - 66) / 5)
    some (match (i - 66) % 5 with
      | 0 => a.base | 1 => a.len | 2 => a.step | 3 => a.idx | _ => a.mode)
  else if i < 150 then b.ds[i - 86]?
  else (b.rs[(i - 150) / 2]?).map fun e => if i % 2 = 0 then e.1 else e.2

/-- The bank with word `i` written; g0 and empty stack entries take nothing (R187). -/
def setBankWord (b : Bank) (i : Nat) (v : Word) : Bank :=
  if i = 0 then b
  else if i < 64 then { b with g := b.g.set 0#32 i v }
  else if i = 64 then { b with pc := v }
  else if i = 65 then { b with inst := v }
  else if i < 86 then
    let k := (i - 66) / 5
    let a := b.a.get {} k
    let a1 := match (i - 66) % 5 with
      | 0 => { a with base := v } | 1 => { a with len := v } | 2 => { a with step := v } | 3 => { a with idx := v }
      | _ => { a with mode := v }
    { b with a := b.a.set {} k a1 }
  else if i < 150 then { b with ds := b.ds.set (i - 86) v }
  else
    let k := (i - 150) / 2
    match b.rs[k]? with
    | some e => { b with rs := b.rs.set k (if i % 2 = 0 then (v, e.2) else (e.1, v)) }
    | none => b

/-- Why a request is refused, apart from the level: COUNT, the space, the range, a retired region (R575). -/
def debugRange (s : State) (r : DbgReq) : Nat :=
  let sp := r.space.toNat
  let n := r.count
  let region (k size : Nat) : Nat :=
    if decide (size < r.addr + n) then CHECK_FAILED else if !regionUp s k then WRONG_STATE else DONE
  if n % 4 ≠ 0 ∨ 4096 < n then CHECK_FAILED
  else if sp < 4 then region sp 0x400000
  else if 0x10 ≤ sp ∧ sp < 0x14 then region (sp - 0x10) 0x200000
  else if sp = 0x20 ∨ sp = 0x21 then
    if (List.range (n / 4)).all fun i => indexOk (spaceOf (r.addr + i)) (indexOf (r.addr + i)) then DONE else CHECK_FAILED
  else if sp = 0x30 then
    if r.addr + n ≤ 0x7800000 then DONE
    else if r.addr + n ≤ 0x8000000 then NOT_PERMITTED else CHECK_FAILED
  else if 0x40 ≤ sp ∧ sp < 0x50 then
    if 278 < regBase (r.addr / 256) + n / 4 ∨ 65536 ≤ r.addr ∨ 4 ≤ r.addr % 256 then CHECK_FAILED
    else if !regionUp s ((sp - 0x40) / 4) then WRONG_STATE else DONE
  else if sp = 0x50 then DONE
  else CHECK_FAILED

/-- Words read from what the spec lays out, free words elsewhere. -/
def readFree : List (Option Word) → State → Bytes × State
  | [], s => ([], s)
  | some v :: r, s => let (b, s1) := readFree r s; (leBytes 4 v.toNat ++ b, s1)
  | none :: r, s => let (v, s0) := draw s; let (b, s1) := readFree r s0; (leBytes 4 v.toNat ++ b, s1)

/-- Bytes of MRAM: what debug wrote, free elsewhere, as the spec lays out no byte of its partitions (log entry 29). -/
def mramBytes : Nat → Nat → State → Bytes × State
  | 0, _, s => ([], s)
  | n + 1, a, s =>
    match s.sec.mramRaw.get none a with
    | some b => let (r, s1) := mramBytes n (a + 1) s; (b :: r, s1)
    | none => let (v, s0) := draw s; let (r, s1) := mramBytes n (a + 1) s0; (v.setWidth 8 :: r, s1)

/-- The bytes of a read (R575). -/
def debugData (s : State) (r : DbgReq) : Bytes × State :=
  let sp := r.space.toNat
  let words := List.range (r.count / 4)
  if sp < 4 then (Memory.readBytes (s.region sp).code r.addr r.count, s)
  else if sp < 0x14 then (Memory.readBytes (s.region (sp - 0x10)).data r.addr r.count, s)
  else if sp = 0x20 then (words.flatMap fun i => leBytes 4 (forcedVal s (r.addr + i)).toNat, s)
  else if sp = 0x21 then (words.flatMap fun i => leBytes 4 (pointQuality s (r.addr + i)).toNat, s)
  else if sp = 0x30 then mramBytes r.count r.addr s
  else if sp < 0x50 then
    readFree (words.map fun i => bankWord (s.bank (sp - 0x40) (r.addr % 4)) (regBase (r.addr / 256) + i)) s
  else readFree (words.map fun _ => none) s

/-- The bytes of a write land (R575); Steward's state is not laid out. -/
def debugStore (s : State) (r : DbgReq) : State :=
  let sp := r.space.toNat
  let d := slice r.data 0 r.count
  let words := List.range (r.count / 4)
  let at' (i : Nat) : Word := w32 (leNat (slice d (4 * i) 4))
  if sp < 4 then s.setRegion sp { s.region sp with code := Memory.writeBytes (s.region sp).code r.addr d }
  else if sp < 0x14 then
    s.setRegion (sp - 0x10) { s.region (sp - 0x10) with data := Memory.writeBytes (s.region (sp - 0x10)).data r.addr d }
  else if sp = 0x20 then words.foldl (fun s i => setImg (r.addr + i) (at' i) s) s
  else if sp = 0x21 then words.foldl (fun s i => setQ (r.addr + i) ((at' i).setWidth 4) s) s
  else if sp = 0x30 then
    { s with sec.mramRaw := (List.range r.count).foldl (fun m i => m.set none (r.addr + i) (some (d.getD i 0#8))) s.sec.mramRaw }
  else if sp < 0x50 then
    let e := sp - 0x40
    let c := r.addr % 4
    s.setBank e c (words.foldl (fun b i => setBankWord b (regBase (r.addr / 256) + i) (at' i)) (s.bank e c))
  else s

/-- A debug response stands at the port (R575). -/
def dbgAnswer (op status : Nat) (data : Bytes) (s : State) : State := { s with sec.dbgResp := some (op, status, data) }

/-- The level in force for a request; over the TAP the packet passes the DBG_SELECT register (R509, R575). -/
def debugLevel (s : State) (r : DbgReq) : Option Nat :=
  if r.usb then (if s.host.usb && tapUp s then some (s.sec.dbg.get 0 1) else none)
  else if tapUp s && decide (s.sec.tapIr = 0x20) then some (s.sec.dbg.get 0 0) else none

/-- A request runs when its level allows it; a port that is not there answers nothing (R509, R575). -/
def debugRun (op need : Nat) (r : DbgReq) (f : State → State) (t : Nat) (s : State) : Result State :=
  let s := advance t s
  .next (match debugLevel s r with
    | none => s
    | some l => if l < need then dbgAnswer op NOT_PERMITTED [] s else f s)

/-- DEBUG_READ (R575). -/
def execDebugRead (t : Nat) (r : DbgReq) (s : State) : Result State :=
  debugRun 1 1 r (fun s =>
    if debugRange s r ≠ DONE then dbgAnswer 1 (debugRange s r) [] s
    else let (d, s1) := debugData s r; dbgAnswer 1 DONE d s1) t s

/-- DEBUG_WRITE (R575). -/
def execDebugWrite (t : Nat) (r : DbgReq) (s : State) : Result State :=
  debugRun 2 2 r (fun s =>
    if debugRange s r ≠ DONE then dbgAnswer 2 (debugRange s r) [] s else dbgAnswer 2 DONE [] (debugStore s r)) t s

/-- The part that a halt, resume or step names: an engine, or Steward; none for any other space (R575). -/
def haltPart (s : State) (r : DbgReq) : Option (Option (Fin 16)) :=
  let sp := r.space.toNat
  if sp = 0x50 then some none
  else if 0x40 ≤ sp ∧ sp < 0x50 ∧ !s.power.retired.getLsbD ((sp - 0x40) / 4) then some (some (Fin.ofNat 16 (sp - 0x40)))
  else none

/-- The part is halted. -/
def isHalted (s : State) : Option (Fin 16) → Bool
  | none => s.sec.stewardHalted
  | some e => s.eng.halted.getLsbD e

/-- DEBUG_HALT: the engine or Steward halts, with the effects of EXTEST (R512, R575). -/
def execDebugHalt (t : Nat) (r : DbgReq) (s : State) : Result State :=
  debugRun 3 2 r (fun s =>
    match haltPart s r with
    | none => dbgAnswer 3 CHECK_FAILED [] s
    | some none => dbgAnswer 3 DONE [] (debugStop { s with sec.stewardHalted := true })
    | some (some e) => dbgAnswer 3 DONE [] (debugStop { s with eng.halted := s.eng.halted ||| (1#16 <<< e.val) })) t s

/-- DEBUG_RESUME: after a halt, a WARM restart (R512, R575). -/
def execDebugResume (t : Nat) (r : DbgReq) (s : State) : Result State :=
  debugRun 4 2 r (fun s =>
    match haltPart s r with
    | none => dbgAnswer 4 CHECK_FAILED [] s
    | some x => if isHalted s x then dbgAnswer 4 DONE [] (debugRestart s) else dbgAnswer 4 WRONG_STATE [] s) t s

/-- DEBUG_STEP: a halted engine may issue one bundle (R575). -/
def execDebugStep (t : Nat) (r : DbgReq) (s : State) : Result State :=
  debugRun 5 2 r (fun s =>
    match haltPart s r with
    | some (some e) =>
      if isHalted s (some e) then dbgAnswer 5 DONE [] { s with eng.step := s.eng.step ||| (1#16 <<< e.val) }
      else dbgAnswer 5 WRONG_STATE [] s
    | _ => dbgAnswer 5 CHECK_FAILED [] s) t s

/-- DEBUG_DETACH: the session ends, after a halt with a WARM restart (R512, R575). -/
def execDebugDetach (t : Nat) (r : DbgReq) (s : State) : Result State :=
  debugRun 6 0 r (fun s => dbgAnswer 6 DONE [] (detach (bit r.usb) s)) t s

end Sys2Proof.Machine
end

