-- ==== Sys2Proof/Machine/Ring.lean ====
section
/-! DEFINITION. The Torvop station ring at a controller: frames, the cycle, station loss, admission and the ring commands
(R365-R389, R508). -/

namespace Sys2Proof.Machine

/-! ### Frames (R366, R369-R374) -/

/-- A frame with a field replaced. -/
def putField (b : Bytes) (off : Nat) (v : Bytes) : Bytes := b.take off ++ v ++ b.drop (off + v.length)

/-- TYPE, FLAGS, CLAIM, CYCLE, TX_TAI, CORR, RING_ID, HOPS, SLOTS and LEASE of a header (R370). -/
def frType (b : Bytes) : Nat := hdrF b 0 1
def frReturn (b : Bytes) : Bool := (hdrF b 1 1).testBit 1
def frClaim (b : Bytes) : Half := BitVec.ofNat 16 (hdrF b 2 2)
def frCycle (b : Bytes) : Nat := hdrF b 4 4
def frTxTai (b : Bytes) : Nat := hdrF b 8 8
def frCorr (b : Bytes) : Nat := hdrF b 0x10 4
def frRingId (b : Bytes) : Word := w32 (hdrF b 0x14 4)
def frQuality (b : Bytes) : Byte := BitVec.ofNat 8 (hdrF b 0x18 1)
def frHops (b : Bytes) : Nat := hdrF b 0x19 1
def frSlots (b : Bytes) : Nat := hdrF b 0x1A 1
def frLease (b : Bytes) : Nat := clamp 1 16 (hdrF b 0x1B 1)
def frActNs (b : Bytes) : Nat := hdrF b 0x1C 4
def frTo (b : Bytes) : BitVec 256 := BitVec.ofNat 256 (hdrF b 0x20 32)

/-- HCRC is good (R370). -/
def hdrGood (b : Bytes) : Bool := decide (68 ≤ b.length) && decide (hdrF b 0x40 4 = (crc32c (b.take 64)).toNat)

/-- The header with HCRC written anew. -/
def rehash (b : Bytes) : Bytes := putField b 0x40 (leBytes 4 (crc32c (b.take 64)).toNat)

/-- The slots of a SUM frame: 8-byte header, LEN bytes, SCRC (R371). -/
def splitSlots : Nat → Bytes → List Bytes
  | 0, _ => []
  | n + 1, b => b.take (12 + hdrF b 4 2) :: splitSlots n (b.drop (12 + hdrF b 4 2))

/-- The slots of a frame. -/
def slotsOf (b : Bytes) : List Bytes := splitSlots (frSlots b) (b.drop 68)

/-- SCRC is good (R371). -/
def slotGood (sl : Bytes) : Bool :=
  let n := 8 + hdrF sl 4 2
  decide (sl.length = n + 4) && decide (hdrF sl n 4 = (crc32c (sl.take n)).toNat)

/-- A slot over its header and data, closed with SCRC. -/
def closeSlot (body : Bytes) : Bytes := body ++ leBytes 4 (crc32c body).toNat

/-- A MSG frame's MCRC is good (R374). -/
def msgGood (b : Bytes) : Bool :=
  let n := 24 + hdrF b 10 2
  decide (b.length = n + 4) && decide (hdrF b n 4 = (crc32c (b.take n)).toNat)

/-- DATA of a MSG frame. -/
def msgData (b : Bytes) : Bytes := slice b 24 (hdrF b 10 2)

/-- A MSG frame (R374). -/
def msgFrame (flags : Nat) (claim : Half) (ringId : Word) (station op seq offset : Nat) (data : Bytes) : Bytes :=
  closeSlot (leBytes 1 3 ++ leBytes 1 flags ++ leBytes 2 claim.toNat ++ leBytes 4 ringId.toNat ++ leBytes 1 station
    ++ leBytes 1 op ++ leBytes 2 data.length ++ leBytes 4 seq ++ leBytes 4 offset ++ zeros 4 ++ data)

/-- A frame leaves on a port (0 RING0, 1 RING1, 2 the port opposite to the one it came in on). -/
def ringSend (port : Nat) (b : Bytes) (s : State) : State := { s with ring.sent := ((port, b) :: s.ring.sent).take 64 }

/-- A failed HCRC, SCRC or MCRC check is counted (R389). -/
def ringCrcError (s : State) : State := { s with ring.crcErrors := (s.ring.crcErrors + 1) % 2 ^ 32 }

/-! ### Layouts and lengths (R372, R377, R385) -/

/-- IN and OUT lengths of a station's configuration, and LEN of its slot (R371, R372). -/
def inLen (b : StationBlock) : Nat := b.inBits / 8 + (b.inBits + b.inWords) / 8 + 4 * b.inWords + 32 + 4 + 16 * b.evtMax
/-- OUT length. -/
def outLen (b : StationBlock) : Nat := b.outBits / 8 + 4 * b.outWords + 8
/-- LEN of the slot. -/
def slotLen (b : StationBlock) : Nat := max (inLen b) (outLen b)

/-- The bytes of a configuration block: as the image carries it, else derived from the values in force (R385). -/
def blockBytes (b : StationBlock) : Bytes := if b.bytes = [] then Config.stationBlockBytes b else b.bytes

/-- CFG_TAG of a block (R371, R385). -/
def cfgTagOf (b : StationBlock) : Nat := leNat ((sha384 (blockBytes b)).take 2)

/-- The configured stations in ascending order. -/
def stationsOn (s : State) : List Nat :=
  ((List.range 62).map fun i => i + 1).filter fun n => (stationCfg s n).enable

/-- Bytes of the SUM frame. -/
def sumBytes (s : State) : Nat := 68 + ((stationsOn s).map fun n => 12 + slotLen (stationCfg s n)).sum

/-- The sum of the delays of the first `n` links, each at most 10 µs (R365, R377). -/
def linkSum (n : Nat) : Nat := ((List.range n).map fun k => min 10000 (Config.linkDelay k)).sum

/-- The transit of a frame of `bytes` bytes in the worst case in ns (R377): in a ring once round, in a line out and back with
one turn. -/
def transitOf (s : State) (bytes : Nat) : Nat :=
  let m := (stationsOn s).length + bit (inPair s)
  let wire := 8 * (bytes + 8)
  match s.ring.topology with
  | 0 => 0
  | 1 => wire + 2 * linkSum m + 640 * (2 * (m - 1)) + 680 * min 1 m
  | _ => wire + linkSum (m + 1) + 640 * m

/-- The transit of the SUM frame (R377). -/
def transitNs (s : State) : Nat := transitOf s (sumBytes s)

/-- The cycle in ns (R376). -/
def cycleNs (s : State) : Nat := 31250 * s.ring.units

/-- The controller's share of the cycle (R368, R377). -/
def shareNs (s : State) : Nat := if inPair s then cycleNs s / 2 else cycleNs s

/-- The transit is longer than the cycle allows: 0.75 × cycle, in a pair half of it (R377). -/
def transitTooLong (s : State) : Bool :=
  decide (s.ring.topology ≠ 0) && decide ((if inPair s then 375 else 750) * cycleNs s < 1000 * transitNs s)

/-! ### Sending (R370, R371, R376, R379) -/

/-- RING_ID in use: 0 becomes the low 32 bits of IDENT (R387). -/
def ringIdOf (id : Word) : Word := if id = 0#32 then w32 (leNat (ident.take 4)) else id

/-- FLAGS of a frame that leaves on a port (R370). -/
def frameFlags (s : State) (port : Nat) : Nat := port % 2 + 4 * bit (inPair s)

/-- A SUM or BEACON header (R370). -/
def frameHeader (s : State) (type port slots : Nat) : Bytes :=
  let b := leBytes 1 type ++ leBytes 1 (frameFlags s port) ++ leBytes 2 (claimOf s).toNat ++ leBytes 4 s.ring.cycle
    ++ leBytes 8 s.time.tai ++ zeros 4 ++ leBytes 4 (ringIdOf s.ring.ringId).toNat ++ [quality s] ++ zeros 1 ++ leBytes 1 slots
    ++ leBytes 1 s.pair.leaseQ ++ leBytes 4 s.ring.actNs ++ leBytes 32 s.rime.toBits.toNat
  b ++ leBytes 4 (crc32c b).toNat

/-- The QX bit and QW word addresses of a station's OUT layout (R138, R139, R372). -/
def outPoints (n : Nat) (b : StationBlock) : List Nat × List Nat :=
  ((List.range b.outBits).map fun k => imgAddr 2 (64 + 512 * (n - 1) + k),
   (List.range b.outWords).map fun k => imgAddr 5 (128 * (n - 1) + k))

/-- Every output of the station that a task writes has been published since the start (R173). -/
def outReady (s : State) (n : Nat) (b : StationBlock) : Bool :=
  let ps := outPoints n b
  (ps.1 ++ ps.2).all fun a => !taskWrites s a || decide (s.scan.published.get 0 a ≠ 0)

/-- An output as it is transferred: the force that the last publish applied, else the published value (R181, R379). -/
def outValue (s : State) (a : Nat) : Word := (s.scan.outForces.get none a).getD (imgVal s a)

/-- The slot of a station as the controller sends it (R371, R372, R379). -/
def slotOf (s : State) (n : Nat) : Bytes :=
  let b := stationCfg s n
  let ps := outPoints n b
  let data := packBits (b.outBits / 8) (ps.1.map fun a => decide (outValue s a ≠ 0#32))
    ++ (ps.2.flatMap fun a => leBytes 4 (outValue s a).toNat) ++ leBytes 8 (s.station n).fresh.toNat
  closeSlot (leBytes 1 n ++ leBytes 1 (bit (outReady s n b) + 2 * bit b.sync) ++ zeros 2 ++ leBytes 2 (slotLen b)
    ++ leBytes 2 (cfgTagOf b) ++ slice data 0 (slotLen b))

/-- A frame leaves on both ports at once (R367). -/
def sendBoth (f : Nat → Bytes) (s : State) : State :=
  [0, 1].foldl (fun s p => if s.ring.link.getLsbD p then ringSend p (f p) s else s) s

/-! ### Station points at the controller (R143, R145, R379, R382) -/

/-- A station's diagnostic bits enter the image with a quality (R143, R144). -/
def setDiag (n : Nat) (q : BitVec 4) (d : Byte) (s : State) : State :=
  (List.range 8).foldl (fun s b =>
      let a := imgAddr 8 (64 * (n - 1) + b)
      setQ a q (setImg a (b32 (d.getLsbD b)) s))
    (s.setStation n { s.station n with diag := d })

/-- The diagnostic bits that STAT gives: FIELD_FAULT, VFLD_LOW, CONFIG_MISMATCH and HOLDING (R143, R371, R379). -/
def statDiag (stat : Byte) : Byte :=
  BitVec.ofNat 8 (8 * bit (stat.getLsbD 1) + 16 * bit (stat.getLsbD 2) + 64 * bit (stat.getLsbD 4) + 128 * bit (stat.getLsbD 3))

/-- The input points of a station: image address, and its number among SUBST_MODE's points (R372, R388). -/
def inPoints (n : Nat) (b : StationBlock) : List (Nat × Nat) :=
  ((List.range b.inBits).map fun k => (imgAddr 1 (64 + 512 * (n - 1) + k), k))
    ++ (List.range b.inWords).map fun k => (imgAddr 4 (128 * (n - 1) + k), 512 + k)

/-- A station's record of 16 bytes as it enters this module's FIFO under a bound source; a marker never reads as an ordinary
record (R373, R379). -/
def stationRec (n src : Nat) (r : Bytes) : EvRec :=
  let who := hdrF r 0xC 1
  let kind := hdrF r 0xD 1
  let data := hdrF r 8 4
  let q := BitVec.ofNat 8 (hdrF r 0xE 1)
  let fl := BitVec.ofNat 8 (hdrF r 0xF 1)
  if who = 0xFF then
    { tai := hdrF r 0 8, source := src, kind := kind, quality := q, flags := fl, data := w32 (0xFF + 256 * n)
      lost := if kind = 4 then data else 0
      aux := if kind = 4 then (hdrF r 0 8 : Int) else if kind = 5 then toSigned 32 data * 1000 else 0 }
  else
    { tai := hdrF r 0 8, source := src, kind := kind, quality := q, flags := fl
      data := w32 (who % 128 + 256 * n + 65536 * (data % 65536)) }

/-- The records of a station's IN section (R372, R379). -/
def stationRecs (n : Nat) (b : StationBlock) (inp : Bytes) (s : State) : State :=
  let at0 := b.inBits / 8 + (b.inBits + b.inWords) / 8 + 4 * b.inWords + 32
  (List.range (min b.evtMax (hdrF inp at0 1))).foldl (fun s i =>
    (boundTo s (.station n)).foldl (fun s src => raise (stationRec n src (slice inp (at0 + 4 + 16 * i) 16)) s) s) s

/-- The points and TO bits of an accepted slot enter as one unit; while the station is lost its points keep their
substitutes (R146, R379, R382). -/
def enterStation (n : Nat) (inp : Bytes) (s : State) : State :=
  let b := stationCfg s n
  let bad (i : Nat) : Bool := packedBit (inp.drop (b.inBits / 8)) i
  let words := b.inBits / 8 + (b.inBits + b.inWords) / 8
  let q (v : Bool) : BitVec 4 := if v then 2#4 else 1#4
  let s1 := if (s.station n).lost then s else
    (List.range b.inWords).foldl (fun s k =>
      let a := imgAddr 4 (128 * (n - 1) + k)
      setQ a (q (bad (b.inBits + k))) (setImg a (w32 (hdrF inp (words + 4 * k) 4)) s))
    ((List.range b.inBits).foldl (fun s k =>
      let a := imgAddr 1 (64 + 512 * (n - 1) + k)
      setQ a (q (bad k)) (setImg a (b32 (packedBit inp k)) s)) s)
  let bits := BitVec.ofNat 256 (hdrF inp (words + 4 * b.inWords) 32)
  stationRecs n b inp (s1.setStation n { s1.station n with toBits := bits, toBad := false })

/-- One returning slot at the controller. A station that is not admitted counts as one that gives no copy (R40, R379). -/
def returnSlot (port hops corr : Nat) (sl : Bytes) (s : State) : State :=
  let n := hdrF sl 0 1
  let b := stationCfg s n
  let r := s.station n
  if n = 0 ∨ 62 < n ∨ !b.enable then s
  else if !slotGood sl then ringCrcError (s.setStation n { r with crcError := true })
  else if !r.admitted then s
  else
    let stat := BitVec.ofNat 8 (hdrF sl 2 1)
    let mismatch := stat.getLsbD 4
    let r1 := { r with
      hops := if port = 0 then [hops, r.hops.getD 1 0] else [r.hops.getD 0 0, hops], corr := corr }
    if !stat.getLsbD 0 then s.setStation n r1
    else if mismatch then setDiag n (if r.lost then 4#4 else 1#4) ((r.diag &&& 0x27#8) ||| statDiag stat) (s.setStation n { r1 with state := 2 })
    else
      let first := decide (r.copies = 0)
      let s1 := s.setStation n { r1 with
        copies := r.copies + 1, lastSeen := s.ring.cycle, cfgTag := hdrF sl 6 2, state := 3, turned := stat.getLsbD 5 }
      if !first then s1
      else
        setDiag n (if r.lost then 4#4 else 1#4) ((r.diag &&& 0x26#8) ||| 1#8 ||| statDiag stat) (enterStation n (slice sl 8 (hdrF sl 4 2)) s1)

/-- The frame is this controller's own: in a pair the SEED of its claim tells (R368, R392). -/
def ownFrame (s : State) (b : Bytes) : Bool := !inPair s || (frClaim b).getLsbD 0 == s.pair.seed

/-- SUM_RETURN: a returning copy of the running cycle's SUM (R379). -/
def sumReturn (port : Nat) (b : Bytes) (s : State) : State :=
  if !ringRuns s then s
  else if !hdrGood b then ringCrcError s
  else if frType b ≠ 1 ∨ 127 < frHops b ∨ frRingId b ≠ ringIdOf s.ring.ringId ∨ !ownFrame s b ∨ frCycle b ≠ s.ring.cycle ∨ !s.ring.running then s
  else (slotsOf b).foldl (fun s sl => returnSlot port (frHops b) (frCorr b) sl s) s

/-- SUM_RETURN. -/
def execSumReturn (t : Nat) (port : Fin 2) (bytes : Bytes) (s : State) : Result State := .next (sumReturn port bytes (advance t s))

/-! ### The end of a cycle (R382, R383) -/

/-- A station's inputs take their substitutes with SUBSTITUTED quality (R382, R383). -/
def substitute (n : Nat) (s : State) : State :=
  let b := stationCfg s n
  (inPoints n b).foldl (fun s p =>
    let v := match b.substMode.get 0 p.2 with
      | 0 => imgVal s p.1
      | 2 => 1#32
      | 3 => if p.2 < 512 then 0#32 else b.substValue.get 0#32 (p.2 - 512)
      | _ => 0#32
    setQ p.1 4#4 (setImg p.1 v s)) s

/-- A station with no accepted copy in the cycle (R382). -/
def stationMissed (n : Nat) (s : State) : State :=
  let r := s.station n
  let s1 := s.setStation n { r with missed := r.missed + 1, good := 0, toBad := true }
  let s2 := if r.lost then s1 else (inPoints n (stationCfg s n)).foldl (fun s p => setQ p.1 2#4 s) s1
  if !r.lost && decide (s.ring.loss ≤ r.missed + 1) then
    let s3 := substitute n (logFault 0x52 2 (whr 5 0 n) (w32 n) (w32 s.ring.cycle)
      { s2.setStation n { s2.station n with lost := true, state := 0 } with ring.losses := (s.ring.losses + 1) % 2 ^ 32 })
    releaseOwn 48 { station := n } s3
  else s2

/-- A station's part of the end of a cycle: missing, lost or returned, and its diagnostic bits (R143, R379, R382). -/
def stationCycleEnd (n : Nat) (s : State) : State :=
  let r := s.station n
  let s1 := if r.copies ≠ 0 then s.setStation n { r with missed := 0, good := min 3 (r.good + 1), lost := r.lost && decide (r.good + 1 < 3) }
    else if s.ring.cfgChanged then s else stationMissed n s
  let x := s1.station n
  let d := (x.diag &&& 0xD8#8) ||| BitVec.ofNat 8 (bit (x.copies ≠ 0) + 2 * bit x.lost + 4 * bit x.crcError
    + 32 * bit (s.ring.topology = 2 && x.copies = 1))
  let q : BitVec 4 := if x.lost then 4#4 else if x.copies ≠ 0 then 1#4 else if s.ring.cfgChanged then s.img.q.get 2#4 (imgAddr 8 (64 * (n - 1)))
    else 2#4
  setDiag n q d s1

/-- The nodes beside a break: in a ring the stations that turn frames, 0 for the controller beside one (R367, R389). -/
def breakNodes (s : State) : Nat × Nat :=
  let ts := if s.ring.topology = 2 then (stationsOn s).filter fun n => (s.station n).turned && decide ((s.station n).copies ≠ 0) else []
  match ts with
  | [] => (0xFF, 0xFF)
  | [a] => (0, a)
  | a :: b :: _ => (a, b)

/-- A cycle of the ring is counted at a controller in full service while the ring is not OFF: without PLL_NET no frame moves,
and the stations are lost (R96, R382). -/
def ringCounts (s : State) : Bool :=
  fullService s && !isStation s && (s.power.restart.isNone || s.power.tripUntil.isSome) && decide (s.ring.topology ≠ 0)

/-- RING_STATUS's answer for a station: its counters and version as its STATUS exchange gave them (R374, R389). -/
def stationStatus (n : Nat) (s : State) : Bytes :=
  let r := s.station n
  leBytes 1 n ++ leBytes 1 r.state ++ leBytes 1 s.ring.link.toNat ++ [r.diag] ++ leBytes 2 0xFFFF ++ zeros 2
    ++ leBytes 4 s.ring.cycle ++ leBytes 4 r.corr ++ slice r.told 0 16 ++ leBytes 2 r.cfgTag ++ leBytes 1 (r.hops.getD 0 0)
    ++ leBytes 1 (r.hops.getD 1 0) ++ slice r.told 16 4 ++ leBytes 4 r.lastSeen ++ zeros 20

/-- Waiting RING_STATUS requests that `p` picks are answered (R389). -/
def answerAsks (p : Nat × Nat × Nat → Bool) (s : State) : State :=
  (s.ring.asks.filter p).foldl (fun s a => finishWid a.2.1 DONE (stationStatus a.1 s) s)
    { s with ring.asks := s.ring.asks.filter fun a => !p a }

/-- The end of a ring cycle; a STATUS exchange of 5 ms without a reply is answered with what is known (R382, R389). -/
def cycleEnd (s0 : State) : State :=
  let s := answerAsks (fun a => passed s0.now a.2.2 5000000) s0
  let s1 := (stationsOn s).foldl (fun s n => stationCycleEnd n s) s
  { s1 with ring.ended := true, ring.cfgChanged := false, ring.breakA := (breakNodes s1).1, ring.breakB := (breakNodes s1).2 }

/-- RING_CYCLE_END: the running cycle has lasted CYCLE_UNITS × 31.25 µs (R376, R382). -/
def ringCycleEnd (s : State) : State :=
  if s.ring.running && !s.ring.ended && ringCounts s && passed s.now s.ring.sumAt (cycleNs s) then cycleEnd s else s

/-- RING_CYCLE_END. -/
def execRingCycleEnd (t : Nat) (s : State) : Result State := .next (ringCycleEnd (advance t s))

/-- RING_CFG's answer (R387). -/
def ringReply (s : State) : Bytes :=
  leBytes 1 s.ring.topology ++ leBytes 1 s.ring.loss ++ leBytes 2 s.ring.units ++ leBytes 4 s.ring.ringId.toNat
    ++ leBytes 4 s.ring.actNs ++ leBytes 4 (transitNs s) ++ leBytes 4 (cycleNs s)

/-- A waiting change of the ring takes effect at a cycle start, and RING_CFG is answered (R387, R388, R579). -/
def applyRing (b : Bnd) (s : State) : State :=
  match b with
  | .ringCfg top loss units id act wid =>
    let s1 := { s with ring.topology := top, ring.loss := loss, ring.units := units, ring.ringId := id, ring.actNs := act
                       ring.cfgSet := true, ring.running := s.ring.running && decide (top ≠ 0) }
    finishWid wid DONE (ringReply s1) (renewStations s s1)
  | .ringStation n blk =>
    renewStation s n { s with ring.cfg := s.ring.cfg.set ((prog s).stations.get {} n) n blk, ring.cfgSet := true }
  | _ => s

/-- The cycle start has come: the KEEPER's one cycle after its last SUM, the APPRENTICE's half a cycle after the KEEPER's SUM
while that is heard (R368, R376). -/
def sumDue (s : State) : Bool :=
  let own := !s.ring.running || passed s.now s.ring.sumAt (cycleNs s)
  match s.ring.partnerSum with
  | some a =>
    if isApprentice s && decide (s.now < a + cycleNs s) then
      passed s.now a (cycleNs s / 2) && (!s.ring.running || decide (s.ring.sumAt ≤ a))
    else own
  | none => own

/-- SUM_SEND: at its cycle start the controller takes waiting changes and sends SUM on both ports (R376, R379, R387). A ring
that is OFF only takes the changes; without PLL_NET no port has a link and the cycle is only counted (R96). -/
def sumSend (s : State) : State :=
  let live := fullService s && !isStation s
  let s0 := if s.ring.running && !s.ring.ended && ringCounts s then cycleEnd s else s
  if !live || !sumDue s then s
  else
    let s1 := s0.ring.next.foldl (fun s b => applyRing b s) { s0 with ring.next := [] }
    if !ringCounts s1 then answerAsks (fun _ => true) { s1 with ring.running := false }
    else
      let s2 := { s1 with
        ring.cycle := (s1.ring.cycle + 1) % 2 ^ 32, ring.running := true, ring.sumAt := s1.now
        ring.beacons := 0, ring.ended := false, ring.cfgChanged := decide (s.ring.next ≠ [])
        ring.st := s1.ring.st.mapVal {} fun _ r => { r with copies := 0, crcError := false } }
      let on := stationsOn s2
      let s3 := sendBoth (fun p => frameHeader s2 1 p on.length ++ on.flatMap (slotOf s2)) s2
      on.foldl (fun s n => s.setStation n { s.station n with fresh := 0#64 }) s3

/-- SUM_SEND. -/
def execSumSend (t : Nat) (s : State) : Result State := .next (sumSend (advance t s))

/-- The next BEACON's instant after the SUM (R376). -/
def beaconAt (s : State) : Nat := 62500 * s.pair.leaseQ * (s.ring.beacons + 1)

/-- Another BEACON belongs into this cycle: the cycle exceeds LEASE / 4, and the instant lies within the controller's share
(R376). -/
def beaconDue (s : State) : Bool := decide (62500 * s.pair.leaseQ < cycleNs s) && decide (beaconAt s < shareNs s)

/-- BEACON_SEND: a BEACON at each multiple of LEASE / 4 after the SUM, within the controller's share (R376). -/
def beaconSend (s : State) : State :=
  if ringRuns s && s.ring.running && beaconDue s && passed s.now s.ring.sumAt (beaconAt s) then
    sendBoth (fun p => frameHeader s 2 p 0) { s with ring.beacons := s.ring.beacons + 1 }
  else s

/-- BEACON_SEND. -/
def execBeaconSend (t : Nat) (s : State) : Result State := .next (beaconSend (advance t s))

/-! ### Acyclic frames and admission (R374, R386, R508) -/

/-- Step 1 of the exchange: nonce, identity key, certificate, serial, lifecycle (R508). -/
def idBlock (s : State) (nonce : Bytes) : Bytes :=
  slice nonce 0 32 ++ idPub ++ slice Config.deviceCert 0 96 ++ leBytes 4 s.sec.serial.toNat ++ leBytes 1 (lifeCode s.sec.life)

/-- The other end's block suits: its lifecycle equals this one's, and from COMMISSION on its certificate verifies with the
slot 0 key over IDENT and SERIAL (R40, R508). -/
def peerOk (s : State) (d : Bytes) : Bool :=
  let key := slice d 32 96
  decide (hdrF d 0xE4 1 = lifeCode s.sec.life)
    && (s.sec.life = .blank || (decide ((keySlot s 0).kind ≠ 0)
        && ecdsaVerify (keySlot s 0).key (sha384 key ++ slice d 0xE0 4) (slice d 0x80 96)))

/-- The data of a MSG frame that Steward sends: the exchange's step, a part of the configuration block, its hash with the
owner signature, or room for the reply (R374, R386, R508). -/
def msgPayload (n op offset : Nat) (data : Bytes) (s : State) : Bytes × State :=
  let b := blockBytes (stationCfg s n)
  let r := s.station n
  match op with
  | 1 =>
    if r.idOk then
      let m := slice r.nonce 32 32 ++ slice r.nonce 0 32 ++ leBytes 4 (ringIdOf s.ring.ringId).toNat
      identitySig m s
    else
      let c := slice (Config.nonce s.sec.draws) 0 32
      (slice (idBlock s c) 0 325,
        { s.setStation n { r with nonce := c, state := 1 } with sec.draws := s.sec.draws + 1 })
  | 2 => ((b.drop offset).take 1024, s)
  | 3 => (sha384 b ++ slice data 0 96, s)
  | _ => (data.take 1024, s)

/-- The whole MSG frame of `len` data bytes returns within the controller's share, before its next SUM or BEACON is due
(R376). -/
def msgFits (s : State) (len : Nat) : Bool :=
  let due := if beaconDue s then beaconAt s else shareNs s
  !s.ring.running || decide (s.now + transitOf s (28 + len) ≤ s.ring.sumAt + due)

/-- MSG_SEND: a controller sends an acyclic frame to a configured station where it fits into the cycle (R374, R376). -/
def msgSend (n op offset : Nat) (data : Bytes) (s : State) : State :=
  if !ringRuns s || n = 0 || op = 0 || !(stationCfg s n).enable then s
  else
    let (d, s1) := msgPayload n op offset data s
    if !msgFits s d.length then s else
    let seq := s1.ring.msgSeq
    sendBoth (fun p => msgFrame (frameFlags s1 p) (claimOf s1) (ringIdOf s1.ring.ringId) n op seq offset d)
      { s1 with ring.msgSeq := (seq + 1) % 2 ^ 32 }

/-- MSG_SEND. -/
def execMsgSend (t : Nat) (station : Fin 63) (op : Fin 5) (offset : Nat) (data : Bytes) (s : State) : Result State :=
  .next (msgSend station op offset data (advance t s))

/-- A failed admission is a security event on the ring (R508, R515). -/
def admissionFails (n : Nat) (s : State) : State :=
  audit 2 3 NOT_PERMITTED (leBytes 1 n) (s.setStation n { s.station n with idOk := false, admitted := false, nonce := [], state := 0 })

/-- The reply to step 1: the station's block, and its signature over C_NONCE ‖ S_NONCE ‖ RING_ID (R508). -/
def admitReply1 (n : Nat) (d : Bytes) (s : State) : State :=
  let r := s.station n
  let m := slice r.nonce 0 32 ++ slice d 0 32 ++ leBytes 4 (ringIdOf s.ring.ringId).toNat
  if r.nonce = [] then s
  else if peerOk s d && ecdsaVerify (slice d 32 96) m (slice d 0xE5 96) then
    s.setStation n { r with idOk := true, nonce := slice r.nonce 0 32 ++ slice d 0 32 }
  else admissionFails n s

/-- MSG_REPLY: a frame returns with its reply and OP[7] set (R374, R508). -/
def msgReply (b : Bytes) (s : State) : State :=
  let n := hdrF b 8 1
  let op := hdrF b 9 1
  let d := msgData b
  if !ringRuns s then s
  else if !msgGood b then ringCrcError s
  else if op < 128 ∨ w32 (hdrF b 4 4) ≠ ringIdOf s.ring.ringId ∨ n = 0 ∨ 62 < n ∨ !ownFrame s b then s
  else match op - 128 with
    | 1 =>
      if 325 ≤ d.length then admitReply1 n d s
      else if (s.station n).idOk then
        if hdrF d 0 1 = 1 then s.setStation n { s.station n with admitted := true, idOk := false, nonce := [], state := 2 }
        else admissionFails n s
      else s
    | 4 => answerAsks (fun a => a.1 = n) (s.setStation n { s.station n with told := slice d 0 20 })
    | _ => s

/-- MSG_REPLY. -/
def execMsgReply (t : Nat) (bytes : Bytes) (s : State) : Result State := .next (msgReply bytes (advance t s))

/-! ### Links (R367, R375) -/

/-- RING_LINK_CHANGE: a port loses or regains its link (R94, R367). -/
def ringLink (port : Nat) (up : Bool) (s : State) : State :=
  if up && (!inRun s || !clkReady s 5) then s
  else { s with ring.link := if up then s.ring.link ||| (1#2 <<< port) else s.ring.link &&& ~~~(1#2 <<< port) }

/-- RING_LINK_CHANGE. -/
def execRingLinkChange (t : Nat) (port : Fin 2) (up : Bool) (s : State) : Result State := .next (ringLink port up (advance t s))

/-- A port with a link. -/
def ringPortUp (s : State) (port : Nat) : Bool := inRun s && s.ring.link.getLsbD port

/-- DELAY_MEASURE: a request leaves on an idle port (R375). -/
def execDelayMeasure (t : Nat) (port : Fin 2) (s : State) : Result State :=
  let s := advance t s
  .next (if ringPortUp s port then { s with ring.delayReq := s.ring.delayReq + 1 } else s)

/-- DELAY_REQUEST_RX: the neighbour's request is answered with a response that carries the residence (R375). -/
def execDelayRequestRx (t : Nat) (port : Fin 2) (_residenceNs : Nat) (s : State) : Result State :=
  let s := advance t s
  .next (if ringPortUp s port then { s with ring.delayRsp := s.ring.delayRsp + 1 } else s)

/-- DELAY_RESPONSE_RX: (round trip − residence) / 2, averaged over the last 8 (R375). -/
def execDelayResponseRx (t : Nat) (port : Fin 2) (roundTripNs residenceNs : Nat) (s : State) : Result State :=
  let s := advance t s
  .next (if ringPortUp s port then
      { s with ring.delays := s.ring.delays.set [] port (((roundTripNs - residenceNs) / 2 :: s.ring.delays.get [] port).take 8) }
    else s)

/-- The link delay of a port: the average of its last 8 measurements, 0 before the first (R375, R389). -/
def linkDelay (s : State) (port : Nat) : Nat :=
  let d := s.ring.delays.get [] port
  if d = [] then 0 else d.sum / d.length

/-! ### Commands (R387-R389) -/

/-- A cycle breaks the SAF minimum of a station channel that a task writes (R383). -/
def cycleBreaksSaf (s : State) : Bool :=
  decide (s.ring.topology ≠ 0) && (partition s).tasks.any fun d =>
    (d.num = 0 || isPeriodicTask d.num) && breaksStation s d (if d.num = 0 then baseMaxUs s else periodUs s d)

/-- RING_CFG's effect: it waits for the BASE boundary and the next cycle start (R387). -/
def ringCfg (w : Work) (s : State) : Reply × State :=
  let p := w.payload
  let top := min 2 (field p 0 1 2)
  let loss := clamp 2 16 (field p 1 1 3)
  let units := clamp 1 256 (field p 2 2 8)
  let id := ringIdOf (w32 (field p 4 4 0))
  let s1 := { s with ring.topology := top, ring.loss := loss, ring.units := units, ring.ringId := id }
  let act := min (max (transitNs s1) (field p 8 4 0)) (shareNs s1)
  checked [(transitTooLong s1 || cycleBreaksSaf s1 || notMine s, WRONG_STATE)]
    (.later, applyIfStopped (forward 0x0801 p { s with
      scan.bnd := s.scan.bnd ++ [.ringCfg top loss units id act w.wid] })) s

/-- RING_CFG (R387). -/
def execRingCfg (t : Nat) (mb : Fin 8) (s : State) : Result State := .next (runCommand t mb 0x0801 ringCfg s)

/-- SUBST_MODE and SUBST_VALUE as bytes (R388). -/
def substBytes (b : StationBlock) : Bytes :=
  (List.range 160).map (fun i => BitVec.ofNat 8 (((List.range 4).map fun k => 4 ^ k * (b.substMode.get 0 (4 * i + k) % 4)).sum))
    ++ (List.range 128).flatMap fun k => leBytes 4 (b.substValue.get 0#32 k).toNat

/-- RING_STATION_CFG's answer (R388). -/
def stationEcho (n : Nat) (query : Bool) (b : StationBlock) : Bytes :=
  leBytes 1 n ++ leBytes 1 (bit b.enable + 2 * bit b.sync + 128 * bit query) ++ leBytes 2 b.inBits ++ leBytes 2 b.inWords
    ++ leBytes 2 b.outBits ++ leBytes 2 b.outWords ++ leBytes 1 b.evtMax ++ zeros 5 ++ substBytes b

/-- The configuration that a request asks for, over the image's (R372, R388). -/
def askedStation (img : StationBlock) (p : Bytes) : StationBlock :=
  let opts := if 2 ≤ p.length then field p 1 1 0 else bit img.enable + 2 * bit img.sync
  let step (n : Nat) : Nat := n / 32 * 32
  let b : StationBlock := { img with
    enable := opts.testBit 0, sync := opts.testBit 1
    inBits := step (min 512 (field p 2 2 img.inBits)), inWords := step (min 128 (field p 4 2 img.inWords))
    outBits := step (min 512 (field p 6 2 img.outBits)), outWords := step (min 128 (field p 8 2 img.outWords))
    evtMax := min 20 (field p 0xA 1 img.evtMax)
    substMode := if p.length < 0xB0 then img.substMode
      else (List.range 640).foldl (fun (m : Tbl Nat) i => m.set 0 i ((p.getD (0x10 + i / 4) 0#8).toNat / 4 ^ (i % 4) % 4)) []
    substValue := if p.length < 0x2B0 then img.substValue
      else (List.range 128).foldl (fun (m : Tbl Word) i => m.set 0#32 i (w32 (hdrF p (0xB0 + 4 * i) 4))) [] }
  if b = img then b else { b with bytes := [] }

/-- The counts of two configurations are the same. -/
def sameCounts (a b : StationBlock) : Bool :=
  a.inBits = b.inBits && a.inWords = b.inWords && a.outBits = b.outBits && a.outWords = b.outWords && a.evtMax = b.evtMax

/-- RING_STATION_CFG's effect and answer (R388). -/
def ringStationCfg (w : Work) (s : State) : Reply × State :=
  let p := w.payload
  let n := clamp 1 62 (field p 0 1 1)
  let query := payloadBit p 1 7
  let cur := stationCfg s n
  let b := askedStation ((prog s).stations.get {} n) p
  let s1 := applyRing (.ringStation n b) s
  if query then checked [(isStation s || isApprentice s || inHoldup s, WRONG_STATE)] (.done DONE (stationEcho n true cur), s) s
  else checked
    [(transitTooLong s1 || notMine s, WRONG_STATE), (!sameCounts cur b && (spb s).stationMask.getLsbD (n - 1), NOT_PERMITTED)]
    (.done DONE (stationEcho n false b),
      applyIfStopped (forward 0x0802 p { s with scan.bnd := s.scan.bnd ++ [.ringStation n b] })) s

/-- RING_STATION_CFG (R388). -/
def execRingStationCfg (t : Nat) (mb : Fin 8) (s : State) : Result State := .next (runCommand t mb 0x0802 ringStationCfg s)

/-- STATE of the ring or of this station (R389). -/
def ringState (s : State) : Nat :=
  if isStation s then s.ring.stState
  else if s.ring.topology = 0 then 0
  else if !s.ring.running || !ringRuns s then 1 else if s.ring.breakA ≠ 0xFF then 3 else 2

/-- RING_STATUS at a station: its own view (R389). -/
def ownStatus (s : State) : Bytes :=
  let r := s.station 0
  leBytes 1 0 ++ leBytes 1 s.ring.stState ++ leBytes 1 s.ring.link.toNat ++ [r.diag] ++ leBytes 2 0xFFFF ++ zeros 2
    ++ leBytes 4 ((obeyedCtl s).elim 0 fun k => ((s.ring.ctl.get {} k).cycle).getD 0) ++ leBytes 4 r.corr
    ++ leBytes 4 s.ring.crcErrors ++ leBytes 4 s.ring.losses ++ leBytes 4 (linkDelay s 0) ++ leBytes 4 (linkDelay s 1)
    ++ leBytes 2 (s.ring.active.elim 0 cfgTagOf) ++ leBytes 1 (r.hops.getD 0 0) ++ leBytes 1 (r.hops.getD 1 0)
    ++ slice ((fwNow s).flatMap fun w => leBytes 4 w.toNat) 0 4 ++ leBytes 4 r.lastSeen ++ zeros 20

/-- RING_STATUS: for a station it takes one STATUS exchange; a station that is not admitted, and a ring that does not run, are
answered from what is known (R389). -/
def ringStatus (w : Work) (s : State) : Reply × State :=
  let sel := if isStation s ∨ 62 < field w.payload 0 1 0 then 0 else field w.payload 0 1 0
  let counts (f : StationRt → Bool) : Nat := ((stationsOn s).filter fun n => f (s.station n)).length
  if isStation s then (.done DONE (ownStatus s), s)
  else if sel = 0 then
    (.done DONE (leBytes 1 0 ++ leBytes 1 (ringState s) ++ leBytes 1 s.ring.link.toNat ++ zeros 1 ++ leBytes 1 s.ring.breakA ++ leBytes 1 s.ring.breakB
      ++ leBytes 1 (counts fun r => r.diag.getLsbD 0) ++ leBytes 1 (counts StationRt.lost) ++ leBytes 4 s.ring.cycle
      ++ leBytes 4 (transitNs s) ++ leBytes 4 s.ring.crcErrors ++ leBytes 4 s.ring.losses
      ++ leBytes 4 (linkDelay s 0) ++ leBytes 4 (linkDelay s 1) ++ zeros 32), s)
  else checked [(!(stationCfg s sel).enable, NOT_PRESENT)]
    (if ringRuns s && s.ring.running && (s.station sel).admitted && !(s.station sel).lost then
      (.later, msgSend sel 4 0 (zeros 64) { s with ring.asks := s.ring.asks ++ [(sel, w.wid, s.now)] })
    else (.done DONE (stationStatus sel s), s)) s

/-- RING_STATUS (R389). -/
def execRingStatus (t : Nat) (mb : Fin 8) (s : State) : Result State := .next (runCommand t mb 0x0803 ringStatus s)

end Sys2Proof.Machine
end

