-- ==== Sys2Proof/Machine/Station.lean ====
section
/-! DEFINITION. The Torvop station ring at a station, and the forwarding of frames at any node: slots, outputs, claims and
time from the headers, admission and configuration (R367-R386, R508). -/

namespace Sys2Proof.Machine

/-! ### Headers and forwarding (R367, R370) -/

/-- A controller as this station knows it. -/
def ctl (s : State) (k : Nat) : CtlRt := s.ring.ctl.get {} k
/-- A controller's entry replaced. -/
def setCtl (k : Nat) (v : CtlRt) (s : State) : State := { s with ring.ctl := s.ring.ctl.set {} k v }

/-- The controller, 1 or 2, that sent a claim: the two differ in SEED (R386, R392). -/
def ctlOf (claim : Half) : Nat := 1 + bit (claim.getLsbD 0)

/-- A residence within the limits of R365, a free value (log entry 5). -/
def residence (turned : Bool) (s : State) : Nat × State :=
  let (w, s1) := draw s
  ((if turned then 360 else 320) + w.toNat % 321, s1)

/-- The frame turns at this node: its other port has no link (R367). -/
def turnsAt (s : State) (port : Nat) : Bool := !s.ring.link.getLsbD (1 - port)

/-- A SUM or BEACON frame goes on: HOPS, CORR, FLAGS and HCRC are written anew, and one with HOPS above 127 is discarded
(R367, R370). -/
def forwardFrame (port res : Nat) (b : Bytes) (s : State) : State :=
  if 127 < frHops b then s
  else
    let turned := turnsAt s port
    let b1 := putField b 0x19 (leBytes 1 (frHops b + 1))
    let b2 := putField b1 0x10 (leBytes 4 ((frCorr b + linkDelay s port + res) % 2 ^ 32))
    let b3 := if turned then putField b2 1 (leBytes 1 (hdrF b 1 1 ||| 2)) else b2
    ringSend (if turned then port else 1 - port) (rehash b3) s

/-- A MSG frame goes on; RETURN set on the way back changes its MCRC (R367, R374). -/
def forwardMsg (port : Nat) (b : Bytes) (s : State) : State :=
  if turnsAt s port then
    ringSend port (closeSlot ((putField b 1 (leBytes 1 (hdrF b 1 1 ||| 2))).take (b.length - 4))) s
  else ringSend (1 - port) b s

/-- This module forwards and answers on the ring as a station: powered, with the port's link up and PLL_NET ready (R94,
R384). -/
def stationRuns (s : State) : Bool := isStation s && serving s && clkReady s 5

/-- The frame carries this station's RING_ID, which is that of the controllers it has admitted; before the first it listens to any
(R370, R386; log entry 53). -/
def ringIdFits (s : State) (id : Word) : Bool := s.ring.ringId = 0#32 || s.ring.ringId = id

/-! ### What a station sends (R372, R373, R378, R385) -/

/-- The configuration block in force, empty before the first. -/
def ownBlock (s : State) : StationBlock := s.ring.active.getD {}

/-- An IN bit and whether the station can vouch for it (R372, R385). -/
def inBit (s : State) (i : Nat) : Bool × Bool :=
  if i < 64 then
    (decide (pointValue s (imgAddr 1 i) ≠ 0#32), decide (pointQuality s (imgAddr 1 i) &&& 3#4 ≠ 1#4))
  else if i < 320 then (decide (imgVal s (imgAddr 6 (i - 64)) ≠ 0#32), false)
  else if i < 399 then
    let k := panelKey s (i - 320)
    (decide (k.state = 1), decide (k.state = 2))
  else (false, true)

/-- An IN word and whether the station can vouch for it (R372, R385). -/
def inWord (s : State) (k : Nat) : Word × Bool :=
  let a := imgAddr 4 (7936 + k)
  if k < 64 then (pointValue s a, decide (pointQuality s a &&& 3#4 ≠ 1#4)) else (0#32, true)

/-- An event record in the ring's form (R373). -/
def evBytes (r : EvRec) : Bytes :=
  let lost := min r.lost (2 ^ 32 - 1)
  let step := clampI (-(2 ^ 31)) (2 ^ 31 - 1) (r.aux / 1000)
  let marker := decide (r.source = 0xFF)
  leBytes 8 (if marker && r.kind = 4 then r.aux.toNat else r.tai)
    ++ leBytes 4 (if marker then (if r.kind = 4 then lost else (step % 2 ^ 32).toNat) else r.data.toNat)
    ++ leBytes 1 r.source ++ leBytes 1 r.kind ++ [r.quality, r.flags]

/-- The records that go to a controller in this cycle, and what is left; its overflow marker comes first (R111, R372, R373). -/
def takeRecords (k n : Nat) (s : State) : List EvRec × Bool × State :=
  let (mk, s1) := match s.ev.markers.get none (2 + k) with
    | some m => if n = 0 then ([], s) else ([m], { s with ev.markers := s.ev.markers.set none (2 + k) none })
    | none => ([], s)
  let pos := s1.ev.ringPos.get 0 k
  let rest := s1.ev.fifo.drop (pos - (s1.ev.written - s1.ev.fifo.length))
  let now := rest.take (n - mk.length)
  (mk ++ now, decide (now.length < rest.length), { s1 with ev.ringPos := s1.ev.ringPos.set 0 k (pos + now.length) })

/-- The IN section of a cycle (R372). -/
def inSection (k : Nat) (s : State) : Bytes × State :=
  let b := ownBlock s
  let bits := (List.range b.inBits).map (inBit s)
  let words := (List.range b.inWords).map (inWord s)
  let (rs, more, s1) := takeRecords k b.evtMax s
  (packBits (b.inBits / 8) (bits.map Prod.fst)
    ++ packBits ((b.inBits + b.inWords) / 8) (bits.map Prod.snd ++ words.map Prod.snd)
    ++ words.flatMap (fun w => leBytes 4 w.1.toNat) ++ leBytes 32 s.rime.toBits.toNat
    ++ leBytes 1 rs.length ++ leBytes 1 (bit more) ++ zeros 2 ++ slice (rs.flatMap evBytes) 0 (16 * b.evtMax), s1)

/-! ### Outputs (R368, R378, R385) -/

/-- An RF flag that the block marks controller-written takes its value (R265, R385). -/
def takeFlag (i : Nat) (v : Bool) (s : State) : State :=
  let a := imgAddr 6 i
  let s1 := setImg a (b32 v) s
  if imgVal s a = b32 v then s1 else flagEvent id i v s1

/-- The outputs of a controller go to the field dies with its claim and FRESH mask; flags and LEDs follow (R378, R385). -/
def applyOut (out : Bytes) (s : State) : State :=
  let b := ownBlock s
  let v (i : Nat) : Bool := decide (i < b.outBits) && packedBit out i
  let fresh := BitVec.ofNat 64 (leNat (slice out (b.outBits / 8 + 4 * b.outWords) 8))
  let s1 := (List.range (min 64 b.outBits)).foldl (fun s ch =>
    let c := s.chan ch
    sendCmd ch (setImg (imgAddr 2 ch) (b32 (v ch))
      (s.setChan ch { c with qx := some (v ch), freshOwed := c.freshOwed || fresh.getLsbD ch }))) s
  let s2 := (List.range 256).foldl (fun s i =>
    if decide (64 + i < b.outBits) && b.rfController.getLsbD i then takeFlag i (v (64 + i)) s else s) s1
  (List.range 16).foldl (fun s i =>
    if decide (320 + i < b.outBits) && !ledOwned s i then { s with panel.leds := s.panel.leds.set 0 i (bit (v (320 + i))) } else s) s2

/-- Outputs of controller `k` are kept; they act while the field dies obey it (R316, R368, R378). -/
def takeOut (k : Nat) (out : Bytes) (s : State) : State :=
  let s1 := setCtl k { ctl s k with out := out } s
  if (obeyedCtl s1).map Fin.val = some k then applyOut out s1 else s1

/-- The dies obey another controller than before: its outputs, already there, act (R316, R368, R580). -/
def followClaim (old : Option (Fin 3)) (s : State) : State :=
  if obeyedCtl s = old then s
  else match obeyedCtl s with
    | some k => sendAllCmds (if (ctl s k).out = [] then s else applyOut (ctl s k).out s)
    | none => s

/-! ### A header's claim and time (R316, R380, R381) -/

/-- The claim enters every field die of the station with the sender's lease (R380). -/
def refreshClaims (k : Nat) (claim : Half) (leaseQ : Nat) (s : State) : State :=
  (List.range 4).foldl (fun s n =>
    let d := s.die n
    if d.powered then
      s.setDie n { d with claims := d.claims.set {} k { claim := claim, last := s.now, leaseQ := leaseQ, heard := true } }
    else s) s

/-- The station's time is the obeyed controller's: TX_TAI + CORR + the arrival link's delay (R120, R381). -/
def takeTime (port : Nat) (b : Bytes) (s : State) : State :=
  let new := frTxTai b + frCorr b + linkDelay s port
  let diff := (new : Int) - s.time.tai
  let s1 := if 1000 * s.time.stepUs < diff.natAbs then stepBy diff s else { s with time.tai := new, time.slew := 0 }
  setTimeState 2 4 { s1 with
    ring.ctlQuality := frQuality b, time.setAt := new, time.timeLost := s1.time.timeLost && (frQuality b).getLsbD 6 }

/-- A block committed by a controller becomes active: rules change as at an epoch, the dies take their records (R268, R319,
R386). -/
def activateBlock (k : Nat) (s : State) : State :=
  match s.ring.committed with
  | some b =>
    if s.ring.committedBy ≠ k then s
    else
      let s1 := changeRules b.rules [] { s with ring.active := some b, ring.committed := none, ring.committedBy := 0 }
      retarget ((List.range 4).foldl (fun s n => if (s.die n).powered then configureDie n s else s) s1)
  | none => s

/-- The slot's CFG_TAG is not that of the active block, or no block is active (R378, R386). -/
def tagDiffers (s : State) (sl : Bytes) : Bool := s.ring.active.elim true fun blk => decide (cfgTagOf blk ≠ hdrF sl 6 2)

/-- This station's slots in a frame. -/
def ownSlots (s : State) (b : Bytes) : List Bytes := (slotsOf b).filter fun sl => hdrF sl 0 1 = s.bcr.stationNo

/-- The first header of a cycle: a committed block becomes active, and the IN data is latched for a slot that will carry it. The
controller's cycle is the time between its SUM frames (R378, R380, R386). -/
def newCycle (k : Nat) (b : Bytes) (s : State) : State :=
  let s1 := activateBlock k s
  let (inp, s2) := if (ownSlots s1 b).any fun sl => !tagDiffers s1 sl then inSection k s1 else ([], s1)
  let c := ctl s2 k
  setCtl k { c with
    cycle := some (frCycle b), inData := inp, taken := false, sumAt := s.now
    cycleNs := c.cycle.elim c.cycleNs fun was => (s.now - c.sumAt) / max 1 ((frCycle b + 2 ^ 32 - was) % 2 ^ 32) } s2

/-- HOPS and CORR of the last copy from each port, in the station's own view (R389). -/
def noteCopy (port : Nat) (b : Bytes) (s : State) : State :=
  let r := s.station 0
  s.setStation 0 { r with
    hops := if port = 0 then [frHops b, r.hops.getD 1 0] else [r.hops.getD 0 0, frHops b], corr := frCorr b }

/-- A good SUM or BEACON header with this station's RING_ID: an unknown controller begins admission; an admitted one's claim,
TO bits and time are taken (R380, R381, R386). -/
def takeHeader (port : Nat) (b : Bytes) (s0 : State) : State :=
  let s := noteCopy port b s0
  let k := ctlOf (frClaim b)
  let c := ctl s k
  if c.admission ≠ 2 then
    setCtl k { c with admission := 1, lastHeard := s.now } { s with ring.stState := max 1 s.ring.stState }
  else
    let old := obeyedCtl s
    let s1 := setCtl k { c with lastHeard := s.now, claim := frClaim b, leaseQ := frLease b, toBits := frTo b } s
    let s2 := followClaim old (refreshClaims k (frClaim b) (frLease b) s1)
    let s3 := if (obeyedCtl s2).map Fin.val = some k then takeTime port b s2 else s2
    if frType b = 1 ∧ (ctl s3 k).cycle ≠ some (frCycle b) then newCycle k b s3 else s3

/-! ### Slots (R371, R378) -/

/-- STAT of this station's slot (R371). -/
def statOf (s : State) (port : Nat) (mismatch : Bool) : Nat :=
  1 + 2 * bit ((List.range 64).any fun ch => (s.chan ch).faults ≠ 0#16)
    + 4 * bit ((List.range 4).any fun n => (s.die n).powered && (s.die n).vfldLow)
    + 8 * bit ((List.range 4).any fun n => (s.die n).powered && (s.die n).holding) + 16 * bit mismatch + 32 * bit (turnsAt s port)

/-- The slot as this station rewrites it (R371, R378). -/
def answerSlot (s : State) (k port : Nat) (sl : Bytes) (mismatch : Bool) : Bytes :=
  let len := hdrF sl 4 2
  closeSlot (putField (sl.take 8) 2 (leBytes 1 (statOf s port mismatch))
    ++ (if mismatch then zeros len else slice (ctl s k).inData 0 len))

/-- The outputs of a slot: the first good copy of the cycle with OUT_VALID and a matching tag, at once or at TX_TAI + ACT_NS
with SYNC (R378). -/
def slotOutputs (k : Nat) (b sl : Bytes) (s : State) : State :=
  let c := ctl s k
  let ctrl := BitVec.ofNat 8 (hdrF sl 1 1)
  if c.taken || !ctrl.getLsbD 0 then s
  else
    let out := slice sl 8 (hdrF sl 4 2)
    if ctrl.getLsbD 1 then setCtl k { c with taken := true, syncAt := some (frTxTai b + frActNs b), syncOut := out } s
    else takeOut k out (setCtl k { c with taken := true } s)

/-- This station's slot as the frame passes: the slot as it leaves, and the state; the station's own diagnostic bits and
LAST_SEEN follow (R378, R386, R389). -/
def passSlot (k port : Nat) (b sl : Bytes) (s : State) : Bytes × State :=
  let mismatch := tagDiffers s sl
  let d := statDiag (BitVec.ofNat 8 (statOf s port mismatch)) ||| (if mismatch then 0#8 else 1#8)
  let s1 := { s with ring.stState := if mismatch then 2 else 3 }
  let new := answerSlot s1 k port sl mismatch
  if !slotGood sl then (new, ringCrcError (s1.setStation 0 { s1.station 0 with diag := d ||| 4#8 }))
  else if mismatch then (new, s1.setStation 0 { s1.station 0 with diag := d })
  else (new, slotOutputs k b sl (s1.setStation 0 { s1.station 0 with diag := d, lastSeen := frCycle b }))

/-- Every slot of a frame, this station's rewritten. -/
def passSlots (k port : Nat) (b : Bytes) : List Bytes → State → Bytes × State
  | [], s => ([], s)
  | sl :: r, s =>
    let (x, s1) := if hdrF sl 0 1 = s.bcr.stationNo then passSlot k port b sl s else (sl, s)
    let (y, s2) := passSlots k port b r s1
    (x ++ y, s2)

/-- SUM_RX_STATION: a SUM copy from an admitted controller: IN is latched at its header, the own slot rewritten, the frame
forwarded and the outputs taken. Another copy, and one with RETURN set, is only forwarded (R367, R378, R380). -/
def sumRxStation (port : Nat) (b : Bytes) (s : State) : State :=
  if !stationRuns s || !s.ring.link.getLsbD port || frType b ≠ 1 then s
  else if !hdrGood b then ringCrcError s
  else if 127 < frHops b then s
  else
    let (res, s0) := residence (turnsAt s port) s
    if !ringIdFits s (frRingId b) then forwardFrame port res b s0
    else
      let k := ctlOf (frClaim b)
      let s1 := takeHeader port b s0
      if (ctl s1 k).admission ≠ 2 ∨ frReturn b then forwardFrame port res b s1
      else
        let (body, s2) := passSlots k port b (slotsOf b) s1
        forwardFrame port res (b.take 68 ++ body) s2

/-- SUM_RX_STATION. -/
def execSumRxStation (t : Nat) (port : Fin 2) (bytes : Bytes) (s : State) : Result State :=
  .next (sumRxStation port bytes (advance t s))

/-- BEACON_RX: the header refreshes the sender's claim, and the frame goes on (R367, R380). -/
def beaconRx (port : Nat) (b : Bytes) (s : State) : State :=
  if !stationRuns s || !s.ring.link.getLsbD port || frType b ≠ 2 then s
  else if !hdrGood b then ringCrcError s
  else if 127 < frHops b then s
  else
    let (res, s0) := residence (turnsAt s port) s
    forwardFrame port res b (if ringIdFits s (frRingId b) then takeHeader port b s0 else s0)

/-- BEACON_RX. -/
def execBeaconRx (t : Nat) (port : Fin 2) (bytes : Bytes) (s : State) : Result State := .next (beaconRx port bytes (advance t s))

/-- A controller of a pair hears its partner's claim in the frame that it forwards; with the partner link silent, a valid
KEEPER claim puts an APPRENTICE out of step with cause LINK (R368, R409, R411). -/
def hearPartner (b : Bytes) (s : State) : State :=
  if frRingId b ≠ ringIdOf s.ring.ringId then s
  else
    let claim := frClaim b
    let s1 := { s with
      pair.partnerClaim := claim
      pair.partnerAt := if claim.msb then some s.now else s.pair.partnerAt
      pair.partnerRingAt := if claim.msb then some s.now else s.pair.partnerRingAt
      ring.partnerSum := if frType b = 1 ∧ claim.msb ∧ !frReturn b then some s.now else s.ring.partnerSum }
    if claim.msb && decide (s.pair.lanes = 0#2) then outOfStep 3 s1 else s1

/-- RING_FRAME_FORWARD: a node forwards or turns a frame without reading its slots, with a residence within the limits of R365; a
controller forwards only its partner's frames (R365, R367, R368). -/
def ringFrameForward (port resNs : Nat) (b : Bytes) (s : State) : State :=
  let res := if turnsAt s port then clamp 360 680 resNs else clamp 320 640 resNs
  if !(stationRuns s || (inPair s && ringRuns s)) || !s.ring.link.getLsbD port then s
  else match frType b with
    | 3 => if !msgGood b then ringCrcError s
      else if !isStation s && ownFrame s b then s else forwardMsg port b s
    | 1 | 2 =>
      if !hdrGood b then ringCrcError s
      else if 127 < frHops b then s
      else if isStation s then
        forwardFrame port res b (if ringIdFits s (frRingId b) then takeHeader port b s else s)
      else if ownFrame s b then s
      else forwardFrame port res b (hearPartner b s)
    | _ => s

/-- RING_FRAME_FORWARD. -/
def execRingFrameForward (t : Nat) (port : Fin 2) (bytes : Bytes) (residenceNs : Nat) (s : State) : Result State :=
  .next (ringFrameForward port residenceNs bytes (advance t s))

/-- SYNC_OUTPUT_APPLY: outputs whose TX_TAI + ACT_NS has come in the station's timebase (R378). -/
def syncOutputApply (s : State) : State :=
  [1, 2].foldl (fun s k =>
    let c := ctl s k
    match c.syncAt with
    | some a => if a ≤ s.time.tai then takeOut k c.syncOut (setCtl k { c with syncAt := none, syncOut := [] } s) else s
    | none => s) s

/-- SYNC_OUTPUT_APPLY. -/
def execSyncOutputApply (t : Nat) (s : State) : Result State :=
  let s := advance t s
  .next (if stationRuns s then syncOutputApply s else s)

/-! ### Acyclic frames at a station (R374, R386, R508) -/

/-- The frame is an intact MSG of an operation for this station, not yet answered. -/
def msgForMe (s : State) (op : Nat) (b : Bytes) : Bool :=
  stationRuns s && frType b = 3 && msgGood b && !frReturn b && hdrF b 8 1 = s.bcr.stationNo && hdrF b 9 1 = op
    && ringIdFits s (w32 (hdrF b 4 4))

/-- The controller that sent a MSG frame. -/
def msgCtl (b : Bytes) : Nat := ctlOf (BitVec.ofNat 16 (hdrF b 2 2))

/-- A MSG frame goes on; with a link on one port only it came in there and turns (R367). -/
def msgGoesOn (b : Bytes) (s : State) : State :=
  if s.ring.link = 1#2 then forwardMsg 0 b s else if s.ring.link = 2#2 then forwardMsg 1 b s else ringSend 2 b s

/-- The frame goes on with its reply: DATA overwritten, OP[7] set, MCRC written anew (R374). -/
def msgAnswer (b data : Bytes) (s : State) : State :=
  msgGoesOn (closeSlot (putField (b.take 24) 9 (leBytes 1 (hdrF b 9 1 + 128)) ++ slice data 0 (hdrF b 10 2))) s

/-- A MSG frame that is not for this station goes on as it came; one whose MCRC fails is counted (R367, R389). -/
def msgPasses (b : Bytes) (s : State) : State :=
  if !stationRuns s || frType b ≠ 3 then s else if !msgGood b then ringCrcError s else msgGoesOn b s

/-- A controller is refused: a security event on the ring (R40, R386, R515). -/
def refuseCtl (k : Nat) (s : State) : State := audit 2 3 NOT_PERMITTED (leBytes 1 k) (setCtl k {} s)

/-- Step 1 of the exchange: the controller's identity is checked and the station's is sent (R508). -/
def admit1 (b : Bytes) (s : State) : State :=
  let k := msgCtl b
  let d := msgData b
  if !peerOk s d then msgGoesOn b (refuseCtl k s)
  else
    let nonce := slice (Config.nonce s.sec.draws) 0 32
    let (sig, s1) := identitySig (slice d 0 32 ++ nonce ++ leBytes 4 (hdrF b 4 4)) { s with sec.draws := s.sec.draws + 1 }
    msgAnswer b (idBlock s1 nonce ++ sig) (setCtl k
      { admission := 1, nonce := nonce, cNonce := slice d 0 32, key := slice d 32 96, lastHeard := s.now }
      { s1 with ring.stState := max 1 s1.ring.stState })

/-- Step 2: the controller's signature; its event records begin with the oldest the FIFO holds (R111, R508). -/
def admit2 (b : Bytes) (s : State) : State :=
  let k := msgCtl b
  let c := ctl s k
  if c.key ≠ [] ∧ ecdsaVerify c.key (c.nonce ++ c.cNonce ++ leBytes 4 (hdrF b 4 4)) (slice (msgData b) 0 96) then
    msgAnswer b [1#8] { setCtl k { admission := 2, lastHeard := s.now } s with
      ring.ringId := w32 (hdrF b 4 4), ring.stState := max 2 s.ring.stState
      ev.ringPos := s.ev.ringPos.set 0 k (s.ev.written - s.ev.fifo.length), ev.markers := s.ev.markers.set none (2 + k) none }
  else msgAnswer b [0#8] (refuseCtl k s)

/-- ADMIT: either step, told apart by the length of DATA (R374, R508). -/
def admitStep (b : Bytes) (s : State) : State :=
  if !msgForMe s 1 b then msgPasses b s else if 229 ≤ hdrF b 10 2 then admit1 b s else admit2 b s

/-- ADMIT. -/
def execAdmit (t : Nat) (bytes : Bytes) (s : State) : Result State := .next (admitStep bytes (advance t s))

/-- The reply whose DATA the chapter leaves open: free bytes (log entry 5). -/
def freeAnswer (b : Bytes) (s : State) : State :=
  let (d, s1) := drawBytes (hdrF b 10 2 / 4 + 1) s
  msgAnswer b d s1

/-- CFG_BLOCK: a part of the configuration block from an admitted controller (R374). -/
def cfgBlock (b : Bytes) (s : State) : State :=
  if !msgForMe s 2 b || (ctl s (msgCtl b)).admission ≠ 2 then msgPasses b s
  else
    let off := hdrF b 0x10 4
    let old : Tbl Bytes := if off = 0 then [] else s.ring.block
    freeAnswer b { s with ring.block := old.set [] off (msgData b) }

/-- CFG_BLOCK. -/
def execCfgBlock (t : Nat) (bytes : Bytes) (s : State) : Result State := .next (cfgBlock bytes (advance t s))

/-- CFG_COMMIT: the hash matches the block received, and the owner's signature over it verifies with the slot 0 key; it becomes
active at the controller's next cycle (R385, R386). -/
def cfgCommit (b : Bytes) (s : State) : State :=
  if !msgForMe s 3 b || (ctl s (msgCtl b)).admission ≠ 2 then msgPasses b s
  else
    let blk := s.ring.block.flatMap Prod.snd
    let d := msgData b
    let signed := s.sec.life = .blank || (decide ((keySlot s 0).kind ≠ 0) && ecdsaVerify (keySlot s 0).key blk (slice d 48 96))
    if sha384 blk = slice d 0 48 ∧ signed then
      freeAnswer b { s with
        ring.committed := some { readBlock (Config.stationBlockOf blk) with bytes := blk }, ring.committedBy := msgCtl b, ring.block := [] }
    else freeAnswer b { s with ring.block := [] }

/-- CFG_COMMIT. -/
def execCfgCommit (t : Nat) (bytes : Bytes) (s : State) : Result State := .next (cfgCommit bytes (advance t s))

/-- MSG_STATUS: the station's ring counters and firmware versions (R374). -/
def msgStatus (b : Bytes) (s : State) : State :=
  if !msgForMe s 4 b then msgPasses b s
  else msgAnswer b (leBytes 4 s.ring.crcErrors ++ leBytes 4 s.ring.losses ++ leBytes 4 (linkDelay s 0) ++ leBytes 4 (linkDelay s 1)
    ++ (fwNow s).flatMap fun w => leBytes 4 w.toNat) s

/-- MSG_STATUS. -/
def execMsgStatus (t : Nat) (bytes : Bytes) (s : State) : Result State := .next (msgStatus bytes (advance t s))

/-- STATION_DOWN_TIMEOUT: no admitted controller heard for 1 s, nor in ADMIT one that is being admitted; the station is DOWN and
admits anew, in whatever ring it then hears (R386; log entry 53). -/
def stationDownTimeout (s : State) : State :=
  let heard := s.ring.ctl.any fun c => (decide (c.2.admission = 2) || decide (s.ring.stState < 2)) && decide (s.now < c.2.lastHeard + 10 ^ 9)
  if !isStation s || heard || s.ring.stState = 0 then s
  else { s with ring.stState := 0, ring.ctl := [], ring.ringId := 0#32 }

/-- STATION_DOWN_TIMEOUT. -/
def execStationDownTimeout (t : Nat) (s : State) : Result State := .next (stationDownTimeout (advance t s))

end Sys2Proof.Machine
end

