-- ==== Sys2Proof/Machine/Update.lean ====
section
/-! DEFINITION. Updates: download, verification, activation, trial, revert and confirmation (R531-R549). -/

namespace Sys2Proof.Machine

/-! ### Download (R544, R545) -/

/-- The part of an UPD_ command's WRONG_STATE that its card shares (R495, R542, R544). -/
def updRefused (s : State) : Bool := isApprentice s || decide (s.sec.life = .retired) || inHoldup s

/-- The firmware versions of a bank, 0 A and 1 B (R78, R538). -/
def bankFw (s : State) (bank : Nat) : List Word := if bank = 0 then s.upd.fwA else s.upd.fwB
/-- The versions of a bank are written. -/
def setBankFw (bank : Nat) (v : List Word) (s : State) : State :=
  if bank = 0 then { s with upd.fwA := v } else { s with upd.fwB := v }

/-- The parts of the update that a UPD_BLOCK or a verification may carry (R420). -/
def bankBytes : Nat := (32 + 64) * 2 ^ 20

/-- UPD_BEGIN's effect and answer: the inactive bank and its archive are erased (R544). -/
def updBegin (w : Work) (s : State) : Reply × State :=
  let p := w.payload
  let total := field p 0 4 0
  let h := p.drop 8
  let id := (s.upd.id + 1) % 65536
  let s1 := setArchive (1 - s.upd.active) none (setBankFw (1 - s.upd.active) [] s)
  checked
    [(!headerOk 3 total h s, CHECK_FAILED), (decide (bankBytes < total), NO_SPACE),
     (loading s || editBusy s || updBusy s || (s.scan.bnd.any fun b => match b with | .profile .. => true | _ => false), BUSY),
     (updRefused s, WRONG_STATE)]
    (.done DONE (leBytes 2 id ++ leBytes 2 (hdrBlockSize h) ++ leBytes 4 (hdrBlocks h) ++ leBytes 4 (hdrCVersion h)),
      forward 0x0E01 p { s1 with
        upd.state := 1, upd.cause := 0, upd.id := id, upd.phase := 0, upd.header := h, upd.blocks := [], upd.parts := []
        upd.image := none, upd.lastCmd := s.now, upd.partnerState := if isKeeper s then 1 else 0 }) s

/-- UPD_BEGIN (R544). -/
def execUpdBegin (t : Nat) (mb : Fin 8) (s : State) : Result State := .next (runCommand t mb 0x0E01 updBegin s)

/-- The identifier names the update that is being received. -/
def updKnown (s : State) (id : Nat) : Bool := decide (s.upd.id = id ∧ s.upd.state = 1)

/-- UPD_BLOCK's effect and answer (R535, R545). -/
def updBlock (w : Work) (s : State) : Reply × State :=
  let id := field w.payload 0 2 0
  let s1 := { s with upd.lastCmd := s.now }
  if isApprentice s then (.done WRONG_STATE [], s)
  else takeBlock id (updKnown s id) s.upd.header s.upd.blocks w.payload
    (fun b => forward 0x0E02 w.payload { s1 with upd.blocks := b }) s1

/-- UPD_BLOCK (R545). -/
def execUpdBlock (t : Nat) (mb : Fin 8) (s : State) : Result State := .next (runCommand t mb 0x0E02 updBlock s)

/-- The update has failed; what was received is dropped (R545, R546). -/
def updFail (cause : Nat) (s : State) : State :=
  { s with upd.state := 7, upd.cause := cause, upd.blocks := [], upd.parts := [], upd.image := none, upd.phase := 0 }

/-- UPD_IDLE_TIMEOUT: 60 s without an UPD_ command (R545). -/
def execUpdIdleTimeout (t : Nat) (s : State) : Result State :=
  let s := advance t s
  .next (if s.upd.state = 1 ∧ passed s.now s.upd.lastCmd (60 * 10 ^ 9) then updFail 2 s else s)

/-! ### Verification (R537, R546) -/

/-- A manifest entry (R537). -/
def manifestPart (payload : Bytes) (i : Nat) : UpdPart :=
  let e := slice payload (16 + 32 * i) 32
  { kind := hdrF e 0 1, dies := BitVec.ofNat 4 (hdrF e 1 1), version := w32 (hdrF e 4 4), offset := hdrF e 8 4
    length := hdrF e 0xC 4, phash := slice e 0x10 16 }

/-- The manifest's entries. -/
def manifestParts (payload : Bytes) : List UpdPart := (List.range (min 16 (hdrF payload 0 1))).map (manifestPart payload)

/-- The bytes of a part. -/
def partBytes (payload : Bytes) (e : UpdPart) : Bytes := slice payload e.offset e.length

/-- The program image of a KIND 6 part (R537; log entry 4). -/
def updImage (s : State) (payload : Bytes) (parts : List UpdPart) : Option Prog :=
  (parts.find? fun e => e.kind = 6).map fun e =>
    let b := partBytes payload e
    { readImage (Config.imageOf b) with imageId := w32 (leNat ((sha384 b).take 4)), len := b.length, signed := ownerOk s s.upd.header }

/-- Two parts share bytes. -/
def partsOverlap (a b : UpdPart) : Bool := decide (a.offset < b.offset + b.length ∧ b.offset < a.offset + a.length)

/-- A manifest entry is refused: its KIND came before, it lies outside the payload or on another part, its PHASH fails, a KIND 3
names no die, or its image fails checks 3 and 4 of R177 (R537). -/
def badPart (s : State) (payload : Bytes) (parts : List UpdPart) (i : Nat) : Bool :=
  let e := parts.getD i {}
  let before := parts.take i
  before.any (fun x => x.kind = e.kind || partsOverlap x e)
    || decide (payload.length < e.offset + e.length) || decide ((sha384 (partBytes payload e)).take 16 ≠ e.phash)
    || (decide (e.kind = 3) && decide (e.dies = 0#4))
    || (decide (e.kind = 6) && ((updImage s payload parts).elim false fun p => decide (brokenRule s p ≠ 0) || !partsFit p))

/-- FAILED_CHECK and PART of a verification (R546). -/
def updCheck (s : State) : Nat × Nat :=
  let payload := payloadOf s.upd.header s.upd.blocks
  let parts := manifestParts payload
  let n := hdrF payload 0 1
  if !allStored s.upd.header s.upd.blocks then (1, 0xFF)
  else if !payloadOk s.upd.header s.upd.blocks then (2, 0xFF)
  else if n = 0 ∨ 16 < n then (3, 0xFF)
  else match (List.range n).find? (badPart s payload parts) with
    | some i => (3, i)
    | none => (0, 0xFF)

/-- A part of an update is the one at a place of a bank: Steward, system library, the field dies that DIES names (R537). -/
def partAt (i : Nat) (e : UpdPart) : Bool :=
  if i < 2 then decide (e.kind = i + 1) else decide (e.kind = 3) && e.dies.getLsbD (i - 2)

/-- The versions of a bank with the parts of an update in it: parts not named are copied (R537, R538). -/
def newFw (s : State) (parts : List UpdPart) : List Word :=
  (List.range 6).map fun i => match parts.find? (partAt i) with
    | some e => e.version
    | none => (bankFw s s.upd.active).getD i 0#32

/-- A verified update stands complete in the inactive bank (R538, R546). -/
def updAccept (s : State) : State :=
  let payload := payloadOf s.upd.header s.upd.blocks
  let parts := manifestParts payload
  let image := updImage s payload parts
  let current := s.ps.prog.map fun p => (p, s.ps.epoch, s.edit.applied)
  setArchive (1 - s.upd.active) ((image.map fun p => (p, 0, [])).orElse fun _ => current)
    (setBankFw (1 - s.upd.active) (newFw s parts) { s with
      upd.state := 2, upd.parts := parts, upd.image := image, upd.manifestTrial := hdrF payload 2 2, upd.lastCmd := s.now
      upd.partnerState := if isKeeper s then 2 else 0 })

/-- UPD_VERIFY's effect and answer (R546). -/
def updVerify (w : Work) (s : State) : Reply × State :=
  let id := field w.payload 0 2 0
  let c := updCheck s
  let parts := hdrF (payloadOf s.upd.header s.upd.blocks) 0 1
  let answer := leBytes 2 id ++ leBytes 1 c.1 ++ leBytes 1 c.2 ++ leBytes 1 (if c.1 = 1 then 0 else parts) ++ zeros 3
  if isApprentice s ∨ !updKnown s id then (.done WRONG_STATE [], s)
  else if c.1 = 0 then (.done DONE answer, forward 0x0E03 w.payload (updAccept s))
  else (.done CHECK_FAILED answer, forward 0x0E03 w.payload (updFail 3 s))

/-- UPD_VERIFY (R546). -/
def execUpdVerify (t : Nat) (mb : Fin 8) (s : State) : Result State := .next (runCommand t mb 0x0E03 updVerify s)

/-! ### Handover scans (R413, R414) -/

/-- The KEEPER chooses S three scans ahead and sends HANDOVER_AT(S) (R413). -/
def scheduleHandover (s : State) : State :=
  let S := s.scan.scan + 3
  pairSend { kind := 7, num := 1, scan := S } { s with pair.handover := some S }

/-- A handover may be scheduled: in control with the partner in step, none pending, no edit switch pending, and the second of
R414 over. -/
def maySchedule (s : State) : Bool :=
  isKeeper s && decide (s.pair.state = 3) && s.pair.handover.isNone && decide (s.edit.state ≠ 2)
    && decide (s.pair.noHandoverBefore ≤ s.now)

/-! ### Activation, trial and confirmation (R540-R543, R547-R549) -/

/-- The trial window of a request: 0 takes the manifest's (R547). -/
def trialWindow (s : State) (asked : Nat) : Nat := clamp 10 3600 (if asked = 0 then s.upd.manifestTrial else asked)

/-- The recovery image is installed in bank A, CONFIRMED (R531). -/
def installRecovery (s : State) : State :=
  { s with upd.fwA := s.upd.recoveryFw, upd.active := 0, upd.trial := false, upd.starts := 0, upd.trialEnd := none
           upd.updSeq := (s.upd.updSeq + 1) % 2 ^ 32 }

/-- OP 0: SOLO activates at the BASE boundary; a KEEPER begins phase 1, and its APPRENTICE activates (R540, R542). -/
def beginActivate (trialS : Nat) (s : State) : State :=
  if isKeeper s then
    { forward 0x0E04 (leBytes 1 0 ++ zeros 1 ++ leBytes 2 trialS) s with
      upd.state := 3, upd.phase := 1, upd.trialS := trialS, upd.partnerState := 3
      upd.trialEnd := some (s.time.mono + trialS * 10 ^ 9) }
  else applyIfStopped { s with upd.state := 3, scan.bnd := s.scan.bnd ++ [.updActivate trialS] }

/-- OP 1 during the trial; a KEEPER whose partner is in step has that one revert first (R540, R543). -/
def beginRevert (cause : Nat) (s : State) : State :=
  if isKeeper s && decide (s.pair.state = 3) then
    { forward 0x0E04 (leBytes 1 1 ++ zeros 3) s with
      upd.cause := cause, upd.partnerState := 3, upd.trialEnd := some s.time.mono }
  else revertUpdate cause s

/-- UPD_ACTIVATE's effect and answer (R547). -/
def updActivate (w : Work) (s : State) : Reply × State :=
  let op := if 2 < field w.payload 0 1 0 then 1 else field w.payload 0 1 0
  let trialS := trialWindow s (field w.payload 2 2 0)
  let s1 := { s with upd.lastCmd := s.now }
  let wrong := match op with
    | 0 => decide (s.upd.state ≠ 2) || (isKeeper s && decide (s.pair.state ≠ 3))
    | 1 => decide (s.upd.state ≠ 4)
    | _ => decide (s.power.service ≠ .recovery)
  let s2 := match op with
    | 0 => beginActivate trialS s1
    | 1 => beginRevert 7 s1
    | _ => goDown .update (installRecovery s1)
  checked [(wrong || updRefused s, WRONG_STATE), (decide (s.edit.state = 2) || s.pair.handover.isSome, BUSY)]
    (.done DONE (leBytes 1 op ++ zeros 1 ++ leBytes 2 trialS), s2) s

/-- UPD_ACTIVATE (R547). -/
def execUpdActivate (t : Nat) (mb : Fin 8) (s : State) : Result State := .next (runCommand t mb 0x0E04 updActivate s)

/-- The trial window has ended (R540). -/
def trialOver (s : State) : Bool := s.upd.trialEnd.elim false fun e => decide (e ≤ s.time.mono)

/-- TRIAL_EXPIRY: the update reverts; in a pair before phase 3 only the APPRENTICE does, and from phase 3 on the module not in
control first, then the other after a handover back (R540, R543). -/
def trialExpiry (s : State) : State :=
  if !trialOver s then s
  else if isKeeper s then
    if s.upd.phase = 1 ∨ s.upd.phase = 2 then
      { forward 0x0E04 (leBytes 1 1 ++ zeros 3) s with
        upd.state := 6, upd.cause := 4, upd.phase := 0, upd.trialEnd := none, upd.partnerState := 6, upd.image := none }
    else if s.upd.state ≠ 4 then s
    else if s.pair.state = 3 then
      if s.upd.partnerState = 6 then (if maySchedule s then scheduleHandover s else s)
      else if s.upd.partnerState = 3 then s else beginRevert 4 s
    else if s.pair.lanes ≠ 0#2 ∧ s.upd.partnerState = 3 then s
    else revertUpdate 4 s
  else if s.upd.state = 4 then revertUpdate 4 s else s

/-- TRIAL_EXPIRY. -/
def execTrialExpiry (t : Nat) (s : State) : Result State := .next (trialExpiry (advance t s))

/-- UPD_STATUS's answer (R548). -/
def updStatus (_w : Work) (s : State) : Reply × State :=
  let left := s.upd.trialEnd.elim 0 fun e => (e - s.time.mono) / 10 ^ 9
  (.done DONE (leBytes 1 s.upd.state ++ leBytes 1 s.upd.cause ++ leBytes 2 s.upd.id ++ leBytes 1 s.upd.phase
    ++ leBytes 1 s.upd.active ++ leBytes 2 left ++ leBytes 4 s.upd.blocks.length ++ leBytes 4 (hdrCVersion s.upd.header)
    ++ leBytes 4 s.upd.floor ++ leBytes 1 (if inPair s then s.upd.partnerState else 0) ++ zeros 3),
    { s with upd.lastCmd := s.now })

/-- UPD_STATUS (R548). -/
def execUpdStatus (t : Nat) (mb : Fin 8) (s : State) : Result State := .next (runCommand t mb 0x0E05 updStatus s)

/-- The trial is confirmed: the selector CONFIRMED, the rollback floor raised, the revert copy gone, the recovery image to be
refreshed (R540 step 6). -/
def confirmUpdate (s : State) : State :=
  { s with upd.state := 5, upd.cause := 0, upd.phase := 0, upd.trial := false, upd.starts := 0, upd.trialEnd := none
           upd.updSeq := (s.upd.updSeq + 1) % 2 ^ 32, upd.floor := max s.upd.floor (hdrRollback s.upd.header)
           upd.revertHome := none, upd.image := none, upd.refresh := true
           upd.partnerState := if isKeeper s then 5 else s.upd.partnerState }

/-- UPD_CONFIRM's effect and answer (R549). -/
def updConfirm (w : Work) (s : State) : Reply × State :=
  let id := field w.payload 0 2 0
  let s1 := forward 0x0E06 w.payload (confirmUpdate { s with upd.lastCmd := s.now })
  let early := isKeeper s && (decide (s.upd.phase ≠ 5) || decide (s.pair.state ≠ 3))
  checked [(decide (s.upd.state ≠ 4) || decide (s.upd.id ≠ id) || early || updRefused s, WRONG_STATE)]
    (.done DONE (leBytes 2 id ++ leBytes 1 s1.upd.state ++ zeros 1 ++ leBytes 4 s1.upd.floor), s1) s

/-- UPD_CONFIRM (R549). -/
def execUpdConfirm (t : Nat) (mb : Fin 8) (s : State) : Result State := .next (runCommand t mb 0x0E06 updConfirm s)

/-- RECOVERY_REFRESH: the recovery image takes the firmware parts of the confirmed bank (R531). -/
def execRecoveryRefresh (t : Nat) (s : State) : Result State :=
  let s := advance t s
  .next (if s.upd.refresh && fullService s && !s.ldg.flashFailed then
      { s with upd.refresh := false, upd.recoveryFw := bankFw s s.upd.active } else s)

end Sys2Proof.Machine
end

