-- ==== Sys2Proof/Machine/Pair.lean ====
section
/-! DEFINITION. The pair: the partner link's records, alignment, being in step, the claim, takeover, and the pair commands
(R390-R418). -/

namespace Sys2Proof.Machine

/-- A pair member in full service with its link clocked (R94, R390). -/
def pairRuns (s : State) : Bool := fullService s && inPair s && clkReady s 5

/-! ### The claim (R403-R407) -/

/-- Stations that this module has no accepted copy of while its partner shows them present (R404). -/
def unheardStations (s : State) : Nat :=
  ((stationsOn s).filter fun n => s.pair.partnerPresence.getLsbD (n - 1) && !(s.station n).diag.getLsbD 0).length

/-- The deductions of R404 in table order, 0 for a condition that does not hold. -/
def deductions (s : State) : List Nat :=
  let ringOn := decide (s.ring.topology ≠ 0) && decide (stationsOn s ≠ [])
  let down (l : BitVec 2) : Nat := bit (!l.getLsbD 0) + bit (!l.getLsbD 1)
  [32 * bit s.power.threeRegion,
   4 * ((List.range 4).filter fun n => (s.die n).lost).length,
   if s.net.mode = 0 then 8 * bit (!s.net.link.getLsbD 0) else 8 * down s.net.link,
   if ringOn then 8 * down s.ring.link else 0,
   min 32 (4 * unheardStations s),
   8 * bit s.ldg.flashFailed, 8 * bit s.power.reserveLow, 8 * bit s.power.thermalWarn,
   4 * bit ((s.time.list.any fun k => decide (k ≠ 0)) && decide (s.time.state ≠ 2))]

/-- HEALTH as the conditions of now give it: 127 minus the deductions, at least 1 (R403, R404). -/
def healthNow (s : State) : Nat := max 1 (127 - (deductions s).sum)

/-- Both claims are valid and the link is up, so their order changes only at S (R407). -/
def orderHeld (s : State) : Bool := inPair s && s.pair.valid && s.pair.partnerClaim.msb && decide (s.pair.lanes ≠ 0#2)

/-- The order of the two target claims differs from that of the applied claims (R413). -/
def orderReversed (s : State) : Bool :=
  decide (targetClaim s < partnerTarget s) != decide (claimOf s < s.pair.partnerClaim)

/-- The applied claim follows the target where the order stands; where it would reverse, the KEEPER schedules S; a handover
whose reason has gone is dropped, with no new S for 1 s (R407, R413, R414). -/
def claimFollow (s : State) : State :=
  let asked := s.pair.yield && s.host.works.any fun w => w.code = 0x0903 && w.running
  if s.pair.handover.isSome then
    if isKeeper s && !orderReversed s && !s.pair.yield && decide (s.upd.phase = 0 ∧ s.upd.state ≠ 4) then
      { dropHandover s with pair.noHandoverBefore := s.now + 10 ^ 9 }
    else s
  else if !orderHeld s then takeTarget s
  else if orderReversed s || asked then (if maySchedule s then scheduleHandover s else s)
  else if decide (targetClaim s < s.pair.partnerClaim) != decide (claimOf s < s.pair.partnerClaim) then s
  else takeTarget s

/-- HEALTH_SETTLED: a new HEALTH value that has held for 200 ms enters the target claim (R404). -/
def healthSettled (s : State) : State :=
  let h := healthNow s
  if h = s.pair.targetHealth then { s with pair.newHealth := none }
  else match s.pair.newHealth with
    | some (v, a) =>
      if v ≠ h then { s with pair.newHealth := some (h, s.now) }
      else if passed s.now a 200000000 then claimFollow { s with pair.targetHealth := h, pair.newHealth := none } else s
    | none => { s with pair.newHealth := some (h, s.now) }

/-- HEALTH_SETTLED. -/
def execHealthSettled (t : Nat) (s : State) : Result State :=
  let s := advance t s
  .next (if serving s then healthSettled s else s)

/-- TAKEBACK_ELAPSED: an APPRENTICE in step for TAKEBACK_S has its PREF count (R405). -/
def execTakebackElapsed (t : Nat) (s : State) : Result State :=
  let s := advance t s
  .next (match s.pair.inStepAt with
    | some a =>
      if pairRuns s && isApprentice s && decide (s.pair.state = 3) && !s.pair.takebackDone && passed s.now a (s.pair.takebackS * 10 ^ 9)
      then claimFollow { s with pair.takebackDone := true } else s
    | none => s)

/-! ### Heartbeats and lanes (R392, R394, R395, R411) -/

/-- A record leaves on the partner link whether or not the pair is aligned (R395). -/
def linkSend (r : PairTx) (s : State) : State := { s with pair.sent := r :: s.pair.sent }

/-- The stations with an accepted copy, station n in bit n − 1 (R395). -/
def presenceMask (s : State) : Nat :=
  ((List.range 62).map fun i => 2 ^ i * bit ((s.station (i + 1)).diag.getLsbD 0)).sum

/-- HEARTBEAT_SEND: claim, lease, SCAN, role and state on each lane; a CONTROL record with the station presence mask goes with
it (R395). -/
def execHeartbeatSend (t : Nat) (s : State) : Result State :=
  let s := advance t s
  .next (if pairRuns s && !s.pair.seedClash then
      linkSend { kind := 7, num := 3, value := presenceMask s }
        (linkSend { kind := 0, num := 16 * roleCode s.pair.role + s.pair.state, scan := s.scan.scan,
                    value := (claimOf s).toNat + 65536 * s.pair.leaseQ } s)
    else s)

/-! ### Identity (R40, R401, R508) -/

/-- A step of alignment fails; it starts again 1 s later, and until then an APPRENTICE is out of step (R401). -/
def alignFails (s : State) : State :=
  { s with pair.state := if isApprentice s && decide (s.pair.state = 2) then 4 else s.pair.state
           pair.identityOk := false, pair.aligned := false, pair.nonce := [], pair.peerKey := [], pair.alignFailedAt := some s.now }

/-- The partner is refused: a security event, and alignment starts again later (R40, R508, R515). -/
def identityFails (s : State) : State := audit 2 4 NOT_PERMITTED [] { alignFails s with pair.known := false }

/-- A fresh nonce (R506). -/
def newNonce (s : State) : Bytes × State := (slice (Config.nonce s.sec.draws) 0 32, { s with sec.draws := s.sec.draws + 1 })

/-- Step 1 goes out from the KEEPER once a partner that is not in step waits to be aligned (R401, R508). -/
def beginAlign (r : HbRec) (s : State) : State :=
  let wait := s.pair.alignFailedAt.elim false fun a => decide (s.now < a + 10 ^ 9)
  if !isKeeper s || s.pair.identityOk || decide (s.pair.nonce ≠ []) || r.keeper || decide (r.state ≠ 2) || wait then s
  else
    let (c, s1) := newNonce s
    linkSend { kind := 7, num := 6, data := idBlock s c } { s1 with pair.nonce := c, pair.alignFailedAt := none }

/-- A step of the exchange arrives: each end requires the other's lifecycle to be its own, a certificate that verifies with its slot
0 key from COMMISSION on, and the signature over both nonces; RING_ID is 0 here (R40, R401, R508). -/
def takeIdentity (step : Nat) (d : Bytes) (s : State) : State :=
  let c := slice s.pair.nonce 0 32
  match step, isKeeper s with
  | 0, false =>
    if !peerOk s d then identityFails s
    else
      let (n, s1) := newNonce s
      let (sig, s2) := identitySig (slice d 0 32 ++ n ++ zeros 4) s1
      linkSend { kind := 7, num := 7, data := idBlock s n ++ sig }
        { s2 with pair.nonce := slice d 0 32 ++ n, pair.peerKey := slice d 32 96 }
  | 1, true =>
    if s.pair.nonce = [] then s
    else if peerOk s d && ecdsaVerify (slice d 32 96) (c ++ slice d 0 32 ++ zeros 4) (slice d 0xE5 96) then
      let (sig, s1) := identitySig (slice d 0 32 ++ c ++ zeros 4) s
      linkSend { kind := 7, num := 8, data := sig } { s1 with pair.nonce := c ++ slice d 0 32 }
    else identityFails s
  | 2, false =>
    if s.pair.nonce = [] then s
    else if ecdsaVerify s.pair.peerKey (slice s.pair.nonce 32 32 ++ c ++ zeros 4) (slice d 0 96) then
      linkSend { kind := 7, num := 9, data := [1#8] }
        { s with pair.identityOk := true, pair.known := true, pair.nonce := [], pair.peerKey := []
                 scan.tasks := s.scan.tasks.mapVal {} fun _ r => { r with layout := s.ps.epoch } }
    else linkSend { kind := 7, num := 9, data := [0#8] } (identityFails s)
  | 3, true =>
    if s.pair.nonce = [] then s
    else if hdrF d 0 1 = 1 then { s with pair.identityOk := true, pair.known := true, pair.nonce := [] } else identityFails s
  | _, _ => s

/-! ### Heartbeats taken -/

/-- What a KEEPER takes from its partner's state: in step, or no longer, which ends shipping and a pending handover; a partner that
listens or is out of step is aligned from step 1 (R390, R401, R410, R414). -/
def keeperSees (theirs : Fin 5) (s : State) : State :=
  let s1 := if theirs = 1 ∨ theirs = 4 then { s with pair.shipping := false, pair.identityOk := false, pair.nonce := [] } else s
  if theirs = 3 then (if s.pair.state = 3 then s else { s with pair.state := 3, pair.inStepAt := some s.now })
  else if s.pair.state = 3 then
    dropHandover { s1 with pair.state := 4, pair.inStepAt := none, pair.shipping := false, pair.identityOk := false }
  else if theirs = 4 then { s1 with pair.state := 4 }
  else if s1.pair.shipping then { s1 with pair.state := 2 } else s1

/-- The phases of a pair update as the KEEPER sees them pass (R542, R543). -/
def updatePhase (inStep : Bool) (s : State) : State :=
  match s.upd.phase with
  | 1 => if inStep then s else { s with upd.phase := 2 }
  | 2 => if inStep && maySchedule s then scheduleHandover { s with upd.phase := 3, upd.partnerState := 4 } else s
  | 4 => if inStep && decide (s.upd.state = 4) then { s with upd.phase := 5, upd.partnerState := 4 } else s
  | 5 => if !inStep && decide (s.upd.partnerState = 3) then { s with upd.partnerState := 6 } else s
  | _ => s

/-- An EDIT_COMMIT that waits for a partner no longer there goes on with this module's checks (R286). -/
def commitAlone (s : State) : State := if s.edit.asked && !s.pair.shipping then partnerChecked DONE 0 0 s else s

/-- A HEARTBEAT is taken: the partner's claim, its state and, from the KEEPER, the lease; the restart that waited for the
takeover follows (R83, R394, R395, R409). -/
def takeHeartbeat (lane : Nat) (r : HbRec) (s : State) : State :=
  let s1 := { s with
    pair.seedClash := false
    pair.lanes := s.pair.lanes ||| (1#2 <<< lane), pair.hbAt := s.pair.hbAt.set 0 lane s.now
    pair.partner := some r, pair.partnerClaim := r.claim
    pair.partnerAt := if r.claim.msb then some s.now else s.pair.partnerAt
    pair.leaseQ := if isApprentice s && r.keeper then clamp 1 16 r.leaseQ else s.pair.leaseQ }
  match s.power.restartAfterTakeover with
  | some k => if r.keeper then goDown k { s1 with power.restartAfterTakeover := none } else s1
  | none => if isKeeper s1 then commitAlone (claimFollow (beginAlign r (updatePhase (decide (r.state = 3)) (keeperSees r.state s1)))) else s1

/-- HEARTBEAT: a link whose ends report the same SEED is refused (R392, R395). -/
def heartbeat (lane : Nat) (r : HbRec) (s : State) : State :=
  if !pairRuns s then s
  else if r.seed = s.pair.seed then
    let s1 := { s with pair.seedClash := true, pair.lanes := 0#2 }
    if s.pair.seedClash then s1 else logFault 0x78 2 (whr 5 0 0) r.serial 0#32 s1
  else takeHeartbeat lane r s

/-- HEARTBEAT. -/
def execHeartbeat (t : Nat) (lane : Fin 2) (r : HbRec) (s : State) : Result State := .next (heartbeat lane r (advance t s))

/-- The KEEPER's claim is refreshed on the ring (R411, R417). -/
def ringHeard (s : State) : Bool :=
  s.pair.partnerRingAt.elim false fun a => decide (s.now < a + 250000 * s.pair.leaseQ)

/-- The link has fallen silent: a KEEPER runs alone, and an APPRENTICE that still hears its KEEPER on the ring is out of step with
cause LINK (R411). -/
def linkSilent (s : State) : State :=
  let s1 := { s with pair.known := false }
  if isKeeper s then
    dropHandover { s1 with pair.state := 0, pair.shipping := false, pair.inStepAt := none, pair.identityOk := false, pair.nonce := [] }
  else if ringHeard s && s.pair.partnerClaim.msb then outOfStep 3 s1 else s1

/-- LANE_DOWN: 3 heartbeats missed on a lane (R394). -/
def laneDown (lane : Nat) (s : State) : State :=
  if !pairRuns s || !s.pair.lanes.getLsbD lane || !passed s.now (s.pair.hbAt.get 0 lane) 30000 then s
  else
    let s1 := laneFails lane 0 s
    if s1.pair.lanes = 0#2 then commitAlone (linkSilent s1) else s1

/-- LANE_DOWN. -/
def execLaneDown (t : Nat) (lane : Fin 2) (s : State) : Result State := .next (laneDown lane (advance t s))

/-! ### Roles at start and takeover (R390, R391, R410) -/

/-- Periodic grids go on from the first instant not yet past on the task-visible MONO (R147, R410). -/
def regrid (s : State) : State :=
  (partition s).tasks.foldl (fun s d =>
    if isPeriodicTask d.num then
      s.setTask d.num { s.task d.num with nextK := gridK (1000 * phaseUs s d) (1000 * periodUs s d) (taskMono s) }
    else s) s

/-- The module takes the KEEPER role: the incumbent bit, its own releases, its publications (R405, R410). -/
def becomeKeeper (s : State) : State :=
  let s1 := takeTarget { s with
    pair.role := .keeper, pair.state := 0, pair.shipping := false, pair.aligned := false, pair.handover := none
    pair.valid := true, pair.shipped := [], pair.releases := [], pair.inStepAt := none, pair.takebackDone := false
    pair.identityOk := false, pair.nonce := [] }
  let s2 := regrid (if s.pair.valid then s1 else claimChanged s1)
  releaseOwn 0 {} s2

/-- A committed edit whose SWITCH_AT this APPRENTICE does not hold ends ABORTED with cause 5 (R287). -/
def editAtTakeover (s : State) : State := if s.edit.state = 2 ∧ s.edit.switchAt.isNone then abortEdit 5 s else s

/-- PAIR_LISTEN_END: a valid partner claim makes this module APPRENTICE; with both listening the higher 2 × PREF + SEED becomes
KEEPER; with nothing heard it becomes KEEPER alone (R391). -/
def pairListenEnd (s : State) : State :=
  match s.pair.listenAt with
  | none => s
  | some a =>
    if !pairRuns s || decide (s.pair.state ≠ 1) || !passed s.now a (5 * 10 ^ 8) then s
    else
      let s1 := { s with pair.listenAt := none }
      let heard := s.pair.partnerClaim.msb && s.pair.partnerAt.elim false fun b => decide (a ≤ b)
      let rival := match s.pair.partner with
        | some r => decide (r.state = 1) && decide (s.pair.lanes ≠ 0#2) && decide (2 * s.pair.pref + bit s.pair.seed < 2 * r.pref + bit r.seed)
        | none => false
      if heard || rival then
        { s1 with pair.role := .apprentice, pair.state := 2, pair.aligned := false, pair.identityOk := false, pair.matched := 0 }
      else becomeKeeper { s1 with time.pairOffset := 0 }

/-- PAIR_LISTEN_END. -/
def execPairListenEnd (t : Nat) (s : State) : Result State := .next (pairListenEnd (advance t s))

/-- For one lease no path has carried a valid KEEPER claim, or its claim has been heard invalid (R410, R412). -/
def keeperGone (s : State) : Bool :=
  match s.pair.partnerAt with
  | some a => !s.pair.partnerClaim.msb || passed s.now a (250000 * s.pair.leaseQ)
  | none => true

/-- TAKEOVER: an APPRENTICE in step whose KEEPER is gone becomes KEEPER at once (R287, R355, R410). -/
def takeover (s : State) : State :=
  if !pairRuns s || !isApprentice s || decide (s.pair.state ≠ 3) || !keeperGone s then s
  else
    let s1 := becomeKeeper (editAtTakeover { s with
      pair.takeovers := (s.pair.takeovers + 1) % 2 ^ 32, pair.lastScan := s.scan.scan, pair.lastTai := s.time.tai })
    takePubs s1

/-- TAKEOVER. -/
def execTakeover (t : Nat) (s : State) : Result State := .next (takeover (advance t s))

/-! ### Shipped releases (R396, R397) -/

/-- RELEASE_RECORD (R395, R396). -/
def releaseRecord (n scan mono tai source : Nat) (data : Word) (s : State) : State :=
  if !pairRuns s || !isApprentice s || !s.pair.aligned || decide (scan < s.scan.scan ∨ (scan = s.scan.scan ∧ (s.task 0).cycles = 0))
  then s
  else
    let r : RelRec := { scan := scan, snapMono := mono, snapTai := tai, source := source, data := data }
    takeShipped n { s with pair.releases := s.pair.releases.set none n (some r) }

/-- RELEASE_RECORD. -/
def execReleaseRecord (t : Nat) (task : Fin 51) (scan : Dword) (snapMono snapTai source : Nat) (data : Word) (s : State) :
    Result State := .next (releaseRecord task scan.toNat snapMono snapTai source data (advance t s))

/-- SNAPSHOT_RECORD: the task's declared inputs with their qualities; the arrival counts for LAG_US (R395, R396, R417). -/
def snapshotRecord (n : Nat) (points : List (Nat × Word × BitVec 4)) (s : State) : State :=
  if !pairRuns s || !isApprentice s || !s.pair.aligned then s
  else
    let ps : List ImgPoint := points.map fun p => { addr := p.1, val := p.2.1, q := p.2.2 }
    let lag := match s.pair.releases.get none n with
      | some r => [(s.now, taskMono s - r.snapMono)]
      | none => []
    takeShipped n { s with
      pair.shipped := s.pair.shipped.set none n (some ps)
      pair.lags := lag ++ s.pair.lags.filter fun e => decide (s.now < e.1 + 10 ^ 9) }

/-- SNAPSHOT_RECORD. -/
def execSnapshotRecord (t : Nat) (task : Fin 51) (points : List (Nat × Word × BitVec 4)) (s : State) : Result State :=
  .next (snapshotRecord task points (advance t s))

/-- A retentive word reaches the home copy and the place it lives in: MX flags or an instance word (R395, R401, R422). -/
def putRetentive (key : Nat) (v : Word) (s : State) : State :=
  let s1 := { s with ldg.home.words := s.ldg.home.words.set none key (some v) }
  if 2 ^ 40 ≤ key then
    let k := key - 2 ^ 40
    match placeOf s (k / 2 ^ 32) (k % 2 ^ 32) with
    | some q => setMirrorWord q.1 q.2 v (setDataWord q.1 q.2 v s1)
    | none => s1
  else setFlags key v s1

/-- PUBLISH_RECORD: the KEEPER's OUT_CRC is compared; a second one before this module has published the first is LAG. While
the copy is not complete the changed retentive words are taken (R395, R397, R399, R401). -/
def publishRecord (n scan : Nat) (crc : Word) (words : List (Nat × Word)) (s : State) : State :=
  if !pairRuns s || !isApprentice s then s
  else if !s.pair.aligned then
    if s.pair.identityOk then words.foldl (fun s w => putRetentive w.1 w.2 s) s else s
  else if (s.pair.theirCrc.get none n).isSome then outOfStep 1 { s with pair.theirCrc := [], pair.ourCrc := [] }
  else compareCrc n { s with pair.theirCrc := s.pair.theirCrc.set none n (some (scan, crc.toNat)) }

/-- PUBLISH_RECORD. -/
def execPublishRecord (t : Nat) (task : Fin 51) (scan : Dword) (crc : Word) (words : List (Nat × Word)) (s : State) : Result State :=
  .next (publishRecord task scan.toNat crc words (advance t s))

/-- PUB_STATE: the position of a publication (R355). -/
def execPubState (t : Nat) (pub : Fin 64) (stNum sqNum : Word) (curveMs : Nat) (s : State) : Result State :=
  let s := advance t s
  .next (if pairRuns s && isApprentice s then
      { s with pair.pubState := s.pair.pubState.set none pub (some { stNum := stNum.toNat, sqNum := sqNum.toNat, curveMs := curveMs, at0 := s.time.mono }) }
    else s)

/-- ACK: the APPRENTICE's OUT_CRC of a publish (R395, R399, R413). -/
def execAck (t : Nat) (task : Fin 51) (scan : Dword) (crc : Word) (s : State) : Result State :=
  let s := advance t s
  .next (if pairRuns s && isKeeper s then
      compareCrc task { s with
        pair.theirCrc := s.pair.theirCrc.set none task (some (scan.toNat, crc.toNat))
        pair.ackScan := if task = 0 then max s.pair.ackScan scan.toNat else s.pair.ackScan }
    else s)

/-! ### Forwarded commands (R395) -/

/-- PAIR_CFG's fields that belong to the pair (R416). -/
def pairFields (p : Bytes) (s : State) : State :=
  { s with pair.leaseQ := clamp 1 16 (field p 2 1 4), pair.takebackS := clamp 1 3600 (field p 4 2 60) }

/-- The effect of a forwarded command code on the receiving module. -/
def effectOf (code : Nat) : Option (Work → State → Reply × State) :=
  match code with
  | 0x0102 => some sysProfileSet
  | 0x0301 => some prgLoadBegin
  | 0x0302 => some prgLoadBlock
  | 0x0303 => some prgLoadEnd
  | 0x0304 => some prgMode
  | 0x0307 => some imgForce
  | 0x0308 => some taskCfg
  | 0x0401 => some editStage
  | 0x0402 => some editBlock
  | 0x0404 => some editAbort
  | 0x0702 => some gooseSubCfg
  | 0x0703 => some goosePubCfg
  | 0x0704 => some svSubCfg
  | 0x0801 => some ringCfg
  | 0x0802 => some ringStationCfg
  | 0x0A05 => some tblWrite
  | 0x0E01 => some updBegin
  | 0x0E02 => some updBlock
  | 0x0E03 => some updVerify
  | _ => none

/-- The identifier in a forwarded payload becomes this module's own (R175, R286, R542). -/
def ownId (s : State) (code : Nat) (p : Bytes) : Bytes :=
  if code = 0x0302 ∨ code = 0x0303 then putField p 0 (leBytes 2 (s.ps.loadId.getD 0))
  else if 0x0402 ≤ code ∧ code ≤ 0x0404 then putField p 0 (leBytes 2 s.edit.id)
  else if code = 0x0E02 ∨ code = 0x0E03 then putField p 0 (leBytes 2 s.upd.id) else p

/-- SWITCH_AT received before or after the commit decides S (R287). -/
def heldSwitch (s : State) : State :=
  if s.edit.state = 2 then { s with edit.switchScan := s.edit.switchAt.getD s.edit.switchScan } else s

/-- UPD_ACTIVATE at the APPRENTICE: phase 1, or the revert (R542, R543). -/
def apprenticeActivate (p : Bytes) (s : State) : State :=
  if field p 0 1 0 = 0 then (if s.upd.state = 2 then applyActivate (field p 2 2 10) { s with upd.phase := 1 } else s)
  else if s.upd.state = 3 ∨ s.upd.state = 4 then revertUpdate 8 s else s

/-- A forwarded command takes the effect that it has at a controller; no release follows from it on the APPRENTICE's own account
(R395, R396). -/
def runForwarded (c : FwdCmd) (s : State) : State :=
  match c.code with
  | 0x0901 => pairFields c.payload s
  | 0x0B02 =>
    { s with scan.bnd := s.scan.bnd ++ [.safConfirm (min 1 (field c.payload 0 1 1)) (field c.payload 1 1 0 % 2) (w32 (field c.payload 4 4 0)) 0] }
  | 0x0403 => heldSwitch (apprenticeCommit s)
  | 0x0E04 => apprenticeActivate c.payload s
  | 0x0E06 => if s.upd.state = 4 then confirmUpdate s else s
  | code => match effectOf code with
    | some f =>
      let s1 := (f { code := code, payload := ownId s code c.payload }
        { s with pair.role := .keeper, pair.state := 1, pair.shipping := false }).2
      heldSwitch { s1 with pair.role := s.pair.role, pair.state := s.pair.state }
    | none => s

/-- Commands whose effect waits for a BASE boundary, at which both modules apply them (R162, R395). -/
def waitsForScan (code : Nat) : Bool :=
  code = 0x0102 || code = 0x0304 || code = 0x0307 || code = 0x0308 || code = 0x0801 || code = 0x0802 || code = 0x0A05 || code = 0x0B02

/-- Forwarded commands of the scans before the one that begins take effect (R395). -/
def runDue (scan : Nat) (s : State) : State :=
  (s.pair.commands.filter fun c => decide (c.scan < scan)).foldl (fun s c => runForwarded c s)
    { s with pair.commands := s.pair.commands.filter fun c => decide (scan ≤ c.scan) }

/-- COMMAND_RECORD: from a partner whose identity has been checked (R40, R395). -/
def commandRecord (code : Nat) (p : Bytes) (scan : Nat) (s : State) : State :=
  let c : FwdCmd := { code := code, scan := scan, payload := p }
  if !pairRuns s || !isApprentice s || !s.pair.known then s
  else if waitsForScan code && decide (s.scan.mode = 2) && s.pair.aligned then { s with pair.commands := s.pair.commands ++ [c] }
  else runForwarded c s

/-- COMMAND_RECORD. -/
def execCommandRecord (t : Nat) (code : Half) (payload : Bytes) (scan : Dword) (s : State) : Result State :=
  .next (commandRecord code.toNat payload scan.toNat (advance t s))

/-! ### Alignment (R398, R401) -/

/-- A container passes the checks of its header, its signature and its hash (R533, R536). -/
def containerOk (kind : Nat) (h payload : Bytes) (s : State) : Bool :=
  headerOk kind payload.length h s && decide (sha384 payload = slice h 0x38 48)

/-- One of the KEEPER's epochs is applied to the program taken, none where it fails a check (R28, R401). -/
def takeEpoch (s : Option State) (c : Bytes × Bytes) : Option State :=
  s.bind fun s =>
    let e := epochFrom (prog s) (s.ps.epoch + 1) c.2
    if containerOk 2 c.1 c.2 s && closedOk (prog s) e && placementOk (prog s) e && decide (epochRule s c.2 e = 0) then
      some (setRules e.result.rules e.result.tiMap { s with
        ps.prog := some e.result, ps.epoch := s.ps.epoch + 1, ps.epochsSigned := s.ps.epochsSigned && ownerOk s c.1
        edit.applied := s.edit.applied ++ [epochRec e (prog s) (s.ps.epoch + 1)] })
    else none

/-- Step 2: the KEEPER's image with the epochs applied to it becomes this module's program, once each passes the checks of a load;
an update's image stays (R28, R401, R542). -/
def takeProgram (h payload : Bytes) (epochs : List (Bytes × Bytes)) (s : State) : State :=
  let p := { readImage (Config.imageOf payload) with imageId := hdrImageId h, len := payload.length, signed := ownerOk s h }
  if s.upd.phase = 2 ∧ s.upd.image.isSome then s
  else if !containerOk 1 h payload s || decide (brokenRule s p ≠ 0) || !partsFit p then { alignFails s with pair.cause := 4 }
  else
    match epochs.foldl takeEpoch (some (installImage p (stopProgram s))) with
    | some s1 => { loadRegions s1 with
        scan.tasks := (partition s1).tasks.foldl (fun (m : Tbl TaskRt) d => m.set {} d.num { layout := s1.ps.epoch }) [] }
    | none => { alignFails s with pair.cause := 4 }

/-- A word of instance data at its place in the partition in use (R22, R401). -/
def alignWord (region addr : Nat) (v : Word) (s : State) : State :=
  match placeOf s region addr with
  | some q => setMirrorWord q.1 q.2 v (setDataWord q.1 q.2 v s)
  | none => s

/-- ALIGN_BLOCK: what an aligning APPRENTICE takes; step 1 runs at both ends (R401). -/
def alignBlock (b : AlignBlk) (s : State) : State :=
  if !pairRuns s then s
  else match b with
    | .identity step d => if isKeeper s || decide (s.pair.state = 2) then takeIdentity step d s else s
    | _ =>
      if !isApprentice s || decide (s.pair.state ≠ 2) || !s.pair.identityOk || s.pair.aligned then s
      else match b with
        | .program h payload epochs => takeProgram h payload epochs s
        | .layout n e => s.setTask n { s.task n with layout := e }
        | .mirror r a data =>
          (List.range (data.length / 4)).foldl (fun s i => alignWord r (a + 4 * i) (w32 (hdrF data (4 * i) 4)) s) s
        | .image a v => setImg a v s
        | .retentive a v => putRetentive a v s
        | .confirm c => if c.all fun v => decide (v = checkOf (prog s)) then storeConfirm c s else s
        | .conn i x => { s with saf.conns := s.saf.conns.set {} i x }
        | .started m => { s with scan.startMono := m }
        | .identity .. => s

/-- ALIGN_BLOCK. -/
def execAlignBlock (t : Nat) (b : AlignBlk) (s : State) : Result State := .next (alignBlock b (advance t s))

/-- ALIGNMENT_COMPLETE: at the APPRENTICE, MONO and J are loaded and the program runs on shipped releases; the KEEPER ships from
now on (R398, R401). -/
def alignmentComplete (mono j : Nat) (s : State) : State :=
  if !pairRuns s || !s.pair.identityOk then s
  else if isKeeper s then
    if s.pair.state = 3 ∨ s.pair.lanes = 0#2 then s
    else { s with pair.shipping := true, pair.state := 2, pair.theirCrc := [], pair.ourCrc := [], pair.ackScan := 0 }
  else if s.pair.state ≠ 2 ∨ s.pair.aligned ∨ s.ps.prog.isNone then s
  else
    let s1 := panelInitial <| startProgram .kept { s with time.pairOffset := (mono : Int) - s.time.mono }
    { s1 with
      scan.scan := j, scan.startMono := s.scan.startMono, scan.tasks := s1.scan.tasks.mapVal {} fun _ r => { r with firstCycle := false }
      pair.aligned := true, pair.matched := 0, pair.shipped := [], pair.releases := [], pair.theirCrc := [], pair.ourCrc := []
      pair.commands := [], pair.lags := [] }

/-- ALIGNMENT_COMPLETE. -/
def execAlignmentComplete (t : Nat) (keeperMono : Nat) (j : Dword) (s : State) : Result State :=
  .next (alignmentComplete keeperMono j.toNat (advance t s))

/-- ALIGNMENT_RETRY: 1 s after a failed step, or after falling out of step, alignment starts from step 1; a suspect pair and a
module with a disqualifying fault do not (R400-R402). -/
def alignmentRetry (s : State) : State :=
  match s.pair.alignFailedAt with
  | none => s
  | some a =>
    if !pairRuns s || !isApprentice s || s.pair.suspect || s.power.disqualified || s.sup.storm
        || !passed s.now a (10 ^ 9)
        || decide (s.pair.lanes = 0#2) then s
    else
      { abandonAll s with
        pair.state := 2, pair.identityOk := false, pair.nonce := [], pair.aligned := false, pair.alignFailedAt := none, pair.matched := 0
        pair.shipped := [], pair.releases := [], pair.commands := [] }

/-- ALIGNMENT_RETRY. -/
def execAlignmentRetry (t : Nat) (s : State) : Result State := .next (alignmentRetry (advance t s))

/-! ### CONTROL records (R287, R395, R402, R413) -/

/-- HANDOVER_AT(S) at the APPRENTICE in step (R413). -/
def execHandoverAt (t : Nat) (scan : Dword) (s : State) : Result State :=
  let s := advance t s
  .next (if pairRuns s && isApprentice s && decide (s.pair.state = 3) then { s with pair.handover := some scan.toNat } else s)

/-- SWITCH_AT(S): the decision that both modules switch at S (R287). -/
def execSwitchAt (t : Nat) (scan : Dword) (s : State) : Result State :=
  let s := advance t s
  .next (if pairRuns s && isApprentice s && decide (s.edit.state = 1 ∨ s.edit.state = 2) then
      heldSwitch { s with edit.switchAt := some scan.toNat } else s)

/-- CONTROL_RECORD: presence mask, health report, or the finding of an OUT_CRC mismatch, which starts the test round here too
(R395, R402, R477). -/
def execControlRecord (t : Nat) (r : ControlRec) (s : State) : Result State :=
  let s := advance t s
  .next (if !pairRuns s then s
    else match r with
      | .presence m => { s with pair.partnerPresence := m }
      | .health b => claimFollow { s with pair.partnerReport := some b }
      | .editResult status check rule => if isKeeper s then partnerChecked status check rule s else s
      | .finding code => if code = 0x50 then { s with pair.testRound := true } else s)

/-! ### Pair commands (R416-R418) -/

/-- PAIR_CFG's answer (R416). -/
def pairEcho (s : State) (opts : Nat) : Bytes :=
  leBytes 1 s.pair.mode ++ leBytes 1 s.pair.pref ++ leBytes 1 s.pair.leaseQ ++ leBytes 1 opts ++ leBytes 2 s.pair.takebackS ++ zeros 2

/-- PAIR_CFG's effect and answer (R393, R402, R416). -/
def pairCfg (w : Work) (s : State) : Reply × State :=
  let p := w.payload
  let opts := field p 3 1 0
  let mode := if field p 0 1 0 = 1 then 1 else 0
  let fields := pairFields p s
  let changed := decide (fields.pair.leaseQ ≠ s.pair.leaseQ ∨ fields.pair.takebackS ≠ s.pair.takebackS)
  let s1 := if isApprentice s then s else forward 0x0901 p fields
  let s2 := { s1 with pair.mode := mode, pair.pref := min 63 (field p 1 1 0), pair.suspect := s.pair.suspect && decide (opts % 2 = 0) }
  if payloadBit p 3 7 then checked [(isStation s || inHoldup s, WRONG_STATE)] (.done DONE (pairEcho s 128), s) s
  else checked
    [((decide (mode = 1) && s.ps.prog.isSome && pairUnfit (prog s)) || isStation s || (isApprentice s && changed) || inHoldup s, WRONG_STATE)]
    (.done DONE (pairEcho s2 (opts % 2)), claimFollow s2) s

/-- PAIR_CFG (R416). -/
def execPairCfg (t : Nat) (mb : Fin 8) (s : State) : Result State := .next (runCommand t mb 0x0901 pairCfg s)

/-- Seconds in step, saturating (R417). -/
def inStepS (s : State) : Nat :=
  if s.pair.state = 3 then s.pair.inStepAt.elim 0 fun a => min (2 ^ 32 - 1) ((s.now - a) / 10 ^ 9) else 0

/-- PAIR_STATUS's answer (R417). -/
def pairStatus (_w : Work) (s : State) : Reply × State :=
  let role := match s.pair.role with
    | .keeper => 1 | .apprentice => 2 | _ => 0
  let flags := s.pair.lanes.toNat + 4 * bit s.pair.seedClash + 8 * bit s.pair.yield + 16 * bit (ringHeard s)
    + 32 * bit s.pair.handover.isSome
  let deduct := ((deductions s).zipIdx.map fun e => 2 ^ e.2 * bit (decide (e.1 ≠ 0))).sum
  let takeback := if isApprentice s && decide (s.pair.state = 3) then s.pair.takebackS - inStepS s else 0
  let lag := (s.pair.lags.filter fun e => decide (s.now < e.1 + 10 ^ 9)).foldl (fun m e => max m (e.2 / 1000)) 0
  (.done DONE (leBytes 1 role ++ leBytes 1 s.pair.state ++ leBytes 1 s.pair.cause ++ leBytes 1 flags
    ++ leBytes 2 (claimOf s).toNat ++ leBytes 2 (targetClaim s).toNat ++ leBytes 2 s.pair.partnerClaim.toNat ++ leBytes 2 deduct
    ++ leBytes 4 (inStepS s) ++ leBytes 4 takeback ++ leBytes 4 s.pair.mismatches ++ leBytes 4 s.pair.takeovers
    ++ leBytes 4 lag ++ leBytes 8 s.pair.lastScan ++ leBytes 8 s.pair.lastTai), s)

/-- PAIR_STATUS (R417). -/
def execPairStatus (t : Nat) (mb : Fin 8) (s : State) : Result State := .next (runCommand t mb 0x0902 pairStatus s)

/-- PAIR_SWITCH's effect and answer: OP 0 yields at the S that it schedules, and the response follows the switch (R415,
R418). -/
def pairSwitch (w : Work) (s : State) : Reply × State :=
  let op := if field w.payload 0 1 0 = 1 then 1 else 0
  let busy := s.pair.handover.isSome || decide (s.edit.state = 2 ∨ s.edit.state = 3) || updBusy s
  checked [(!isKeeper s || (decide (op = 0) && decide (s.pair.state ≠ 3)) || inHoldup s, WRONG_STATE), (busy, BUSY)]
    (if op = 0 then
       (.later, if decide (s.pair.noHandoverBefore ≤ s.now) then scheduleHandover { s with pair.yield := true } else { s with pair.yield := true })
     else (.done DONE (leBytes 1 1 ++ zeros 3 ++ leBytes 8 0), claimFollow { s with pair.yield := false })) s

/-- PAIR_SWITCH (R418). -/
def execPairSwitch (t : Nat) (mb : Fin 8) (s : State) : Result State := .next (runCommand t mb 0x0903 pairSwitch s)

end Sys2Proof.Machine
end

