-- ==== Sys2Proof/Machine/Cycle.lean ====
section
/-! DEFINITION. A task's cycle: periodic releases, the snapshot, barriers, the publish, the BASE overrun and the resume after
a retirement (R44, R142, R147-R174, R282-R285, R396-R400). Log entries 11, 16, 18. -/

namespace Sys2Proof.Machine

/-! ### Periodic releases (R147) -/

/-- PERIODIC_RELEASE: the grid passes one instant; the release counts from it, held back while PLL_SYS settles (R85, R147,
R149). -/
def periodicRelease (n : Nat) (s : State) : State :=
  match taskDecl s n with
  | none => s
  | some d =>
    let r := s.task n
    if !isPeriodicTask n || decide (s.scan.mode ≠ 2)
        || decide (taskMono s < 1000 * phaseUs s d + r.nextK * (1000 * periodUs s d)) then s
    else
      let s1 := s.setTask n { r with nextK := r.nextK + 1 }
      if s1.power.releaseHold then { s1 with power.heldReleases := s1.power.heldReleases ++ [n] }
      else releaseOwn n {} s1

/-- PERIODIC_RELEASE. -/
def execPeriodicRelease (t : Nat) (task : Fin 51) (s : State) : Result State := .next (periodicRelease task (advance t s))

/-! ### Snapshot (R152, R170) -/

/-- The image addresses of some ranges. -/
def addrsOf (rs : List Range) : List Nat := rs.flatMap fun r => (List.range (r.hi - r.lo)).map fun k => r.lo + k

/-- Pulse capture for one channel and task: the level shown, with the task's new record of the channel: a pulse since the last
snapshot shows the opposite level once, and the true level follows (R170). -/
def captureLevel (level : Nat) (r : TaskRt) (ch : Nat) : Nat × TaskRt :=
  let seen := r.capSeen.get 0 ch
  let shown (v keep rest : Nat) : Nat × TaskRt :=
    (v, { r with capLevel := r.capLevel.set 0 ch keep, capSeen := r.capSeen.set 0 ch rest })
  match r.capLevel.get 0 ch with
  | 0 => shown level (1 + level) 0
  | k + 1 =>
    if 2 ≤ k then shown level (1 + level) (if k - 2 = level ∧ seen = 3 then 3 else 0)
    else if k = level ∧ seen = 3 then shown (1 - level) (3 + level) 0
    else shown level (1 + level) 0

/-- The channel is under pulse capture and not forced (R170, R181, R297). -/
def captures (s : State) (a : Nat) : Bool :=
  decide (spaceOf a = 1 ∧ indexOf a < 64) && modeBit (chanCfg s (indexOf a)) 1 && hasSource s a && (forceOf s a).isNone

/-- One declared input enters the snapshot (R142, R144, R152, R170). -/
def snapPoint (s : State) (n : Nat) (r : TaskRt) (a : Nat) : TaskRt :=
  if spaceOf a = 7 then { r with snapSys := r.snapSys.set 0#32 a (sysPoint s n (indexOf a)) }
  else
    let c := if captures s a then captureLevel (bit (decide (imgVal s a ≠ 0#32))) r (indexOf a)
      else ((pointValue s a).toNat, r)
    { c.2 with snap := { val := c.2.snap.val.set 0#32 a (w32 c.1), q := c.2.snap.q.set 0#4 a (pointQuality s a) } }

/-- The snapshot of a module that releases on its own account, all points at one instant (R152). -/
def takeSnapshot (n : Nat) (d : TaskDecl) (s : State) : State :=
  let s1 := s.setTask n { s.task n with
    snapMono := taskMono s, snapTai := s.time.tai, snapQuality := quality s, snap := {}, snapSys := [] }
  s1.setTask n ((addrsOf d.inputs).foldl (fun r a => snapPoint s1 n r a) (s1.task n))

/-- A shipped point enters the snapshot (R396). -/
def shipPoint (r : TaskRt) (p : ImgPoint) : TaskRt :=
  if spaceOf p.addr = 7 then { r with
    snapSys := r.snapSys.set 0#32 p.addr p.val
    snapQuality := if p.addr = imgAddr 7 4119 then p.val.setWidth 8 else r.snapQuality }
  else { r with snap := { val := r.snap.val.set 0#32 p.addr p.val, q := r.snap.q.set 0#4 p.addr p.q } }

/-- The APPRENTICE's snapshot is the shipped one (R396). -/
def useShipped (n : Nat) (ps : List ImgPoint) (s : State) : State :=
  let s1 := s.setTask n (ps.foldl shipPoint { s.task n with snap := {}, snapSys := [], snapQuality := quality s })
  { s1 with pair.shipped := s1.pair.shipped.set none n none }

/-! ### Migration (R282-R284) -/

/-- Some words are stored in region data and noted as the cycle's changes (R156). -/
def putWords (n : Nat) (ws : List (Nat × Word)) (s : State) : State :=
  let s1 := ws.foldl (fun s w => setDataWord (w.1 / 2 ^ 32) (w.1 % 2 ^ 32) w.2 s) s
  let r := s1.task n
  s1.setTask n { r with dirty := (r.dirty ++ ws.map Prod.fst).dedup }

/-- The task's migration: where its mirror has an older layout than that of the epoch it runs under, the words of its new
instances are made from the mirror of its last publish (R282-R285). -/
def runMigration (n : Nat) (s : State) : State :=
  let r := s.task n
  match dueEpochs s n r.layout r.epoch with
  | [] => s
  | es => putWords n ((migrateAll (regionCount s) n (fun _ => mirrorWord s) es []).filterMap fun w => w.2.map fun v => (w.1, v)) s

/-! ### SNAPSHOT_COMPLETE -/

/-- What the KEEPER ships of a release: RELEASE with its instant and its cause, SNAPSHOT with every point (R395, R396). -/
def shipRelease (n : Nat) (s : State) : State :=
  let r := s.task n
  let src := if n = 50 then r.cause.trapTask else if n = 48 then r.cause.station else r.cause.evSeq
  let data := if n = 50 then r.cause.trapCause else r.cause.evData
  let points := (r.snap.val.map fun p => leBytes 4 p.1 ++ leBytes 4 p.2.toNat ++ leBytes 1 (r.snap.q.get 0#4 p.1).toNat).flatten
    ++ (r.snapSys.map fun p => leBytes 4 p.1 ++ leBytes 4 p.2.toNat ++ leBytes 1 0).flatten
  pairSend { kind := 2, num := n, scan := s.scan.scan, data := points }
    (pairSend { kind := 1, num := n, scan := s.scan.scan, value := r.snapMono
                data := leBytes 8 r.snapTai ++ leBytes 4 src ++ leBytes 4 data.toNat } s)

/-- The task's snapshot may be taken: it is released, and nothing holds the snapshot back (R85, R396). -/
def maySnapshot (n : Nat) (s : State) : Bool :=
  decide ((s.task n).state = .released) && mayRelease s n && !s.power.releaseHold
    && (!isApprentice s || (s.pair.shipped.get none n).isSome)

/-- The snapshot is complete and the first phase begins (R157). -/
def startCycle (n : Nat) (d : TaskDecl) (s : State) : State :=
  let s1 := svSnapshot n { s with scan.atBoundary := s.scan.atBoundary && decide (n ≠ 0) }
  let s2 := match isApprentice s1, s1.pair.shipped.get none n with
    | true, some ps => useShipped n ps s1
    | _, _ => shipRelease n (takeSnapshot n d s1)
  let s3 := s2.setTask n { s2.task n with
    state := .running, buf := [], dirty := [], ended := [], overrun := false, oldTables := none }
  beginPhase n 0 (runMigration n s3)

/-- SNAPSHOT_COMPLETE: before a BASE snapshot everything that waits for the boundary takes effect, a switch that is due and that
BASE's release waits for first (R152, R157, R162, R279). -/
def snapshotComplete (n : Nat) (s : State) : State :=
  let s := if n = 0 && switchDue s then epochSwitch s else s
  if !maySnapshot n s then s
  else
    let s1 := if n = 0 then flushBoundary (runDue s.scan.scan s) else s
    match taskDecl s1 n with
    | some d => if maySnapshot n s1 then startCycle n d s1 else s1
    | none => s1

/-- SNAPSHOT_COMPLETE. -/
def execSnapshotComplete (t : Nat) (task : Fin 51) (s : State) : Result State := .next (snapshotComplete task (advance t s))

/-! ### BARRIER_RELEASE (R157, R159) -/

/-- A bank runs a stripe of the task. -/
def onBank (n : Nat) (s : State) : Bool := s.eng.banks.any fun p => p.2.task = some n

/-- The barrier of a task's phase, once every engine taking part has executed it (R157). -/
def openBarrier (n : Nat) (d : TaskDecl) (s : State) : Option BarrierDecl :=
  let r := s.task n
  if r.state ≠ .running then none
  else d.barriers.find? fun b => b.phase = r.phase && !b.engines.isEmpty && b.engines.all r.arrived.contains

/-- A word changed in a phase goes to the other regions whose stripes of later phases read it (R159). -/
def crossWord (n : Nat) (d : TaskDecl) (phase : Nat) (s : State) (k : Nat) : State :=
  let region := k / 2 ^ 32
  let a := k % 2 ^ 32
  let readers := ((d.stripes.filter fun p => decide (phase < p.phase) && decide (p.region ≠ region) && inRanges p.rData a).map
    Stripe.region).dedup
  putWords n (readers.map fun q => (dataKey q a, dataWord s region a)) s

/-- BARRIER_RELEASE: what the phase changed is moved, and the next phase begins (R157, R159). -/
def barrierRelease (n : Nat) (s : State) : State :=
  match taskDecl s n with
  | none => s
  | some d => match openBarrier n d s with
    | none => s
    | some _ =>
      let r := s.task n
      beginPhase n (r.phase + 1) (r.phaseDirty.foldl (crossWord n d r.phase) s)

/-- BARRIER_RELEASE. -/
def execBarrierRelease (t : Nat) (task : Fin 51) (s : State) : Result State := .next (barrierRelease task (advance t s))

/-! ### TASK_PUBLISH (R153) -/

/-- The task's last stripe has ended: none runs, waits or has still to start, and no engine that has not ended the cycle holds
one of a later phase (R157, R237). -/
def cycleDone (n : Nat) (d : TaskDecl) (s : State) : Bool :=
  let r := s.task n
  decide (r.state = .running ∧ r.toStart = [] ∧ r.arrived = []) && !onBank n s
    && !(d.stripes.any fun p => decide (r.phase < p.phase) && !r.ended.contains (stripeEngine p))

/-- One buffered value enters the image; SX12 is the stop request (R142, R153, R165). -/
def putPoint (s : State) (p : Nat × Option Word) : State :=
  match p.2 with
  | none => s
  | some v =>
    if spaceOf p.1 = 7 then { s with scan.sx12 := v ≠ 0#32, scan.stopPending := s.scan.stopPending || decide (v ≠ 0#32) }
    else setImg p.1 v s

/-- A buffer enters the image, and the flags that it changes raise their events with one stamp (R106, R153, R265). -/
def putBuffer (buf : Tbl (Option Word)) (s : State) : State :=
  let s1 := buf.foldl putPoint s
  flagEvents id (fun i =>
    let a := imgAddr 6 i
    if (buf.get none a).isSome && decide (imgVal s a = 0#32) != decide (imgVal s1 a = 0#32) then some (decide (imgVal s1 a ≠ 0#32))
    else none) s1

/-- A declared output is transferred: its force, its channel's command with FRESH owed, its station's FRESH (R173, R181, R314,
R372). -/
def transfer (s : State) (a : Nat) : State :=
  let s1 := if spaceOf a = 2 ∨ spaceOf a = 5 then
      { s with scan.published := s.scan.published.set 0 a 1, scan.outForces := s.scan.outForces.set none a (forceOf s a) }
    else s
  let i := indexOf a
  if spaceOf a ≠ 2 then s1
  else if i < 64 then
    let c := s1.chan i
    if ownMode c.owner = 1 then s1
    else
      let v := some (decide (outValue s1 a ≠ 0#32))
      let s2 := s1.setChan i { c with qx := v, freshOwed := true }
      if c.qx = v then s2 else sendCmd i s2
  else if i < 64 + 62 * 512 ∧ (i - 64) % 512 < 64 then
    let n := (i - 64) / 512 + 1
    s1.setStation n { s1.station n with fresh := (s1.station n).fresh ||| (1#64 <<< ((i - 64) % 512)) }
  else s1

/-- The words of the image that a publish changed, in ascending image address (R399). -/
def changedWords (s : State) (buf : Tbl (Option Word)) : List Nat :=
  ((buf.filter fun p => spaceOf p.1 ≠ 7 && p.2.elim false fun v => decide (v ≠ imgVal s p.1)).map fun p =>
    if isWordPoint p.1 then p.1 else p.1 / 32 * 32).dedup

/-- The program that a task's cycle runs under (R161, R279). -/
def progFor (s : State) (n : Nat) : Prog :=
  if (s.task n).epoch = s.ps.epoch then prog s else s.ps.oldProg.getD (prog s)

/-- Home key of an instance word of the partition in use, by a program's places (R174, R422). -/
def homeKey (s : State) (p : Prog) (k : Nat) : Option Nat :=
  let region := k / 2 ^ 32
  let a := k % 2 ^ 32
  let place : Option (Nat × Nat) := if !s.power.threeRegion then some (region, a)
    else (p.instMap.find? fun m => m.region3 = region && decide (m.addr3 ≤ a ∧ a < m.addr3 + 4 * m.words)).map fun m =>
      (m.region4, m.addr4 + (a - m.addr3))
  (place.filter fun q => isRetentive p q.1 q.2).map fun q => instKey q.1 q.2

/-- The retentive words that a task's publish changed, as home key and value: MX words, then instance words, all of them where
their layout is new (R140, R166, R284, R422). -/
def retentiveWords (s : State) (n : Nat) (words : List Nat) : List (Nat × Word) :=
  let r := s.task n
  let p := progFor s n
  ((words.filter fun a => inRanges p.mxRetentive a).map fun a => (a, imgWord s a))
    ++ (r.dirty.insertionSort (· ≤ ·)).filterMap fun k => (homeKey s p k).bind fun h =>
      let v := dataWord s (k / 2 ^ 32) (k % 2 ^ 32)
      if v = mirrorWord s (k / 2 ^ 32) (k % 2 ^ 32) ∧ r.layout = r.epoch then none else some (h, v)

/-- OUT_CRC (R399). -/
def outCrc (s : State) (words : List Nat) (ret : List (Nat × Word)) : Word :=
  crc32c ((words.flatMap fun a => leBytes 4 a ++ leBytes 4 (imgWord s a).toNat)
    ++ ret.flatMap fun p => leBytes 4 p.1 ++ leBytes 4 p.2.toNat)

/-- The pair's part of a publish: PUBLISH from the KEEPER, ACK from the APPRENTICE, each with its OUT_CRC (R395, R399,
R400). -/
def pairPublish (n scan : Nat) (crc : Word) (ret : List (Nat × Word)) (s : State) : State :=
  let mine (s : State) : State := { s with pair.ourCrc := s.pair.ourCrc.set none n (some (scan, crc.toNat)) }
  if isKeeper s && s.pair.shipping then
    mine (pairSend { kind := 3, num := n, scan := scan, value := crc.toNat
                     data := ret.flatMap fun p => leBytes 8 p.1 ++ leBytes 4 p.2.toNat } s)
  else if isApprentice s then
    tryInStep (compareCrc n (mine (linkSend { kind := 5, num := n, scan := scan, value := crc.toNat } s)))
  else s

/-- The runtime state of a task after its publish; its cycle counts from the release, where its snapshot began (R142, R147,
R163, R164). -/
def afterPublish (now : Nat) (r : TaskRt) : TaskRt :=
  let us := (now - r.releasedAt) / 1000
  { noCycle r with
    firstCycle := false, layout := r.epoch, cycles := (r.cycles + 1) % 2 ^ 32, lastUs := us, maxUs := max r.maxUs us }

/-- The BASE boundary: SCAN increases and is kept, and what waits for it takes effect (R162, R395). -/
def baseBoundary (s : State) : State :=
  let s1 := { s with scan.scan := (s.scan.scan + 1) % 2 ^ 64, scan.atBoundary := true
                     ldg.scanKept := (s.scan.scan + 1) % 2 ^ 64 }
  applyBnd (runDue s1.scan.scan s1)

/-- The next release of the task after its publish (R147, R149, R396). -/
def afterRelease (n : Nat) (s : State) : State :=
  if isApprentice s then takeShipped n s
  else if mayRelease s n then releaseNext n s else s

/-- A finished cycle publishes: the buffer enters the image at one instant with the instance data, the outputs are
transferred, retentive words are journalled, the pair compares (R153, R156, R162, R166, R422). -/
def publishCycle (n : Nat) (d : TaskDecl) (s : State) : State :=
  let scan := s.scan.scan
  let m := mslRun n (s.task n).buf s
  let s1 := svPublish n m.2
  let buf := blockReleases d (svResults n m.1 s) s1
  let words := changedWords s1 buf
  let s2 := putBuffer buf s1
  let ret := retentiveWords s2 n words
  let s3 := (addrsOf d.outputs).foldl transfer (mirrorData (s2.task n).dirty s2)
  let s4 := if ret.isEmpty then s3 else
    journalAdd { scan := scan, task := n, epoch := (s.task n).epoch, pairs := ret, committed := true } s3
  let s5 := gooseOnPublish (s4.setTask n (afterPublish s4.time.mono (s4.task n)))
  let s6 := pairPublish n scan (outCrc s2 words ret) ret s5
  let s7 := if n = 0 then baseBoundary s6 else s6
  dispatch (liftHold (afterRelease n s7))

/-- TASK_PUBLISH. -/
def taskPublish (n : Nat) (s : State) : State :=
  match taskDecl s n with
  | none => s
  | some d => if cycleDone n d s then publishCycle n d s else s

/-- TASK_PUBLISH. -/
def execTaskPublish (t : Nat) (task : Fin 51) (s : State) : Result State := .next (taskPublish task (advance t s))

/-! ### BASE_OVERRUN (R163) -/

/-- BASE_OVERRUN: the running BASE cycle reaches BASE_MAX (R163, R490). -/
def baseOverrun (s : State) : State :=
  let r := s.task 0
  let us := (s.time.mono - r.releasedAt) / 1000
  if r.state ≠ .running ∨ r.overrun ∨ us < baseMaxUs s then s
  else
    let s1 := s.setTask 0 { r with overrun := true }
    let s2 := { s1 with scan.overruns := (s1.scan.overruns + 1) % 2 ^ 32 }
    releaseOwn 49 {} (logFault 8 0 (whr 4 0 0) (w32 us) (w32 (baseMaxUs s)) s2)

/-- BASE_OVERRUN. -/
def execBaseOverrun (t : Nat) (s : State) : Result State := .next (baseOverrun (advance t s))

/-! ### REMAP_RESUME (R44, R174) -/

/-- A word of the old instance mirror goes to its new place (R174). -/
def moveWord (s : State) (region addr : Nat) (v : Word) : State := setMirrorWord region addr v (setDataWord region addr v s)

/-- The places of a task's instances in the layout that its mirror has (R174, R288). -/
def movesOf (s : State) (n : Nat) : List InstMove :=
  (match dueEpochs s n (s.task n).layout s.ps.epoch with
    | [] => (prog s).instMap
    | e :: _ => e.oldMap).filter fun m => m.task = n

/-- Instance data goes to its places in the 3-region partition from the mirror of the partition that ran (R174, R288). -/
def moveInstances (was3 : Bool) (old : Tbl Memory) (s : State) : State :=
  if was3 then
    (List.range 3).foldl (fun s l =>
      let p := physRegion s l
      s.setRegion p { s.region p with data := (old.get [] l).map fun c => (c.1 - 0x10000000, c.2) })
      { s with scan.mirror := old }
  else ((List.range 51).flatMap (movesOf s)).foldl (fun s m => (List.range m.words).foldl (fun s i =>
    moveWord s m.region3 (m.addr3 + 4 * i) (Memory.readWord (old.get [] m.region4) (m.addr4 + 4 * i))) s) s

/-- Tasks start again from their next releases, each with FIRST_CYCLE; grids keep their phase (R142, R174). -/
def tasksAfterRemap (s : State) : State :=
  (partition s).tasks.foldl (fun s d =>
    let r := s.task d.num
    let k := gridK (1000 * phaseUs s d) (1000 * periodUs s d) (taskMono s)
    s.setTask d.num { r with firstCycle := true, nextK := if isPeriodicTask d.num then max r.nextK k else r.nextK }) s

/-- The worst cases of the 3-region partition do not fit the profile in force: a finding, and the module resumes (R49). -/
def remapTiming (s : State) : State :=
  if profileFits s s.power.profile then s
  else logFault 0x13 2 (whr 4 0 0) (w32 ((taskDecl s 0).elim 0 fun d => d.worstUs.getD s.power.profile 0)) (w32 (baseMaxUs s)) s

/-- A KEEPER that abdicated for the retirement rejoins as APPRENTICE (R44, R406); an APPRENTICE realigns too. -/
def rejoin (s : State) : State :=
  if isKeeper s then
    { s with pair.role := .apprentice, pair.state := 4, pair.cause := 5, pair.shipping := false, pair.alignFailedAt := some s.now
             power.abdicated := false, power.disqualified := false }
  else if isApprentice s then outOfStep 5 s else s

/-- REMAP_RESUME: the module resumes on the 3-region partition (R22, R44, R162, R165, R174, R483). -/
def remapResume (s : State) : State :=
  if !s.power.remapPending || s.power.failed then s
  else
    let old := s.scan.mirror
    let s1 := { s with power.threeRegion := true, power.remapPending := false }
    if s1.ps.prog.isNone then newPeriod { s1 with sup.tallyOn := true }
    else
      let s2 := tasksAfterRemap (moveInstances s.power.threeRegion old (loadRegions s1))
      let s3 := rejoin (remapTiming { s2 with
        scan.sx12 := false, scan.stopPending := false, sup.tallyOn := true
        scan.scan := if s2.scan.mode = 2 then (s2.ldg.scanKept + 1) % 2 ^ 64 else s2.scan.scan })
      dispatch (releaseOwn 0 {} (newPeriod s3))

/-- REMAP_RESUME. -/
def execRemapResume (t : Nat) (s : State) : Result State := .next (remapResume (advance t s))

end Sys2Proof.Machine
end

