-- ==== Sys2Proof/Machine/LoadStore.lean ====
section
/-! DEFINITION. The rows of the L class, loads, stores, stacks and instances (R234): each delivers its syllable to the active bank
of its engine. -/

namespace Sys2Proof.Machine

/-- LDB: the syllable is delivered to its engine; `opLdb` is what it does (R234). -/
def execLdb (b : Issue) (gd ga : BitVec 6) (imm : BitVec 10) (s : State) : Result State :=
  .next (deliverSyl b (encRRI 3 0x00 gd ga imm) s)

/-- LDBU: the syllable is delivered to its engine; `opLdbu` is what it does (R234). -/
def execLdbu (b : Issue) (gd ga : BitVec 6) (imm : BitVec 10) (s : State) : Result State :=
  .next (deliverSyl b (encRRI 3 0x01 gd ga imm) s)

/-- LDH: the syllable is delivered to its engine; `opLdh` is what it does (R234). -/
def execLdh (b : Issue) (gd ga : BitVec 6) (imm : BitVec 10) (s : State) : Result State :=
  .next (deliverSyl b (encRRI 3 0x02 gd ga imm) s)

/-- LDHU: the syllable is delivered to its engine; `opLdhu` is what it does (R234). -/
def execLdhu (b : Issue) (gd ga : BitVec 6) (imm : BitVec 10) (s : State) : Result State :=
  .next (deliverSyl b (encRRI 3 0x03 gd ga imm) s)

/-- LDW: the syllable is delivered to its engine; `opLdw` is what it does (R234). -/
def execLdw (b : Issue) (gd ga : BitVec 6) (imm : BitVec 10) (s : State) : Result State :=
  .next (deliverSyl b (encRRI 3 0x04 gd ga imm) s)

/-- LDD: the syllable is delivered to its engine; `opLdd` is what it does (R234). -/
def execLdd (b : Issue) (gd ga : BitVec 6) (imm : BitVec 10) (s : State) : Result State :=
  .next (deliverSyl b (encRRI 3 0x05 gd ga imm) s)

/-- STB: the syllable is delivered to its engine; `opStb` is what it does (R234). -/
def execStb (b : Issue) (gd ga : BitVec 6) (imm : BitVec 10) (s : State) : Result State :=
  .next (deliverSyl b (encRRI 3 0x08 gd ga imm) s)

/-- STH: the syllable is delivered to its engine; `opSth` is what it does (R234). -/
def execSth (b : Issue) (gd ga : BitVec 6) (imm : BitVec 10) (s : State) : Result State :=
  .next (deliverSyl b (encRRI 3 0x09 gd ga imm) s)

/-- STW: the syllable is delivered to its engine; `opStw` is what it does (R234). -/
def execStw (b : Issue) (gd ga : BitVec 6) (imm : BitVec 10) (s : State) : Result State :=
  .next (deliverSyl b (encRRI 3 0x0A gd ga imm) s)

/-- STD: the syllable is delivered to its engine; `opStd` is what it does (R234). -/
def execStd (b : Issue) (gd ga : BitVec 6) (imm : BitVec 10) (s : State) : Result State :=
  .next (deliverSyl b (encRRI 3 0x0B gd ga imm) s)

/-- LDWI: the syllable is delivered to its engine; `opLdwi` is what it does (R234). -/
def execLdwi (b : Issue) (gd : BitVec 6) (imm : BitVec 16) (s : State) : Result State :=
  .next (deliverSyl b (encRI 3 0x10 gd imm) s)

/-- LDDI: the syllable is delivered to its engine; `opLddi` is what it does (R234). -/
def execLddi (b : Issue) (gd : BitVec 6) (imm : BitVec 16) (s : State) : Result State :=
  .next (deliverSyl b (encRI 3 0x11 gd imm) s)

/-- STWI: the syllable is delivered to its engine; `opStwi` is what it does (R234). -/
def execStwi (b : Issue) (gd : BitVec 6) (imm : BitVec 16) (s : State) : Result State :=
  .next (deliverSyl b (encRI 3 0x12 gd imm) s)

/-- STDI: the syllable is delivered to its engine; `opStdi` is what it does (R234). -/
def execStdi (b : Issue) (gd : BitVec 6) (imm : BitVec 16) (s : State) : Result State :=
  .next (deliverSyl b (encRI 3 0x13 gd imm) s)

/-- ILD: the syllable is delivered to its engine; `opIld` is what it does (R234). -/
def execIld (b : Issue) (gd ga : BitVec 6) (imm : BitVec 10) (s : State) : Result State :=
  .next (deliverSyl b (encRRI 3 0x18 gd ga imm) s)

/-- ILDQ: the syllable is delivered to its engine; `opIldq` is what it does (R234). -/
def execIldq (b : Issue) (gd ga : BitVec 6) (imm : BitVec 10) (s : State) : Result State :=
  .next (deliverSyl b (encRRI 3 0x19 gd ga imm) s)

/-- IST: the syllable is delivered to its engine; `opIst` is what it does (R234). -/
def execIst (b : Issue) (gd ga : BitVec 6) (imm : BitVec 10) (s : State) : Result State :=
  .next (deliverSyl b (encRRI 3 0x1A gd ga imm) s)

/-- ILDW: the syllable is delivered to its engine; `opIldw` is what it does (R234). -/
def execIldw (b : Issue) (gd : BitVec 6) (space : BitVec 4) (index : BitVec 12) (s : State) : Result State :=
  .next (deliverSyl b (encBI 3 0x1C gd space index) s)

/-- ISTW: the syllable is delivered to its engine; `opIstw` is what it does (R234). -/
def execIstw (b : Issue) (gd : BitVec 6) (space : BitVec 4) (index : BitVec 12) (s : State) : Result State :=
  .next (deliverSyl b (encBI 3 0x1D gd space index) s)

/-- TLDB: the syllable is delivered to its engine; `opTldb` is what it does (R234). -/
def execTldb (b : Issue) (gd ga : BitVec 6) (imm : BitVec 10) (s : State) : Result State :=
  .next (deliverSyl b (encRRI 3 0x20 gd ga imm) s)

/-- TLDBU: the syllable is delivered to its engine; `opTldbu` is what it does (R234). -/
def execTldbu (b : Issue) (gd ga : BitVec 6) (imm : BitVec 10) (s : State) : Result State :=
  .next (deliverSyl b (encRRI 3 0x21 gd ga imm) s)

/-- TLDH: the syllable is delivered to its engine; `opTldh` is what it does (R234). -/
def execTldh (b : Issue) (gd ga : BitVec 6) (imm : BitVec 10) (s : State) : Result State :=
  .next (deliverSyl b (encRRI 3 0x22 gd ga imm) s)

/-- TLDHU: the syllable is delivered to its engine; `opTldhu` is what it does (R234). -/
def execTldhu (b : Issue) (gd ga : BitVec 6) (imm : BitVec 10) (s : State) : Result State :=
  .next (deliverSyl b (encRRI 3 0x23 gd ga imm) s)

/-- TLDW: the syllable is delivered to its engine; `opTldw` is what it does (R234). -/
def execTldw (b : Issue) (gd ga : BitVec 6) (imm : BitVec 10) (s : State) : Result State :=
  .next (deliverSyl b (encRRI 3 0x24 gd ga imm) s)

/-- TLDD: the syllable is delivered to its engine; `opTldd` is what it does (R234). -/
def execTldd (b : Issue) (gd ga : BitVec 6) (imm : BitVec 10) (s : State) : Result State :=
  .next (deliverSyl b (encRRI 3 0x25 gd ga imm) s)

/-- PUSH: the syllable is delivered to its engine; `opPush` is what it does (R234). -/
def execPush (b : Issue) (gd ga gb : BitVec 6) (sub : BitVec 4) (s : State) : Result State :=
  .next (deliverSyl b (encRRR 3 0x28 gd ga gb sub) s)

/-- POP: the syllable is delivered to its engine; `opPop` is what it does (R234). -/
def execPop (b : Issue) (gd ga gb : BitVec 6) (sub : BitVec 4) (s : State) : Result State :=
  .next (deliverSyl b (encRRR 3 0x29 gd ga gb sub) s)

/-- PUSHD: the syllable is delivered to its engine; `opPushd` is what it does (R234). -/
def execPushd (b : Issue) (gd ga gb : BitVec 6) (sub : BitVec 4) (s : State) : Result State :=
  .next (deliverSyl b (encRRR 3 0x2A gd ga gb sub) s)

/-- POPD: the syllable is delivered to its engine; `opPopd` is what it does (R234). -/
def execPopd (b : Issue) (gd ga gb : BitVec 6) (sub : BitVec 4) (s : State) : Result State :=
  .next (deliverSyl b (encRRR 3 0x2B gd ga gb sub) s)

/-- TON: the syllable is delivered to its engine; `opTon` is what it does (R234). -/
def execTon (b : Issue) (gd ga : BitVec 6) (imm : BitVec 10) (s : State) : Result State :=
  .next (deliverSyl b (encRRI 3 0x30 gd ga imm) s)

/-- TOF: the syllable is delivered to its engine; `opTof` is what it does (R234). -/
def execTof (b : Issue) (gd ga : BitVec 6) (imm : BitVec 10) (s : State) : Result State :=
  .next (deliverSyl b (encRRI 3 0x31 gd ga imm) s)

/-- TP: the syllable is delivered to its engine; `opTp` is what it does (R234). -/
def execTp (b : Issue) (gd ga : BitVec 6) (imm : BitVec 10) (s : State) : Result State :=
  .next (deliverSyl b (encRRI 3 0x32 gd ga imm) s)

/-- TACC: the syllable is delivered to its engine; `opTacc` is what it does (R234). -/
def execTacc (b : Issue) (gd ga : BitVec 6) (imm : BitVec 10) (s : State) : Result State :=
  .next (deliverSyl b (encRRI 3 0x33 gd ga imm) s)

/-- RTRIG: the syllable is delivered to its engine; `opRtrig` is what it does (R234). -/
def execRtrig (b : Issue) (gd ga : BitVec 6) (imm : BitVec 10) (s : State) : Result State :=
  .next (deliverSyl b (encRRI 3 0x34 gd ga imm) s)

/-- FTRIG: the syllable is delivered to its engine; `opFtrig` is what it does (R234). -/
def execFtrig (b : Issue) (gd ga : BitVec 6) (imm : BitVec 10) (s : State) : Result State :=
  .next (deliverSyl b (encRRI 3 0x35 gd ga imm) s)

/-- CTU: the syllable is delivered to its engine; `opCtu` is what it does (R234). -/
def execCtu (b : Issue) (gd ga : BitVec 6) (imm : BitVec 10) (s : State) : Result State :=
  .next (deliverSyl b (encRRI 3 0x36 gd ga imm) s)

/-- CTD: the syllable is delivered to its engine; `opCtd` is what it does (R234). -/
def execCtd (b : Issue) (gd ga : BitVec 6) (imm : BitVec 10) (s : State) : Result State :=
  .next (deliverSyl b (encRRI 3 0x37 gd ga imm) s)

/-- CTUD: the syllable is delivered to its engine; `opCtud` is what it does (R234). -/
def execCtud (b : Issue) (gd ga : BitVec 6) (imm : BitVec 10) (s : State) : Result State :=
  .next (deliverSyl b (encRRI 3 0x38 gd ga imm) s)

end Sys2Proof.Machine
end

