-- ==== Sys2Proof/Machine/MacUnit.lean ====
section
/-! DEFINITION. The rows of the M class, the MAC and DSP unit (R231, R250): each delivers its syllable to the active bank of its
engine. -/

namespace Sys2Proof.Machine

/-- MUL: the syllable is delivered to its engine; `opMul` is what it does (R231). -/
def execMul (b : Issue) (gd ga gb : BitVec 6) (sub : BitVec 4) (s : State) : Result State :=
  .next (deliverSyl b (encRRR 2 0x00 gd ga gb sub) s)

/-- MULH: the syllable is delivered to its engine; `opMulh` is what it does (R231). -/
def execMulh (b : Issue) (gd ga gb : BitVec 6) (sub : BitVec 4) (s : State) : Result State :=
  .next (deliverSyl b (encRRR 2 0x01 gd ga gb sub) s)

/-- MULHU: the syllable is delivered to its engine; `opMulhu` is what it does (R231). -/
def execMulhu (b : Issue) (gd ga gb : BitVec 6) (sub : BitVec 4) (s : State) : Result State :=
  .next (deliverSyl b (encRRR 2 0x02 gd ga gb sub) s)

/-- MULW: the syllable is delivered to its engine; `opMulw` is what it does (R231). -/
def execMulw (b : Issue) (gd ga gb : BitVec 6) (sub : BitVec 4) (s : State) : Result State :=
  .next (deliverSyl b (encRRR 2 0x03 gd ga gb sub) s)

/-- MAC: the syllable is delivered to its engine; `opMac` is what it does (R231). -/
def execMac (b : Issue) (gd ga gb : BitVec 6) (sub : BitVec 4) (s : State) : Result State :=
  .next (deliverSyl b (encRRR 2 0x04 gd ga gb sub) s)

/-- MACW: the syllable is delivered to its engine; `opMacw` is what it does (R231). -/
def execMacw (b : Issue) (gd ga gb : BitVec 6) (sub : BitVec 4) (s : State) : Result State :=
  .next (deliverSyl b (encRRR 2 0x05 gd ga gb sub) s)

/-- FADD: the syllable is delivered to its engine; `opFadd` is what it does (R231). -/
def execFadd (b : Issue) (gd ga gb : BitVec 6) (sub : BitVec 4) (s : State) : Result State :=
  .next (deliverSyl b (encRRR 2 0x10 gd ga gb sub) s)

/-- FSUB: the syllable is delivered to its engine; `opFsub` is what it does (R231). -/
def execFsub (b : Issue) (gd ga gb : BitVec 6) (sub : BitVec 4) (s : State) : Result State :=
  .next (deliverSyl b (encRRR 2 0x11 gd ga gb sub) s)

/-- FMUL: the syllable is delivered to its engine; `opFmul` is what it does (R231). -/
def execFmul (b : Issue) (gd ga gb : BitVec 6) (sub : BitVec 4) (s : State) : Result State :=
  .next (deliverSyl b (encRRR 2 0x12 gd ga gb sub) s)

/-- FMAC: the syllable is delivered to its engine; `opFmac` is what it does (R231). -/
def execFmac (b : Issue) (gd ga gb : BitVec 6) (sub : BitVec 4) (s : State) : Result State :=
  .next (deliverSyl b (encRRR 2 0x13 gd ga gb sub) s)

/-- FMSC: the syllable is delivered to its engine; `opFmsc` is what it does (R231). -/
def execFmsc (b : Issue) (gd ga gb : BitVec 6) (sub : BitVec 4) (s : State) : Result State :=
  .next (deliverSyl b (encRRR 2 0x14 gd ga gb sub) s)

/-- FMIN: the syllable is delivered to its engine; `opFmin` is what it does (R231). -/
def execFmin (b : Issue) (gd ga gb : BitVec 6) (sub : BitVec 4) (s : State) : Result State :=
  .next (deliverSyl b (encRRR 2 0x15 gd ga gb sub) s)

/-- FMAX: the syllable is delivered to its engine; `opFmax` is what it does (R231). -/
def execFmax (b : Issue) (gd ga gb : BitVec 6) (sub : BitVec 4) (s : State) : Result State :=
  .next (deliverSyl b (encRRR 2 0x16 gd ga gb sub) s)

/-- FSGN: the syllable is delivered to its engine; `opFsgn` is what it does (R231). -/
def execFsgn (b : Issue) (gd ga gb : BitVec 6) (sub : BitVec 4) (s : State) : Result State :=
  .next (deliverSyl b (encRRR 2 0x17 gd ga gb sub) s)

/-- FCMP: the syllable is delivered to its engine; `opFcmp` is what it does (R231). -/
def execFcmp (b : Issue) (gd ga gb : BitVec 6) (sub : BitVec 4) (s : State) : Result State :=
  .next (deliverSyl b (encRRR 2 0x18 gd ga gb sub) s)

/-- FCVT: the syllable is delivered to its engine; `opFcvt` is what it does (R231). -/
def execFcvt (b : Issue) (gd ga gb : BitVec 6) (sub : BitVec 4) (s : State) : Result State :=
  .next (deliverSyl b (encRRR 2 0x19 gd ga gb sub) s)

/-- MLD: the syllable is delivered to its engine; `opMld` is what it does (R231). -/
def execMld (b : Issue) (gd gb : BitVec 6) (agn : BitVec 2) (sub : BitVec 8) (s : State) : Result State :=
  .next (deliverSyl b (encAG 2 0x20 gd gb agn sub) s)

/-- MST: the syllable is delivered to its engine; `opMst` is what it does (R231). -/
def execMst (b : Issue) (gd gb : BitVec 6) (agn : BitVec 2) (sub : BitVec 8) (s : State) : Result State :=
  .next (deliverSyl b (encAG 2 0x21 gd gb agn sub) s)

/-- FMACA: the syllable is delivered to its engine; `opFmaca` is what it does (R231). -/
def execFmaca (b : Issue) (gd gb : BitVec 6) (agn : BitVec 2) (sub : BitVec 8) (s : State) : Result State :=
  .next (deliverSyl b (encAG 2 0x22 gd gb agn sub) s)

/-- FMAC2A: the syllable is delivered to its engine; `opFmac2a` is what it does (R231). -/
def execFmac2a (b : Issue) (gd gb : BitVec 6) (agn : BitVec 2) (sub : BitVec 8) (s : State) : Result State :=
  .next (deliverSyl b (encAG 2 0x23 gd gb agn sub) s)

/-- CMULA: the syllable is delivered to its engine; `opCmula` is what it does (R231). -/
def execCmula (b : Issue) (gd gb : BitVec 6) (agn : BitVec 2) (sub : BitVec 8) (s : State) : Result State :=
  .next (deliverSyl b (encAG 2 0x24 gd gb agn sub) s)

/-- AGSET: the syllable is delivered to its engine; `opAgset` is what it does (R231). -/
def execAgset (b : Issue) (gd gb : BitVec 6) (agn : BitVec 2) (sub : BitVec 8) (s : State) : Result State :=
  .next (deliverSyl b (encAG 2 0x28 gd gb agn sub) s)

/-- AGGET: the syllable is delivered to its engine; `opAgget` is what it does (R231). -/
def execAgget (b : Issue) (gd gb : BitVec 6) (agn : BitVec 2) (sub : BitVec 8) (s : State) : Result State :=
  .next (deliverSyl b (encAG 2 0x29 gd gb agn sub) s)

/-- FDIV: the syllable is delivered to its engine; `opFdiv` is what it does (R250). -/
def execFdiv (b : Issue) (gd ga gb : BitVec 6) (sub : BitVec 4) (s : State) : Result State :=
  .next (deliverSyl b (encRRR 2 0x1A gd ga gb sub) s)

/-- FSQRT: the syllable is delivered to its engine; `opFsqrt` is what it does (R250). -/
def execFsqrt (b : Issue) (gd ga gb : BitVec 6) (sub : BitVec 4) (s : State) : Result State :=
  .next (deliverSyl b (encRRR 2 0x1B gd ga gb sub) s)

end Sys2Proof.Machine
end

