-- ==== Sys2Proof/Machine/Start.lean ====
section
/-! DEFINITION. Start-up: what a start clears, the board configuration record, clocks, banks, regions, dies and Ledger,
then early service, full service and recovery (R22-R25, R37, R87, R93, R97, R173, R266, R391, R486, R522-R531, R538-R541,
R578). Log entry 22. -/

namespace Sys2Proof.Machine

/-! ### What a start clears -/

/-- A start that follows a loss of the logic rails or a HOLDUP. -/
def fromPower (k : Restart) : Bool := k = .power || k = .holdup

/-- Retired regions stay retired until the next power-up or SYS_RESTART (R23). -/
def keepsRetired (k : Restart) : Bool := k = .resetN || k = .trip || k = .moduleFailure

/-- Power flags of a start (R522). -/
def startPower (k : Restart) (env : StartEnv) (s : State) : Power :=
  { s.power with
    service := .booting, startReady := false, restart := none, tripUntil := none, restartAfterTakeover := none, failed := false
    disqualified := false, abdicated := false, slumberReq := false, slumberStep := 0, keptWake := .none, waking := false
    releaseHold := false
    heldReleases := [], remapPending := false, startStopped := false, recoveryWait := false, pwrGood := false
    holdupN := false, charging := decide (s.power.vholdMv < 1000 * s.power.vholdSet), hostQspi := env.hostQspi, vio33 := if k = .power then env.vio33 else s.power.vio33
    retired := if keepsRetired k then s.power.retired else 0#4, lastStart := k, bootAt := s.now }

/-- The timebase of a start: MONO from 0, TAI from the calendar, no source; the configuration is kept (R97, R113, R116). -/
def startTime (s : State) : Timebase :=
  { s.time with
    mono := 0, tai := calTai s, running := true, taiLoaded := false, src := [], active := 0, state := 0, offset := 0
    freqPpb := 0, gm := 0#64, ptpUtc := none, leap61 := false, leap59 := false, irigLeap := false, steps := 0
    lastStep := 0, ppsHighUntil := none, pairOffset := 0, slew := 0, frac := 0, masters := [], altOffset := none }

/-- The event controller of a start: the FIFO is empty and SEQ resumes at the later of its two values (R111, R578). -/
def startEvents (s : State) : Events :=
  { seqNext := if newerSeq (soeNext s) s.ev.seqNext then soeNext s else s.ev.seqNext
    soe := s.ev.soe, soeUnarchived := s.ev.soeUnarchived, archive := s.ev.archive }

/-- Scan execution of a start: TASK_CFG values are kept (R182). -/
def startScan (s : State) : Scan := { cfg := s.scan.cfg }

/-- An edit at a start: before its switch it ends ABORTED for power, after it DONE (R288). -/
def startEdit (s : State) : Edit :=
  match s.edit.state with
  | 1 | 2 => { s.edit with state := 5, cause := 3, asked := false, header := [], blocks := [], epoch := none, switchAt := none }
  | 3 => { s.edit with state := 4, epoch := none, switchAt := none }
  | _ => s.edit

/-- The logic side of a channel at a start: STALE until its die reports (R145, R173, R522). -/
def startChan (c : Channel) : Channel :=
  { c with
    qx := none, ruleCmd := none, freshOwed := false, lastCmd := none, stale := true, rx := false, loopFails := 0, lost := false
    reflexIn := false }

/-- The panel at a start; its configuration is kept (R340). -/
def startPanel (s : State) : Panel :=
  { populated := s.panel.populated, debounceMs := s.panel.debounceMs, stuckS := s.panel.stuckS, ledMa := s.panel.ledMa
    touchSens := s.panel.touchSens, cfgSet := s.panel.cfgSet, lrSameAt := some s.now }

/-- The ring at a start; its configuration, a station's active block and what left the module are kept (R384-R387). -/
def startRing (s : State) : Ring :=
  { topology := s.ring.topology, loss := s.ring.loss, units := s.ring.units, ringId := s.ring.ringId, actNs := s.ring.actNs
    cfgSet := s.ring.cfgSet, cfg := s.ring.cfg, active := s.ring.active, msgSeq := s.ring.msgSeq, sent := s.ring.sent
    delayReq := s.ring.delayReq, delayRsp := s.ring.delayRsp }

/-- The pair at a start: the configuration, PAIR_SUSPECT and the last change are kept (R402, R416, R417). -/
def startPair (s : State) : Pair :=
  { mode := s.pair.mode, pref := s.pair.pref, leaseQ := s.pair.leaseQ, takebackS := s.pair.takebackS, seed := s.pair.seed
    suspect := s.pair.suspect, mismatches := s.pair.mismatches, takeovers := s.pair.takeovers
    lastScan := s.pair.lastScan, lastTai := s.pair.lastTai, sent := s.pair.sent }

/-- Supervision at a start: logs, configuration and Tally's latches are kept; counts since power-up go at a power-up
(R477, R489, R492). -/
def startSup (k : Restart) (s : State) : Superv :=
  { s.sup with
    tallyOn := false, satisfied := 0#32, armed := 0#32, ready := 0#32, excused := 0#32, switchPeriods := 0, switchSlots := 0#32
    stewardOk := false, storm := false, runNow := false, testAt := [], report := none, reportSeq := 0, revoked := [], tripLatched := none
    ctr := if fromPower k then [] else s.sup.ctr, worst := if fromPower k then 0 else s.sup.worst
    early := if fromPower k then [] else s.sup.early, dups := if fromPower k then [] else s.sup.dups
    stewardRestarts := if fromPower k then 0 else s.sup.stewardRestarts }

/-- Sessions, debug and tokens end at a start (R505, R510, R511, R514). -/
def startSec (s : State) : Secure :=
  { s.sec with
    sessions := [], token := none, dbg := [], dbgWait := 0#2, extest := false, stewardHalted := false, erasing := false
    tapIr := 0xFF, tapRefused := false, boundary := [] }

/-- An update at a start: one that was being received or verified has FAILED (R541). A window that runs keeps what is left
of it, on a MONO that starts again at 0 (R97, R542). -/
def startUpd (s : State) : Update :=
  let u := { s.upd with trialEnd := s.upd.trialEnd.map fun e => e - s.time.mono }
  if s.upd.state = 1 ∨ s.upd.state = 2 then
    { u with state := 7, cause := 0, header := [], blocks := [], parts := [], image := none }
  else u

/-- The host port at a start (R556). -/
def startHost (s : State) : HostPort :=
  { nextWid := s.host.nextWid, perst := s.host.perst, usb := s.host.usb, hostMem := s.host.hostMem, msi := s.host.msi }

/-- Everything that lives in the logic die's SRAM and registers starts anew; MRAM, flash, the always-on domain and the field
dies keep what they hold (R31, R97, R173, R522). -/
def clearLogic (k : Restart) (env : StartEnv) (s : State) : State :=
  { s with
    power := startPower k env s
    time := startTime s
    ev := startEvents s
    img := {}
    scan := startScan s
    ps := { s.ps with loadId := none, header := [], blocks := [], oldProg := none
                      prog := if env.programBad then none else s.ps.prog }
    eng := { tables := s.eng.tables, fresh := s.eng.fresh }
    rime := {}
    edit := startEdit s
    fld := { s.fld with
      ch := s.fld.ch.mapVal {} fun _ c => startChan c
      dies := s.fld.dies.over {} (fun d x => { x with hold := false, lost := env.dieLost.getLsbD d || x.txLost }) [0, 1, 2, 3] }
    panel := startPanel s
    net := { mac := s.net.mac, sent := s.net.sent, hostSent := s.net.hostSent, supSent := s.net.supSent }
    ring := startRing s
    pair := startPair s
    ldg := { s.ldg with parts := [], tblStaged := [], opened := false }
    saf := { confirmed := s.saf.confirmed, confirmTai := s.saf.confirmTai }
    sup := startSup k s
    sec := startSec s
    upd := startUpd s
    host := startHost s }

/-! ### The board configuration record (R87, R524, R525) -/

/-- What is wrong with a BCR, in the codes of BCR_INVALID; none for a valid one (R490, R525). -/
def bcrFault : Option Bytes → Option Nat
  | none => some 0
  | some b =>
    if b.length ≠ 256 then some 0
    else if hdrF b 0 4 ≠ 0x31524342 then some 1
    else if hdrF b 4 2 ≠ 1 then some 2
    else if hdrF b 6 2 ≠ 256 then some 3
    else if w32 (hdrF b 0xFC 4) ≠ crc32c (b.take 0xFC) then some 4
    else none

/-- The record's fields, each clamped as it is read (R87, R524). -/
def bcrOf (b : Bytes) : Bcr :=
  let ka := hdrF b 0x20 1
  let kb := hdrF b 0x21 1
  let odd := decide (63 < ka) || decide (63 < kb) || decide (ka = kb)
  { valid := true, crc := w32 (hdrF b 0xFC 4), xmStart := clamp 1 128 (hdrF b 8 1), xsStart := clamp 1 30 (hdrF b 9 1)
    rbusDiv := clamp 1 2 (hdrF b 10 1), pbusDiv := clamp 10 20 (hdrF b 11 1), xmCl := clamp 6 20 (hdrF b 12 1)
    xsCl := clamp 6 12 (hdrF b 13 1), backupMode := if 2 < hdrF b 0x18 1 then 0 else hdrF b 0x18 1
    role := hdrF b 0x19 1, stationNo := hdrF b 0x1A 1
    recoveryPorts := if hdrF b 0x1B 1 = 0 then 3#8 else BitVec.ofNat 8 (hdrF b 0x1B 1)
    presKeyA := if odd then 56 else ka, presKeyB := if odd then 63 else kb }

/-- The defaults that the BCR supplies where no command has set the values (R62, R123, R340, R524). -/
def bcrDefaults (b : Bytes) (s : State) : State :=
  let s1 := if s.power.holdupCfgSet then s else
    { s with power.vholdSet := clamp 20 34 (hdrF b 0x10 1), power.chargeMa := clamp 50 400 (hdrF b 0x12 2) / 50 * 50
             power.cBoardUf := clamp 47 4700 (hdrF b 0x14 2) }
  let s2 := if s1.cal.backupSet then s1 else { s1 with cal.backupMode := s1.bcr.backupMode }
  if s2.panel.cfgSet then s2 else
    { s2 with
      panel.debounceMs := clamp 5 50 (hdrF b 0x22 1), panel.stuckS := clamp 10 255 (hdrF b 0x23 1)
      panel.ledMa := clamp 1 10 (hdrF b 0x24 1), panel.touchSens := clamp 2 50 (hdrF b 0x25 1)
      panel.populated := BitVec.ofNat 64 (hdrF b 0x28 8 ||| 2 ^ s2.bcr.presKeyA ||| 2 ^ s2.bcr.presKeyB) }

/-- The BCR of an invalid record: every default of R524, as bytes. -/
def defaultBcr : Bytes :=
  leBytes 4 0x31524342 ++ leBytes 2 1 ++ leBytes 2 256 ++ [8#8, 10#8, 1#8, 16#8, 12#8, 7#8, 0#8, 0#8]
    ++ leBytes 2 34 ++ leBytes 2 200 ++ leBytes 2 470 ++ leBytes 2 0 ++ [0#8, 0#8, 1#8, 3#8] ++ zeros 4
    ++ [56#8, 63#8, 20#8, 60#8, 5#8, 8#8] ++ zeros 2 ++ List.replicate 8 0xFF#8 ++ zeros 208

/-- Step 3: the BCR is read and checked; an invalid one leaves every default, with its finding (R522, R525). -/
def readBcr (env : StartEnv) (s : State) : State :=
  match bcrFault env.bcr with
  | none => let b := env.bcr.getD []; bcrDefaults b { s with bcr := bcrOf b }
  | some c =>
    bcrDefaults defaultBcr
      (logFault 0x74 2 (whr 4 0 0) (w32 c) 0#32 { s with bcr := { bcrOf defaultBcr with valid := false, crc := 0#32 } })

/-- The role that the BCR and PAIR_CFG give: a station, a pair member that joins or listens, or SOLO; Rime takes the rule set
of the image, a station that of its configuration (R266, R384, R385, R390, R416). -/
def startRole (s : State) : State :=
  if s.bcr.role = 1 then { s with pair.role := .station, rime := { set := (s.ring.active.getD {}).rules } }
  else { s with pair.role := if s.pair.mode = 1 then .apprentice else .solo
                rime := { set := (prog s).rules, tiMap := (prog s).tiMap } }

/-! ### Clocks (R89-R94) -/

/-- The clocks of a start: a monitor's switch ends, RC_FAST is READY, and XM and the PLLs are enabled (R89, R92, R522 steps 2 and
3). -/
def startClocks (s : State) : State :=
  setSlow (!s.clk.ready.getLsbD 2) (enableClocks [3, 4, 5] { s with
    clk.ready := (s.clk.ready &&& 5#6) ||| 2#6
    clk.sysRefRc := false, clk.xmFail := false, clk.switch := none, clk.monitorsOff := false, clk.pllNetRestarted := false
    clk.pllNetAt := none, clk.pllNetLinks := 0#6, clk.monitorSwitched := false
    clk.xsFail := s.clk.xsFail && !s.clk.ready.getLsbD 2 })

/-- XM is READY: its CLOCK_READY came, or XM_START has run out with no word of its failure (R89, R93). -/
def xmUp (s : State) : Bool := clkReady s 3 || sinceEnabled s 3 (s.bcr.xmStart * 500000)

/-- Step 8 of a start: XM is READY or is treated as failed, and the PLLs are locked (R93, R522). -/
def settleClocks (s : State) : State :=
  { s with clk.ready := s.clk.ready ||| (if s.clk.xmFail then 0x12#6 else 0x3A#6) }

/-! ### Banks (R528, R531, R538-R541) -/

/-- The bank of a number fails to verify (R539). -/
def bankBad (env : StartEnv) (n : Nat) : Bool := if n = 0 then env.bankABad else env.bankBBad

/-- The finding of the bank selection (R490). -/
def bankFinding (cause bank : Nat) (s : State) : State := logFault 0x75 2 (whr 4 0 0) (w32 cause) (w32 bank) s

/-- With both selector slots invalid the ROM starts bank A if it verifies, else bank B (R539). -/
def badSelector (env : StartEnv) (s : State) : State :=
  if env.selectorBad then
    let n := if env.bankABad then 1 else 0
    bankFinding 2 n { s with upd.active := n, upd.trial := false, upd.starts := 0, upd.trialEnd := none }
  else s

/-- A start in TRIAL: the second one reverts, and so does a bank that fails (R539-R541). -/
def trialStart (k : Restart) (env : StartEnv) (s : State) : State :=
  if !s.upd.trial then s
  else if s.upd.starts ≠ 0 then revertState (if k = .trip ∨ k = .moduleFailure then 6 else 5) s
  else if bankBad env s.upd.active then revertState 1 s
  else { s with upd.starts := 1 }

/-- The bank that starts: the selected one, else the other with its finding (R522, R539). -/
def selectBank (env : StartEnv) (s : State) : State :=
  let n := s.upd.active
  if bankBad env n && !bankBad env (1 - n) then bankFinding n (1 - n) { s with upd.active := 1 - n } else s

/-- Both banks fail: the recovery image is installed in bank A where it verifies (R531). -/
def bothBad (env : StartEnv) : Bool := env.bankABad && env.bankBBad

/-- The KIND 6 image of an update that starts for the first time comes into force (R178, R540). -/
def trialImage (s : State) : State :=
  match s.upd.image with
  | some p => if s.upd.trial ∧ s.upd.state = 3 then installImage p s else s
  | none => s

/-- A die that the update's first start loads: DIES names it (R537, R540 step 4). -/
def dieNamed (s : State) (n : Nat) : Bool := s.upd.trial && decide (s.upd.state = 3) && s.upd.parts.any (partAt (2 + n))

/-- Each field die named in DIES, and each whose firmware differs from the bank's, restarts its firmware (R540 step 4). -/
def loadDieFw (s : State) : State :=
  let load (n : Nat) (d : FieldDie) : FieldDie :=
    if d.powered ∧ (d.fw ≠ dieFw s n ∨ dieNamed s n) then
      { d with fw := dieFw s n, fwRestart := true, restarts := min (d.restarts + 1) 65535 } else d
  { s with fld.dies := s.fld.dies.over {} load [0, 1, 2, 3] }

/-- Steps 4 to 6: the banks. -/
def startBanks (k : Restart) (env : StartEnv) (s : State) : State :=
  let s1 := badSelector env s
  if bothBad env then
    let s2 := bankFinding 0 0 (bankFinding 1 0 (if s1.upd.trial then revertState 1 s1 else s1))
    if s2.sec.life ≠ .retired && env.recoveryOk then loadDieFw (installRecovery s2) else s2
  else loadDieFw (trialImage (selectBank env (trialStart k env s1)))

/-! ### Regions (R22-R25, R527) -/

/-- A region that fails self-test is retired (R23, R490). -/
def retireAtStart (s : State) (p : Nat) : State :=
  if s.power.retired.getLsbD p then s
  else logFault 6 2 (whr 2 p 0) 5#32 0#32 { s with power.retired := s.power.retired ||| (1#4 <<< p) }

/-- Two regions are retired. -/
def twoRetired (s : State) : Bool :=
  decide (2 ≤ ((List.range 4).filter fun p => s.power.retired.getLsbD p).length)

/-- The partition is chosen: the 3-region one where a region is retired or the image has no other (R22, R25, R527). -/
def startRegions (env : StartEnv) (s : State) : State :=
  let s1 := ((List.range 4).filter fun p => env.regionFail.getLsbD p).foldl retireAtStart s
  let three := decide (s1.power.retired ≠ 0#4) || !(prog s1).has4
  let s2 := { s1 with power.threeRegion := three }
  if twoRetired s2 then moduleFailure 6 s2
  else if s2.ps.prog.isSome && three && !(prog s2).has3 then
    moduleFailure 0x76 (logFault 0x76 2 (whr 4 0 0) 3#32 0#32 s2)
  else s2

/-! ### Dies, Ledger, program (R319, R323, R439, R522, R527) -/

/-- The saved count goes to a channel whose die lost power (R323). -/
def loadCount (ch : Nat) (s : State) : State :=
  let c := s.chan ch
  if counts c.cfg then chanFault ch 10 (s.setChan ch { c with count := s.fld.savedCounts.get 0#32 ch }) else s

/-- A die that reports takes its configuration; one that lost power takes its counts too (R319, R323). -/
def startDie (s : State) (n : Nat) : State :=
  let d := s.die n
  if d.lost then logFault 0x21 2 (whr 3 n 0) (w32 n) 0#32 s
  else if !d.powered then s
  else
    let s1 := configureDie n s
    if d.configured then s1 else (List.range 16).foldl (fun s i => loadCount (16 * n + i) s) s1

/-- Step 7: the Ledger opens; an MRAM that fails is a module-level failure, a flash die that fails leaves the fallback
(R33, R433, R439). -/
def startLedger (env : StartEnv) (s : State) : State :=
  if env.mramBad then moduleFailure 2 (logFault 2 3 (whr 3 1 0) 5#32 0#32 (count 1 1 s))
  else
    let s1 := openLedger { s with ldg.flashFailed := env.flashBad }
    loadConfirm (if env.flashBad then noteFallback s1 else s1)

/-- A module that is no station and holds no program reports it (R490, R527). -/
def noteNoProgram (env : StartEnv) (s : State) : State :=
  if isStation s || s.ps.prog.isSome then s
  else logFault 0x76 2 (whr 4 0 0) (if env.programBad then 1#32 else 0#32) 0#32 s

/-! ### Trips (R485, R486) -/

/-- The trip that the always-on domain latched is logged at the start (R485). -/
def logTrip (was : Option (Word × Nat)) (s : State) : State :=
  match was with
  | some (mask, kind) => logFault 0x10 3 (whr 4 0 0) mask (w32 kind) s
  | none => s

/-- Trips within 10 min of the newest. -/
def recentTrips (s : State) : Nat :=
  match s.sup.tripAt with
  | [] => 0
  | a :: _ => (s.sup.tripAt.filter fun b => decide (a ≤ b + 600 * 10 ^ 9)).length

/-- The start after a third trip within 10 min leaves the program STOPPED (R486). -/
def startStorm (k : Restart) (s : State) : State :=
  if k = .trip ∧ 3 ≤ recentTrips s then
    logFault 0x11 3 (whr 4 0 0) (w32 (recentTrips s)) 0#32 { s with sup.storm := true, power.startStopped := true }
  else s

/-! ### START_UP -/

/-- Early service begins in the RUN of a start: PWR_GOOD, the claim, Tally for Steward, EARLY rules (R266, R483, R522 step 5,
R526). -/
def beginEarly (s : State) : State :=
  let s1 := takeTarget { s with
    power.service := .early, power.pwrGood := true, rime.mode := 1, rime.sweepAt := s.now, panel.lrSameAt := some s.now, sup.tallyOn := true }
  noteState s (newPeriod (if isSolo s1 then claimChanged { s1 with pair.valid := true } else s1))

/-- RETIRED_HOLD (R529). -/
def enterRetiredHold (s : State) : State :=
  noteState s { s with power.service := .retiredHold, power.pwrGood := true, rime.mode := 0, pair.valid := false
                       clk.ready := s.clk.ready &&& 0x1F#6, scan.mode := 0 }

/-- Where the start leads: the recovery ROM, RETIRED_HOLD, a wait for a gesture, or early service (R528, R529, R531). -/
def chooseService (k : Restart) (env : StartEnv) (s : State) : State :=
  let open2 := s.sec.life = .blank || s.sec.life = .commission
  if s.power.restart.isSome then s
  else if bothBad env && decide (s.sec.life = .retired) then enterRetiredHold s
  else if (bothBad env && !env.recoveryOk) || decide (k = .recovery) || (env.recoveryLow && open2) then
    enterRecovery (beginEarly s)
  else { s with power.startReady := true, power.recoveryWait := env.recoveryLow && decide (s.sec.life = .sealed) }

/-- The scan-written flags take the image's initial values, beside the EARLY rules that read them (R141, R522 step 4). -/
def loadFlags (s : State) : State :=
  { s with img.val := (prog s).init.foldl (fun m e =>
      if spaceOf e.1 = 6 ∧ taskWrites s e.1 then m.set 0#32 e.1 e.2 else m) s.img.val }

/-- A restart ends the sessions, each with its audit entry; those that the loss of the logic rails ended leave none (R505,
R515; log entry 56). -/
def sessionsEnd (k : Restart) (s : State) : State := if fromPower k then s else endSessions s.sec.sessions s

/-- The start-up table, from step 2 on. -/
def startTable (k : Restart) (env : StartEnv) (s : State) : State :=
  let first := s.ldg.boot = 0 && s.time.timeLost
  let s1 := startRole (readBcr env (clearLogic k env (releaseForces (sessionsEnd k s))))
  let s2 := logTrip s.sup.tripLatched (if first then latchTimeLost 1 s1 else s1)
  let s3 := loadFlags (startStorm k (startRegions env (startBanks k env (startClocks s2))))
  let s4 := startLedger env ((List.range 4).foldl startDie s3)
  chooseService k env (noteNoProgram env s4)

/-- START_UP: the start that is due runs, with RESET_N released and RC_FAST in tolerance, at a KEEPER that tripped after its lease;
a restart that waited for a takeover which never came goes down first (R83, R94, R522, R523). -/
def startUp (env : StartEnv) (s : State) : State :=
  if s.power.state ≠ .run || s.power.resetLow || s.clk.rcHold || s.power.tripUntil.elim false (fun a => decide (s.now < a)) then s
  else match s.power.restart, s.power.restartAfterTakeover with
    | some k, _ => startTable k env s
    | none, some k => startTable k env (goDown k s)
    | none, none => s

/-- START_UP. -/
def execStartUp (t : Nat) (env : StartEnv) (s : State) : Result State := .next (startUp env (advance t s))

/-- EARLY_SERVICE_START (R522 step 5, R526). -/
def execEarlyServiceStart (t : Nat) (s : State) : Result State :=
  let s := advance t s
  .next (if s.power.state = .run && s.power.service = .booting && s.power.startReady && !s.power.recoveryWait
    then beginEarly s else s)

/-- RECOVERY_GESTURE_TIMEOUT: 60 s without the gesture, and start-up goes on (R528). -/
def execRecoveryGestureTimeout (t : Nat) (s : State) : Result State :=
  let s := advance t s
  .next (if s.power.recoveryWait && passed s.now s.power.bootAt (60 * 10 ^ 9) then
      { s with power.recoveryWait := false, panel.presHold := none } else s)

/-! ### Full service -/

/-- How the stored program starts: after a COLD restart from initial values, else with retentive data restored, an update's image
among them, as REPLACE starts it (R173, R178, R540). -/
def firstProgram (s : State) : State :=
  if s.power.lastStart = .cold then startProgram .cold s
  else startProgram .restore s

/-- The program's part of full service: none, or started, or left STOPPED after a TALLY_STORM; a pair member listens first
(R266, R391, R486, R527). -/
def fullProgram (s : State) : State :=
  let s1 := if isApprentice s then
      (if s.power.startStopped then { s with pair.state := 4 } else { s with pair.state := 1, pair.listenAt := some s.now })
    else s
  if isStation s then { s with rime.mode := 2, rime.sweepAt := s.now }
  else if s.ps.prog.isNone then holdAll { s1 with rime.mode := 0, scan.mode := 0 }
  else if s1.power.startStopped then stopProgram (firstProgram s1) else panelInitial (firstProgram s1)

/-- An update's trial begins with full service (R540 step 5, R542). -/
def fullTrial (s : State) : State :=
  if s.upd.trial ∧ s.upd.state = 3 then
    { s with upd.state := 4, upd.phase := if isApprentice s ∧ s.upd.phase = 1 then 2 else s.upd.phase
             upd.trialEnd := some (s.upd.trialEnd.getD (s.time.mono + s.upd.trialS * 10 ^ 9)) }
  else s

/-- FULL_SERVICE_START: with XM READY or failed, TAI from the calendar, early records to the SOE log, the program, Tally's first
full period, attaches that waited (R97, R109, R483, R511, R522 step 10, R527). -/
def fullServiceStart (s : State) : State :=
  if s.power.state ≠ .run || s.power.service ≠ .early || !(xmUp s || s.clk.xmFail) then s
  else
    let s1 := soeDrain { settleClocks s with
      power.service := .full, power.startReady := false, time.tai := calTai s, time.taiLoaded := true }
    let s2 := newPeriod { fullTrial (trackPresence s.now (fullProgram s1)) with sup.tallyOn := true }
    noteState s (attachWaiting s2)

/-- FULL_SERVICE_START. -/
def execFullServiceStart (t : Nat) (s : State) : Result State := .next (fullServiceStart (advance t s))

end Sys2Proof.Machine
end

