-- ==== Sys2Proof/Machine/WordAlu.lean ====
section
/-! DEFINITION. The rows of the A class, the word ALU (R229): each delivers its syllable to the active bank of its engine. -/

namespace Sys2Proof.Machine

/-- ADD: the syllable is delivered to its engine; `opAdd` is what it does (R229). -/
def execAdd (b : Issue) (gd ga gb : BitVec 6) (sub : BitVec 4) (s : State) : Result State :=
  .next (deliverSyl b (encRRR 1 0x00 gd ga gb sub) s)

/-- SUB: the syllable is delivered to its engine; `opSub` is what it does (R229). -/
def execSub (b : Issue) (gd ga gb : BitVec 6) (sub : BitVec 4) (s : State) : Result State :=
  .next (deliverSyl b (encRRR 1 0x01 gd ga gb sub) s)

/-- ADDI: the syllable is delivered to its engine; `opAddi` is what it does (R229). -/
def execAddi (b : Issue) (gd ga : BitVec 6) (imm : BitVec 10) (s : State) : Result State :=
  .next (deliverSyl b (encRRI 1 0x02 gd ga imm) s)

/-- AND: the syllable is delivered to its engine; `opAnd` is what it does (R229). -/
def execAnd (b : Issue) (gd ga gb : BitVec 6) (sub : BitVec 4) (s : State) : Result State :=
  .next (deliverSyl b (encRRR 1 0x03 gd ga gb sub) s)

/-- OR: the syllable is delivered to its engine; `opOr` is what it does (R229). -/
def execOr (b : Issue) (gd ga gb : BitVec 6) (sub : BitVec 4) (s : State) : Result State :=
  .next (deliverSyl b (encRRR 1 0x04 gd ga gb sub) s)

/-- XOR: the syllable is delivered to its engine; `opXor` is what it does (R229). -/
def execXor (b : Issue) (gd ga gb : BitVec 6) (sub : BitVec 4) (s : State) : Result State :=
  .next (deliverSyl b (encRRR 1 0x05 gd ga gb sub) s)

/-- ANDI: the syllable is delivered to its engine; `opAndi` is what it does (R229). -/
def execAndi (b : Issue) (gd ga : BitVec 6) (imm : BitVec 10) (s : State) : Result State :=
  .next (deliverSyl b (encRRI 1 0x06 gd ga imm) s)

/-- ORI: the syllable is delivered to its engine; `opOri` is what it does (R229). -/
def execOri (b : Issue) (gd ga : BitVec 6) (imm : BitVec 10) (s : State) : Result State :=
  .next (deliverSyl b (encRRI 1 0x07 gd ga imm) s)

/-- XORI: the syllable is delivered to its engine; `opXori` is what it does (R229). -/
def execXori (b : Issue) (gd ga : BitVec 6) (imm : BitVec 10) (s : State) : Result State :=
  .next (deliverSyl b (encRRI 1 0x08 gd ga imm) s)

/-- SHL: the syllable is delivered to its engine; `opShl` is what it does (R229). -/
def execShl (b : Issue) (gd ga gb : BitVec 6) (sub : BitVec 4) (s : State) : Result State :=
  .next (deliverSyl b (encRRR 1 0x09 gd ga gb sub) s)

/-- SHR: the syllable is delivered to its engine; `opShr` is what it does (R229). -/
def execShr (b : Issue) (gd ga gb : BitVec 6) (sub : BitVec 4) (s : State) : Result State :=
  .next (deliverSyl b (encRRR 1 0x0A gd ga gb sub) s)

/-- SAR: the syllable is delivered to its engine; `opSar` is what it does (R229). -/
def execSar (b : Issue) (gd ga gb : BitVec 6) (sub : BitVec 4) (s : State) : Result State :=
  .next (deliverSyl b (encRRR 1 0x0B gd ga gb sub) s)

/-- SHLI: the syllable is delivered to its engine; `opShli` is what it does (R229). -/
def execShli (b : Issue) (gd ga : BitVec 6) (imm : BitVec 10) (s : State) : Result State :=
  .next (deliverSyl b (encRRI 1 0x0C gd ga imm) s)

/-- SHRI: the syllable is delivered to its engine; `opShri` is what it does (R229). -/
def execShri (b : Issue) (gd ga : BitVec 6) (imm : BitVec 10) (s : State) : Result State :=
  .next (deliverSyl b (encRRI 1 0x0D gd ga imm) s)

/-- SARI: the syllable is delivered to its engine; `opSari` is what it does (R229). -/
def execSari (b : Issue) (gd ga : BitVec 6) (imm : BitVec 10) (s : State) : Result State :=
  .next (deliverSyl b (encRRI 1 0x0E gd ga imm) s)

/-- MIN: the syllable is delivered to its engine; `opMin` is what it does (R229). -/
def execMin (b : Issue) (gd ga gb : BitVec 6) (sub : BitVec 4) (s : State) : Result State :=
  .next (deliverSyl b (encRRR 1 0x0F gd ga gb sub) s)

/-- MAX: the syllable is delivered to its engine; `opMax` is what it does (R229). -/
def execMax (b : Issue) (gd ga gb : BitVec 6) (sub : BitVec 4) (s : State) : Result State :=
  .next (deliverSyl b (encRRR 1 0x10 gd ga gb sub) s)

/-- MINU: the syllable is delivered to its engine; `opMinu` is what it does (R229). -/
def execMinu (b : Issue) (gd ga gb : BitVec 6) (sub : BitVec 4) (s : State) : Result State :=
  .next (deliverSyl b (encRRR 1 0x11 gd ga gb sub) s)

/-- MAXU: the syllable is delivered to its engine; `opMaxu` is what it does (R229). -/
def execMaxu (b : Issue) (gd ga gb : BitVec 6) (sub : BitVec 4) (s : State) : Result State :=
  .next (deliverSyl b (encRRR 1 0x12 gd ga gb sub) s)

/-- CMPEQ: the syllable is delivered to its engine; `opCmpeq` is what it does (R229). -/
def execCmpeq (b : Issue) (gd ga gb : BitVec 6) (sub : BitVec 4) (s : State) : Result State :=
  .next (deliverSyl b (encRRR 1 0x13 gd ga gb sub) s)

/-- CMPNE: the syllable is delivered to its engine; `opCmpne` is what it does (R229). -/
def execCmpne (b : Issue) (gd ga gb : BitVec 6) (sub : BitVec 4) (s : State) : Result State :=
  .next (deliverSyl b (encRRR 1 0x14 gd ga gb sub) s)

/-- CMPLT: the syllable is delivered to its engine; `opCmplt` is what it does (R229). -/
def execCmplt (b : Issue) (gd ga gb : BitVec 6) (sub : BitVec 4) (s : State) : Result State :=
  .next (deliverSyl b (encRRR 1 0x15 gd ga gb sub) s)

/-- CMPLTU: the syllable is delivered to its engine; `opCmpltu` is what it does (R229). -/
def execCmpltu (b : Issue) (gd ga gb : BitVec 6) (sub : BitVec 4) (s : State) : Result State :=
  .next (deliverSyl b (encRRR 1 0x16 gd ga gb sub) s)

/-- CMPLE: the syllable is delivered to its engine; `opCmple` is what it does (R229). -/
def execCmple (b : Issue) (gd ga gb : BitVec 6) (sub : BitVec 4) (s : State) : Result State :=
  .next (deliverSyl b (encRRR 1 0x17 gd ga gb sub) s)

/-- CMPLEU: the syllable is delivered to its engine; `opCmpleu` is what it does (R229). -/
def execCmpleu (b : Issue) (gd ga gb : BitVec 6) (sub : BitVec 4) (s : State) : Result State :=
  .next (deliverSyl b (encRRR 1 0x18 gd ga gb sub) s)

/-- CMPEQI: the syllable is delivered to its engine; `opCmpeqi` is what it does (R229). -/
def execCmpeqi (b : Issue) (gd ga : BitVec 6) (imm : BitVec 10) (s : State) : Result State :=
  .next (deliverSyl b (encRRI 1 0x19 gd ga imm) s)

/-- CMPLTI: the syllable is delivered to its engine; `opCmplti` is what it does (R229). -/
def execCmplti (b : Issue) (gd ga : BitVec 6) (imm : BitVec 10) (s : State) : Result State :=
  .next (deliverSyl b (encRRI 1 0x1A gd ga imm) s)

/-- CMPLTUI: the syllable is delivered to its engine; `opCmpltui` is what it does (R229). -/
def execCmpltui (b : Issue) (gd ga : BitVec 6) (imm : BitVec 10) (s : State) : Result State :=
  .next (deliverSyl b (encRRI 1 0x1B gd ga imm) s)

/-- CARRY: the syllable is delivered to its engine; `opCarry` is what it does (R229). -/
def execCarry (b : Issue) (gd ga gb : BitVec 6) (sub : BitVec 4) (s : State) : Result State :=
  .next (deliverSyl b (encRRR 1 0x1C gd ga gb sub) s)

/-- BORROW: the syllable is delivered to its engine; `opBorrow` is what it does (R229). -/
def execBorrow (b : Issue) (gd ga gb : BitVec 6) (sub : BitVec 4) (s : State) : Result State :=
  .next (deliverSyl b (encRRR 1 0x1D gd ga gb sub) s)

/-- ADDS: the syllable is delivered to its engine; `opAdds` is what it does (R229). -/
def execAdds (b : Issue) (gd ga gb : BitVec 6) (sub : BitVec 4) (s : State) : Result State :=
  .next (deliverSyl b (encRRR 1 0x1E gd ga gb sub) s)

/-- SUBS: the syllable is delivered to its engine; `opSubs` is what it does (R229). -/
def execSubs (b : Issue) (gd ga gb : BitVec 6) (sub : BitVec 4) (s : State) : Result State :=
  .next (deliverSyl b (encRRR 1 0x1F gd ga gb sub) s)

/-- LI: the syllable is delivered to its engine; `opLi` is what it does (R229). -/
def execLi (b : Issue) (gd : BitVec 6) (imm : BitVec 16) (s : State) : Result State :=
  .next (deliverSyl b (encRI 1 0x20 gd imm) s)

/-- EXT: the syllable is delivered to its engine; `opExt` is what it does (R229). -/
def execExt (b : Issue) (gd ga gb : BitVec 6) (sub : BitVec 4) (s : State) : Result State :=
  .next (deliverSyl b (encRRR 1 0x21 gd ga gb sub) s)

/-- CLZ: the syllable is delivered to its engine; `opClz` is what it does (R229). -/
def execClz (b : Issue) (gd ga gb : BitVec 6) (sub : BitVec 4) (s : State) : Result State :=
  .next (deliverSyl b (encRRR 1 0x22 gd ga gb sub) s)

/-- POPC: the syllable is delivered to its engine; `opPopc` is what it does (R229). -/
def execPopc (b : Issue) (gd ga gb : BitVec 6) (sub : BitVec 4) (s : State) : Result State :=
  .next (deliverSyl b (encRRR 1 0x23 gd ga gb sub) s)

/-- ADD64: the syllable is delivered to its engine; `opAdd64` is what it does (R229). -/
def execAdd64 (b : Issue) (gd ga gb : BitVec 6) (sub : BitVec 4) (s : State) : Result State :=
  .next (deliverSyl b (encRRR 1 0x24 gd ga gb sub) s)

/-- SUB64: the syllable is delivered to its engine; `opSub64` is what it does (R229). -/
def execSub64 (b : Issue) (gd ga gb : BitVec 6) (sub : BitVec 4) (s : State) : Result State :=
  .next (deliverSyl b (encRRR 1 0x25 gd ga gb sub) s)

/-- CMPLTU64: the syllable is delivered to its engine; `opCmpltu64` is what it does (R229). -/
def execCmpltu64 (b : Issue) (gd ga gb : BitVec 6) (sub : BitVec 4) (s : State) : Result State :=
  .next (deliverSyl b (encRRR 1 0x26 gd ga gb sub) s)

/-- CMPLT64: the syllable is delivered to its engine; `opCmplt64` is what it does (R229). -/
def execCmplt64 (b : Issue) (gd ga gb : BitVec 6) (sub : BitVec 4) (s : State) : Result State :=
  .next (deliverSyl b (encRRR 1 0x27 gd ga gb sub) s)

/-- DIV: the syllable is delivered to its engine; `opDiv` is what it does (R229). -/
def execDiv (b : Issue) (gd ga gb : BitVec 6) (sub : BitVec 4) (s : State) : Result State :=
  .next (deliverSyl b (encRRR 1 0x28 gd ga gb sub) s)

/-- DIVU: the syllable is delivered to its engine; `opDivu` is what it does (R229). -/
def execDivu (b : Issue) (gd ga gb : BitVec 6) (sub : BitVec 4) (s : State) : Result State :=
  .next (deliverSyl b (encRRR 1 0x29 gd ga gb sub) s)

/-- REM: the syllable is delivered to its engine; `opRem` is what it does (R229). -/
def execRem (b : Issue) (gd ga gb : BitVec 6) (sub : BitVec 4) (s : State) : Result State :=
  .next (deliverSyl b (encRRR 1 0x2A gd ga gb sub) s)

/-- REMU: the syllable is delivered to its engine; `opRemu` is what it does (R229). -/
def execRemu (b : Issue) (gd ga gb : BitVec 6) (sub : BitVec 4) (s : State) : Result State :=
  .next (deliverSyl b (encRRR 1 0x2B gd ga gb sub) s)

end Sys2Proof.Machine
end

