-- ==== Sys2Proof/Machine/Dispatch.lean ====
section
/-! DEFINITION. The dispatch: one arm per command, each one direct call of its meaning. -/

namespace Sys2Proof.Machine

def exec (i : Instr) (s : State) : Host.Outcome State Fault Refusal :=
  match i with
  | .vinGood t vinMv => Sys2Proof.Machine.execVinGood t vinMv s
  | .vinFall t vinMv => Sys2Proof.Machine.execVinFall t vinMv s
  | .holdupEntry run => Sys2Proof.Machine.execHoldupEntry run s
  | .vholdCollapse t vholdMv => Sys2Proof.Machine.execVholdCollapse t vholdMv s
  | .vaonHandover t => Sys2Proof.Machine.execVaonHandover t s
  | .vrtcApplied t vrtcMv => Sys2Proof.Machine.execVrtcApplied t vrtcMv s
  | .timeLostDetect t vrtcMv => Sys2Proof.Machine.execTimeLostDetect t vrtcMv s
  | .resetNAssert t => Sys2Proof.Machine.execResetNAssert t s
  | .resetNRelease t => Sys2Proof.Machine.execResetNRelease t s
  | .startUp t env => Sys2Proof.Machine.execStartUp t env s
  | .earlyServiceStart t => Sys2Proof.Machine.execEarlyServiceStart t s
  | .fullServiceStart t => Sys2Proof.Machine.execFullServiceStart t s
  | .recoveryGestureTimeout t => Sys2Proof.Machine.execRecoveryGestureTimeout t s
  | .slumberEntry run => Sys2Proof.Machine.execSlumberEntry run s
  | .wakeNLow t lowNs => Sys2Proof.Machine.execWakeNLow t lowNs s
  | .alarmTaiWake t => Sys2Proof.Machine.execAlarmTaiWake t s
  | .holdupChargeDone t fromMv toMv chargeUs => Sys2Proof.Machine.execHoldupChargeDone t fromMv toMv chargeUs s
  | .thermalWarn t die temp => Sys2Proof.Machine.execThermalWarn t die temp s
  | .dieOvertemp t die temp => Sys2Proof.Machine.execDieOvertemp t die temp s
  | .clockReady t src => Sys2Proof.Machine.execClockReady t src s
  | .xmStartTimeout t => Sys2Proof.Machine.execXmStartTimeout t s
  | .xsStartTimeout t => Sys2Proof.Machine.execXsStartTimeout t s
  | .clockMonitorTrip t src => Sys2Proof.Machine.execClockMonitorTrip t src s
  | .pllNetRelock t locked => Sys2Proof.Machine.execPllNetRelock t locked s
  | .clockSwitchApply t => Sys2Proof.Machine.execClockSwitchApply t s
  | .profileChangeApply t => Sys2Proof.Machine.execProfileChangeApply t s
  | .pllSysSettled t => Sys2Proof.Machine.execPllSysSettled t s
  | .ptpFrame t m => Sys2Proof.Machine.execPtpFrame t m s
  | .irigFrame t m => Sys2Proof.Machine.execIrigFrame t m s
  | .ppsInEdge t ppb => Sys2Proof.Machine.execPpsInEdge t ppb s
  | .timeSourceTimeout t src => Sys2Proof.Machine.execTimeSourceTimeout t src s
  | .holdoverExpiry t => Sys2Proof.Machine.execHoldoverExpiry t s
  | .ppsOutEdge t => Sys2Proof.Machine.execPpsOutEdge t s
  | .calendarSecond t temp => Sys2Proof.Machine.execCalendarSecond t temp s
  | .trimLearnInterval t residual => Sys2Proof.Machine.execTrimLearnInterval t residual s
  | .calHaltTimeout t => Sys2Proof.Machine.execCalHaltTimeout t s
  | .eventStamp t src kind data => Sys2Proof.Machine.execEventStamp t src kind data s
  | .interpolatorDone t group n1 n2 tickTai => Sys2Proof.Machine.execInterpolatorDone t group n1 n2 tickTai s
  | .periodicRelease t task => Sys2Proof.Machine.execPeriodicRelease t task s
  | .snapshotComplete t task => Sys2Proof.Machine.execSnapshotComplete t task s
  | .barrierRelease t task => Sys2Proof.Machine.execBarrierRelease t task s
  | .taskPublish t task => Sys2Proof.Machine.execTaskPublish t task s
  | .baseOverrun t => Sys2Proof.Machine.execBaseOverrun t s
  | .stopRequestApply t => Sys2Proof.Machine.execStopRequestApply t s
  | .remapResume t => Sys2Proof.Machine.execRemapResume t s
  | .testSlice t e pass => Sys2Proof.Machine.execTestSlice t e pass s
  | .testRoundComplete t pass => Sys2Proof.Machine.execTestRoundComplete t pass s
  | .sramScrub t corrected badRegions badStore => Sys2Proof.Machine.execSramScrub t corrected badRegions badStore s
  | .mramScrub t corrected bad linkFailed => Sys2Proof.Machine.execMramScrub t corrected bad linkFailed s
  | .flashPatrol t rewritten found => Sys2Proof.Machine.execFlashPatrol t rewritten found s
  | .couplerLoopback t ch crcOk rttNs => Sys2Proof.Machine.execCouplerLoopback t ch crcOk rttNs s
  | .controlCouplerLoopback t die loop txOk => Sys2Proof.Machine.execControlCouplerLoopback t die loop txOk s
  | .linkErrorWindow t link errors bits => Sys2Proof.Machine.execLinkErrorWindow t link errors bits s
  | .healthReportBuild t => Sys2Proof.Machine.execHealthReportBuild t s
  | .tallyWindowOpen t hungMain hungLedger => Sys2Proof.Machine.execTallyWindowOpen t hungMain hungLedger s
  | .tallyPeriodEnd t => Sys2Proof.Machine.execTallyPeriodEnd t s
  | .leaseExpiry t res => Sys2Proof.Machine.execLeaseExpiry t res s
  | .stewardRestart t => Sys2Proof.Machine.execStewardRestart t s
  | .ruleEvaluation t rule evalOk storeOk => Sys2Proof.Machine.execRuleEvaluation t rule evalOk storeOk s
  | .rimeSweep tick => Sys2Proof.Machine.execRimeSweep tick s
  | .ruleDelayExpiry t tick => Sys2Proof.Machine.execRuleDelayExpiry t tick s
  | .reflexDisagree t ch => Sys2Proof.Machine.execReflexDisagree t ch s
  | .epochSwitch t => Sys2Proof.Machine.execEpochSwitch t s
  | .editIdleTimeout t => Sys2Proof.Machine.execEditIdleTimeout t s
  | .sentinelEdge t ch pinMv devMv => Sys2Proof.Machine.execSentinelEdge t ch pinMv devMv s
  | .burdenSample t ch seen => Sys2Proof.Machine.execBurdenSample t ch seen s
  | .induced t ch => Sys2Proof.Machine.execInduced t ch s
  | .statusFrame t ch crcOk => Sys2Proof.Machine.execStatusFrame t ch crcOk s
  | .staleTimeout t ch => Sys2Proof.Machine.execStaleTimeout t ch s
  | .commandFrame t ch f => Sys2Proof.Machine.execCommandFrame t ch f s
  | .commandFrameRefresh t ch => Sys2Proof.Machine.execCommandFrameRefresh t ch s
  | .claimLeaseExpiry t die src => Sys2Proof.Machine.execClaimLeaseExpiry t die src s
  | .readback t ch => Sys2Proof.Machine.execReadback t ch s
  | .openLoad t ch load => Sys2Proof.Machine.execOpenLoad t ch load s
  | .overload t ch loadMa limiting => Sys2Proof.Machine.execOverload t ch loadMa limiting s
  | .short t ch loadMa => Sys2Proof.Machine.execShort t ch loadMa s
  | .thermal t ch => Sys2Proof.Machine.execThermal t ch s
  | .dieOverload t die load => Sys2Proof.Machine.execDieOverload t die load s
  | .tripClear t ch => Sys2Proof.Machine.execTripClear t ch s
  | .vfldLow t die mv => Sys2Proof.Machine.execVfldLow t die mv s
  | .vfldRestore t die mv => Sys2Proof.Machine.execVfldRestore t die mv s
  | .pulseEnd t ch => Sys2Proof.Machine.execPulseEnd t ch s
  | .safTimeout t ch => Sys2Proof.Machine.execSafTimeout t ch s
  | .dpDiscrepancyTimeout t ch => Sys2Proof.Machine.execDpDiscrepancyTimeout t ch s
  | .fieldDiePowerUp t die => Sys2Proof.Machine.execFieldDiePowerUp t die s
  | .fieldDieFwRestart t die => Sys2Proof.Machine.execFieldDieFwRestart t die s
  | .dualContactChange t n evalOk => Sys2Proof.Machine.execDualContactChange t n evalOk s
  | .dualDiscrepancy t tick => Sys2Proof.Machine.execDualDiscrepancy t tick s
  | .keyMatrixScan t row classes => Sys2Proof.Machine.execKeyMatrixScan t row classes s
  | .panelInputSample t inp level => Sys2Proof.Machine.execPanelInputSample t inp level s
  | .panelDebounceConfirm t inp => Sys2Proof.Machine.execPanelDebounceConfirm t inp s
  | .keyStuck t k => Sys2Proof.Machine.execKeyStuck t k s
  | .lrFault t => Sys2Proof.Machine.execLrFault t s
  | .sboSelTimeout t => Sys2Proof.Machine.execSboSelTimeout t s
  | .execEnd t => Sys2Proof.Machine.execExecEnd t s
  | .presenceComplete t => Sys2Proof.Machine.execPresenceComplete t s
  | .presenceExpiry t => Sys2Proof.Machine.execPresenceExpiry t s
  | .gooseRx t m => Sys2Proof.Machine.execGooseRx t m s
  | .svRx t m => Sys2Proof.Machine.execSvRx t m s
  | .supervisionFrame t hdr => Sys2Proof.Machine.execSupervisionFrame t hdr s
  | .hostFrameRx t hdr frame slot => Sys2Proof.Machine.execHostFrameRx t hdr frame slot s
  | .hostTxPoll t slots => Sys2Proof.Machine.execHostTxPoll t slots s
  | .gooseExpiry t sub => Sys2Proof.Machine.execGooseExpiry t sub s
  | .gooseRepeat t pub => Sys2Proof.Machine.execGooseRepeat t pub s
  | .supervisionSend t => Sys2Proof.Machine.execSupervisionSend t s
  | .nodeEntryAge t mac => Sys2Proof.Machine.execNodeEntryAge t mac s
  | .netLinkChange t port up => Sys2Proof.Machine.execNetLinkChange t port up s
  | .sumSend t => Sys2Proof.Machine.execSumSend t s
  | .beaconSend t => Sys2Proof.Machine.execBeaconSend t s
  | .msgSend t station op offset data => Sys2Proof.Machine.execMsgSend t station op offset data s
  | .sumRxStation t port bytes => Sys2Proof.Machine.execSumRxStation t port bytes s
  | .sumReturn t port bytes => Sys2Proof.Machine.execSumReturn t port bytes s
  | .beaconRx t port bytes => Sys2Proof.Machine.execBeaconRx t port bytes s
  | .ringFrameForward t port bytes residenceNs => Sys2Proof.Machine.execRingFrameForward t port bytes residenceNs s
  | .admission t bytes => Sys2Proof.Machine.execAdmit t bytes s
  | .cfgBlock t bytes => Sys2Proof.Machine.execCfgBlock t bytes s
  | .cfgCommit t bytes => Sys2Proof.Machine.execCfgCommit t bytes s
  | .msgStatus t bytes => Sys2Proof.Machine.execMsgStatus t bytes s
  | .msgReply t bytes => Sys2Proof.Machine.execMsgReply t bytes s
  | .delayMeasure t port => Sys2Proof.Machine.execDelayMeasure t port s
  | .delayRequestRx t port residenceNs => Sys2Proof.Machine.execDelayRequestRx t port residenceNs s
  | .delayResponseRx t port roundTripNs residenceNs => Sys2Proof.Machine.execDelayResponseRx t port roundTripNs residenceNs s
  | .ringCycleEnd t => Sys2Proof.Machine.execRingCycleEnd t s
  | .syncOutputApply t => Sys2Proof.Machine.execSyncOutputApply t s
  | .stationDownTimeout t => Sys2Proof.Machine.execStationDownTimeout t s
  | .heartbeatSend t => Sys2Proof.Machine.execHeartbeatSend t s
  | .heartbeat t lane r => Sys2Proof.Machine.execHeartbeat t lane r s
  | .releaseRecord t task scan snapMono snapTai source data => Sys2Proof.Machine.execReleaseRecord t task scan snapMono snapTai source data s
  | .snapshotRecord t task points => Sys2Proof.Machine.execSnapshotRecord t task points s
  | .publishRecord t task scan crc words => Sys2Proof.Machine.execPublishRecord t task scan crc words s
  | .pubState t pub stNum sqNum curveMs => Sys2Proof.Machine.execPubState t pub stNum sqNum curveMs s
  | .ack t task scan crc => Sys2Proof.Machine.execAck t task scan crc s
  | .commandRecord t code payload scan => Sys2Proof.Machine.execCommandRecord t code payload scan s
  | .alignBlock t b => Sys2Proof.Machine.execAlignBlock t b s
  | .handoverAt t scan => Sys2Proof.Machine.execHandoverAt t scan s
  | .switchAt t scan => Sys2Proof.Machine.execSwitchAt t scan s
  | .controlRecord t r => Sys2Proof.Machine.execControlRecord t r s
  | .laneDown t lane => Sys2Proof.Machine.execLaneDown t lane s
  | .pairListenEnd t => Sys2Proof.Machine.execPairListenEnd t s
  | .alignmentComplete t keeperMono j => Sys2Proof.Machine.execAlignmentComplete t keeperMono j s
  | .alignmentRetry t => Sys2Proof.Machine.execAlignmentRetry t s
  | .takeover t => Sys2Proof.Machine.execTakeover t s
  | .healthSettled t => Sys2Proof.Machine.execHealthSettled t s
  | .takebackElapsed t => Sys2Proof.Machine.execTakebackElapsed t s
  | .handover t => Sys2Proof.Machine.execHandover t s
  | .warmFlush t => Sys2Proof.Machine.execWarmFlush t s
  | .firnAppend t write => Sys2Proof.Machine.execFirnAppend t write s
  | .firnCompaction t eraseOk => Sys2Proof.Machine.execFirnCompaction t eraseOk s
  | .firnCatchUp t => Sys2Proof.Machine.execFirnCatchUp t s
  | .retentiveHomeWrite t => Sys2Proof.Machine.execRetentiveHomeWrite t s
  | .magSample t magnitude => Sys2Proof.Machine.execMagSample t magnitude s
  | .magAlertSet t => Sys2Proof.Machine.execMagAlertSet t s
  | .magAlertClear t bad => Sys2Proof.Machine.execMagAlertClear t bad s
  | .soeArchiveAppend t => Sys2Proof.Machine.execSoeArchiveAppend t s
  | .tableFlip t => Sys2Proof.Machine.execTableFlip t s
  | .ldgPartTimeout t key => Sys2Proof.Machine.execLdgPartTimeout t key s
  | .safConfirmApply t => Sys2Proof.Machine.execSafConfirmApply t s
  | .sessionIdleTimeout t session => Sys2Proof.Machine.execSessionIdleTimeout t session s
  | .sessionAuthTimeout t session => Sys2Proof.Machine.execSessionAuthTimeout t session s
  | .portLockoutEnd t usb => Sys2Proof.Machine.execPortLockoutEnd t usb s
  | .tokenExpiry t => Sys2Proof.Machine.execTokenExpiry t s
  | .trialExpiry t => Sys2Proof.Machine.execTrialExpiry t s
  | .recoveryRefresh t => Sys2Proof.Machine.execRecoveryRefresh t s
  | .updIdleTimeout t => Sys2Proof.Machine.execUpdIdleTimeout t s
  | .extest t => Sys2Proof.Machine.execExtest t s
  | .sample t => Sys2Proof.Machine.execSample t s
  | .preload t bits => Sys2Proof.Machine.execPreload t bits s
  | .dbgSelect t => Sys2Proof.Machine.execDbgSelect t s
  | .dbgTokenLoad t token => Sys2Proof.Machine.execDbgTokenLoad t token s
  | .bypass t => Sys2Proof.Machine.execBypass t s
  | .usbDebugOpen t => Sys2Proof.Machine.execUsbDebugOpen t s
  | .debugRead t r => Sys2Proof.Machine.execDebugRead t r s
  | .debugWrite t r => Sys2Proof.Machine.execDebugWrite t r s
  | .debugHalt t r => Sys2Proof.Machine.execDebugHalt t r s
  | .debugResume t r => Sys2Proof.Machine.execDebugResume t r s
  | .debugStep t r => Sys2Proof.Machine.execDebugStep t r s
  | .debugDetach t r => Sys2Proof.Machine.execDebugDetach t r s
  | .doorbell t mask usbPort usbRequest => Sys2Proof.Machine.execDoorbell t mask usbPort usbRequest s
  | .requestAccept t mb => Sys2Proof.Machine.execRequestAccept t mb s
  | .release t mask usbPort => Sys2Proof.Machine.execRelease t mask usbPort s
  | .irqStatus t mask => Sys2Proof.Machine.execIrqStatus t mask s
  | .evtKick t rdIndex => Sys2Proof.Machine.execEvtKick t rdIndex s
  | .highWordLatch t offset => Sys2Proof.Machine.execHighWordLatch t offset s
  | .registerWrite t offset value => Sys2Proof.Machine.execRegisterWrite t offset value s
  | .mailboxPending t mb => Sys2Proof.Machine.execMailboxPending t mb s
  | .deferredResult t mb => Sys2Proof.Machine.execDeferredResult t mb s
  | .qspiRead t addr len => Sys2Proof.Machine.execQspiRead t addr len s
  | .qspiWrite t addr data => Sys2Proof.Machine.execQspiWrite t addr data s
  | .qspiStatus t => Sys2Proof.Machine.execQspiStatus t s
  | .pciePerstN t => Sys2Proof.Machine.execPciePerstN t s
  | .windowAccessInSlumber t write offset value => Sys2Proof.Machine.execWindowAccessInSlumber t write offset value s
  | .eventStreamWrite t => Sys2Proof.Machine.execEventStreamWrite t s
  | .usbVbusRemoval t => Sys2Proof.Machine.execUsbVbusRemoval t s
  | .usbEventAttach t setting => Sys2Proof.Machine.execUsbEventAttach t setting s
  | .sysInfo t mb => Sys2Proof.Machine.execSysInfo t mb s
  | .sysProfileSet t mb => Sys2Proof.Machine.execSysProfileSet t mb s
  | .sysStateGet t mb => Sys2Proof.Machine.execSysStateGet t mb s
  | .sysSlumber t mb => Sys2Proof.Machine.execSysSlumber t mb s
  | .sysHoldupCfg t mb => Sys2Proof.Machine.execSysHoldupCfg t mb s
  | .sysRestart t mb => Sys2Proof.Machine.execSysRestart t mb s
  | .clkStatus t mb => Sys2Proof.Machine.execClkStatus t mb s
  | .clkSwitch t mb => Sys2Proof.Machine.execClkSwitch t mb s
  | .timeSourceCfg t mb => Sys2Proof.Machine.execTimeSourceCfg t mb s
  | .timeStatus t mb => Sys2Proof.Machine.execTimeStatus t mb s
  | .calGet t mb => Sys2Proof.Machine.execCalGet t mb s
  | .calSet t mb => Sys2Proof.Machine.execCalSet t mb s
  | .calTrimCurve t mb => Sys2Proof.Machine.execCalTrimCurve t mb s
  | .backupCfg t mb => Sys2Proof.Machine.execBackupCfg t mb s
  | .leapTableSet t mb => Sys2Proof.Machine.execLeapTableSet t mb s
  | .prgLoadBegin t mb => Sys2Proof.Machine.execPrgLoadBegin t mb s
  | .prgLoadBlock t mb => Sys2Proof.Machine.execPrgLoadBlock t mb s
  | .prgLoadEnd t mb => Sys2Proof.Machine.execPrgLoadEnd t mb s
  | .prgMode t mb => Sys2Proof.Machine.execPrgMode t mb s
  | .prgStatus t mb => Sys2Proof.Machine.execPrgStatus t mb s
  | .imgRead t mb => Sys2Proof.Machine.execImgRead t mb s
  | .imgForce t mb => Sys2Proof.Machine.execImgForce t mb s
  | .taskCfg t mb => Sys2Proof.Machine.execTaskCfg t mb s
  | .evtStreamCfg t mb => Sys2Proof.Machine.execEvtStreamCfg t mb s
  | .soeRead t mb => Sys2Proof.Machine.execSoeRead t mb s
  | .editStage t mb => Sys2Proof.Machine.execEditStage t mb s
  | .editBlock t mb => Sys2Proof.Machine.execEditBlock t mb s
  | .editCommit t mb => Sys2Proof.Machine.execEditCommit t mb s
  | .editAbort t mb => Sys2Proof.Machine.execEditAbort t mb s
  | .editStatus t mb => Sys2Proof.Machine.execEditStatus t mb s
  | .fldCfg t mb => Sys2Proof.Machine.execFldCfg t mb s
  | .fldStatus t mb => Sys2Proof.Machine.execFldStatus t mb s
  | .fldCounter t mb => Sys2Proof.Machine.execFldCounter t mb s
  | .fldTest t mb => Sys2Proof.Machine.execFldTest t mb s
  | .pnlCfg t mb => Sys2Proof.Machine.execPnlCfg t mb s
  | .pnlLed t mb => Sys2Proof.Machine.execPnlLed t mb s
  | .pnlStatus t mb => Sys2Proof.Machine.execPnlStatus t mb s
  | .pnlPresence t mb => Sys2Proof.Machine.execPnlPresence t mb s
  | .netPortCfg t mb => Sys2Proof.Machine.execNetPortCfg t mb s
  | .gooseSubCfg t mb => Sys2Proof.Machine.execGooseSubCfg t mb s
  | .goosePubCfg t mb => Sys2Proof.Machine.execGoosePubCfg t mb s
  | .svSubCfg t mb => Sys2Proof.Machine.execSvSubCfg t mb s
  | .netStatus t mb => Sys2Proof.Machine.execNetStatus t mb s
  | .ringCfg t mb => Sys2Proof.Machine.execRingCfg t mb s
  | .ringStationCfg t mb => Sys2Proof.Machine.execRingStationCfg t mb s
  | .ringStatus t mb => Sys2Proof.Machine.execRingStatus t mb s
  | .pairCfg t mb => Sys2Proof.Machine.execPairCfg t mb s
  | .pairStatus t mb => Sys2Proof.Machine.execPairStatus t mb s
  | .pairSwitch t mb => Sys2Proof.Machine.execPairSwitch t mb s
  | .ldgWrite t mb => Sys2Proof.Machine.execLdgWrite t mb s
  | .ldgRead t mb => Sys2Proof.Machine.execLdgRead t mb s
  | .ldgClassCfg t mb => Sys2Proof.Machine.execLdgClassCfg t mb s
  | .ldgStatus t mb => Sys2Proof.Machine.execLdgStatus t mb s
  | .tblWrite t mb => Sys2Proof.Machine.execTblWrite t mb s
  | .tblRead t mb => Sys2Proof.Machine.execTblRead t mb s
  | .safStatus t mb => Sys2Proof.Machine.execSafStatus t mb s
  | .safConfirm t mb => Sys2Proof.Machine.execSafConfirm t mb s
  | .safConnStatus t mb => Sys2Proof.Machine.execSafConnStatus t mb s
  | .healthReport t mb => Sys2Proof.Machine.execHealthReport t mb s
  | .tallyCfg t mb => Sys2Proof.Machine.execTallyCfg t mb s
  | .selftestCfg t mb => Sys2Proof.Machine.execSelftestCfg t mb s
  | .faultLogRead t mb => Sys2Proof.Machine.execFaultLogRead t mb s
  | .sesOpen t mb => Sys2Proof.Machine.execSesOpen t mb s
  | .sesAuth t mb => Sys2Proof.Machine.execSesAuth t mb s
  | .sesClose t mb => Sys2Proof.Machine.execSesClose t mb s
  | .lifecycleAdvance t mb => Sys2Proof.Machine.execLifecycleAdvance t mb s
  | .keyEnroll t mb => Sys2Proof.Machine.execKeyEnroll t mb s
  | .dbgToken t mb => Sys2Proof.Machine.execDbgToken t mb s
  | .updBegin t mb => Sys2Proof.Machine.execUpdBegin t mb s
  | .updBlock t mb => Sys2Proof.Machine.execUpdBlock t mb s
  | .updVerify t mb => Sys2Proof.Machine.execUpdVerify t mb s
  | .updActivate t mb => Sys2Proof.Machine.execUpdActivate t mb s
  | .updStatus t mb => Sys2Proof.Machine.execUpdStatus t mb s
  | .updConfirm t mb => Sys2Proof.Machine.execUpdConfirm t mb s
  | .band b gd ga gb sub => Sys2Proof.Machine.execBand b gd ga gb sub s
  | .bor b gd ga gb sub => Sys2Proof.Machine.execBor b gd ga gb sub s
  | .bxor b gd ga gb sub => Sys2Proof.Machine.execBxor b gd ga gb sub s
  | .nez b gd ga gb sub => Sys2Proof.Machine.execNez b gd ga gb sub s
  | .eqz b gd ga gb sub => Sys2Proof.Machine.execEqz b gd ga gb sub s
  | .bext b gd ga imm => Sys2Proof.Machine.execBext b gd ga imm s
  | .bins b gd ga imm => Sys2Proof.Machine.execBins b gd ga imm s
  | .bld b gd space index => Sys2Proof.Machine.execBld b gd space index s
  | .bst b gd space index => Sys2Proof.Machine.execBst b gd space index s
  | .bldq b gd space index => Sys2Proof.Machine.execBldq b gd space index s
  | .bldg b gd space index => Sys2Proof.Machine.execBldg b gd space index s
  | .add b gd ga gb sub => Sys2Proof.Machine.execAdd b gd ga gb sub s
  | .sub b gd ga gb sub => Sys2Proof.Machine.execSub b gd ga gb sub s
  | .addi b gd ga imm => Sys2Proof.Machine.execAddi b gd ga imm s
  | .and b gd ga gb sub => Sys2Proof.Machine.execAnd b gd ga gb sub s
  | .or b gd ga gb sub => Sys2Proof.Machine.execOr b gd ga gb sub s
  | .xor b gd ga gb sub => Sys2Proof.Machine.execXor b gd ga gb sub s
  | .andi b gd ga imm => Sys2Proof.Machine.execAndi b gd ga imm s
  | .ori b gd ga imm => Sys2Proof.Machine.execOri b gd ga imm s
  | .xori b gd ga imm => Sys2Proof.Machine.execXori b gd ga imm s
  | .shl b gd ga gb sub => Sys2Proof.Machine.execShl b gd ga gb sub s
  | .shr b gd ga gb sub => Sys2Proof.Machine.execShr b gd ga gb sub s
  | .sar b gd ga gb sub => Sys2Proof.Machine.execSar b gd ga gb sub s
  | .shli b gd ga imm => Sys2Proof.Machine.execShli b gd ga imm s
  | .shri b gd ga imm => Sys2Proof.Machine.execShri b gd ga imm s
  | .sari b gd ga imm => Sys2Proof.Machine.execSari b gd ga imm s
  | .min b gd ga gb sub => Sys2Proof.Machine.execMin b gd ga gb sub s
  | .max b gd ga gb sub => Sys2Proof.Machine.execMax b gd ga gb sub s
  | .minu b gd ga gb sub => Sys2Proof.Machine.execMinu b gd ga gb sub s
  | .maxu b gd ga gb sub => Sys2Proof.Machine.execMaxu b gd ga gb sub s
  | .cmpeq b gd ga gb sub => Sys2Proof.Machine.execCmpeq b gd ga gb sub s
  | .cmpne b gd ga gb sub => Sys2Proof.Machine.execCmpne b gd ga gb sub s
  | .cmplt b gd ga gb sub => Sys2Proof.Machine.execCmplt b gd ga gb sub s
  | .cmpltu b gd ga gb sub => Sys2Proof.Machine.execCmpltu b gd ga gb sub s
  | .cmple b gd ga gb sub => Sys2Proof.Machine.execCmple b gd ga gb sub s
  | .cmpleu b gd ga gb sub => Sys2Proof.Machine.execCmpleu b gd ga gb sub s
  | .cmpeqi b gd ga imm => Sys2Proof.Machine.execCmpeqi b gd ga imm s
  | .cmplti b gd ga imm => Sys2Proof.Machine.execCmplti b gd ga imm s
  | .cmpltui b gd ga imm => Sys2Proof.Machine.execCmpltui b gd ga imm s
  | .carry b gd ga gb sub => Sys2Proof.Machine.execCarry b gd ga gb sub s
  | .borrow b gd ga gb sub => Sys2Proof.Machine.execBorrow b gd ga gb sub s
  | .adds b gd ga gb sub => Sys2Proof.Machine.execAdds b gd ga gb sub s
  | .subs b gd ga gb sub => Sys2Proof.Machine.execSubs b gd ga gb sub s
  | .li b gd imm => Sys2Proof.Machine.execLi b gd imm s
  | .ext b gd ga gb sub => Sys2Proof.Machine.execExt b gd ga gb sub s
  | .clz b gd ga gb sub => Sys2Proof.Machine.execClz b gd ga gb sub s
  | .popc b gd ga gb sub => Sys2Proof.Machine.execPopc b gd ga gb sub s
  | .add64 b gd ga gb sub => Sys2Proof.Machine.execAdd64 b gd ga gb sub s
  | .sub64 b gd ga gb sub => Sys2Proof.Machine.execSub64 b gd ga gb sub s
  | .cmpltu64 b gd ga gb sub => Sys2Proof.Machine.execCmpltu64 b gd ga gb sub s
  | .cmplt64 b gd ga gb sub => Sys2Proof.Machine.execCmplt64 b gd ga gb sub s
  | .div b gd ga gb sub => Sys2Proof.Machine.execDiv b gd ga gb sub s
  | .divu b gd ga gb sub => Sys2Proof.Machine.execDivu b gd ga gb sub s
  | .rem b gd ga gb sub => Sys2Proof.Machine.execRem b gd ga gb sub s
  | .remu b gd ga gb sub => Sys2Proof.Machine.execRemu b gd ga gb sub s
  | .mul b gd ga gb sub => Sys2Proof.Machine.execMul b gd ga gb sub s
  | .mulh b gd ga gb sub => Sys2Proof.Machine.execMulh b gd ga gb sub s
  | .mulhu b gd ga gb sub => Sys2Proof.Machine.execMulhu b gd ga gb sub s
  | .mulw b gd ga gb sub => Sys2Proof.Machine.execMulw b gd ga gb sub s
  | .mac b gd ga gb sub => Sys2Proof.Machine.execMac b gd ga gb sub s
  | .macw b gd ga gb sub => Sys2Proof.Machine.execMacw b gd ga gb sub s
  | .fadd b gd ga gb sub => Sys2Proof.Machine.execFadd b gd ga gb sub s
  | .fsub b gd ga gb sub => Sys2Proof.Machine.execFsub b gd ga gb sub s
  | .fmul b gd ga gb sub => Sys2Proof.Machine.execFmul b gd ga gb sub s
  | .fmac b gd ga gb sub => Sys2Proof.Machine.execFmac b gd ga gb sub s
  | .fmsc b gd ga gb sub => Sys2Proof.Machine.execFmsc b gd ga gb sub s
  | .fmin b gd ga gb sub => Sys2Proof.Machine.execFmin b gd ga gb sub s
  | .fmax b gd ga gb sub => Sys2Proof.Machine.execFmax b gd ga gb sub s
  | .fsgn b gd ga gb sub => Sys2Proof.Machine.execFsgn b gd ga gb sub s
  | .fcmp b gd ga gb sub => Sys2Proof.Machine.execFcmp b gd ga gb sub s
  | .fcvt b gd ga gb sub => Sys2Proof.Machine.execFcvt b gd ga gb sub s
  | .mld b gd gb agn sub => Sys2Proof.Machine.execMld b gd gb agn sub s
  | .mst b gd gb agn sub => Sys2Proof.Machine.execMst b gd gb agn sub s
  | .fmaca b gd gb agn sub => Sys2Proof.Machine.execFmaca b gd gb agn sub s
  | .fmac2a b gd gb agn sub => Sys2Proof.Machine.execFmac2a b gd gb agn sub s
  | .cmula b gd gb agn sub => Sys2Proof.Machine.execCmula b gd gb agn sub s
  | .agset b gd gb agn sub => Sys2Proof.Machine.execAgset b gd gb agn sub s
  | .agget b gd gb agn sub => Sys2Proof.Machine.execAgget b gd gb agn sub s
  | .fdiv b gd ga gb sub => Sys2Proof.Machine.execFdiv b gd ga gb sub s
  | .fsqrt b gd ga gb sub => Sys2Proof.Machine.execFsqrt b gd ga gb sub s
  | .emulatedSyllable b cls opcode operands => Sys2Proof.Machine.execEmulatedSyllable b cls opcode operands s
  | .ldb b gd ga imm => Sys2Proof.Machine.execLdb b gd ga imm s
  | .ldbu b gd ga imm => Sys2Proof.Machine.execLdbu b gd ga imm s
  | .ldh b gd ga imm => Sys2Proof.Machine.execLdh b gd ga imm s
  | .ldhu b gd ga imm => Sys2Proof.Machine.execLdhu b gd ga imm s
  | .ldw b gd ga imm => Sys2Proof.Machine.execLdw b gd ga imm s
  | .ldd b gd ga imm => Sys2Proof.Machine.execLdd b gd ga imm s
  | .stb b gd ga imm => Sys2Proof.Machine.execStb b gd ga imm s
  | .sth b gd ga imm => Sys2Proof.Machine.execSth b gd ga imm s
  | .stw b gd ga imm => Sys2Proof.Machine.execStw b gd ga imm s
  | .std b gd ga imm => Sys2Proof.Machine.execStd b gd ga imm s
  | .ldwi b gd imm => Sys2Proof.Machine.execLdwi b gd imm s
  | .lddi b gd imm => Sys2Proof.Machine.execLddi b gd imm s
  | .stwi b gd imm => Sys2Proof.Machine.execStwi b gd imm s
  | .stdi b gd imm => Sys2Proof.Machine.execStdi b gd imm s
  | .ild b gd ga imm => Sys2Proof.Machine.execIld b gd ga imm s
  | .ildq b gd ga imm => Sys2Proof.Machine.execIldq b gd ga imm s
  | .ist b gd ga imm => Sys2Proof.Machine.execIst b gd ga imm s
  | .ildw b gd space index => Sys2Proof.Machine.execIldw b gd space index s
  | .istw b gd space index => Sys2Proof.Machine.execIstw b gd space index s
  | .tldb b gd ga imm => Sys2Proof.Machine.execTldb b gd ga imm s
  | .tldbu b gd ga imm => Sys2Proof.Machine.execTldbu b gd ga imm s
  | .tldh b gd ga imm => Sys2Proof.Machine.execTldh b gd ga imm s
  | .tldhu b gd ga imm => Sys2Proof.Machine.execTldhu b gd ga imm s
  | .tldw b gd ga imm => Sys2Proof.Machine.execTldw b gd ga imm s
  | .tldd b gd ga imm => Sys2Proof.Machine.execTldd b gd ga imm s
  | .push b gd ga gb sub => Sys2Proof.Machine.execPush b gd ga gb sub s
  | .pop b gd ga gb sub => Sys2Proof.Machine.execPop b gd ga gb sub s
  | .pushd b gd ga gb sub => Sys2Proof.Machine.execPushd b gd ga gb sub s
  | .popd b gd ga gb sub => Sys2Proof.Machine.execPopd b gd ga gb sub s
  | .ton b gd ga imm => Sys2Proof.Machine.execTon b gd ga imm s
  | .tof b gd ga imm => Sys2Proof.Machine.execTof b gd ga imm s
  | .tp b gd ga imm => Sys2Proof.Machine.execTp b gd ga imm s
  | .tacc b gd ga imm => Sys2Proof.Machine.execTacc b gd ga imm s
  | .rtrig b gd ga imm => Sys2Proof.Machine.execRtrig b gd ga imm s
  | .ftrig b gd ga imm => Sys2Proof.Machine.execFtrig b gd ga imm s
  | .ctu b gd ga imm => Sys2Proof.Machine.execCtu b gd ga imm s
  | .ctd b gd ga imm => Sys2Proof.Machine.execCtd b gd ga imm s
  | .ctud b gd ga imm => Sys2Proof.Machine.execCtud b gd ga imm s
  | .bnz b gd imm => Sys2Proof.Machine.execBnz b gd imm s
  | .bz b gd imm => Sys2Proof.Machine.execBz b gd imm s
  | .loop b gd imm => Sys2Proof.Machine.execLoop b gd imm s
  | .jmpr b gd ga gb sub => Sys2Proof.Machine.execJmpr b gd ga gb sub s
  | .call b gd imm => Sys2Proof.Machine.execCall b gd imm s
  | .callr b gd ga gb sub => Sys2Proof.Machine.execCallr b gd ga gb sub s
  | .fbcall b gd imm => Sys2Proof.Machine.execFbcall b gd imm s
  | .fbcallr b gd ga gb sub => Sys2Proof.Machine.execFbcallr b gd ga gb sub s
  | .ret b gd ga gb sub => Sys2Proof.Machine.execRet b gd ga gb sub s
  | .instset b gd ga gb sub => Sys2Proof.Machine.execInstset b gd ga gb sub s
  | .instget b gd ga gb sub => Sys2Proof.Machine.execInstget b gd ga gb sub s
  | .barrier b gd imm => Sys2Proof.Machine.execBarrier b gd imm s
  | .tend b gd imm => Sys2Proof.Machine.execTend b gd imm s
  | .trap b gd imm => Sys2Proof.Machine.execTrap b gd imm s
  | .ringLinkChange t port up => Sys2Proof.Machine.execRingLinkChange t port up s
  | .pciePerstNRelease t => Sys2Proof.Machine.execPciePerstNRelease t s
  | .rcFastRetry t inTolerance => Sys2Proof.Machine.execRcFastRetry t inTolerance s
  | .eventStreamIrqUs t => Sys2Proof.Machine.execEventStreamIrqUs t s
  | .rdIndexPoll t rdIndex => Sys2Proof.Machine.execRdIndexPoll t rdIndex s
  | .retiredEraseDone t => Sys2Proof.Machine.execRetiredEraseDone t s
  | .fieldDieFwRestartDone t die => Sys2Proof.Machine.execFieldDieFwRestartDone t die s
  | .tapReset t => Sys2Proof.Machine.execTapReset t s

end Sys2Proof.Machine
end

