-- ==== Sys2Proof/Safety.lean ====
section
/-! DEFINITION. What the claims speak of: states and fields that a run must keep, and a safe outcome. -/

namespace Sys2Proof.Machine

/-- Every byte memory of the state stands in its canonical form: keys rising, no zero byte listed (log entry 7). -/
def memoriesOk (s : State) : Bool :=
  s.host.hostMem.wf && s.eng.tables.wf
    && (s.eng.regions.all fun p => Memory.wf p.2.code && Memory.wf p.2.data)
    && (s.host.mb.all fun p => Memory.wf p.2.req && Memory.wf p.2.rsp)
    && (s.scan.mirror.all fun p => Memory.wf p.2)

/-- What manufacture fuses into the module: serial number, MAC address, SEED, Tally's window fuses (R78, R344, R392, R480). -/
def fuses (s : State) : Word × BitVec 48 × Bool × Nat := (s.sec.serial, s.net.mac, s.pair.seed, s.sup.wdf)

/-- The output latches of the 64 channels (R31). -/
def latches (s : State) : List Bool := (List.range 64).map fun c => (s.chan c).latch

/-- A step that neither faults nor is refused. -/
def safe (r : Result State) : Bool :=
  match r with
  | .next _ => true
  | _ => false

/-- Mailbox `mb` holds the accepted request `w` of a command code, which has not run yet, and no earlier request bears its
number (R563, R568). -/
def Asks (s : State) (mb code : Nat) (w : Work) : Prop :=
  findRequest mb code s = some w ∧ (s.host.works.find? fun v => v.wid = w.wid) = some w

/-- The syllable of `b` is alone in its bundle: its engine may issue, `x` is the context of the bank in charge, no syllable
waits there, the units find nothing, STOP is set, and the syllable with its X lies in the code window (R148, R190, R195). -/
structure Alone (s : State) (b : Issue) (x : Ctx) : Prop where
  lead : leadEngine s b.e = x.e
  may : mayIssue s x.e = true
  cls : activeClass s x.e = some x.c
  ctx : context s x.e x.c = some x
  fresh : x.b.bundle = []
  clean : x.b.chk = .ok
  ok : b.chk = .ok
  stop : b.stop = true
  room : x.b.pc.toNat + 4 * (if b.x.isSome then 2 else 1) ≤ codeSize

/-- The bundle of `n` words has issued and its acts take effect (R197). -/
def retire (x : Ctx) (n : Nat) (acts : List Act) (s : State) : State :=
  applyActs x (x.b.pc + 4#32 * BitVec.ofNat 32 n) acts { s with eng.step := s.eng.step &&& ~~~(1#16 <<< x.e) }

/-- The act touches its register bank alone. -/
def bankOnly : Act → Bool
  | .reg .. | .gen .. | .dataStack .. | .retStack .. | .inst _ | .jump _ | .stall _ => true
  | _ => false

/-- Words that a syllable with the extension `k` takes. -/
def sylWords (k : Option (BitVec 28)) : Nat := if k.isSome then 2 else 1

/-- An immediate: the value of an X placed above it, else extended to 32 bits (R193). -/
def extended {n : Nat} (k : Option (BitVec 28)) (signed : Bool) (imm : BitVec n) : Word :=
  match k with
  | some v => (v ++ imm).setWidth 32
  | none => if signed then imm.signExtend 32 else imm.setWidth 32

/-- The unused high bits of an X are zero (R193, R195 rule 4): 22 bits are used with a 10-bit immediate, 16 with a longer
one. -/
def fitsX (k : Option (BitVec 28)) (bits : Nat) : Prop := ∀ v, k = some v → v.toNat < 2 ^ bits

end Sys2Proof.Machine
end

