-- ==== Sys2Proof/Certificates/Slice0/Obligations.lean ====
section
/-! DEFINITION. The statements for the provers. -/

open Sys2Proof Sys2Proof.Machine

/-- A step runs the command at the front of the queue with the queue's rest; on an empty queue the block idles, which is the model's
choice (log entry 1). -/
def Obligations.StepRunsFrontCommand : Prop :=
  (∀ (c : Instr) (rest : List Instr) (s : State), s.pending = c :: rest → step s = exec c (s.withPending rest))
  ∧ ∀ s : State, s.pending = [] → step s = .next s

/-- The module before its first power-up (R64, R66, R120, R131, R318, R495): OFF, with the always-on rail down, lifecycle BLANK,
TIME_LOST latched, the default trim curve, every die in hold with every output latch off, nothing queued, and every memory in its
canonical form. That the machine begins there, and the memories' form, are the model's choices (log entries 3 and 7). -/
def Obligations.ResetIsTheUnpoweredModule : Prop :=
  State.reset.power.state = .off ∧ State.reset.power.vaonGood = false ∧ State.reset.sec.life = .blank
  ∧ State.reset.time.timeLost = true ∧ State.reset.cal.curve = defaultCurve
  ∧ (∀ die, (State.reset.die die).holding = true) ∧ latches State.reset = List.replicate 64 false
  ∧ State.reset.pending = [] ∧ memoriesOk State.reset = true

/-- The word ALU (R189, R193, R224, R229): each result reaches gd one cycle later; compares, carry and borrow give exactly 0 or 1; a
shift takes the low 5 bits of its count; ADDS and SUBS saturate; an immediate is extended as the opcode says, or has the value of its X
above it. -/
def Obligations.WordAluResults : Prop :=
  (∀ (s : State) (b : Issue) (x : Ctx) (gd ga gb : BitVec 6), Alone s b x → b.x = none →
      let u := x.reg ga.toNat
      let v := x.reg gb.toNat
      let result (r : Word) : Result State := .next (retire x 1 [.reg gd.toNat r 1] s)
      exec (.add b gd ga gb 0#4) s = result (u + v)
      ∧ exec (.sub b gd ga gb 0#4) s = result (u - v)
      ∧ exec (.and b gd ga gb 0#4) s = result (u &&& v)
      ∧ exec (.or b gd ga gb 0#4) s = result (u ||| v)
      ∧ exec (.xor b gd ga gb 0#4) s = result (u ^^^ v)
      ∧ exec (.shl b gd ga gb 0#4) s = result (u <<< (v.toNat % 32))
      ∧ exec (.shr b gd ga gb 0#4) s = result (u >>> (v.toNat % 32))
      ∧ exec (.sar b gd ga gb 0#4) s = result (u.sshiftRight (v.toNat % 32))
      ∧ exec (.min b gd ga gb 0#4) s = result (if u.toInt ≤ v.toInt then u else v)
      ∧ exec (.max b gd ga gb 0#4) s = result (if u.toInt ≤ v.toInt then v else u)
      ∧ exec (.minu b gd ga gb 0#4) s = result (if u.toNat ≤ v.toNat then u else v)
      ∧ exec (.maxu b gd ga gb 0#4) s = result (if u.toNat ≤ v.toNat then v else u)
      ∧ exec (.cmpeq b gd ga gb 0#4) s = result (if u = v then 1#32 else 0#32)
      ∧ exec (.cmpne b gd ga gb 0#4) s = result (if u = v then 0#32 else 1#32)
      ∧ exec (.cmplt b gd ga gb 0#4) s = result (if u.toInt < v.toInt then 1#32 else 0#32)
      ∧ exec (.cmpltu b gd ga gb 0#4) s = result (if u.toNat < v.toNat then 1#32 else 0#32)
      ∧ exec (.cmple b gd ga gb 0#4) s = result (if u.toInt ≤ v.toInt then 1#32 else 0#32)
      ∧ exec (.cmpleu b gd ga gb 0#4) s = result (if u.toNat ≤ v.toNat then 1#32 else 0#32)
      ∧ exec (.carry b gd ga gb 0#4) s = result (if 2 ^ 32 ≤ u.toNat + v.toNat then 1#32 else 0#32)
      ∧ exec (.borrow b gd ga gb 0#4) s = result (if u.toNat < v.toNat then 1#32 else 0#32)
      ∧ exec (.adds b gd ga gb 0#4) s = result (BitVec.ofInt 32 (max (-(2 ^ 31)) (min (2 ^ 31 - 1) (u.toInt + v.toInt))))
      ∧ exec (.subs b gd ga gb 0#4) s = result (BitVec.ofInt 32 (max (-(2 ^ 31)) (min (2 ^ 31 - 1) (u.toInt - v.toInt)))))
  ∧ (∀ (s : State) (b : Issue) (x : Ctx) (gd ga : BitVec 6) (imm : BitVec 10) (imm16 : BitVec 16), Alone s b x →
      let u := x.reg ga.toNat
      let i (signed : Bool) : Word := extended b.x signed imm
      let result (r : Word) : Result State := .next (retire x (sylWords b.x) [.reg gd.toNat r 1] s)
      (fitsX b.x 22 →
        exec (.addi b gd ga imm) s = result (u + i true)
        ∧ exec (.andi b gd ga imm) s = result (u &&& i false)
        ∧ exec (.ori b gd ga imm) s = result (u ||| i false)
        ∧ exec (.xori b gd ga imm) s = result (u ^^^ i false)
        ∧ exec (.shli b gd ga imm) s = result (u <<< ((i false).toNat % 32))
        ∧ exec (.shri b gd ga imm) s = result (u >>> ((i false).toNat % 32))
        ∧ exec (.sari b gd ga imm) s = result (u.sshiftRight ((i false).toNat % 32))
        ∧ exec (.cmpeqi b gd ga imm) s = result (if u = i true then 1#32 else 0#32)
        ∧ exec (.cmplti b gd ga imm) s = result (if u.toInt < (i true).toInt then 1#32 else 0#32)
        ∧ exec (.cmpltui b gd ga imm) s = result (if u.toNat < (i true).toNat then 1#32 else 0#32))
      ∧ (fitsX b.x 16 → exec (.li b gd imm16) s = result (extended b.x true imm16)))

/-- EXT, CLZ, POPC, the 64-bit operations and the divisions (R188, R229, R230): EXT extends a byte or half as SUB says; a
64-bit operand is the even register and the one after it; a division by a register other than zero writes gd 12 cycles later and
stalls its engine for 11. -/
def Obligations.WordAluWideResults : Prop :=
  ∀ (s : State) (b : Issue) (x : Ctx) (gd ga gb : BitVec 6), Alone s b x → b.x = none →
    let u := x.reg ga.toNat
    let v := x.reg gb.toNat
    let pair (r : Nat) : Nat := (x.reg r).toNat + 2 ^ 32 * (x.reg (r + 1)).toNat
    let result (l : List Act) : Result State := .next (retire x 1 l s)
    let wide (n : Nat) : List Act := [.reg gd.toNat (BitVec.ofNat 32 n) 1, .reg (gd.toNat + 1) (BitVec.ofNat 32 (n / 2 ^ 32)) 1]
    (exec (.ext b gd ga gb 0#4) s = result [.reg gd.toNat ((u.setWidth 8).signExtend 32) 1]
      ∧ exec (.ext b gd ga gb 1#4) s = result [.reg gd.toNat ((u.setWidth 16).signExtend 32) 1]
      ∧ exec (.ext b gd ga gb 2#4) s = result [.reg gd.toNat (BitVec.ofNat 32 (u.toNat % 256)) 1]
      ∧ exec (.ext b gd ga gb 3#4) s = result [.reg gd.toNat (BitVec.ofNat 32 (u.toNat % 65536)) 1])
    ∧ (exec (.clz b gd ga gb 0#4) s = result [.reg gd.toNat (BitVec.ofNat 32 (32 - (if u = 0#32 then 0 else Nat.log2 u.toNat + 1))) 1]
      ∧ exec (.popc b gd ga gb 0#4) s
        = result [.reg gd.toNat (BitVec.ofNat 32 ((List.range 32).filter fun i => u.getLsbD i).length) 1])
    ∧ (ga.toNat % 2 = 0 → gb.toNat % 2 = 0 →
      (gd.toNat % 2 = 0 →
        exec (.add64 b gd ga gb 0#4) s = result (wide ((pair ga.toNat + pair gb.toNat) % 2 ^ 64))
        ∧ exec (.sub64 b gd ga gb 0#4) s = result (wide ((2 ^ 64 + pair ga.toNat - pair gb.toNat) % 2 ^ 64)))
      ∧ exec (.cmpltu64 b gd ga gb 0#4) s = result [.reg gd.toNat (if pair ga.toNat < pair gb.toNat then 1#32 else 0#32) 1]
      ∧ exec (.cmplt64 b gd ga gb 0#4) s = result [.reg gd.toNat
          (if (BitVec.ofNat 64 (pair ga.toNat)).toInt < (BitVec.ofNat 64 (pair gb.toNat)).toInt then 1#32 else 0#32) 1])
    ∧ (v ≠ 0#32 →
      exec (.div b gd ga gb 0#4) s = result [.reg gd.toNat (BitVec.ofInt 32 (u.toInt.tdiv v.toInt)) 12, .stall 11]
      ∧ exec (.divu b gd ga gb 0#4) s = result [.reg gd.toNat (BitVec.ofNat 32 (u.toNat / v.toNat)) 12, .stall 11]
      ∧ exec (.rem b gd ga gb 0#4) s = result [.reg gd.toNat (BitVec.ofInt 32 (u.toInt.tmod v.toInt)) 12, .stall 11]
      ∧ exec (.remu b gd ga gb 0#4) s = result [.reg gd.toNat (BitVec.ofNat 32 (u.toNat % v.toNat)) 12, .stall 11])

/-- The results of the bit unit (R224, R227): operands of Boolean meaning are true when non-zero, inverted by SUB; BEXT takes and
BINS places bit n mod 32. -/
def Obligations.BitUnitRegisterResults : Prop :=
  ∀ (s : State) (b : Issue) (x : Ctx) (gd ga gb : BitVec 6) (sub : BitVec 4) (imm : BitVec 10), Alone s b x →
    let p := (decide (x.reg ga.toNat ≠ 0#32)) != sub.getLsbD 0
    let q := (decide (x.reg gb.toNat ≠ 0#32)) != sub.getLsbD 1
    let one (r : Bool) : List Act := [.reg gd.toNat (if r then 1#32 else 0#32) 1]
    let n := (extended b.x false imm).toNat % 32
    (b.x = none →
      (sub.toNat < 8 →
        exec (.band b gd ga gb sub) s = .next (retire x 1 (one ((p && q) != sub.getLsbD 2)) s)
        ∧ exec (.bor b gd ga gb sub) s = .next (retire x 1 (one ((p || q) != sub.getLsbD 2)) s)
        ∧ exec (.bxor b gd ga gb sub) s = .next (retire x 1 (one ((p != q) != sub.getLsbD 2)) s))
      ∧ exec (.nez b gd ga gb 0#4) s = .next (retire x 1 (one (decide (x.reg ga.toNat ≠ 0#32))) s)
      ∧ exec (.eqz b gd ga gb 0#4) s = .next (retire x 1 (one (decide (x.reg ga.toNat = 0#32))) s))
    ∧ (fitsX b.x 22 →
      exec (.bext b gd ga imm) s = .next (retire x (sylWords b.x) (one ((x.reg ga.toNat).getLsbD n)) s)
      ∧ exec (.bins b gd ga imm) s = .next (retire x (sylWords b.x) [.reg gd.toNat
          (if x.reg ga.toNat ≠ 0#32 then x.reg gd.toNat ||| (1#32 <<< n) else x.reg gd.toNat &&& ~~~(1#32 <<< n)) 1] s))

/-- Points of the process image as the bit unit and the image opcodes reach them (R208, R227, R228, R234, R236): a readable point
gives its value, its quality nibble, or its value where that is VALID or FORCED; a writable one takes 0 or 1, or a word where it is a
word point. Nothing but the register, or the point of the private buffer, is named. -/
def Obligations.ImagePointAccess : Prop :=
  ∀ (s : State) (b : Issue) (x : Ctx) (gd ga : BitVec 6) (imm : BitVec 10) (space : BitVec 4) (index : BitVec 12),
    Alone s b x →
    let bi := 2 ^ 28 * space.toNat + ((extended b.x false index).setWidth 28).toNat
    let rri := (x.reg ga.toNat + extended b.x true imm).toNat
    let readable (a : Nat) : Prop := addrCheck a = none ∧ x.readCheck a = none
    let writable (a : Nat) : Prop := addrCheck a = none ∧ x.writeCheck a = none
    let result (l : List Act) : Result State := .next (retire x (sylWords b.x) l s)
    let bool (r : Bool) : Word := if r then 1#32 else 0#32
    (fitsX b.x 16 →
      (readable bi →
        exec (.bld b gd space index) s = result [.reg gd.toNat (bool (decide (x.point bi ≠ 0#32))) 1]
        ∧ exec (.bldq b gd space index) s = result [.reg gd.toNat ((x.quality bi).setWidth 32) 1]
        ∧ exec (.bldg b gd space index) s = result [.reg gd.toNat (bool (decide (x.point bi ≠ 0#32)
            && ((x.quality bi).getLsbD 0 || (x.quality bi).getLsbD 3 || !carriesQuality x.s bi))) 1])
      ∧ (writable bi → isWordPoint bi = false →
        exec (.bst b gd space index) s = result [.point bi (bool (decide (x.reg gd.toNat ≠ 0#32)))])
      ∧ (isWordPoint bi = true →
        (readable bi → exec (.ildw b gd space index) s = result [.reg gd.toNat (x.point bi) 2])
        ∧ (writable bi → exec (.istw b gd space index) s = result [.point bi (x.reg gd.toNat)]))
      ∧ (isWordPoint bi = false → addrCheck bi = none →
        ((∀ a ∈ wordPoints bi, x.readCheck a = none) →
          ∃ v : Word, exec (.ildw b gd space index) s = result [.reg gd.toNat v 2]
            ∧ ∀ k < 32, v.getLsbD k = decide (x.point (bi / 32 * 32 + k) ≠ 0#32))
        ∧ ((∀ a ∈ wordPoints bi, x.writeCheck a = none) →
          exec (.istw b gd space index) s = result ((List.range 32).map fun k =>
            .point (bi / 32 * 32 + k) (bool ((x.reg gd.toNat).getLsbD k))))))
    ∧ (fitsX b.x 22 →
      (readable rri →
        exec (.ild b gd ga imm) s = result [.reg gd.toNat (x.point rri) 2]
        ∧ exec (.ildq b gd ga imm) s = result [.reg gd.toNat ((x.quality rri).setWidth 32) 2])
      ∧ (writable rri → exec (.ist b gd ga imm) s = result [.point rri
          (if isWordPoint rri then x.reg gd.toNat else bool (decide (x.reg gd.toNat ≠ 0#32)))]))

/-- The integer results of the MAC unit, two cycles later (R231): the low and the high word of a product, a 64-bit product, and the
sums of a product with gd or pair gd. -/
def Obligations.MacUnitIntegerResults : Prop :=
  ∀ (s : State) (b : Issue) (x : Ctx) (gd ga gb : BitVec 6), Alone s b x → b.x = none →
    let u := x.reg ga.toNat
    let v := x.reg gb.toNat
    let product := BitVec.ofInt 64 (u.toInt * v.toInt)
    let pair := x.reg (gd.toNat + 1) ++ x.reg gd.toNat
    let result (l : List Act) : Result State := .next (retire x 1 l s)
    let wide (d : Dword) : List Act := [.reg gd.toNat (d.extractLsb' 0 32) 2, .reg (gd.toNat + 1) (d.extractLsb' 32 32) 2]
    exec (.mul b gd ga gb 0#4) s = result [.reg gd.toNat (u * v) 2]
    ∧ exec (.mulh b gd ga gb 0#4) s = result [.reg gd.toNat (product.extractLsb' 32 32) 2]
    ∧ exec (.mulhu b gd ga gb 0#4) s = result [.reg gd.toNat (BitVec.ofNat 32 (u.toNat * v.toNat / 2 ^ 32)) 2]
    ∧ exec (.mac b gd ga gb 0#4) s = result [.reg gd.toNat (x.reg gd.toNat + u * v) 2]
    ∧ (gd.toNat % 2 = 0 →
      exec (.mulw b gd ga gb 0#4) s = result (wide product)
      ∧ exec (.macw b gd ga gb 0#4) s = result (wide (pair + product)))

/-- The binary32 results of the MAC unit, two cycles later (R231, R232): operands are read with subnormals as zero, the sum or
product is exact and is rounded once. -/
def Obligations.MacUnitFloatResults : Prop :=
  ∀ (s : State) (b : Issue) (x : Ctx) (gd ga gb : BitVec 6), Alone s b x → b.x = none →
    let u := Flt.unpack (x.reg ga.toNat)
    let v := Flt.unpack (x.reg gb.toNat)
    let d := Flt.unpack (x.reg gd.toNat)
    let result (r : Word) : Result State := .next (retire x 1 [.reg gd.toNat r 2] s)
    exec (.fadd b gd ga gb 0#4) s = result (u.add v).pack
    ∧ exec (.fsub b gd ga gb 0#4) s = result (u.add v.neg).pack
    ∧ exec (.fmul b gd ga gb 0#4) s = result (u.mul v).pack
    ∧ exec (.fmac b gd ga gb 0#4) s = result (d.add (u.mul v)).pack
    ∧ exec (.fmsc b gd ga gb 0#4) s = result (d.add (u.mul v).neg).pack
    ∧ (u = .nan → v = .nan → exec (.fmin b gd ga gb 0#4) s = result nan32 ∧ exec (.fmax b gd ga gb 0#4) s = result nan32)
    ∧ (u = .nan → v ≠ .nan → exec (.fmin b gd ga gb 0#4) s = result v.pack ∧ exec (.fmax b gd ga gb 0#4) s = result v.pack)
    ∧ (u ≠ .nan → v = .nan → exec (.fmin b gd ga gb 0#4) s = result u.pack ∧ exec (.fmax b gd ga gb 0#4) s = result u.pack)
    ∧ (u ≠ .nan → v ≠ .nan → u.le v = true → v.le u = false →
      exec (.fmin b gd ga gb 0#4) s = result u.pack ∧ exec (.fmax b gd ga gb 0#4) s = result v.pack)
    ∧ (∀ sub : BitVec 4, sub.toNat ≤ 3 → exec (.fcmp b gd ga gb sub) s = result
        (if (if u = .nan ∨ v = .nan then sub = 3#4
          else (sub = 0#4 ∧ u.le v ∧ v.le u) ∨ (sub = 1#4 ∧ u.le v ∧ ¬ v.le u) ∨ (sub = 2#4 ∧ u.le v)) then 1#32 else 0#32))
    ∧ (∀ m e neg, u = .fin neg m e →
      exec (.fsgn b gd ga gb 0#4) s = result (Flt.fin false m e).pack
      ∧ exec (.fsgn b gd ga gb 1#4) s = result (Flt.fin (!(x.reg ga.toNat).msb) m e).pack
      ∧ exec (.fsgn b gd ga gb 2#4) s = result (Flt.fin (x.reg gb.toNat).msb m e).pack)
    ∧ exec (.fcvt b gd ga gb 0#4) s = result (roundF (x.reg ga.toNat).msb (x.reg ga.toNat).toInt.natAbs 0 false)
    ∧ exec (.fcvt b gd ga gb 1#4) s = result (roundF false (x.reg ga.toNat).toNat 0 false)
    ∧ (u = .nan → ∀ sub : BitVec 4, 2 ≤ sub.toNat → sub.toNat ≤ 4 → exec (.fcvt b gd ga gb sub) s = result 0#32)
    ∧ (∀ m e, u = .fin false m (e : Nat) → m * 2 ^ e < 2 ^ 31 → ∀ sub : BitVec 4, 2 ≤ sub.toNat → sub.toNat ≤ 4 →
      exec (.fcvt b gd ga gb sub) s = result (BitVec.ofNat 32 (m * 2 ^ e)))

/-- The generator opcodes (R214-R216, R231, R233): AGSET and AGGET reach the fields of ak; an access reads or writes the element at
BASE + IDX in the data window and then steps IDX; MLD extends a byte or half as SUB[2] says; FMACA, FMAC2A and CMULA take their
second factor through ak, each part rounded once. -/
def Obligations.GeneratorAccess : Prop :=
  ∀ (s : State) (b : Issue) (x : Ctx) (gd gb : BitVec 6) (k : BitVec 2), Alone s b x → b.x = none →
    let g := x.gen k.toNat
    let v := x.reg gb.toNat
    let d := x.reg gd.toNat
    let d1 := x.reg (gd.toNat + 1)
    let a := (g.base + g.idx).toNat
    let f := Flt.unpack
    let step : Act := .gen k.toNat { g with idx := nextIdx g }
    let result (l : List Act) : Result State := .next (retire x 1 l s)
    let word (m : Bytes) (i : Nat) : Word := BitVec.ofNat 32 (leNat ((m.drop (4 * i)).take 4))
    (exec (.agset b gd gb k 0#8) s = result [.gen k.toNat { g with base := v }]
      ∧ exec (.agset b gd gb k 1#8) s = result [.gen k.toNat { g with len := v }]
      ∧ exec (.agset b gd gb k 2#8) s = result [.gen k.toNat { g with step := v }]
      ∧ exec (.agset b gd gb k 3#8) s = result [.gen k.toNat { g with idx := v }]
      ∧ exec (.agset b gd gb k 4#8) s = result [.gen k.toNat { g with mode := v &&& 15#32 }])
    ∧ (exec (.agget b gd gb k 0#8) s = result [.reg gd.toNat g.base 1]
      ∧ exec (.agget b gd gb k 1#8) s = result [.reg gd.toNat g.len 1]
      ∧ exec (.agget b gd gb k 2#8) s = result [.reg gd.toNat g.step 1]
      ∧ exec (.agget b gd gb k 3#8) s = result [.reg gd.toNat g.idx 1]
      ∧ exec (.agget b gd gb k 4#8) s = result [.reg gd.toNat g.mode 1])
    ∧ (∀ m, x.dataLoad a 1 = .ok m →
      exec (.mld b gd gb k 0#8) s = result [.reg gd.toNat (BitVec.ofNat 32 (leNat (m.take 4))) 2, step]
      ∧ exec (.mld b gd gb k 4#8) s = result [.reg gd.toNat (((BitVec.ofNat 32 (leNat (m.take 4))).setWidth 8).signExtend 32) 2, step])
    ∧ (∀ m, x.dataLoad a 2 = .ok m →
      exec (.mld b gd gb k 1#8) s = result [.reg gd.toNat (BitVec.ofNat 32 (leNat (m.take 4))) 2, step]
      ∧ exec (.mld b gd gb k 5#8) s = result [.reg gd.toNat (((BitVec.ofNat 32 (leNat (m.take 4))).setWidth 16).signExtend 32) 2, step])
    ∧ (∀ m, x.dataLoad a 4 = .ok m →
      exec (.mld b gd gb k 2#8) s = result [.reg gd.toNat (BitVec.ofNat 32 (leNat (m.take 4))) 2, step]
      ∧ exec (.fmaca b gd gb k 0#8) s = result [.reg gd.toNat ((f d).add ((f v).mul (f (word m 0)))).pack 2, step]
      ∧ (gd.toNat % 2 = 0 → gb.toNat % 2 = 0 →
        exec (.fmac2a b gd gb k 0#8) s = result
          [.reg gd.toNat ((f d).add ((f (word m 0)).mul (f v))).pack 2,
           .reg (gd.toNat + 1) ((f d1).add ((f (word m 0)).mul (f (x.reg (gb.toNat + 1))))).pack 2, step]))
    ∧ (gd.toNat % 2 = 0 → ∀ m, x.dataLoad a 8 = .ok m →
      exec (.mld b gd gb k 3#8) s = result
        [.reg gd.toNat (BitVec.ofNat 32 (leNat (m.take 4))) 2, .reg (gd.toNat + 1) (word m 1) 2, step]
      ∧ (gb.toNat % 2 = 0 →
        let br := f v
        let bi := f (x.reg (gb.toNat + 1))
        let mr := f (word m 0)
        let mi := f (word m 1)
        exec (.cmula b gd gb k 0#8) s = result
          [.reg gd.toNat ((br.mul mr).add (bi.mul mi).neg).pack 2,
           .reg (gd.toNat + 1) ((br.mul mi).add (bi.mul mr)).pack 2, step]))
    ∧ (∀ sub : BitVec 8, sub.toNat ≤ 3 → (sub = 3#8 → gd.toNat % 2 = 0) →
      let m := (leBytes 4 d.toNat ++ leBytes 4 d1.toNat).take (2 ^ sub.toNat)
      inData a = true → a % 2 ^ sub.toNat = 0 → x.dataWriteCheck a (2 ^ sub.toNat) = none →
      exec (.mst b gd gb k sub) s = result [.data a m, step])

/-- Loads (R198, R203, R206, R234, R235): the bytes at ga + i, at inst + i, or at ga + i of the table window, reach gd or pair gd
after two cycles, or after 24 with the engine stalled for 23; a byte or half is extended as the opcode says. -/
def Obligations.LoadResults : Prop :=
  ∀ (s : State) (b : Issue) (x : Ctx) (gd ga : BitVec 6) (imm : BitVec 10) (imm16 : BitVec 16), Alone s b x →
    let a := (x.reg ga.toNat + extended b.x true imm).toNat
    let n := sylWords b.x
    let result (l : List Act) : Result State := .next (retire x n l s)
    let word (m : Bytes) : Word := BitVec.ofNat 32 (leNat m)
    let ai := (x.b.inst + extended b.x false imm16).toNat
    let low (m : Bytes) : Word := word (m.take 4)
    let high (m : Bytes) : Word := word (m.drop 4)
    let g := gd.toNat
    (fitsX b.x 22 →
      (∀ m, x.load a 1 = .ok m →
        exec (.ldb b gd ga imm) s = result [.reg g (((word m).setWidth 8).signExtend 32) 2]
        ∧ exec (.ldbu b gd ga imm) s = result [.reg g (word m) 2])
      ∧ (∀ m, x.load a 2 = .ok m →
        exec (.ldh b gd ga imm) s = result [.reg g (((word m).setWidth 16).signExtend 32) 2]
        ∧ exec (.ldhu b gd ga imm) s = result [.reg g (word m) 2])
      ∧ (∀ m, x.load a 4 = .ok m → exec (.ldw b gd ga imm) s = result [.reg g (word m) 2])
      ∧ (∀ m, g % 2 = 0 → x.load a 8 = .ok m →
        exec (.ldd b gd ga imm) s = result [.reg g (low m) 2, .reg (g + 1) (high m) 2])
      ∧ (∀ m, x.tableLoad a 1 = .ok m →
        exec (.tldb b gd ga imm) s = result [.reg g (((word m).setWidth 8).signExtend 32) 24, .stall 23]
        ∧ exec (.tldbu b gd ga imm) s = result [.reg g (word m) 24, .stall 23])
      ∧ (∀ m, x.tableLoad a 2 = .ok m →
        exec (.tldh b gd ga imm) s = result [.reg g (((word m).setWidth 16).signExtend 32) 24, .stall 23]
        ∧ exec (.tldhu b gd ga imm) s = result [.reg g (word m) 24, .stall 23])
      ∧ (∀ m, x.tableLoad a 4 = .ok m → exec (.tldw b gd ga imm) s = result [.reg g (word m) 24, .stall 23])
      ∧ (∀ m, g % 2 = 0 → x.tableLoad a 8 = .ok m →
        exec (.tldd b gd ga imm) s = result [.reg g (low m) 24, .reg (g + 1) (high m) 24, .stall 23]))
    ∧ (fitsX b.x 16 →
      (∀ m, x.dataLoad ai 4 = .ok m → exec (.ldwi b gd imm16) s = result [.reg g (word m) 2])
      ∧ (∀ m, g % 2 = 0 → x.dataLoad ai 8 = .ok m →
        exec (.lddi b gd imm16) s = result [.reg g (low m) 2, .reg (g + 1) (high m) 2]))

/-- Stores to the data window (R203, R208, R234): the low bytes of gd, or pair gd, go to ga + i or to inst + i, where the address is
aligned and its words lie in the stripe's write mask; no register is written. -/
def Obligations.StoreResults : Prop :=
  ∀ (s : State) (b : Issue) (x : Ctx) (gd ga : BitVec 6) (imm : BitVec 10) (imm16 : BitVec 16), Alone s b x →
    let a := (x.reg ga.toNat + extended b.x true imm).toNat
    let n := sylWords b.x
    let result (l : List Act) : Result State := .next (retire x n l s)
    let ai := (x.b.inst + extended b.x false imm16).toNat
    let four := leBytes 4 (x.reg gd.toNat).toNat
    let eight := four ++ leBytes 4 (x.reg (gd.toNat + 1)).toNat
    let free (p len : Nat) : Prop := inData p = true ∧ p % len = 0 ∧ x.dataWriteCheck p len = none
    (fitsX b.x 22 →
      (free a 1 → exec (.stb b gd ga imm) s = result [.data a (four.take 1)])
      ∧ (free a 2 → exec (.sth b gd ga imm) s = result [.data a (four.take 2)])
      ∧ (free a 4 → exec (.stw b gd ga imm) s = result [.data a four])
      ∧ (gd.toNat % 2 = 0 → free a 8 → exec (.std b gd ga imm) s = result [.data a eight]))
    ∧ (fitsX b.x 16 →
      (free ai 4 → exec (.stwi b gd imm16) s = result [.data ai four])
      ∧ (gd.toNat % 2 = 0 → free ai 8 → exec (.stdi b gd imm16) s = result [.data ai eight]))

/-- The data stack (R211-R213): PUSH and PUSHD add gd, the low word of a pair first; POP and POPD give the newest entry, the high
word of a pair first. With 64 entries on die the 16 oldest are spilled to the stripe's spill area before a push. -/
def Obligations.DataStackResults : Prop :=
  ∀ (s : State) (b : Issue) (x : Ctx) (gd ga gb : BitVec 6), Alone s b x → b.x = none →
    let u := x.reg gd.toNat
    let v := x.reg (gd.toNat + 1)
    let result (l : List Act) : Result State := .next (retire x 1 l s)
    (x.b.ds.length < 64 →
      exec (.push b gd ga gb 0#4) s = result [.dataStack (u :: x.b.ds) x.b.dsSpilled, .stall 0])
    ∧ (x.b.ds.length < 63 → gd.toNat % 2 = 0 →
      exec (.pushd b gd ga gb 0#4) s = result [.dataStack (v :: u :: x.b.ds) x.b.dsSpilled, .stall 0])
    ∧ (∀ p r, x.b.ds = p :: r →
      exec (.pop b gd ga gb 0#4) s = result [.reg gd.toNat p 1, .dataStack r x.b.dsSpilled, .stall 0])
    ∧ (∀ p q r, x.b.ds = p :: q :: r → gd.toNat % 2 = 0 →
      exec (.popd b gd ga gb 0#4) s
        = result [.reg gd.toNat q 1, .reg (gd.toNat + 1) p 1, .dataStack r x.b.dsSpilled, .stall 0])
    ∧ (x.b.ds.length = 64 → 4 * (x.b.dsSpilled + 16) ≤ x.st.dataSpillLen →
      exec (.push b gd ga gb 0#4) s = result
        ((List.range 16).map (fun i => .spill (x.st.dataSpill + 4 * (x.b.dsSpilled + i)) ((x.b.ds.drop 48).reverse.getD i 0#32))
          ++ [.dataStack (u :: x.b.ds.take 48) (x.b.dsSpilled + 16), .stall 8]))

/-- The timers (R167, R244-R246): with now as SNAP_MONO and START brought back to now where it lies in the future, each opcode stores
START, ET, ACC and STATE as its computation says, and gd takes Q two cycles later. -/
def Obligations.TimerResults : Prop :=
  ∀ (s : State) (b : Issue) (x : Ctx) (gd ga : BitVec 6) (imm : BitVec 10), Alone s b x → fitsX b.x 22 →
    let a := (x.b.inst + extended b.x false imm).toNat
    let now := (x.s.task x.n).snapMono
    let old := readTimer now (x.dataBytes a 0x24)
    let on1 := x.reg ga.toNat ≠ 0#32
    let stored (i : Instr) (t : Timer) : Prop := exec i s = .next (retire x (sylWords b.x)
      [.data (a + 8) (timerBytes t), .reg gd.toNat (if t.q then 1#32 else 0#32) 2] s)
    inData a = true → inData (a + 0x23) = true → a % 8 = 0 → x.dataReadCheck a 0x24 = none →
      x.dataWriteCheck (a + 8) 0x1C = none →
      (∃ t, stored (.ton b gd ga imm) t ∧ t.pt = old.pt ∧ t.acc = old.acc ∧ t.timed = old.timed
        ∧ (on1 → t.start = (if old.prev then old.start else now) ∧ t.q = decide (old.pt ≤ now - t.start)
          ∧ t.et = min (now - t.start) old.pt ∧ t.prev = true)
        ∧ (¬ on1 → t.start = old.start ∧ t.q = false ∧ t.et = 0 ∧ t.prev = false))
      ∧ (∃ t, stored (.tof b gd ga imm) t ∧ t.pt = old.pt ∧ t.acc = old.acc
        ∧ (on1 → t.start = old.start ∧ t.q = true ∧ t.et = 0 ∧ t.timed = false ∧ t.prev = true)
        ∧ (¬ on1 → t.start = (if old.prev then now else old.start) ∧ t.prev = false)
        ∧ (¬ on1 → (old.prev ∨ old.timed) → old.pt ≤ now - t.start → t.q = false ∧ t.et = old.pt ∧ t.timed = false)
        ∧ (¬ on1 → (old.prev ∨ old.timed) → now - t.start < old.pt → t.q = true ∧ t.et = now - t.start ∧ t.timed = true)
        ∧ (¬ on1 → old.prev = false → old.timed = false → t.q = false ∧ t.et = old.et ∧ t.timed = false))
      ∧ (∃ t, stored (.tp b gd ga imm) t ∧ t.pt = old.pt ∧ t.acc = old.acc ∧ t.timed = old.timed ∧ t.prev = decide on1
        ∧ (old.q = true → now - old.start < old.pt → t.q = true ∧ t.start = old.start ∧ t.et = now - old.start)
        ∧ (old.q = false → on1 → old.prev = false → t.start = now ∧ t.q = decide (0 < old.pt) ∧ t.et = 0)
        ∧ (old.q = false → on1 → old.prev = true → t.q = false ∧ t.start = old.start ∧ t.et = old.et)
        ∧ (old.q = false → ¬ on1 → t.q = false ∧ t.start = old.start ∧ t.et = 0)
        ∧ (old.q = true → old.pt ≤ now - old.start → (old.prev ∨ ¬ on1) →
          t.q = false ∧ t.start = old.start ∧ t.et = (if on1 then old.pt else 0))
        ∧ (old.q = true → old.pt ≤ now - old.start → on1 → old.prev = false →
          t.start = now ∧ t.q = decide (0 < old.pt) ∧ t.et = 0))
      ∧ (∃ t, stored (.tacc b gd ga imm) t ∧ t.pt = old.pt ∧ t.timed = old.timed
        ∧ ((x.reg ga.toNat).getLsbD 1 = true →
          t.start = old.start ∧ t.acc = 0 ∧ t.q = false ∧ t.et = 0 ∧ t.prev = false)
        ∧ ((x.reg ga.toNat).getLsbD 1 = false → (x.reg ga.toNat).getLsbD 0 = true →
          t.start = (if old.prev then old.start else now) ∧ t.acc = old.acc ∧ t.prev = true
          ∧ t.q = decide (old.pt ≤ old.acc + (now - t.start)) ∧ t.et = min (old.acc + (now - t.start)) old.pt)
        ∧ ((x.reg ga.toNat).getLsbD 1 = false → (x.reg ga.toNat).getLsbD 0 = false →
          t.start = old.start ∧ t.acc = (if old.prev then min (old.acc + (now - old.start)) (2 ^ 63 - 1) else old.acc)
          ∧ t.prev = false
          ∧ t.q = decide (old.pt ≤ t.acc) ∧ t.et = min t.acc old.pt))

/-- Edges and counters (R248, R249): RTRIG and FTRIG compare the input with the stored one and store it; a counter moves on a rise,
a reset or load bit comes first, CV saturates, and QU and QD say how CV stands to PV and 0. -/
def Obligations.EdgeAndCounterResults : Prop :=
  ∀ (s : State) (b : Issue) (x : Ctx) (gd ga : BitVec 6) (imm : BitVec 10), Alone s b x → fitsX b.x 22 →
    let a := (x.b.inst + extended b.x false imm).toNat
    let w (i : Nat) : Word := BitVec.ofNat 32 (leNat (((x.dataBytes a 0x10).drop (4 * i)).take 4))
    let g := x.reg ga.toNat
    let n1 := decide (g ≠ 0#32)
    let result (l : List Act) : Result State := .next (retire x (sylWords b.x) l s)
    let one (r : Bool) : Word := if r then 1#32 else 0#32
    let pv := (w 0).toInt
    let cv := (w 1).toInt
    let cu := g.getLsbD 0 && !(w 2).getLsbD 0
    let sat (v : Int) : Int := max (-(2 ^ 31)) (min (2 ^ 31 - 1) v)
    let saved (v : Int) (st : Nat) : Act := .data (a + 4) (leInt 4 v ++ leBytes 4 st)
    (inData a = true → inData (a + 3) = true → a % 4 = 0 → x.dataReadCheck a 4 = none → x.dataWriteCheck a 4 = none →
      let prev := (BitVec.ofNat 32 (leNat (x.dataBytes a 4)) : Word).getLsbD 0
      exec (.rtrig b gd ga imm) s = result [.data a (leBytes 4 (bit n1)), .reg gd.toNat (one (n1 && !prev)) 2]
      ∧ exec (.ftrig b gd ga imm) s = result [.data a (leBytes 4 (bit n1)), .reg gd.toNat (one (!n1 && prev)) 2])
    ∧ (inData a = true → inData (a + 15) = true → a % 4 = 0 → x.dataReadCheck a 0xC = none →
      x.dataWriteCheck (a + 4) 8 = none →
      (let v := sat (if g.getLsbD 1 then 0 else if cu then cv + 1 else cv);
        ∃ st : Word, st.getLsbD 0 = g.getLsbD 0 ∧ st.getLsbD 2 = decide (pv ≤ v)
          ∧ exec (.ctu b gd ga imm) s = result [saved v st.toNat, .reg gd.toNat (one (decide (pv ≤ v))) 2])
      ∧ (let v := sat (if g.getLsbD 1 then pv else if g.getLsbD 0 && !(w 2).getLsbD 1 then cv - 1 else cv);
        ∃ st : Word, st.getLsbD 1 = g.getLsbD 0 ∧ st.getLsbD 3 = decide (v ≤ 0)
          ∧ exec (.ctd b gd ga imm) s = result [saved v st.toNat, .reg gd.toNat (one (decide (v ≤ 0))) 2])
      ∧ (gd.toNat % 2 = 0 →
        let cd := g.getLsbD 1 && !(w 2).getLsbD 1
        let v := sat (if g.getLsbD 2 then 0 else if g.getLsbD 3 then pv else if cu && !cd then cv + 1
          else if cd && !cu then cv - 1 else cv);
        exec (.ctud b gd ga imm) s = result
          [saved v (bit (g.getLsbD 0) + 2 * bit (g.getLsbD 1) + 4 * bit (decide (pv ≤ v)) + 8 * bit (decide (v ≤ 0))),
           .reg gd.toNat (one (decide (pv ≤ v))) 2, .reg (gd.toNat + 1) (one (decide (v ≤ 0))) 2]))

/-- Control flow (R196, R198, R237-R239): branches test gd and go to pc + 4 × o, a taken one costs a cycle more; LOOP counts gd
down; jumps go to an aligned register; calls push the next bundle's address with inst; RET takes both back. -/
def Obligations.ControlFlowResults : Prop :=
  ∀ (s : State) (b : Issue) (x : Ctx) (gd ga gb : BitVec 6) (imm : BitVec 16), Alone s b x →
    let d := x.reg gd.toNat
    let u := x.reg ga.toNat
    let n := sylWords b.x
    let next := x.b.pc + 4#32 * BitVec.ofNat 32 n
    let goal := x.b.pc + 4#32 * extended b.x true imm
    let go (p : Word) : List Act := [.jump p, .stall 1]
    let push : List Act := [.retStack ((next, x.b.inst) :: x.b.rs) x.b.rsSpilled, .stall 0]
    let result (l : List Act) : Result State := .next (retire x n l s)
    (fitsX b.x 16 →
      exec (.bnz b gd imm) s = result (if d ≠ 0#32 then go goal else [])
      ∧ exec (.bz b gd imm) s = result (if d = 0#32 then go goal else [])
      ∧ exec (.loop b gd imm) s = result (.reg gd.toNat (d - 1#32) 1 :: if d - 1#32 ≠ 0#32 then go goal else [])
      ∧ (x.b.rs.length < 64 →
        exec (.call b gd imm) s = result (push ++ go goal)
        ∧ exec (.fbcall b gd imm) s = result (push ++ .inst d :: go goal)))
    ∧ (b.x = none →
      exec (.instset b gd ga gb 0#4) s = result [.inst u]
      ∧ exec (.instget b gd ga gb 0#4) s = result [.reg gd.toNat x.b.inst 1]
      ∧ (u.toNat % 4 = 0 →
        exec (.jmpr b gd ga gb 0#4) s = result (go u)
        ∧ (x.b.rs.length < 64 →
          exec (.callr b gd ga gb 0#4) s = result (push ++ go u)
          ∧ exec (.fbcallr b gd ga gb 0#4) s = result (push ++ .inst (x.reg gb.toNat) :: go u)))
      ∧ (∀ p i r, x.b.rs = (p, i) :: r → p.toNat % 4 = 0 →
        exec (.ret b gd ga gb 0#4) s = result ([.retStack r x.b.rsSpilled, .stall 0, .inst i] ++ go p)))

/-- Traps that enter a handler (R194, R209, R217-R221, R230, R237, R250): with the vector of a resumable cause set and room on the
return stack, nothing of the bundle is written, the four trap words hold cause, address, syllable and X, the address of the next
bundle and inst are pushed, and the handler's bundle follows after the entry's stall. FDIV and FSQRT go this way on step B1; where
the vector is the system library's dispatcher, gd takes the quotient or the root. Where that of DIV_ZERO is the library's handler, gd
takes the value that the image names for the task, else 0 for a quotient and the dividend for a remainder; that the handler is one step
is the model's choice (log entry 49). The vectors stand at the head of the root block of the epoch that the cycle runs under. -/
def Obligations.ResumableTrapEntry : Prop :=
  ∀ (s : State) (b : Issue) (x : Ctx) (gd ga gb : BitVec 6) (imm : BitVec 16) (cls : BitVec 3) (op : BitVec 6)
    (rest : BitVec 22) (v : Word), Alone s b x → x.b.rs.length < 64 → v ≠ 0#32 →
    let r := s.region x.region
    let root (cause : Nat) : Prop :=
      Memory.readWord r.code ((if (s.task x.n).epoch = s.ps.epoch then r.root else r.rootOld) + 4 * cause) = v
    let n := sylWords b.x
    let syl (w : Word) : Word := if b.x.isSome then w else w ||| 0x80000000#32
    let ext : Word := match b.x with
      | some y => 0xD0000000#32 ||| y.setWidth 32
      | none => 0#32
    let held (cause sub : Nat) (w : Word) : Ctx := { x with b := { x.b with
      trapCause := BitVec.ofNat 32 (cause + 256 * sub), trapAddr := x.b.pc, trapSyl := syl w, trapX := ext
      bundle := [], chk := .ok, chkSlot := 0 } }
    let entered (cause sub : Nat) (w : Word) : Result State := .next (retire (held cause sub w) n
      [.retStack ((x.b.pc + 4#32 * BitVec.ofNat 32 n, x.b.inst) :: x.b.rs) x.b.rsSpilled, .stall 0, .jump v, .stall 6] s)
    (root 1 → v ≠ (prog s).sysLibVec →
      exec (.fdiv b gd ga gb 0#4) s = entered 1 0 (encRRR 2 0x1A gd ga gb 0#4)
      ∧ exec (.fsqrt b gd ga gb 0#4) s = entered 1 0 (encRRR 2 0x1B gd ga gb 0#4)
      ∧ (let w := encSyl cls.toNat op.toNat (rest.extractLsb' 16 6) (rest.extractLsb' 0 16);
        emulated w = true → exec (.emulatedSyllable b cls op rest) s = entered 1 (emulateSub w) w))
    ∧ (root 1 → v = (prog s).sysLibVec → b.x = none →
      exec (.fdiv b gd ga gb 0#4) s = .next (retire (held 1 0 (encRRR 2 0x1A gd ga gb 0#4)) n
        [.reg gd.toNat (fDiv (x.reg ga.toNat) (x.reg gb.toNat)) 2, .stall 57] s)
      ∧ exec (.fsqrt b gd ga gb 0#4) s = .next (retire (held 1 0 (encRRR 2 0x1B gd ga gb 0#4)) n
        [.reg gd.toNat (fSqrt (x.reg ga.toNat)) 2, .stall 65] s))
    ∧ (root 2 → fitsX b.x 16 →
      exec (.trap b gd imm) s = entered 2 ((extended b.x false imm).toNat % 256) (encRI 4 0x12 gd imm))
    ∧ (root 3 → v ≠ (prog s).sysLibDiv → b.x = none → x.reg gb.toNat = 0#32 →
      exec (.div b gd ga gb 0#4) s = entered 3 0 (encRRR 1 0x28 gd ga gb 0#4)
      ∧ exec (.divu b gd ga gb 0#4) s = entered 3 0 (encRRR 1 0x29 gd ga gb 0#4)
      ∧ exec (.rem b gd ga gb 0#4) s = entered 3 0 (encRRR 1 0x2A gd ga gb 0#4)
      ∧ exec (.remu b gd ga gb 0#4) s = entered 3 0 (encRRR 1 0x2B gd ga gb 0#4))
    ∧ (root 3 → v = (prog s).sysLibDiv → b.x = none → x.reg gb.toNat = 0#32 →
      let given (op : Nat) (dflt : Word) : Result State := .next (retire (held 3 0 (encRRR 1 op gd ga gb 0#4)) n
        [.reg gd.toNat (x.d.divValue.getD dflt) 1, .stall 6] s)
      exec (.div b gd ga gb 0#4) s = given 0x28 0#32 ∧ exec (.divu b gd ga gb 0#4) s = given 0x29 0#32
      ∧ exec (.rem b gd ga gb 0#4) s = given 0x2A (x.reg ga.toNat) ∧ exec (.remu b gd ga gb 0#4) s = given 0x2B (x.reg ga.toNat))

/-- A trap without a handler abandons the task's cycle and publishes nothing (R156, R217, R220): with the vector at zero, SOFT,
DIV_ZERO and EMULATE leave every stored point of the image as it was, as does an access that is misaligned, which is not resumable. -/
def Obligations.UnhandledTrapPublishesNothing : Prop :=
  ∀ (s : State) (b : Issue) (x : Ctx) (gd ga gb : BitVec 6) (imm : BitVec 16) (imm10 : BitVec 10), Alone s b x → b.x = none →
    let r := s.region x.region
    let root (cause : Nat) : Word :=
      Memory.readWord r.code ((if (s.task x.n).epoch = s.ps.epoch then r.root else r.rootOld) + 4 * cause)
    let a := (x.reg ga.toNat + imm10.signExtend 32).toNat
    (root 2 = 0#32 → ∃ t, exec (.trap b gd imm) s = .next t ∧ t.img = s.img)
    ∧ (root 3 = 0#32 → x.reg gb.toNat = 0#32 → ∃ t, exec (.div b gd ga gb 0#4) s = .next t ∧ t.img = s.img)
    ∧ (root 1 = 0#32 → ∃ t, exec (.fdiv b gd ga gb 0#4) s = .next t ∧ t.img = s.img)
    ∧ (inData a = true → a % 4 ≠ 0 → ∃ t, exec (.ldw b gd ga imm10) s = .next t ∧ t.img = s.img)

/-- BARRIER and TEND (R157, R240, R241): the engine of the stripe has arrived at barrier n, or has ended the task's cycle; the image
as stored does not change. -/
def Obligations.BarrierAndTaskEnd : Prop :=
  ∀ (s : State) (b : Issue) (x : Ctx) (gd : BitVec 6) (imm : BitVec 16), Alone s b x → fitsX b.x 16 →
    (∃ t, exec (.barrier b gd imm) s = .next t ∧ (t.task x.n).barrier = some (extended b.x false imm).toNat
      ∧ stripeEngine x.st ∈ (t.task x.n).arrived ∧ t.img = s.img)
    ∧ (∃ t, exec (.tend b gd imm) s = .next t ∧ stripeEngine x.st ∈ (t.task x.n).ended ∧ t.img = s.img)

/-- A bundle that only writes its bank's registers, stacks, generators, inst and pc changes nothing else (R197, R201): the state is
as before but for the banks of its engine, the other engine of a PAIRED pair, and the debug step that the issue uses up. -/
def Obligations.RegisterBundleFrame : Prop :=
  ∀ (x : Ctx) (n : Nat) (acts : List Act) (s : State), (∀ a ∈ acts, bankOnly a = true) →
    let t := retire x n acts s
    ({ t with eng := { t.eng with banks := s.eng.banks, step := s.eng.step } } : State) = s
    ∧ ∀ e c, e < 16 → c < 4 → x.e < 16 → x.c < 4 → e ≠ x.e → (e ≠ x.e + 1 ∨ isPaired s (x.e / 4) = false) →
      t.bank e c = s.bank e c

/-- A register result lands at the end of its latency and not before (R187, R197): with no write in flight, the register reads its old
value at every cycle before the end of the latency and the result after it; every other register keeps its value; a write to g0 is
discarded. -/
def Obligations.ResultLandsAfterLatency : Prop :=
  ∀ (x : Ctx) (n r lat : Nat) (v : Word) (s : State), x.e < 16 → x.c < 4 → 0 < lat → x.b.inflight = [] →
    let b := (retire x n [.reg r v lat] s).bank x.e x.c
    (∀ cycle k, k ≠ r ∨ r = 0 → (land cycle b).g.get 0#32 k = x.b.g.get 0#32 k)
    ∧ (r ≠ 0 → ∀ cycle, (cycle < x.b.cycles + lat → (land cycle b).g.get 0#32 r = x.b.g.get 0#32 r)
      ∧ (x.b.cycles + lat ≤ cycle → (land cycle b).g.get 0#32 r = v))
    ∧ b.pc = x.b.pc + 4#32 * BitVec.ofNat 32 n ∧ b.cycles = x.b.cycles + 1

/-- A store changes its bytes and no other (R200, R203, R208): the data SRAM of the engine's region holds the stored bytes at the
address, every other byte of every region's data and all code are as before, and so are the image, the field side and the tables. -/
def Obligations.StoreChangesItsBytesOnly : Prop :=
  ∀ (x : Ctx) (n a : Nat) (m : Bytes) (s : State),
    let t := retire x n [.data a m] s
    let off := a - 0x10000000
    (∀ i, i < m.length → Memory.readByte (t.region x.region).data (off + i) = m.getD i 0#8)
    ∧ (∀ p k, (p ≠ x.region ∨ k < off ∨ off + m.length ≤ k) →
      Memory.readByte (t.region p).data k = Memory.readByte (s.region p).data k)
    ∧ (∀ p k, Memory.readByte (t.region p).code k = Memory.readByte (s.region p).code k)
    ∧ t.img = s.img ∧ t.fld = s.fld ∧ t.eng.tables = s.eng.tables ∧ t.ldg = s.ldg ∧ t.host = s.host

/-- An image store reaches the task's private buffer and nothing outside it (R153): the point reads the value there, every other
point of the buffer, the stored image, all region memories and every other task are as before. -/
def Obligations.ImageStoreStaysPrivate : Prop :=
  ∀ (x : Ctx) (n a : Nat) (v : Word) (s : State),
    let t := retire x n [.point a v] s
    (∀ p, (t.task x.n).buf.get none p = if p = a then some v else (s.task x.n).buf.get none p)
    ∧ (∀ k, k ≠ x.n → t.task k = s.task k) ∧ (∀ p, t.region p = s.region p) ∧ t.img = s.img ∧ t.fld = s.fld

/-- A syllable without STOP, with room for one more in the code window, only joins its bundle (R190, R195): the bundle is longer by
the syllable and its X, and nothing issues. One that takes the window's last word leaves the bundle cut short, and that breaks a
rule of its form. -/
def Obligations.SyllableJoinsBundle : Prop :=
  ∀ (s : State) (b : Issue) (x : Ctx) (w : Word), leadEngine s b.e = x.e → mayIssue s x.e = true →
    activeClass s x.e = some x.c → context s x.e x.c = some x → b.stop = false → b.chk = .ok →
    x.b.bundle.length + sylWords b.x < 8 →
    (x.b.pc.toNat + 4 * (x.b.bundle.length + sylWords b.x) < codeSize →
      deliverSyl b w s = copyPair x.e x.c (s.setBank x.e x.c { x.b with bundle := x.b.bundle ++ delivered b w }))
    ∧ (x.b.pc.toNat + 4 * (x.b.bundle.length + sylWords b.x) = codeSize → ∃ rule slot,
      breaksRule (x.b.bundle ++ delivered b w) true = some (rule, slot)
      ∧ deliverSyl b w s = takeTrap x (x.b.pc + 4#32 * BitVec.ofNat 32 (x.b.bundle.length + sylWords b.x)) (4, rule) slot
        (x.b.bundle ++ delivered b w) { s with eng.step := s.eng.step &&& ~~~(1#16 <<< x.e) })

/-- Supplies and pins that change no power state (R58, R60-R63, R71, R82, R118, R121, R523): each command takes the voltage it reports
and leaves everything else alone; VIN below 16.0 V starts the qualification and 16.0 V or more ends it; in RUN and SLUMBER the charger
works while VHOLD is below its target, and the reserve flag follows VHOLD and the capacitance in force, the measured one in whole µF
(log entry 45); a supply beyond its absolute maximum rating is the one stop of the model. -/
def Obligations.SupplyInputsAreTaken : Prop :=
  ∀ (s : State) (t mv : Nat),
    let u := advance t s
    let works : Bool := decide (s.power.state = .run ∨ s.power.state = .slumber)
    let reserveBad (v : Nat) : Bool :=
      decide (425 * (s.power.cMeasuredUf.getD s.power.cBoardUf) * (v * v - 144000000) < 204 * 10 ^ 11)
    (60000 < mv → exec (.vinGood t mv) s = .fault .overstress ∧ exec (.vinFall t mv) s = .fault .overstress)
    ∧ (4000 < mv → exec (.vrtcApplied t mv) s = .fault .overstress)
    ∧ (mv ≤ 60000 →
      (mv < 17000 ∨ (s.power.state ≠ .off ∧ s.power.state ≠ .backup) → exec (.vinGood t mv) s = .next { u with
        power.vinMv := mv, power.vinOk := s.power.vinOk || decide (17000 ≤ mv)
        power.vinLowAt := if 16000 ≤ mv then none else s.power.vinLowAt
        power.vaonIn := s.power.vaonIn || decide (17000 ≤ mv) })
      ∧ (mv < 16000 → exec (.vinFall t mv) s = .next { u with
        power.vinMv := mv, power.vinOk := false, power.vaonIn := false
        power.vinLowAt := some (s.power.vinLowAt.getD u.now) })
      ∧ (16000 ≤ mv → exec (.vinFall t mv) s = .next { u with power.vinMv := mv, power.vinLowAt := none }))
    ∧ (works = false → exec (.vholdCollapse t mv) s = .next { u with power.vholdMv := mv })
    ∧ (works = true → ∃ v, exec (.vholdCollapse t mv) s = .next v ∧ v.power.vholdMv = mv
      ∧ v.power.charging = decide (mv < 1000 * s.power.vholdSet) ∧ v.power.reserveLow = reserveBad mv
      ∧ v.power.state = s.power.state)
    ∧ (mv ≤ 4000 → s.power.state ≠ .off → exec (.vrtcApplied t mv) s = .next { u with power.vrtcMv := mv })
    ∧ (mv ≤ 4000 → 1600 ≤ mv → s.power.state = .off → s.power.vaonGood = false →
      exec (.vrtcApplied t mv) s = .next { u with power.vrtcMv := mv, power.state := .backup, power.vaonGood := true
                                                  clk.since := (s.clk.since.set 0 0 u.now).set 0 2 u.now
                                                  cal.secondAt := u.now })
    ∧ (16000 ≤ s.power.vinMv → s.power.vaonGood = true →
      exec (.vaonHandover t) s = .next { u with power.vaonIn := true })
    ∧ (s.power.state = .run → s.power.service = .resetHeld → s.clk.rcHold = false →
      exec (.resetNRelease t) s = .next { u with
        power.resetLow := false, power.service := .booting, power.bootAt := u.now })
    ∧ (∀ f c us, f < c →
      let measured := s.power.chargeMa * us / (c - f)
      let low := decide (425 * measured * (c * c - 144000000) < 204 * 10 ^ 11)
      let charging := works && decide (c < 1000 * s.power.vholdSet)
      (low = false → exec (.holdupChargeDone t f c us) s = .next { u with
        power.vholdMv := c, power.charging := charging, power.reserveLow := false, power.cMeasuredUf := some measured })
      ∧ ∃ v, exec (.holdupChargeDone t f c us) s = .next v ∧ v.power.vholdMv = c ∧ v.power.charging = charging
        ∧ v.power.reserveLow = low ∧ v.power.cMeasuredUf = some measured)

/-- A power-up (R60, R64, R65, R522): VIN through 17.0 V from OFF or BACKUP turns the rails on; the start-up table is due, the charger
runs where VHOLD is below its target, the always-on domain counts; the field dies, the Ledger and the keys are as before. -/
def Obligations.PowerUpTurnsRailsOn : Prop :=
  ∀ (s : State) (t mv : Nat), s.power.state = .off ∨ s.power.state = .backup → 17000 ≤ mv → mv ≤ 60000 →
    ∃ u, exec (.vinGood t mv) s = .next u ∧ u.power.state = .run ∧ u.power.restart = some .power
      ∧ u.power.service = (if s.power.resetLow then .resetHeld else .booting) ∧ u.power.charging = decide (s.power.vholdMv < 1000 * s.power.vholdSet)
      ∧ u.power.vaonGood = true ∧ u.power.vaonIn = true ∧ u.power.vinMv = mv ∧ u.power.vinLowAt = none
      ∧ u.power.bootAt = u.now ∧ u.fld = s.fld ∧ u.ldg = s.ldg ∧ u.sec = s.sec ∧ u.ps = s.ps ∧ u.net = s.net

/-- HOLDUP (R71, R72, R266, R318, R323, R337, R406, R511, R514): VIN below 16.0 V for 200 µs leaves VALID at 0, Tally and Rime
stopped, no bank in use, every die in hold, every count saved, no slot, debug session or token; the module starts again once VIN has
been at 17.0 V, else it goes to BACKUP with the always-on rail fed or to OFF with TIME_LOST latched. A command that ends after step 3
leaves the module in HOLDUP, with no region powered and Rime still running, until the next one ends it (log entry 45). RESET_N low does
the same as HOLDUP and holds the logic in reset. -/
def Obligations.HoldupLeavesOutputsHeld : Prop :=
  ∀ (s : State) (t : Nat),
    let quiet (u : State) : Prop :=
      u.pair.valid = false ∧ u.sup.tallyOn = false ∧ u.rime.mode = 0 ∧ u.eng.banks = [] ∧ u.panel.slot = none
      ∧ u.sec.token = none ∧ u.sec.dbg = [] ∧ u.host.stream = {}
      ∧ (∀ d, d < 4 → (u.die d).hold = true ∧ (u.die d).holding = true)
      ∧ (∀ c, c < 64 → u.fld.savedCounts.get 0#32 c = (s.chan c).count)
    let ends (u : State) : Prop := quiet u
      ∧ (s.power.vinOk = true → u.power.state = .run ∧ u.power.restart = some .holdup)
      ∧ (s.power.vinOk = false → 16000 ≤ s.power.vinMv ∨ 1600 ≤ s.power.vrtcMv → u.power.state = .backup)
      ∧ (s.power.vinOk = false → s.power.vinMv < 16000 → s.power.vrtcMv < 1600 → u.power.state = .off ∧ u.time.timeLost = true)
    (∀ a, s.power.vinLowAt = some a → a + 200000 ≤ (advance t s).now → s.power.state = .run ∨ s.power.state = .slumber →
      (∃ u, exec (.holdupEntry ⟨t, true⟩) s = .next u ∧ ends u)
      ∧ ∃ u, exec (.holdupEntry ⟨t, false⟩) s = .next u ∧ u.power.state = .holdup ∧ u.power.charging = false
        ∧ u.pair.valid = false ∧ u.sup.tallyOn = false ∧ u.eng.banks = [] ∧ u.eng.regions = [] ∧ u.rime.mode = s.rime.mode
        ∧ ∀ d, d < 4 → (u.die d).hold = true)
    ∧ (∀ through, s.power.state = .holdup → ∃ u, exec (.holdupEntry ⟨t, through⟩) s = .next u ∧ u.rime.mode = 0
        ∧ (∀ c, c < 64 → u.fld.savedCounts.get 0#32 c = (s.chan c).count)
        ∧ (s.power.vinOk = true → u.power.state = .run ∧ u.power.restart = some .holdup)
        ∧ (s.power.vinOk = false → u.power.state = .backup ∨ u.power.state = .off))
    ∧ (s.power.resetLow = false → s.power.state = .run → s.power.service = .full →
      ∃ u, exec (.resetNAssert t) s = .next u ∧ quiet u ∧ u.power.service = .resetHeld ∧ u.power.resetLow = true
        ∧ u.power.restart = some .resetN ∧ u.time.running = false)

/-- SLUMBER and what leaves it (R64, R66, R68-R70, R81, R96, R108, R118-R121): at a BASE boundary with no task running the dies hold,
Rime and Tally stop and only RC_SLOW and XS stay READY; WAKE_N low for 1 µs and ALARM_TAI wake the module where the request allows it,
and record which it was; a VAON that falls without a source latches TIME_LOST. The detector's 1.60 V is the model's choice within its
tolerance (log entry 45). -/
def Obligations.SlumberAndWake : Prop :=
  ∀ (s : State) (t : Nat),
    (s.power.slumberReq = true → s.power.state = .run → boundary (advance t s) = true →
      (∀ p ∈ s.scan.tasks, p.2.state ≠ .running) → s.power.vinLowAt = none → s.power.keptWake = .none → s.power.slumberStep = 0 →
      ∃ u, exec (.slumberEntry ⟨t, none⟩) s = .next u ∧ u.power.state = .slumber ∧ u.power.slumberReq = false
        ∧ u.power.slumberAt = (advance t s).now ∧ u.rime.mode = 0 ∧ u.sup.tallyOn = false
        ∧ (∀ d, d < 4 → (u.die d).hold = true) ∧ (∀ i, i < 6 → i ≠ 0 → i ≠ 2 → u.clk.ready.getLsbD i = false))
    ∧ (∀ ns, s.power.state = .slumber →
      (s.power.wakeEv.getLsbD 79 = false → 1000 ≤ ns → s.power.wakeFlags.getLsbD 0 = true →
        ∃ u, exec (.wakeNLow t ns) s = .next u ∧ u.power.state = .run ∧ u.power.lastWake = .wakeN)
      ∧ (s.power.wakeEv.getLsbD 79 = true →
        ∃ u, exec (.wakeNLow t ns) s = .next u ∧ u.power.state = .run ∧ u.power.lastWake = .event 79)
      ∧ (s.power.wakeEv.getLsbD 79 = false → ns < 1000 ∨ s.power.wakeFlags.getLsbD 0 = false →
        ∃ u, exec (.wakeNLow t ns) s = .next u ∧ u.power.state = .slumber))
    ∧ (s.power.state = .slumber → s.power.alarmTai ≠ 0 → s.power.alarmTai ≤ (advance t s).time.tai →
      ∃ u, exec (.alarmTaiWake t) s = .next u ∧ u.power.state = .run ∧ u.power.lastWake = .alarm)
    ∧ (∀ mv, s.power.vaonIn = true ∨ 1600 ≤ mv →
      exec (.timeLostDetect t mv) s = .next { advance t s with power.vrtcMv := mv })
    ∧ (∀ mv, s.power.vaonIn = false → s.power.vaonGood = true → mv < 1600 →
      ∃ u, exec (.timeLostDetect t mv) s = .next u ∧ u.time.timeLost = true ∧ u.power.vaonGood = decide (16000 ≤ s.power.vinMv)
        ∧ (s.power.vinMv < 16000 → s.power.state = .backup → u.power.state = .off)
        ∧ (16000 ≤ s.power.vinMv ∨ s.power.state ≠ .backup → u.power.state = s.power.state)
        ∧ u.power.vrtcMv = mv ∧ u.cal.year = 2000 ∧ u.cal.month = 1 ∧ u.cal.day = 1 ∧ u.cal.hour = 0 ∧ u.cal.minute = 0
        ∧ u.cal.second = 0 ∧ u.clk.slowRc = true ∧ u.sup.trips = 0)

/-- What happens at a BASE boundary (R161, R165, R279, R412, R413): a stop request stops the program and leaves the dies, the
channels and Rime as they are; a committed edit whose S has come switches the epoch; a handover swaps the roles of a pair in step.
The roles that the two modules end in are the model's reading of the exchange (log entry 31). -/
def Obligations.BoundaryChanges : Prop :=
  ∀ (s : State) (t : Nat), boundary s = true →
    (s.scan.stopPending = true → s.edit.epoch = none → s.edit.switchAt = none → s.ps.prog.isSome = true →
      ∃ v, exec (.stopRequestApply t) s = .next v ∧ v.scan.mode = 1 ∧ v.scan.stopPending = false ∧ v.fld = s.fld
        ∧ v.rime = s.rime ∧ v.panel.slot = none ∧ v.img = s.img ∧ ∀ n, n ∈ s.scan.tasks.keys → (v.task n).state = .idle)
    ∧ (∀ e, s.edit.epoch = some e → s.edit.state = 2 → s.scan.mode = 2 → s.edit.switchScan ≤ s.scan.scan →
      s.pair.role = .solo ∨ s.pair.role = .keeper →
      ∃ v, exec (.epochSwitch t) s = .next v ∧ v.ps.epoch = s.ps.epoch + 1 ∧ v.ps.prog = some e.result
        ∧ v.edit.state = (if v.edit.epoch = none then 4 else 3) ∧ v.sup.switchPeriods = 2
        ∧ ∀ c, (v.chan c).latch = (s.chan c).latch ∧ (v.chan c).tripped = (s.chan c).tripped ∧ (v.chan c).qx = (s.chan c).qx
          ∧ (v.chan c).pulseEnd = (s.chan c).pulseEnd ∧ (v.chan c).safAt = (s.chan c).safAt ∧ (v.chan c).count = (s.chan c).count)
    ∧ (∀ S, s.pair.handover = some S → S ≤ s.scan.scan → s.pair.role = .keeper → s.pair.state = 3 → S ≤ s.pair.ackScan + 1 →
      s.upd.phase = 0 → s.upd.state ≠ 4 → s.pair.targetHealth ≤ (partnerTarget s).toNat / 256 % 128 →
      ∃ v, exec (.handover t) s = .next v ∧ v.pair.role = .apprentice ∧ v.pair.shipping = false ∧ v.pair.handover = none
        ∧ v.pair.takeovers = (s.pair.takeovers + 1) % 2 ^ 32 ∧ v.pair.lastScan = S ∧ v.fld.dies = s.fld.dies)
    ∧ ∀ S, s.pair.handover = some S → S ≤ s.scan.scan → s.pair.role = .apprentice → s.pair.state = 3 →
      (s.pair.shipped.get none 0).isSome = true → s.upd.phase = 0 → s.upd.state ≠ 4 → s.upd.state ≠ 6 →
      (partnerTarget s).toNat / 256 % 128 ≤ s.pair.targetHealth →
      ∃ v, exec (.handover t) s = .next v ∧ v.pair.role = .keeper ∧ v.pair.shipping = true ∧ v.pair.handover = none
        ∧ v.pair.lastScan = S ∧ v.pair.shipped = [] ∧ v.fld.dies = s.fld.dies

/-- The calendar (R118-R136): a whole second counts on and the end of a day carries into the next; a halt of 10 s ends; CAL_SET's
MODE 1 halts, MODE 0 waits in line for the next whole second, and a value that takes effect steps TAI to it, clears TIME_LOST and
leaves MONO but for the wait for its next 1 µs; 10 min at one temperature move the learned trim; the trim curve, the backup charger
and the leap table are taken in their ranges. How far the learned trim moves is free (log entry 5). -/
def Obligations.CalendarKeepsTime : Prop :=
  ∀ (s : State) (t : Nat) (mb : Fin 8) (w : Work),
    let u := advance t s
    (∀ temp, s.power.vaonGood = true → s.cal.next = [] → s.cal.halted = false → s.cal.reload = false → s.cal.second < 58 →
      ∃ v, exec (.calendarSecond t temp) s = .next v ∧ v.cal.second = s.cal.second + 1 ∧ v.cal.minute = s.cal.minute
        ∧ v.cal.hour = s.cal.hour ∧ v.cal.day = s.cal.day ∧ v.cal.month = s.cal.month ∧ v.cal.year = s.cal.year
        ∧ v.time.tai = u.time.tai ∧ v.time.mono = u.time.mono)
    ∧ (∀ temp, s.power.vaonGood = true → s.cal.next = [] → s.cal.halted = false → s.cal.reload = false → leapToday s = 0 →
      s.cal.hour = 23 → s.cal.minute = 59 → s.cal.second = 59 → (dateOf (calDay s + 1)).1 < 2400 →
      ∃ v, exec (.calendarSecond t temp) s = .next v ∧ v.cal.second = 0 ∧ v.cal.minute = 0 ∧ v.cal.hour = 0
        ∧ (v.cal.year, v.cal.month, v.cal.day) = dateOf (calDay s + 1))
    ∧ (∀ temp, s.power.vaonGood = true → s.cal.next = [] → s.cal.halted = true →
      ∃ v, exec (.calendarSecond t temp) s = .next v ∧ v.cal.second = s.cal.second ∧ v.cal.minute = s.cal.minute)
    ∧ (∀ temp c, s.power.vaonGood = true → s.cal.next = [c] →
      ∃ v, exec (.calendarSecond t temp) s = .next v ∧ v.time.timeLost = false ∧ v.cal.next = [] ∧ v.cal.second = c.second
        ∧ v.cal.minute = c.minute ∧ v.cal.hour = c.hour ∧ v.cal.day = c.day ∧ v.cal.month = c.month ∧ v.cal.year = c.year
        ∧ v.time.mono = (u.time.mono + 999) / 1000 * 1000)
    ∧ (∀ r, s.cal.auto = true → s.time.state = 2 → s.cal.learnAt + 600000000000 ≤ u.now →
      ∃ k, exec (.trimLearnInterval t r) s = .next { u with
          eng.fresh := s.eng.fresh + 1, cal.learned := k
          cal.learnAt := u.now, cal.learnLo := s.cal.temp, cal.learnHi := s.cal.temp }
        ∧ -3000 ≤ k ∧ k ≤ 3000)
    ∧ (s.cal.auto = false ∨ s.time.state ≠ 2 ∨ u.now < s.cal.learnAt + 600000000000 →
      ∀ r, exec (.trimLearnInterval t r) s = .next u)
    ∧ (s.cal.halted = true → s.cal.haltAt + 10000000000 ≤ (advance t s).now →
      exec (.calHaltTimeout t) s = .next (logFault 0x34 0 (whr 4 0 0) 0#32 0#32
        { u with cal.halted := false, cal.reload := true }))
    ∧ (Asks s mb 0x0206 w → s.time.state ≠ 2 → s.pair.role ≠ .station → s.power.state ≠ .holdup → field w.payload 0 1 0 = 1 →
      ∃ p, exec (.calSet t mb) s = .next (finish w DONE p
        { u with cal.halted := true, cal.haltAt := if s.cal.halted then s.cal.haltAt else u.now, cal.subsec := subsecNow u }))
    ∧ (Asks s mb 0x0206 w → s.time.state ≠ 2 → s.pair.role ≠ .station → s.power.state ≠ .holdup → field w.payload 0 1 0 = 0 →
      ∃ v c, exec (.calSet t mb) s = .next v ∧ v.time = u.time ∧ v.cal = { s.cal with next := s.cal.next ++ [c] } ∧ c.wid = w.wid)
    ∧ (Asks s mb 0x0206 w → s.time.state = 2 → exec (.calSet t mb) s = .next (finish w WRONG_STATE [] u))
    ∧ (Asks s mb 0x0207 w → s.power.state ≠ .holdup → w.payload = [] →
      ∃ p, exec (.calTrimCurve t mb) s = .next (finish w DONE p { u with cal.curve := defaultCurve, cal.auto := true }))
    ∧ (Asks s mb 0x0208 w → s.power.state ≠ .holdup → ∀ m, m = (if 2 < field w.payload 0 1 0 then 0 else field w.payload 0 1 0) →
      ∃ p, exec (.backupCfg t mb) s = .next (finish w DONE p
        { u with eng.fresh := s.eng.fresh + 1, cal.backupMode := m, cal.backupSet := true }))
    ∧ (Asks s mb 0x0209 w → s.power.state ≠ .holdup →
      ∀ es, es = leapEntries w.payload (min (min 64 (field w.payload 2 2 0)) ((w.payload.length - 8) / 8)) 8 →
      es.all (fun e => e.2 ≠ 0 && lastOfMonth e.1) = true → daysAscend es = true →
      ∃ p v, exec (.leapTableSet t mb) s = .next (finish w DONE p v) ∧ v.cal.leaps = es ∧ v.cal.leapLoaded = true
        ∧ v.cal.baseOffset = clampI 0 127 (fieldS w.payload 0 2 32) ∧ v.time = u.time ∧ (v.ldg.mram.get none 0xFF01).isSome = true)

/-- Status reads that clear what they report (R114, R325, R342, R364, R449, R548): the answer carries the flags as they stood, and
after it they are clear. -/
def Obligations.StatusReadsClearWhatTheyReport : Prop :=
  ∀ (s : State) (t : Nat) (mb : Fin 8) (w : Work),
    let u := advance t s
    (Asks s mb 0x0201 w → ∃ p k, exec (.clkStatus t mb) s = .next (finish w DONE p { u with clk.fail := 0#6, eng.fresh := k })
      ∧ p.take 4 = leBytes 1 s.clk.ready.toNat ++ leBytes 1 s.clk.fail.toNat ++ leBytes 1 (bit s.clk.sysRefRc)
        ++ leBytes 1 (bit s.clk.slowRc))
    ∧ (Asks s mb 0x0A04 w → ∃ p, exec (.ldgStatus t mb) s = .next (finish w DONE p { u with
        ldg.findings := 0#16, ldg.magPeak := s.ldg.magNow }) ∧ slice p 2 2 = leBytes 2 s.ldg.findings.toNat)
    ∧ (Asks s mb 0x0502 w → s.pair.role ≠ .station → ∀ n, n = min 3 (field w.payload 0 1 0) →
      ∃ p v, exec (.fldStatus t mb) s = .next (finish w DONE p v) ∧ v.fld.dies = (s.fld.dies.set {} n { s.die n with lostPower := false })
        ∧ (∀ k, k < 16 → v.chan (16 * n + k) = { s.chan (16 * n + k) with faults := 0#16 })
        ∧ (∀ c, c / 16 ≠ n → v.chan c = s.chan c) ∧ v.img = s.img)
    ∧ (Asks s mb 0x0603 w → ∃ p, exec (.pnlStatus t mb) s = .next (finish w DONE p { u with
        panel.faults := 0#64, eng.fresh := s.eng.fresh + 1 }) ∧ p.length = 32 ∧ slice p 8 8 = leBytes 8 s.panel.faults.toNat)
    ∧ (Asks s mb 0x0705 w → field w.payload 0 1 0 = 1 → ∃ p, exec (.netStatus t mb) s = .next (finish w DONE p
        (setSub (min (field w.payload 1 1 0) 127) { s.net.subs.get {} (min (field w.payload 1 1 0) 127) with flags := 0#8 } u))
        ∧ p.take 6 = macBytes s.net.mac)
    ∧ (Asks s mb 0x0705 w → field w.payload 0 1 0 = 0 → ∃ p, exec (.netStatus t mb) s = .next (finish w DONE p u)
        ∧ p.take 6 = macBytes s.net.mac)
    ∧ (Asks s mb 0x0E05 w → ∃ p, exec (.updStatus t mb) s = .next (finish w DONE p { u with upd.lastCmd := u.now })
        ∧ p.length = 24 ∧ p.take 4 = leBytes 1 s.upd.state ++ leBytes 1 s.upd.cause ++ leBytes 2 s.upd.id)

/-- The clock tree (R65, R84, R85, R89, R91-R96, R115): what becomes READY, what SLOW then runs on and when a wake completes; crystals
that do not start and monitors that trip; the single restart of PLL_NET; switches of SYS_REF and profile changes at the BASE boundary,
of SLOW at a whole second; the hold of a profile change does not count in any cycle's time. -/
def Obligations.ClockTreeEvents : Prop :=
  ∀ (s : State) (t : Nat),
    let u := advance t s
    (∀ src, src = .rcSlow ∨ src = .rcFast ∨ src = .pllNet → mayReady u src = true →
      exec (.clockReady t src) s = .next { u with clk.ready := s.clk.ready ||| (1#6 <<< srcBit src) })
    ∧ (mayReady u .xs = true → ∃ v, exec (.clockReady t .xs) s = .next v ∧ v.clk.ready = s.clk.ready ||| 4#6
      ∧ v.clk.xsWasReady = true ∧ v.clk.slowRc = (s.clk.slowRc && (s.clk.xsWasReady || s.clk.monitorSwitched))
      ∧ v.time = u.time ∧ v.power = u.power)
    ∧ (mayReady u .xm = true → exec (.clockReady t .xm) s = .next { u with
      clk.ready := s.clk.ready ||| 8#6
      clk.since := if s.clk.sysRefRc ∨ s.clk.ready.getLsbD 3 = true then s.clk.since else (s.clk.since.set 0 4 u.now).set 0 5 u.now })
    ∧ (mayReady u .pllSys = true →
      (s.power.waking = false → exec (.clockReady t .pllSys) s = .next { u with clk.ready := s.clk.ready ||| 16#6 })
      ∧ (s.power.waking = true → ∃ v, exec (.clockReady t .pllSys) s = .next v ∧ v.clk.ready = s.clk.ready ||| 16#6
        ∧ v.power.waking = false ∧ v.sup.tallyOn = true ∧ v.rime.mode = (if s.ps.prog.isSome then 2 else 0)))
    ∧ (∀ src, mayReady u src = false → exec (.clockReady t src) s = .next u)
    ∧ (s.power.state = .run → s.clk.ready.getLsbD 3 = false → s.clk.xmFail = false →
      s.clk.since.get 0 3 + 4 * s.bcr.xmStart * 500000 ≤ u.now →
      ∃ v, exec (.xmStartTimeout t) s = .next v ∧ v.clk.xmFail = true ∧ v.clk.sysRefRc = true ∧ v.clk.fail.getLsbD 3 = true
        ∧ v.clk.ready.getLsbD 5 = false ∧ v.net.link = 0#2 ∧ v.ring.link = 0#2 ∧ v.pair.lanes = 0#2
        ∧ (s.pair.role = .keeper → v.pair.valid = false))
    ∧ (s.power.vaonGood = true → s.clk.ready.getLsbD 2 = false → s.clk.xsFail = false →
      s.clk.since.get 0 2 + 2 * s.bcr.xsStart * 100000000 ≤ u.now →
      exec (.xsStartTimeout t) s = .next (logFault 0x30 2 (whr 4 0 0) 2#32 0#32 { setSlow true u with
        clk.xsFail := true, clk.monitorSwitched := true
        clk.ready := s.clk.ready &&& ~~~4#6, clk.fail := s.clk.fail ||| 4#6 }))
    ∧ (s.power.state = .run → s.clk.monitorsOff = false → s.clk.ready.getLsbD 3 = true →
      ∃ v, exec (.clockMonitorTrip t .xm) s = .next v ∧ v.clk.xmFail = true ∧ v.clk.sysRefRc = true
        ∧ v.clk.ready.getLsbD 3 = false ∧ v.clk.ready.getLsbD 5 = false ∧ v.net.link = 0#2 ∧ v.pair.lanes = 0#2)
    ∧ (s.power.state ≠ .off → s.clk.ready.getLsbD 2 = true →
      exec (.clockMonitorTrip t .xs) s = .next (logFault 0x30 2 (whr 4 0 0) 2#32 0#32 { setSlow true u with
        clk.xsFail := true, clk.monitorSwitched := true
        clk.ready := s.clk.ready &&& ~~~4#6, clk.fail := s.clk.fail ||| 4#6 }))
    ∧ (∀ a, s.power.state = .run → s.clk.pllNetAt = some a → (advance t s).now ≤ a + 10000000 →
      ∃ v, exec (.pllNetRelock t true) s = .next v ∧ v.clk.ready = s.clk.ready ||| 32#6 ∧ v.clk.pllNetAt = none
        ∧ v.net.link = s.clk.pllNetLinks.extractLsb' 0 2 ∧ v.ring.link = s.clk.pllNetLinks.extractLsb' 2 2
        ∧ v.pair.lanes = s.clk.pllNetLinks.extractLsb' 4 2)
    ∧ (∀ a, s.power.state = .run → s.clk.pllNetAt = some a →
      exec (.pllNetRelock t false) s = .next { u with clk.pllNetAt := none })
    ∧ (s.clk.rcHold = true → exec (.rcFastRetry t true) s = .next { u with
        clk.rcHold := false, clk.ready := s.clk.ready ||| 2#6
        power.service := if s.power.resetLow then .resetHeld else .booting })
    ∧ (∀ target, s.clk.switch = some (1, target) →
      (atWholeSecond u = true → exec (.clockSwitchApply t) s = .next { setSlow (decide (target ≠ 0)) u with
        clk.switch := none, clk.xsFail := s.clk.xsFail && decide (target ≠ 0) })
      ∧ (atWholeSecond u = false → exec (.clockSwitchApply t) s = .next u))
    ∧ (s.clk.switch = some (0, 0) → boundary u = true → exec (.clockSwitchApply t) s = .next { u with
        clk.switch := none, clk.sysRefRc := false, clk.xmFail := false, clk.since := s.clk.since.set 0 5 u.now })
    ∧ (∀ p wid, s.scan.bnd = [.profile p wid] → boundary u = true → (s.host.works.find? fun v => v.wid = wid) = none →
      exec (.profileChangeApply t) s = .next { u with
        scan.bnd := [], power.profile := p, power.releaseHold := true, power.holdSince := u.time.mono })
    ∧ (s.power.releaseHold = true → s.power.heldReleases = [] →
      ∃ v, exec (.pllSysSettled t) s = .next v ∧ v.power = { s.power with releaseHold := false } ∧ ∀ n,
        v.task n = (if (s.task n).state = .idle then s.task n else { s.task n with
          releasedAt := (s.task n).releasedAt + (u.time.mono - max (s.task n).releasedAt s.power.holdSince) }))
    ∧ ∀ (mb : Fin 8) (w : Work), Asks s mb 0x0202 w → s.power.state ≠ .holdup → s.clk.switch = none →
      ∀ dom target, dom = min 1 (field w.payload 0 1 0) →
        target = (if 1 < field w.payload 1 1 0 then 0 else field w.payload 1 1 0) → (dom = 0 → target = 1 → s.pair.role = .solo) →
        s.clk.ready.getLsbD (if dom = 0 then (if target = 0 then 3 else 1) else (if target = 0 then 2 else 0)) = true →
        ∃ p, exec (.clkSwitch t mb) s = .next (finish w DONE p { u with clk.switch := some (dom, target) })

/-- A task's cycle (R85, R147, R149, R152, R153, R156, R157, R163, R174): the grid releases an idle task; the snapshot takes every
declared input with its quality and the instant; a barrier that is complete begins the next phase; the publish puts the buffered
words into the image and counts the cycle, and the BASE publish increases SCAN; the overrun is found once; after a retirement the
module resumes on the 3-region partition. -/
def Obligations.TaskCycleEvents : Prop :=
  ∀ (s : State) (t : Nat) (n : Fin 51) (d : TaskDecl),
    let u := advance t s
    (taskDecl s n = some d → isPeriodicTask n = true → s.scan.mode = 2 →
      1000 * phaseUs s d + (s.task n).nextK * (1000 * periodUs s d) ≤ taskMono u →
      (s.power.releaseHold = true → exec (.periodicRelease t n) s = .next ({ u with
        power.heldReleases := s.power.heldReleases ++ [n.val] }.setTask n { s.task n with nextK := (s.task n).nextK + 1 }))
      ∧ (s.power.releaseHold = false → mayRelease s n = true → s.pair.role ≠ .apprentice → (s.task n).state = .idle →
          (s.task n).held = false → switchDue s = false →
          exec (.periodicRelease t n) s = .next (u.setTask n { s.task n with
            nextK := (s.task n).nextK + 1, state := .released, cause := {}, releasedAt := u.time.mono, epoch := s.ps.epoch
            late := (s.task n).lateNext, lateNext := false })))
    ∧ (n ≠ 0 → maySnapshot n s = true → taskDecl s n = some d → s.pair.role = .solo → s.pair.shipping = false →
      svBound s n = [] → dueEpochs s n (s.task n).layout (s.task n).epoch = [] →
      ∃ v, exec (.snapshotComplete t n) s = .next v ∧ (v.task n).state = .running ∧ (v.task n).phase = 0 ∧ (v.task n).buf = []
        ∧ (v.task n).snapTai = u.time.tai ∧ (v.task n).snapMono = taskMono u ∧ v.img = s.img ∧ v.fld = s.fld
        ∧ ∀ a, a ∈ addrsOf d.inputs → spaceOf a ≠ 7 → captures s a = false →
          (v.task n).snap.val.get 0#32 a = pointValue s a ∧ (v.task n).snap.q.get 0#4 a = pointQuality s a)
    ∧ (∀ b, taskDecl s n = some d → openBarrier n d s = some b → (s.task n).phaseDirty = [] →
      ∃ v, exec (.barrierRelease t n) s = .next v ∧ (v.task n).phase = (s.task n).phase + 1 ∧ (v.task n).barrier = none
        ∧ (v.task n).arrived = [] ∧ v.img = s.img)
    ∧ (taskDecl s n = some d → cycleDone n d s = true → (prog s).spb = none → s.edit.epoch = none → s.pair.role = .solo →
      s.scan.bnd = [] → s.pair.commands = [] →
      ∃ v, exec (.taskPublish t n) s = .next v ∧ (v.task n).cycles = ((s.task n).cycles + 1) % 2 ^ 32
        ∧ (v.task n).state ≠ .running ∧ (v.task n).buf = []
        ∧ v.scan.scan = (if n = 0 then (s.scan.scan + 1) % 2 ^ 64 else s.scan.scan)
        ∧ (n = 0 → v.scan.atBoundary = true ∧ v.ldg.scanKept = (s.scan.scan + 1) % 2 ^ 64)
        ∧ ∀ a x, spaceOf a = 3 → (s.task n).buf = [(a, some x)] → imgVal v a = x)
    ∧ ((s.task 0).state = .running → (s.task 0).overrun = false → baseMaxUs s ≤ (u.time.mono - (s.task 0).releasedAt) / 1000 →
      ∃ v, exec (.baseOverrun t) s = .next v ∧ (v.task 0).overrun = true ∧ (v.task 0).state = .running
        ∧ v.scan.overruns = (s.scan.overruns + 1) % 2 ^ 32 ∧ v.img = s.img)
    ∧ (s.power.remapPending = true → s.power.failed = false →
      ∃ v, exec (.remapResume t) s = .next v ∧ v.power.threeRegion = true ∧ v.power.remapPending = false
        ∧ v.sup.tallyOn = true ∧ (s.ps.prog.isSome = true → v.scan.sx12 = false)
        ∧ (s.ps.prog.isSome = true → s.scan.mode = 2 → v.scan.scan = (s.ldg.scanKept + 1) % 2 ^ 64))

/-- Online edits (R278, R288-R292): an edit is staged against the running program, takes each block once, and is committed for the
third BASE boundary to come only if every check passes; a commit that fails a check ends the edit, as an abort and 60 s of silence
do. A KEEPER that ships hands the commit on and waits for the APPRENTICE's checks, which the model carries in a control record (log
entry 32). -/
def Obligations.EditCommands : Prop :=
  ∀ (s : State) (t : Nat) (mb : Fin 8) (w : Work),
    let u := advance t s
    let id := field w.payload 0 2 0
    let h := w.payload.drop 8
    let c := commitCheck { u with edit.lastCmd := u.now } (stagedEpoch s)
    (Asks s mb 0x0401 w → fitsShadow s (descOf h) = true → hasBoth (descOf h) = true → headerOk 2 (field w.payload 0 4 0) h s = true →
      w32 (leNat (slice (descOf h) 0 4)) = (prog s).imageId → leNat (slice (descOf h) 4 4) = s.ps.epoch →
      (prog s).len + field w.payload 0 4 0 ≤ 25165824 → editBusy s = false → s.ps.loadId = none → updBusy s = false →
      profileWaits s = false → s.ps.prog.isSome = true → notMine s = false →
      ∃ p, exec (.editStage t mb) s = .next (finish w DONE p (forward 0x0401 w.payload { u with
        edit.state := 1, edit.cause := 0, edit.id := (s.edit.id + 1) % 65536, edit.newEpoch := s.ps.epoch + 1, edit.header := h
        edit.blocks := [], edit.switchScan := 0, edit.epoch := none, edit.signed := ownerOk s h, edit.lastCmd := u.now
        edit.switchAt := none })))
    ∧ (∀ i, Asks s mb 0x0402 w → s.edit.state = 1 → s.edit.id = id → s.pair.role ≠ .apprentice →
      i = min (field w.payload 4 4 0) (hdrBlocks s.edit.header - 1) → s.edit.blocks.get [] i = [] →
      blockLenOk s.edit.header i h.length = true → blockHashOk s.edit.header s.edit.blocks i h = true →
      let v := forward 0x0402 w.payload { u with edit.lastCmd := u.now, edit.blocks := s.edit.blocks.set [] i h }
      exec (.editBlock t mb) s = .next (finish w DONE (leBytes 2 id ++ zeros 2 ++ leBytes 4 (s.edit.blocks.length + 1))
        (if allStored s.edit.header v.edit.blocks && payloadOk s.edit.header v.edit.blocks then stageCode v else v)))
    ∧ (Asks s mb 0x0403 w → s.edit.state = 1 → s.edit.id = id → s.pair.handover = none → s.pair.role = .keeper →
      s.pair.shipping = true → s.edit.asked = false →
      exec (.editCommit t mb) s = .next (putWork { w with running := true } (forward 0x0403 w.payload
        { u with edit.lastCmd := u.now, edit.asked := true })))
    ∧ (Asks s mb 0x0403 w → s.edit.state = 1 → s.edit.id = id → s.pair.handover = none → s.pair.role ≠ .apprentice →
      s.pair.shipping = false → s.edit.asked = false →
      (c.1 ≠ 0 → ∃ p, exec (.editCommit t mb) s = .next (finish w c.2.2 p (abortEdit 7 { u with edit.lastCmd := u.now })))
      ∧ (c.1 = 0 → s.scan.mode = 2 →
          ∃ p v, exec (.editCommit t mb) s = .next (finish w DONE p v) ∧ v.edit.state = 2 ∧ v.edit.switchScan = s.scan.scan + 3
            ∧ v.edit.epoch = some (stagedEpoch s) ∧ v.ps = s.ps ∧ v.scan = s.scan ∧ v.img = s.img))
    ∧ (Asks s mb 0x0404 w → s.edit.state = 1 → s.edit.id = id → s.pair.role ≠ .apprentice → s.edit.asked = false →
      ∃ p, exec (.editAbort t mb) s = .next (finish w DONE p (forward 0x0404 w.payload (abortEdit 1 u))))
    ∧ (Asks s mb 0x0404 w → s.edit.state ≠ 1 ∨ s.pair.role = .apprentice → exec (.editAbort t mb) s = .next (finish w WRONG_STATE [] u))
    ∧ (s.edit.state = 1 → s.edit.asked = false → s.edit.lastCmd + 60000000000 ≤ u.now →
      exec (.editIdleTimeout t) s = .next { u with edit.state := 5, edit.cause := 2, edit.header := [], edit.blocks := []
                                                   edit.epoch := none, edit.switchAt := none, saf.preConfirmed := none })

/-- Firn, retentive data, the magnetometer, the archive and the scrubs (R422, R423, R426, R431-R433, R437, R440-R443, R475): a COLD
record that is newer than its Firn copy is appended; a flush leaves no WARM record behind and catch-up ends the fallback; a
compacted block is no longer closed; a committed journal entry reaches the home copy; a field of 3,000 A/m for 10 ms sets MAG_ALERT
and raises EV085 and 10 s below 2,400 A/m end it; corrected cells and pages are counted and logged, each with its memory's number,
which is the model's choice (log entry 52); a program store beyond repair or a failed MRAM link is a module-level failure, a failed
flash die is not. -/
def Obligations.FirnAndScrubsKeepTheLedger : Prop :=
  ∀ (s : State) (t : Nat),
    let u := advance t s
    (∀ (k : Half) r, s.ldg.opened = true → classOf s k.toNat = 3 → firnBehind s k.toNat = true → firnAvailable s = true →
      rawRec s k.toNat = some r → r.deleted = false →
      ∃ v, exec (.firnAppend t ⟨k, .good⟩) s = .next v ∧ v.ldg.firn.get none k.toNat = some { r with data := recData s k.toNat r }
        ∧ (∀ j, j ≠ k.toNat → v.ldg.firn.get none j = s.ldg.firn.get none j) ∧ v.ldg.mram = s.ldg.mram)
    ∧ (∀ k : Half, s.ldg.opened = true → classOf s k.toNat = 3 → firnBehind s k.toNat = true → firnAvailable u = true →
      exec (.firnAppend t ⟨k, .badCrc⟩) s = .next (logFault 0x22 2 (whr 3 2 0) 7#32 1#32 (count 7 1 u)))
    ∧ (s.ldg.opened = true → s.ldg.hot = [] → firnAvailable u = true → s.ldg.warmAt + 10000000000 ≤ u.now →
      ∃ v, exec (.warmFlush t) s = .next v ∧ v.ldg.mram = s.ldg.mram ∧ ∀ k, classOf s k = 2 → firnBehind v k = false)
    ∧ (∀ b ok, s.ldg.flashFailed = false → s.ldg.opened = true → firnFree s < 24 → s.ldg.firnClosed = [b] →
      ∃ v, exec (.firnCompaction t ok) s = .next v ∧ b ∉ v.ldg.firnClosed
        ∧ v.ldg.firnErases.get 0 b = s.ldg.firnErases.get 0 b + 1 ∧ (b ∈ v.ldg.firnRetired ↔ ok = false ∨ b ∈ s.ldg.firnRetired))
    ∧ (s.ldg.fallback = true → firnAvailable s = true →
      ∃ v, exec (.firnCatchUp t) s = .next v ∧ v.ldg.fallback = false ∧ v.ldg.catchUp = false ∧ v.ldg.mram = s.ldg.mram)
    ∧ (∀ e k x, s.ldg.journal = [e] → e.committed = true → e.pairs = [(k, x)] →
      ∃ v, exec (.retentiveHomeWrite t) s = .next v ∧ v.ldg.journal = [] ∧ v.ldg.home.words.get none k = some x
        ∧ (∀ j, j ≠ k → v.ldg.home.words.get none j = s.ldg.home.words.get none j) ∧ v.ldg.home.layout.get 0 e.task = e.epoch
        ∧ (s.ldg.magAlert = true → firnAvailable u = true → v.ldg.homeFirn = some v.ldg.home))
    ∧ (∀ mag, mag < 65536 → exec (.magSample t mag) s = .next { u with
        ldg.magNow := mag, ldg.magPeak := max s.ldg.magPeak mag
        ldg.magHighAt := if 3000 ≤ mag then some (s.ldg.magHighAt.getD u.now) else none
        ldg.magLowAt := if mag < 2400 then some (s.ldg.magLowAt.getD u.now) else none })
    ∧ (∀ a, s.ldg.magHighAt = some a → s.ldg.magAlert = false → a + 10000000 ≤ (advance t s).now →
      ∃ v e, exec (.magAlertSet t) s = .next v ∧ v.ldg.magAlert = true ∧ v.ev.inbox = s.ev.inbox ++ [e] ∧ e.source = 85
        ∧ e.data = w32 s.ldg.magNow ∧ (firnAvailable u = true → v.ldg.homeFirn = some s.ldg.home))
    ∧ (∀ a, s.ldg.magLowAt = some a → s.ldg.magAlert = true → a + 10000000000 ≤ (advance t s).now →
      ∃ v, exec (.magAlertClear t ⟨[], false, false⟩) s = .next v ∧ v.ldg.magAlert = false ∧ v.ldg.homeFirn = none ∧ v.ldg.mram = s.ldg.mram)
    ∧ (s.ldg.flashFailed = false → s.ldg.magAlert = false → 128 ≤ s.ev.soeUnarchived → s.ev.soeUnarchived ≤ s.ev.soe.length →
      s.ev.archive.length + s.ev.soeUnarchived ≤ 5767168 →
      exec (.soeArchiveAppend t) s = .next { u with
        ev.soeUnarchived := s.ev.soeUnarchived % 128
        ev.archive := s.ev.archive ++ (s.ev.soe.drop (s.ev.soe.length - s.ev.soeUnarchived)).take (s.ev.soeUnarchived / 128 * 128) })
    ∧ (s.power.state = .run → ∀ a,
      (testDue 1 (s.sup.mramMin * 60000000000) u = true →
        exec (.mramScrub t [a] ⟨[], false, false⟩ false) s = .next (logFault 1 1 (whr 3 1 0) 5#32 (w32 a) (count 0 1 (tested 1 u)))
        ∧ (∃ v, exec (.mramScrub t [] ⟨[], false, true⟩ false) s = .next v ∧ v.power.failed = true ∧ v.pair.valid = false)
        ∧ ∃ v, exec (.mramScrub t [] ⟨[], false, false⟩ true) s = .next v ∧ v.power.failed = true ∧ v.pair.valid = false)
      ∧ (s.ldg.flashFailed = false → testDue 2 (s.sup.patrolDays * 86400000000000) u = true →
        exec (.flashPatrol t [a] ⟨0, false⟩) s = .next (logFault 1 1 (whr 3 2 0) 6#32 (w32 a) (count 0 1 (tested 2 u))))
      ∧ (s.ldg.flashFailed = false → ∃ v, exec (.flashPatrol t [a] ⟨0, true⟩) s = .next v ∧ v.ldg.flashFailed = true
        ∧ v.ldg.mram = s.ldg.mram))

/-- Ledger records (R425-R427, R437, R438, R445-R448, R450): a record written whole reads back with the next SEQ, an ADD adds to a
counter's 128-bit value, which saturates, a delete leaves the key without a record, and no other key changes; parts go after 1 s; a
class range is taken; a table change waits for the flip, which puts its bytes into the window. -/
def Obligations.LedgerKeepsWhatIsWritten : Prop :=
  ∀ (s : State) (t : Nat) (mb : Fin 8) (w : Work) (k : Nat) (data : Bytes),
    let u := advance t s
    let asks (op : Nat) : Prop := Asks s mb 0x0A01 w ∧ s.power.state ≠ .holdup ∧ k = field w.payload 0 2 0 ∧ k < 0xFF00
      ∧ field w.payload 2 1 0 = op ∧ field w.payload 4 4 0 = 0 ∧ field w.payload 8 2 0 = 0
      ∧ field w.payload 10 2 (w.payload.length - 16) = data.length ∧ data = w.payload.drop 16 ∧ data.length ≤ 4096
    (asks 0 → fits s k (newRec s k false false (List.replicate data.length 0#8)) = true →
      ∃ p v, exec (.ldgWrite t mb) s = .next (finish w DONE p v) ∧ curRec v k = some (newRec s k false false data)
        ∧ recData v k (newRec s k false false data) = data ∧ (newRec s k false false data).seq = nextSeq ((rawRec s k).elim 0 LdgRec.seq)
        ∧ (∀ j, j ≠ k → rawRec v j = rawRec s j) ∧ v.ldg.home = s.ldg.home ∧ v.img = s.img)
    ∧ (asks 1 → (curRec s k).isSome = true →
      ∃ p v, exec (.ldgWrite t mb) s = .next (finish w DONE p v) ∧ curRec v k = none ∧ ∀ j, j ≠ k → rawRec v j = rawRec s j)
    ∧ (∀ r, asks 2 → curRec s k = some r → r.counter = true →
      ∃ p v, exec (.ldgWrite t mb) s = .next (finish w DONE p v)
        ∧ ((v.ldg.cnt.get none k).getD {}).value =
            min (((s.ldg.cnt.get none k).getD {}).value + leNat (data.take 8)) (2 ^ 128 - 1)
        ∧ ∀ j, j ≠ k → rawRec v j = rawRec s j ∧ v.ldg.cnt.get none j = s.ldg.cnt.get none j)
    ∧ (asks 2 → curRec s k = none → exec (.ldgWrite t mb) s = .next (finish w NOT_PRESENT [] u))
    ∧ (∀ key q, s.ldg.parts.get none key.toNat = some q → q.at0 + 1000000000 ≤ (advance t s).now →
      exec (.ldgPartTimeout t key) s = .next { u with ldg.parts := s.ldg.parts.set none key.toNat none })
    ∧ (∀ first last cls, Asks s mb 0x0A03 w → s.power.state ≠ .holdup → ldgClassCfg.payloadBit w.payload 5 7 = false →
      first = min (field w.payload 0 2 0) 0xFEFF → last = max first (min (field w.payload 2 2 0) 0xFEFF) →
      cls = field w.payload 4 1 2 → 1 ≤ cls → cls ≤ 3 → hotBytes s ≤ 2097152 → (∀ j, j ∈ ldgKeys s → j < first ∨ last < j) →
      ∃ p, exec (.ldgClassCfg t mb) s = .next (finish w DONE p { u with
        ldg.cls := { first := first, last := last, cls := cls } :: s.ldg.cls }))
    ∧ (∀ d, Asks s mb 0x0A05 w → d = (prog s).tables.get {} (field w.payload 0 1 0) → d.len ≠ 0 → field w.payload 4 4 0 ≤ d.len →
      heldPages s + ((stagedPages s ++
        pagesOf d.base (field w.payload 4 4 0) ((w.payload.drop 8).take (d.len - field w.payload 4 4 0)).length).dedup).length ≤ 512 →
      (prog s).spb = none → s.ps.prog.isSome = true → s.pair.role = .solo → s.pair.shipping = false → s.power.state ≠ .holdup →
      exec (.tblWrite t mb) s = .next (putWork { w with running := true } { u with
        ldg.tblStaged := s.ldg.tblStaged ++ [{ table := field w.payload 0 1 0, offset := field w.payload 4 4 0
                                               data := (w.payload.drop 8).take (d.len - field w.payload 4 4 0), wid := w.wid }] }))
    ∧ (∀ c, boundary s = true → s.ldg.tblStaged = [c] →
      ∃ v, exec (.tableFlip t) s = .next v ∧ v.ldg.tblStaged = [] ∧ v.img = s.img ∧ v.eng.tables =
        Memory.writeBytes s.eng.tables (((prog s).tables.get {} c.table).base + c.offset) c.data)

/-- Program load, mode, forces and task parameters (R162, R175-R178, R181, R182): a load begins with a header that passes, takes each
block once, and leaves its image for PRG_MODE only if every check passes; a mode and task parameters wait for the BASE boundary of a
running program; a force is set, logged and released. -/
def Obligations.ProgramCommands : Prop :=
  ∀ (s : State) (t : Nat) (mb : Fin 8) (w : Work),
    let u := advance t s
    let id := field w.payload 0 2 0
    let h := w.payload.drop 8
    (Asks s mb 0x0301 w → headerOk 1 (field w.payload 0 4 0) h s = true → field w.payload 0 4 0 ≤ 25165824 →
      s.ps.loadId = none → editBusy s = false → updBusy s = false → notMine s = false →
      ∃ p, exec (.prgLoadBegin t mb) s = .next (finish w DONE p (forward 0x0301 w.payload { u with
        ps.loadId := some s.ps.nextLoadId, ps.nextLoadId := (s.ps.nextLoadId + 1) % 65536, ps.header := h, ps.blocks := [] })))
    ∧ (∀ i, Asks s mb 0x0302 w → s.ps.loadId = some id →
      i = min (field w.payload 4 4 0) (hdrBlocks s.ps.header - 1) → s.ps.blocks.get [] i = [] →
      blockLenOk s.ps.header i h.length = true → blockHashOk s.ps.header s.ps.blocks i h = true →
      exec (.prgLoadBlock t mb) s = .next (finish w DONE (leBytes 2 id ++ zeros 2 ++ leBytes 4 (s.ps.blocks.length + 1))
        (forward 0x0302 w.payload { u with ps.blocks := s.ps.blocks.set [] i h })))
    ∧ (Asks s mb 0x0303 w → s.ps.loadId = some id →
      ∃ st p v, exec (.prgLoadEnd t mb) s = .next (finish w st p v) ∧ v.ps.loadId = none ∧ v.ps.blocks = [] ∧ v.ps.prog = s.ps.prog
        ∧ (st = DONE ↔ (loadCheck s s.ps.header s.ps.blocks).1 = 0) ∧ (st = DONE ∨ st = CHECK_FAILED)
        ∧ v.ps.pendingImg = (if st = DONE then some (loadedImage s s.ps.header s.ps.blocks) else s.ps.pendingImg))
    ∧ (∀ mode, Asks s mb 0x0304 w → mode = field w.payload 0 1 0 → mode < 3 → s.ps.prog.isSome = true → notMine s = false →
      editBusy s = false → updBusy s = false → s.scan.mode = 2 →
      exec (.prgMode t mb) s = .next (putWork { w with running := true } (forward 0x0304 w.payload { u with
        scan.bnd := s.scan.bnd ++ [.prgMode mode w.wid] })))
    ∧ (∀ a x, Asks s mb 0x0307 w → field w.payload 0 1 1 = 0 → a = field w.payload 4 4 0 → x = w32 (field w.payload 8 4 0) →
      s.pair.role = .solo → s.power.state ≠ .holdup → isWordPoint a = true → 1 ≤ spaceOf a → spaceOf a ≤ 5 →
      indexOk (spaceOf a) (indexOf a) = true → safetyPoint s a = false → (forcesAhead s).length < 256 →
      ∃ p, exec (.imgForce t mb) s = .next (finish w DONE p (logFault 9 0 (whr 4 0 0) (w32 a) x
        { u with scan.forces := s.scan.forces.set none a (some x) })))
    ∧ (∀ a old, Asks s mb 0x0307 w → field w.payload 0 1 1 = 1 → a = field w.payload 4 4 0 → s.pair.role = .solo →
      s.power.state ≠ .holdup → isWordPoint a = true → 1 ≤ spaceOf a → spaceOf a ≤ 5 →
      indexOk (spaceOf a) (indexOf a) = true → safetyPoint s a = false → s.scan.forces.get none a = some old →
      ∃ p, exec (.imgForce t mb) s = .next (finish w DONE p (logFault 9 0 (whr 4 0 1) (w32 a) old
        { u with scan.forces := s.scan.forces.set none a none })))
    ∧ (∀ d n, Asks s mb 0x0308 w → n = min 50 (field w.payload 0 1 0) → taskDecl s n = some d → isEventTask n = true →
      safetyTask (prog s) n = false → s.pair.role = .solo → s.pair.shipping = false → s.power.state ≠ .holdup →
      s.scan.mode = 2 →
      exec (.taskCfg t mb) s = .next (putWork { w with running := true } { u with
        scan.bnd := s.scan.bnd ++ [.taskCfg n (askedCfg s d w.payload) w.wid] }))

/-- Commands that only report (R78, R80, R117, R132, R179, R180, R184, R293, R389, R417, R447, R451, R471, R473, R491, R494): each ends
its request with its answer, whose chief fields are given here, and changes nothing else; a KEEPER hands EDIT_STATUS on, and an
APPRENTICE refuses it (R286). -/
def Obligations.QueriesReportAndChangeNothing : Prop :=
  ∀ (s : State) (t : Nat) (mb : Fin 8) (w : Work),
    let u := advance t s
    let reports (code : Nat) (i : Instr) (f : Bytes → Prop) : Prop :=
      Asks s mb code w → ∃ p, exec i s = .next (finish w DONE p u) ∧ f p
    reports 0x0101 (.sysInfo t mb) (fun p => p.length = 40 ∧ p.take 3 = [0x64#8, 0x96#8, 0xB1#8])
    ∧ reports 0x0103 (.sysStateGet t mb) (fun p => p.length = 36 ∧ slice p 4 6 =
        leBytes 2 s.power.vinMv ++ leBytes 2 s.power.vholdMv ++ leBytes 2 s.power.vrtcMv)
    ∧ reports 0x0204 (.timeStatus t mb) (fun p => p.length = 56 ∧ p.take 19 =
        leBytes 8 u.time.tai ++ leBytes 8 u.time.mono ++ leBytes 1 s.time.active ++ leBytes 1 s.time.state ++ [quality u])
    ∧ reports 0x0205 (.calGet t mb) (fun p => p.length = 32 ∧ p.take 7 =
        leBytes 2 s.cal.year ++ leBytes 1 s.cal.month ++ leBytes 1 s.cal.day ++ leBytes 1 s.cal.hour ++ leBytes 1 s.cal.minute
          ++ leBytes 1 s.cal.second)
    ∧ reports 0x0305 (.prgStatus t mb) (fun p => p.length = 48 ∧ (s.pair.role ≠ .station →
        p.take 1 = leBytes 1 s.scan.mode ∧ slice p 16 8 = leBytes 8 s.scan.scan))
    ∧ (∀ a, a = field w.payload 0 4 0 → 1 ≤ spaceOf a → spaceOf a ≤ 8 → indexOk (spaceOf a) (indexOf a) = true →
        reports 0x0306 (.imgRead t mb) (fun p => p.take 4 = leBytes 4 a
          ∧ (isWordPoint a = true → slice p 8 4 = leBytes 4 (readValue u a).toNat)))
    ∧ (∀ a z, (soeHeld s).head? = some a → (soeHeld s).getLast? = some z → newerSeq (field w.payload 0 4 0) z.seq = false →
        reports 0x030A (.soeRead t mb) (fun p => slice p 8 8 = leBytes 4 a.seq ++ leBytes 4 z.seq))
    ∧ (Asks s mb 0x0405 w → s.pair.role ≠ .apprentice →
        ∃ p, exec (.editStatus t mb) s = .next (finish w DONE p (forward 0x0405 w.payload u)) ∧ p.length = 44
          ∧ (s.pair.role ≠ .station → p.take 4 = leBytes 1 s.edit.state ++ leBytes 1 s.edit.cause ++ leBytes 2 s.edit.id))
    ∧ (Asks s mb 0x0405 w → s.pair.role = .apprentice → exec (.editStatus t mb) s = .next (finish w WRONG_STATE [] u))
    ∧ reports 0x0B01 (.safStatus t mb) (fun p => p.length = 40 ∧ slice p 8 4 = leBytes 4 (s.saf.confirmed.getD 0#32).toNat)
    ∧ ((spb s).conns ≠ [] → reports 0x0B03 (.safConnStatus t mb) (fun p => p.length = 48 ∧
        p.take 1 = leBytes 1 (min (field w.payload 0 1 0) ((spb s).conns.length - 1))))
    ∧ (field w.payload 0 1 0 = 0 → reports 0x0803 (.ringStatus t mb) (fun p => p.length = 64
        ∧ p.take 2 = leBytes 1 0 ++ leBytes 1 (ringState u)))
    ∧ reports 0x0902 (.pairStatus t mb) (fun p => p.length = 48 ∧ slice p 4 2 = leBytes 2 (claimOf s).toNat)
    ∧ (field w.payload 0 1 0 = 0 → reports 0x0C01 (.healthReport t mb) (fun p => p = s.sup.report.getD (zeros 64)))
    ∧ (∀ a z r, s.sup.log = z :: r → s.sup.log.reverse.head? = some a → newerSeq (field w.payload 0 4 0) z.seq = false →
        reports 0x0C04 (.faultLogRead t mb) (fun p => slice p 8 8 = leBytes 4 a.seq ++ leBytes 4 z.seq))
    ∧ (∀ r, curRec s (field w.payload 0 2 0) = some r → reports 0x0A02 (.ldgRead t mb) (fun p => p.drop 24 =
        ((recData s (field w.payload 0 2 0) r).drop (field w.payload 2 2 0)).take (min (min 4056 (field w.payload 4 2 4056))
          ((recData s (field w.payload 0 2 0) r).length - field w.payload 2 2 0))))
    ∧ ∀ d off, d = (prog s).tables.get {} (field w.payload 0 1 0) → off = field w.payload 4 4 0 → d.len ≠ 0 → off ≤ d.len →
        reports 0x0A06 (.tblRead t mb) (fun p => p.drop 16 =
          Memory.readBytes s.eng.tables (d.base + off) (min (min 4064 (field w.payload 8 4 4064)) (d.len - off)))

/-- The reflex plane (R255-R257, R259, R261, R267): an evaluation, a sweep and the expiry of a delay give a rule's output its result
once the delay has passed, at a tick of MONO, and the output reaches its flag or its channel; a store or evaluator error in any of them
stops Rime, which is a module-level failure; a sweep waits for its instant; a FAST and a validated input that go on disagreeing are
found once. -/
def Obligations.ReflexRulesAndTheirStop : Prop :=
  ∀ (s : State) (t : Nat) (n : Fin 2048) (r : Rule),
    let u := advance t s
    let q := s.rime.rules.get {} n
    let res := ruleResult u r
    let delay := if res then r.onDelayUs else r.offDelayUs
    let since := if res = q.pend then q.since else u.time.mono
    let due := if delay = 0 then since else (since + 1000 * delay + 999) / 1000 * 1000
    let out := if res ≠ q.out ∧ due ≤ u.time.mono then res else q.out
    let runs : Prop := s.rime.mode = 2 ∧ s.rime.stopped = false ∧ serving s = true ∧ s.rime.set = [(n.val, r)]
      ∧ ruleSources s n = []
    let flag (c : Instr) : Prop := ∀ i, i < 256 → r.target % 4096 = 0x40 + i →
      ∃ v, exec c s = .next v ∧ (v.rime.rules.get {} n).out = out ∧ (v.rime.rules.get {} n).pend = res
        ∧ imgVal v (imgAddr 6 i) = b32 out ∧ v.fld = s.fld
    let channel (c : Instr) : Prop := ∀ i, i < 64 → r.target % 4096 = i → ownMode (s.chan i).owner ≠ 0 →
      ∃ v, exec c s = .next v ∧ (v.chan i).ruleCmd = some out ∧ v.img = s.img ∧ ∀ c, c ≠ i → v.chan c = s.chan c
    (runs → flag (.ruleEvaluation t n true true) ∧ channel (.ruleEvaluation t n true true))
    ∧ (runs → flag (.ruleDelayExpiry t ⟨n, true, true⟩) ∧ channel (.ruleDelayExpiry t ⟨n, true, true⟩))
    ∧ (runs → s.rime.sweepAt ≤ u.now → flag (.rimeSweep ⟨t, true, true⟩) ∧ channel (.rimeSweep ⟨t, true, true⟩))
    ∧ (∀ a b, u.now < s.rime.sweepAt → exec (.rimeSweep ⟨t, a, b⟩) s = .next u)
    ∧ (∀ a b, s.rime.mode ≠ 0 → s.rime.stopped = false → serving s = true → a = false ∨ b = false →
      ∀ c, c = .ruleEvaluation t n a b ∨ c = .ruleDelayExpiry t ⟨n, a, b⟩ ∨ (c = .rimeSweep ⟨t, a, b⟩ ∧ s.rime.sweepAt ≤ u.now) →
      ∃ v, exec c s = .next v ∧ v.rime.stopped = true ∧ v.rime.mode = 0 ∧ v.pair.valid = false ∧ v.power.failed = true)
    ∧ (∀ (ch : Fin 64) a c, c = settleReflex u.now (s.chan ch) → c.reflexAt = some a → isInput c.cfg = true →
      ruleReads s ch = true → c.faults.getLsbD 8 = false → a + (filterNs c.cfg + 1000001) ≤ u.now →
      exec (.reflexDisagree t ch) s = .next (logFault 0x62 2 (whr 0 (dieOf ch) ch) (w32 ch) 0#32
        (u.setChan ch { c with faults := c.faults ||| 0x100#16 })))

/-- Stamps (R106-R111, R265): in full service the first waiting record of a source, or an edge stamped with TAI and the quality of
now, enters the FIFO with the next SEQ, after a record of its publish that has a lower source; an interpolator gives a channel's edge,
and a record of the always-on domain, the tick less N1 / N2 of its length. -/
def Obligations.EventsAreStampedAndNumbered : Prop :=
  ∀ (s : State) (t : Nat),
    let u := advance t s
    let room : Prop := s.ev.fifo.length < fifoSize ∧ s.power.state = .run ∧ s.power.service = .full
    (∀ (src : Fin 128) kind data, room → s.power.wakeEv.getLsbD src = false → takeWaiting src s.ev.inbox = none →
      64 ≤ src.val → src.val < 88 →
      ∃ v, exec (.eventStamp t src kind data) s = .next v
        ∧ v.ev.fifo = s.ev.fifo ++ [{ eventNow src kind data u with seq := s.ev.seqNext }]
        ∧ v.ev.seqNext = (s.ev.seqNext + 1) % 2 ^ 32 ∧ v.ev.written = s.ev.written + 1 ∧ v.ev.soePos = s.ev.written + 1)
    ∧ (∀ (src : Fin 128) kind data r rest, room → s.power.wakeEv.getLsbD r.source = false →
      takeWaiting src s.ev.inbox = some (r, rest) → earlierPeers r rest = [] →
      ∃ v, exec (.eventStamp t src kind data) s = .next v ∧ v.ev.inbox = rest
        ∧ v.ev.fifo = s.ev.fifo ++ [{ r with seq := s.ev.seqNext }] ∧ v.ev.seqNext = (s.ev.seqNext + 1) % 2 ^ 32)
    ∧ (∀ (src : Fin 128) kind data r rest x, room → s.ev.fifo.length + 1 < fifoSize → s.power.wakeEv = 0#128 →
      takeWaiting src s.ev.inbox = some (r, rest) → earlierPeers r rest = [x] →
      ∃ v, exec (.eventStamp t src kind data) s = .next v ∧ v.ev.inbox = rest.filter (fun y => decide (y ≠ x))
        ∧ v.ev.fifo = s.ev.fifo ++ [{ x with seq := s.ev.seqNext }, { r with seq := (s.ev.seqNext + 1) % 2 ^ 32 }])
    ∧ (∀ (g : Fin 5) n1 n2 tick e c, g ≠ 4 → s.ev.interp.find? (fun e => decide (e.group = g.val)) = some e →
      (s.chan e.source).cand = some c →
      exec (.interpolatorDone t g n1 n2 tick) s = .next (({ u with ev.interp := s.ev.interp.erase e } : State).setChan e.source
        { s.chan e.source with cand := some (tick - n1 * 30517578 / (1000 * n2)), candFlags := 1#8 }))
    ∧ ∀ n1 n2 tick e, room → s.ev.interp.find? (fun e => decide (e.group = 4)) = some e → e.source < 128 →
      s.power.wakeEv.getLsbD e.source = false →
      ∃ v r, exec (.interpolatorDone t 4 n1 n2 tick) s = .next v ∧ v.ev.fifo = s.ev.fifo ++ [r] ∧ r.source = e.source
        ∧ r.tai = tick - n1 * 30517578 / (1000 * n2) ∧ r.seq = s.ev.seqNext ∧ r.flags = 1#8 ∧ v.ev.interp = s.ev.interp.erase e

/-- Start-up (R97, R266, R522, R526-R528): where nothing fails, the start that is due begins the logic anew, MONO at 0, TAI from the
calendar, the program kept and no session open; early service turns the claim of a SOLO module, Tally and the EARLY rules on; full
service waits for XM or its failure and takes TAI from the calendar again; a gesture that does not come in 60 s lets start-up go on. -/
def Obligations.StartUpReachesService : Prop :=
  ∀ (s : State) (t : Nat),
    (∀ k env, s.power.state = .run → s.power.resetLow = false → s.clk.rcHold = false → s.power.tripUntil = none →
      s.power.restart = some k →
      k = .power ∨ k = .holdup ∨ k = .warm ∨ k = .cold → env.regionFail = 0#4 → env.bankABad = false → env.bankBBad = false →
      env.selectorBad = false → env.mramBad = false → env.flashBad = false → env.programBad = false →
      env.recoveryLow = false → s.upd.trial = false → (prog s).has4 = true →
      ∃ u, exec (.startUp t env) s = .next u ∧ u.power.service = .booting ∧ u.power.startReady = true ∧ u.power.restart = none
        ∧ u.power.retired = 0#4 ∧ u.power.threeRegion = false ∧ u.time.mono = 0 ∧ u.time.running = true
        ∧ u.time.tai = calTai (advance t s) ∧ u.ps.prog = s.ps.prog ∧ u.sec.sessions = [] ∧ u.host.mb = [] ∧ u.eng.banks = []
        ∧ u.rime.mode = 0 ∧ u.pair.valid = false ∧ u.clk.ready = (s.clk.ready &&& 5#6) ||| 2#6 ∧ u.clk.xmFail = false
        ∧ u.ldg.boot = (s.ldg.boot + 1) % 2 ^ 32 ∧ ∀ d, d < 4 → (u.die d).hold = false)
    ∧ (s.power.state = .run → s.power.service = .booting → s.power.startReady = true → s.power.recoveryWait = false →
      ∃ u, exec (.earlyServiceStart t) s = .next u ∧ u.power.service = .early ∧ u.power.pwrGood = true ∧ u.rime.mode = 1
        ∧ u.sup.tallyOn = true ∧ u.pair.valid = (s.pair.valid || s.pair.role = .solo) ∧ u.ps = s.ps)
    ∧ (s.clk.xmFail = false → xmUp (advance t s) = false → exec (.fullServiceStart t) s = .next (advance t s))
    ∧ (s.power.state = .run → s.power.service = .early → s.clk.xmFail = true ∨ xmUp (advance t s) = true →
      ∃ u, exec (.fullServiceStart t) s = .next u ∧ u.power.service = .full ∧ u.power.startReady = false
        ∧ u.time.taiLoaded = true ∧ u.sup.tallyOn = true ∧ (s.pair.role = .station → u.rime.mode = 2)
        ∧ (s.pair.role = .apprentice → s.power.startStopped = false → s.ps.prog = none → u.pair.state = 1)
        ∧ (s.pair.role = .solo → s.ps.prog = none → ∀ d, d < 4 → (u.die d).hold = true))
    ∧ (s.power.recoveryWait = true → s.power.bootAt + 60000000000 ≤ (advance t s).now →
      exec (.recoveryGestureTimeout t) s = .next { advance t s with power.recoveryWait := false, panel.presHold := none })

/-- Self-test and links (R12, R23, R43, R402, R475-R477, R487-R493): a slice that passes is counted and one that fails retires its
region; corrected words are counted and logged, each with its memory's number, which is the model's choice (log entry 52); a channel is
lost at its third failed loop in a row, by its CRC or beyond 100 ns, and a die when both control couplers are silent or its transformer
fails; link errors count and a rate above 10⁻¹⁰ is a finding; a report is built; the settings are taken in their ranges. -/
def Obligations.SelfTestFindsAndCounts : Prop :=
  ∀ (s : State) (t : Nat) (mb : Fin 8) (w : Work),
    let u := advance t s
    (∀ e : Fin 16, testing s = true → s.power.retired.getLsbD (e / 4) = false → engineIdle s e = true ∨ s.scan.atBoundary = true →
      testDue (16 + e) (s.sup.sliceMs * 1000000) u = true →
      exec (.testSlice t e true) s =
        .next (count 4 1 { tested (16 + e) u with eng.slices := s.eng.slices.set 0 e ((s.eng.slices.get 0 e + 1) % 256) })
      ∧ ∃ v, exec (.testSlice t e false) s = .next v ∧ v.power.retired = s.power.retired ||| (1#4 <<< (e.val / 4))
        ∧ v.eng.banks = (v.eng.banks.drop fun k => decide (k / 16 = e.val / 4)))
    ∧ (∀ pass, s.pair.testRound = false → exec (.testRoundComplete t pass) s = .next { u with sup.runNow := false })
    ∧ (s.pair.testRound = true → s.pair.role = .keeper →
      ∃ v, exec (.testRoundComplete t false) s = .next v ∧ v.pair.valid = false ∧ v.power.abdicated = true
        ∧ v.pair.testRound = false)
    ∧ (testing s = true → testDue 0 (s.sup.sramS * 1000000000) u = true →
      (∀ (m : Fin 5) a, exec (.sramScrub t [(m, a)] 0#4 false) s = .next (logFault 1 1
        (if m.val = 4 then whr 4 0 0 else whr 2 m 0) (w32 m) (w32 a) (count 0 1 (tested 0 u))))
      ∧ ∃ v, exec (.sramScrub t [] 0#4 true) s = .next v ∧ v.power.failed = true ∧ v.pair.valid = false)
    ∧ (∀ (ch : Fin 64) ok r, serving s = true →
      (ok = true → r ≤ 100 → exec (.couplerLoopback t ch ok r) s = .next (u.setChan ch { s.chan ch with loopFails := 0 }))
      ∧ (ok = false ∨ 100 < r → (s.chan ch).loopFails < 2 → exec (.couplerLoopback t ch ok r) s =
          .next (u.setChan ch { s.chan ch with loopFails := (s.chan ch).loopFails + 1 }))
      ∧ (ok = false ∨ 100 < r → (s.chan ch).loopFails = 2 → (s.chan ch).lost = false →
          ∃ v, exec (.couplerLoopback t ch ok r) s = .next v ∧ (v.chan ch).lost = true
            ∧ (v.chan ch).faults = (s.chan ch).faults ||| 0x40#16
            ∧ v.img.q.get 2#4 (imgAddr 1 ch) = 2#4 ∧ v.sup.ctr.get 0 6 = (s.sup.ctr.get 0 6 + 1) % 2 ^ 32
            ∧ ∀ c, c ≠ ch.val → v.chan c = s.chan c))
    ∧ (∀ (d : Fin 4) a b x, serving s = true →
      ∃ v, exec (.controlCouplerLoopback t d ⟨a, b⟩ x) s = .next v ∧ (v.die d).couplerA = a ∧ (v.die d).couplerB = b
        ∧ (v.die d).lost = (!x || (!a && !b)) ∧ (v.die d).holding = ((s.die d).holding || (!x || (!a && !b)))
        ∧ (v.die d).powered = ((s.die d).powered && (x || decide ((s.die d).vfldMv ≠ 0))) ∧ v.fld.ch = s.fld.ch)
    ∧ (∀ (l : Fin 6) e bits, s.power.state = .run →
      (e * 10000000000 ≤ bits → exec (.linkErrorWindow t l e bits) s = .next (count 7 e u))
      ∧ (bits < e * 10000000000 →
          ∃ v, exec (.linkErrorWindow t l e bits) s = .next v ∧ v.sup.ctr.get 0 7 = (s.sup.ctr.get 0 7 + e) % 2 ^ 32
            ∧ (l = 4 → v.pair.lanes.getLsbD 0 = false) ∧ (l = 5 → v.pair.lanes.getLsbD 1 = false)))
    ∧ (fullService s = true → s.sup.testAt.get 0 3 + 100000000 ≤ u.now →
      exec (.healthReportBuild t) s = .next { tested 3 u with
        sup.report := some (reportBytes u), sup.reportSeq := (s.sup.reportSeq + 1) % 2 ^ 32
        pair.sent := if inPair s then { kind := 7, data := reportBytes u } :: s.pair.sent else s.pair.sent })
    ∧ (Asks s mb 0x0C03 w → payloadBit w.payload 7 7 = false → payloadBit w.payload 7 0 = false → s.power.state ≠ .holdup →
      ∃ p, exec (.selftestCfg t mb) s = .next (finish w DONE p { u with
        sup.sliceMs := clamp (min (prog s).sliceMs 100) 100 (field w.payload 0 2 (prog s).sliceMs)
        sup.sramS := clamp 1 60 (field w.payload 2 2 10), sup.mramMin := clamp 10 1440 (field w.payload 4 2 60)
        sup.patrolDays := clamp 1 30 (field w.payload 6 1 7) }))

/-- Heat and the system commands (R62, R75, R76, R79, R81-R83): a die at 110 °C sets the flag and raises EV086 once, the profile
untouched; the logic, MRAM or flash die at 125 °C ends VALID, and in a SOLO module places every die in hold; a profile change and
SLUMBER wait for the BASE boundary; the holdup settings are taken in their ranges; a restart that need not wait holds the dies,
stops the engines and leaves the start due. -/
def Obligations.HeatAndSystemCommands : Prop :=
  ∀ (s : State) (t : Nat) (mb : Fin 8) (w : Work),
    let u := advance t s
    (∀ die temp, serving s = true ∨ s.power.state = .slumber → 110 ≤ temp →
      ∃ v, exec (.thermalWarn t die temp) s = .next v ∧ v.power.thermalWarn = true ∧ v.power.profile = s.power.profile
        ∧ v.power.temps.get 0 die = temp ∧ v.fld = s.fld
        ∧ v.ev.inbox = (if s.power.thermalWarn then s.ev.inbox else s.ev.inbox ++ [eventNow 86 0 (w32 die) u]))
    ∧ (∀ die temp, s.power.state = .run ∨ s.power.state = .slumber → 125 ≤ temp →
      ∃ v, exec (.dieOvertemp t die temp) s = .next v ∧ v.pair.valid = false ∧ v.power.failed = true
        ∧ (s.pair.role = .solo → v.power.restart = some .moduleFailure
          ∧ ∀ d, d < 4 → (v.die d).hold = true ∧ (v.die d).holding = true))
    ∧ (Asks s mb 0x0102 w → s.ps.prog.isSome = true → s.pair.role ≠ .apprentice → s.power.state ≠ .holdup → editBusy s = false →
      s.upd.state ≠ 3 → profileFits u (min 2 (field w.payload 0 1 1)) = true →
      exec (.sysProfileSet t mb) s = .next (putWork { w with running := true }
        (forward 0x0102 (leBytes 1 (min 2 (field w.payload 0 1 1))) { u with
          scan.bnd := s.scan.bnd ++ [.profile (min 2 (field w.payload 0 1 1)) w.wid] })))
    ∧ (Asks s mb 0x0104 w → s.pair.role = .solo → s.power.state ≠ .holdup → editBusy s = false → updBusy s = false →
      anyStation s = false → hasReflex s = false → s.power.slumberReq = false →
      ∃ p a f, exec (.sysSlumber t mb) s = .next (finish w DONE p { u with
          power.wakeEv := BitVec.ofNat 128 (field w.payload 0 16 0), power.alarmTai := a, power.wakeFlags := BitVec.ofNat 8 f
          power.slumberReq := true, power.keptWake := .none })
        ∧ a = (if field w.payload 0x10 8 0 = 0 then 0 else max (field w.payload 0x10 8 0) (u.time.tai + 10000000))
        ∧ f < 8 ∧ (field w.payload 0 16 0 = 0 → field w.payload 0x10 8 0 = 0 → field w.payload 0x18 1 7 % 8 = 0 → f = 2))
    ∧ (Asks s mb 0x0105 w → s.power.state ≠ .holdup →
      let c := clamp 47 4700 (field w.payload 4 2 470)
      ∃ p v, exec (.sysHoldupCfg t mb) s = .next (finish w DONE p v) ∧ v.fld = s.fld ∧ v.img = s.img ∧ v.power = { s.power with
        vholdSet := clamp 20 34 (field w.payload 0 1 34), chargeMa := clamp 50 400 (field w.payload 2 2 200) / 50 * 50
        cBoardUf := c, holdupCfgSet := true
        charging := decide (s.power.state = .run ∨ s.power.state = .slumber)
          && decide (s.power.vholdMv < 1000 * clamp 20 34 (field w.payload 0 1 34))
        reserveLow := decide (425 * s.power.cMeasuredUf.getD c * (s.power.vholdMv * s.power.vholdMv - 144000000) < 204 * 10 ^ 11) })
    ∧ (Asks s mb 0x0106 w → s.pair.role = .solo → s.power.state ≠ .holdup → s.upd.state ≠ 3 → field w.payload 0 1 0 ≤ 1 →
      ∃ p v, exec (.sysRestart t mb) s = .next (finish w DONE p v)
        ∧ v.power.restart = some (if field w.payload 0 1 0 = 1 then .cold else .warm)
        ∧ v.pair.valid = false ∧ v.eng.banks = [] ∧ v.sup.tallyOn = false
        ∧ ∀ d, d < 4 → (v.die d).hold = true ∧ (v.die d).holding = true)

/-- Tally, Steward and the leases (R43, R406, R478, R480-R488, R492, R560, R564, R567): Steward checks its two slots in once the
window is open; a period whose required slots are satisfied begins the next, and one that misses a slot trips: VALID falls, every
die holds, Rime stops and a restart is due, at a KEEPER once its cleared claim has been sent for one lease; a Steward restart
empties the mailboxes; a lease that runs out is counted and its work ends. -/
def Obligations.TallyTripsAndLeasesEnd : Prop :=
  ∀ (s : State) (t : Nat) (mb : Fin 8) (w : Work),
    let u := advance t s
    (∀ a b, s.sup.tallyOn = true → s.sec.stewardHalted = false → windowOpen s.sup.ticks s.sup.wdf ≤ tallyCount u →
      tallyCount u < s.sup.ticks → s.sup.satisfied.getLsbD 0 = false → s.sup.satisfied.getLsbD 1 = false →
      ∃ v, exec (.tallyWindowOpen t a b) s = .next v ∧ v.sup.satisfied.getLsbD 0 = !a ∧ v.sup.satisfied.getLsbD 1 = !b
        ∧ v.sup.ctr = s.sup.ctr ∧ v.fld = s.fld)
    ∧ (s.sup.tallyOn = true → s.sup.ticks ≤ tallyCount u → requiredMask s &&& ~~~s.sup.satisfied = 0#32 →
      ∃ v, exec (.tallyPeriodEnd t) s = .next v ∧ v.sup.periodAt = (advance t s).now ∧ v.sup.satisfied = 0#32 ∧ v.sup.tallyOn = true
        ∧ v.sup.trips = s.sup.trips ∧ v.fld = s.fld ∧ v.power = s.power)
    ∧ (s.sup.tallyOn = true → s.sup.ticks ≤ tallyCount u → requiredMask s &&& ~~~s.sup.satisfied ≠ 0#32 →
      ∃ v, exec (.tallyPeriodEnd t) s = .next v ∧ v.sup.tallyOn = false ∧ v.sup.trips = min (s.sup.trips + 1) 65535
        ∧ v.pair.valid = false ∧ v.power.restart = some .trip
        ∧ (s.pair.role ≠ .keeper ∨ fullService s = false → v.power.pwrGood = false ∧ v.rime.mode = 0 ∧ v.power.service = .booting)
        ∧ (s.pair.role = .keeper → fullService s = true → v.power.tripUntil = some (u.now + 250000 * s.pair.leaseQ)
          ∧ v.rime.mode = s.rime.mode)
        ∧ (∀ d, d < 4 → (v.die d).hold = true ∧ (v.die d).holding = true)
        ∧ (s.sup.satisfied.getLsbD 0 = false → v.sup.tripLatched = some (requiredMask s &&& ~~~s.sup.satisfied, 0)))
    ∧ (portsUp s = true → s.edit.state ≠ 1 →
      ∃ v, exec (.stewardRestart t) s = .next v ∧ v.host.works = [] ∧ (∀ n, (v.mbox n).state = 0)
        ∧ v.sup.stewardRestarts = (s.sup.stewardRestarts + 1) % 256 ∧ v.host.irq.getLsbD 11 = true
        ∧ v.img = s.img ∧ v.fld = s.fld)
    ∧ (portsUp s = true → ∃ v, exec (.leaseExpiry t .claim) s = .next v ∧ latches v = latches s ∧ ∀ d, d < 4 →
      ∀ q, q = (s.die d).claims.get {} 0 → (s.die d).powered = true → q.heard = true → q.last + 250000 * q.leaseQ ≤ u.now →
        ((v.die d).claims.get {} 0).heard = false ∧ (v.die d).obeyed ≠ some 0)
    ∧ (portsUp s = true → ∀ (n : Fin 2) steward held,
      (held < 200000 → exec (.leaseExpiry t (.lane n steward held)) s = .next u)
      ∧ (200000 ≤ held → steward = false → exec (.leaseExpiry t (.lane n steward held)) s =
        .next (noteRevoked (.lane n steward held) u)))
    ∧ (portsUp s = true → ∀ (r : Fin 4) (n : Fin 51) held,
      (held < 100000 → exec (.leaseExpiry t (.imagePort r n held)) s = .next u)
      ∧ (100000 ≤ held → (s.task n).state ≠ .idle → ∃ v, exec (.leaseExpiry t (.imagePort r n held)) s = .next v
        ∧ v.img = s.img ∧ v.sup.ctr.get 0 10 = (s.sup.ctr.get 0 10 + 1) % 2 ^ 32))
    ∧ (portsUp s = true → s.ldg.flashFailed = false → ∀ (h : Fin 4) erase held,
      (held < 20000000 → exec (.leaseExpiry t (.flash h erase held)) s = .next u)
      ∧ (20000000 ≤ held → ∃ v, exec (.leaseExpiry t (.flash h erase held)) s = .next v ∧ v.ldg.mram = s.ldg.mram
        ∧ v.sup.ctr.get 0 10 = (s.sup.ctr.get 0 10 + 1) % 2 ^ 32))
    ∧ (portsUp s = true → ∀ n : Fin 8, (s.mbox n).state = 1 → (s.mbox n).leaseAt + 10000000000 ≤ (advance t s).now →
      ∃ v, exec (.leaseExpiry t (.mailbox n)) s = .next v ∧ (v.mbox n).state = 0
        ∧ (v.mbox n).revokedN = min ((s.mbox n).revokedN + 1) 65535
        ∧ v.host.works = (s.host.works.filter fun w => w.mb ≠ n.val || w.deferred)
        ∧ v.sup.ctr.get 0 10 = (s.sup.ctr.get 0 10 + 1) % 2 ^ 32)
    ∧ (Asks s mb 0x0C02 w → payloadBit w.payload 5 7 = false → s.power.state ≠ .holdup →
      ∀ us clk, us = clamp 1000 10000000 (field w.payload 0 4 100000) →
      clk = (if 1 < field w.payload 4 1 0 then 0 else field w.payload 4 1 0) →
      windowTooShort s us clk (prog s).checkinUs = false →
      ∃ p, exec (.tallyCfg t mb) s = .next (finish w DONE p { u with sup.tallyNext := some (us, clk) }))
    ∧ (Asks s mb 0x0C02 w → payloadBit w.payload 5 7 = true → ∃ p, exec (.tallyCfg t mb) s = .next (finish w DONE p u))

/-- The time sources (R97, R99-R106, R112, R113, R116, R120): a Sync of the best master counts and no other's; PTP locks after its
tenth offset within ±250 ns and a source is lost after its third offset beyond ±10 µs or after 3 s of silence; an Announce brings
its properties; a bad IRIG-B frame and a PPS edge beyond ±400 ms of the calendar's second are events alone; holdover ends in FREE,
not in SLUMBER; PPS_OUT rises at a whole second while a source is LOCKED or in holdover; TIME_SOURCE_CFG takes its ranges. The
comparison of masters and the failed clock that a quality of 15 says are presumed (log entry 46). -/
def Obligations.TimeSourcesDisciplineTheTimebase : Prop :=
  ∀ (s : State) (t : Nat),
    let u := advance t s
    let own : Prop := s.power.state = .run ∧ s.power.service = .full ∧ s.pair.role ≠ .station
    let heard (m : PtpMsg) : Prop := own ∧ s.time.list.contains 1 = true ∧ s.time.portMask.getLsbD m.port = true
      ∧ s.net.link.getLsbD m.port = true ∧ m.domain.toNat = ptpDomain s
    let mark : Int := (calTai u : Int) - s.time.ppsDelay
    let label : Int := (mark + 500000000) / 1000000000 * 1000000000
    (∀ m o ppb g l r, heard m → s.time.list = 1 :: r → m.body = .sync o ppb → bestMaster u = some (m.src.toNat, g) →
      o.natAbs ≤ 250 → timeSrc s 1 = { good := 9, last := l } → s.time.state ≠ 2 → 1 ≤ s.time.stepUs →
      ∃ v, exec (.ptpFrame t m) s = .next v ∧ v.time.state = 2 ∧ v.time.active = 1 ∧ (timeSrc v 1).locked = true
        ∧ v.time.timeLost = false ∧ v.time.gm = g.gm ∧ v.time.tai = u.time.tai
        ∧ (s.time.state ≠ 3 → v.time.slew = -o ∧ v.time.offset = o))
    ∧ (∀ m o ppb g l, heard m → s.time.list = [1] → m.body = .sync o ppb → bestMaster u = some (m.src.toNat, g) →
      10000 < o.natAbs → timeSrc s 1 = { good := 10, bad := 2, locked := true, last := l } → s.time.state = 2 → s.time.active = 1 →
      ∃ v, exec (.ptpFrame t m) s = .next v ∧ v.time.state = 3 ∧ v.time.active = 0 ∧ (timeSrc v 1).locked = false
        ∧ u.now ≤ v.time.lostAt ∧ v.time.lostAt < u.now + 1000)
    ∧ (∀ m o ppb, heard m → m.body = .sync o ppb → (bestMaster u).map Prod.fst ≠ some m.src.toNat →
      ∃ v, exec (.ptpFrame t m) s = .next v ∧ v.time = u.time)
    ∧ (∀ m d alt, heard m → m.body = .announce d alt → s.time.masters = [] →
      ∃ v, exec (.ptpFrame t m) s = .next v ∧ v.time.gm = d.gm ∧ v.time.ptpUtc = d.utcOffset ∧ v.time.leap61 = d.leap61
        ∧ v.time.leap59 = d.leap59 ∧ v.time.altOffset = (if alt.isSome then alt else s.time.altOffset) ∧ v.time.tai = u.time.tai)
    ∧ (∀ m, serving s = true → m.parityOk = false →
      exec (.irigFrame t m) s = .next { u with ev.inbox := s.ev.inbox ++ [stampNow 81 0 0#32 u] })
    ∧ (∀ m use, own → m.parityOk = true → s.time.list.contains 2 = true →
      use = (if s.time.irigFlags.getLsbD 0 then m.ieee1344 else none) →
      ∃ v, exec (.irigFrame t m) s = .next v ∧ v.time.irigLeap = use.isSome
        ∧ ((use.map Irig1344.quality).getD 0 ≠ 15 → (timeSrc v 2).last = u.now)
        ∧ ((use.map Irig1344.quality).getD 0 = 15 → v.time.src = s.time.src ∧ v.time.tai = u.time.tai))
    ∧ (∀ ppb, serving s = true → 400000000 < (mark - label).natAbs →
      exec (.ppsInEdge t ppb) s = .next { u with ev.inbox := s.ev.inbox ++ [stampNow 80 0 0#32 u] })
    ∧ (∀ ppb, own → (mark - label).natAbs ≤ 400000000 → s.time.list.contains 3 = true →
      ∃ v, exec (.ppsInEdge t ppb) s = .next v ∧ (timeSrc v 3).last = u.now)
    ∧ (∀ k : Fin 4, k ≠ 3 → s.power.state = .run → timeSrc s (k + 1) ≠ {} → (timeSrc s (k + 1)).last + 3000000000 ≤ (advance t s).now →
      ∃ v, exec (.timeSourceTimeout t k) s = .next v ∧ timeSrc v (k + 1) = {}
        ∧ (s.time.list = [k + 1] → s.time.state = 2 → v.time.state = 3 ∧ v.time.active = 0))
    ∧ (s.power.state = .slumber → exec (.holdoverExpiry t) s = .next u)
    ∧ (s.time.state = 3 → s.power.state ≠ .slumber → s.time.lostAt + s.time.holdoverS * 1000000000 ≤ u.now →
      ∃ v, exec (.holdoverExpiry t) s = .next v ∧ v.time.state = 0 ∧ v.time.active = 0
        ∧ ∃ e, v.ev.inbox = s.ev.inbox ++ [e] ∧ e.source = 84 ∧ e.kind = 6 ∧ e.data = 0#32)
    ∧ (s.power.state = .run → s.time.state = 2 ∨ s.time.state = 3 → s.time.ppsOutMs ≠ 0 →
      (u.time.tai % 1000000000 = 0 →
        exec (.ppsOutEdge t) s = .next { u with time.ppsHighUntil := some (u.now + s.time.ppsOutMs * 1000000) })
      ∧ (u.time.tai % 1000000000 ≠ 0 → exec (.ppsOutEdge t) s = .next u))
    ∧ (s.time.state < 2 ∨ s.time.ppsOutMs = 0 → exec (.ppsOutEdge t) s = .next { u with time.ppsHighUntil := none })
    ∧ ∀ (mb : Fin 8) (w : Work), Asks s mb 0x0203 w → s.power.state ≠ .holdup → s.pair.role ≠ .station →
      ∃ p v, exec (.timeSourceCfg t mb) s = .next (finish w DONE p v)
        ∧ v.time.list = cleanList (field w.payload 0 1 1) (field w.payload 1 1 2) (field w.payload 2 1 3)
        ∧ v.time.holdoverS = clamp 1 3600 (field w.payload 6 2 60) ∧ v.time.irigDelay = min 100000 (field w.payload 8 4 0)
        ∧ v.time.ppsDelay = min 100000 (field w.payload 12 4 0) ∧ v.time.ppsOutMs = min 200 (field w.payload 17 1 100)
        ∧ v.time.stepUs = clamp 10 10000 (field w.payload 18 2 1000)
        ∧ v.time.portMask ≠ 0#8 ∧ v.clk = s.clk ∧ v.img = s.img
        ∧ v.cal = { s.cal with learnAt := v.cal.learnAt, learnLo := v.cal.learnLo, learnHi := v.cal.learnHi }

/-- The dies and the field commands (R294, R297, R306, R315, R318, R319, R323-R327, R475, R580): a die that gains power starts with
every latch off, every timer idle and every counter at 0, and lost its configuration unless a running logic side sends it; a
firmware restart keeps every latch and refuses FLD_TEST with BUSY; FLD_CFG takes the clamped record, which the channel follows from
its next burden period on, the model's choice (log entry 52), and refuses a change of a fixed field; FLD_COUNTER reads or presets a
count; FLD_TEST clears a trip, and the round trip of a loop is free (log entry 5). -/
def Obligations.DiesRestartAndFieldCommandsAnswer : Prop :=
  ∀ (s : State) (t : Nat) (d : Fin 4) (mb : Fin 8) (w : Work),
    let u := advance t s
    let ch := min 63 (field w.payload 0 1 0)
    (∃ v, exec (.fieldDiePowerUp t d) s = .next v ∧ (v.die d).powered = true ∧ (v.die d).lostPower = true
      ∧ (v.die d).configured = serving s ∧ (v.die d).obeyed = none ∧ (v.die d).lost = (s.die d).txLost
      ∧ (∀ k, k < 16 → ∀ c, c = v.chan (16 * d + k) → c.latch = false ∧ c.applied = false ∧ c.pulseEnd = none ∧ c.safAt = none
        ∧ c.count = 0#32 ∧ c.validated = false ∧ c.dp = 0#2 ∧ c.tripped = false ∧ c.stale = true
        ∧ c.cfg = (if serving s then chanCfg s (16 * d + k) else {}))
      ∧ (∀ k, k / 16 ≠ d.val → v.chan k = s.chan k) ∧ v.img.val = s.img.val)
    ∧ ((s.die d).powered = true → (s.die d).fwRestart = false →
      exec (.fieldDieFwRestart t d) s = .next (u.setDie d
        { s.die d with fwRestart := true, restarts := min ((s.die d).restarts + 1) 65535 }))
    ∧ exec (.fieldDieFwRestartDone t d) s = .next (u.setDie d { s.die d with fwRestart := false })
    ∧ (Asks s mb 0x0501 w → payloadBit w.payload 1 0 = false → s.ps.prog.isSome = true → s.pair.role ≠ .station →
      s.power.state ≠ .holdup → (s.die (dieOf ch)).fwRestart = false → safetyChan s ch = false →
      ∀ new, new = clampCfg s ch (readCfg w.payload 4) → new.function = (chanCfg s ch).function →
      new.mode &&& 0x2E#8 = (chanCfg s ch).mode &&& 0x2E#8 → continuous new = false →
      ∃ v, exec (.fldCfg t mb) s = .next v ∧ chanCfg v ch = new ∧ (∀ k, k ≠ ch → chanCfg v k = chanCfg s k)
        ∧ (dieLive s ch = true → (v.chan ch).cfg = (u.chanNow ch).cfg
          ∧ ∀ now, u.now + 62500 ≤ now → (settleCfg now 62500 (v.chan ch)).cfg = new)
        ∧ latches v = latches s)
    ∧ (Asks s mb 0x0501 w → payloadBit w.payload 1 0 = false →
      (clampCfg s ch (readCfg w.payload 4)).function ≠ (chanCfg s ch).function →
      exec (.fldCfg t mb) s = .next (finish w OWNED [] u))
    ∧ (Asks s mb 0x0503 w → field w.payload 1 1 0 = 1 → counts (chanCfg s ch) = true → safetyChan s ch = false →
      s.pair.role ≠ .station → s.power.state ≠ .holdup →
      ∃ v, exec (.fldCounter t mb) s = .next v ∧ (v.chan ch).count = w32 (field w.payload 4 4 0)
        ∧ (∀ k, k ≠ ch → v.chan k = s.chan k))
    ∧ (Asks s mb 0x0503 w → field w.payload 1 1 0 = 0 → counts (chanCfg s ch) = true → s.pair.role ≠ .station →
      s.power.state ≠ .holdup →
      ∃ p, exec (.fldCounter t mb) s = .next (finish w DONE p (u.setChan ch (settleCount u.now (s.chan ch)))))
    ∧ (Asks s mb 0x0503 w → counts (chanCfg s ch) = false → exec (.fldCounter t mb) s = .next (finish w NOT_PRESENT [] u))
    ∧ (Asks s mb 0x0504 w → field w.payload 1 1 1 = 0 → (s.die (dieOf ch)).fwRestart = false → s.pair.role ≠ .station →
      s.power.state ≠ .holdup → isOutput (s.chan ch).cfg = true → (s.chan ch).tripped = true → (s.chan ch).hot = false →
      exec (.fldTest t mb) s = .next (finish w DONE (leBytes 1 ch ++ leBytes 1 0 ++ leBytes 1 0 ++ zeros 1 ++ leBytes 4 0)
        (u.setChan ch { s.chan ch with tripped := false, hot := false })))
    ∧ (Asks s mb 0x0504 w → field w.payload 1 1 1 = 1 → (s.die (dieOf ch)).fwRestart = false → s.pair.role ≠ .station →
      s.power.state ≠ .holdup → ∃ r ns, exec (.fldTest t mb) s = .next (finish w DONE
        (leBytes 1 ch ++ leBytes 1 1 ++ leBytes 1 r ++ zeros 1 ++ leBytes 4 ns) { u with eng.fresh := s.eng.fresh + 1 })
        ∧ (r = 0 ↔ ns ≤ 100))
    ∧ (Asks s mb 0x0504 w → (s.die (dieOf ch)).fwRestart = true → exec (.fldTest t mb) s = .next (finish w BUSY [] u))

/-- Inputs of a field die (R12, R145, R300, R302-R304, R320, R322, R461): the sentinel switches at VTH_R rising and VTH_F falling,
in units of 10 µV and off by its comparator's deviation, an operand (log entry 52); an edge away from the validated state starts a
candidate and is dated; samples that show the new state for the filter time validate it with the candidate's stamp, raise one record
and set RISE_SEEN or FALL_SEEN; a sample in the old state after a rest forgets the candidate; 100 ms of disagreement is INDUCED; a
good status frame brings the state into IX, and 250 µs without one is STALE; a double point follows an end position at once and
leaves it after its discrepancy time. -/
def Obligations.InputsAreValidatedAndReported : Prop :=
  ∀ (s : State) (t : Nat) (ch : Fin 64),
    let u := advance t s
    let c := s.chan ch
    let e := u.chanNow ch
    let b := settleCfg u.now (if continuous c.cfg then 0 else 3500) c
    let rise (g : ChanCfg) : Nat :=
      let off := if g.function = 1 then g.offsetMv else 0
      max 100000 (g.thrPct * (24000 + off) - 100 * off)
    let fall (g : ChanCfg) : Nat := max 50000 (rise g - g.hystPct * 24000)
    let reaches (mv l : Nat) (dev : Int) : Bool := decide ((l : Int) + 100 * max (-250) (min 250 dev) ≤ 100 * (mv : Int))
    let at1 (mv : Nat) (dev : Int) : Bool := reaches mv (if c.sentinel then fall e.cfg else rise e.cfg) dev
    let seen (mv : Nat) (dev : Int) : Bool :=
      reaches mv (if b.cfg.function = 1 ∨ c.validated = true then fall b.cfg else rise b.cfg) dev
    (∀ mv dev, dieLive s ch = true → e.cfg.function ≠ 0 →
      (at1 mv dev = e.sentinel → exec (.sentinelEdge t ch mv dev) s = .next (u.setChan ch { e with pinMv := mv }))
      ∧ (at1 mv dev ≠ e.sentinel → counts e.cfg = false → s.power.state ≠ .slumber →
        ∃ v, exec (.sentinelEdge t ch mv dev) s = .next v ∧ (v.chan ch).sentinel = at1 mv dev ∧ (v.chan ch).lastEdge = u.now
          ∧ (v.chan ch).validated = c.validated ∧ (v.chan ch).pinMv = mv ∧ (v.chan ch).count = c.count
          ∧ (at1 mv dev ≠ c.validated → (v.chan ch).cand.isSome = true) ∧ (∀ a, c.cand = some a → (v.chan ch).cand = some a)
          ∧ latches v = latches s ∧ v.img = s.img ∧ v.ev = s.ev)
      ∧ (at1 mv dev ≠ e.sentinel → counts e.cfg = true → c.cntLevel ≠ c.sentinel → e.cfg.cntEdge = 2 →
        c.lastEdge + 100 * e.cfg.cntFilter ≤ u.now → s.power.state ≠ .slumber →
        ∃ v, exec (.sentinelEdge t ch mv dev) s = .next v ∧ (v.chan ch).count = c.count + 1 ∧ (v.chan ch).cntLevel = c.sentinel))
    ∧ (∀ mv dev a, dieFirmware s ch = true → b.cfg.function ≠ 0 → seen mv dev ≠ c.validated → c.cand = some a →
      c.run.getD u.now + filterNs b.cfg ≤ u.now → dpEven s ch = none → dualOf s ch = none →
      ∃ v, exec (.burdenSample t ch ⟨mv, dev⟩) s = .next v ∧ (v.chan ch).validated = seen mv dev ∧ (v.chan ch).stamp = a
        ∧ (v.chan ch).cand = none ∧ (v.chan ch).run = none ∧ (v.chan ch).rejects = c.rejects ∧ (v.chan ch).pinMv = mv
        ∧ (seen mv dev = true → (v.chan ch).riseSeen = true) ∧ (seen mv dev = false → (v.chan ch).fallSeen = true)
        ∧ (∃ r, v.ev.inbox = s.ev.inbox ++ [r] ∧ r.tai = a ∧ r.source = ch.val ∧ r.kind = (if seen mv dev then 0 else 1)
          ∧ r.quality = c.candQ ∧ r.flags = c.candFlags)
        ∧ latches v = latches s ∧ v.img = s.img)
    ∧ (∀ mv dev, dieFirmware s ch = true → b.cfg.function ≠ 0 → seen mv dev ≠ c.validated → c.run = none → 0 < filterNs b.cfg →
      ∃ v, exec (.burdenSample t ch ⟨mv, dev⟩) s = .next v ∧ (v.chan ch).validated = c.validated ∧ (v.chan ch).run = some u.now
        ∧ v.ev = s.ev)
    ∧ (∀ mv dev, dieFirmware s ch = true → b.cfg.function ≠ 0 → seen mv dev = c.validated → c.cand.isSome = true →
      c.sentinel = c.validated → c.lastEdge + max (filterNs b.cfg) 62500 ≤ u.now →
      ∃ v, exec (.burdenSample t ch ⟨mv, dev⟩) s = .next v ∧ (v.chan ch).cand = none
        ∧ (v.chan ch).rejects = min (c.rejects + 1) 65535 ∧ (v.chan ch).validated = c.validated ∧ v.ev = s.ev)
    ∧ (∀ a, c.disagreeAt = some a → dieFirmware s ch = true → c.cfg.function = 1 → c.faults.getLsbD 7 = false →
      a + 100000000 ≤ (advance t s).now →
      ∃ v, exec (.induced t ch) s = .next v ∧ (v.chan ch).faults = c.faults ||| 0x80#16 ∧ (v.chan ch).validated = c.validated)
    ∧ (dieFirmware s ch = true → c.lost = false → (s.die (dieOf ch)).lost = false → serving s = true → c.cfg.function = 1 →
      counts c.cfg = false → modeBit c.cfg 1 = false → dpEven s ch = none → dualOf s ch = none →
      ∃ v, exec (.statusFrame t ch true) s = .next v ∧ v.img.val = s.img.val.set 0#32 (imgAddr 1 ch) (if c.validated then 1#32 else 0#32)
        ∧ (v.chan ch).rx = c.validated ∧ (v.chan ch).stale = false ∧ (v.chan ch).statusAt = (advance t s).now
        ∧ (v.chan ch).riseSeen = false ∧ (v.chan ch).fallSeen = false ∧ latches v = latches s)
    ∧ (dieFirmware s ch = true → c.lost = false → (s.die (dieOf ch)).lost = false → serving s = true → c.cfg.function ≠ 0 →
      ∃ v, exec (.statusFrame t ch false) s = .next v ∧ (v.chan ch).faults = c.faults ||| 0x40#16 ∧ v.img = s.img
        ∧ latches v = latches s ∧ v.sup.ctr.get 0 6 = (s.sup.ctr.get 0 6 + 1) % 2 ^ 32)
    ∧ (∀ ok, c.lost = true ∨ (s.die (dieOf ch)).lost = true ∨ serving s = false → exec (.statusFrame t ch ok) s = .next u)
    ∧ (c.stale = false → c.statusAt + 250000 ≤ (advance t s).now →
      ∃ v, exec (.staleTimeout t ch) s = .next v ∧ (v.chan ch).stale = true ∧ v.img.val = s.img.val ∧ latches v = latches s)
    ∧ (c.dpLeft = none → dpEven s ch = some ch.val → exec (.dpDiscrepancyTimeout t ch) s = .next u)
    ∧ (dieFirmware s ch = true → dpEven s ch = some ch.val → c.dpLeft.isSome = true → ∀ d, d = s.chan (ch + 1) →
      c.validated ≠ d.validated → c.dp ≠ BitVec.ofNat 2 (2 * bit c.validated + bit d.validated) →
      ∃ v, exec (.dpDiscrepancyTimeout t ch) s = .next v ∧ (v.chan ch).dp = BitVec.ofNat 2 (2 * bit c.validated + bit d.validated)
        ∧ (v.chan ch).dpLeft = none ∧ (v.chan ch).dpLate = false ∧ v.ev.inbox.length = s.ev.inbox.length + 1)
    ∧ (dieFirmware s ch = true → dpEven s ch = some ch.val → c.validated = (s.chan (ch + 1)).validated → (c.dp = 1#2 ∨ c.dp = 2#2) →
      ∀ left, c.dpLeft = some left →
      (c.dpAt + 1000000 * c.cfg.discMs ≤ u.now →
        ∃ v, exec (.dpDiscrepancyTimeout t ch) s = .next v ∧ (v.chan ch).dp = (if c.validated then 3#2 else 0#2)
          ∧ (v.chan ch).dpLate = true ∧ (v.chan ch).dpLeft = some left ∧ (v.chan ch).faults.getLsbD 11 = true
          ∧ v.ev.inbox.length = s.ev.inbox.length + 1)
      ∧ (u.now < c.dpAt + 1000000 * c.cfg.discMs →
        ∃ v, exec (.dpDiscrepancyTimeout t ch) s = .next v ∧ (v.chan ch).dp = c.dp ∧ v.ev = s.ev))

/-- Claims, command frames and protection at a field die (R310, R312-R314, R316-R318, R325, R408, R580): the frame of the obeyed
claim is applied to an unowned LEVEL channel, a frame of another source or with a bad CRC changes no latch, and a lost channel hears
none; Rime's channels are silent while it is stopped; a lapsed claim leaves the die HOLDING with its latches; trips, the readback of
a SAF channel and the SAF timer switch the channel off and report it, the end of a pulse switches it off; 10 ms of an applied 0 end
a trip. -/
def Obligations.OutputsFollowTheClaimAndProtectThemselves : Prop :=
  ∀ (s : State) (t : Nat) (ch : Fin 64) (d : Fin 4),
    let u := advance t s
    let c := s.chan ch
    (∀ f : CmdFrame, f.crcOk = true → (s.die (dieOf ch)).powered = true → (s.die (dieOf ch)).hold = false →
      (s.die (dieOf ch)).lost = false → f.src = 0 → f.claim.getLsbD 15 = true → 0 < s.pair.leaseQ →
      claimValid u ((s.die (dieOf ch)).claims.get {} 1) = false → claimValid u ((s.die (dieOf ch)).claims.get {} 2) = false →
      c.lost = false → (u.chanNow ch).cfg.function = 2 → isSaf (u.chanNow ch).cfg = false → c.tripped = false → c.safOff = false →
      ownMode c.owner = 0 → ∀ b, f.qx = some b →
      ∃ v, exec (.commandFrame t ch f) s = .next v ∧ (v.chan ch).latch = b ∧ (v.chan ch).applied = b
        ∧ (v.die (dieOf ch)).obeyed = some 0 ∧ (v.die (dieOf ch)).holding = false
        ∧ (∀ k, k < 64 → k ≠ ch.val → v.chan k = s.chan k) ∧ v.img = s.img)
    ∧ (∀ f : CmdFrame, f.crcOk = false → (s.die (dieOf ch)).powered = true → (s.die (dieOf ch)).lost = false → c.lost = false →
      ∃ v, exec (.commandFrame t ch f) s = .next v ∧ (v.chan ch).faults = c.faults ||| 0x40#16 ∧ (v.chan ch).cmdAt = u.now
        ∧ latches v = latches s ∧ v.fld.dies = s.fld.dies)
    ∧ (∀ f : CmdFrame, c.lost = true ∨ (s.die (dieOf ch)).lost = true ∨ (s.die (dieOf ch)).powered = false →
      exec (.commandFrame t ch f) s = .next u)
    ∧ (∀ f : CmdFrame, f.crcOk = true → (s.die (dieOf ch)).powered = true → f.src ≠ 0 →
      bestSource u (s.die (dieOf ch)) ≠ some f.src.val →
      ∃ v, exec (.commandFrame t ch f) s = .next v ∧ ∀ k, v.chan k = s.chan k)
    ∧ (∀ p, c.cmdAt + 125000 ≤ (advance t s).now → serving s = true → cmdSource u = some p →
      ownMode c.owner = 0 ∨ rimeSends s = true →
      exec (.commandFrameRefresh t ch) s = .next (u.setChan ch { c with
        lastCmd := some (cmdFrame p.1 p.2 u ch), cmdAt := (advance t s).now, freshOwed := false }))
    ∧ (ownMode c.owner ≠ 0 → rimeSends s = false → exec (.commandFrameRefresh t ch) s = .next u)
    ∧ (∀ k : Fin 3, ∀ q, q = (s.die d).claims.get {} k → (s.die d).powered = true → q.heard = true →
      q.last + 250000 * q.leaseQ ≤ (advance t s).now →
      ∃ v, exec (.claimLeaseExpiry t d k) s = .next v ∧ ((v.die d).claims.get {} k).heard = false ∧ (v.die d).obeyed ≠ some k.val
        ∧ ((v.die d).obeyed = none → (v.die d).holding = true) ∧ latches v = latches s)
    ∧ (dieFirmware s ch = true → isOutput c.cfg = true → c.validated ≠ driverOn s ch → c.expectAt + 2000001 ≤ (advance t s).now →
      ∃ v, exec (.readback t ch) s = .next v ∧ (v.chan ch).faults = c.faults ||| 0x20#16
        ∧ (isSaf c.cfg = true → (v.chan ch).latch = false ∧ (v.chan ch).safOff = true)
        ∧ (isSaf c.cfg = false → (v.chan ch).latch = c.latch))
    ∧ (∀ ua th, dieFirmware s ch = true → isOutput c.cfg = true → modeBit c.cfg 4 = true → driverOn s ch = true →
      ua < max 1000 (min 3000 th) →
      ∃ v, exec (.openLoad t ch ⟨ua, th⟩) s = .next v ∧ (v.chan ch).faults = c.faults ||| 0x10#16 ∧ (v.chan ch).latch = c.latch)
    ∧ (∀ ma lim, driving s ch = true → 280 < ma →
      ∃ v, exec (.overload t ch ma lim) s = .next v ∧ (v.chan ch).tripped = true ∧ (v.chan ch).latch = false
        ∧ (v.chan ch).pulseEnd = none ∧ (v.chan ch).faults = c.faults ||| (if lim then 2#16 else 1#16)
        ∧ (∀ k, k ≠ ch.val → (v.chan k).latch = (s.chan k).latch))
    ∧ (∀ ma, driving s ch = true →
      ∃ v, exec (.short t ch ma) s = .next v ∧ (v.chan ch).tripped = true ∧ (v.chan ch).latch = false
        ∧ (v.chan ch).pulseEnd = none ∧ (v.chan ch).faults = c.faults ||| 2#16)
    ∧ (dieLive s ch = true → isOutput c.cfg = true → c.tripped = false →
      ∃ v, exec (.thermal t ch) s = .next v ∧ (v.chan ch).tripped = true ∧ (v.chan ch).latch = false
        ∧ (v.chan ch).pulseEnd = none ∧ (v.chan ch).faults = c.faults ||| 4#16)
    ∧ (∀ (ma : List Nat) th, (s.die d).powered = true → (∀ k, k < 16 → driving s (16 * d + k) = true) →
      max 2000 (min 2200 th) < (ma.take 16).sum →
      ∀ j, j < 16 → (∀ k, k < 16 → ma.getD k 0 ≤ ma.getD j 0) → (∀ k, k < j → ma.getD k 0 < ma.getD j 0) →
      ∃ v, exec (.dieOverload t d ⟨ma, th⟩) s = .next v ∧ (v.chan (16 * d + j)).tripped = true ∧ (v.chan (16 * d + j)).latch = false
        ∧ (v.chan (16 * d + j)).faults.getLsbD 3 = true ∧ (∀ k, k < 16 → k ≠ j → (v.chan (16 * d + k)).latch = (s.chan (16 * d + k)).latch))
    ∧ (∀ a, c.zeroAt = some a → c.tripped = true → c.applied = false →
      (a + 10000000 ≤ (advance t s).now → exec (.tripClear t ch) s = .next (u.setChan ch { c with tripped := false }))
      ∧ ((advance t s).now < a + 10000000 → exec (.tripClear t ch) s = .next (u.setChan ch c)))
    ∧ (∀ e, c.pulseEnd = some e → e ≤ (advance t s).now → exec (.pulseEnd t ch) s = .next (u.setChan ch
        { c with pulseEnd := none, latch := false, pulseArmed := !c.applied, expectAt := (advance t s).now }))
    ∧ (∀ e, c.safAt = some e → e ≤ (advance t s).now → isSaf c.cfg = true →
      ∃ v, exec (.safTimeout t ch) s = .next v ∧ (v.chan ch).latch = false ∧ (v.chan ch).safOff = true ∧ (v.chan ch).safSeen0 = false
        ∧ (v.chan ch).pulseEnd = none ∧ (v.chan ch).faults = c.faults ||| 0x200#16
        ∧ (∀ k, k ≠ ch.val → (v.chan k).latch = (s.chan k).latch))

/-- The host port (R111, R183, R550-R559, R563-R568, R571-R574): a doorbell makes an idle mailbox BUSY with its request, and is
counted as ignored otherwise; a request is accepted or refused; a response is released, and a deferred result takes the idle buffer;
PENDING after 2 s; the window's registers and buffers, over PCIe and QSPI, whose WO and reserved bytes read as zero; a low word
latches its high word; PERST_N; an access in SLUMBER, or while it is being entered; the event stream's writing, its read index and
its interrupt; the USB consumer attaches at the oldest record and reads 16 records a packet, asked for by bit 8 of RELEASE's mask,
which is the model's choice (log entry 56). -/
def Obligations.HostPortAndMailboxes : Prop :=
  ∀ (s : State) (t : Nat) (mb : Fin 8) (w : Work),
    let u := advance t s
    let awake : Prop := inSlumber s = false ∧ enteringSlumber s = false
    (∀ (n : Fin 6) (req : Bytes), awake → portsUp s = true →
      ((s.mbox n).state = 0 → waitingResult s n = none → deferredRunning s n < 8 →
        ∃ v r, exec (.doorbell t (1#32 <<< n.val) false req) s = .next v ∧ (v.mbox n).state = 1 ∧ v.host.works = s.host.works ++ [r]
          ∧ r = parseRequest s.host.nextWid n ((advance t s).now) (Memory.readBytes (s.mbox n).req 0 4096)
          ∧ (∀ k, k ≠ n.val → v.mbox k = s.mbox k))
      ∧ ((s.mbox n).state ≠ 0 → exec (.doorbell t (1#32 <<< n.val) false req) s = .next (u.setMbox n
          { s.mbox n with ignored := min ((s.mbox n).ignored + 1) 65535 })))
    ∧ (s.host.works.find? (fun x => x.mb = mb.val && !x.accepted) = some w → portsUp s = true → s.sec.stewardHalted = false → inWork s < 8 →
      (admission u w = none → exec (.requestAccept t mb) s = .next
        (touchSession w (putWork { w with accepted := true, role := sessionRole s w } u)))
      ∧ (∀ st, admission u w = some st → exec (.requestAccept t mb) s = .next (finish w st [] (touchSession w u))))
    ∧ (∀ n : Fin 6, awake → portsUp s = true → (s.mbox n).state = 2 → waitingResult s n = none →
      exec (.release t (1#32 <<< n.val) false) s = .next (u.setMbox n { s.mbox n with state := 0, deferredResult := false }))
    ∧ (∀ st p, waitingResult s mb = some w → w.result = some (st, p) → w.mb = mb.val → (s.mbox mb).state = 0 →
      ∃ v, exec (.deferredResult t mb) s = .next v ∧ (v.mbox mb).state = 2 ∧ (v.mbox mb).deferredResult = true
        ∧ (v.mbox mb).tag = w.tag ∧ v.host.works = s.host.works.filter (fun x => x.wid ≠ w.wid) ∧ v.host.irq.getLsbD mb = true)
    ∧ (s.host.works.find? (fun x => x.mb = mb.val && !x.deferred && x.result.isNone) = some w → (s.mbox mb).state = 1 → w.mb = mb.val →
      (w.rungAt + 2000000000 ≤ (advance t s).now → ∃ v, exec (.mailboxPending t mb) s = .next v ∧ (v.mbox mb).state = 2
        ∧ (v.mbox mb).deferredResult = false ∧ { w with deferred := true } ∈ v.host.works)
      ∧ ((advance t s).now < w.rungAt + 2000000000 → exec (.mailboxPending t mb) s = .next u))
    ∧ (∀ m, awake → exec (.irqStatus t m) s = .next { u with host.irq := s.host.irq &&& ~~~m })
    ∧ (∀ m, inSlumber s = false → enteringSlumber s = true → s.power.wakeFlags.getLsbD 1 = true → s.power.keptWake = .none →
      exec (.irqStatus t m) s = .next { u with power.keptWake := .host, host.irq := s.host.irq &&& ~~~m })
    ∧ (∀ rd, awake → streamOn s = true → s.host.perst = false →
      exec (.evtKick t rd) s = .next { u with host.stream.kick := false, host.stream.rdIndex :=
        if rd < s.host.stream.rdIndex ∨ s.host.stream.wrIndex < rd then s.host.stream.wrIndex else rd })
    ∧ (∀ rd, streamOn s = true → s.host.perst = false → ringFull s = true → s.host.stream.rdIndex ≤ rd → rd ≤ s.host.stream.wrIndex →
      exec (.rdIndexPoll t rd) s = .next { u with host.stream.kick := false, host.stream.rdIndex := rd })
    ∧ (awake → portsUp s = true →
      exec (.highWordLatch t 0x20) s = .next { u with
        host.readout := leBytes 4 (s.host.stream.wrIndex % 2 ^ 32), host.latch := w32 (s.host.stream.wrIndex / 2 ^ 32) })
    ∧ (∀ v, awake → portsUp s = true →
      exec (.registerWrite t 0xC v) s = .next { u with host.irqEnable := v &&& 0xFFF#32 })
    ∧ (∀ (n : Fin 6) (k : Nat) (v : Word), awake → portsUp s = true → (s.mbox n).state = 0 → k < 1024 →
      ∃ x, exec (.registerWrite t (0x10000 + 4096 * n + 4 * k) v) s = .next x
        ∧ Memory.readWord (x.mbox n).req (4 * k) = v ∧ (k < 4 → windowWord x (0x10000 + 4096 * n + 4 * k) = 0#32)
        ∧ ((∀ i, i < 4 → hiddenByte (leNat (Memory.readBytes (x.mbox n).req 0 2)) (4 * k + i) = false) →
          windowWord x (0x10000 + 4096 * n + 4 * k) = v)
        ∧ x.host.works = s.host.works)
    ∧ (∀ a, s.power.hostQspi = true → awake → portsUp s = true → a < 2 ^ 24 →
      ∃ v, exec (.qspiRead t a 4) s = .next v ∧ v.host.readout = leBytes 4 (windowWord u a).toNat ∧ v.host.works = s.host.works)
    ∧ (∀ v : Word, s.power.hostQspi = true → awake → portsUp s = true →
      exec (.qspiWrite t 0xC (leBytes 4 v.toNat)) s = .next { u with host.irqEnable := v &&& 0xFFF#32 })
    ∧ (s.power.hostQspi = true → awake → exec (.qspiStatus t) s = .next { u with
        host.readout := [BitVec.ofNat 8 (bit (portsUp s) + 2 * bit (hostIrqLow s))] })
    ∧ (s.power.hostQspi = false → exec (.pciePerstN t) s = .next { u with
        host.perst := true, host.irq := 0#32, host.irqEnable := 0#32 })
    ∧ exec (.pciePerstNRelease t) s = .next { u with host.perst := false }
    ∧ (∀ off v, inSlumber s = true →
      (s.power.wakeFlags.getLsbD 1 = false → exec (.windowAccessInSlumber t true off v) s = .next
          (if off = 0x10 then (bitsOf v (List.range 6)).foldl (fun s n =>
            s.setMbox n { s.mbox n with ignored := min ((s.mbox n).ignored + 1) 65535 }) u else u))
      ∧ (s.power.wakeFlags.getLsbD 1 = true → ∃ x, exec (.windowAccessInSlumber t true off v) s = .next x ∧ x.power.state = .run
        ∧ x.power.lastWake = .host ∧ x.host.works = s.host.works))
    ∧ (∀ r, fullService s = true → s.power.hostQspi = false → streamOn s = true → s.host.perst = false → s.ev.markers.get none 1 = none →
      s.ev.fifo.getLast? = some r → s.ev.written = s.ev.hostPos + 1 → ringFull s = false → r.source < 128 →
      s.host.stream.sources.getLsbD r.source = true →
      ∃ v, exec (.eventStreamWrite t) s = .next v ∧ v.host.stream.wrIndex = s.host.stream.wrIndex + 1 ∧ v.ev.hostPos = s.ev.written
        ∧ Memory.readBytes v.host.hostMem (s.host.stream.rdptrAddr + 8) 8 = leBytes 8 (s.host.stream.wrIndex + 1)
        ∧ v.ev.fifo = s.ev.fifo)
    ∧ (streamOn s = true → s.host.stream.sinceIrq ≠ 0 → s.host.stream.firstAt + 1000 * s.host.stream.irqUs ≤ (advance t s).now →
      ∃ v, exec (.eventStreamIrqUs t) s = .next v ∧ v.host.irq.getLsbD 8 = true ∧ v.host.stream.sinceIrq = 0)
    ∧ (Asks s mb 0x0309 w → s.power.hostQspi = false → s.power.state ≠ .holdup →
      ∃ v, exec (.evtStreamCfg t mb) s = .next v ∧ v.host.stream.ringAddr = field w.payload 0 8 0 / 4096 * 4096
        ∧ v.host.stream.rdptrAddr = field w.payload 8 8 0 / 16 * 16
        ∧ v.host.stream.records = roundRecords (field w.payload 0x10 4 4096)
        ∧ v.host.stream.irqUs = clamp 10 100000 (field w.payload 0x18 4 1000)
        ∧ (v.host.stream.ringAddr ≠ s.host.stream.ringAddr → v.host.stream.wrIndex = 0 ∧ v.host.stream.rdIndex = 0))
    ∧ (s.host.usb = true →
      exec (.usbEventAttach t true) s = .next { u with
        ev.usbPos := some (s.ev.written - s.ev.fifo.length), ev.markers := s.ev.markers.set none 2 none }
      ∧ (∀ p, portsUp s = true → s.ev.usbPos = some p → s.ev.markers.get none 2 = none → s.ev.fifo.length - (s.ev.written - p) + 16 ≤ s.ev.fifo.length →
        ∃ v, exec (.release t (1#32 <<< 8) true) s = .next v ∧ v.ev.usbPos = some (p + 16) ∧ v.ev.fifo = s.ev.fifo
          ∧ v.host.readout = ((s.ev.fifo.drop (s.ev.fifo.length - (s.ev.written - p))).take 16).flatMap recBytes)
      ∧ exec (.usbEventAttach t false) s = .next { u with ev.usbPos := none, ev.markers := s.ev.markers.set none 2 none })

/-- The substation network (R106, R344-R354, R357, R360-R363): an accepted GOOSE message sets its points, its expiry and its counts,
one with another confRev is counted and changes no point; points go STALE at the expiry; a sampled-value frame in sequence loses
nothing; node entries are kept and age out; host frames fill the receive ring's slot or are counted as dropped, and the send ring is
read in order; a repetition raises sqNum and doubles the interval, a new state raises stNum; links and the configuration commands
act. -/
def Obligations.NetworkFramesAndPublications : Prop :=
  ∀ (s : State) (t : Nat) (mb : Fin 8) (w : Work),
    let u := advance t s
    (∀ (m : GooseMsg) (k : Nat) (g : GooseSub), g = s.net.subs.get {} k → s.net.mode = 0 → portLive s m.hdr.port = true →
      m.hdr.fcsOk = true → gooseSubFor s m = some k → g.alg = 0 → g.requireAuth = false → unpad g.datSet = unpad m.datSet →
      (m.confRev = g.confRev → m.ndsCom = false → m.test = false →
        (∀ l, g.last = some l → l.1 = m.stNum → newerSeq m.sqNum.toNat l.2.toNat = true) →
        (∀ e, e ∈ (prog s).gooseIn → e.ref = k → typeSuits m.members e = true) → (∀ c, c ∈ gooseConns s → c.ref ≠ k) →
        ∃ v, exec (.gooseRx t m) s = .next v ∧ (v.net.subs.get {} k).last = some (m.stNum, m.sqNum)
          ∧ (v.net.subs.get {} k).expire = some (u.time.mono + m.talMs * 1000000) ∧ (v.net.subs.get {} k).stale = false
          ∧ (v.net.subs.get {} k).accepted = (g.accepted + 1) % 2 ^ 32 ∧ (v.net.subs.get {} k).rejected = g.rejected
          ∧ (∀ e b, (prog s).gooseIn.filter (fun e => e.ref = k) = [e] → m.members[e.member]? = some (.bool b) → e.qmember = 0xFF →
            imgVal v e.point = b32 b ∧ v.img.q.get 2#4 e.point = 1#4 ∧ ∀ a, a ≠ e.point → imgVal v a = imgVal s a)
          ∧ (∀ j, j ≠ k → v.net.subs.get {} j = s.net.subs.get {} j))
      ∧ (m.confRev ≠ g.confRev →
        ∃ v, exec (.gooseRx t m) s = .next v ∧ (v.net.subs.get {} k).flags = g.flags ||| 1#8
          ∧ (v.net.subs.get {} k).rejected = (g.rejected + 1) % 2 ^ 32 ∧ (v.net.subs.get {} k).last = g.last ∧ v.img = s.img))
    ∧ (∀ (k : Fin 128) (e : Nat), (s.net.subs.get {} k).expire = some e → (s.net.subs.get {} k).enable = true →
      (s.net.subs.get {} k).stale = false → e ≤ u.time.mono →
      ∃ v, exec (.gooseExpiry t k) s = .next v ∧ (v.net.subs.get {} k).stale = true
        ∧ (∀ a, a ∈ subPoints s k → v.img.q.get 2#4 a = 2#4) ∧ v.img.val = s.img.val)
    ∧ (∀ (m : SvMsg) (k c : Nat) (g : SvStream), g = s.net.sv.get {} k → s.net.mode = 0 → portLive s m.hdr.port = true →
      m.hdr.fcsOk = true → svFor s m = some k → g.alg = 0 → g.requireAuth = false → m.confRev = g.confRev →
      m.simulation = false → g.spc = 0 → m.asdus.map List.length = [8] → m.smpCnt < 80 * freqOf g → g.lastCnt = some c →
      m.smpCnt = (c + 1) % (80 * freqOf g) →
      ∃ v, exec (.svRx t m) s = .next v ∧ (v.net.sv.get {} k).lastCnt = some m.smpCnt
        ∧ (v.net.sv.get {} k).missing = g.missing % 2 ^ 32 ∧ (v.net.sv.get {} k).accepted = (g.accepted + 1) % 2 ^ 32
        ∧ (v.net.sv.get {} k).rejected = g.rejected)
    ∧ (∀ h : NetHdr, s.net.mode ≠ 0 → portLive s h.port = true → h.fcsOk = true → h.seq = none →
      ∃ v, exec (.supervisionFrame t h) s = .next v ∧ (v.net.nodes.get (0, []) h.src.toNat).1 = (advance t s).now + 1 ∧ v.img = s.img)
    ∧ (inRun s = true → s.pair.role ≠ .station → s.net.mode ≠ 0 → clkReady s 5 = true →
      s.net.supAt + s.net.supS * 1000000000 ≤ (advance t s).now →
      exec (.supervisionSend t) s = .next { u with net.supSent := s.net.supSent + 1, net.supAt := (advance t s).now })
    ∧ (∀ mac : BitVec 48, (s.net.nodes.get (0, []) mac.toNat).1 ≠ 0 →
      (s.net.nodes.get (0, []) mac.toNat).1 - 1 + 60000000000 ≤ (advance t s).now →
      ∃ v, exec (.nodeEntryAge t mac) s = .next v ∧ v.net.nodes.get (0, []) mac.toNat = (0, [])
        ∧ ∀ k, k ≠ mac.toNat → v.net.nodes.get (0, []) k = s.net.nodes.get (0, []) k)
    ∧ (∀ (port : Fin 2) (up : Bool), s.net.link.getLsbD port ≠ up → inRun s = true → s.pair.role ≠ .station →
      clkReady s 5 = true → s.net.mode ≠ 0 →
      ∃ v, exec (.netLinkChange t port up) s = .next v ∧ v.net.link.getLsbD port = up
        ∧ v.net.link.getLsbD (1 - port) = s.net.link.getLsbD (1 - port)
        ∧ ∃ r, v.ev.inbox = s.ev.inbox ++ [r] ∧ r.source = 82 + port.val ∧ r.kind = (if up then 0 else 1))
    ∧ (∀ (h : NetHdr) (f : Bytes) (owned dup : Bool), s.net.mode = 0 → portLive s h.port = true → h.fcsOk = true → h.dst = s.net.mac →
      ringsLive s = true → s.net.rxRing ≠ 0 → f.length ≤ 2032 → engineFrame f = false →
      ∃ v, exec (.hostFrameRx t h f ⟨owned, dup⟩) s = .next v
        ∧ (owned = true → v.net.rxSlot = (s.net.rxSlot + 1) % s.net.slots ∧ v.net.hostDropped = s.net.hostDropped
          ∧ ∀ i, i < f.length → some (Memory.readByte v.host.hostMem (s.net.rxRing + 2048 * s.net.rxSlot + (16 + i))) = f[i]?)
        ∧ (owned = false → v.net.hostDropped = (s.net.hostDropped + 1) % 2 ^ 32 ∧ v.host.hostMem = s.host.hostMem))
    ∧ (∀ x : TxSlot, ringsLive s = true → s.net.txRing ≠ 0 → x.own = true → 14 ≤ x.len → x.len ≤ 2032 → x.len = x.frame.length →
      ∃ v, exec (.hostTxPoll t [x]) s = .next v ∧ v.net.txSlot = (s.net.txSlot + 1) % s.net.slots
        ∧ v.net.hostSent.head? = some x.frame)
    ∧ (∀ (k : Fin 64) (a : Nat) (g : GoosePub), g = s.net.pubs.get {} k → g.nextAt = some a → a ≤ u.time.mono → g.enable = true →
      inControl u = true → fullService s = true → s.scan.mode = 2 → s.pair.role ≠ .station →
      ∃ v m, exec (.gooseRepeat t k) s = .next v ∧ v.net.sent.head? = some m ∧ m.pub = k.val ∧ m.values = g.vals
        ∧ m.stNum = (v.net.pubs.get {} k).stNum ∧ m.sqNum = (v.net.pubs.get {} k).sqNum
        ∧ (g.newState = false → m.stNum = g.stNum ∧ m.sqNum = (if g.sqNum = 2 ^ 32 - 1 then 1 else g.sqNum + 1)
          ∧ (v.net.pubs.get {} k).curveMs = (if g.t0Ms ≤ 2 * g.curveMs then g.t0Ms else 2 * g.curveMs))
        ∧ (g.newState = true → m.stNum = (if g.stNum = 2 ^ 32 - 1 then 1 else g.stNum + 1) ∧ m.sqNum = 0
          ∧ (v.net.pubs.get {} k).curveMs = g.t1Ms)
        ∧ (v.net.pubs.get {} k).nextAt = some (u.time.mono + (v.net.pubs.get {} k).curveMs * 1000000))
    ∧ (Asks s mb 0x0701 w → s.pair.role ≠ .station → s.power.hostQspi = false → s.power.state ≠ .holdup →
      ∃ v, exec (.netPortCfg t mb) s = .next v ∧ v.net.mode = (if 2 < field w.payload 0 1 1 then 0 else field w.payload 0 1 1)
        ∧ v.net.supS = clamp 1 60 (field w.payload 2 1 2) ∧ v.net.rxRing = field w.payload 4 8 0 / 4096 * 4096
        ∧ v.net.txRing = field w.payload 0xC 8 0 / 4096 * 4096 ∧ (v.net.mode ≠ s.net.mode → v.net.link = 0#2))
    ∧ (Asks s mb 0x0702 w → s.pair.role ≠ .station → s.pair.role ≠ .apprentice → s.power.state ≠ .holdup →
      payloadBit w.payload 1 7 = false → ∀ k g, k = min (field w.payload 0 1 0) 127 → g = subOf w.payload →
      (g.enable = true → unpad g.gocbRef ≠ []) →
      ∃ v, exec (.gooseSubCfg t mb) s = .next v ∧ (v.net.subs.get {} k).enable = g.enable ∧ (v.net.subs.get {} k).dst = g.dst
        ∧ (sameSub (s.net.subs.get {} k) g = false → v.net.subs.get {} k = { g with stale := true })
        ∧ (∀ j, j ≠ k → v.net.subs.get {} j = s.net.subs.get {} j))
    ∧ (Asks s mb 0x0703 w → s.pair.role ≠ .station → s.pair.role ≠ .apprentice → s.power.state ≠ .holdup →
      payloadBit w.payload 1 7 = false → ∀ k g, k = min (field w.payload 0 1 0) 63 → g = pubOf w.payload k →
      ∃ v, exec (.goosePubCfg t mb) s = .next v ∧ (v.net.pubs.get {} k).enable = g.enable ∧ (v.net.pubs.get {} k).t0Ms = g.t0Ms
        ∧ (v.net.pubs.get {} k).t1Ms = g.t1Ms ∧ (v.net.pubs.get {} k).stNum = (s.net.pubs.get {} k).stNum
        ∧ (samePub (s.net.pubs.get {} k) g = false → (v.net.pubs.get {} k).newState = true))
    ∧ (Asks s mb 0x0704 w → s.pair.role ≠ .station → s.pair.role ≠ .apprentice → s.power.state ≠ .holdup →
      payloadBit w.payload 1 7 = false → ∀ k g, k = min (field w.payload 0 1 0) 7 → g = svOf w.payload →
      (prog s).sv.get 0 k ≠ 0 → svSuits s k g = true →
      ∃ v, exec (.svSubCfg t mb) s = .next v ∧ (v.net.sv.get {} k).enable = g.enable ∧ (v.net.sv.get {} k).spc = g.spc
        ∧ (v.net.sv.get {} k).svId = g.svId)

/-- The pair (R287, R355, R390-R418, R477): a new HEALTH value counts after it has held; heartbeats keep a lane up and bring claim
and lease, a link whose ends report one SEED is refused, and 3 missed heartbeats take a lane down; after listening a member is
KEEPER, or APPRENTICE of the claim it heard; an APPRENTICE in step takes over when no valid claim is left; shipped releases start
with their snapshot; OUT_CRC records are kept for the comparison; alignment with its exchange of identities, its completion and its
retry; CONTROL records and the commands. -/
def Obligations.PairRolesRecordsAndTakeover : Prop :=
  ∀ (s : State) (t : Nat) (mb : Fin 8) (w : Work),
    let u := advance t s
    (serving s = true → healthNow s ≠ s.pair.targetHealth →
      (s.pair.newHealth = none → exec (.healthSettled t) s = .next { u with pair.newHealth := some (healthNow s, (advance t s).now) })
      ∧ (∀ a, s.pair.newHealth = some (healthNow s, a) → a + 200000000 ≤ (advance t s).now →
        ∃ v, exec (.healthSettled t) s = .next v ∧ v.pair.targetHealth = healthNow s ∧ v.pair.newHealth = none)
      ∧ (∀ a, s.pair.newHealth = some (healthNow s, a) → (advance t s).now < a + 200000000 → exec (.healthSettled t) s = .next u))
    ∧ (∀ a, s.pair.inStepAt = some a → pairRuns s = true → s.pair.role = .apprentice → s.pair.state = 3 →
      s.pair.takebackDone = false → a + s.pair.takebackS * 1000000000 ≤ (advance t s).now →
      ∃ v, exec (.takebackElapsed t) s = .next v ∧ v.pair.takebackDone = true ∧ v.pair.role = .apprentice)
    ∧ (pairRuns s = true → s.pair.seedClash = false →
      ∃ v h c, exec (.heartbeatSend t) s = .next v ∧ v.pair.sent = c :: h :: s.pair.sent ∧ h.kind = 0 ∧ c.kind = 7 ∧ c.num = 3
        ∧ h.scan = s.scan.scan ∧ h.value = (claimOf s).toNat + 65536 * s.pair.leaseQ)
    ∧ (∀ (lane : Fin 2) (r : HbRec), pairRuns s = true → s.pair.role = .apprentice → r.seed ≠ s.pair.seed →
      s.power.restartAfterTakeover = none →
      ∃ v, exec (.heartbeat t lane r) s = .next v ∧ v.pair.lanes.getLsbD lane = true ∧ v.pair.hbAt.get 0 lane = (advance t s).now
        ∧ v.pair.partnerClaim = r.claim ∧ v.pair.partner = some r ∧ v.pair.seedClash = false
        ∧ v.pair.leaseQ = (if r.keeper then clamp 1 16 r.leaseQ else s.pair.leaseQ) ∧ v.pair.role = .apprentice)
    ∧ (∀ (lane : Fin 2) (r : HbRec), pairRuns s = true → r.seed = s.pair.seed →
      ∃ v, exec (.heartbeat t lane r) s = .next v ∧ v.pair.lanes = 0#2 ∧ v.pair.seedClash = true ∧ v.pair.partnerClaim = s.pair.partnerClaim)
    ∧ (∀ lane : Fin 2, pairRuns s = true → s.pair.lanes.getLsbD lane = true → s.pair.hbAt.get 0 lane + 30000 ≤ (advance t s).now →
      ∃ v, exec (.laneDown t lane) s = .next v ∧ v.pair.lanes.getLsbD lane = false
        ∧ v.pair.lanes.getLsbD (1 - lane) = s.pair.lanes.getLsbD (1 - lane))
    ∧ (∀ a, s.pair.listenAt = some a → pairRuns s = true → s.pair.state = 1 → a + 500000000 ≤ (advance t s).now →
      (∀ b, s.pair.partnerClaim.msb = true → s.pair.partnerAt = some b → a ≤ b →
        ∃ v, exec (.pairListenEnd t) s = .next v ∧ v.pair.role = .apprentice ∧ v.pair.state = 2 ∧ v.pair.aligned = false)
      ∧ (s.pair.partnerAt = none → s.pair.partner = none →
        ∃ v, exec (.pairListenEnd t) s = .next v ∧ v.pair.role = .keeper ∧ v.pair.valid = true ∧ v.pair.listenAt = none))
    ∧ (pairRuns s = true → s.pair.role = .apprentice → s.pair.state = 3 →
      (keeperGone u = true → ∃ v, exec (.takeover t) s = .next v ∧ v.pair.role = .keeper ∧ v.pair.valid = true
        ∧ v.pair.takeovers = (s.pair.takeovers + 1) % 2 ^ 32 ∧ v.pair.lastScan = s.scan.scan ∧ v.pair.lastTai = u.time.tai
        ∧ latches v = latches s)
      ∧ (keeperGone u = false → exec (.takeover t) s = .next u))
    ∧ (∀ (n : Fin 51) (scan : Dword) (mono tai src : Nat) (d : Word), pairRuns s = true → s.pair.role = .apprentice →
      s.pair.aligned = true → s.scan.scan < scan.toNat →
      (s.pair.shipped.get none n = none →
        ∃ v r, exec (.releaseRecord t n scan mono tai src d) s = .next v ∧ v.pair.releases.get none n = some r ∧ r.snapMono = mono
          ∧ r.snapTai = tai ∧ v.scan = s.scan)
      ∧ (∀ ps, s.pair.shipped.get none n = some ps → mayRelease s n = true → switchDue s = false → (s.task n).state = .idle →
        ∃ v, exec (.releaseRecord t n scan mono tai src d) s = .next v ∧ v.pair.releases.get none n = none
          ∧ (v.task n).state = .released ∧ (v.task n).snapMono = mono ∧ (v.task n).snapTai = tai
          ∧ v.scan.scan = (if n = 0 then scan.toNat else s.scan.scan)))
    ∧ (∀ (n : Fin 51) (ps : List (Nat × Word × BitVec 4)), pairRuns s = true → s.pair.role = .apprentice → s.pair.aligned = true →
      s.pair.releases.get none n = none →
      ∃ v q, exec (.snapshotRecord t n ps) s = .next v ∧ v.pair.shipped.get none n = some q ∧ v.scan = s.scan
        ∧ q.map (fun x => (x.addr, x.val, x.q)) = ps)
    ∧ (∀ (n : Fin 51) (scan : Dword) (crc : Word) (ws : List (Nat × Word)), pairRuns s = true → s.pair.role = .apprentice →
      s.pair.aligned = true →
      (s.pair.theirCrc.get none n = none → s.pair.ourCrc.get none n = none →
        ∃ v, exec (.publishRecord t n scan crc ws) s = .next v ∧ v.pair.theirCrc.get none n = some (scan.toNat, crc.toNat)
          ∧ v.img = s.img)
      ∧ ((s.pair.theirCrc.get none n).isSome = true → s.pair.state = 3 →
        ∃ v, exec (.publishRecord t n scan crc ws) s = .next v ∧ v.pair.state = 4 ∧ v.pair.cause = 1 ∧ v.pair.valid = false))
    ∧ (∀ (k : Fin 64) (a b : Word) (ms : Nat), pairRuns s = true → s.pair.role = .apprentice →
      ∃ v, exec (.pubState t k a b ms) s = .next v ∧ v.pair.pubState.get none k = some ⟨a.toNat, b.toNat, ms, u.time.mono⟩)
    ∧ (∀ (scan : Dword) (crc : Word), pairRuns s = true → s.pair.role = .keeper → s.pair.ourCrc.get none 0 = none →
      ∃ v, exec (.ack t 0 scan crc) s = .next v ∧ v.pair.ackScan = max s.pair.ackScan scan.toNat
        ∧ v.pair.theirCrc.get none 0 = some (scan.toNat, crc.toNat))
    ∧ (∀ (code : Half) (p : Bytes) (scan : Dword), pairRuns s = true → s.pair.role = .apprentice → s.pair.known = true →
      (waitsForScan code.toNat = true → s.scan.mode = 2 → s.pair.aligned = true →
        ∃ c, exec (.commandRecord t code p scan) s = .next { u with pair.commands := s.pair.commands ++ [c] }
          ∧ c.code = code.toNat ∧ c.payload = p ∧ c.scan = scan.toNat)
      ∧ (code = 0x0901#16 → exec (.commandRecord t code p scan) s = .next { u with
          pair.leaseQ := clamp 1 16 (field p 2 1 4), pair.takebackS := clamp 1 3600 (field p 4 2 60) }))
    ∧ (pairRuns s = true → s.pair.role = .apprentice → s.pair.state = 2 →
      (∀ d, s.pair.nonce ≠ [] →
        (ecdsaVerify s.pair.peerKey (slice s.pair.nonce 32 32 ++ slice s.pair.nonce 0 32 ++ zeros 4) (slice d 0 96) = true →
          ∃ v, exec (.alignBlock t (.identity 2 d)) s = .next v ∧ v.pair.identityOk = true ∧ v.pair.known = true ∧ v.pair.nonce = [])
        ∧ (ecdsaVerify s.pair.peerKey (slice s.pair.nonce 32 32 ++ slice s.pair.nonce 0 32 ++ zeros 4) (slice d 0 96) = false →
          ∃ v, exec (.alignBlock t (.identity 2 d)) s = .next v ∧ v.pair.identityOk = false ∧ v.pair.known = false ∧ v.pair.state = 4
            ∧ v.pair.alignFailedAt = some (advance t s).now))
      ∧ (s.pair.identityOk = true → s.pair.aligned = false → ∀ c : Option Word, (∀ x, c = some x → x = checkOf (prog s)) →
        ∃ v, exec (.alignBlock t (.confirm c)) s = .next v ∧ v.saf.confirmed = c ∧ v.scan = s.scan)
      ∧ (s.pair.identityOk = true → s.pair.aligned = false → ∀ m,
        exec (.alignBlock t (.started m)) s = .next { u with scan.startMono := m })
      ∧ (s.pair.identityOk = true → s.pair.aligned = false → s.ps.prog.isSome = true → ∀ mono j,
        ∃ v, exec (.alignmentComplete t mono j) s = .next v ∧ v.pair.aligned = true ∧ v.scan.scan = j.toNat ∧ v.pair.matched = 0
          ∧ v.scan.mode = 2 ∧ v.time.pairOffset = (mono : Int) - u.time.mono))
    ∧ (pairRuns s = true → s.pair.role = .keeper → s.pair.nonce ≠ [] →
      exec (.alignBlock t (.identity 3 [1#8])) s = .next { u with pair.identityOk := true, pair.known := true, pair.nonce := [] })
    ∧ (∀ mono j, pairRuns s = true → s.pair.role = .keeper → s.pair.identityOk = true → s.pair.state ≠ 3 → s.pair.lanes ≠ 0#2 →
      exec (.alignmentComplete t mono j) s = .next { u with
        pair.shipping := true, pair.state := 2, pair.theirCrc := [], pair.ourCrc := [], pair.ackScan := 0 })
    ∧ (∀ a, s.pair.alignFailedAt = some a → pairRuns s = true → s.pair.role = .apprentice → s.pair.suspect = false →
      s.power.disqualified = false → s.sup.storm = false → s.pair.lanes ≠ 0#2 →
      (a + 1000000000 ≤ (advance t s).now → ∃ v, exec (.alignmentRetry t) s = .next v ∧ v.pair.state = 2 ∧ v.pair.identityOk = false
        ∧ v.pair.aligned = false ∧ v.pair.alignFailedAt = none)
      ∧ ((advance t s).now < a + 1000000000 → exec (.alignmentRetry t) s = .next u))
    ∧ (∀ S : Dword, pairRuns s = true → s.pair.role = .apprentice →
      (s.pair.state = 3 → exec (.handoverAt t S) s = .next { u with pair.handover := some S.toNat })
      ∧ (s.edit.state = 1 → exec (.switchAt t S) s = .next { u with edit.switchAt := some S.toNat })
      ∧ (s.edit.state = 2 → exec (.switchAt t S) s = .next { u with edit.switchAt := some S.toNat, edit.switchScan := S.toNat }))
    ∧ (pairRuns s = true → (∀ m, exec (.controlRecord t (.presence m)) s = .next { u with pair.partnerPresence := m })
      ∧ (∀ b, ∃ v, exec (.controlRecord t (.health b)) s = .next v ∧ v.pair.partnerReport = some b)
      ∧ exec (.controlRecord t (.finding 0x50)) s = .next { u with pair.testRound := true })
    ∧ (Asks s mb 0x0901 w → payloadBit w.payload 3 7 = false → field w.payload 0 1 0 ≠ 1 → s.pair.role = .keeper →
      s.power.state ≠ .holdup →
      ∃ v, exec (.pairCfg t mb) s = .next v ∧ v.pair.mode = 0 ∧ v.pair.pref = min 63 (field w.payload 1 1 0)
        ∧ v.pair.leaseQ = clamp 1 16 (field w.payload 2 1 4) ∧ v.pair.takebackS = clamp 1 3600 (field w.payload 4 2 60)
        ∧ (field w.payload 3 1 0 % 2 = 1 → v.pair.suspect = false) ∧ (field w.payload 3 1 0 % 2 = 0 → v.pair.suspect = s.pair.suspect))
    ∧ (Asks s mb 0x0903 w → s.pair.role = .keeper → s.pair.state = 3 → s.power.state ≠ .holdup → s.pair.handover = none →
      s.edit.state ≠ 2 → s.edit.state ≠ 3 → updBusy s = false →
      (field w.payload 0 1 0 ≠ 1 → s.pair.noHandoverBefore ≤ u.now →
        exec (.pairSwitch t mb) s = .next (putWork { w with running := true } { u with
          pair.yield := true, pair.handover := some (s.scan.scan + 3)
          pair.sent := if s.pair.shipping then { kind := 7, num := 1, scan := s.scan.scan + 3 } :: s.pair.sent else s.pair.sent }))
      ∧ (field w.payload 0 1 0 ≠ 1 → u.now < s.pair.noHandoverBefore →
        exec (.pairSwitch t mb) s = .next (putWork { w with running := true } { u with pair.yield := true }))
      ∧ (field w.payload 0 1 0 = 1 → ∃ v, exec (.pairSwitch t mb) s = .next v ∧ v.pair.yield = false))

/-- The operator panel (R328, R329, R331, R332, R336-R338, R340, R341, R343): a new state is debounced from its first sample and then
confirmed with that sample's stamp; a select key moves its slot to SELECTED, its execute key inside the window to EXECUTING, and the
windows end it; both lines alike for 100 ms are FAULT; a held key is reported and stays pressed; both presence keys held for 3 s make
a gesture that stays valid for 60 s; the commands set the panel and the host's LEDs and withdraw the gesture. -/
def Obligations.PanelKeysSlotsAndGestures : Prop :=
  ∀ (s : State) (t : Nat) (mb : Fin 8) (w : Work),
    let u := advance t s
    (∀ (row : Fin 8) (cs : List KeyClass), serving s = true → 0 < s.panel.debounceMs → 
      (∀ c, c < 8 → (panelKey s (8 * row + c)).cand = none) →
      ∃ v, exec (.keyMatrixScan t row cs) s = .next v ∧ v.ev = s.ev
        ∧ (∀ c x, c < 8 → s.panel.populated.getLsbD (8 * row + c) = true → cs[c]? = some x →
          ∀ k, k = panelKey s (8 * row + c) → panelKey v (8 * row + c) =
            if classState x = k.state ∨ (k.state = 2 ∧ classState x = 1) then { k with cand := none, samples := 0 }
            else { k with cand := some (classState x, (advance t s).now), samples := 1, flags := 0#8 })
        ∧ (∀ m, m < 8 * row.val ∨ 8 * row.val + 8 ≤ m → panelKey v m = panelKey s m))
    ∧ (∀ (k : Fin 64) (a : Nat), serving s = true → (panelKey s k).cand = some (1, a) → (panelKey s k).state = 0 →
      a + 1000000 * s.panel.debounceMs ≤ (advance t s).now → (∀ m, m < 72 → m ≠ k.val → candAt s m ≠ some a) →
      ∃ v, exec (.panelDebounceConfirm t (.key k)) s = .next v ∧ (panelKey v k).state = 1 ∧ (panelKey v k).pressAt = a
        ∧ (panelKey v k).cand = none
        ∧ (∃ r rs, v.ev.inbox = s.ev.inbox ++ r :: rs ∧ r.source = 64 ∧ r.kind = 2 ∧ r.data = w32 k
          ∧ r.tai = u.time.tai - ((advance t s).now - a))
        ∧ (∀ i, fullService s = true → s.ps.prog.isSome = true → s.panel.slot = none → selectedBy s [k.val] = [i] →
          (sboSlot s i).localOnly = false → v.panel.slot = some i ∧ v.panel.slotState = 1)
        ∧ (∀ i, fullService s = true → s.ps.prog.isSome = true → s.panel.slot = some i → s.panel.slotState = 1 →
          (sboSlot s i).execKey = k.val → k.val ≠ (sboSlot s i).selectKey → k.val ≠ (sboSlot s i).cancelKey →
          u.time.mono - ((advance t s).now - a) < s.panel.slotAt + selWindow s i → v.panel.slot = some i ∧ v.panel.slotState = 2)
        ∧ (∀ i, fullService s = true → s.ps.prog.isSome = true → s.panel.slot = some i → s.panel.slotState = 1 →
          selectedBy s [k.val] = [] → s.panel.slotAt + selWindow s i ≤ u.time.mono - ((advance t s).now - a) →
          v.panel.slot = none ∧ v.panel.slotState = 0))
    ∧ (∀ (inp : PanelInput) (level : Bool), 64 ≤ inputNo inp → serving s = true → (panelKey s (inputNo inp)).cand = none →
      (panelKey s (inputNo inp)).state < 2 → inputState (inputNo inp) level ≠ (panelKey s (inputNo inp)).state →
      exec (.panelInputSample t inp level) s = .next (setKey (inputNo inp) { panelKey s (inputNo inp) with
        cand := some (inputState (inputNo inp) level, (advance t s).now), samples := 1, flags := 0#8 } u))
    ∧ (∀ k : Fin 64, pressed s k = true → (panelKey s k).pressAt + (s.panel.stuckS * 1000000000 + 1) ≤ (advance t s).now →
      exec (.keyStuck t k) s = .next { u with panel.faults := s.panel.faults ||| (1#64 <<< k.val) })
    ∧ (∀ a, s.panel.lrSameAt = some a → serving s = true → s.panel.lr ≠ 3 → a + 100000000 ≤ (advance t s).now →
      ∃ v, exec (.lrFault t) s = .next v ∧ v.panel.lr = 3 ∧ (∃ r rs, v.ev.inbox = s.ev.inbox ++ r :: rs ∧ r.source = 77
          ∧ r.kind = 6 ∧ r.data = 3#32)
        ∧ (∀ i, s.panel.slot = some i → s.panel.slotState = 1 → (sboSlot s i).localOnly = true → v.panel.slot = none))
    ∧ (∀ i, s.panel.slot = some i → s.panel.slotState = 1 → s.panel.slotAt + selWindow s i ≤ u.time.mono →
      (∀ n, n ∈ [(sboSlot s i).execKey, (sboSlot s i).cancelKey, (sboSlot s i).selectKey] → (panelKey s n).cand = none) →
      ∃ v, exec (.sboSelTimeout t) s = .next v ∧ v.panel.slot = none ∧ v.panel.slotState = 0
        ∧ ∃ r, v.ev.inbox = s.ev.inbox ++ [r] ∧ r.source = 64 ∧ r.kind = 6 ∧ r.data = w32 (65536 * i + 1048576 * 4))
    ∧ (∀ i, s.panel.slot = some i → s.panel.slotState = 2 → s.panel.slotAt + execWindow s i ≤ u.time.mono →
      ∃ v, exec (.execEnd t) s = .next v ∧ v.panel.slot = none ∧ v.panel.slotState = 0
        ∧ ∃ r, v.ev.inbox = s.ev.inbox ++ [r] ∧ r.source = 64 ∧ r.kind = 6 ∧ r.data = w32 (65536 * i + 1048576 * 6))
    ∧ (∀ a, s.panel.presHold = some a → a + 3000000000 ≤ (advance t s).now →
      (s.power.recoveryWait = false → fullService s = true →
        ∃ v, exec (.presenceComplete t) s = .next v ∧ presenceValid v = true ∧ v.panel.presHold = none
          ∧ v.ev.inbox.length = s.ev.inbox.length + 1)
      ∧ (s.power.recoveryWait = true → ∃ v, exec (.presenceComplete t) s = .next v ∧ v.power.service = .recovery
          ∧ presenceValid v = presenceValid u ∧ v.pair.valid = false))
    ∧ (∀ a, s.panel.presence = some a → 
      (a + 60000000000 ≤ (advance t s).now → exec (.presenceExpiry t) s = .next { u with panel.presence := none })
      ∧ ((advance t s).now < a + 60000000000 → exec (.presenceExpiry t) s = .next u))
    ∧ (Asks s mb 0x0601 w → s.power.state ≠ .holdup →
      ∃ p v, exec (.pnlCfg t mb) s = .next (finish w DONE p v) ∧ v.panel.cfgSet = true
        ∧ v.panel.debounceMs = clamp 5 50 (field w.payload 8 1 20) ∧ v.panel.stuckS = clamp 10 255 (field w.payload 9 1 60)
        ∧ v.panel.ledMa = clamp 1 10 (field w.payload 10 1 5) ∧ v.panel.touchSens = clamp 2 50 (field w.payload 11 1 8)
        ∧ (s.bcr.presKeyA < 64 → v.panel.populated.getLsbD s.bcr.presKeyA = true)
        ∧ (s.bcr.presKeyB < 64 → v.panel.populated.getLsbD s.bcr.presKeyB = true)
        ∧ (∀ i, i < 64 → (BitVec.ofNat 64 (field w.payload 0 8 (2 ^ 64 - 1))).getLsbD i = true → v.panel.populated.getLsbD i = true))
    ∧ (Asks s mb 0x0602 w → s.power.state ≠ .holdup →
      (∀ i, i < 16 → field w.payload 0 2 0 / 2 ^ i % 2 = 1 → ledOwned s i = false) → field w.payload 2 1 0 ≤ 3 →
      ∃ p v, exec (.pnlLed t mb) s = .next (finish w DONE p v) ∧ ∀ i, i < 16 → v.panel.leds.get 0 i =
        (if field w.payload 0 2 0 / 2 ^ i % 2 = 1 then field w.payload 2 1 0 else s.panel.leds.get 0 i))
    ∧ (Asks s mb 0x0602 w → ∀ i, i < 16 → field w.payload 0 2 0 / 2 ^ i % 2 = 1 → ledOwned s i = true →
      exec (.pnlLed t mb) s = .next (finish w OWNED [] u))
    ∧ (Asks s mb 0x0604 w → field w.payload 0 1 0 = 1 →
      ∃ p, exec (.pnlPresence t mb) s = .next (finish w DONE p { u with panel.presence := none }))
    ∧ (Asks s mb 0x0604 w → field w.payload 0 1 0 ≠ 1 → ∃ p, exec (.pnlPresence t mb) s = .next (finish w DONE p u))

/-- The ring at a controller (R143, R367, R374-R376, R379, R382, R386-R388): a cycle begins with SUM on the ports that have a link;
a BEACON follows at each multiple of LEASE / 4 inside the share; the first good copy of an admitted station's slot brings its inputs
in, at the cycle's end a station without one has missed it, and after LOSS cycles it is lost; an acyclic frame that fits into the
cycle leaves with its number and its reply is taken; a link delay is averaged over 8; changed parameters wait for the boundary. -/
def Obligations.RingCyclesAndStations : Prop :=
  ∀ (s : State) (t : Nat) (port : Fin 2) (mb : Fin 8) (w : Work),
    let u := advance t s
    (ringRuns s = true → s.ring.next = [] → (s.ring.running = true → s.ring.ended = true) → sumDue u = true →
      ∃ v, exec (.sumSend t) s = .next v ∧ v.ring.cycle = (s.ring.cycle + 1) % 2 ^ 32 ∧ v.ring.running = true
        ∧ v.ring.sumAt = (advance t s).now ∧ v.ring.beacons = 0 ∧ v.ring.ended = false
        ∧ (∀ n, (v.station n).copies = 0 ∧ (v.station n).crcError = false ∧ (v.station n).missed = (s.station n).missed)
        ∧ (∀ p, p < 2 → s.ring.link.getLsbD p = true → ∃ f, (p, f) ∈ v.ring.sent ∧ frType f = 1 ∧ frCycle f = v.ring.cycle)
        ∧ (s.ring.link = 0#2 → v.ring.sent = s.ring.sent) ∧ v.img = s.img)
    ∧ (ringRuns s = true → s.ring.running = true → 62500 * s.pair.leaseQ < cycleNs s →
      s.ring.sumAt + 62500 * s.pair.leaseQ * (s.ring.beacons + 1) ≤ (advance t s).now →
      62500 * s.pair.leaseQ * (s.ring.beacons + 1) < shareNs s →
      ∃ v, exec (.beaconSend t) s = .next v ∧ v.ring.beacons = s.ring.beacons + 1 ∧ v.ring.cycle = s.ring.cycle
        ∧ (∀ p, p < 2 → s.ring.link.getLsbD p = true → ∃ f, (p, f) ∈ v.ring.sent ∧ frType f = 2) ∧ v.img = s.img)
    ∧ (∀ (n : Fin 63) (off : Nat) (data : Bytes), ringRuns s = true → n ≠ 0 → (stationCfg s n).enable = true →
      msgFits u (data.take 1024).length = true →
      ∃ v, exec (.msgSend t n 4 off data) s = .next v ∧ v.ring.msgSeq = (s.ring.msgSeq + 1) % 2 ^ 32
        ∧ (∀ p, p < 2 → s.ring.link.getLsbD p = true → ∃ f, (p, f) ∈ v.ring.sent ∧ frType f = 3 ∧ hdrF f 8 1 = n.val ∧ hdrF f 9 1 = 4)
        ∧ v.img = s.img ∧ v.sec = s.sec)
    ∧ (∀ b sl n, ringRuns s = true → hdrGood b = true → frType b = 1 → frRingId b = ringIdOf s.ring.ringId → ownFrame s b = true →
      frCycle b = s.ring.cycle → s.ring.running = true → frHops b ≤ 127 → slotsOf b = [sl] → slotGood sl = true → n = hdrF sl 0 1 → 0 < n → n ≤ 62 →
      (stationCfg s n).enable = true → (BitVec.ofNat 8 (hdrF sl 2 1)).getLsbD 0 = true →
      (BitVec.ofNat 8 (hdrF sl 2 1)).getLsbD 4 = false → (s.station n).admitted = true → (s.station n).copies = 0 →
      ∃ v, exec (.sumReturn t port b) s = .next v ∧ (v.station n).copies = 1 ∧ (v.station n).lastSeen = s.ring.cycle
        ∧ (v.station n).state = 3 ∧ (∀ m, m ≠ n → v.station m = s.station m)
        ∧ ((s.station n).lost = false → (stationCfg s n).inBits ≤ 512 → (stationCfg s n).inWords ≤ 128 →
          ∀ k, k < (stationCfg s n).inBits → imgVal v (imgAddr 1 (64 + 512 * (n - 1) + k)) = b32 (packedBit (sl.drop 8) k)
            ∨ hdrF sl 4 2 ≤ k / 8))
    ∧ (∀ b sl n, ringRuns s = true → hdrGood b = true → slotsOf b = [sl] → slotGood sl = true → n = hdrF sl 0 1 →
      (s.station n).admitted = false → exec (.sumReturn t port b) s = .next u)
    ∧ (∀ b, ringRuns s = true → hdrGood b = false → 
      exec (.sumReturn t port b) s = .next { u with ring.crcErrors := (s.ring.crcErrors + 1) % 2 ^ 32 })
    ∧ (∀ b n, ringRuns s = true → msgGood b = true → w32 (hdrF b 4 4) = ringIdOf s.ring.ringId → n = hdrF b 8 1 → 0 < n → n ≤ 62 →
      ownFrame s b = true →
      (hdrF b 9 1 = 132 → ∃ v, exec (.msgReply t b) s = .next v ∧ (v.station n).told = slice (msgData b) 0 20
        ∧ v.ring.asks = s.ring.asks.filter (fun a => decide (a.1 ≠ n)) ∧ v.img = s.img)
      ∧ (hdrF b 9 1 = 129 → (msgData b).length < 325 → (s.station n).idOk = true → hdrF (msgData b) 0 1 = 1 →
        ∃ v, exec (.msgReply t b) s = .next v ∧ (v.station n).admitted = true ∧ (v.station n).nonce = []))
    ∧ (ringPortUp s port = true → exec (.delayMeasure t port) s = .next { u with ring.delayReq := s.ring.delayReq + 1 })
    ∧ (∀ r, ringPortUp s port = true → exec (.delayRequestRx t port r) s = .next { u with ring.delayRsp := s.ring.delayRsp + 1 })
    ∧ (∀ a r, ringPortUp s port = true →
      ∃ v, exec (.delayResponseRx t port a r) s = .next v
        ∧ v.ring.delays.get [] port = (((a - r) / 2) :: s.ring.delays.get [] port).take 8
        ∧ ((s.ring.delays.get [] port).length = 0 → linkDelay v port = (a - r) / 2))
    ∧ (∀ n, n ∈ stationsOn s → ringRuns s = true → s.ring.running = true → s.ring.ended = false →
      s.ring.sumAt + cycleNs s ≤ (advance t s).now →
      ∃ v, exec (.ringCycleEnd t) s = .next v ∧ v.ring.ended = true
        ∧ ((s.station n).copies ≠ 0 → (v.station n).missed = 0 ∧ (v.station n).good = min 3 ((s.station n).good + 1))
        ∧ ((s.station n).copies = 0 → s.ring.cfgChanged = false → (v.station n).missed = (s.station n).missed + 1
          ∧ (v.station n).good = 0 ∧ (v.station n).toBad = true
          ∧ (v.station n).lost = ((s.station n).lost || decide (s.ring.loss ≤ (s.station n).missed + 1))
          ∧ ((v.station n).diag.getLsbD 0 = false) ∧ ((v.station n).diag.getLsbD 1 = (v.station n).lost)))
    ∧ (∀ up, inRun s = true → clkReady s 5 = true →
      ∃ v, exec (.ringLinkChange t port up) s = .next v ∧ v.ring.link.getLsbD port = up
        ∧ v.ring.link.getLsbD (1 - port) = s.ring.link.getLsbD (1 - port) ∧ v.img = s.img ∧ v.ev = s.ev)
    ∧ (Asks s mb 0x0801 w → s.scan.mode = 2 →
      ∀ top loss units id, top = min 2 (field w.payload 0 1 2) → loss = clamp 2 16 (field w.payload 1 1 3) →
      units = clamp 1 256 (field w.payload 2 2 8) → id = ringIdOf (w32 (field w.payload 4 4 0)) →
      ∀ s1, s1 = { u with ring.topology := top, ring.loss := loss, ring.units := units, ring.ringId := id } →
      transitTooLong s1 = false → cycleBreaksSaf s1 = false → notMine s = false →
      exec (.ringCfg t mb) s = .next (putWork { w with running := true } (forward 0x0801 w.payload { u with
        scan.bnd := s.scan.bnd ++ [.ringCfg top loss units id (min (max (transitNs s1) (field w.payload 8 4 0)) (shareNs s1)) w.wid] })))
    ∧ (Asks s mb 0x0802 w → payloadBit w.payload 1 7 = false → s.scan.mode = 2 → notMine s = false →
      ∀ n b, n = clamp 1 62 (field w.payload 0 1 1) → b = askedStation ((prog s).stations.get {} n) w.payload →
      transitTooLong (applyRing (.ringStation n b) u) = false → (spb s).stationMask.getLsbD (n - 1) = false →
      exec (.ringStationCfg t mb) s = .next (finish w DONE (stationEcho n false b) (forward 0x0802 w.payload { u with
        scan.bnd := s.scan.bnd ++ [.ringStation n b] })))

/-- Interlocking and safety (R37, R459, R460, R463, R464, R472): a dual-contact point follows two contacts that agree, holds its
safe value while they disagree, is DISCREPANT from the 1 ms tick of MONO at which its discrepancy time has run and leaves that only
when both show the safe value; two evaluators that disagree fail the module; SAF_CONFIRM with the right check value and a gesture
confirms at the BASE boundary, a wrong one is refused and consumes the gesture too. -/
def Obligations.SafetyPointsAndConfirmation : Prop :=
  ∀ (s : State) (t : Nat) (n : Fin 32) (d : DualDecl) (mb : Fin 8) (w : Work),
    let u := advance t s
    let x := s.saf.duals.get {} n
    let a := (s.chan d.chA).rx
    let b := (s.chan d.chB).rx != d.antivalent
    ((spb s).duals[n.val]? = some d → serving s = true → ¬(x.a = some a ∧ x.b = some (s.chan d.chB).rx) → x.state ≤ 2 →
      ∃ v, exec (.dualContactChange t n true) s = .next v
        ∧ (x.state = 0 → a = b → (v.saf.duals.get {} n).state = 0 ∧ (v.saf.duals.get {} n).v = a)
        ∧ (x.state = 0 → a ≠ b → (v.saf.duals.get {} n).state = 1 ∧ (v.saf.duals.get {} n).v = d.safe
          ∧ (v.saf.duals.get {} n).since = u.time.mono)
        ∧ (x.state = 1 → a = b → u.time.mono < x.since + 1000000 * d.discMs →
          (v.saf.duals.get {} n).state = 0 ∧ (v.saf.duals.get {} n).v = a)
        ∧ (x.state = 1 → a ≠ b → (v.saf.duals.get {} n).state = 1 ∧ (v.saf.duals.get {} n).v = d.safe
          ∧ (v.saf.duals.get {} n).since = x.since)
        ∧ (x.state = 2 → (v.saf.duals.get {} n).v = d.safe
          ∧ ((v.saf.duals.get {} n).state = 0 ↔ a = d.safe ∧ b = d.safe))
        ∧ imgVal v (imgAddr 1 d.chA) = b32 (v.saf.duals.get {} n).v ∧ imgVal v (imgAddr 1 d.chB) = b32 (v.saf.duals.get {} n).v
        ∧ (∀ m, m ≠ n.val → v.saf.duals.get {} m = s.saf.duals.get {} m) ∧ latches v = latches s)
    ∧ ((spb s).duals[n.val]? = some d → serving s = true →
      ∃ v, exec (.dualContactChange t n false) s = .next v ∧ v.pair.valid = false ∧ v.power.failed = true
        ∧ v.saf.duals = s.saf.duals ∧ (s.pair.role = .solo → ∀ k, k < 4 → (v.die k).hold = true))
    ∧ ((spb s).duals[n.val]? = some d → serving s = true → x.state = 1 →
      (∃ v, exec (.dualDiscrepancy t ⟨n, false⟩) s = .next v ∧ v.pair.valid = false ∧ v.power.failed = true ∧ v.saf.duals = s.saf.duals)
      ∧ (u.time.mono / 1000000 * 1000000 < x.since + 1000000 * d.discMs → exec (.dualDiscrepancy t ⟨n, true⟩) s = .next u))
    ∧ ((spb s).duals[n.val]? = some d → serving s = true → x.state = 1 →
      x.since + 1000000 * d.discMs ≤ u.time.mono / 1000000 * 1000000 →
      ∃ v, exec (.dualDiscrepancy t ⟨n, true⟩) s = .next v ∧ (v.saf.duals.get {} n).state = 2 ∧ (v.saf.duals.get {} n).v = d.safe
        ∧ imgVal v (imgAddr 1 d.chA) = b32 d.safe ∧ imgVal v (imgAddr 1 d.chB) = b32 d.safe
        ∧ v.ev.inbox.length = s.ev.inbox.length + 1)
    ∧ (∀ wid, boundary s = true → (prog s).spb.isSome = true →
      (∀ c, s.scan.bnd = [.safConfirm 0 0 c wid] → c = checkOf (prog s) →
        ∃ v, exec (.safConfirmApply t) s = .next v ∧ confirmed v = true ∧ v.saf.confirmTai = u.time.tai ∧ v.scan.bnd = [])
      ∧ (∀ c, s.scan.bnd = [.safConfirm 1 0 c wid] →
        ∃ v, exec (.safConfirmApply t) s = .next v ∧ confirmed v = false ∧ v.scan.bnd = []))
    ∧ (Asks s mb 0x0B02 w → field w.payload 0 1 1 = 0 → field w.payload 1 1 0 = 0 →
      (w32 (field w.payload 4 4 0) = checkOf (prog s) → presenceValid u = true → (prog s).spb.isSome = true →
        s.pair.role ≠ .apprentice → s.pair.role ≠ .station → s.sec.life ≠ .retired → s.power.state ≠ .holdup →
        exec (.safConfirm t mb) s = .next (putWork { w with running := true } (forward 0x0B02 w.payload { u with
          panel.presence := none, scan.bnd := s.scan.bnd ++ [.safConfirm 0 0 (checkOf (prog s)) w.wid] })))
      ∧ (w32 (field w.payload 4 4 0) ≠ checkOf (prog s) →
        exec (.safConfirm t mb) s = .next (finish w CHECK_FAILED [] { u with panel.presence := none }))
      ∧ (w32 (field w.payload 4 4 0) = checkOf (prog s) → presenceValid u = false →
        exec (.safConfirm t mb) s = .next (finish w NOT_PERMITTED [] { u with panel.presence := none })))

/-- Sessions, lifecycle, keys and tokens (R338, R495-R507, R513-R521): a session opens pending, or granted in BLANK; its signature
grants it, a wrong one ends it; it ends by command, by its idle time or after 10 s pending; a lifecycle advance with IDENT, gesture
and preconditions changes the state and ends every session; a key enters its slot; a token that passes every check is armed and
expires with its window; the erase of RETIRED clears the stores and keeps the logs. -/
def Obligations.SessionsKeysAndLifecycle : Prop :=
  ∀ (s : State) (t : Nat) (mb : Fin 8) (w : Work),
    let u := advance t s
    (∀ id x, s.sec.sessions.find? (fun y => y.id = id && !y.pending) = some x →
      (x.last + 1000000000 * x.idleS ≤ (advance t s).now →
        ∃ v e, exec (.sessionIdleTimeout t id) s = .next v ∧ v.sec.sessions = s.sec.sessions.filter (fun y => y.id ≠ id)
          ∧ v.sec.audit.head? = some e ∧ e.event = 3 ∧ e.port = bit x.usb ∧ v.img = s.img)
      ∧ ((advance t s).now < x.last + 1000000000 * x.idleS → exec (.sessionIdleTimeout t id) s = .next u))
    ∧ (∀ id x, s.sec.sessions.find? (fun y => y.id = id && y.pending) = some x → x.last + 10000000000 ≤ (advance t s).now →
      exec (.sessionAuthTimeout t id) s = .next { u with sec.sessions := s.sec.sessions.filter fun y => y.id ≠ id })
    ∧ (∀ usb, s.sec.lockout.get 0 (bit usb) ≤ (advance t s).now →
      ∃ v, exec (.portLockoutEnd t usb) s = .next v ∧ v.sec.lockout.get 0 (bit usb) = 0 ∧ v.sec.failures = s.sec.failures
        ∧ v.sec.sessions = s.sec.sessions)
    ∧ (∀ k, s.sec.token = some k → s.time.timeLost = false → k.notBefore ≤ u.time.tai →
      (k.notAfter < u.time.tai → ∃ v, exec (.tokenExpiry t) s = .next v ∧ v.sec.token = none
        ∧ (s.sec.life = .sealed → ∀ p, v.sec.dbg.get 0 p ≠ 1))
      ∧ (u.time.tai ≤ k.notAfter → exec (.tokenExpiry t) s = .next u))
    ∧ (Asks s mb 0x0D01 w → ∀ role cred, role = (if 3 < field w.payload 0 1 0 then 0 else field w.payload 0 1 0) →
      cred = field w.payload 1 1 4 →
      (credentialOk s cred role = true → s.sec.sessions.length < 8 → lockedOut (isUsbMb w.mb) u = false →
        ∃ v x, exec (.sesOpen t mb) s = .next v ∧ v.sec.sessions = s.sec.sessions ++ [x] ∧ x.id ≠ 0#32 ∧ x.role = role ∧ x.cred = cred
          ∧ x.idleS = clamp 60 3600 (field w.payload 2 2 600) ∧ x.usb = isUsbMb w.mb ∧ x.last = (advance t s).now
          ∧ (x.pending = true ↔ s.sec.life ≠ .blank ∧ s.sec.life ≠ .retired))
      ∧ (credentialOk s cred role = false → exec (.sesOpen t mb) s = .next (finish w NOT_PERMITTED [] u))
      ∧ (credentialOk s cred role = true → lockedOut (isUsbMb w.mb) u = true → exec (.sesOpen t mb) s = .next (finish w BUSY [] u)))
    ∧ (Asks s mb 0x0D02 w → ∀ x, s.sec.sessions.find? (fun y => y.id = w.session && y.usb = isUsbMb w.mb && y.pending) = some x →
      (ecdsaVerify (keySlot s x.cred).key (x.devNonce ++ x.hostNonce ++ leBytes 4 x.id.toNat ++ leBytes 1 x.role ++ ident)
          (fieldB w.payload 0 96) = true →
        ∃ v, exec (.sesAuth t mb) s = .next v ∧ v.sec.sessions = s.sec.sessions.map (fun y =>
          if y.id = x.id then { y with pending := false, last := (advance t s).now } else y))
      ∧ (ecdsaVerify (keySlot s x.cred).key (x.devNonce ++ x.hostNonce ++ leBytes 4 x.id.toNat ++ leBytes 1 x.role ++ ident)
          (fieldB w.payload 0 96) = false →
        ∃ v, exec (.sesAuth t mb) s = .next v ∧ (∀ y, y ∈ v.sec.sessions → y.id ≠ x.id ∧ y ∈ s.sec.sessions)
          ∧ (4 ≤ (failuresOf (isUsbMb w.mb) u).length →
            v.sec.lockout.get 0 (bit (isUsbMb w.mb)) = (advance t s).now + 60000000000)))
    ∧ (Asks s mb 0x0D03 w → field w.payload 0 1 0 ≠ 1 →
      ∃ v, exec (.sesClose t mb) s = .next v ∧ v.sec.sessions = s.sec.sessions.filter (fun y => y.id ≠ w.session))
    ∧ (Asks s mb 0x0D03 w → field w.payload 0 1 0 = 1 →
      ∃ v, exec (.sesClose t mb) s = .next v ∧ v.sec.sessions = s.sec.sessions.filter (fun y => y.id = w.session))
    ∧ (Asks s mb 0x0D04 w → ∀ target, target = field w.payload 0 1 0 →
      (fieldB w.payload 4 16 = ident.take 16 → presenceValid u = true → targetOk s target = true → advanceOk s target = true →
        s.power.reserveLow = false → 16000 ≤ s.power.vinMv → s.power.state ≠ .holdup →
        ∃ v, exec (.lifecycleAdvance t mb) s = .next v ∧ v.sec.life = lifeOf target ∧ v.sec.sessions = [] ∧ v.panel.presence = none
          ∧ (target = 4 → v.sec.erasing = true ∧ v.sec.identityOff = true))
      ∧ (fieldB w.payload 4 16 ≠ ident.take 16 →
        exec (.lifecycleAdvance t mb) s = .next (finish w CHECK_FAILED [] { u with panel.presence := none }))
      ∧ (fieldB w.payload 4 16 = ident.take 16 → presenceValid u = false →
        exec (.lifecycleAdvance t mb) s = .next (finish w NOT_PERMITTED [] u)))
    ∧ (Asks s mb 0x0D05 w → s.sec.life = .blank → s.power.state ≠ .holdup → ∀ slot kind, slot = min 31 (field w.payload 0 1 0) →
      kind = field w.payload 1 1 0 → 1 ≤ kind → kind ≤ 3 → kind = slotKind slot → keyOnCurve (fieldB w.payload 8 96) = true →
      ∃ v, exec (.keyEnroll t mb) s = .next v ∧ (keySlot v slot).kind = kind ∧ (keySlot v slot).key = fieldB w.payload 8 96
        ∧ (keySlot v slot).maxRole = (if kind = 3 then min 3 (field w.payload 2 1 0) else 0)
        ∧ (∀ j, j ≠ slot → keySlot v j = keySlot s j) ∧ v.sec.keySeq = s.sec.keySeq)
    ∧ (Asks s mb 0x0D06 w → field w.payload 0 1 1 = 0 → s.sec.life = .sealed → s.time.timeLost = false → s.power.state ≠ .holdup →
      presenceValid u = true → ∀ k, k = fieldB w.payload 4 176 →
      (tokenOk u k = true → ∃ v x, exec (.dbgToken t mb) s = .next v ∧ v.sec.token = some x ∧ x.ports = BitVec.ofNat 8 (hdrF k 7 1)
        ∧ x.notBefore = hdrF k 0x38 8 ∧ x.notAfter = hdrF k 0x40 8 ∧ v.panel.presence = none)
      ∧ (tokenOk u k = false → ∃ v, exec (.dbgToken t mb) s = .next v ∧ v.sec.token = s.sec.token ∧ v.panel.presence = none))
    ∧ (s.sec.erasing = true →
      ∃ v, exec (.retiredEraseDone t) s = .next v ∧ v.sec.erasing = false ∧ v.sec.keys = [] ∧ v.ps = {} ∧ v.ldg.home = {}
        ∧ v.eng.tables = [] ∧ v.cal.leaps = [] ∧ v.cal.leapLoaded = false ∧ v.saf.confirmed = none ∧ v.ev = s.ev ∧ v.sup.log = s.sup.log ∧ v.sec.life = s.sec.life)
    ∧ (s.sec.erasing = false → exec (.retiredEraseDone t) s = .next u)

/-- The TAP and the debug interface (R509-R514, R574, R575): an instruction that the lifecycle allows takes its effect, another selects
BYPASS; EXTEST and a halt stop the outputs with every latch held; DBG_SELECT and the USB interface attach at the level that the
lifecycle gives; a read and a write reach what they name, a step gives one bundle, a resume ends in a WARM restart; a port's session
ends with its reset, its detach or its plug. -/
def Obligations.TapAndDebugInterface : Prop :=
  ∀ (s : State) (t : Nat) (r : DbgReq),
    let u := advance t s
    (s.power.state = .run → s.sec.extest = false → tapAllowed s 0 = true →
      ∃ v, exec (.extest t) s = .next v ∧ v.sec.extest = true ∧ v.sec.tapIr = 0 ∧ v.pair.valid = false ∧ v.sup.tallyOn = false
        ∧ (∀ d, d < 4 → (v.die d).hold = true) ∧ latches v = latches s ∧ v.img.val = s.img.val)
    ∧ (s.power.state = .run → s.sec.extest = false → tapAllowed s 0 = false → s.sec.tapRefused = true →
      exec (.extest t) s = .next { u with sec.tapIr := 0xFF })
    ∧ (tapUp s = true → s.sec.extest = false → tapAllowed s 1 = true → exec (.sample t) s = .next { u with sec.tapIr := 1 })
    ∧ (∀ bits, tapUp s = true → s.sec.extest = false → tapAllowed s 2 = true →
      exec (.preload t bits) s = .next { u with sec.tapIr := 2, sec.boundary := bits })
    ∧ (tapUp s = true → s.sec.extest = false → exec (.bypass t) s = .next { u with sec.tapIr := 0xFF })
    ∧ (s.power.state = .run → s.power.service = .full → s.sec.extest = false → tapAllowed s 0x20 = true → s.sec.dbg.get 0 0 = 0 →
      attachLevel 0 s ≠ 0 →
      ∃ v, exec (.dbgSelect t) s = .next v ∧ v.sec.tapIr = 0x20 ∧ v.sec.dbg.get 0 0 = attachLevel 0 s ∧ v.img = s.img)
    ∧ (∀ k, tapUp s = true → s.sec.extest = false → s.sec.life = .sealed → s.time.timeLost = false → s.power.state ≠ .holdup →
      presenceValid u = true → tokenOk u (slice k 0 176) = true →
      ∃ v x, exec (.dbgTokenLoad t k) s = .next v ∧ v.sec.token = some x ∧ x.notAfter = hdrF (slice k 0 176) 0x40 8 ∧ v.sec.tapIr = 0x21)
    ∧ (s.host.usb = true → s.sec.dbg.get 0 1 = 0 → s.power.state = .run → s.power.service = .full → attachLevel 1 s ≠ 0 →
      ∃ v, exec (.usbDebugOpen t) s = .next v ∧ v.sec.dbg.get 0 1 = attachLevel 1 s ∧ v.sec.dbg.get 0 0 = s.sec.dbg.get 0 0)
    ∧ (∀ l n, debugLevel s r = some l → 1 ≤ l → debugRange s r = DONE → n = r.space.toNat - 0x10 → 0x10 ≤ r.space.toNat →
      r.space.toNat < 0x14 → exec (.debugRead t r) s = .next { u with
        sec.dbgResp := some (1, DONE, Memory.readBytes (s.region n).data r.addr r.count) })
    ∧ (debugLevel s r = some 0 → exec (.debugRead t r) s = .next { u with sec.dbgResp := some (1, NOT_PERMITTED, []) })
    ∧ (∀ n, debugLevel s r = some 2 → debugRange s r = DONE → n = r.space.toNat - 0x10 → 0x10 ≤ r.space.toNat → r.space.toNat < 0x14 →
      ∃ v, exec (.debugWrite t r) s = .next v ∧ v.sec.dbgResp = some (2, DONE, [])
        ∧ (∀ i, i < r.count → i < r.data.length → some (Memory.readByte (v.region n).data (r.addr + i)) = r.data[i]?)
        ∧ (∀ a, a < r.addr ∨ r.addr + r.count ≤ a → Memory.readByte (v.region n).data a = Memory.readByte (s.region n).data a)
        ∧ (v.region n).code = (s.region n).code ∧ v.img = s.img)
    ∧ (debugLevel s r = some 1 → exec (.debugWrite t r) s = .next { u with sec.dbgResp := some (2, NOT_PERMITTED, []) })
    ∧ (∀ e : Fin 16, debugLevel s r = some 2 → haltPart s r = some (some e) →
      ∃ v, exec (.debugHalt t r) s = .next v ∧ v.eng.halted.getLsbD e = true ∧ v.sec.dbgResp = some (3, DONE, [])
        ∧ v.pair.valid = false ∧ (∀ d, d < 4 → (v.die d).hold = true) ∧ latches v = latches s)
    ∧ (∀ e : Fin 16, debugLevel s r = some 2 → haltPart s r = some (some e) → s.eng.halted.getLsbD e = true →
      ∃ v, exec (.debugResume t r) s = .next v ∧ v.eng.halted = 0#16 ∧ v.sec.stewardHalted = false ∧ v.power.restart = some .warm
        ∧ v.sec.dbgResp = some (4, DONE, []) ∧ latches v = latches s)
    ∧ (∀ e : Fin 16, debugLevel s r = some 2 → haltPart s r = some (some e) →
      (s.eng.halted.getLsbD e = true → exec (.debugStep t r) s = .next { u with
        eng.step := s.eng.step ||| (1#16 <<< e.val), sec.dbgResp := some (5, DONE, []) })
      ∧ (s.eng.halted.getLsbD e = false → exec (.debugStep t r) s = .next { u with sec.dbgResp := some (5, WRONG_STATE, []) }))
    ∧ (∀ l, debugLevel s r = some l → anyHalted s = false →
      ∃ v, exec (.debugDetach t r) s = .next v ∧ v.sec.dbg.get 0 (bit r.usb) = 0 ∧ v.sec.dbgResp = some (6, DONE, [])
        ∧ v.sec.dbg.get 0 (1 - bit r.usb) = s.sec.dbg.get 0 (1 - bit r.usb) ∧ v.fld = s.fld ∧ v.power = s.power)
    ∧ (s.host.usb = true →
      ∃ v, exec (.usbVbusRemoval t) s = .next v ∧ v.host.usb = false ∧ v.sec.dbg.get 0 1 = 0
        ∧ (∀ x, x ∈ v.sec.sessions → x.usb = false) ∧ latches v = latches s)
    ∧ (tapUp s = true → s.sec.extest = false → anyHalted s = false →
      ∃ v, exec (.tapReset t) s = .next v ∧ v.sec.tapIr = 0xFF ∧ v.sec.tapRefused = false ∧ v.sec.dbg.get 0 0 = 0
        ∧ v.sec.dbg.get 0 1 = s.sec.dbg.get 0 1 ∧ v.power = s.power ∧ v.fld = s.fld)

/-- The ring at a station (R365, R367, R370, R371, R374, R378, R380, R385, R386, R508): a SUM of an admitted controller refreshes its
claim, its outputs are taken, and the frame goes on with HOPS one up; BEACON refreshes a claim too; a MSG frame of
another goes on unchanged; admission, the configuration block and its commit take their effect; the status request is answered;
SYNC outputs act at their instant; a station that hears no admitted controller for 1 s is DOWN. The residence of a frame is free (log
entry 5); that RING_ID is taken at admission and dropped at DOWN is the model's reading (log entry 53). -/
def Obligations.StationAnswersItsControllers : Prop :=
  ∀ (s : State) (t : Nat) (port : Fin 2) (b : Bytes),
    let u := advance t s
    let k := ctlOf (frClaim b)
    let m := msgCtl b
    (∀ sl blk, stationRuns s = true → s.ring.link.getLsbD port = true → frType b = 1 → hdrGood b = true →
      ringIdFits s (frRingId b) = true → (ctl s k).admission = 2 → frReturn b = false → frHops b ≤ 127 → slotsOf b = [sl] →
      hdrF sl 0 1 = s.bcr.stationNo → slotGood sl = true → s.ring.active = some blk → cfgTagOf blk = hdrF sl 6 2 →
      s.ring.committed = none → (ctl s k).cycle ≠ some (frCycle b) → hdrF sl 1 1 = 1 →
      ∃ v f, exec (.sumRxStation t port b) s = .next v ∧ (ctl v k).lastHeard = (advance t s).now ∧ (ctl v k).claim = frClaim b
        ∧ (ctl v k).cycle = some (frCycle b) ∧ (ctl v k).taken = true ∧ (ctl v k).out = slice sl 8 (hdrF sl 4 2)
        ∧ v.ring.stState = 3 ∧ v.ring.sent.head? = some ((if turnsAt s port then port.val else 1 - port.val), f)
        ∧ frHops f = frHops b + 1 ∧ hdrGood f = true)
    ∧ (stationRuns s = true → s.ring.link.getLsbD port = true → frType b = 1 → hdrGood b = true →
      ringIdFits s (frRingId b) = true → (ctl s k).admission ≠ 2 → frHops b ≤ 127 →
      ∃ v, exec (.sumRxStation t port b) s = .next v ∧ (ctl v k).admission = 1 ∧ v.img = s.img
        ∧ v.ring.ringId = s.ring.ringId ∧ v.ring.sent.length = min 64 (s.ring.sent.length + 1))
    ∧ (stationRuns s = true → s.ring.link.getLsbD port = true → frType b = 2 → hdrGood b = true →
      ringIdFits s (frRingId b) = true → (ctl s k).admission = 2 → frHops b ≤ 127 →
      ∃ v f, exec (.beaconRx t port b) s = .next v ∧ (ctl v k).lastHeard = (advance t s).now ∧ (ctl v k).claim = frClaim b
        ∧ (ctl v k).leaseQ = frLease b ∧ (ctl v k).cycle = (ctl s k).cycle ∧ frHops f = frHops b + 1
        ∧ v.ring.sent.head? = some ((if turnsAt s port then port.val else 1 - port.val), f)
        ∧ (∀ d, d < 4 → (s.die d).powered = true → ((v.die d).claims.get {} k).claim = frClaim b
          ∧ ((v.die d).claims.get {} k).last = (advance t s).now ∧ ((v.die d).claims.get {} k).leaseQ = frLease b))
    ∧ (stationRuns s = true → s.ring.link.getLsbD port = true → hdrGood b = false → frType b = 2 →
      exec (.beaconRx t port b) s = .next { u with ring.crcErrors := (s.ring.crcErrors + 1) % 2 ^ 32 })
    ∧ (∀ r, stationRuns s = true → s.ring.link.getLsbD port = true → s.ring.link.getLsbD (1 - port) = true → frType b = 3 →
      msgGood b = true → exec (.ringFrameForward t port b r) s = .next { u with
        ring.sent := ((1 - port.val, b) :: s.ring.sent).take 64 })
    ∧ (msgForMe s 1 b = true → hdrF b 10 2 < 229 → (ctl s m).key ≠ [] →
      ecdsaVerify (ctl s m).key ((ctl s m).nonce ++ (ctl s m).cNonce ++ leBytes 4 (hdrF b 4 4)) (slice (msgData b) 0 96) = true →
      ∃ v, exec (.admission t b) s = .next v ∧ (ctl v m).admission = 2 ∧ 2 ≤ v.ring.stState ∧ v.img = s.img ∧ latches v = latches s
        ∧ v.ring.ringId = w32 (hdrF b 4 4)
        ∧ v.ring.sent.length = min 64 (s.ring.sent.length + 1))
    ∧ (msgForMe s 1 b = true → 229 ≤ hdrF b 10 2 → peerOk s (msgData b) = true →
      ∃ v, exec (.admission t b) s = .next v ∧ (ctl v m).admission = 1 ∧ (ctl v m).key = slice (msgData b) 32 96
        ∧ (ctl v m).cNonce = slice (msgData b) 0 32 ∧ v.ring.ringId = s.ring.ringId ∧ v.img = s.img)
    ∧ (msgForMe s 1 b = true → 229 ≤ hdrF b 10 2 → peerOk s (msgData b) = false →
      ∃ v, exec (.admission t b) s = .next v ∧ (ctl v m).admission = 0 ∧ v.img = s.img)
    ∧ (msgForMe s 2 b = true → (ctl s m).admission = 2 →
      ∃ v, exec (.cfgBlock t b) s = .next v ∧ v.ring.block.get [] (hdrF b 0x10 4) = msgData b ∧ v.ring.active = s.ring.active
        ∧ v.ring.committed = s.ring.committed)
    ∧ (msgForMe s 3 b = true → (ctl s m).admission = 2 → ∀ blk, blk = s.ring.block.flatMap Prod.snd →
      (sha384 blk = slice (msgData b) 0 48 → (s.sec.life = .blank ∨ (keySlot s 0).kind ≠ 0
          ∧ ecdsaVerify (keySlot s 0).key blk (slice (msgData b) 48 96) = true) →
        ∃ v, exec (.cfgCommit t b) s = .next v ∧ v.ring.committed = some { readBlock (Config.stationBlockOf blk) with bytes := blk }
          ∧ v.ring.committedBy = m ∧ v.ring.active = s.ring.active)
      ∧ (sha384 blk ≠ slice (msgData b) 0 48 → ∃ v, exec (.cfgCommit t b) s = .next v ∧ v.ring.committed = s.ring.committed
          ∧ v.ring.block = []))
    ∧ (msgForMe s 4 b = true → ∃ v f, exec (.msgStatus t b) s = .next v ∧ hdrF f 9 1 = 132 ∧ v.img = s.img
        ∧ v.ring.sent.head? = some ((if s.ring.link = 1#2 then 0 else if s.ring.link = 2#2 then 1 else 2), f))
    ∧ (stationRuns s = true → frType b = 3 → msgGood b = true → hdrF b 8 1 ≠ s.bcr.stationNo → s.ring.link = 3#2 →
      exec (.msgStatus t b) s = .next { u with ring.sent := ((2, b) :: s.ring.sent).take 64 })
    ∧ (∀ a, stationRuns s = true → (ctl s 1).syncAt = some a → a ≤ u.time.tai →
      ∃ v, exec (.syncOutputApply t) s = .next v ∧ (ctl v 1).syncAt = none ∧ (ctl v 1).out = (ctl s 1).syncOut)
    ∧ (s.pair.role = .station → 2 ≤ s.ring.stState →
      (∀ e, e ∈ s.ring.ctl → e.2.admission = 2 → e.2.lastHeard + 1000000000 ≤ (advance t s).now) →
      exec (.stationDownTimeout t) s = .next { u with ring.stState := 0, ring.ctl := [], ring.ringId := 0#32 })

/-- Updates (R531, R538, R540, R544-R549): UPD_BEGIN starts a download and erases the inactive bank; a block that passes is stored; a
container that passes stands VERIFIED in the inactive bank and one that fails is FAILED; an activation waits for the BASE boundary in
SOLO; a trial that expires or is ended reverts with a restart; a confirmed trial raises the rollback floor and refreshes the recovery
image; 60 s of silence fail a download. -/
def Obligations.UpdatesLoadActivateAndRevert : Prop :=
  ∀ (s : State) (t : Nat) (mb : Fin 8) (w : Work),
    let u := advance t s
    let p := w.payload
    (Asks s mb 0x0E01 w → headerOk 3 (field p 0 4 0) (p.drop 8) s = true → field p 0 4 0 ≤ bankBytes → loading s = false →
      editBusy s = false → updBusy s = false → (∀ pr wid, Bnd.profile pr wid ∉ s.scan.bnd) → updRefused s = false → s.upd.active < 2 →
      ∃ v, exec (.updBegin t mb) s = .next v ∧ v.upd.state = 1 ∧ v.upd.id = (s.upd.id + 1) % 65536 ∧ v.upd.blocks = []
        ∧ v.upd.header = p.drop 8 ∧ v.upd.lastCmd = (advance t s).now ∧ bankFw v (1 - s.upd.active) = []
        ∧ bankFw v s.upd.active = bankFw s s.upd.active ∧ v.ps = s.ps)
    ∧ (Asks s mb 0x0E01 w → headerOk 3 (field p 0 4 0) (p.drop 8) s = false → exec (.updBegin t mb) s = .next (finish w CHECK_FAILED [] u))
    ∧ (Asks s mb 0x0E02 w → s.pair.role ≠ .apprentice → updKnown s (field p 0 2 0) = true →
      ∀ i, i = min (field p 4 4 0) (hdrBlocks s.upd.header - 1) → p.drop 8 ≠ [] →
      (s.upd.blocks.get [] i = [] → blockLenOk s.upd.header i (p.drop 8).length = true →
        blockHashOk s.upd.header s.upd.blocks i (p.drop 8) = true →
        ∃ v, exec (.updBlock t mb) s = .next v ∧ v.upd.blocks.get [] i = p.drop 8 ∧ v.upd.lastCmd = (advance t s).now ∧ v.upd.state = 1
          ∧ (∀ j, j ≠ i → v.upd.blocks.get [] j = s.upd.blocks.get [] j))
      ∧ (s.upd.blocks.get [] i = [] → blockHashOk s.upd.header s.upd.blocks i (p.drop 8) = false →
        exec (.updBlock t mb) s = .next (finish w CHECK_FAILED [] { u with upd.lastCmd := (advance t s).now })))
    ∧ (Asks s mb 0x0E03 w → s.pair.role ≠ .apprentice → updKnown s (field p 0 2 0) = true →
      ((updCheck u).1 = 0 → ∃ v, exec (.updVerify t mb) s = .next v ∧ v.upd.state = 2
        ∧ bankFw v s.upd.active = bankFw s s.upd.active ∧ v.ps = s.ps ∧ v.upd.active = s.upd.active)
      ∧ ((updCheck u).1 ≠ 0 → ∃ v, exec (.updVerify t mb) s = .next v ∧ v.upd.state = 7 ∧ v.upd.cause = 3 ∧ v.upd.blocks = []))
    ∧ (Asks s mb 0x0E04 w → updRefused s = false → s.edit.state ≠ 2 → s.pair.handover = none → s.pair.role = .solo →
      (field p 0 1 0 = 0 → s.upd.state = 2 → s.scan.mode = 2 →
        ∃ v, exec (.updActivate t mb) s = .next v ∧ v.upd.state = 3 ∧ v.upd.active = s.upd.active ∧ v.scan.bnd = s.scan.bnd ++
          [.updActivate (clamp 10 3600 (if field p 2 2 0 = 0 then s.upd.manifestTrial else field p 2 2 0))])
      ∧ (field p 0 1 0 = 1 → s.upd.state = 4 →
        ∃ v, exec (.updActivate t mb) s = .next v ∧ v.upd.state = 6 ∧ v.upd.cause = 7 ∧ v.upd.active = 1 - s.upd.active
          ∧ v.upd.trial = false ∧ v.power.restart = some .update))
    ∧ (∀ e, s.upd.trialEnd = some e → s.pair.role = .solo → s.upd.state = 4 →
      (e ≤ u.time.mono → ∃ v, exec (.trialExpiry t) s = .next v ∧ v.upd.state = 6 ∧ v.upd.cause = 4 ∧ v.upd.trial = false
        ∧ v.upd.active = 1 - s.upd.active ∧ v.power.restart = some .update)
      ∧ (u.time.mono < e → exec (.trialExpiry t) s = .next u))
    ∧ (Asks s mb 0x0E06 w → s.upd.state = 4 → s.upd.id = field p 0 2 0 → s.pair.role = .solo → updRefused s = false →
      ∃ v, exec (.updConfirm t mb) s = .next v ∧ v.upd.state = 5 ∧ v.upd.trial = false ∧ v.upd.trialEnd = none ∧ v.upd.refresh = true
        ∧ v.upd.floor = max s.upd.floor (hdrRollback s.upd.header) ∧ v.upd.active = s.upd.active)
    ∧ (s.upd.refresh = true → fullService s = true → s.ldg.flashFailed = false →
      exec (.recoveryRefresh t) s = .next { u with upd.refresh := false, upd.recoveryFw := bankFw s s.upd.active })
    ∧ (s.upd.state = 1 →
      (s.upd.lastCmd + 60000000000 ≤ (advance t s).now → ∃ v, exec (.updIdleTimeout t) s = .next v ∧ v.upd.state = 7 ∧ v.upd.cause = 2
        ∧ v.upd.blocks = [] ∧ v.ps = s.ps)
      ∧ ((advance t s).now < s.upd.lastCmd + 60000000000 → exec (.updIdleTimeout t) s = .next u))

/-- The field supply (R311): below 17.0 V every driver of the die is off and VFLD_LOW stands, while the latches, the trips and the
pulse and SAF timers of its channels stay as they are; above 18.0 V the drivers follow their latches. -/
def Obligations.DriversFollowTheFieldSupply : Prop :=
  ∀ (s : State) (t mv : Nat) (d : Fin 4),
    (mv < 17000 → ∃ v, exec (.vfldLow t d mv) s = .next v ∧ (v.die d).vfldLow = true
      ∧ (∀ k, k < 16 → driverOn v (16 * d + k) = false)
      ∧ ∀ ch, v.chan ch = { s.chan ch with expectAt := (v.chan ch).expectAt })
    ∧ (18000 < mv → mv ≤ 36000 → ∃ v, exec (.vfldRestore t d mv) s = .next v ∧ (v.die d).vfldLow = false
      ∧ (∀ k, k < 16 → driverOn v (16 * d + k) =
        ((s.chan (16 * d + k)).latch && !(s.chan (16 * d + k)).tripped && (s.die d).powered))
      ∧ ∀ ch, v.chan ch = { s.chan ch with expectAt := (v.chan ch).expectAt })

/-- No step changes what manufacture fuses into the module, its serial number, MAC address, SEED and the window fuses of Tally, and
none takes the lifecycle back (R78, R344, R392, R480, R495, R496). -/
def Obligations.FusesStayAndLifecycleOnlyAdvances : Prop :=
  ∀ s t : State, step s = .next t → fuses t = fuses s ∧ lifeCode s.sec.life ≤ lifeCode t.sec.life

/-- No command is refused, and the one way to stop is a supply beyond its absolute maximum rating (R58): VIN above 60 V, VRTC
above 4 V, or a field supply above 36 V. That the model stops there is its choice (log entry 20). -/
def Obligations.OnlyOverstressStops : Prop :=
  ∀ (c : Instr) (s : State),
    (∀ r, exec c s ≠ .refused r)
    ∧ ∀ f, exec c s = .fault f → ∃ t mv, (60000 < mv ∧ (c = .vinGood t mv ∨ c = .vinFall t mv))
      ∨ (4000 < mv ∧ c = .vrtcApplied t mv) ∨ (36000 < mv ∧ ∃ die, c = .vfldLow t die mv ∨ c = .vfldRestore t die mv)
end

