-- ==== Sys2Proof/Laws/State.lean ====
section
/-! SUPPORT. One lemma per field of `State` per shared update, so that no proof unfolds a record update. -/

namespace Sys2Proof.Machine

/-- The axis stands at the later of the command's instant and the last one. -/
@[simp] theorem advance_axis (t : Nat) (s : State) : (advance t s).axis = max s.axis t := by
  unfold advance; dsimp only; split <;> simp <;> omega

/-- The model's count never runs back. -/
theorem now_le_advance (t : Nat) (s : State) : s.now ≤ (advance t s).now := by
  unfold advance; dsimp only; split <;> simp

/-- An instant that has passed moves nothing: time does not pass twice. -/
theorem advance_past (t : Nat) (s : State) (h : t ≤ s.axis) (hf : 0 ≤ s.time.frac ∧ s.time.frac < 10 ^ 9) : advance t s = s := by
  have hd : t - s.axis = 0 := by omega
  have hq : s.time.frac / (10 ^ 9 : Int) = 0 := by omega
  have hr : s.time.frac % (10 ^ 9 : Int) = s.time.frac := by omega
  have hc : counted 0 s = 0 := by
    unfold counted slewPart clampI
    simp only [Nat.zero_div, Int.ofNat_zero, Int.zero_mul, Int.zero_add, hq]
    simp
  unfold advance
  simp only [hd, hc, Int.ofNat_zero, Int.zero_mul, Int.zero_add, hr]
  simp [slewPart, clampI]

@[simp] theorem State.setTask_now (s : State) (n : Nat) (v : TaskRt) : (s.setTask n v).now = s.now := rfl
@[simp] theorem State.setTask_axis (s : State) (n : Nat) (v : TaskRt) : (s.setTask n v).axis = s.axis := rfl
@[simp] theorem State.setTask_power (s : State) (n : Nat) (v : TaskRt) : (s.setTask n v).power = s.power := rfl
@[simp] theorem State.setTask_bcr (s : State) (n : Nat) (v : TaskRt) : (s.setTask n v).bcr = s.bcr := rfl
@[simp] theorem State.setTask_clk (s : State) (n : Nat) (v : TaskRt) : (s.setTask n v).clk = s.clk := rfl
@[simp] theorem State.setTask_time (s : State) (n : Nat) (v : TaskRt) : (s.setTask n v).time = s.time := rfl
@[simp] theorem State.setTask_cal (s : State) (n : Nat) (v : TaskRt) : (s.setTask n v).cal = s.cal := rfl
@[simp] theorem State.setTask_ev (s : State) (n : Nat) (v : TaskRt) : (s.setTask n v).ev = s.ev := rfl
@[simp] theorem State.setTask_img (s : State) (n : Nat) (v : TaskRt) : (s.setTask n v).img = s.img := rfl
@[simp] theorem State.setTask_scan (s : State) (n : Nat) (v : TaskRt) : (s.setTask n v).scan = { s.scan with tasks := s.scan.tasks.set {} n v } := rfl
@[simp] theorem State.setTask_ps (s : State) (n : Nat) (v : TaskRt) : (s.setTask n v).ps = s.ps := rfl
@[simp] theorem State.setTask_eng (s : State) (n : Nat) (v : TaskRt) : (s.setTask n v).eng = s.eng := rfl
@[simp] theorem State.setTask_rime (s : State) (n : Nat) (v : TaskRt) : (s.setTask n v).rime = s.rime := rfl
@[simp] theorem State.setTask_edit (s : State) (n : Nat) (v : TaskRt) : (s.setTask n v).edit = s.edit := rfl
@[simp] theorem State.setTask_fld (s : State) (n : Nat) (v : TaskRt) : (s.setTask n v).fld = s.fld := rfl
@[simp] theorem State.setTask_panel (s : State) (n : Nat) (v : TaskRt) : (s.setTask n v).panel = s.panel := rfl
@[simp] theorem State.setTask_net (s : State) (n : Nat) (v : TaskRt) : (s.setTask n v).net = s.net := rfl
@[simp] theorem State.setTask_ring (s : State) (n : Nat) (v : TaskRt) : (s.setTask n v).ring = s.ring := rfl
@[simp] theorem State.setTask_pair (s : State) (n : Nat) (v : TaskRt) : (s.setTask n v).pair = s.pair := rfl
@[simp] theorem State.setTask_ldg (s : State) (n : Nat) (v : TaskRt) : (s.setTask n v).ldg = s.ldg := rfl
@[simp] theorem State.setTask_saf (s : State) (n : Nat) (v : TaskRt) : (s.setTask n v).saf = s.saf := rfl
@[simp] theorem State.setTask_sup (s : State) (n : Nat) (v : TaskRt) : (s.setTask n v).sup = s.sup := rfl
@[simp] theorem State.setTask_sec (s : State) (n : Nat) (v : TaskRt) : (s.setTask n v).sec = s.sec := rfl
@[simp] theorem State.setTask_upd (s : State) (n : Nat) (v : TaskRt) : (s.setTask n v).upd = s.upd := rfl
@[simp] theorem State.setTask_host (s : State) (n : Nat) (v : TaskRt) : (s.setTask n v).host = s.host := rfl
@[simp] theorem State.setTask_pending (s : State) (n : Nat) (v : TaskRt) : (s.setTask n v).pending = s.pending := rfl

@[simp] theorem State.setChan_now (s : State) (n : Nat) (v : Channel) : (s.setChan n v).now = s.now := rfl
@[simp] theorem State.setChan_axis (s : State) (n : Nat) (v : Channel) : (s.setChan n v).axis = s.axis := rfl
@[simp] theorem State.setChan_power (s : State) (n : Nat) (v : Channel) : (s.setChan n v).power = s.power := rfl
@[simp] theorem State.setChan_bcr (s : State) (n : Nat) (v : Channel) : (s.setChan n v).bcr = s.bcr := rfl
@[simp] theorem State.setChan_clk (s : State) (n : Nat) (v : Channel) : (s.setChan n v).clk = s.clk := rfl
@[simp] theorem State.setChan_time (s : State) (n : Nat) (v : Channel) : (s.setChan n v).time = s.time := rfl
@[simp] theorem State.setChan_cal (s : State) (n : Nat) (v : Channel) : (s.setChan n v).cal = s.cal := rfl
@[simp] theorem State.setChan_ev (s : State) (n : Nat) (v : Channel) : (s.setChan n v).ev = s.ev := rfl
@[simp] theorem State.setChan_img (s : State) (n : Nat) (v : Channel) : (s.setChan n v).img = s.img := rfl
@[simp] theorem State.setChan_scan (s : State) (n : Nat) (v : Channel) : (s.setChan n v).scan = s.scan := rfl
@[simp] theorem State.setChan_ps (s : State) (n : Nat) (v : Channel) : (s.setChan n v).ps = s.ps := rfl
@[simp] theorem State.setChan_eng (s : State) (n : Nat) (v : Channel) : (s.setChan n v).eng = s.eng := rfl
@[simp] theorem State.setChan_rime (s : State) (n : Nat) (v : Channel) : (s.setChan n v).rime = s.rime := rfl
@[simp] theorem State.setChan_edit (s : State) (n : Nat) (v : Channel) : (s.setChan n v).edit = s.edit := rfl
@[simp] theorem State.setChan_fld (s : State) (n : Nat) (v : Channel) : (s.setChan n v).fld = { s.fld with ch := s.fld.ch.set {} n v } := rfl
@[simp] theorem State.setChan_panel (s : State) (n : Nat) (v : Channel) : (s.setChan n v).panel = s.panel := rfl
@[simp] theorem State.setChan_net (s : State) (n : Nat) (v : Channel) : (s.setChan n v).net = s.net := rfl
@[simp] theorem State.setChan_ring (s : State) (n : Nat) (v : Channel) : (s.setChan n v).ring = s.ring := rfl
@[simp] theorem State.setChan_pair (s : State) (n : Nat) (v : Channel) : (s.setChan n v).pair = s.pair := rfl
@[simp] theorem State.setChan_ldg (s : State) (n : Nat) (v : Channel) : (s.setChan n v).ldg = s.ldg := rfl
@[simp] theorem State.setChan_saf (s : State) (n : Nat) (v : Channel) : (s.setChan n v).saf = s.saf := rfl
@[simp] theorem State.setChan_sup (s : State) (n : Nat) (v : Channel) : (s.setChan n v).sup = s.sup := rfl
@[simp] theorem State.setChan_sec (s : State) (n : Nat) (v : Channel) : (s.setChan n v).sec = s.sec := rfl
@[simp] theorem State.setChan_upd (s : State) (n : Nat) (v : Channel) : (s.setChan n v).upd = s.upd := rfl
@[simp] theorem State.setChan_host (s : State) (n : Nat) (v : Channel) : (s.setChan n v).host = s.host := rfl
@[simp] theorem State.setChan_pending (s : State) (n : Nat) (v : Channel) : (s.setChan n v).pending = s.pending := rfl

@[simp] theorem State.setDie_now (s : State) (n : Nat) (v : FieldDie) : (s.setDie n v).now = s.now := rfl
@[simp] theorem State.setDie_axis (s : State) (n : Nat) (v : FieldDie) : (s.setDie n v).axis = s.axis := rfl
@[simp] theorem State.setDie_power (s : State) (n : Nat) (v : FieldDie) : (s.setDie n v).power = s.power := rfl
@[simp] theorem State.setDie_bcr (s : State) (n : Nat) (v : FieldDie) : (s.setDie n v).bcr = s.bcr := rfl
@[simp] theorem State.setDie_clk (s : State) (n : Nat) (v : FieldDie) : (s.setDie n v).clk = s.clk := rfl
@[simp] theorem State.setDie_time (s : State) (n : Nat) (v : FieldDie) : (s.setDie n v).time = s.time := rfl
@[simp] theorem State.setDie_cal (s : State) (n : Nat) (v : FieldDie) : (s.setDie n v).cal = s.cal := rfl
@[simp] theorem State.setDie_ev (s : State) (n : Nat) (v : FieldDie) : (s.setDie n v).ev = s.ev := rfl
@[simp] theorem State.setDie_img (s : State) (n : Nat) (v : FieldDie) : (s.setDie n v).img = s.img := rfl
@[simp] theorem State.setDie_scan (s : State) (n : Nat) (v : FieldDie) : (s.setDie n v).scan = s.scan := rfl
@[simp] theorem State.setDie_ps (s : State) (n : Nat) (v : FieldDie) : (s.setDie n v).ps = s.ps := rfl
@[simp] theorem State.setDie_eng (s : State) (n : Nat) (v : FieldDie) : (s.setDie n v).eng = s.eng := rfl
@[simp] theorem State.setDie_rime (s : State) (n : Nat) (v : FieldDie) : (s.setDie n v).rime = s.rime := rfl
@[simp] theorem State.setDie_edit (s : State) (n : Nat) (v : FieldDie) : (s.setDie n v).edit = s.edit := rfl
@[simp] theorem State.setDie_fld (s : State) (n : Nat) (v : FieldDie) : (s.setDie n v).fld = { s.fld with dies := s.fld.dies.set {} n v } := rfl
@[simp] theorem State.setDie_panel (s : State) (n : Nat) (v : FieldDie) : (s.setDie n v).panel = s.panel := rfl
@[simp] theorem State.setDie_net (s : State) (n : Nat) (v : FieldDie) : (s.setDie n v).net = s.net := rfl
@[simp] theorem State.setDie_ring (s : State) (n : Nat) (v : FieldDie) : (s.setDie n v).ring = s.ring := rfl
@[simp] theorem State.setDie_pair (s : State) (n : Nat) (v : FieldDie) : (s.setDie n v).pair = s.pair := rfl
@[simp] theorem State.setDie_ldg (s : State) (n : Nat) (v : FieldDie) : (s.setDie n v).ldg = s.ldg := rfl
@[simp] theorem State.setDie_saf (s : State) (n : Nat) (v : FieldDie) : (s.setDie n v).saf = s.saf := rfl
@[simp] theorem State.setDie_sup (s : State) (n : Nat) (v : FieldDie) : (s.setDie n v).sup = s.sup := rfl
@[simp] theorem State.setDie_sec (s : State) (n : Nat) (v : FieldDie) : (s.setDie n v).sec = s.sec := rfl
@[simp] theorem State.setDie_upd (s : State) (n : Nat) (v : FieldDie) : (s.setDie n v).upd = s.upd := rfl
@[simp] theorem State.setDie_host (s : State) (n : Nat) (v : FieldDie) : (s.setDie n v).host = s.host := rfl
@[simp] theorem State.setDie_pending (s : State) (n : Nat) (v : FieldDie) : (s.setDie n v).pending = s.pending := rfl

@[simp] theorem State.setMbox_now (s : State) (n : Nat) (v : Mailbox) : (s.setMbox n v).now = s.now := rfl
@[simp] theorem State.setMbox_axis (s : State) (n : Nat) (v : Mailbox) : (s.setMbox n v).axis = s.axis := rfl
@[simp] theorem State.setMbox_power (s : State) (n : Nat) (v : Mailbox) : (s.setMbox n v).power = s.power := rfl
@[simp] theorem State.setMbox_bcr (s : State) (n : Nat) (v : Mailbox) : (s.setMbox n v).bcr = s.bcr := rfl
@[simp] theorem State.setMbox_clk (s : State) (n : Nat) (v : Mailbox) : (s.setMbox n v).clk = s.clk := rfl
@[simp] theorem State.setMbox_time (s : State) (n : Nat) (v : Mailbox) : (s.setMbox n v).time = s.time := rfl
@[simp] theorem State.setMbox_cal (s : State) (n : Nat) (v : Mailbox) : (s.setMbox n v).cal = s.cal := rfl
@[simp] theorem State.setMbox_ev (s : State) (n : Nat) (v : Mailbox) : (s.setMbox n v).ev = s.ev := rfl
@[simp] theorem State.setMbox_img (s : State) (n : Nat) (v : Mailbox) : (s.setMbox n v).img = s.img := rfl
@[simp] theorem State.setMbox_scan (s : State) (n : Nat) (v : Mailbox) : (s.setMbox n v).scan = s.scan := rfl
@[simp] theorem State.setMbox_ps (s : State) (n : Nat) (v : Mailbox) : (s.setMbox n v).ps = s.ps := rfl
@[simp] theorem State.setMbox_eng (s : State) (n : Nat) (v : Mailbox) : (s.setMbox n v).eng = s.eng := rfl
@[simp] theorem State.setMbox_rime (s : State) (n : Nat) (v : Mailbox) : (s.setMbox n v).rime = s.rime := rfl
@[simp] theorem State.setMbox_edit (s : State) (n : Nat) (v : Mailbox) : (s.setMbox n v).edit = s.edit := rfl
@[simp] theorem State.setMbox_fld (s : State) (n : Nat) (v : Mailbox) : (s.setMbox n v).fld = s.fld := rfl
@[simp] theorem State.setMbox_panel (s : State) (n : Nat) (v : Mailbox) : (s.setMbox n v).panel = s.panel := rfl
@[simp] theorem State.setMbox_net (s : State) (n : Nat) (v : Mailbox) : (s.setMbox n v).net = s.net := rfl
@[simp] theorem State.setMbox_ring (s : State) (n : Nat) (v : Mailbox) : (s.setMbox n v).ring = s.ring := rfl
@[simp] theorem State.setMbox_pair (s : State) (n : Nat) (v : Mailbox) : (s.setMbox n v).pair = s.pair := rfl
@[simp] theorem State.setMbox_ldg (s : State) (n : Nat) (v : Mailbox) : (s.setMbox n v).ldg = s.ldg := rfl
@[simp] theorem State.setMbox_saf (s : State) (n : Nat) (v : Mailbox) : (s.setMbox n v).saf = s.saf := rfl
@[simp] theorem State.setMbox_sup (s : State) (n : Nat) (v : Mailbox) : (s.setMbox n v).sup = s.sup := rfl
@[simp] theorem State.setMbox_sec (s : State) (n : Nat) (v : Mailbox) : (s.setMbox n v).sec = s.sec := rfl
@[simp] theorem State.setMbox_upd (s : State) (n : Nat) (v : Mailbox) : (s.setMbox n v).upd = s.upd := rfl
@[simp] theorem State.setMbox_host (s : State) (n : Nat) (v : Mailbox) : (s.setMbox n v).host = { s.host with mb := s.host.mb.set {} n v } := rfl
@[simp] theorem State.setMbox_pending (s : State) (n : Nat) (v : Mailbox) : (s.setMbox n v).pending = s.pending := rfl

@[simp] theorem State.setRegion_now (s : State) (n : Nat) (v : Region) : (s.setRegion n v).now = s.now := rfl
@[simp] theorem State.setRegion_axis (s : State) (n : Nat) (v : Region) : (s.setRegion n v).axis = s.axis := rfl
@[simp] theorem State.setRegion_power (s : State) (n : Nat) (v : Region) : (s.setRegion n v).power = s.power := rfl
@[simp] theorem State.setRegion_bcr (s : State) (n : Nat) (v : Region) : (s.setRegion n v).bcr = s.bcr := rfl
@[simp] theorem State.setRegion_clk (s : State) (n : Nat) (v : Region) : (s.setRegion n v).clk = s.clk := rfl
@[simp] theorem State.setRegion_time (s : State) (n : Nat) (v : Region) : (s.setRegion n v).time = s.time := rfl
@[simp] theorem State.setRegion_cal (s : State) (n : Nat) (v : Region) : (s.setRegion n v).cal = s.cal := rfl
@[simp] theorem State.setRegion_ev (s : State) (n : Nat) (v : Region) : (s.setRegion n v).ev = s.ev := rfl
@[simp] theorem State.setRegion_img (s : State) (n : Nat) (v : Region) : (s.setRegion n v).img = s.img := rfl
@[simp] theorem State.setRegion_scan (s : State) (n : Nat) (v : Region) : (s.setRegion n v).scan = s.scan := rfl
@[simp] theorem State.setRegion_ps (s : State) (n : Nat) (v : Region) : (s.setRegion n v).ps = s.ps := rfl
@[simp] theorem State.setRegion_eng (s : State) (n : Nat) (v : Region) : (s.setRegion n v).eng = { s.eng with regions := s.eng.regions.set {} n v } := rfl
@[simp] theorem State.setRegion_rime (s : State) (n : Nat) (v : Region) : (s.setRegion n v).rime = s.rime := rfl
@[simp] theorem State.setRegion_edit (s : State) (n : Nat) (v : Region) : (s.setRegion n v).edit = s.edit := rfl
@[simp] theorem State.setRegion_fld (s : State) (n : Nat) (v : Region) : (s.setRegion n v).fld = s.fld := rfl
@[simp] theorem State.setRegion_panel (s : State) (n : Nat) (v : Region) : (s.setRegion n v).panel = s.panel := rfl
@[simp] theorem State.setRegion_net (s : State) (n : Nat) (v : Region) : (s.setRegion n v).net = s.net := rfl
@[simp] theorem State.setRegion_ring (s : State) (n : Nat) (v : Region) : (s.setRegion n v).ring = s.ring := rfl
@[simp] theorem State.setRegion_pair (s : State) (n : Nat) (v : Region) : (s.setRegion n v).pair = s.pair := rfl
@[simp] theorem State.setRegion_ldg (s : State) (n : Nat) (v : Region) : (s.setRegion n v).ldg = s.ldg := rfl
@[simp] theorem State.setRegion_saf (s : State) (n : Nat) (v : Region) : (s.setRegion n v).saf = s.saf := rfl
@[simp] theorem State.setRegion_sup (s : State) (n : Nat) (v : Region) : (s.setRegion n v).sup = s.sup := rfl
@[simp] theorem State.setRegion_sec (s : State) (n : Nat) (v : Region) : (s.setRegion n v).sec = s.sec := rfl
@[simp] theorem State.setRegion_upd (s : State) (n : Nat) (v : Region) : (s.setRegion n v).upd = s.upd := rfl
@[simp] theorem State.setRegion_host (s : State) (n : Nat) (v : Region) : (s.setRegion n v).host = s.host := rfl
@[simp] theorem State.setRegion_pending (s : State) (n : Nat) (v : Region) : (s.setRegion n v).pending = s.pending := rfl

@[simp] theorem State.setBank_now (s : State) (e c : Nat) (v : Bank) : (s.setBank e c v).now = s.now := rfl
@[simp] theorem State.setBank_axis (s : State) (e c : Nat) (v : Bank) : (s.setBank e c v).axis = s.axis := rfl
@[simp] theorem State.setBank_power (s : State) (e c : Nat) (v : Bank) : (s.setBank e c v).power = s.power := rfl
@[simp] theorem State.setBank_bcr (s : State) (e c : Nat) (v : Bank) : (s.setBank e c v).bcr = s.bcr := rfl
@[simp] theorem State.setBank_clk (s : State) (e c : Nat) (v : Bank) : (s.setBank e c v).clk = s.clk := rfl
@[simp] theorem State.setBank_time (s : State) (e c : Nat) (v : Bank) : (s.setBank e c v).time = s.time := rfl
@[simp] theorem State.setBank_cal (s : State) (e c : Nat) (v : Bank) : (s.setBank e c v).cal = s.cal := rfl
@[simp] theorem State.setBank_ev (s : State) (e c : Nat) (v : Bank) : (s.setBank e c v).ev = s.ev := rfl
@[simp] theorem State.setBank_img (s : State) (e c : Nat) (v : Bank) : (s.setBank e c v).img = s.img := rfl
@[simp] theorem State.setBank_scan (s : State) (e c : Nat) (v : Bank) : (s.setBank e c v).scan = s.scan := rfl
@[simp] theorem State.setBank_ps (s : State) (e c : Nat) (v : Bank) : (s.setBank e c v).ps = s.ps := rfl
@[simp] theorem State.setBank_eng (s : State) (e c : Nat) (v : Bank) : (s.setBank e c v).eng = { s.eng with banks := s.eng.banks.set {} (4 * e + c) v } := rfl
@[simp] theorem State.setBank_rime (s : State) (e c : Nat) (v : Bank) : (s.setBank e c v).rime = s.rime := rfl
@[simp] theorem State.setBank_edit (s : State) (e c : Nat) (v : Bank) : (s.setBank e c v).edit = s.edit := rfl
@[simp] theorem State.setBank_fld (s : State) (e c : Nat) (v : Bank) : (s.setBank e c v).fld = s.fld := rfl
@[simp] theorem State.setBank_panel (s : State) (e c : Nat) (v : Bank) : (s.setBank e c v).panel = s.panel := rfl
@[simp] theorem State.setBank_net (s : State) (e c : Nat) (v : Bank) : (s.setBank e c v).net = s.net := rfl
@[simp] theorem State.setBank_ring (s : State) (e c : Nat) (v : Bank) : (s.setBank e c v).ring = s.ring := rfl
@[simp] theorem State.setBank_pair (s : State) (e c : Nat) (v : Bank) : (s.setBank e c v).pair = s.pair := rfl
@[simp] theorem State.setBank_ldg (s : State) (e c : Nat) (v : Bank) : (s.setBank e c v).ldg = s.ldg := rfl
@[simp] theorem State.setBank_saf (s : State) (e c : Nat) (v : Bank) : (s.setBank e c v).saf = s.saf := rfl
@[simp] theorem State.setBank_sup (s : State) (e c : Nat) (v : Bank) : (s.setBank e c v).sup = s.sup := rfl
@[simp] theorem State.setBank_sec (s : State) (e c : Nat) (v : Bank) : (s.setBank e c v).sec = s.sec := rfl
@[simp] theorem State.setBank_upd (s : State) (e c : Nat) (v : Bank) : (s.setBank e c v).upd = s.upd := rfl
@[simp] theorem State.setBank_host (s : State) (e c : Nat) (v : Bank) : (s.setBank e c v).host = s.host := rfl
@[simp] theorem State.setBank_pending (s : State) (e c : Nat) (v : Bank) : (s.setBank e c v).pending = s.pending := rfl

@[simp] theorem State.setStation_now (s : State) (n : Nat) (v : StationRt) : (s.setStation n v).now = s.now := rfl
@[simp] theorem State.setStation_axis (s : State) (n : Nat) (v : StationRt) : (s.setStation n v).axis = s.axis := rfl
@[simp] theorem State.setStation_power (s : State) (n : Nat) (v : StationRt) : (s.setStation n v).power = s.power := rfl
@[simp] theorem State.setStation_bcr (s : State) (n : Nat) (v : StationRt) : (s.setStation n v).bcr = s.bcr := rfl
@[simp] theorem State.setStation_clk (s : State) (n : Nat) (v : StationRt) : (s.setStation n v).clk = s.clk := rfl
@[simp] theorem State.setStation_time (s : State) (n : Nat) (v : StationRt) : (s.setStation n v).time = s.time := rfl
@[simp] theorem State.setStation_cal (s : State) (n : Nat) (v : StationRt) : (s.setStation n v).cal = s.cal := rfl
@[simp] theorem State.setStation_ev (s : State) (n : Nat) (v : StationRt) : (s.setStation n v).ev = s.ev := rfl
@[simp] theorem State.setStation_img (s : State) (n : Nat) (v : StationRt) : (s.setStation n v).img = s.img := rfl
@[simp] theorem State.setStation_scan (s : State) (n : Nat) (v : StationRt) : (s.setStation n v).scan = s.scan := rfl
@[simp] theorem State.setStation_ps (s : State) (n : Nat) (v : StationRt) : (s.setStation n v).ps = s.ps := rfl
@[simp] theorem State.setStation_eng (s : State) (n : Nat) (v : StationRt) : (s.setStation n v).eng = s.eng := rfl
@[simp] theorem State.setStation_rime (s : State) (n : Nat) (v : StationRt) : (s.setStation n v).rime = s.rime := rfl
@[simp] theorem State.setStation_edit (s : State) (n : Nat) (v : StationRt) : (s.setStation n v).edit = s.edit := rfl
@[simp] theorem State.setStation_fld (s : State) (n : Nat) (v : StationRt) : (s.setStation n v).fld = s.fld := rfl
@[simp] theorem State.setStation_panel (s : State) (n : Nat) (v : StationRt) : (s.setStation n v).panel = s.panel := rfl
@[simp] theorem State.setStation_net (s : State) (n : Nat) (v : StationRt) : (s.setStation n v).net = s.net := rfl
@[simp] theorem State.setStation_ring (s : State) (n : Nat) (v : StationRt) : (s.setStation n v).ring = { s.ring with st := s.ring.st.set {} n v } := rfl
@[simp] theorem State.setStation_pair (s : State) (n : Nat) (v : StationRt) : (s.setStation n v).pair = s.pair := rfl
@[simp] theorem State.setStation_ldg (s : State) (n : Nat) (v : StationRt) : (s.setStation n v).ldg = s.ldg := rfl
@[simp] theorem State.setStation_saf (s : State) (n : Nat) (v : StationRt) : (s.setStation n v).saf = s.saf := rfl
@[simp] theorem State.setStation_sup (s : State) (n : Nat) (v : StationRt) : (s.setStation n v).sup = s.sup := rfl
@[simp] theorem State.setStation_sec (s : State) (n : Nat) (v : StationRt) : (s.setStation n v).sec = s.sec := rfl
@[simp] theorem State.setStation_upd (s : State) (n : Nat) (v : StationRt) : (s.setStation n v).upd = s.upd := rfl
@[simp] theorem State.setStation_host (s : State) (n : Nat) (v : StationRt) : (s.setStation n v).host = s.host := rfl
@[simp] theorem State.setStation_pending (s : State) (n : Nat) (v : StationRt) : (s.setStation n v).pending = s.pending := rfl

@[simp] theorem setImg_now (a : Nat) (v : Word) (s : State) : (setImg a v s).now = s.now := rfl
@[simp] theorem setImg_axis (a : Nat) (v : Word) (s : State) : (setImg a v s).axis = s.axis := rfl
@[simp] theorem setImg_power (a : Nat) (v : Word) (s : State) : (setImg a v s).power = s.power := rfl
@[simp] theorem setImg_bcr (a : Nat) (v : Word) (s : State) : (setImg a v s).bcr = s.bcr := rfl
@[simp] theorem setImg_clk (a : Nat) (v : Word) (s : State) : (setImg a v s).clk = s.clk := rfl
@[simp] theorem setImg_time (a : Nat) (v : Word) (s : State) : (setImg a v s).time = s.time := rfl
@[simp] theorem setImg_cal (a : Nat) (v : Word) (s : State) : (setImg a v s).cal = s.cal := rfl
@[simp] theorem setImg_ev (a : Nat) (v : Word) (s : State) : (setImg a v s).ev = s.ev := rfl
@[simp] theorem setImg_img (a : Nat) (v : Word) (s : State) : (setImg a v s).img = { s.img with val := s.img.val.set 0#32 a v } := rfl
@[simp] theorem setImg_scan (a : Nat) (v : Word) (s : State) : (setImg a v s).scan = s.scan := rfl
@[simp] theorem setImg_ps (a : Nat) (v : Word) (s : State) : (setImg a v s).ps = s.ps := rfl
@[simp] theorem setImg_eng (a : Nat) (v : Word) (s : State) : (setImg a v s).eng = s.eng := rfl
@[simp] theorem setImg_rime (a : Nat) (v : Word) (s : State) : (setImg a v s).rime = s.rime := rfl
@[simp] theorem setImg_edit (a : Nat) (v : Word) (s : State) : (setImg a v s).edit = s.edit := rfl
@[simp] theorem setImg_fld (a : Nat) (v : Word) (s : State) : (setImg a v s).fld = s.fld := rfl
@[simp] theorem setImg_panel (a : Nat) (v : Word) (s : State) : (setImg a v s).panel = s.panel := rfl
@[simp] theorem setImg_net (a : Nat) (v : Word) (s : State) : (setImg a v s).net = s.net := rfl
@[simp] theorem setImg_ring (a : Nat) (v : Word) (s : State) : (setImg a v s).ring = s.ring := rfl
@[simp] theorem setImg_pair (a : Nat) (v : Word) (s : State) : (setImg a v s).pair = s.pair := rfl
@[simp] theorem setImg_ldg (a : Nat) (v : Word) (s : State) : (setImg a v s).ldg = s.ldg := rfl
@[simp] theorem setImg_saf (a : Nat) (v : Word) (s : State) : (setImg a v s).saf = s.saf := rfl
@[simp] theorem setImg_sup (a : Nat) (v : Word) (s : State) : (setImg a v s).sup = s.sup := rfl
@[simp] theorem setImg_sec (a : Nat) (v : Word) (s : State) : (setImg a v s).sec = s.sec := rfl
@[simp] theorem setImg_upd (a : Nat) (v : Word) (s : State) : (setImg a v s).upd = s.upd := rfl
@[simp] theorem setImg_host (a : Nat) (v : Word) (s : State) : (setImg a v s).host = s.host := rfl
@[simp] theorem setImg_pending (a : Nat) (v : Word) (s : State) : (setImg a v s).pending = s.pending := rfl

@[simp] theorem setQ_now (a : Nat) (q : BitVec 4) (s : State) : (setQ a q s).now = s.now := rfl
@[simp] theorem setQ_axis (a : Nat) (q : BitVec 4) (s : State) : (setQ a q s).axis = s.axis := rfl
@[simp] theorem setQ_power (a : Nat) (q : BitVec 4) (s : State) : (setQ a q s).power = s.power := rfl
@[simp] theorem setQ_bcr (a : Nat) (q : BitVec 4) (s : State) : (setQ a q s).bcr = s.bcr := rfl
@[simp] theorem setQ_clk (a : Nat) (q : BitVec 4) (s : State) : (setQ a q s).clk = s.clk := rfl
@[simp] theorem setQ_time (a : Nat) (q : BitVec 4) (s : State) : (setQ a q s).time = s.time := rfl
@[simp] theorem setQ_cal (a : Nat) (q : BitVec 4) (s : State) : (setQ a q s).cal = s.cal := rfl
@[simp] theorem setQ_ev (a : Nat) (q : BitVec 4) (s : State) : (setQ a q s).ev = s.ev := rfl
@[simp] theorem setQ_img (a : Nat) (q : BitVec 4) (s : State) : (setQ a q s).img = { s.img with q := s.img.q.set 2#4 a q } := rfl
@[simp] theorem setQ_scan (a : Nat) (q : BitVec 4) (s : State) : (setQ a q s).scan = s.scan := rfl
@[simp] theorem setQ_ps (a : Nat) (q : BitVec 4) (s : State) : (setQ a q s).ps = s.ps := rfl
@[simp] theorem setQ_eng (a : Nat) (q : BitVec 4) (s : State) : (setQ a q s).eng = s.eng := rfl
@[simp] theorem setQ_rime (a : Nat) (q : BitVec 4) (s : State) : (setQ a q s).rime = s.rime := rfl
@[simp] theorem setQ_edit (a : Nat) (q : BitVec 4) (s : State) : (setQ a q s).edit = s.edit := rfl
@[simp] theorem setQ_fld (a : Nat) (q : BitVec 4) (s : State) : (setQ a q s).fld = s.fld := rfl
@[simp] theorem setQ_panel (a : Nat) (q : BitVec 4) (s : State) : (setQ a q s).panel = s.panel := rfl
@[simp] theorem setQ_net (a : Nat) (q : BitVec 4) (s : State) : (setQ a q s).net = s.net := rfl
@[simp] theorem setQ_ring (a : Nat) (q : BitVec 4) (s : State) : (setQ a q s).ring = s.ring := rfl
@[simp] theorem setQ_pair (a : Nat) (q : BitVec 4) (s : State) : (setQ a q s).pair = s.pair := rfl
@[simp] theorem setQ_ldg (a : Nat) (q : BitVec 4) (s : State) : (setQ a q s).ldg = s.ldg := rfl
@[simp] theorem setQ_saf (a : Nat) (q : BitVec 4) (s : State) : (setQ a q s).saf = s.saf := rfl
@[simp] theorem setQ_sup (a : Nat) (q : BitVec 4) (s : State) : (setQ a q s).sup = s.sup := rfl
@[simp] theorem setQ_sec (a : Nat) (q : BitVec 4) (s : State) : (setQ a q s).sec = s.sec := rfl
@[simp] theorem setQ_upd (a : Nat) (q : BitVec 4) (s : State) : (setQ a q s).upd = s.upd := rfl
@[simp] theorem setQ_host (a : Nat) (q : BitVec 4) (s : State) : (setQ a q s).host = s.host := rfl
@[simp] theorem setQ_pending (a : Nat) (q : BitVec 4) (s : State) : (setQ a q s).pending = s.pending := rfl

@[simp] theorem setInput_now (a : Nat) (v : Word) (s : State) : (setInput a v s).now = s.now := rfl
@[simp] theorem setInput_axis (a : Nat) (v : Word) (s : State) : (setInput a v s).axis = s.axis := rfl
@[simp] theorem setInput_power (a : Nat) (v : Word) (s : State) : (setInput a v s).power = s.power := rfl
@[simp] theorem setInput_bcr (a : Nat) (v : Word) (s : State) : (setInput a v s).bcr = s.bcr := rfl
@[simp] theorem setInput_clk (a : Nat) (v : Word) (s : State) : (setInput a v s).clk = s.clk := rfl
@[simp] theorem setInput_time (a : Nat) (v : Word) (s : State) : (setInput a v s).time = s.time := rfl
@[simp] theorem setInput_cal (a : Nat) (v : Word) (s : State) : (setInput a v s).cal = s.cal := rfl
@[simp] theorem setInput_ev (a : Nat) (v : Word) (s : State) : (setInput a v s).ev = s.ev := rfl
@[simp] theorem setInput_img (a : Nat) (v : Word) (s : State) : (setInput a v s).img = { val := s.img.val.set 0#32 a v, q := s.img.q.set 2#4 a 1#4 } := rfl
@[simp] theorem setInput_scan (a : Nat) (v : Word) (s : State) : (setInput a v s).scan = s.scan := rfl
@[simp] theorem setInput_ps (a : Nat) (v : Word) (s : State) : (setInput a v s).ps = s.ps := rfl
@[simp] theorem setInput_eng (a : Nat) (v : Word) (s : State) : (setInput a v s).eng = s.eng := rfl
@[simp] theorem setInput_rime (a : Nat) (v : Word) (s : State) : (setInput a v s).rime = s.rime := rfl
@[simp] theorem setInput_edit (a : Nat) (v : Word) (s : State) : (setInput a v s).edit = s.edit := rfl
@[simp] theorem setInput_fld (a : Nat) (v : Word) (s : State) : (setInput a v s).fld = s.fld := rfl
@[simp] theorem setInput_panel (a : Nat) (v : Word) (s : State) : (setInput a v s).panel = s.panel := rfl
@[simp] theorem setInput_net (a : Nat) (v : Word) (s : State) : (setInput a v s).net = s.net := rfl
@[simp] theorem setInput_ring (a : Nat) (v : Word) (s : State) : (setInput a v s).ring = s.ring := rfl
@[simp] theorem setInput_pair (a : Nat) (v : Word) (s : State) : (setInput a v s).pair = s.pair := rfl
@[simp] theorem setInput_ldg (a : Nat) (v : Word) (s : State) : (setInput a v s).ldg = s.ldg := rfl
@[simp] theorem setInput_saf (a : Nat) (v : Word) (s : State) : (setInput a v s).saf = s.saf := rfl
@[simp] theorem setInput_sup (a : Nat) (v : Word) (s : State) : (setInput a v s).sup = s.sup := rfl
@[simp] theorem setInput_sec (a : Nat) (v : Word) (s : State) : (setInput a v s).sec = s.sec := rfl
@[simp] theorem setInput_upd (a : Nat) (v : Word) (s : State) : (setInput a v s).upd = s.upd := rfl
@[simp] theorem setInput_host (a : Nat) (v : Word) (s : State) : (setInput a v s).host = s.host := rfl
@[simp] theorem setInput_pending (a : Nat) (v : Word) (s : State) : (setInput a v s).pending = s.pending := rfl

@[simp] theorem raise_now (r : EvRec) (s : State) : (raise r s).now = s.now := rfl
@[simp] theorem raise_axis (r : EvRec) (s : State) : (raise r s).axis = s.axis := rfl
@[simp] theorem raise_power (r : EvRec) (s : State) : (raise r s).power = s.power := rfl
@[simp] theorem raise_bcr (r : EvRec) (s : State) : (raise r s).bcr = s.bcr := rfl
@[simp] theorem raise_clk (r : EvRec) (s : State) : (raise r s).clk = s.clk := rfl
@[simp] theorem raise_time (r : EvRec) (s : State) : (raise r s).time = s.time := rfl
@[simp] theorem raise_cal (r : EvRec) (s : State) : (raise r s).cal = s.cal := rfl
@[simp] theorem raise_ev (r : EvRec) (s : State) : (raise r s).ev = { s.ev with inbox := s.ev.inbox ++ [r] } := rfl
@[simp] theorem raise_img (r : EvRec) (s : State) : (raise r s).img = s.img := rfl
@[simp] theorem raise_scan (r : EvRec) (s : State) : (raise r s).scan = s.scan := rfl
@[simp] theorem raise_ps (r : EvRec) (s : State) : (raise r s).ps = s.ps := rfl
@[simp] theorem raise_eng (r : EvRec) (s : State) : (raise r s).eng = s.eng := rfl
@[simp] theorem raise_rime (r : EvRec) (s : State) : (raise r s).rime = s.rime := rfl
@[simp] theorem raise_edit (r : EvRec) (s : State) : (raise r s).edit = s.edit := rfl
@[simp] theorem raise_fld (r : EvRec) (s : State) : (raise r s).fld = s.fld := rfl
@[simp] theorem raise_panel (r : EvRec) (s : State) : (raise r s).panel = s.panel := rfl
@[simp] theorem raise_net (r : EvRec) (s : State) : (raise r s).net = s.net := rfl
@[simp] theorem raise_ring (r : EvRec) (s : State) : (raise r s).ring = s.ring := rfl
@[simp] theorem raise_pair (r : EvRec) (s : State) : (raise r s).pair = s.pair := rfl
@[simp] theorem raise_ldg (r : EvRec) (s : State) : (raise r s).ldg = s.ldg := rfl
@[simp] theorem raise_saf (r : EvRec) (s : State) : (raise r s).saf = s.saf := rfl
@[simp] theorem raise_sup (r : EvRec) (s : State) : (raise r s).sup = s.sup := rfl
@[simp] theorem raise_sec (r : EvRec) (s : State) : (raise r s).sec = s.sec := rfl
@[simp] theorem raise_upd (r : EvRec) (s : State) : (raise r s).upd = s.upd := rfl
@[simp] theorem raise_host (r : EvRec) (s : State) : (raise r s).host = s.host := rfl
@[simp] theorem raise_pending (r : EvRec) (s : State) : (raise r s).pending = s.pending := rfl

@[simp] theorem count_now (k n : Nat) (s : State) : (count k n s).now = s.now := rfl
@[simp] theorem count_axis (k n : Nat) (s : State) : (count k n s).axis = s.axis := rfl
@[simp] theorem count_power (k n : Nat) (s : State) : (count k n s).power = s.power := rfl
@[simp] theorem count_bcr (k n : Nat) (s : State) : (count k n s).bcr = s.bcr := rfl
@[simp] theorem count_clk (k n : Nat) (s : State) : (count k n s).clk = s.clk := rfl
@[simp] theorem count_time (k n : Nat) (s : State) : (count k n s).time = s.time := rfl
@[simp] theorem count_cal (k n : Nat) (s : State) : (count k n s).cal = s.cal := rfl
@[simp] theorem count_ev (k n : Nat) (s : State) : (count k n s).ev = s.ev := rfl
@[simp] theorem count_img (k n : Nat) (s : State) : (count k n s).img = s.img := rfl
@[simp] theorem count_scan (k n : Nat) (s : State) : (count k n s).scan = s.scan := rfl
@[simp] theorem count_ps (k n : Nat) (s : State) : (count k n s).ps = s.ps := rfl
@[simp] theorem count_eng (k n : Nat) (s : State) : (count k n s).eng = s.eng := rfl
@[simp] theorem count_rime (k n : Nat) (s : State) : (count k n s).rime = s.rime := rfl
@[simp] theorem count_edit (k n : Nat) (s : State) : (count k n s).edit = s.edit := rfl
@[simp] theorem count_fld (k n : Nat) (s : State) : (count k n s).fld = s.fld := rfl
@[simp] theorem count_panel (k n : Nat) (s : State) : (count k n s).panel = s.panel := rfl
@[simp] theorem count_net (k n : Nat) (s : State) : (count k n s).net = s.net := rfl
@[simp] theorem count_ring (k n : Nat) (s : State) : (count k n s).ring = s.ring := rfl
@[simp] theorem count_pair (k n : Nat) (s : State) : (count k n s).pair = s.pair := rfl
@[simp] theorem count_ldg (k n : Nat) (s : State) : (count k n s).ldg = s.ldg := rfl
@[simp] theorem count_saf (k n : Nat) (s : State) : (count k n s).saf = s.saf := rfl
@[simp] theorem count_sup (k n : Nat) (s : State) : (count k n s).sup = { s.sup with ctr := s.sup.ctr.set 0 k ((s.sup.ctr.get 0 k + n) % 2 ^ 32) } := rfl
@[simp] theorem count_sec (k n : Nat) (s : State) : (count k n s).sec = s.sec := rfl
@[simp] theorem count_upd (k n : Nat) (s : State) : (count k n s).upd = s.upd := rfl
@[simp] theorem count_host (k n : Nat) (s : State) : (count k n s).host = s.host := rfl
@[simp] theorem count_pending (k n : Nat) (s : State) : (count k n s).pending = s.pending := rfl

@[simp] theorem dropWork_now (wid : Nat) (s : State) : (dropWork wid s).now = s.now := rfl
@[simp] theorem dropWork_axis (wid : Nat) (s : State) : (dropWork wid s).axis = s.axis := rfl
@[simp] theorem dropWork_power (wid : Nat) (s : State) : (dropWork wid s).power = s.power := rfl
@[simp] theorem dropWork_bcr (wid : Nat) (s : State) : (dropWork wid s).bcr = s.bcr := rfl
@[simp] theorem dropWork_clk (wid : Nat) (s : State) : (dropWork wid s).clk = s.clk := rfl
@[simp] theorem dropWork_time (wid : Nat) (s : State) : (dropWork wid s).time = s.time := rfl
@[simp] theorem dropWork_cal (wid : Nat) (s : State) : (dropWork wid s).cal = s.cal := rfl
@[simp] theorem dropWork_ev (wid : Nat) (s : State) : (dropWork wid s).ev = s.ev := rfl
@[simp] theorem dropWork_img (wid : Nat) (s : State) : (dropWork wid s).img = s.img := rfl
@[simp] theorem dropWork_scan (wid : Nat) (s : State) : (dropWork wid s).scan = s.scan := rfl
@[simp] theorem dropWork_ps (wid : Nat) (s : State) : (dropWork wid s).ps = s.ps := rfl
@[simp] theorem dropWork_eng (wid : Nat) (s : State) : (dropWork wid s).eng = s.eng := rfl
@[simp] theorem dropWork_rime (wid : Nat) (s : State) : (dropWork wid s).rime = s.rime := rfl
@[simp] theorem dropWork_edit (wid : Nat) (s : State) : (dropWork wid s).edit = s.edit := rfl
@[simp] theorem dropWork_fld (wid : Nat) (s : State) : (dropWork wid s).fld = s.fld := rfl
@[simp] theorem dropWork_panel (wid : Nat) (s : State) : (dropWork wid s).panel = s.panel := rfl
@[simp] theorem dropWork_net (wid : Nat) (s : State) : (dropWork wid s).net = s.net := rfl
@[simp] theorem dropWork_ring (wid : Nat) (s : State) : (dropWork wid s).ring = s.ring := rfl
@[simp] theorem dropWork_pair (wid : Nat) (s : State) : (dropWork wid s).pair = s.pair := rfl
@[simp] theorem dropWork_ldg (wid : Nat) (s : State) : (dropWork wid s).ldg = s.ldg := rfl
@[simp] theorem dropWork_saf (wid : Nat) (s : State) : (dropWork wid s).saf = s.saf := rfl
@[simp] theorem dropWork_sup (wid : Nat) (s : State) : (dropWork wid s).sup = s.sup := rfl
@[simp] theorem dropWork_sec (wid : Nat) (s : State) : (dropWork wid s).sec = s.sec := rfl
@[simp] theorem dropWork_upd (wid : Nat) (s : State) : (dropWork wid s).upd = s.upd := rfl
@[simp] theorem dropWork_host (wid : Nat) (s : State) : (dropWork wid s).host = { s.host with works := s.host.works.filter fun w => w.wid ≠ wid } := rfl
@[simp] theorem dropWork_pending (wid : Nat) (s : State) : (dropWork wid s).pending = s.pending := rfl

@[simp] theorem putWork_now (w : Work) (s : State) : (putWork w s).now = s.now := rfl
@[simp] theorem putWork_axis (w : Work) (s : State) : (putWork w s).axis = s.axis := rfl
@[simp] theorem putWork_power (w : Work) (s : State) : (putWork w s).power = s.power := rfl
@[simp] theorem putWork_bcr (w : Work) (s : State) : (putWork w s).bcr = s.bcr := rfl
@[simp] theorem putWork_clk (w : Work) (s : State) : (putWork w s).clk = s.clk := rfl
@[simp] theorem putWork_time (w : Work) (s : State) : (putWork w s).time = s.time := rfl
@[simp] theorem putWork_cal (w : Work) (s : State) : (putWork w s).cal = s.cal := rfl
@[simp] theorem putWork_ev (w : Work) (s : State) : (putWork w s).ev = s.ev := rfl
@[simp] theorem putWork_img (w : Work) (s : State) : (putWork w s).img = s.img := rfl
@[simp] theorem putWork_scan (w : Work) (s : State) : (putWork w s).scan = s.scan := rfl
@[simp] theorem putWork_ps (w : Work) (s : State) : (putWork w s).ps = s.ps := rfl
@[simp] theorem putWork_eng (w : Work) (s : State) : (putWork w s).eng = s.eng := rfl
@[simp] theorem putWork_rime (w : Work) (s : State) : (putWork w s).rime = s.rime := rfl
@[simp] theorem putWork_edit (w : Work) (s : State) : (putWork w s).edit = s.edit := rfl
@[simp] theorem putWork_fld (w : Work) (s : State) : (putWork w s).fld = s.fld := rfl
@[simp] theorem putWork_panel (w : Work) (s : State) : (putWork w s).panel = s.panel := rfl
@[simp] theorem putWork_net (w : Work) (s : State) : (putWork w s).net = s.net := rfl
@[simp] theorem putWork_ring (w : Work) (s : State) : (putWork w s).ring = s.ring := rfl
@[simp] theorem putWork_pair (w : Work) (s : State) : (putWork w s).pair = s.pair := rfl
@[simp] theorem putWork_ldg (w : Work) (s : State) : (putWork w s).ldg = s.ldg := rfl
@[simp] theorem putWork_saf (w : Work) (s : State) : (putWork w s).saf = s.saf := rfl
@[simp] theorem putWork_sup (w : Work) (s : State) : (putWork w s).sup = s.sup := rfl
@[simp] theorem putWork_sec (w : Work) (s : State) : (putWork w s).sec = s.sec := rfl
@[simp] theorem putWork_upd (w : Work) (s : State) : (putWork w s).upd = s.upd := rfl
@[simp] theorem putWork_host (w : Work) (s : State) : (putWork w s).host = { s.host with works := s.host.works.map fun v => if v.wid = w.wid then w else v } := rfl
@[simp] theorem putWork_pending (w : Work) (s : State) : (putWork w s).pending = s.pending := rfl

@[simp] theorem holdAll_now (s : State) : (holdAll s).now = s.now := rfl
@[simp] theorem holdAll_axis (s : State) : (holdAll s).axis = s.axis := rfl
@[simp] theorem holdAll_power (s : State) : (holdAll s).power = s.power := rfl
@[simp] theorem holdAll_bcr (s : State) : (holdAll s).bcr = s.bcr := rfl
@[simp] theorem holdAll_clk (s : State) : (holdAll s).clk = s.clk := rfl
@[simp] theorem holdAll_time (s : State) : (holdAll s).time = s.time := rfl
@[simp] theorem holdAll_cal (s : State) : (holdAll s).cal = s.cal := rfl
@[simp] theorem holdAll_ev (s : State) : (holdAll s).ev = s.ev := rfl
@[simp] theorem holdAll_img (s : State) : (holdAll s).img = s.img := rfl
@[simp] theorem holdAll_scan (s : State) : (holdAll s).scan = s.scan := rfl
@[simp] theorem holdAll_ps (s : State) : (holdAll s).ps = s.ps := rfl
@[simp] theorem holdAll_eng (s : State) : (holdAll s).eng = s.eng := rfl
@[simp] theorem holdAll_rime (s : State) : (holdAll s).rime = s.rime := rfl
@[simp] theorem holdAll_edit (s : State) : (holdAll s).edit = s.edit := rfl
@[simp] theorem holdAll_fld (s : State) : (holdAll s).fld = { s.fld with dies := s.fld.dies.over {} (fun _ d => { d with hold := true, holding := true }) [0, 1, 2, 3] } := rfl
@[simp] theorem holdAll_panel (s : State) : (holdAll s).panel = s.panel := rfl
@[simp] theorem holdAll_net (s : State) : (holdAll s).net = s.net := rfl
@[simp] theorem holdAll_ring (s : State) : (holdAll s).ring = s.ring := rfl
@[simp] theorem holdAll_pair (s : State) : (holdAll s).pair = s.pair := rfl
@[simp] theorem holdAll_ldg (s : State) : (holdAll s).ldg = s.ldg := rfl
@[simp] theorem holdAll_saf (s : State) : (holdAll s).saf = s.saf := rfl
@[simp] theorem holdAll_sup (s : State) : (holdAll s).sup = s.sup := rfl
@[simp] theorem holdAll_sec (s : State) : (holdAll s).sec = s.sec := rfl
@[simp] theorem holdAll_upd (s : State) : (holdAll s).upd = s.upd := rfl
@[simp] theorem holdAll_host (s : State) : (holdAll s).host = s.host := rfl
@[simp] theorem holdAll_pending (s : State) : (holdAll s).pending = s.pending := rfl

@[simp] theorem advance_power (t : Nat) (s : State) : (advance t s).power = s.power := by unfold advance; dsimp only; split <;> rfl
@[simp] theorem advance_bcr (t : Nat) (s : State) : (advance t s).bcr = s.bcr := by unfold advance; dsimp only; split <;> rfl
@[simp] theorem advance_clk (t : Nat) (s : State) : (advance t s).clk = s.clk := by unfold advance; dsimp only; split <;> rfl
@[simp] theorem advance_cal (t : Nat) (s : State) : (advance t s).cal = s.cal := by unfold advance; dsimp only; split <;> rfl
@[simp] theorem advance_ev (t : Nat) (s : State) : (advance t s).ev = s.ev := by unfold advance; dsimp only; split <;> rfl
@[simp] theorem advance_img (t : Nat) (s : State) : (advance t s).img = s.img := by unfold advance; dsimp only; split <;> rfl
@[simp] theorem advance_scan (t : Nat) (s : State) : (advance t s).scan = s.scan := by unfold advance; dsimp only; split <;> rfl
@[simp] theorem advance_ps (t : Nat) (s : State) : (advance t s).ps = s.ps := by unfold advance; dsimp only; split <;> rfl
@[simp] theorem advance_eng (t : Nat) (s : State) : (advance t s).eng = s.eng := by unfold advance; dsimp only; split <;> rfl
@[simp] theorem advance_rime (t : Nat) (s : State) : (advance t s).rime = s.rime := by unfold advance; dsimp only; split <;> rfl
@[simp] theorem advance_edit (t : Nat) (s : State) : (advance t s).edit = s.edit := by unfold advance; dsimp only; split <;> rfl
@[simp] theorem advance_fld (t : Nat) (s : State) : (advance t s).fld = s.fld := by unfold advance; dsimp only; split <;> rfl
@[simp] theorem advance_panel (t : Nat) (s : State) : (advance t s).panel = s.panel := by unfold advance; dsimp only; split <;> rfl
@[simp] theorem advance_net (t : Nat) (s : State) : (advance t s).net = s.net := by unfold advance; dsimp only; split <;> rfl
@[simp] theorem advance_ring (t : Nat) (s : State) : (advance t s).ring = s.ring := by unfold advance; dsimp only; split <;> rfl
@[simp] theorem advance_pair (t : Nat) (s : State) : (advance t s).pair = s.pair := by unfold advance; dsimp only; split <;> rfl
@[simp] theorem advance_ldg (t : Nat) (s : State) : (advance t s).ldg = s.ldg := by unfold advance; dsimp only; split <;> rfl
@[simp] theorem advance_saf (t : Nat) (s : State) : (advance t s).saf = s.saf := by unfold advance; dsimp only; split <;> rfl
@[simp] theorem advance_sup (t : Nat) (s : State) : (advance t s).sup = s.sup := by unfold advance; dsimp only; split <;> rfl
@[simp] theorem advance_sec (t : Nat) (s : State) : (advance t s).sec = s.sec := by unfold advance; dsimp only; split <;> rfl
@[simp] theorem advance_upd (t : Nat) (s : State) : (advance t s).upd = s.upd := by unfold advance; dsimp only; split <;> rfl
@[simp] theorem advance_host (t : Nat) (s : State) : (advance t s).host = s.host := by unfold advance; dsimp only; split <;> rfl
@[simp] theorem advance_pending (t : Nat) (s : State) : (advance t s).pending = s.pending := by unfold advance; dsimp only; split <;> rfl

@[simp] theorem setIrq_now (n : Nat) (s : State) : (setIrq n s).now = s.now := by unfold setIrq; split <;> rfl
@[simp] theorem setIrq_axis (n : Nat) (s : State) : (setIrq n s).axis = s.axis := by unfold setIrq; split <;> rfl
@[simp] theorem setIrq_power (n : Nat) (s : State) : (setIrq n s).power = s.power := by unfold setIrq; split <;> rfl
@[simp] theorem setIrq_bcr (n : Nat) (s : State) : (setIrq n s).bcr = s.bcr := by unfold setIrq; split <;> rfl
@[simp] theorem setIrq_clk (n : Nat) (s : State) : (setIrq n s).clk = s.clk := by unfold setIrq; split <;> rfl
@[simp] theorem setIrq_time (n : Nat) (s : State) : (setIrq n s).time = s.time := by unfold setIrq; split <;> rfl
@[simp] theorem setIrq_cal (n : Nat) (s : State) : (setIrq n s).cal = s.cal := by unfold setIrq; split <;> rfl
@[simp] theorem setIrq_ev (n : Nat) (s : State) : (setIrq n s).ev = s.ev := by unfold setIrq; split <;> rfl
@[simp] theorem setIrq_img (n : Nat) (s : State) : (setIrq n s).img = s.img := by unfold setIrq; split <;> rfl
@[simp] theorem setIrq_scan (n : Nat) (s : State) : (setIrq n s).scan = s.scan := by unfold setIrq; split <;> rfl
@[simp] theorem setIrq_ps (n : Nat) (s : State) : (setIrq n s).ps = s.ps := by unfold setIrq; split <;> rfl
@[simp] theorem setIrq_eng (n : Nat) (s : State) : (setIrq n s).eng = s.eng := by unfold setIrq; split <;> rfl
@[simp] theorem setIrq_rime (n : Nat) (s : State) : (setIrq n s).rime = s.rime := by unfold setIrq; split <;> rfl
@[simp] theorem setIrq_edit (n : Nat) (s : State) : (setIrq n s).edit = s.edit := by unfold setIrq; split <;> rfl
@[simp] theorem setIrq_fld (n : Nat) (s : State) : (setIrq n s).fld = s.fld := by unfold setIrq; split <;> rfl
@[simp] theorem setIrq_panel (n : Nat) (s : State) : (setIrq n s).panel = s.panel := by unfold setIrq; split <;> rfl
@[simp] theorem setIrq_net (n : Nat) (s : State) : (setIrq n s).net = s.net := by unfold setIrq; split <;> rfl
@[simp] theorem setIrq_ring (n : Nat) (s : State) : (setIrq n s).ring = s.ring := by unfold setIrq; split <;> rfl
@[simp] theorem setIrq_pair (n : Nat) (s : State) : (setIrq n s).pair = s.pair := by unfold setIrq; split <;> rfl
@[simp] theorem setIrq_ldg (n : Nat) (s : State) : (setIrq n s).ldg = s.ldg := by unfold setIrq; split <;> rfl
@[simp] theorem setIrq_saf (n : Nat) (s : State) : (setIrq n s).saf = s.saf := by unfold setIrq; split <;> rfl
@[simp] theorem setIrq_sup (n : Nat) (s : State) : (setIrq n s).sup = s.sup := by unfold setIrq; split <;> rfl
@[simp] theorem setIrq_sec (n : Nat) (s : State) : (setIrq n s).sec = s.sec := by unfold setIrq; split <;> rfl
@[simp] theorem setIrq_upd (n : Nat) (s : State) : (setIrq n s).upd = s.upd := by unfold setIrq; split <;> rfl
@[simp] theorem setIrq_pending (n : Nat) (s : State) : (setIrq n s).pending = s.pending := by unfold setIrq; split <;> rfl

@[simp] theorem noteState_now (o s : State) : (noteState o s).now = s.now := by unfold noteState setIrq; split <;> [skip; split] <;> rfl
@[simp] theorem noteState_axis (o s : State) : (noteState o s).axis = s.axis := by unfold noteState setIrq; split <;> [skip; split] <;> rfl
@[simp] theorem noteState_power (o s : State) : (noteState o s).power = s.power := by unfold noteState setIrq; split <;> [skip; split] <;> rfl
@[simp] theorem noteState_bcr (o s : State) : (noteState o s).bcr = s.bcr := by unfold noteState setIrq; split <;> [skip; split] <;> rfl
@[simp] theorem noteState_clk (o s : State) : (noteState o s).clk = s.clk := by unfold noteState setIrq; split <;> [skip; split] <;> rfl
@[simp] theorem noteState_time (o s : State) : (noteState o s).time = s.time := by unfold noteState setIrq; split <;> [skip; split] <;> rfl
@[simp] theorem noteState_cal (o s : State) : (noteState o s).cal = s.cal := by unfold noteState setIrq; split <;> [skip; split] <;> rfl
@[simp] theorem noteState_ev (o s : State) : (noteState o s).ev = s.ev := by unfold noteState setIrq; split <;> [skip; split] <;> rfl
@[simp] theorem noteState_img (o s : State) : (noteState o s).img = s.img := by unfold noteState setIrq; split <;> [skip; split] <;> rfl
@[simp] theorem noteState_scan (o s : State) : (noteState o s).scan = s.scan := by unfold noteState setIrq; split <;> [skip; split] <;> rfl
@[simp] theorem noteState_ps (o s : State) : (noteState o s).ps = s.ps := by unfold noteState setIrq; split <;> [skip; split] <;> rfl
@[simp] theorem noteState_eng (o s : State) : (noteState o s).eng = s.eng := by unfold noteState setIrq; split <;> [skip; split] <;> rfl
@[simp] theorem noteState_rime (o s : State) : (noteState o s).rime = s.rime := by unfold noteState setIrq; split <;> [skip; split] <;> rfl
@[simp] theorem noteState_edit (o s : State) : (noteState o s).edit = s.edit := by unfold noteState setIrq; split <;> [skip; split] <;> rfl
@[simp] theorem noteState_fld (o s : State) : (noteState o s).fld = s.fld := by unfold noteState setIrq; split <;> [skip; split] <;> rfl
@[simp] theorem noteState_panel (o s : State) : (noteState o s).panel = s.panel := by unfold noteState setIrq; split <;> [skip; split] <;> rfl
@[simp] theorem noteState_net (o s : State) : (noteState o s).net = s.net := by unfold noteState setIrq; split <;> [skip; split] <;> rfl
@[simp] theorem noteState_ring (o s : State) : (noteState o s).ring = s.ring := by unfold noteState setIrq; split <;> [skip; split] <;> rfl
@[simp] theorem noteState_pair (o s : State) : (noteState o s).pair = s.pair := by unfold noteState setIrq; split <;> [skip; split] <;> rfl
@[simp] theorem noteState_ldg (o s : State) : (noteState o s).ldg = s.ldg := by unfold noteState setIrq; split <;> [skip; split] <;> rfl
@[simp] theorem noteState_saf (o s : State) : (noteState o s).saf = s.saf := by unfold noteState setIrq; split <;> [skip; split] <;> rfl
@[simp] theorem noteState_sup (o s : State) : (noteState o s).sup = s.sup := by unfold noteState setIrq; split <;> [skip; split] <;> rfl
@[simp] theorem noteState_sec (o s : State) : (noteState o s).sec = s.sec := by unfold noteState setIrq; split <;> [skip; split] <;> rfl
@[simp] theorem noteState_upd (o s : State) : (noteState o s).upd = s.upd := by unfold noteState setIrq; split <;> [skip; split] <;> rfl
@[simp] theorem noteState_pending (o s : State) : (noteState o s).pending = s.pending := by unfold noteState setIrq; split <;> [skip; split] <;> rfl

@[simp] theorem logFault_now (code cls : Nat) (w d0 d1 : Word) (s : State) : (logFault code cls w d0 d1 s).now = s.now := rfl
@[simp] theorem logFault_axis (code cls : Nat) (w d0 d1 : Word) (s : State) : (logFault code cls w d0 d1 s).axis = s.axis := rfl
@[simp] theorem logFault_power (code cls : Nat) (w d0 d1 : Word) (s : State) : (logFault code cls w d0 d1 s).power = s.power := rfl
@[simp] theorem logFault_bcr (code cls : Nat) (w d0 d1 : Word) (s : State) : (logFault code cls w d0 d1 s).bcr = s.bcr := rfl
@[simp] theorem logFault_clk (code cls : Nat) (w d0 d1 : Word) (s : State) : (logFault code cls w d0 d1 s).clk = s.clk := rfl
@[simp] theorem logFault_time (code cls : Nat) (w d0 d1 : Word) (s : State) : (logFault code cls w d0 d1 s).time = s.time := rfl
@[simp] theorem logFault_cal (code cls : Nat) (w d0 d1 : Word) (s : State) : (logFault code cls w d0 d1 s).cal = s.cal := rfl
@[simp] theorem logFault_ev (code cls : Nat) (w d0 d1 : Word) (s : State) : (logFault code cls w d0 d1 s).ev = s.ev := rfl
@[simp] theorem logFault_img (code cls : Nat) (w d0 d1 : Word) (s : State) : (logFault code cls w d0 d1 s).img = s.img := rfl
@[simp] theorem logFault_scan (code cls : Nat) (w d0 d1 : Word) (s : State) : (logFault code cls w d0 d1 s).scan = s.scan := rfl
@[simp] theorem logFault_ps (code cls : Nat) (w d0 d1 : Word) (s : State) : (logFault code cls w d0 d1 s).ps = s.ps := rfl
@[simp] theorem logFault_eng (code cls : Nat) (w d0 d1 : Word) (s : State) : (logFault code cls w d0 d1 s).eng = s.eng := rfl
@[simp] theorem logFault_rime (code cls : Nat) (w d0 d1 : Word) (s : State) : (logFault code cls w d0 d1 s).rime = s.rime := rfl
@[simp] theorem logFault_edit (code cls : Nat) (w d0 d1 : Word) (s : State) : (logFault code cls w d0 d1 s).edit = s.edit := rfl
@[simp] theorem logFault_fld (code cls : Nat) (w d0 d1 : Word) (s : State) : (logFault code cls w d0 d1 s).fld = s.fld := rfl
@[simp] theorem logFault_panel (code cls : Nat) (w d0 d1 : Word) (s : State) : (logFault code cls w d0 d1 s).panel = s.panel := rfl
@[simp] theorem logFault_net (code cls : Nat) (w d0 d1 : Word) (s : State) : (logFault code cls w d0 d1 s).net = s.net := rfl
@[simp] theorem logFault_ring (code cls : Nat) (w d0 d1 : Word) (s : State) : (logFault code cls w d0 d1 s).ring = s.ring := rfl
@[simp] theorem logFault_pair (code cls : Nat) (w d0 d1 : Word) (s : State) : (logFault code cls w d0 d1 s).pair = s.pair := rfl
@[simp] theorem logFault_ldg (code cls : Nat) (w d0 d1 : Word) (s : State) : (logFault code cls w d0 d1 s).ldg = s.ldg := rfl
@[simp] theorem logFault_saf (code cls : Nat) (w d0 d1 : Word) (s : State) : (logFault code cls w d0 d1 s).saf = s.saf := rfl
@[simp] theorem logFault_sec (code cls : Nat) (w d0 d1 : Word) (s : State) : (logFault code cls w d0 d1 s).sec = s.sec := rfl
@[simp] theorem logFault_upd (code cls : Nat) (w d0 d1 : Word) (s : State) : (logFault code cls w d0 d1 s).upd = s.upd := rfl
@[simp] theorem logFault_host (code cls : Nat) (w d0 d1 : Word) (s : State) : (logFault code cls w d0 d1 s).host = s.host := rfl
@[simp] theorem logFault_pending (code cls : Nat) (w d0 d1 : Word) (s : State) : (logFault code cls w d0 d1 s).pending = s.pending := rfl

@[simp] theorem State.withPending_now (s : State) (q : List Instr) : (s.withPending q).now = s.now := rfl
@[simp] theorem State.withPending_axis (s : State) (q : List Instr) : (s.withPending q).axis = s.axis := rfl
@[simp] theorem State.withPending_power (s : State) (q : List Instr) : (s.withPending q).power = s.power := rfl
@[simp] theorem State.withPending_bcr (s : State) (q : List Instr) : (s.withPending q).bcr = s.bcr := rfl
@[simp] theorem State.withPending_clk (s : State) (q : List Instr) : (s.withPending q).clk = s.clk := rfl
@[simp] theorem State.withPending_time (s : State) (q : List Instr) : (s.withPending q).time = s.time := rfl
@[simp] theorem State.withPending_cal (s : State) (q : List Instr) : (s.withPending q).cal = s.cal := rfl
@[simp] theorem State.withPending_ev (s : State) (q : List Instr) : (s.withPending q).ev = s.ev := rfl
@[simp] theorem State.withPending_img (s : State) (q : List Instr) : (s.withPending q).img = s.img := rfl
@[simp] theorem State.withPending_scan (s : State) (q : List Instr) : (s.withPending q).scan = s.scan := rfl
@[simp] theorem State.withPending_ps (s : State) (q : List Instr) : (s.withPending q).ps = s.ps := rfl
@[simp] theorem State.withPending_eng (s : State) (q : List Instr) : (s.withPending q).eng = s.eng := rfl
@[simp] theorem State.withPending_rime (s : State) (q : List Instr) : (s.withPending q).rime = s.rime := rfl
@[simp] theorem State.withPending_edit (s : State) (q : List Instr) : (s.withPending q).edit = s.edit := rfl
@[simp] theorem State.withPending_fld (s : State) (q : List Instr) : (s.withPending q).fld = s.fld := rfl
@[simp] theorem State.withPending_panel (s : State) (q : List Instr) : (s.withPending q).panel = s.panel := rfl
@[simp] theorem State.withPending_net (s : State) (q : List Instr) : (s.withPending q).net = s.net := rfl
@[simp] theorem State.withPending_ring (s : State) (q : List Instr) : (s.withPending q).ring = s.ring := rfl
@[simp] theorem State.withPending_pair (s : State) (q : List Instr) : (s.withPending q).pair = s.pair := rfl
@[simp] theorem State.withPending_ldg (s : State) (q : List Instr) : (s.withPending q).ldg = s.ldg := rfl
@[simp] theorem State.withPending_saf (s : State) (q : List Instr) : (s.withPending q).saf = s.saf := rfl
@[simp] theorem State.withPending_sup (s : State) (q : List Instr) : (s.withPending q).sup = s.sup := rfl
@[simp] theorem State.withPending_sec (s : State) (q : List Instr) : (s.withPending q).sec = s.sec := rfl
@[simp] theorem State.withPending_upd (s : State) (q : List Instr) : (s.withPending q).upd = s.upd := rfl
@[simp] theorem State.withPending_host (s : State) (q : List Instr) : (s.withPending q).host = s.host := rfl
@[simp] theorem State.withPending_pending (s : State) (q : List Instr) : (s.withPending q).pending = q := rfl

@[simp] theorem writeResponse_now (w : Work) (st : Nat) (p : Bytes) (d : Bool) (s : State) : (writeResponse w st p d s).now = s.now := by unfold writeResponse; dsimp only; split <;> simp
@[simp] theorem writeResponse_axis (w : Work) (st : Nat) (p : Bytes) (d : Bool) (s : State) : (writeResponse w st p d s).axis = s.axis := by unfold writeResponse; dsimp only; split <;> simp
@[simp] theorem writeResponse_power (w : Work) (st : Nat) (p : Bytes) (d : Bool) (s : State) : (writeResponse w st p d s).power = s.power := by unfold writeResponse; dsimp only; split <;> simp
@[simp] theorem writeResponse_bcr (w : Work) (st : Nat) (p : Bytes) (d : Bool) (s : State) : (writeResponse w st p d s).bcr = s.bcr := by unfold writeResponse; dsimp only; split <;> simp
@[simp] theorem writeResponse_clk (w : Work) (st : Nat) (p : Bytes) (d : Bool) (s : State) : (writeResponse w st p d s).clk = s.clk := by unfold writeResponse; dsimp only; split <;> simp
@[simp] theorem writeResponse_time (w : Work) (st : Nat) (p : Bytes) (d : Bool) (s : State) : (writeResponse w st p d s).time = s.time := by unfold writeResponse; dsimp only; split <;> simp
@[simp] theorem writeResponse_cal (w : Work) (st : Nat) (p : Bytes) (d : Bool) (s : State) : (writeResponse w st p d s).cal = s.cal := by unfold writeResponse; dsimp only; split <;> simp
@[simp] theorem writeResponse_ev (w : Work) (st : Nat) (p : Bytes) (d : Bool) (s : State) : (writeResponse w st p d s).ev = s.ev := by unfold writeResponse; dsimp only; split <;> simp
@[simp] theorem writeResponse_img (w : Work) (st : Nat) (p : Bytes) (d : Bool) (s : State) : (writeResponse w st p d s).img = s.img := by unfold writeResponse; dsimp only; split <;> simp
@[simp] theorem writeResponse_scan (w : Work) (st : Nat) (p : Bytes) (d : Bool) (s : State) : (writeResponse w st p d s).scan = s.scan := by unfold writeResponse; dsimp only; split <;> simp
@[simp] theorem writeResponse_ps (w : Work) (st : Nat) (p : Bytes) (d : Bool) (s : State) : (writeResponse w st p d s).ps = s.ps := by unfold writeResponse; dsimp only; split <;> simp
@[simp] theorem writeResponse_eng (w : Work) (st : Nat) (p : Bytes) (d : Bool) (s : State) : (writeResponse w st p d s).eng = s.eng := by unfold writeResponse; dsimp only; split <;> simp
@[simp] theorem writeResponse_rime (w : Work) (st : Nat) (p : Bytes) (d : Bool) (s : State) : (writeResponse w st p d s).rime = s.rime := by unfold writeResponse; dsimp only; split <;> simp
@[simp] theorem writeResponse_edit (w : Work) (st : Nat) (p : Bytes) (d : Bool) (s : State) : (writeResponse w st p d s).edit = s.edit := by unfold writeResponse; dsimp only; split <;> simp
@[simp] theorem writeResponse_fld (w : Work) (st : Nat) (p : Bytes) (d : Bool) (s : State) : (writeResponse w st p d s).fld = s.fld := by unfold writeResponse; dsimp only; split <;> simp
@[simp] theorem writeResponse_panel (w : Work) (st : Nat) (p : Bytes) (d : Bool) (s : State) : (writeResponse w st p d s).panel = s.panel := by unfold writeResponse; dsimp only; split <;> simp
@[simp] theorem writeResponse_net (w : Work) (st : Nat) (p : Bytes) (d : Bool) (s : State) : (writeResponse w st p d s).net = s.net := by unfold writeResponse; dsimp only; split <;> simp
@[simp] theorem writeResponse_ring (w : Work) (st : Nat) (p : Bytes) (d : Bool) (s : State) : (writeResponse w st p d s).ring = s.ring := by unfold writeResponse; dsimp only; split <;> simp
@[simp] theorem writeResponse_pair (w : Work) (st : Nat) (p : Bytes) (d : Bool) (s : State) : (writeResponse w st p d s).pair = s.pair := by unfold writeResponse; dsimp only; split <;> simp
@[simp] theorem writeResponse_ldg (w : Work) (st : Nat) (p : Bytes) (d : Bool) (s : State) : (writeResponse w st p d s).ldg = s.ldg := by unfold writeResponse; dsimp only; split <;> simp
@[simp] theorem writeResponse_saf (w : Work) (st : Nat) (p : Bytes) (d : Bool) (s : State) : (writeResponse w st p d s).saf = s.saf := by unfold writeResponse; dsimp only; split <;> simp
@[simp] theorem writeResponse_sup (w : Work) (st : Nat) (p : Bytes) (d : Bool) (s : State) : (writeResponse w st p d s).sup = s.sup := by unfold writeResponse; dsimp only; split <;> simp
@[simp] theorem writeResponse_sec (w : Work) (st : Nat) (p : Bytes) (d : Bool) (s : State) : (writeResponse w st p d s).sec = s.sec := by unfold writeResponse; dsimp only; split <;> simp
@[simp] theorem writeResponse_upd (w : Work) (st : Nat) (p : Bytes) (d : Bool) (s : State) : (writeResponse w st p d s).upd = s.upd := by unfold writeResponse; dsimp only; split <;> simp
@[simp] theorem writeResponse_pending (w : Work) (st : Nat) (p : Bytes) (d : Bool) (s : State) : (writeResponse w st p d s).pending = s.pending := by unfold writeResponse; dsimp only; split <;> simp

@[simp] theorem pairSend_now (r : PairTx) (s : State) : (pairSend r s).now = s.now := by unfold pairSend; split <;> rfl
@[simp] theorem pairSend_axis (r : PairTx) (s : State) : (pairSend r s).axis = s.axis := by unfold pairSend; split <;> rfl
@[simp] theorem pairSend_power (r : PairTx) (s : State) : (pairSend r s).power = s.power := by unfold pairSend; split <;> rfl
@[simp] theorem pairSend_bcr (r : PairTx) (s : State) : (pairSend r s).bcr = s.bcr := by unfold pairSend; split <;> rfl
@[simp] theorem pairSend_clk (r : PairTx) (s : State) : (pairSend r s).clk = s.clk := by unfold pairSend; split <;> rfl
@[simp] theorem pairSend_time (r : PairTx) (s : State) : (pairSend r s).time = s.time := by unfold pairSend; split <;> rfl
@[simp] theorem pairSend_cal (r : PairTx) (s : State) : (pairSend r s).cal = s.cal := by unfold pairSend; split <;> rfl
@[simp] theorem pairSend_ev (r : PairTx) (s : State) : (pairSend r s).ev = s.ev := by unfold pairSend; split <;> rfl
@[simp] theorem pairSend_img (r : PairTx) (s : State) : (pairSend r s).img = s.img := by unfold pairSend; split <;> rfl
@[simp] theorem pairSend_scan (r : PairTx) (s : State) : (pairSend r s).scan = s.scan := by unfold pairSend; split <;> rfl
@[simp] theorem pairSend_ps (r : PairTx) (s : State) : (pairSend r s).ps = s.ps := by unfold pairSend; split <;> rfl
@[simp] theorem pairSend_eng (r : PairTx) (s : State) : (pairSend r s).eng = s.eng := by unfold pairSend; split <;> rfl
@[simp] theorem pairSend_rime (r : PairTx) (s : State) : (pairSend r s).rime = s.rime := by unfold pairSend; split <;> rfl
@[simp] theorem pairSend_edit (r : PairTx) (s : State) : (pairSend r s).edit = s.edit := by unfold pairSend; split <;> rfl
@[simp] theorem pairSend_fld (r : PairTx) (s : State) : (pairSend r s).fld = s.fld := by unfold pairSend; split <;> rfl
@[simp] theorem pairSend_panel (r : PairTx) (s : State) : (pairSend r s).panel = s.panel := by unfold pairSend; split <;> rfl
@[simp] theorem pairSend_net (r : PairTx) (s : State) : (pairSend r s).net = s.net := by unfold pairSend; split <;> rfl
@[simp] theorem pairSend_ring (r : PairTx) (s : State) : (pairSend r s).ring = s.ring := by unfold pairSend; split <;> rfl
@[simp] theorem pairSend_ldg (r : PairTx) (s : State) : (pairSend r s).ldg = s.ldg := by unfold pairSend; split <;> rfl
@[simp] theorem pairSend_saf (r : PairTx) (s : State) : (pairSend r s).saf = s.saf := by unfold pairSend; split <;> rfl
@[simp] theorem pairSend_sup (r : PairTx) (s : State) : (pairSend r s).sup = s.sup := by unfold pairSend; split <;> rfl
@[simp] theorem pairSend_sec (r : PairTx) (s : State) : (pairSend r s).sec = s.sec := by unfold pairSend; split <;> rfl
@[simp] theorem pairSend_upd (r : PairTx) (s : State) : (pairSend r s).upd = s.upd := by unfold pairSend; split <;> rfl
@[simp] theorem pairSend_host (r : PairTx) (s : State) : (pairSend r s).host = s.host := by unfold pairSend; split <;> rfl
@[simp] theorem pairSend_pending (r : PairTx) (s : State) : (pairSend r s).pending = s.pending := by unfold pairSend; split <;> rfl

end Sys2Proof.Machine
end

