-- ==== Sys2Proof/Laws/Advance.lean ====
section
/-! SUPPORT. What does not depend on the instant: time that passes leaves every reading but the clocks' own as it was. -/

namespace Sys2Proof.Machine

/-- Time that passes changes six fields. -/
theorem advance_eq (t : Nat) (s : State) : advance t s = { s with
    axis := (advance t s).axis, now := (advance t s).now, time.mono := (advance t s).time.mono
    time.tai := (advance t s).time.tai, time.slew := (advance t s).time.slew, time.frac := (advance t s).time.frac } := by
  unfold advance; dsimp only; split <;> rfl

@[simp] theorem advance_time_running (t : Nat) (s : State) : (advance t s).time.running = s.time.running := by rw [advance_eq]
@[simp] theorem advance_time_taiLoaded (t : Nat) (s : State) : (advance t s).time.taiLoaded = s.time.taiLoaded := by rw [advance_eq]
@[simp] theorem advance_time_timeLost (t : Nat) (s : State) : (advance t s).time.timeLost = s.time.timeLost := by rw [advance_eq]
@[simp] theorem advance_time_src (t : Nat) (s : State) : (advance t s).time.src = s.time.src := by rw [advance_eq]
@[simp] theorem advance_time_active (t : Nat) (s : State) : (advance t s).time.active = s.time.active := by rw [advance_eq]
@[simp] theorem advance_time_state (t : Nat) (s : State) : (advance t s).time.state = s.time.state := by rw [advance_eq]
@[simp] theorem advance_time_lostAt (t : Nat) (s : State) : (advance t s).time.lostAt = s.time.lostAt := by rw [advance_eq]
@[simp] theorem advance_time_qualityBefore (t : Nat) (s : State) : (advance t s).time.qualityBefore = s.time.qualityBefore := by rw [advance_eq]
@[simp] theorem advance_time_setAt (t : Nat) (s : State) : (advance t s).time.setAt = s.time.setAt := by rw [advance_eq]
@[simp] theorem advance_time_offset (t : Nat) (s : State) : (advance t s).time.offset = s.time.offset := by rw [advance_eq]
@[simp] theorem advance_time_freqPpb (t : Nat) (s : State) : (advance t s).time.freqPpb = s.time.freqPpb := by rw [advance_eq]
@[simp] theorem advance_time_masters (t : Nat) (s : State) : (advance t s).time.masters = s.time.masters := by rw [advance_eq]
@[simp] theorem advance_time_altOffset (t : Nat) (s : State) : (advance t s).time.altOffset = s.time.altOffset := by rw [advance_eq]
@[simp] theorem advance_time_irigLocal (t : Nat) (s : State) : (advance t s).time.irigLocal = s.time.irigLocal := by rw [advance_eq]
@[simp] theorem advance_time_irigQuality (t : Nat) (s : State) : (advance t s).time.irigQuality = s.time.irigQuality := by rw [advance_eq]
@[simp] theorem advance_time_heldAtEntry (t : Nat) (s : State) : (advance t s).time.heldAtEntry = s.time.heldAtEntry := by rw [advance_eq]
@[simp] theorem advance_time_gm (t : Nat) (s : State) : (advance t s).time.gm = s.time.gm := by rw [advance_eq]
@[simp] theorem advance_time_ptpUtc (t : Nat) (s : State) : (advance t s).time.ptpUtc = s.time.ptpUtc := by rw [advance_eq]
@[simp] theorem advance_time_leap61 (t : Nat) (s : State) : (advance t s).time.leap61 = s.time.leap61 := by rw [advance_eq]
@[simp] theorem advance_time_leap59 (t : Nat) (s : State) : (advance t s).time.leap59 = s.time.leap59 := by rw [advance_eq]
@[simp] theorem advance_time_irigLeap (t : Nat) (s : State) : (advance t s).time.irigLeap = s.time.irigLeap := by rw [advance_eq]
@[simp] theorem advance_time_steps (t : Nat) (s : State) : (advance t s).time.steps = s.time.steps := by rw [advance_eq]
@[simp] theorem advance_time_lastStep (t : Nat) (s : State) : (advance t s).time.lastStep = s.time.lastStep := by rw [advance_eq]
@[simp] theorem advance_time_list (t : Nat) (s : State) : (advance t s).time.list = s.time.list := by rw [advance_eq]
@[simp] theorem advance_time_ptpProfile (t : Nat) (s : State) : (advance t s).time.ptpProfile = s.time.ptpProfile := by rw [advance_eq]
@[simp] theorem advance_time_ptpDomain (t : Nat) (s : State) : (advance t s).time.ptpDomain = s.time.ptpDomain := by rw [advance_eq]
@[simp] theorem advance_time_holdoverS (t : Nat) (s : State) : (advance t s).time.holdoverS = s.time.holdoverS := by rw [advance_eq]
@[simp] theorem advance_time_irigDelay (t : Nat) (s : State) : (advance t s).time.irigDelay = s.time.irigDelay := by rw [advance_eq]
@[simp] theorem advance_time_ppsDelay (t : Nat) (s : State) : (advance t s).time.ppsDelay = s.time.ppsDelay := by rw [advance_eq]
@[simp] theorem advance_time_irigFlags (t : Nat) (s : State) : (advance t s).time.irigFlags = s.time.irigFlags := by rw [advance_eq]
@[simp] theorem advance_time_ppsOutMs (t : Nat) (s : State) : (advance t s).time.ppsOutMs = s.time.ppsOutMs := by rw [advance_eq]
@[simp] theorem advance_time_stepUs (t : Nat) (s : State) : (advance t s).time.stepUs = s.time.stepUs := by rw [advance_eq]
@[simp] theorem advance_time_portMask (t : Nat) (s : State) : (advance t s).time.portMask = s.time.portMask := by rw [advance_eq]
@[simp] theorem advance_time_ppsHighUntil (t : Nat) (s : State) : (advance t s).time.ppsHighUntil = s.time.ppsHighUntil := by rw [advance_eq]
@[simp] theorem advance_time_pairOffset (t : Nat) (s : State) : (advance t s).time.pairOffset = s.time.pairOffset := by rw [advance_eq]

@[simp] theorem lostMask_advance (t : Nat) (s : State) : lostMask (advance t s) = lostMask s := by rw [advance_eq t s]; rfl
@[simp] theorem pairInStep_advance (t : Nat) (s : State) : pairInStep (advance t s) = pairInStep s := by rw [advance_eq t s]; rfl
@[simp] theorem imgWord_advance (t : Nat) (s : State) (a : Nat) :
    imgWord (advance t s) a = imgWord s a := by rw [advance_eq t s]; rfl
@[simp] theorem regionCount_advance (t : Nat) (s : State) :
    regionCount (advance t s) = regionCount s := by rw [advance_eq t s]; rfl
@[simp] theorem placeOf_advance (t : Nat) (s : State) (region addr : Nat) :
    placeOf (advance t s) region addr = placeOf s region addr := by rw [advance_eq t s]; rfl
@[simp] theorem retentiveInst_advance (t : Nat) (s : State) :
    retentiveInst (advance t s) = retentiveInst s := by rw [advance_eq t s]; rfl
@[simp] theorem retentiveMx_advance (t : Nat) (s : State) :
    retentiveMx (advance t s) = retentiveMx s := by rw [advance_eq t s]; rfl
@[simp] theorem dueEpochs_advance (t : Nat) (s : State) (n since upto : Nat) :
    dueEpochs (advance t s) n since upto = dueEpochs s n since upto := by rw [advance_eq t s]; rfl
@[simp] theorem settleTask_advance (t : Nat) (s : State) (h : Home) (n : Nat) :
    settleTask (advance t s) h n = settleTask s h n := by rw [advance_eq t s]; rfl
@[simp] theorem startsFresh_advance (t : Nat) (s : State) (a : Nat) :
    startsFresh (advance t s) a = startsFresh s a := by rw [advance_eq t s]; rfl
@[simp] theorem firstScan_advance (t : Nat) (k : StartKind) (s : State) :
    firstScan k (advance t s) = firstScan k s := by rw [advance_eq t s]; rfl
@[simp] theorem oldCycles_advance (t : Nat) (e : Epoch) (s : State) :
    oldCycles e (advance t s) = oldCycles e s := by rw [advance_eq t s]; rfl
@[simp] theorem changedSlots_advance (t : Nat) (e : Epoch) (s : State) :
    changedSlots e (advance t s) = changedSlots e s := by rw [advance_eq t s]; rfl
@[simp] theorem taskCfgReply_advance (t : Nat) (s : State) (n : Nat) :
    taskCfgReply (advance t s) n = taskCfgReply s n := by rw [advance_eq t s]; rfl
@[simp] theorem archiveOf_advance (t : Nat) (s : State) (bank : Nat) :
    archiveOf (advance t s) bank = archiveOf s bank := by rw [advance_eq t s]; rfl
@[simp] theorem partnerTarget_advance (t : Nat) (s : State) :
    partnerTarget (advance t s) = partnerTarget s := by rw [advance_eq t s]; rfl
@[simp] theorem swapsAtS_advance (t : Nat) (s : State) : swapsAtS (advance t s) = swapsAtS s := by rw [advance_eq t s]; rfl
@[simp] theorem activeClass_advance (t : Nat) (s : State) (e : Nat) :
    activeClass (advance t s) e = activeClass s e := by rw [advance_eq t s]; rfl
@[simp] theorem leadEngine_advance (t : Nat) (s : State) (e : Nat) :
    leadEngine (advance t s) e = leadEngine s e := by rw [advance_eq t s]; rfl
@[simp] theorem mayIssue_advance (t : Nat) (s : State) (e : Nat) :
    mayIssue (advance t s) e = mayIssue s e := by rw [advance_eq t s]; rfl
@[simp] theorem tableOffset_advance (t : Nat) (s : State) (day : Nat) :
    tableOffset (advance t s) day = tableOffset s day := by rw [advance_eq t s]; rfl
@[simp] theorem ptpLocked_advance (t : Nat) (s : State) : ptpLocked (advance t s) = ptpLocked s := by rw [advance_eq t s]; rfl
@[simp] theorem utcOffset_advance (t : Nat) (s : State) (day : Nat) :
    utcOffset (advance t s) day = utcOffset s day := by rw [advance_eq t s]; rfl
@[simp] theorem calDay_advance (t : Nat) (s : State) : calDay (advance t s) = calDay s := by rw [advance_eq t s]; rfl
@[simp] theorem tableLeap_advance (t : Nat) (s : State) (day : Nat) :
    tableLeap (advance t s) day = tableLeap s day := by rw [advance_eq t s]; rfl
@[simp] theorem irigAnnounces_advance (t : Nat) (s : State) :
    irigAnnounces (advance t s) = irigAnnounces s := by rw [advance_eq t s]; rfl
@[simp] theorem leapToday_advance (t : Nat) (s : State) : leapToday (advance t s) = leapToday s := by rw [advance_eq t s]; rfl
@[simp] theorem offsetOn_advance (t : Nat) (s : State) (day : Nat) :
    offsetOn (advance t s) day = offsetOn s day := by rw [advance_eq t s]; rfl
@[simp] theorem slowHz_advance (t : Nat) (s : State) : slowHz (advance t s) = slowHz s := by rw [advance_eq t s]; rfl
@[simp] theorem dayOfTai_advance (t : Nat) (s : State) (n : Int) :
    dayOfTai (advance t s) n = dayOfTai s n := by rw [advance_eq t s]; rfl
@[simp] theorem leapDisagrees_advance (t : Nat) (s : State) :
    leapDisagrees (advance t s) = leapDisagrees s := by rw [advance_eq t s]; rfl
@[simp] theorem maxSecond_advance (t : Nat) (s : State) (y m d h mi : Nat) :
    maxSecond (advance t s) y m d h mi = maxSecond s y m d h mi := by rw [advance_eq t s]; rfl
@[simp] theorem clkReady_advance (t : Nat) (s : State) (n : Nat) :
    clkReady (advance t s) n = clkReady s n := by rw [advance_eq t s]; rfl
@[simp] theorem linkClass_advance (t : Nat) (s : State) : linkClass (advance t s) = linkClass s := by rw [advance_eq t s]; rfl
@[simp] theorem refReady_advance (t : Nat) (s : State) : refReady (advance t s) = refReady s := by rw [advance_eq t s]; rfl
@[simp] theorem worstBase_advance (t : Nat) (s : State) (profile : Nat) :
    worstBase (advance t s) profile = worstBase s profile := by rw [advance_eq t s]; rfl
@[simp] theorem profileReply_advance (t : Nat) (s : State) (p : Nat) :
    profileReply (advance t s) p = profileReply s p := by rw [advance_eq t s]; rfl
@[simp] theorem timeSrc_advance (t : Nat) (s : State) (k : Nat) :
    timeSrc (advance t s) k = timeSrc s k := by rw [advance_eq t s]; rfl
@[simp] theorem mayMeasure_advance (t : Nat) (s : State) (k : Nat) :
    mayMeasure (advance t s) k = mayMeasure s k := by rw [advance_eq t s]; rfl
@[simp] theorem ptpDomain_advance (t : Nat) (s : State) : ptpDomain (advance t s) = ptpDomain s := by rw [advance_eq t s]; rfl
@[simp] theorem irigYear_advance (t : Nat) (use : Option Irig1344) (m : IrigMsg) (s : State) :
    irigYear use m (advance t s) = irigYear use m s := by rw [advance_eq t s]; rfl
@[simp] theorem irigTai_advance (t : Nat) (use : Option Irig1344) (m : IrigMsg) (s : State) :
    irigTai use m (advance t s) = irigTai use m s := by rw [advance_eq t s]; rfl
@[simp] theorem keySlot_advance (t : Nat) (s : State) (n : Nat) :
    keySlot (advance t s) n = keySlot s n := by rw [advance_eq t s]; rfl
@[simp] theorem ownerOk_advance (t : Nat) (s : State) (h : Bytes) :
    ownerOk (advance t s) h = ownerOk s h := by rw [advance_eq t s]; rfl
@[simp] theorem ownerSuits_advance (t : Nat) (s : State) (h : Bytes) :
    ownerSuits (advance t s) h = ownerSuits s h := by rw [advance_eq t s]; rfl
@[simp] theorem headerOk_advance (t : Nat) (kind total : Nat) (h : Bytes) (s : State) :
    headerOk kind total h (advance t s) = headerOk kind total h s := by rw [advance_eq t s]; rfl
@[simp] theorem captures_advance (t : Nat) (s : State) (a : Nat) :
    captures (advance t s) a = captures s a := by rw [advance_eq t s]; rfl
@[simp] theorem maySnapshot_advance (t : Nat) (n : Nat) (s : State) :
    maySnapshot n (advance t s) = maySnapshot n s := by rw [advance_eq t s]; rfl
@[simp] theorem onBank_advance (t : Nat) (n : Nat) (s : State) :
    onBank n (advance t s) = onBank n s := by rw [advance_eq t s]; rfl
@[simp] theorem openBarrier_advance (t : Nat) (n : Nat) (d : TaskDecl) (s : State) :
    openBarrier n d (advance t s) = openBarrier n d s := by rw [advance_eq t s]; rfl
@[simp] theorem cycleDone_advance (t : Nat) (n : Nat) (d : TaskDecl) (s : State) :
    cycleDone n d (advance t s) = cycleDone n d s := by rw [advance_eq t s]; rfl
@[simp] theorem changedWords_advance (t : Nat) (s : State) (buf : Tbl (Option Word)) :
    changedWords (advance t s) buf = changedWords s buf := by rw [advance_eq t s]; rfl
@[simp] theorem progFor_advance (t : Nat) (s : State) (n : Nat) :
    progFor (advance t s) n = progFor s n := by rw [advance_eq t s]; rfl
@[simp] theorem homeKey_advance (t : Nat) (s : State) (p : Prog) (k : Nat) :
    homeKey (advance t s) p k = homeKey s p k := by rw [advance_eq t s]; rfl
@[simp] theorem retentiveWords_advance (t : Nat) (s : State) (n : Nat) (words : List Nat) :
    retentiveWords (advance t s) n words = retentiveWords s n words := by rw [advance_eq t s]; rfl
@[simp] theorem outCrc_advance (t : Nat) (s : State) (words : List Nat) (ret : List (Nat × Word)) :
    outCrc (advance t s) words ret = outCrc s words ret := by rw [advance_eq t s]; rfl
@[simp] theorem movesOf_advance (t : Nat) (s : State) (n : Nat) :
    movesOf (advance t s) n = movesOf s n := by rw [advance_eq t s]; rfl
@[simp] theorem usedCode_advance (t : Nat) (s : State) (l : Nat) :
    usedCode (advance t s) l = usedCode s l := by rw [advance_eq t s]; rfl
@[simp] theorem shadowFree_advance (t : Nat) (s : State) (l : Nat) :
    shadowFree (advance t s) l = shadowFree s l := by rw [advance_eq t s]; rfl
@[simp] theorem fitsShadow_advance (t : Nat) (s : State) (d : Bytes) :
    fitsShadow (advance t s) d = fitsShadow s d := by rw [advance_eq t s]; rfl
@[simp] theorem profileWaits_advance (t : Nat) (s : State) :
    profileWaits (advance t s) = profileWaits s := by rw [advance_eq t s]; rfl
@[simp] theorem staged_advance (t : Nat) (s : State) (id : Nat) :
    staged (advance t s) id = staged s id := by rw [advance_eq t s]; rfl
@[simp] theorem stagedBytes_advance (t : Nat) (s : State) :
    stagedBytes (advance t s) = stagedBytes s := by rw [advance_eq t s]; rfl
@[simp] theorem stagedEpoch_advance (t : Nat) (s : State) :
    stagedEpoch (advance t s) = stagedEpoch s := by rw [advance_eq t s]; rfl
@[simp] theorem epochRule_advance (t : Nat) (s : State) (bytes : Bytes) (e : Epoch) :
    epochRule (advance t s) bytes e = epochRule s bytes e := by rw [advance_eq t s]; rfl
@[simp] theorem cycleLimit_advance (t : Nat) (s : State) (d : TaskDecl) :
    cycleLimit (advance t s) d = cycleLimit s d := by rw [advance_eq t s]; rfl
@[simp] theorem migrationNs_advance (t : Nat) (s : State) (e : Epoch) (n : Nat) :
    migrationNs (advance t s) e n = migrationNs s e n := by rw [advance_eq t s]; rfl
@[simp] theorem partOf_advance (t : Nat) (s : State) (p : Prog) :
    partOf (advance t s) p = partOf s p := by rw [advance_eq t s]; rfl
@[simp] theorem steadyFits_advance (t : Nat) (s : State) (e : Epoch) :
    steadyFits (advance t s) e = steadyFits s e := by rw [advance_eq t s]; rfl
@[simp] theorem firstFits_advance (t : Nat) (s : State) (e : Epoch) :
    firstFits (advance t s) e = firstFits s e := by rw [advance_eq t s]; rfl
@[simp] theorem descOk_advance (t : Nat) (s : State) : descOk (advance t s) = descOk s := by rw [advance_eq t s]; rfl
@[simp] theorem commitCheck_advance (t : Nat) (s : State) (e : Epoch) :
    commitCheck (advance t s) e = commitCheck s e := by rw [advance_eq t s]; rfl
@[simp] theorem commitAnswer_advance (t : Nat) (s : State) (id check rule n : Nat) :
    commitAnswer (advance t s) id check rule n = commitAnswer s id check rule n := by rw [advance_eq t s]; rfl
@[simp] theorem dieLive_advance (t : Nat) (s : State) (ch : Nat) :
    dieLive (advance t s) ch = dieLive s ch := by rw [advance_eq t s]; rfl
@[simp] theorem dieFirmware_advance (t : Nat) (s : State) (ch : Nat) :
    dieFirmware (advance t s) ch = dieFirmware s ch := by rw [advance_eq t s]; rfl
@[simp] theorem driverOn_advance (t : Nat) (s : State) (ch : Nat) :
    driverOn (advance t s) ch = driverOn s ch := by rw [advance_eq t s]; rfl
@[simp] theorem ixValue_advance (t : Nat) (s : State) (ch : Nat) :
    ixValue (advance t s) ch = ixValue s ch := by rw [advance_eq t s]; rfl
@[simp] theorem driving_advance (t : Nat) (s : State) (ch : Nat) :
    driving (advance t s) ch = driving s ch := by rw [advance_eq t s]; rfl
@[simp] theorem highest_advance (t : Nat) (base : Nat) (ks : List Nat) (s : State) :
    highest base ks (advance t s) = highest base ks s := by rw [advance_eq t s]; rfl
@[simp] theorem ownerOf_advance (t : Nat) (s : State) (ch : Nat) :
    ownerOf (advance t s) ch = ownerOf s ch := by rw [advance_eq t s]; rfl
@[simp] theorem safetyChan_advance (t : Nat) (s : State) (ch : Nat) :
    safetyChan (advance t s) ch = safetyChan s ch := by rw [advance_eq t s]; rfl
@[simp] theorem baseMaxUs_advance (t : Nat) (s : State) : baseMaxUs (advance t s) = baseMaxUs s := by rw [advance_eq t s]; rfl
@[simp] theorem safFloor_advance (t : Nat) (s : State) (ch : Nat) :
    safFloor (advance t s) ch = safFloor s ch := by rw [advance_eq t s]; rfl
@[simp] theorem clampCfg_advance (t : Nat) (s : State) (ch : Nat) (c : ChanCfg) :
    clampCfg (advance t s) ch c = clampCfg s ch c := by rw [advance_eq t s]; rfl
@[simp] theorem contCount_advance (t : Nat) (s : State) (n : Nat) :
    contCount (advance t s) n = contCount s n := by rw [advance_eq t s]; rfl
@[simp] theorem thriceRevoked_advance (t : Nat) (res : LeaseRes) (s : State) :
    thriceRevoked res (advance t s) = thriceRevoked res s := by rw [advance_eq t s]; rfl
@[simp] theorem portsUp_advance (t : Nat) (s : State) : portsUp (advance t s) = portsUp s := by rw [advance_eq t s]; rfl
@[simp] theorem deferredRunning_advance (t : Nat) (s : State) (mb : Nat) :
    deferredRunning (advance t s) mb = deferredRunning s mb := by rw [advance_eq t s]; rfl
@[simp] theorem waitingResult_advance (t : Nat) (s : State) (mb : Nat) :
    waitingResult (advance t s) mb = waitingResult s mb := by rw [advance_eq t s]; rfl
@[simp] theorem sessionOk_advance (t : Nat) (s : State) (w : Work) :
    sessionOk (advance t s) w = sessionOk s w := by rw [advance_eq t s]; rfl
@[simp] theorem sessionRole_advance (t : Nat) (s : State) (w : Work) :
    sessionRole (advance t s) w = sessionRole s w := by rw [advance_eq t s]; rfl
@[simp] theorem portOk_advance (t : Nat) (s : State) (w : Work) :
    portOk (advance t s) w = portOk s w := by rw [advance_eq t s]; rfl
@[simp] theorem stateOk_advance (t : Nat) (s : State) (w : Work) :
    stateOk (advance t s) w = stateOk s w := by rw [advance_eq t s]; rfl
@[simp] theorem admission_advance (t : Nat) (s : State) (w : Work) :
    admission (advance t s) w = admission s w := by rw [advance_eq t s]; rfl
@[simp] theorem inWork_advance (t : Nat) (s : State) : inWork (advance t s) = inWork s := by rw [advance_eq t s]; rfl
@[simp] theorem inSlumber_advance (t : Nat) (s : State) : inSlumber (advance t s) = inSlumber s := by rw [advance_eq t s]; rfl
@[simp] theorem enteringSlumber_advance (t : Nat) (s : State) :
    enteringSlumber (advance t s) = enteringSlumber s := by rw [advance_eq t s]; rfl
@[simp] theorem ringFull_advance (t : Nat) (s : State) : ringFull (advance t s) = ringFull s := by rw [advance_eq t s]; rfl
@[simp] theorem mbWord_advance (t : Nat) (s : State) (n off : Nat) :
    mbWord (advance t s) n off = mbWord s n off := by rw [advance_eq t s]; rfl
@[simp] theorem rule335_advance (t : Nat) (s : State) (p : Prog) :
    rule335 (advance t s) p = rule335 s p := by rw [advance_eq t s]; rfl
@[simp] theorem rule393_advance (t : Nat) (s : State) (p : Prog) :
    rule393 (advance t s) p = rule393 s p := by rw [advance_eq t s]; rfl
@[simp] theorem rule484_advance (t : Nat) (s : State) (p : Prog) :
    rule484 (advance t s) p = rule484 s p := by rw [advance_eq t s]; rfl
@[simp] theorem imageRules_advance (t : Nat) (s : State) (p : Prog) :
    imageRules (advance t s) p = imageRules s p := by rw [advance_eq t s]; rfl
@[simp] theorem brokenRule_advance (t : Nat) (s : State) (p : Prog) :
    brokenRule (advance t s) p = brokenRule s p := by rw [advance_eq t s]; rfl
@[simp] theorem classOf_advance (t : Nat) (s : State) (k : Nat) :
    classOf (advance t s) k = classOf s k := by rw [advance_eq t s]; rfl
@[simp] theorem mramRec_advance (t : Nat) (s : State) (k : Nat) :
    mramRec (advance t s) k = mramRec s k := by rw [advance_eq t s]; rfl
@[simp] theorem hotRec_advance (t : Nat) (s : State) (k : Nat) :
    hotRec (advance t s) k = hotRec s k := by rw [advance_eq t s]; rfl
@[simp] theorem firnRec_advance (t : Nat) (s : State) (k : Nat) :
    firnRec (advance t s) k = firnRec s k := by rw [advance_eq t s]; rfl
@[simp] theorem rawRec_advance (t : Nat) (s : State) (k : Nat) :
    rawRec (advance t s) k = rawRec s k := by rw [advance_eq t s]; rfl
@[simp] theorem curRec_advance (t : Nat) (s : State) (k : Nat) :
    curRec (advance t s) k = curRec s k := by rw [advance_eq t s]; rfl
@[simp] theorem seqFor_advance (t : Nat) (s : State) (k : Nat) :
    seqFor (advance t s) k = seqFor s k := by rw [advance_eq t s]; rfl
@[simp] theorem wstampNow_advance (t : Nat) (s : State) : wstampNow (advance t s) = wstampNow s := by rw [advance_eq t s]; rfl
@[simp] theorem hotBytes_advance (t : Nat) (s : State) : hotBytes (advance t s) = hotBytes s := by rw [advance_eq t s]; rfl
@[simp] theorem poolFree_advance (t : Nat) (s : State) : poolFree (advance t s) = poolFree s := by rw [advance_eq t s]; rfl
@[simp] theorem recData_advance (t : Nat) (s : State) (k : Nat) (r : LdgRec) :
    recData (advance t s) k r = recData s k r := by rw [advance_eq t s]; rfl
@[simp] theorem firnFree_advance (t : Nat) (s : State) : firnFree (advance t s) = firnFree s := by rw [advance_eq t s]; rfl
@[simp] theorem firnLive_advance (t : Nat) (s : State) (b : Nat) :
    firnLive (advance t s) b = firnLive s b := by rw [advance_eq t s]; rfl
@[simp] theorem nextFreeBlock_advance (t : Nat) (s : State) :
    nextFreeBlock (advance t s) = nextFreeBlock s := by rw [advance_eq t s]; rfl
@[simp] theorem canCompact_advance (t : Nat) (s : State) : canCompact (advance t s) = canCompact s := by rw [advance_eq t s]; rfl
@[simp] theorem firnBehind_advance (t : Nat) (s : State) (k : Nat) :
    firnBehind (advance t s) k = firnBehind s k := by rw [advance_eq t s]; rfl
@[simp] theorem ldgKeys_advance (t : Nat) (s : State) : ldgKeys (advance t s) = ldgKeys s := by rw [advance_eq t s]; rfl
@[simp] theorem compactBlock_advance (t : Nat) (s : State) :
    compactBlock (advance t s) = compactBlock s := by rw [advance_eq t s]; rfl
@[simp] theorem committedDump_advance (t : Nat) (s : State) :
    committedDump (advance t s) = committedDump s := by rw [advance_eq t s]; rfl
@[simp] theorem dumpSeq_advance (t : Nat) (s : State) : dumpSeq (advance t s) = dumpSeq s := by rw [advance_eq t s]; rfl
@[simp] theorem hotChanges_advance (t : Nat) (d : Dump) (s : State) :
    hotChanges d (advance t s) = hotChanges d s := by rw [advance_eq t s]; rfl
@[simp] theorem hotAtStart_advance (t : Nat) (s : State) : hotAtStart (advance t s) = hotAtStart s := by rw [advance_eq t s]; rfl
@[simp] theorem applyClass_advance (t : Nat) (s : State) (k : Nat) (counter : Bool) :
    applyClass (advance t s) k counter = applyClass s k counter := by rw [advance_eq t s]; rfl
@[simp] theorem newRec_advance (t : Nat) (s : State) (k : Nat) (counter deleted : Bool) (data : Bytes) :
    newRec (advance t s) k counter deleted data = newRec s k counter deleted data := by rw [advance_eq t s]; rfl
@[simp] theorem fits_advance (t : Nat) (s : State) (k : Nat) (r : LdgRec) :
    fits (advance t s) k r = fits s k r := by rw [advance_eq t s]; rfl
@[simp] theorem ldgEcho_advance (t : Nat) (s : State) (k op applied : Nat) :
    ldgEcho (advance t s) k op applied = ldgEcho s k op applied := by rw [advance_eq t s]; rfl
@[simp] theorem catchupLeft_advance (t : Nat) (s : State) :
    catchupLeft (advance t s) = catchupLeft s := by rw [advance_eq t s]; rfl
@[simp] theorem stagedPages_advance (t : Nat) (s : State) :
    stagedPages (advance t s) = stagedPages s := by rw [advance_eq t s]; rfl
@[simp] theorem heldPages_advance (t : Nat) (s : State) : heldPages (advance t s) = heldPages s := by rw [advance_eq t s]; rfl
@[simp] theorem applyTable_advance (t : Nat) (s : State) (m : Memory) (c : TblPart) :
    applyTable (advance t s) m c = applyTable s m c := by rw [advance_eq t s]; rfl
@[simp] theorem boundary_advance (t : Nat) (s : State) : boundary (advance t s) = boundary s := by rw [advance_eq t s]; rfl
@[simp] theorem spb_advance (t : Nat) (s : State) : spb (advance t s) = spb s := by rw [advance_eq t s]; rfl
@[simp] theorem portLive_advance (t : Nat) (s : State) (p : Nat) :
    portLive (advance t s) p = portLive s p := by rw [advance_eq t s]; rfl
@[simp] theorem boundTo_advance (t : Nat) (s : State) (b : EvBind) :
    boundTo (advance t s) b = boundTo s b := by rw [advance_eq t s]; rfl
@[simp] theorem gooseSubFor_advance (t : Nat) (s : State) (m : GooseMsg) :
    gooseSubFor (advance t s) m = gooseSubFor s m := by rw [advance_eq t s]; rfl
@[simp] theorem pubValues_advance (t : Nat) (s : State) (k : Nat) :
    pubValues (advance t s) k = pubValues s k := by rw [advance_eq t s]; rfl
@[simp] theorem pubConns_advance (t : Nat) (s : State) (k : Nat) :
    pubConns (advance t s) k = pubConns s k := by rw [advance_eq t s]; rfl
@[simp] theorem pubOctets_advance (t : Nat) (s : State) (k : Nat) :
    pubOctets (advance t s) k = pubOctets s k := by rw [advance_eq t s]; rfl
@[simp] theorem sendPorts_advance (t : Nat) (s : State) : sendPorts (advance t s) = sendPorts s := by rw [advance_eq t s]; rfl
@[simp] theorem svFor_advance (t : Nat) (s : State) (m : SvMsg) : svFor (advance t s) m = svFor s m := by rw [advance_eq t s]; rfl
@[simp] theorem svBound_advance (t : Nat) (s : State) (n : Nat) :
    svBound (advance t s) n = svBound s n := by rw [advance_eq t s]; rfl
@[simp] theorem svResults_advance (t : Nat) (n : Nat) (buf : Tbl (Option Word)) (s : State) :
    svResults n buf (advance t s) = svResults n buf s := by rw [advance_eq t s]; rfl
@[simp] theorem ringsLive_advance (t : Nat) (s : State) : ringsLive (advance t s) = ringsLive s := by rw [advance_eq t s]; rfl
@[simp] theorem svSuits_advance (t : Nat) (s : State) (k : Nat) (g : SvStream) :
    svSuits (advance t s) k g = svSuits s k g := by rw [advance_eq t s]; rfl
@[simp] theorem linkByte_advance (t : Nat) (s : State) : linkByte (advance t s) = linkByte s := by rw [advance_eq t s]; rfl
@[simp] theorem State.task_advance (t : Nat) (s : State) (n : Nat) :
    State.task (advance t s) n = State.task s n := by rw [advance_eq t s]; rfl
@[simp] theorem State.chan_advance (t : Nat) (s : State) (n : Nat) :
    State.chan (advance t s) n = State.chan s n := by rw [advance_eq t s]; rfl
@[simp] theorem State.die_advance (t : Nat) (s : State) (n : Nat) :
    State.die (advance t s) n = State.die s n := by rw [advance_eq t s]; rfl
@[simp] theorem State.mbox_advance (t : Nat) (s : State) (n : Nat) :
    State.mbox (advance t s) n = State.mbox s n := by rw [advance_eq t s]; rfl
@[simp] theorem State.region_advance (t : Nat) (s : State) (n : Nat) :
    State.region (advance t s) n = State.region s n := by rw [advance_eq t s]; rfl
@[simp] theorem State.bank_advance (t : Nat) (s : State) (e c : Nat) :
    State.bank (advance t s) e c = State.bank s e c := by rw [advance_eq t s]; rfl
@[simp] theorem State.station_advance (t : Nat) (s : State) (n : Nat) :
    State.station (advance t s) n = State.station s n := by rw [advance_eq t s]; rfl
@[simp] theorem crystalFailed_advance (t : Nat) (s : State) :
    crystalFailed (advance t s) = crystalFailed s := by rw [advance_eq t s]; rfl
@[simp] theorem leapKnown_advance (t : Nat) (s : State) : leapKnown (advance t s) = leapKnown s := by rw [advance_eq t s]; rfl
@[simp] theorem inRun_advance (t : Nat) (s : State) : inRun (advance t s) = inRun s := by rw [advance_eq t s]; rfl
@[simp] theorem fullService_advance (t : Nat) (s : State) :
    fullService (advance t s) = fullService s := by rw [advance_eq t s]; rfl
@[simp] theorem serving_advance (t : Nat) (s : State) : serving (advance t s) = serving s := by rw [advance_eq t s]; rfl
@[simp] theorem hostIrqLow_advance (t : Nat) (s : State) : hostIrqLow (advance t s) = hostIrqLow s := by rw [advance_eq t s]; rfl
@[simp] theorem stateBits_advance (t : Nat) (s : State) : stateBits (advance t s) = stateBits s := by rw [advance_eq t s]; rfl
@[simp] theorem claimOf_advance (t : Nat) (s : State) : claimOf (advance t s) = claimOf s := by rw [advance_eq t s]; rfl
@[simp] theorem rimeSends_advance (t : Nat) (s : State) : rimeSends (advance t s) = rimeSends s := by rw [advance_eq t s]; rfl
@[simp] theorem cmdFrame_advance (t : Nat) (src : Fin 3) (claim : Half) (s : State) (ch : Nat) :
    cmdFrame src claim (advance t s) ch = cmdFrame src claim s ch := by rw [advance_eq t s]; rfl
@[simp] theorem imgVal_advance (t : Nat) (s : State) (a : Nat) :
    imgVal (advance t s) a = imgVal s a := by rw [advance_eq t s]; rfl
@[simp] theorem physRegion_advance (t : Nat) (s : State) (l : Nat) :
    physRegion (advance t s) l = physRegion s l := by rw [advance_eq t s]; rfl
@[simp] theorem logRegion_advance (t : Nat) (s : State) (p : Nat) :
    logRegion (advance t s) p = logRegion s p := by rw [advance_eq t s]; rfl
@[simp] theorem regionUp_advance (t : Nat) (s : State) (p : Nat) :
    regionUp (advance t s) p = regionUp s p := by rw [advance_eq t s]; rfl
@[simp] theorem prog_advance (t : Nat) (s : State) : prog (advance t s) = prog s := by rw [advance_eq t s]; rfl
@[simp] theorem partition_advance (t : Nat) (s : State) : partition (advance t s) = partition s := by rw [advance_eq t s]; rfl
@[simp] theorem partitionFor_advance (t : Nat) (s : State) (n : Nat) :
    partitionFor (advance t s) n = partitionFor s n := by rw [advance_eq t s]; rfl
@[simp] theorem taskDecl_advance (t : Nat) (s : State) (n : Nat) :
    taskDecl (advance t s) n = taskDecl s n := by rw [advance_eq t s]; rfl
@[simp] theorem engineKhz_advance (t : Nat) (s : State) : engineKhz (advance t s) = engineKhz s := by rw [advance_eq t s]; rfl
@[simp] theorem findRequest_advance (t : Nat) (mb code : Nat) (s : State) :
    findRequest mb code (advance t s) = findRequest mb code s := by rw [advance_eq t s]; rfl
@[simp] theorem inHoldup_advance (t : Nat) (s : State) : inHoldup (advance t s) = inHoldup s := by rw [advance_eq t s]; rfl
@[simp] theorem isApprentice_advance (t : Nat) (s : State) :
    isApprentice (advance t s) = isApprentice s := by rw [advance_eq t s]; rfl
@[simp] theorem isStation_advance (t : Nat) (s : State) : isStation (advance t s) = isStation s := by rw [advance_eq t s]; rfl
@[simp] theorem isSolo_advance (t : Nat) (s : State) : isSolo (advance t s) = isSolo s := by rw [advance_eq t s]; rfl
@[simp] theorem isKeeper_advance (t : Nat) (s : State) : isKeeper (advance t s) = isKeeper s := by rw [advance_eq t s]; rfl
@[simp] theorem inPair_advance (t : Nat) (s : State) : inPair (advance t s) = inPair s := by rw [advance_eq t s]; rfl
@[simp] theorem pairRuns_advance (t : Nat) (s : State) : pairRuns (advance t s) = pairRuns s := by rw [advance_eq t s]; rfl
@[simp] theorem unheardStations_advance (t : Nat) (s : State) :
    unheardStations (advance t s) = unheardStations s := by rw [advance_eq t s]; rfl
@[simp] theorem deductions_advance (t : Nat) (s : State) : deductions (advance t s) = deductions s := by rw [advance_eq t s]; rfl
@[simp] theorem healthNow_advance (t : Nat) (s : State) : healthNow (advance t s) = healthNow s := by rw [advance_eq t s]; rfl
@[simp] theorem orderHeld_advance (t : Nat) (s : State) : orderHeld (advance t s) = orderHeld s := by rw [advance_eq t s]; rfl
@[simp] theorem orderReversed_advance (t : Nat) (s : State) :
    orderReversed (advance t s) = orderReversed s := by rw [advance_eq t s]; rfl
@[simp] theorem presenceMask_advance (t : Nat) (s : State) :
    presenceMask (advance t s) = presenceMask s := by rw [advance_eq t s]; rfl
@[simp] theorem ownId_advance (t : Nat) (s : State) (code : Nat) (p : Bytes) :
    ownId (advance t s) code p = ownId s code p := by rw [advance_eq t s]; rfl
@[simp] theorem containerOk_advance (t : Nat) (kind : Nat) (h payload : Bytes) (s : State) :
    containerOk kind h payload (advance t s) = containerOk kind h payload s := by rw [advance_eq t s]; rfl
@[simp] theorem pairEcho_advance (t : Nat) (s : State) (opts : Nat) :
    pairEcho (advance t s) opts = pairEcho s opts := by rw [advance_eq t s]; rfl
@[simp] theorem panelKey_advance (t : Nat) (s : State) (n : Nat) :
    panelKey (advance t s) n = panelKey s n := by rw [advance_eq t s]; rfl
@[simp] theorem sampled_advance (t : Nat) (s : State) (n : Nat) :
    sampled (advance t s) n = sampled s n := by rw [advance_eq t s]; rfl
@[simp] theorem debounceNs_advance (t : Nat) (s : State) (n : Nat) :
    debounceNs (advance t s) n = debounceNs s n := by rw [advance_eq t s]; rfl
@[simp] theorem sboSlot_advance (t : Nat) (s : State) (i : Nat) :
    sboSlot (advance t s) i = sboSlot s i := by rw [advance_eq t s]; rfl
@[simp] theorem selWindow_advance (t : Nat) (s : State) (i : Nat) :
    selWindow (advance t s) i = selWindow s i := by rw [advance_eq t s]; rfl
@[simp] theorem execWindow_advance (t : Nat) (s : State) (i : Nat) :
    execWindow (advance t s) i = execWindow s i := by rw [advance_eq t s]; rfl
@[simp] theorem selectedBy_advance (t : Nat) (s : State) (ks : List Nat) :
    selectedBy (advance t s) ks = selectedBy s ks := by rw [advance_eq t s]; rfl
@[simp] theorem slotEnd_advance (t : Nat) (s : State) (i : Nat) :
    slotEnd (advance t s) i = slotEnd s i := by rw [advance_eq t s]; rfl
@[simp] theorem pressed_advance (t : Nat) (s : State) (n : Nat) :
    pressed (advance t s) n = pressed s n := by rw [advance_eq t s]; rfl
@[simp] theorem candAt_advance (t : Nat) (s : State) (n : Nat) :
    candAt (advance t s) n = candAt s n := by rw [advance_eq t s]; rfl
@[simp] theorem ledEntry_advance (t : Nat) (s : State) (i : Nat) :
    ledEntry (advance t s) i = ledEntry s i := by rw [advance_eq t s]; rfl
@[simp] theorem ledOwned_advance (t : Nat) (s : State) (i : Nat) :
    ledOwned (advance t s) i = ledOwned s i := by rw [advance_eq t s]; rfl
@[simp] theorem ledLit_advance (t : Nat) (s : State) (phase : Word) (i : Nat) :
    ledLit (advance t s) phase i = ledLit s phase i := by rw [advance_eq t s]; rfl
@[simp] theorem vaonFed_advance (t : Nat) (s : State) : vaonFed (advance t s) = vaonFed s := by rw [advance_eq t s]; rfl
@[simp] theorem capUf_advance (t : Nat) (s : State) : capUf (advance t s) = capUf s := by rw [advance_eq t s]; rfl
@[simp] theorem reserve01mJ_advance (t : Nat) (s : State) :
    reserve01mJ (advance t s) = reserve01mJ s := by rw [advance_eq t s]; rfl
@[simp] theorem fwNow_advance (t : Nat) (s : State) : fwNow (advance t s) = fwNow s := by rw [advance_eq t s]; rfl
@[simp] theorem dieFw_advance (t : Nat) (s : State) (n : Nat) : dieFw (advance t s) n = dieFw s n := by rw [advance_eq t s]; rfl
@[simp] theorem profileFits_advance (t : Nat) (s : State) (p : Nat) :
    profileFits (advance t s) p = profileFits s p := by rw [advance_eq t s]; rfl
@[simp] theorem editBusy_advance (t : Nat) (s : State) : editBusy (advance t s) = editBusy s := by rw [advance_eq t s]; rfl
@[simp] theorem updBusy_advance (t : Nat) (s : State) : updBusy (advance t s) = updBusy s := by rw [advance_eq t s]; rfl
@[simp] theorem pairedMask_advance (t : Nat) (s : State) : pairedMask (advance t s) = pairedMask s := by rw [advance_eq t s]; rfl
@[simp] theorem dieReports_advance (t : Nat) (s : State) (d : Nat) :
    dieReports (advance t s) d = dieReports s d := by rw [advance_eq t s]; rfl
@[simp] theorem anyStation_advance (t : Nat) (s : State) : anyStation (advance t s) = anyStation s := by rw [advance_eq t s]; rfl
@[simp] theorem hasReflex_advance (t : Nat) (s : State) : hasReflex (advance t s) = hasReflex s := by rw [advance_eq t s]; rfl
@[simp] theorem cfgOf_advance (t : Nat) (s : State) (n : Nat) : cfgOf (advance t s) n = cfgOf s n := by rw [advance_eq t s]; rfl
@[simp] theorem debugStopped_advance (t : Nat) (s : State) :
    debugStopped (advance t s) = debugStopped s := by rw [advance_eq t s]; rfl
@[simp] theorem mayRelease_advance (t : Nat) (s : State) (n : Nat) :
    mayRelease (advance t s) n = mayRelease s n := by rw [advance_eq t s]; rfl
@[simp] theorem switchDue_advance (t : Nat) (s : State) : switchDue (advance t s) = switchDue s := by rw [advance_eq t s]; rfl
@[simp] theorem streamOn_advance (t : Nat) (s : State) : streamOn (advance t s) = streamOn s := by rw [advance_eq t s]; rfl
@[simp] theorem soeNext_advance (t : Nat) (s : State) : soeNext (advance t s) = soeNext s := by rw [advance_eq t s]; rfl
@[simp] theorem edgeOf_advance (t : Nat) (s : State) (d : TaskDecl) :
    edgeOf (advance t s) d = edgeOf s d := by rw [advance_eq t s]; rfl
@[simp] theorem periodUs_advance (t : Nat) (s : State) (d : TaskDecl) :
    periodUs (advance t s) d = periodUs s d := by rw [advance_eq t s]; rfl
@[simp] theorem phaseUs_advance (t : Nat) (s : State) (d : TaskDecl) :
    phaseUs (advance t s) d = phaseUs s d := by rw [advance_eq t s]; rfl
@[simp] theorem ruleOf_advance (t : Nat) (s : State) (n : Nat) :
    ruleOf (advance t s) n = ruleOf s n := by rw [advance_eq t s]; rfl
@[simp] theorem ruleRuns_advance (t : Nat) (s : State) (r : Rule) :
    ruleRuns (advance t s) r = ruleRuns s r := by rw [advance_eq t s]; rfl
@[simp] theorem ruleOut_advance (t : Nat) (s : State) (n : Nat) :
    ruleOut (advance t s) n = ruleOut s n := by rw [advance_eq t s]; rfl
@[simp] theorem ringRuns_advance (t : Nat) (s : State) : ringRuns (advance t s) = ringRuns s := by rw [advance_eq t s]; rfl
@[simp] theorem tiBit_advance (t : Nat) (s : State) (k : Nat) : tiBit (advance t s) k = tiBit s k := by rw [advance_eq t s]; rfl
@[simp] theorem flagWriter_advance (t : Nat) (s : State) (rf : Nat) :
    flagWriter (advance t s) rf = flagWriter s rf := by rw [advance_eq t s]; rfl
@[simp] theorem ruleSources_advance (t : Nat) (s : State) (n : Nat) :
    ruleSources (advance t s) n = ruleSources s n := by rw [advance_eq t s]; rfl
@[simp] theorem ruleReads_advance (t : Nat) (s : State) (ch : Nat) :
    ruleReads (advance t s) ch = ruleReads s ch := by rw [advance_eq t s]; rfl
@[simp] theorem stationsOn_advance (t : Nat) (s : State) : stationsOn (advance t s) = stationsOn s := by rw [advance_eq t s]; rfl
@[simp] theorem sumBytes_advance (t : Nat) (s : State) : sumBytes (advance t s) = sumBytes s := by rw [advance_eq t s]; rfl
@[simp] theorem transitOf_advance (t : Nat) (s : State) (bytes : Nat) :
    transitOf (advance t s) bytes = transitOf s bytes := by rw [advance_eq t s]; rfl
@[simp] theorem transitNs_advance (t : Nat) (s : State) : transitNs (advance t s) = transitNs s := by rw [advance_eq t s]; rfl
@[simp] theorem cycleNs_advance (t : Nat) (s : State) : cycleNs (advance t s) = cycleNs s := by rw [advance_eq t s]; rfl
@[simp] theorem shareNs_advance (t : Nat) (s : State) : shareNs (advance t s) = shareNs s := by rw [advance_eq t s]; rfl
@[simp] theorem transitTooLong_advance (t : Nat) (s : State) :
    transitTooLong (advance t s) = transitTooLong s := by rw [advance_eq t s]; rfl
@[simp] theorem frameFlags_advance (t : Nat) (s : State) (port : Nat) :
    frameFlags (advance t s) port = frameFlags s port := by rw [advance_eq t s]; rfl
@[simp] theorem outReady_advance (t : Nat) (s : State) (n : Nat) (b : StationBlock) :
    outReady (advance t s) n b = outReady s n b := by rw [advance_eq t s]; rfl
@[simp] theorem outValue_advance (t : Nat) (s : State) (a : Nat) :
    outValue (advance t s) a = outValue s a := by rw [advance_eq t s]; rfl
@[simp] theorem slotOf_advance (t : Nat) (s : State) (n : Nat) :
    slotOf (advance t s) n = slotOf s n := by rw [advance_eq t s]; rfl
@[simp] theorem ownFrame_advance (t : Nat) (s : State) (b : Bytes) :
    ownFrame (advance t s) b = ownFrame s b := by rw [advance_eq t s]; rfl
@[simp] theorem breakNodes_advance (t : Nat) (s : State) : breakNodes (advance t s) = breakNodes s := by rw [advance_eq t s]; rfl
@[simp] theorem ringCounts_advance (t : Nat) (s : State) : ringCounts (advance t s) = ringCounts s := by rw [advance_eq t s]; rfl
@[simp] theorem stationStatus_advance (t : Nat) (n : Nat) (s : State) :
    stationStatus n (advance t s) = stationStatus n s := by rw [advance_eq t s]; rfl
@[simp] theorem ringReply_advance (t : Nat) (s : State) : ringReply (advance t s) = ringReply s := by rw [advance_eq t s]; rfl
@[simp] theorem beaconAt_advance (t : Nat) (s : State) : beaconAt (advance t s) = beaconAt s := by rw [advance_eq t s]; rfl
@[simp] theorem beaconDue_advance (t : Nat) (s : State) : beaconDue (advance t s) = beaconDue s := by rw [advance_eq t s]; rfl
@[simp] theorem idBlock_advance (t : Nat) (s : State) (nonce : Bytes) :
    idBlock (advance t s) nonce = idBlock s nonce := by rw [advance_eq t s]; rfl
@[simp] theorem peerOk_advance (t : Nat) (s : State) (d : Bytes) :
    peerOk (advance t s) d = peerOk s d := by rw [advance_eq t s]; rfl
@[simp] theorem ringPortUp_advance (t : Nat) (s : State) (port : Nat) :
    ringPortUp (advance t s) port = ringPortUp s port := by rw [advance_eq t s]; rfl
@[simp] theorem linkDelay_advance (t : Nat) (s : State) (port : Nat) :
    linkDelay (advance t s) port = linkDelay s port := by rw [advance_eq t s]; rfl
@[simp] theorem cycleBreaksSaf_advance (t : Nat) (s : State) :
    cycleBreaksSaf (advance t s) = cycleBreaksSaf s := by rw [advance_eq t s]; rfl
@[simp] theorem ringState_advance (t : Nat) (s : State) : ringState (advance t s) = ringState s := by rw [advance_eq t s]; rfl
@[simp] theorem confirmed_advance (t : Nat) (s : State) : confirmed (advance t s) = confirmed s := by rw [advance_eq t s]; rfl
@[simp] theorem safState_advance (t : Nat) (s : State) : safState (advance t s) = safState s := by rw [advance_eq t s]; rfl
@[simp] theorem pendingCheck_advance (t : Nat) (s : State) :
    pendingCheck (advance t s) = pendingCheck s := by rw [advance_eq t s]; rfl
@[simp] theorem epochChangesCheck_advance (t : Nat) (s : State) :
    epochChangesCheck (advance t s) = epochChangesCheck s := by rw [advance_eq t s]; rfl
@[simp] theorem blockReleases_advance (t : Nat) (d : TaskDecl) (buf : Tbl (Option Word)) (s : State) :
    blockReleases d buf (advance t s) = blockReleases d buf s := by rw [advance_eq t s]; rfl
@[simp] theorem discrepant_advance (t : Nat) (s : State) : discrepant (advance t s) = discrepant s := by rw [advance_eq t s]; rfl
@[simp] theorem connFaults_advance (t : Nat) (s : State) : connFaults (advance t s) = connFaults s := by rw [advance_eq t s]; rfl
@[simp] theorem loading_advance (t : Nat) (s : State) : loading (advance t s) = loading s := by rw [advance_eq t s]; rfl
@[simp] theorem notMine_advance (t : Nat) (s : State) : notMine (advance t s) = notMine s := by rw [advance_eq t s]; rfl
@[simp] theorem loadedImage_advance (t : Nat) (s : State) (h : Bytes) (blocks : Tbl Bytes) :
    loadedImage (advance t s) h blocks = loadedImage s h blocks := by rw [advance_eq t s]; rfl
@[simp] theorem loadCheck_advance (t : Nat) (s : State) (h : Bytes) (blocks : Tbl Bytes) :
    loadCheck (advance t s) h blocks = loadCheck s h blocks := by rw [advance_eq t s]; rfl
@[simp] theorem safetyPoint_advance (t : Nat) (s : State) (a : Nat) :
    safetyPoint (advance t s) a = safetyPoint s a := by rw [advance_eq t s]; rfl
@[simp] theorem reflexQx_advance (t : Nat) (s : State) (a : Nat) :
    reflexQx (advance t s) a = reflexQx s a := by rw [advance_eq t s]; rfl
@[simp] theorem forcesAhead_advance (t : Nat) (s : State) :
    forcesAhead (advance t s) = forcesAhead s := by rw [advance_eq t s]; rfl
@[simp] theorem breaksLocal_advance (t : Nat) (s : State) (d : TaskDecl) (us : Nat) :
    breaksLocal (advance t s) d us = breaksLocal s d us := by rw [advance_eq t s]; rfl
@[simp] theorem breaksStation_advance (t : Nat) (s : State) (d : TaskDecl) (us : Nat) :
    breaksStation (advance t s) d us = breaksStation s d us := by rw [advance_eq t s]; rfl
@[simp] theorem askedCfg_advance (t : Nat) (s : State) (d : TaskDecl) (p : Bytes) :
    askedCfg (advance t s) d p = askedCfg s d p := by rw [advance_eq t s]; rfl
@[simp] theorem soeHeld_advance (t : Nat) (s : State) : soeHeld (advance t s) = soeHeld s := by rw [advance_eq t s]; rfl
@[simp] theorem freeSessions_advance (t : Nat) (s : State) :
    freeSessions (advance t s) = freeSessions s := by rw [advance_eq t s]; rfl
@[simp] theorem credentialOk_advance (t : Nat) (s : State) (cred role : Nat) :
    credentialOk (advance t s) cred role = credentialOk s cred role := by rw [advance_eq t s]; rfl
@[simp] theorem anyHalted_advance (t : Nat) (s : State) : anyHalted (advance t s) = anyHalted s := by rw [advance_eq t s]; rfl
@[simp] theorem adminEnrolled_advance (t : Nat) (s : State) :
    adminEnrolled (advance t s) = adminEnrolled s := by rw [advance_eq t s]; rfl
@[simp] theorem advanceOk_advance (t : Nat) (s : State) (target : Nat) :
    advanceOk (advance t s) target = advanceOk s target := by rw [advance_eq t s]; rfl
@[simp] theorem targetOk_advance (t : Nat) (s : State) (target : Nat) :
    targetOk (advance t s) target = targetOk s target := by rw [advance_eq t s]; rfl
@[simp] theorem authNeeded_advance (t : Nat) (s : State) (slot : Nat) :
    authNeeded (advance t s) slot = authNeeded s slot := by rw [advance_eq t s]; rfl
@[simp] theorem enrollAllowed_advance (t : Nat) (s : State) (slot kind : Nat) :
    enrollAllowed (advance t s) slot kind = enrollAllowed s slot kind := by rw [advance_eq t s]; rfl
@[simp] theorem tokenAnswer_advance (t : Nat) (s : State) :
    tokenAnswer (advance t s) = tokenAnswer s := by rw [advance_eq t s]; rfl
@[simp] theorem attachLevel_advance (t : Nat) (port : Nat) (s : State) :
    attachLevel port (advance t s) = attachLevel port s := by rw [advance_eq t s]; rfl
@[simp] theorem tapUp_advance (t : Nat) (s : State) : tapUp (advance t s) = tapUp s := by rw [advance_eq t s]; rfl
@[simp] theorem tapAllowed_advance (t : Nat) (s : State) (ir : Nat) :
    tapAllowed (advance t s) ir = tapAllowed s ir := by rw [advance_eq t s]; rfl
@[simp] theorem debugRange_advance (t : Nat) (s : State) (r : DbgReq) :
    debugRange (advance t s) r = debugRange s r := by rw [advance_eq t s]; rfl
@[simp] theorem debugLevel_advance (t : Nat) (s : State) (r : DbgReq) :
    debugLevel (advance t s) r = debugLevel s r := by rw [advance_eq t s]; rfl
@[simp] theorem haltPart_advance (t : Nat) (s : State) (r : DbgReq) :
    haltPart (advance t s) r = haltPart s r := by rw [advance_eq t s]; rfl
@[simp] theorem startEvents_advance (t : Nat) (s : State) :
    startEvents (advance t s) = startEvents s := by rw [advance_eq t s]; rfl
@[simp] theorem startScan_advance (t : Nat) (s : State) : startScan (advance t s) = startScan s := by rw [advance_eq t s]; rfl
@[simp] theorem startEdit_advance (t : Nat) (s : State) : startEdit (advance t s) = startEdit s := by rw [advance_eq t s]; rfl
@[simp] theorem startRing_advance (t : Nat) (s : State) : startRing (advance t s) = startRing s := by rw [advance_eq t s]; rfl
@[simp] theorem startPair_advance (t : Nat) (s : State) : startPair (advance t s) = startPair s := by rw [advance_eq t s]; rfl
@[simp] theorem startSup_advance (t : Nat) (k : Restart) (s : State) :
    startSup k (advance t s) = startSup k s := by rw [advance_eq t s]; rfl
@[simp] theorem startSec_advance (t : Nat) (s : State) : startSec (advance t s) = startSec s := by rw [advance_eq t s]; rfl
@[simp] theorem startHost_advance (t : Nat) (s : State) : startHost (advance t s) = startHost s := by rw [advance_eq t s]; rfl
@[simp] theorem dieNamed_advance (t : Nat) (s : State) (n : Nat) :
    dieNamed (advance t s) n = dieNamed s n := by rw [advance_eq t s]; rfl
@[simp] theorem twoRetired_advance (t : Nat) (s : State) : twoRetired (advance t s) = twoRetired s := by rw [advance_eq t s]; rfl
@[simp] theorem recentTrips_advance (t : Nat) (s : State) :
    recentTrips (advance t s) = recentTrips s := by rw [advance_eq t s]; rfl
@[simp] theorem ctl_advance (t : Nat) (s : State) (k : Nat) : ctl (advance t s) k = ctl s k := by rw [advance_eq t s]; rfl
@[simp] theorem turnsAt_advance (t : Nat) (s : State) (port : Nat) :
    turnsAt (advance t s) port = turnsAt s port := by rw [advance_eq t s]; rfl
@[simp] theorem stationRuns_advance (t : Nat) (s : State) :
    stationRuns (advance t s) = stationRuns s := by rw [advance_eq t s]; rfl
@[simp] theorem ringIdFits_advance (t : Nat) (s : State) (id : Word) :
    ringIdFits (advance t s) id = ringIdFits s id := by rw [advance_eq t s]; rfl
@[simp] theorem ownBlock_advance (t : Nat) (s : State) : ownBlock (advance t s) = ownBlock s := by rw [advance_eq t s]; rfl
@[simp] theorem inBit_advance (t : Nat) (s : State) (i : Nat) : inBit (advance t s) i = inBit s i := by rw [advance_eq t s]; rfl
@[simp] theorem inWord_advance (t : Nat) (s : State) (k : Nat) :
    inWord (advance t s) k = inWord s k := by rw [advance_eq t s]; rfl
@[simp] theorem tagDiffers_advance (t : Nat) (s : State) (sl : Bytes) :
    tagDiffers (advance t s) sl = tagDiffers s sl := by rw [advance_eq t s]; rfl
@[simp] theorem ownSlots_advance (t : Nat) (s : State) (b : Bytes) :
    ownSlots (advance t s) b = ownSlots s b := by rw [advance_eq t s]; rfl
@[simp] theorem statOf_advance (t : Nat) (s : State) (port : Nat) (mismatch : Bool) :
    statOf (advance t s) port mismatch = statOf s port mismatch := by rw [advance_eq t s]; rfl
@[simp] theorem answerSlot_advance (t : Nat) (s : State) (k port : Nat) (sl : Bytes) (mismatch : Bool) :
    answerSlot (advance t s) k port sl mismatch = answerSlot s k port sl mismatch := by rw [advance_eq t s]; rfl
@[simp] theorem msgForMe_advance (t : Nat) (s : State) (op : Nat) (b : Bytes) :
    msgForMe (advance t s) op b = msgForMe s op b := by rw [advance_eq t s]; rfl
@[simp] theorem slotHolder_advance (t : Nat) (s : State) (n : Nat) :
    slotHolder (advance t s) n = slotHolder s n := by rw [advance_eq t s]; rfl
@[simp] theorem heldMask_advance (t : Nat) (s : State) : heldMask (advance t s) = heldMask s := by rw [advance_eq t s]; rfl
@[simp] theorem requiredMask_advance (t : Nat) (s : State) :
    requiredMask (advance t s) = requiredMask s := by rw [advance_eq t s]; rfl
@[simp] theorem testing_advance (t : Nat) (s : State) : testing (advance t s) = testing s := by rw [advance_eq t s]; rfl
@[simp] theorem engineIdle_advance (t : Nat) (s : State) (e : Nat) :
    engineIdle (advance t s) e = engineIdle s e := by rw [advance_eq t s]; rfl
@[simp] theorem targetPref_advance (t : Nat) (s : State) : targetPref (advance t s) = targetPref s := by rw [advance_eq t s]; rfl
@[simp] theorem targetClaim_advance (t : Nat) (s : State) :
    targetClaim (advance t s) = targetClaim s := by rw [advance_eq t s]; rfl
@[simp] theorem roundPct_advance (t : Nat) (s : State) : roundPct (advance t s) = roundPct s := by rw [advance_eq t s]; rfl
@[simp] theorem windowTooShort_advance (t : Nat) (s : State) (us clk checkinUs : Nat) :
    windowTooShort (advance t s) us clk checkinUs = windowTooShort s us clk checkinUs := by rw [advance_eq t s]; rfl
@[simp] theorem physEngine_advance (t : Nat) (s : State) (l : Nat) :
    physEngine (advance t s) l = physEngine s l := by rw [advance_eq t s]; rfl
@[simp] theorem logEngine_advance (t : Nat) (s : State) (p : Nat) :
    logEngine (advance t s) p = logEngine s p := by rw [advance_eq t s]; rfl
@[simp] theorem isPaired_advance (t : Nat) (s : State) (phys : Nat) :
    isPaired (advance t s) phys = isPaired s phys := by rw [advance_eq t s]; rfl
@[simp] theorem isOdd_advance (t : Nat) (s : State) (e : Nat) : isOdd (advance t s) e = isOdd s e := by rw [advance_eq t s]; rfl
@[simp] theorem bankFree_advance (t : Nat) (s : State) (l c : Nat) :
    bankFree (advance t s) l c = bankFree s l c := by rw [advance_eq t s]; rfl
@[simp] theorem waitingTask_advance (t : Nat) (s : State) (l c : Nat) :
    waitingTask (advance t s) l c = waitingTask s l c := by rw [advance_eq t s]; rfl
@[simp] theorem dataWord_advance (t : Nat) (s : State) (region addr : Nat) :
    dataWord (advance t s) region addr = dataWord s region addr := by rw [advance_eq t s]; rfl
@[simp] theorem mirrorWord_advance (t : Nat) (s : State) (region addr : Nat) :
    mirrorWord (advance t s) region addr = mirrorWord s region addr := by rw [advance_eq t s]; rfl
@[simp] theorem forceOf_advance (t : Nat) (s : State) (a : Nat) :
    forceOf (advance t s) a = forceOf s a := by rw [advance_eq t s]; rfl
@[simp] theorem forcedVal_advance (t : Nat) (s : State) (a : Nat) :
    forcedVal (advance t s) a = forcedVal s a := by rw [advance_eq t s]; rfl
@[simp] theorem chanCfg_advance (t : Nat) (s : State) (ch : Nat) :
    chanCfg (advance t s) ch = chanCfg s ch := by rw [advance_eq t s]; rfl
@[simp] theorem stationCfg_advance (t : Nat) (s : State) (n : Nat) :
    stationCfg (advance t s) n = stationCfg s n := by rw [advance_eq t s]; rfl
@[simp] theorem stationOn_advance (t : Nat) (s : State) (n : Nat) :
    stationOn (advance t s) n = stationOn s n := by rw [advance_eq t s]; rfl
@[simp] theorem gooseConns_advance (t : Nat) (s : State) : gooseConns (advance t s) = gooseConns s := by rw [advance_eq t s]; rfl
@[simp] theorem subPoints_advance (t : Nat) (s : State) (k : Nat) :
    subPoints (advance t s) k = subPoints s k := by rw [advance_eq t s]; rfl
@[simp] theorem gooseNames_advance (t : Nat) (s : State) (a : Nat) :
    gooseNames (advance t s) a = gooseNames s a := by rw [advance_eq t s]; rfl
@[simp] theorem hasSource_advance (t : Nat) (s : State) (a : Nat) :
    hasSource (advance t s) a = hasSource s a := by rw [advance_eq t s]; rfl
@[simp] theorem dpEven_advance (t : Nat) (s : State) (ch : Nat) :
    dpEven (advance t s) ch = dpEven s ch := by rw [advance_eq t s]; rfl
@[simp] theorem dualOf_advance (t : Nat) (s : State) (ch : Nat) :
    dualOf (advance t s) ch = dualOf s ch := by rw [advance_eq t s]; rfl
@[simp] theorem partnerChan_advance (t : Nat) (s : State) (ch : Nat) :
    partnerChan (advance t s) ch = partnerChan s ch := by rw [advance_eq t s]; rfl
@[simp] theorem chanStale_advance (t : Nat) (s : State) (ch : Nat) :
    chanStale (advance t s) ch = chanStale s ch := by rw [advance_eq t s]; rfl
@[simp] theorem ixQuality_advance (t : Nat) (s : State) (ch : Nat) :
    ixQuality (advance t s) ch = ixQuality s ch := by rw [advance_eq t s]; rfl
@[simp] theorem taskWrites_advance (t : Nat) (s : State) (a : Nat) :
    taskWrites (advance t s) a = taskWrites s a := by rw [advance_eq t s]; rfl
@[simp] theorem carriesQuality_advance (t : Nat) (s : State) (a : Nat) :
    carriesQuality (advance t s) a = carriesQuality s a := by rw [advance_eq t s]; rfl
@[simp] theorem holdsPoint_advance (t : Nat) (s : State) (a : Nat) :
    holdsPoint (advance t s) a = holdsPoint s a := by rw [advance_eq t s]; rfl
@[simp] theorem pointQuality_advance (t : Nat) (s : State) (a : Nat) :
    pointQuality (advance t s) a = pointQuality s a := by rw [advance_eq t s]; rfl
@[simp] theorem pointValue_advance (t : Nat) (s : State) (a : Nat) :
    pointValue (advance t s) a = pointValue s a := by rw [advance_eq t s]; rfl
@[simp] theorem updRefused_advance (t : Nat) (s : State) : updRefused (advance t s) = updRefused s := by rw [advance_eq t s]; rfl
@[simp] theorem bankFw_advance (t : Nat) (s : State) (bank : Nat) :
    bankFw (advance t s) bank = bankFw s bank := by rw [advance_eq t s]; rfl
@[simp] theorem updKnown_advance (t : Nat) (s : State) (id : Nat) :
    updKnown (advance t s) id = updKnown s id := by rw [advance_eq t s]; rfl
@[simp] theorem updImage_advance (t : Nat) (s : State) (payload : Bytes) (parts : List UpdPart) :
    updImage (advance t s) payload parts = updImage s payload parts := by rw [advance_eq t s]; rfl
@[simp] theorem badPart_advance (t : Nat) (s : State) (payload : Bytes) (parts : List UpdPart) (i : Nat) :
    badPart (advance t s) payload parts i = badPart s payload parts i := by rw [advance_eq t s]; rfl
@[simp] theorem updCheck_advance (t : Nat) (s : State) : updCheck (advance t s) = updCheck s := by rw [advance_eq t s]; rfl
@[simp] theorem newFw_advance (t : Nat) (s : State) (parts : List UpdPart) :
    newFw (advance t s) parts = newFw s parts := by rw [advance_eq t s]; rfl
@[simp] theorem trialWindow_advance (t : Nat) (s : State) (asked : Nat) :
    trialWindow (advance t s) asked = trialWindow s asked := by rw [advance_eq t s]; rfl

end Sys2Proof.Machine
end

