-- ==== Sys2Proof/Laws/Sparse.lean ====
section
/-! SUPPORT. Laws of sparse tables and byte memories: a read after a write, and the canonical form that every write keeps. -/

namespace Sys2Proof

variable {α : Type}

theorem Tbl.get_insert (m : Tbl α) (d v : α) (k j : Nat) :
    Tbl.get (Tbl.insert m k v) d j = if j = k then v else Tbl.get m d j := by
  induction m with
  | nil => simp [Tbl.insert, Tbl.get]
  | cons p r ih =>
    obtain ⟨k', v'⟩ := p
    simp only [Tbl.insert]
    split
    · simp [Tbl.get]
    · split
      · subst_vars
        simp only [Tbl.get]
        split <;> rfl
      · simp only [Tbl.get, ih]
        split <;> split <;> simp_all

theorem Tbl.get_filter (m : Tbl α) (d : α) (k j : Nat) :
    Tbl.get (m.filter fun e => decide (e.1 ≠ k)) d j = if j = k then d else Tbl.get m d j := by
  induction m with
  | nil => simp [Tbl.get]
  | cons p r ih =>
    obtain ⟨k', v'⟩ := p
    by_cases h : k' = k
    · subst h
      simp only [List.filter_cons, ne_eq, not_true_eq_false, decide_false, Bool.false_eq_true, if_false]
      rw [ih]
      by_cases hj : j = k' <;> simp [Tbl.get, hj]
    · simp only [List.filter_cons, ne_eq, h, not_false_eq_true, decide_true, if_true, Tbl.get, ih]
      split <;> simp_all

/-- What a table reads after one entry is set. -/
@[simp] theorem Tbl.get_set [DecidableEq α] (m : Tbl α) (d v : α) (k j : Nat) :
    Tbl.get (Tbl.set m d k v) d j = if j = k then v else Tbl.get m d j := by
  unfold Tbl.set
  split
  · rename_i hv
    subst hv
    exact Tbl.get_filter m _ k j
  · exact Tbl.get_insert m d v k j

@[simp] theorem Tbl.get_nil (d : α) (k : Nat) : Tbl.get ([] : Tbl α) d k = d := rfl

theorem Tbl.wfFrom_mono [DecidableEq α] {d : α} {m : Tbl α} {lo lo' : Nat} (h : lo' ≤ lo) (hm : Tbl.wfFrom d lo m = true) :
    Tbl.wfFrom d lo' m = true := by
  cases m with
  | nil => rfl
  | cons p r =>
    obtain ⟨k, v⟩ := p
    simp only [Tbl.wfFrom, Bool.and_eq_true, decide_eq_true_eq] at hm ⊢
    exact ⟨le_trans h hm.1, hm.2⟩

theorem Tbl.wfFrom_insert [DecidableEq α] {d v : α} {k : Nat} (hv : v ≠ d) (m : Tbl α) :
    ∀ lo, lo ≤ k → Tbl.wfFrom d lo m = true → Tbl.wfFrom d lo (Tbl.insert m k v) = true := by
  induction m with
  | nil => intro lo h _; simp [Tbl.insert, Tbl.wfFrom, h, hv]
  | cons p r ih =>
    intro lo h hm
    obtain ⟨k', v'⟩ := p
    simp only [Tbl.wfFrom, Bool.and_eq_true, decide_eq_true_eq] at hm
    obtain ⟨h1, h2, h3⟩ := hm
    simp only [Tbl.insert]
    split
    · rename_i hk
      simp only [Tbl.wfFrom, Bool.and_eq_true, decide_eq_true_eq]
      exact ⟨h, hv, hk, h2, h3⟩
    · split
      · subst_vars
        simp only [Tbl.wfFrom, Bool.and_eq_true, decide_eq_true_eq]
        exact ⟨h1, hv, h3⟩
      · rename_i n1 n2
        simp only [Tbl.wfFrom, Bool.and_eq_true, decide_eq_true_eq]
        exact ⟨h1, h2, ih (k' + 1) (by omega) h3⟩

theorem Tbl.wfFrom_filter [DecidableEq α] {d : α} (f : Nat × α → Bool) (m : Tbl α) :
    ∀ lo, Tbl.wfFrom d lo m = true → Tbl.wfFrom d lo (m.filter f) = true := by
  induction m with
  | nil => intro lo h; exact h
  | cons p r ih =>
    intro lo hm
    obtain ⟨k, v⟩ := p
    simp only [Tbl.wfFrom, Bool.and_eq_true, decide_eq_true_eq] at hm
    rw [List.filter_cons]
    split
    · simp only [Tbl.wfFrom, Bool.and_eq_true, decide_eq_true_eq]
      exact ⟨hm.1, hm.2.1, ih _ hm.2.2⟩
    · exact ih lo (Tbl.wfFrom_mono (by omega) hm.2.2)

/-- Setting an entry keeps the canonical form. -/
theorem Tbl.wf_set [DecidableEq α] {d : α} {m : Tbl α} (k : Nat) (v : α) (h : Tbl.wf d m = true) :
    Tbl.wf d (Tbl.set m d k v) = true := by
  unfold Tbl.set
  split
  · exact Tbl.wfFrom_filter _ m 0 h
  · rename_i hv
    exact Tbl.wfFrom_insert hv m 0 (Nat.zero_le _) h

/-- What a memory reads after one byte is written. -/
@[simp] theorem Memory.readByte_writeByte (m : Memory) (a b : Nat) (v : Byte) :
    Memory.readByte (Memory.writeByte m a v) b = if b = a then v else Memory.readByte m b :=
  Tbl.get_set m 0#8 v a b

/-- Writing bytes leaves every other byte alone. -/
theorem Memory.readByte_writeBytes_other (bs : Bytes) :
    ∀ (m : Memory) (a b : Nat), (b < a ∨ a + bs.length ≤ b) →
      Memory.readByte (Memory.writeBytes m a bs) b = Memory.readByte m b := by
  induction bs with
  | nil => intros; rfl
  | cons x r ih =>
    intro m a b h
    simp only [Memory.writeBytes, List.length_cons] at h ⊢
    rw [ih _ _ _ (by omega), Memory.readByte_writeByte, if_neg (by omega)]

/-- A byte written reads back. -/
theorem Memory.readByte_writeBytes_at (bs : Bytes) :
    ∀ (m : Memory) (a i : Nat), i < bs.length →
      Memory.readByte (Memory.writeBytes m a bs) (a + i) = bs.getD i 0#8 := by
  induction bs with
  | nil => intro _ _ _ h; simp at h
  | cons x r ih =>
    intro m a i h
    cases i with
    | zero =>
      simp only [Memory.writeBytes, Nat.add_zero]
      rw [Memory.readByte_writeBytes_other _ _ _ _ (by omega)]
      simp
    | succ n =>
      simp only [Memory.writeBytes, List.length_cons] at h ⊢
      have := ih (Memory.writeByte m a x) (a + 1) n (by omega)
      rw [show a + (n + 1) = a + 1 + n by omega, this]
      simp

/-- One byte written keeps the canonical form. -/
theorem Memory.wf_writeByte {m : Memory} (a : Nat) (v : Byte) (h : Memory.wf m = true) :
    Memory.wf (Memory.writeByte m a v) = true := Tbl.wf_set a v h

/-- Bytes written keep the canonical form. -/
theorem Memory.wf_writeBytes (bs : Bytes) :
    ∀ {m : Memory} (a : Nat), Memory.wf m = true → Memory.wf (Memory.writeBytes m a bs) = true := by
  induction bs with
  | nil => intro _ _ h; exact h
  | cons x r ih => intro m a h; exact ih (a + 1) (Memory.wf_writeByte a x h)

/-- A word written keeps the canonical form. -/
theorem Memory.wf_writeWord {m : Memory} (a : Nat) (v : Word) (h : Memory.wf m = true) :
    Memory.wf (Memory.writeWord m a v) = true := Memory.wf_writeBytes _ a h

theorem Tbl.wf_nil [DecidableEq α] (d : α) : Tbl.wf d ([] : Tbl α) = true := rfl

end Sys2Proof
end

