-- ==== Sys2Proof/Laws/Bundle.lean ====
section
/-! SUPPORT. What the delivery of a syllable does: the fields of an encoded syllable, a syllable alone in its bundle, one that
only joins its bundle, and what a bundle that retires leaves unchanged. -/

namespace Sys2Proof.Machine

/-! ### Fields of encoded words (R190, R192) -/

theorem enc_field (cls op : Nat) (gd : BitVec 6) (rest : BitVec 16) :
    (encSyl cls op gd rest).extractLsb' 0 16 = rest ∧ (encSyl cls op gd rest).extractLsb' 16 6 = gd
      ∧ (encSyl cls op gd rest).extractLsb' 22 6 = BitVec.ofNat 6 op
      ∧ (encSyl cls op gd rest).extractLsb' 28 3 = BitVec.ofNat 3 cls := by
  refine ⟨?_, ?_, ?_, ?_⟩ <;>
    (apply BitVec.eq_of_getLsbD_eq
     intro i hi
     simp only [encSyl, BitVec.getLsbD_extractLsb', BitVec.getLsbD_setWidth, BitVec.getLsbD_append]
     interval_cases i <;> simp)

/-- STOP does not reach into the other fields. -/
theorem stop_field (w : Word) (i n : Nat) (h : i + n ≤ 31) :
    (w ||| 0x80000000#32).extractLsb' i n = w.extractLsb' i n := by
  apply BitVec.eq_of_getLsbD_eq
  intro k hk
  have h2 : (0x80000000#32).getLsbD (i + k) = false := by
    have : (0x80000000#32) = BitVec.twoPow 32 31 := by decide
    rw [this, BitVec.getLsbD_twoPow]
    simp; omega
  simp [BitVec.getLsbD_extractLsb', BitVec.getLsbD_or, h2]

theorem stop_bit (w : Word) (i : Nat) (h : i < 31) : (w ||| 0x80000000#32).getLsbD i = w.getLsbD i := by
  have h2 : (0x80000000#32).getLsbD i = false := by
    have : (0x80000000#32) = BitVec.twoPow 32 31 := by decide
    rw [this, BitVec.getLsbD_twoPow]
    simp; omega
  simp [h2]

@[simp] theorem sylClass_stop (w : Word) : sylClass (w ||| 0x80000000#32) = sylClass w := by
  simp only [sylClass, stop_field w 28 3 (by omega)]
@[simp] theorem sylOp_stop (w : Word) : sylOp (w ||| 0x80000000#32) = sylOp w := by
  simp only [sylOp, stop_field w 22 6 (by omega)]
@[simp] theorem sylGd_stop (w : Word) : sylGd (w ||| 0x80000000#32) = sylGd w := by
  simp only [sylGd, stop_field w 16 6 (by omega)]
@[simp] theorem sylGa_stop (w : Word) : sylGa (w ||| 0x80000000#32) = sylGa w := by
  simp only [sylGa, stop_field w 10 6 (by omega)]
@[simp] theorem sylGb_stop (w : Word) : sylGb (w ||| 0x80000000#32) = sylGb w := by
  simp only [sylGb, stop_field w 4 6 (by omega)]
@[simp] theorem sylSub_stop (w : Word) : sylSub (w ||| 0x80000000#32) = sylSub w := by
  simp only [sylSub, stop_field w 0 4 (by omega)]
@[simp] theorem sylAgn_stop (w : Word) : sylAgn (w ||| 0x80000000#32) = sylAgn w := by
  simp only [sylAgn, stop_field w 8 2 (by omega)]
@[simp] theorem sylAgSub_stop (w : Word) : sylAgSub (w ||| 0x80000000#32) = sylAgSub w := by
  simp only [sylAgSub, stop_field w 0 8 (by omega)]
@[simp] theorem immRRI_stop (w : Word) (k : Option (BitVec 28)) (b : Bool) :
    immRRI (w ||| 0x80000000#32) k b = immRRI w k b := by
  simp only [immRRI, stop_field w 0 10 (by omega)]
@[simp] theorem immRI_stop (w : Word) (k : Option (BitVec 28)) (b : Bool) :
    immRI (w ||| 0x80000000#32) k b = immRI w k b := by
  simp only [immRI, stop_field w 0 16 (by omega)]
@[simp] theorem immBI_stop (w : Word) (k : Option (BitVec 28)) : immBI (w ||| 0x80000000#32) k = immBI w k := by
  simp only [immBI, stop_field w 0 12 (by omega), stop_field w 12 4 (by omega)]

section Formats
variable (cls op : Nat) (gd ga gb : BitVec 6) (sub : BitVec 4) (imm : BitVec 10) (rest : BitVec 16) (agn : BitVec 2)
  (sub8 : BitVec 8) (space : BitVec 4) (index : BitVec 12)

@[simp] theorem sylClass_enc : sylClass (encSyl cls op gd rest) = cls % 8 := by
  simp [sylClass, (enc_field cls op gd rest).2.2.2]
@[simp] theorem sylOp_enc : sylOp (encSyl cls op gd rest) = op % 64 := by
  simp [sylOp, (enc_field cls op gd rest).2.2.1]
@[simp] theorem sylGd_enc : sylGd (encSyl cls op gd rest) = gd.toNat := by
  simp [sylGd, (enc_field cls op gd rest).2.1]

/-- A field within the low 16 bits of a syllable. -/
theorem low_field (w : Word) (i n : Nat) (h : i + n ≤ 16) : w.extractLsb' i n = (w.extractLsb' 0 16).extractLsb' i n := by
  apply BitVec.eq_of_getLsbD_eq
  intro k hk
  simp only [BitVec.getLsbD_extractLsb', Nat.zero_add, hk, decide_true, Bool.true_and]
  simp; omega

@[simp] theorem sylGa_encRRR : sylGa (encRRR cls op gd ga gb sub) = ga.toNat := by
  rw [sylGa, encRRR, low_field _ _ _ (by omega), (enc_field _ _ _ _).1]
  congr 1; apply BitVec.eq_of_getLsbD_eq; intro i hi
  simp only [BitVec.getLsbD_extractLsb', BitVec.getLsbD_append]; interval_cases i <;> simp
@[simp] theorem sylGb_encRRR : sylGb (encRRR cls op gd ga gb sub) = gb.toNat := by
  rw [sylGb, encRRR, low_field _ _ _ (by omega), (enc_field _ _ _ _).1]
  congr 1; apply BitVec.eq_of_getLsbD_eq; intro i hi
  simp only [BitVec.getLsbD_extractLsb', BitVec.getLsbD_append]; interval_cases i <;> simp
theorem sub_encRRR : (encRRR cls op gd ga gb sub).extractLsb' 0 4 = sub := by
  rw [encRRR, low_field _ _ _ (by omega), (enc_field _ _ _ _).1]
  apply BitVec.eq_of_getLsbD_eq; intro i hi
  simp only [BitVec.getLsbD_extractLsb', BitVec.getLsbD_append]; interval_cases i <;> simp
@[simp] theorem sylSub_encRRR : sylSub (encRRR cls op gd ga gb sub) = sub.toNat := by
  rw [sylSub, sub_encRRR]
@[simp] theorem sylGa_encRRI : sylGa (encRRI cls op gd ga imm) = ga.toNat := by
  rw [sylGa, encRRI, low_field _ _ _ (by omega), (enc_field _ _ _ _).1]
  congr 1; apply BitVec.eq_of_getLsbD_eq; intro i hi
  simp only [BitVec.getLsbD_extractLsb', BitVec.getLsbD_append]; interval_cases i <;> simp
theorem imm_encRRI : (encRRI cls op gd ga imm).extractLsb' 0 10 = imm := by
  rw [encRRI, low_field _ _ _ (by omega), (enc_field _ _ _ _).1]
  apply BitVec.eq_of_getLsbD_eq; intro i hi
  simp only [BitVec.getLsbD_extractLsb', BitVec.getLsbD_append]; interval_cases i <;> simp
@[simp] theorem immRRI_encRRI (k : Option (BitVec 28)) (b : Bool) :
    immRRI (encRRI cls op gd ga imm) k b = extended k b imm := by
  simp only [immRRI, imm_encRRI]; rfl
@[simp] theorem immRI_encRI (k : Option (BitVec 28)) (b : Bool) : immRI (encRI cls op gd rest) k b = extended k b rest := by
  simp only [immRI, encRI, (enc_field _ _ _ _).1]; rfl
@[simp] theorem sylGa_encAG : sylGa (encAG cls op gd gb agn sub8) = gb.toNat := by
  rw [sylGa, encAG, low_field _ _ _ (by omega), (enc_field _ _ _ _).1]
  congr 1; apply BitVec.eq_of_getLsbD_eq; intro i hi
  simp only [BitVec.getLsbD_extractLsb', BitVec.getLsbD_append]; interval_cases i <;> simp
@[simp] theorem sylAgn_encAG : sylAgn (encAG cls op gd gb agn sub8) = agn.toNat := by
  rw [sylAgn, encAG, low_field _ _ _ (by omega), (enc_field _ _ _ _).1]
  congr 1; apply BitVec.eq_of_getLsbD_eq; intro i hi
  simp only [BitVec.getLsbD_extractLsb', BitVec.getLsbD_append]; interval_cases i <;> simp
@[simp] theorem sylAgSub_encAG : sylAgSub (encAG cls op gd gb agn sub8) = sub8.toNat := by
  rw [sylAgSub, encAG, low_field _ _ _ (by omega), (enc_field _ _ _ _).1]
  congr 1; apply BitVec.eq_of_getLsbD_eq; intro i hi
  simp only [BitVec.getLsbD_extractLsb', BitVec.getLsbD_append]; interval_cases i <;> simp
theorem index_encBI : (encBI cls op gd space index).extractLsb' 0 12 = index := by
  rw [encBI, low_field _ _ _ (by omega), (enc_field _ _ _ _).1]
  apply BitVec.eq_of_getLsbD_eq; intro i hi
  simp only [BitVec.getLsbD_extractLsb', BitVec.getLsbD_append]; interval_cases i <;> simp
theorem space_encBI : (encBI cls op gd space index).extractLsb' 12 4 = space := by
  rw [encBI, low_field _ _ _ (by omega), (enc_field _ _ _ _).1]
  apply BitVec.eq_of_getLsbD_eq; intro i hi
  simp only [BitVec.getLsbD_extractLsb', BitVec.getLsbD_append]; interval_cases i <;> simp
@[simp] theorem immBI_encBI (k : Option (BitVec 28)) :
    immBI (encBI cls op gd space index) k = 2 ^ 28 * space.toNat + ((extended k false index).setWidth 28).toNat := by
  simp only [immBI, index_encBI, space_encBI]
  cases k <;> simp [extended]
  · omega

@[simp] theorem sylClass_encRRR : sylClass (encRRR cls op gd ga gb sub) = cls % 8 := sylClass_enc ..
@[simp] theorem sylOp_encRRR : sylOp (encRRR cls op gd ga gb sub) = op % 64 := sylOp_enc ..
@[simp] theorem sylGd_encRRR : sylGd (encRRR cls op gd ga gb sub) = gd.toNat := sylGd_enc ..
@[simp] theorem sylClass_encRRI : sylClass (encRRI cls op gd ga imm) = cls % 8 := sylClass_enc ..
@[simp] theorem sylOp_encRRI : sylOp (encRRI cls op gd ga imm) = op % 64 := sylOp_enc ..
@[simp] theorem sylGd_encRRI : sylGd (encRRI cls op gd ga imm) = gd.toNat := sylGd_enc ..
@[simp] theorem sylClass_encRI : sylClass (encRI cls op gd rest) = cls % 8 := sylClass_enc ..
@[simp] theorem sylOp_encRI : sylOp (encRI cls op gd rest) = op % 64 := sylOp_enc ..
@[simp] theorem sylGd_encRI : sylGd (encRI cls op gd rest) = gd.toNat := sylGd_enc ..
@[simp] theorem sylClass_encBI : sylClass (encBI cls op gd space index) = cls % 8 := sylClass_enc ..
@[simp] theorem sylOp_encBI : sylOp (encBI cls op gd space index) = op % 64 := sylOp_enc ..
@[simp] theorem sylGd_encBI : sylGd (encBI cls op gd space index) = gd.toNat := sylGd_enc ..
@[simp] theorem sylClass_encAG : sylClass (encAG cls op gd gb agn sub8) = cls % 8 := sylClass_enc ..
@[simp] theorem sylOp_encAG : sylOp (encAG cls op gd gb agn sub8) = op % 64 := sylOp_enc ..
@[simp] theorem sylGd_encAG : sylGd (encAG cls op gd gb agn sub8) = gd.toNat := sylGd_enc ..

end Formats

/-! ### A bundle of one syllable -/

/-- A syllable that is no X and no emulated one, with even registers in its 64-bit positions, forms a bundle (R195). -/
theorem breaks_single {w : Word} (hx : isX w = false) (he : emulated w = false)
    (hp : ((pairPositions w).any fun g => decide (g % 2 = 1)) = false) : breaksRule [w] false = none := by
  have h1 : breaks1 [w] 0 0 0 = none := by
    simp only [breaks1, hx, he, Bool.or_self, Bool.false_eq_true, if_false, Nat.not_lt_zero]
    split <;> [simp; rfl]
  have h2 : breaks2 [w] 0 false 0 = none := by simp [breaks2, hx]
  have h5 : breaks5 [w] 0 [] = none := by simp [breaks5]
  have h6 : breaks6 [w] = none := by simp [breaks6, List.findIdx?_cons, hp]
  have h7 : breaks7 [w] = none := by simp [breaks7, List.findIdx?_cons, he]
  simp [breaksRule, h1, h2, h5, h6, h7, breaks4]

/-- An emulated syllable forms a bundle of its own (R195 rule 7). -/
theorem breaks_emulated {w : Word} (he : emulated w = true) : breaksRule [w] false = none := by
  have hx : isX w = false := by
    unfold emulated at he; revert he; cases isX w <;> simp
  have h1 : breaks1 [w] 0 0 0 = none := by simp [breaks1, he]
  have h2 : breaks2 [w] 0 false 0 = none := by simp [breaks2, hx]
  have hw : writesRegs w = [] := by simp [writesRegs, he]
  have hp : pairPositions w = [] := by simp [pairPositions, he]
  have h5 : breaks5 [w] 0 [] = none := by simp [breaks5]
  have h6 : breaks6 [w] = none := by simp [breaks6, List.findIdx?_cons, hp]
  have h7 : breaks7 [w] = none := by simp [breaks7, List.findIdx?_cons, he, List.range_succ]
  simp [breaksRule, h1, h2, h5, h6, h7, breaks4]

/-- A syllable that comes without a corrected error is reported nowhere. -/
theorem reportCorrection_ok {b : Issue} (h : b.chk = .ok) (s : State) : reportCorrection b s = s := by simp [reportCorrection, h]

/-- What the delivery of a syllable that is alone in its bundle does: the bundle issues. -/
theorem deliver_alone {s : State} {b : Issue} {x : Ctx} (h : Alone s b x) (w : Word) :
    deliverSyl b w s
      = issueBundle x (delivered b w) false { s with eng.step := s.eng.step &&& ~~~(1#16 <<< x.e) } := by
  have hlen : (delivered b w).length = if b.x.isSome then 2 else 1 := by
    unfold delivered; cases b.x <;> rfl
  have hroom := h.room
  have hr : (delivered b w).length ≤ roomAt x.b.pc := by
    rw [← hlen] at hroom; unfold roomAt; omega
  have h8 : (delivered b w).length ≤ 8 := by rw [hlen]; split <;> omega
  have hs : stopsBundle UnitCheck.ok = false := rfl
  simp [deliverSyl, reportCorrection_ok h.ok, hs, h.lead, h.may, h.cls, h.ctx, h.fresh, h.clean, h.ok, h.stop, List.take_of_length_le h8,
    List.take_of_length_le hr, Nat.not_lt.mpr hr]

/-- A bundle of one syllable without an X that meets no trap retires (R197, R201). -/
theorem single_retires {s : State} {b : Issue} {x : Ctx} {w : Word} {l : List Act} (h : Alone s b x) (hk : b.x = none)
    (hx : isX w = false) (he : emulated (w ||| 0x80000000#32) = false)
    (hp : ((pairPositions (w ||| 0x80000000#32)).any fun g => decide (g % 2 = 1)) = false)
    (hl : evalSyl x (x.b.pc + 4#32) (w ||| 0x80000000#32) none = .ok l) : deliverSyl b w s = retire x 1 l s := by
  have hd : delivered b w = [w ||| 0x80000000#32] := by simp [delivered, hk, h.stop]
  have hx' : isX (w ||| 0x80000000#32) = false := by simpa [isX] using hx
  rw [deliver_alone h, hd]
  simp [issueBundle, h.clean, breaks_single hx' he hp, evalAll, hl, xAt, Except.map, retire]


@[simp] theorem isX_stop (w : Word) : isX (w ||| 0x80000000#32) = isX w := by simp [isX]
@[simp] theorem subListed_stop (w : Word) : subListed (w ||| 0x80000000#32) = subListed w := by simp [subListed]
@[simp] theorem emulated_stop (w : Word) : emulated (w ||| 0x80000000#32) = emulated w := by simp [emulated]
@[simp] theorem takesX_stop (w : Word) : takesX (w ||| 0x80000000#32) = takesX w := by simp [takesX]
@[simp] theorem pairPositions_stop (w : Word) : pairPositions (w ||| 0x80000000#32) = pairPositions w := by
  simp [pairPositions]

/-! ### A syllable with its X -/

/-- The value part of an X syllable above the immediate's reach: bits that must be zero (R193). -/
def highOf (w : Word) (v : Nat) : Nat :=
  match format (sylClass w) (sylOp w) with
  | some .rri => v / 2 ^ 22
  | some .ri | some .bi => v / 2 ^ 16
  | _ => 0

theorem x_fields (v : BitVec 28) :
    isX (0xD0000000#32 ||| v.setWidth 32) = true ∧ sylX (0xD0000000#32 ||| v.setWidth 32) = v := by
  constructor
  · have : (0xD0000000#32 ||| v.setWidth 32).extractLsb' 28 3 = 5#3 := by
      apply BitVec.eq_of_getLsbD_eq
      intro i hi
      simp only [BitVec.getLsbD_extractLsb', BitVec.getLsbD_or, BitVec.getLsbD_setWidth]
      interval_cases i <;> simp
    simp [isX, sylClass, this]
  · apply BitVec.eq_of_getLsbD_eq
    intro i hi
    simp only [sylX, BitVec.getLsbD_extractLsb', BitVec.getLsbD_or, BitVec.getLsbD_setWidth]
    interval_cases i <;> simp

/-- A syllable that takes an X whose unused bits are zero forms a bundle with it (R195). -/
theorem breaks_ext {w : Word} {v : BitVec 28} (hx : isX w = false) (he : emulated w = false) (ht : takesX w = true)
    (hp : ((pairPositions w).any fun g => decide (g % 2 = 1)) = false) (hh : highOf w v.toNat = 0) :
    breaksRule [w, 0xD0000000#32 ||| v.setWidth 32] false = none := by
  obtain ⟨hX, hv⟩ := x_fields v
  have heX : emulated (0xD0000000#32 ||| v.setWidth 32) = false := by simp [emulated, hX]
  have hpX : pairPositions (0xD0000000#32 ||| v.setWidth 32) = [] := by simp [pairPositions, hX]
  have hwX : writesRegs (0xD0000000#32 ||| v.setWidth 32) = [] := by simp [writesRegs, hX]
  have h1 : breaks1 [w, 0xD0000000#32 ||| v.setWidth 32] 0 0 0 = none := by
    simp only [breaks1, hx, he, hX, Bool.or_self, Bool.true_or, if_true, Bool.false_eq_true, if_false, Nat.not_lt_zero]
    split <;> [simp; rfl]
  have h2 : breaks2 [w, 0xD0000000#32 ||| v.setWidth 32] 0 false 0 = none := by simp [breaks2, hx, hX, ht]
  have h4 : breaks4 [w, 0xD0000000#32 ||| v.setWidth 32] 0 = none := by
    unfold highOf at hh
    simp only [breaks4, hX, he, hx, hv, Bool.not_true, Bool.or_self, Bool.false_eq_true, if_false]
    rw [if_neg]
    revert hh
    split <;> simp_all
  have h5 : breaks5 [w, 0xD0000000#32 ||| v.setWidth 32] 0 [] = none := by simp [breaks5, hwX]
  have h6 : breaks6 [w, 0xD0000000#32 ||| v.setWidth 32] = none := by simp [breaks6, List.findIdx?_cons, hp, hpX]
  have h7 : breaks7 [w, 0xD0000000#32 ||| v.setWidth 32] = none := by simp [breaks7, List.findIdx?_cons, he, heX]
  simp [breaksRule, h1, h2, h4, h5, h6, h7]

/-- A bundle of one syllable, with or without an X, that meets no trap retires (R197, R201). -/
theorem imm_retires {s : State} {b : Issue} {x : Ctx} {w : Word} {l : List Act} (h : Alone s b x) (hx : isX w = false)
    (he : emulated w = false) (ht : takesX w = true) (hp : ((pairPositions w).any fun g => decide (g % 2 = 1)) = false)
    (hf : ∀ v, b.x = some v → highOf w v.toNat = 0)
    (hl : ∀ w', w' = w ∨ w' = w ||| 0x80000000#32 →
      evalSyl x (x.b.pc + 4#32 * BitVec.ofNat 32 (sylWords b.x)) w' b.x = .ok l) :
    deliverSyl b w s = retire x (sylWords b.x) l s := by
  rw [deliver_alone h]
  cases hk : b.x with
  | none =>
    have hl' := hl _ (Or.inr rfl)
    rw [hk] at hl'
    have hd : delivered b w = [w ||| 0x80000000#32] := by simp [delivered, hk, h.stop]
    rw [hd]
    simp only [sylWords, Option.isSome_none, Bool.false_eq_true, if_false] at hl' ⊢
    have hb := breaks_single (w := w ||| 0x80000000#32) (by simpa using hx) (by simpa using he) (by simpa using hp)
    simp [issueBundle, h.clean, hb, evalAll, xAt, Except.map, retire] at hl' ⊢
    simp [hl']
  | some v =>
    have hl' := hl _ (Or.inl rfl)
    rw [hk] at hl'
    have hd : delivered b w = [w, 0xD0000000#32 ||| v.setWidth 32] := by simp [delivered, hk, h.stop]
    rw [hd]
    have hb := breaks_ext (v := v) hx he ht hp (hf v hk)
    obtain ⟨hX, hv⟩ := x_fields v
    have heX (nx : Word) (k) : evalSyl x nx (0xD0000000#32 ||| v.setWidth 32) k = .ok [] := by simp [evalSyl, hX]
    simp only [sylWords, Option.isSome_some, if_true] at hl' ⊢
    simp [issueBundle, h.clean, hb, evalAll, xAt, Except.map, retire, hX, hx, hv, heX] at hl' ⊢
    simp [hl']

end Sys2Proof.Machine
end

