-- ==== Sys2Proof/Laws/Ops.lean ====
section
/-! SUPPORT. What the shared operations of mailbox commands do: a request that is there runs and is answered, one that is not
leaves only the passing of time. -/

namespace Sys2Proof.Machine

/-- A command that answers at once ends its request. -/
theorem runCommand_done {s s1 : State} {t mb code st : Nat} {w : Work} {p : Bytes} {f : Work → State → Reply × State}
    (h : Asks s mb code w) (hf : f w (advance t s) = (.done st p, s1)) (hw : s1.host.works = s.host.works) :
    runCommand t mb code f s = finish w st p s1 := by
  simp [runCommand, findRequest_advance, h.1, hf, hw, h.2]

/-- A command whose answer comes later marks its request as running. -/
theorem runCommand_later {s s1 : State} {t mb code : Nat} {w : Work} {f : Work → State → Reply × State}
    (h : Asks s mb code w) (hf : f w (advance t s) = (.later, s1)) :
    runCommand t mb code f s = putWork { w with running := true } s1 := by
  simp [runCommand, findRequest_advance, h.1, hf]

/-- With no such request only time passes. -/
theorem runCommand_none {s : State} {t mb code : Nat} {f : Work → State → Reply × State}
    (h : findRequest mb code s = none) : runCommand t mb code f s = advance t s := by
  simp [runCommand, findRequest_advance, h]

/-- The checks of a card, none of which holds. -/
theorem checked_pass {checks : List (Bool × Nat)} {k : Reply × State} {s : State} (h : firstStatus checks = none) :
    checked checks k s = k := by
  simp [checked, h]

/-- The first check of a card that holds gives the status, and nothing of the request is applied. -/
theorem checked_fail {checks : List (Bool × Nat)} {k : Reply × State} {s : State} {st : Nat}
    (h : firstStatus checks = some st) : checked checks k s = (.done st [], s) := by
  simp [checked, h]

/-- An answer changes the host port alone. -/
theorem finish_frame (w : Work) (st : Nat) (p : Bytes) (s : State) :
    ({ finish w st p s with host := s.host } : State) = s := by
  unfold finish writeResponse setIrq
  dsimp only
  repeat' split
  all_goals rfl

end Sys2Proof.Machine
end

