-- ==== Sys2Proof/WellFormed.lean ====
section
/-! DEFINITION. Which commands are well formed: operands that the command's rule admits at all. A command that is not well
formed stands for no event of the hardware; every meaning is total and gives it a next state all the same. -/

namespace Sys2Proof

/-- A voltage or current fits the 16-bit field that reports it (R80, R325). -/
def fits16 (v : Nat) : Bool := decide (v < 65536)

/-- A register offset of the 32-bit window (R556). -/
def wordOffset (v : Nat) : Bool := decide (v % 4 = 0 ∧ v < 65536)

/-- A ring frame is at least a MSG header with its CRC, and at most the longest SUM frame (R370, R374). -/
def ringBytes (b : Bytes) : Bool := decide (8 ≤ b.length ∧ b.length ≤ 65535)

/-- The operands of a command lie in what its rule admits. -/
def Instr.wf : Instr → Bool
  | .vinGood _ mv | .vinFall _ mv | .vholdCollapse _ mv | .vrtcApplied _ mv | .timeLostDetect _ mv => fits16 mv
  | .holdupChargeDone _ a b _ => fits16 a && fits16 b
  | .interpolatorDone _ _ n1 n2 _ => decide (0 < n2 ∧ n1 ≤ 2 * n2)
  | .eventStamp _ _ kind _ => decide (kind ≤ 7)
  | .magSample _ m => fits16 m
  | .linkErrorWindow _ _ errors bits => decide (errors ≤ bits)
  | .mramScrub _ _ bad _ => bad.keys.all fun k => decide (k < 65536)
  | .magAlertClear _ bad => bad.keys.all fun k => decide (k < 65536)
  | .dieOverload _ _ load => decide (load.currents.length = 16)
  | .vfldLow _ _ mv | .vfldRestore _ _ mv => fits16 mv
  | .keyMatrixScan _ _ classes => decide (classes.length = 8)
  | .svRx _ m => m.asdus.all fun a => decide (a.length = 8)
  | .sumRxStation _ _ b | .sumReturn _ _ b | .beaconRx _ _ b | .ringFrameForward _ _ b _ => ringBytes b
  | .admission _ b | .cfgBlock _ b | .cfgCommit _ b | .msgStatus _ b | .msgReply _ b => ringBytes b
  | .snapshotRecord _ _ points => points.all fun p => decide (p.1 < 2 ^ 32)
  | .alignBlock _ (.mirror _ addr data) => decide (addr % 4 = 0 ∧ data.length % 4 = 0)
  | .controlRecord _ (.health report) => decide (report.length = 64)
  | .doorbell _ _ _ request => decide (request.length ≤ 4096)
  | .registerWrite _ offset _ | .highWordLatch _ offset => wordOffset offset
  | .windowAccessInSlumber _ _ offset _ => wordOffset offset
  | _ => true

end Sys2Proof
end

