-- ==== Sys2Proof/Tests/Slice0.lean ====
section
/-! SUPPORT. Tests: terms that the well-formedness checks refuse, and for each statement a state and operands that meet its
hypotheses, at the ends of their ranges. -/

set_option maxRecDepth 20000

namespace Sys2Proof.Tests

open Sys2Proof Sys2Proof.Machine

/-! ### Well-formedness -/

theorem test_wf_voltages : Instr.wf (.vinGood 0 65536) = false ∧ Instr.wf (.vinFall 0 65536) = false
    ∧ Instr.wf (.vholdCollapse 0 65536) = false ∧ Instr.wf (.vrtcApplied 0 65536) = false
    ∧ Instr.wf (.timeLostDetect 0 65536) = false ∧ Instr.wf (.holdupChargeDone 0 65536 0 0) = false
    ∧ Instr.wf (.holdupChargeDone 0 0 65536 0) = false ∧ Instr.wf (.magSample 0 65536) = false
    ∧ Instr.wf (.vfldLow 0 0 65536) = false ∧ Instr.wf (.vfldRestore 0 0 65536) = false
    ∧ Instr.wf (.vinGood 0 65535) = true := by decide
theorem test_wf_interpolator : Instr.wf (.interpolatorDone 0 0 1 0 0) = false ∧ Instr.wf (.interpolatorDone 0 0 3 1 0) = false
    ∧ Instr.wf (.interpolatorDone 0 0 2 1 0) = true := by decide
theorem test_wf_event_kind : Instr.wf (.eventStamp 0 0 8 0) = false ∧ Instr.wf (.eventStamp 0 0 7 0) = true := by decide
theorem test_wf_link_errors : Instr.wf (.linkErrorWindow 0 0 2 1) = false := by decide
theorem test_wf_keys : Instr.wf (.magAlertClear 0 ⟨[65536], false, false⟩) = false ∧ Instr.wf (.magAlertClear 0 ⟨[65535], false, false⟩) = true := by decide
theorem test_wf_ring_frame : Instr.wf (.sumReturn 0 0 [0#8]) = false ∧ Instr.wf (.msgReply 0 (List.replicate 8 0#8)) = true := by
  decide
theorem test_wf_offsets : Instr.wf (.registerWrite 0 2 0#32) = false ∧ Instr.wf (.registerWrite 0 65536 0#32) = false
    ∧ Instr.wf (.highWordLatch 0 6) = false ∧ Instr.wf (.highWordLatch 0 65532) = true := by decide

/-! ### A task at work

Task 16 runs on engine 0 in the class of SCAN tasks; its bank holds `bank`. -/

def stripe0 : Stripe :=
  { wImg := [⟨0x20000000, 0x20000040⟩, ⟨0x50000000, 0x50000004⟩], wData := [⟨0x10000000, 0x10000200⟩]
    dataSpill := 0x10000100, dataSpillLen := 64, retSpill := 0x10000180, retSpillLen := 128 }
def decl0 : TaskDecl :=
  { num := 16, stripes := [stripe0], inputs := [⟨0x10000000, 0x10000020⟩, ⟨0x40000000, 0x40000004⟩]
    outputs := [⟨0x20000000, 0x20000040⟩, ⟨0x50000000, 0x50000004⟩] }
def bank : Bank :=
  { g := [(2, 0x10000000#32), (3, 1#32), (4, 8#32), (6, 0x7FC00000#32), (7, 0x40000000#32), (8, 0x20000000#32), (9, 0x10000001#32)]
    inst := 0x10000000#32, ds := [1#32, 2#32], rs := [(0x40#32, 0#32)], task := some 16, waiting := false }
def fullBank : Bank := { bank with ds := List.replicate 64 5#32 }
def running (b : Bank) : State :=
  { State.reset with ps.prog := some { part4 := { tasks := [decl0] } }, eng.banks := [(2, b)] }
def ctx (b : Bank) (s : State) : Ctx := { s := s, e := 0, c := 2, n := 16, d := decl0, st := stripe0, b := b }
def x0 : Ctx := ctx bank (running bank)
def lone (k : Option (BitVec 28)) : Issue := ⟨0, true, k, .ok⟩

theorem alone_plain : Alone (running bank) (lone none) x0 := ⟨rfl, rfl, rfl, rfl, rfl, rfl, rfl, rfl, by decide⟩
theorem alone_with_x : Alone (running bank) (lone (some 0x3FFFFF#28)) x0 :=
  ⟨rfl, rfl, rfl, rfl, rfl, rfl, rfl, rfl, by decide⟩
theorem alone_full : Alone (running fullBank) (lone none) (ctx fullBank (running fullBank)) :=
  ⟨rfl, rfl, rfl, rfl, rfl, rfl, rfl, rfl, by decide⟩

/-- The last X that fits above a 10-bit and above a 16-bit immediate. -/
theorem test_fits_x : fitsX (some 0x3FFFFF#28) 22 ∧ fitsX (some 0xFFFF#28) 16 ∧ fitsX none 22 := by
  refine ⟨fun v h => ?_, fun v h => ?_, fun v h => by cases h⟩ <;> (cases h; decide)

/-- Pairs, a divisor, a Boolean opcode's last SUB. -/
theorem test_word_operands : (2#6).toNat % 2 = 0 ∧ (4#6).toNat % 2 = 0 ∧ (6#6).toNat % 2 = 0 ∧ x0.reg 3 ≠ 0#32 ∧ x0.reg 5 = 0#32
    ∧ (7#4).toNat < 8 := by decide
/-- Points: an input bit, an input word, an output bit, an output word. -/
theorem test_points : addrCheck 0x1000001F = none ∧ x0.readCheck 0x1000001F = none ∧ isWordPoint 0x1000001F = false
    ∧ addrCheck 0x40000003 = none ∧ x0.readCheck 0x40000003 = none ∧ isWordPoint 0x40000003 = true
    ∧ addrCheck 0x2000003F = none ∧ x0.writeCheck 0x2000003F = none ∧ isWordPoint 0x2000003F = false
    ∧ addrCheck 0x50000003 = none ∧ x0.writeCheck 0x50000003 = none ∧ isWordPoint 0x50000003 = true
    ∧ (∀ a ∈ wordPoints 0x10000000, x0.readCheck a = none) ∧ (∀ a ∈ wordPoints 0x20000020, x0.writeCheck a = none) := by
  decide
/-- Floats: two NaNs, numbers in order, an integer below 2^31. -/
theorem test_floats : Flt.unpack (x0.reg 6) = .nan ∧ Flt.unpack (x0.reg 7) ≠ .nan
    ∧ (Flt.unpack (x0.reg 5)).le (Flt.unpack (x0.reg 7)) = true ∧ (Flt.unpack (x0.reg 7)).le (Flt.unpack (x0.reg 5)) = false
    ∧ Flt.unpack 0x4E800000#32 = .fin false 0x800000 (7 : Nat) ∧ 0x800000 * 2 ^ 7 < 2 ^ 31 := by decide
/-- The data window: every width of access, the first and the last words of the write mask. -/
theorem test_data_access : x0.dataLoad 0x10000000 8 = .ok (List.replicate 8 0#8) ∧ x0.load 0x10000001 1 = .ok [0#8]
    ∧ x0.load 0x10000002 2 = .ok [0#8, 0#8] ∧ x0.load 0x10000004 4 = .ok (List.replicate 4 0#8)
    ∧ x0.tableLoad 0x40000000 8 = .ok (List.replicate 8 0#8) ∧ inData 0x10000000 = true ∧ inData 0x100001F8 = true
    ∧ x0.dataWriteCheck 0x100001F8 8 = none ∧ x0.dataWriteCheck 0x10000000 1 = none
    ∧ x0.dataReadCheck 0x10000000 0x24 = none ∧ x0.dataWriteCheck 0x10000008 0x1C = none
    ∧ x0.dataWriteCheck 0x10000004 8 = none ∧ x0.dataReadCheck 0x10000000 0xC = none := by decide
/-- The stacks: with room, with two entries, full with room to spill. -/
theorem test_stacks : x0.b.ds.length < 63 ∧ x0.b.rs.length < 64 ∧ (∃ p q r, x0.b.ds = p :: q :: r)
    ∧ (∃ p i r, x0.b.rs = (p, i) :: r ∧ p.toNat % 4 = 0) ∧ fullBank.ds.length = 64
    ∧ 4 * (fullBank.dsSpilled + 16) ≤ stripe0.dataSpillLen ∧ (x0.reg 4).toNat % 4 = 0 :=
  ⟨by decide, by decide, ⟨_, _, _, rfl⟩, ⟨_, _, _, rfl, by decide⟩, by decide, by decide, by decide⟩
/-- A timer that runs, with the input on and off, and one whose input stays. -/
theorem test_timer_cases : let old := readTimer 10 (leBytes 8 5 ++ leBytes 8 4 ++ leBytes 8 0 ++ leBytes 8 0 ++ leBytes 4 3)
    (old.prev ∨ old.timed) ∧ old.pt ≤ 10 - old.start := by decide

/-- The same task with the vectors of EMULATE, SOFT and DIV_ZERO set; the first is, or is not, the system library's. -/
def vectored (lib : Word) : State :=
  let s := running bank
  { s with ps.prog := some { part4 := { tasks := [decl0] }, sysLibVec := lib, sysLibDiv := lib }
           eng.regions := [(0, { code := [(0x105, 4#8), (0x109, 4#8), (0x10D, 4#8)] })] }
theorem test_trap_vectors : Alone (vectored 0#32) (lone none) (ctx bank (vectored 0#32))
    ∧ Alone (vectored 0x400#32) (lone none) (ctx bank (vectored 0x400#32))
    ∧ ((vectored 0#32).region 0).root = 0x100
    ∧ ([1, 2, 3].all fun k => Memory.readWord ((vectored 0#32).region 0).code (0x100 + 4 * k) = 0x400#32) = true
    ∧ ((vectored 0#32).task 16).epoch = (vectored 0#32).ps.epoch ∧ (prog (vectored 0x400#32)).sysLibVec = 0x400#32
    ∧ (prog (vectored 0x400#32)).sysLibDiv = 0x400#32
    ∧ emulated (encSyl 6 0 0#6 0#16) = true ∧ Memory.readWord ((running bank).region 0).code 0x108 = 0#32
    ∧ inData (x0.reg 9).toNat = true ∧ (x0.reg 9).toNat % 4 ≠ 0 :=
  ⟨⟨rfl, rfl, rfl, rfl, rfl, rfl, rfl, rfl, by decide⟩, ⟨rfl, rfl, rfl, rfl, rfl, rfl, rfl, rfl, by decide⟩, rfl, by decide, rfl, rfl,
    rfl, by decide, by decide, by decide, by decide⟩
/-- A bundle of register acts, a context of a real bank, and a syllable without STOP at the last place of the code window. -/
theorem test_bundle : (∀ a ∈ ([.reg 2 1#32 1, .jump 0#32, .stall 1] : List Act), bankOnly a = true) ∧ x0.e < 16 ∧ x0.c < 4
    ∧ x0.b.inflight = [] ∧ x0.b.bundle.length + sylWords (some 0#28) < 8
    ∧ (codeSize - 4) + 4 * (0 + sylWords none) ≤ codeSize := by decide

/-! ### Base states -/

/-- A module in full service. -/
def up : State :=
  { State.reset with now := 10, axis := 10, power.state := .run, power.service := .full, power.vinMv := 24000, power.vaonGood := true
                     clk.ready := 63#6, time.running := true }
/-- The same in OFF, and in SLUMBER with a program. -/
def asleep : State :=
  { up with power.state := .slumber, ps.prog := some {}, power.wakeFlags := 1#8, power.alarmTai := 5, time.tai := 5 }

/-- The request of a command in mailbox 0. -/
def req (code : Nat) (p : Bytes) : Work := { wid := 1, mb := 0, code := code, payload := p, accepted := true }
def ask (code : Nat) (p : Bytes) (s : State) : State := { s with host.works := [req code p] }
theorem asks (code : Nat) (p : Bytes) (s : State) : Asks (ask code p s) 0 code (req code p) := by
  constructor <;> simp [ask, req, findRequest]

/-! ### Power, calendar, clocks -/

theorem test_power_up : State.reset.power.state = .off ∧ (17000 : Nat) ≤ 17000 ∧ (60000 : Nat) ≤ 60000 := by decide
theorem test_supplies : asleep.power.state ≠ .off ∧ asleep.power.state ≠ .backup ∧ (up.power.state = .run ∨ up.power.state = .slumber)
    ∧ State.reset.power.vaonGood = false ∧ 16000 ≤ up.power.vinMv ∧ up.power.vaonGood = true
    ∧ ({ up with power.service := .resetHeld } : State).power.service = .resetHeld ∧ up.clk.rcHold = false
    ∧ (425 * (10000 * 80000 / (16000 - 12000)) * (16000 * 16000 - 144000000) < 204 * 10 ^ 11) = False := by decide
theorem test_holdup : let s (ok : Bool) (vin rtc : Nat) : State :=
      { up with power.vinLowAt := some 0, power.vinMv := vin, power.vrtcMv := rtc, power.vinOk := ok }
    let h : State := { s false 0 0 with power.state := .holdup }
    (s true 15999 0).power.vinLowAt = some 0 ∧ 0 + 200000 ≤ (advance 200000 (s true 15999 0)).now ∧ (s true 15999 0).power.state = .run
    ∧ (s true 15999 0).power.vinOk = true ∧ (s false 15999 1600).power.vinOk = false ∧ (s false 15999 1600).power.vinMv < 16000
    ∧ 1600 ≤ (s false 15999 1600).power.vrtcMv ∧ (s false 15999 1599).power.vrtcMv < 1600 ∧ 16000 ≤ (s false 16000 0).power.vinMv
    ∧ h.power.state = .holdup ∧ h.power.vinOk = false ∧ up.power.resetLow = false ∧ up.power.service = .full := by decide
theorem test_slumber : let s : State := { up with power.slumberReq := true }
    s.power.slumberReq = true ∧ s.power.state = .run ∧ boundary (advance 0 s) = true ∧ (∀ p ∈ s.scan.tasks, p.2.state ≠ .running)
    ∧ s.power.vinLowAt = none ∧ s.power.keptWake = .none ∧ s.power.slumberStep = 0 ∧ asleep.power.state = .slumber
    ∧ asleep.power.wakeEv.getLsbD 79 = false ∧ asleep.power.wakeFlags.getLsbD 0 = true ∧ asleep.power.alarmTai ≠ 0
    ∧ ({ asleep with power.wakeEv := 1#128 <<< 79 } : State).power.wakeEv.getLsbD 79 = true
    ∧ ({ asleep with power.wakeFlags := 0#8 } : State).power.wakeFlags.getLsbD 0 = false
    ∧ asleep.power.alarmTai ≤ (advance 0 asleep).time.tai ∧ up.power.vaonIn = false ∧ up.power.vaonGood = true
    ∧ ({ up with power.state := .backup, power.vinMv := 15999 } : State).power.state = .backup := by decide
theorem test_boundary : let stop : State := { up with scan.stopPending := true, ps.prog := some {} }
    boundary stop = true ∧ stop.scan.stopPending = true ∧ stop.edit.epoch = none ∧ stop.edit.switchAt = none ∧ stop.ps.prog.isSome = true := by decide
theorem test_epoch_switch : let s : State :=
      { up with edit.epoch := some {}, edit.state := 2, scan.mode := 2, scan.atBoundary := true, edit.switchScan := 3, scan.scan := 3 }
    boundary s = true ∧ s.edit.epoch = some {} ∧ s.edit.state = 2 ∧ s.scan.mode = 2 ∧ s.edit.switchScan ≤ s.scan.scan
    ∧ s.pair.role = .solo := by decide
theorem test_handover : let k : State := { up with pair.handover := some 2, scan.scan := 2, pair.role := .keeper, pair.state := 3
                                                   pair.ackScan := 1, pair.targetHealth := 0 }
    let a : State := { k with pair.role := .apprentice, pair.shipped := [(0, some {})] }
    boundary k = true ∧ (2 : Nat) ≤ k.scan.scan ∧ k.pair.role = .keeper ∧ k.pair.state = 3 ∧ 2 ≤ k.pair.ackScan + 1 ∧ k.upd.phase = 0
    ∧ k.upd.state ≠ 4 ∧ k.pair.targetHealth ≤ (partnerTarget k).toNat / 256 % 128 ∧ boundary a = true
    ∧ (a.pair.shipped.get none 0).isSome = true ∧ a.upd.phase = 0 ∧ a.upd.state ≠ 6
    ∧ (partnerTarget a).toNat / 256 % 128 ≤ a.pair.targetHealth := by decide
theorem test_calendar : let s : State := { up with cal.second := 57 }
    let mid : State := { up with cal.hour := 23, cal.minute := 59, cal.second := 59 }
    let set : State := { up with cal.next := [{ year := 2024, month := 2, day := 29, hour := 23, minute := 59, second := 59 }] }
    s.cal.next = [] ∧ s.cal.halted = false ∧ s.cal.reload = false ∧ s.cal.second < 58 ∧ leapToday mid = 0
    ∧ (dateOf (calDay mid + 1)).1 < 2400 ∧ set.cal.next.length = 1 ∧ s.power.vaonGood = true := by decide
theorem test_cal_halt : let s : State := { up with cal.halted := true, cal.haltAt := 0 }
    s.cal.halted = true ∧ s.cal.haltAt + 10000000000 ≤ (advance 10000000000 s).now ∧ s.cal.next = [] := by decide
theorem test_trim : let s : State := { up with cal.auto := true, time.state := 2, cal.learned := -3000 }
    s.cal.auto = true ∧ s.time.state = 2 ∧ s.cal.learnAt + 600000000000 ≤ (advance 600000000000 s).now ∧ up.time.state ≠ 2
    ∧ (advance 599999999999 s).now < s.cal.learnAt + 600000000000 := by decide
theorem test_cal_commands : up.time.state ≠ 2 ∧ up.pair.role ≠ .station ∧ up.power.state ≠ .holdup
    ∧ field [1#8] 0 1 0 = 1 ∧ field ([] : Bytes) 0 1 0 = 0
    ∧ (leapEntries (zeros 8) 0 8).all (fun e => e.2 ≠ 0 && lastOfMonth e.1) = true ∧ daysAscend (leapEntries (zeros 8) 0 8) = true := by
  decide
theorem test_clocks : let cold : State := { up with clk.ready := 0#6 }
    let w : State := { up with power.waking := true }
    ([.rcSlow, .rcFast, .xs, .xm, .pllSys, .pllNet].all fun k => mayReady (advance 3000000000 up) k) = true
    ∧ mayReady (advance 3000000000 w) .pllSys = true ∧ up.power.waking = false ∧ mayReady up .tally = false ∧ cold.clk.ready.getLsbD 3 = false ∧ cold.clk.xmFail = false
    ∧ cold.clk.since.get 0 3 + 4 * cold.bcr.xmStart * 500000 ≤ (advance (2000000 * cold.bcr.xmStart) cold).now
    ∧ cold.clk.since.get 0 2 + 2 * cold.bcr.xsStart * 100000000 ≤ (advance (200000000 * cold.bcr.xsStart) cold).now ∧ cold.clk.xsFail = false
    ∧ up.clk.monitorsOff = false ∧ up.clk.ready.getLsbD 3 = true ∧ up.clk.ready.getLsbD 2 = true ∧ up.power.state ≠ .off := by decide
theorem test_clock_requests : let pll : State := { up with clk.pllNetAt := some 0 }
    let hold : State := { up with clk.rcHold := true }
    let slow : State := { up with clk.switch := some (1, 1) }
    let sys : State := { up with clk.switch := some (0, 0) }
    let prof : State := { up with scan.bnd := [.profile 2 7] }
    pll.clk.pllNetAt = some 0 ∧ (advance 10000000 pll).now ≤ 0 + 10000000 ∧ hold.clk.rcHold = true ∧ slow.clk.switch = some (1, 1)
    ∧ atWholeSecond { slow with cal.subsec := 0, cal.secondAt := 10 } = true ∧ atWholeSecond { slow with cal.subsec := 1, cal.secondAt := 10 } = false
    ∧ sys.clk.switch = some (0, 0) ∧ boundary (advance 0 sys) = true ∧ prof.scan.bnd = [.profile 2 7]
    ∧ boundary (advance 0 prof) = true ∧ (prof.host.works.find? fun v => v.wid = 7) = none
    ∧ ({ up with power.releaseHold := true } : State).power.heldReleases = [] ∧ up.clk.switch = none ∧ up.pair.role = .solo := by
  decide

/-! ### Tasks, edits, Ledger -/

/-- A periodic task declared, nothing running, the program in RUN. -/
def decl1 : TaskDecl := { decl0 with num := 1 }
def idle : State := { up with ps.prog := some { part4 := { tasks := [decl1] } }, scan.mode := 2 }
theorem test_release : taskDecl idle 1 = some decl1 ∧ isPeriodicTask 1 = true ∧ idle.scan.mode = 2
    ∧ 1000 * phaseUs idle decl1 + (idle.task 1).nextK * (1000 * periodUs idle decl1) ≤ taskMono (advance 0 idle)
    ∧ mayRelease idle 1 = true ∧ idle.pair.role ≠ .apprentice ∧ (idle.task 1).state = .idle ∧ (idle.task 1).held = false
    ∧ switchDue idle = false ∧ idle.power.releaseHold = false ∧ ({ idle with power.releaseHold := true } : State).power.releaseHold = true := by decide
theorem test_snapshot : let s := idle.setTask 1 { state := .released }
    (1 : Fin 51) ≠ 0 ∧ maySnapshot 1 s = true ∧ taskDecl s 1 = some decl1 ∧ s.pair.role = .solo ∧ s.pair.shipping = false
    ∧ svBound s 1 = [] ∧ dueEpochs s 1 (s.task 1).layout (s.task 1).epoch = [] ∧ 0x1000001F ∈ addrsOf decl1.inputs ∧ spaceOf 0x1000001F ≠ 7
    ∧ captures s 0x1000001F = false := by decide
theorem test_publish : let s := idle.setTask 1 { state := .running, ended := [0] }
    taskDecl s 1 = some decl1 ∧ cycleDone 1 decl1 s = true ∧ (prog s).spb = none ∧ s.edit.epoch = none ∧ s.pair.role = .solo ∧ s.scan.bnd = []
    ∧ s.pair.commands = [] := by decide
theorem test_barrier : let d : TaskDecl := { decl1 with
      stripes := [stripe0, { stripe0 with phase := 1 }], barriers := [{ n := 0, phase := 0, engines := [0] }] }
    let s : State := { idle with ps.prog := some { part4 := { tasks := [d] } } }.setTask 1
      { state := .running, arrived := [0], barrier := some 0 }
    taskDecl s 1 = some d ∧ (openBarrier 1 d s).isSome = true ∧ (s.task 1).phaseDirty = [] := by decide
theorem test_overrun_remap : let s : State := { up.setTask 0 { state := .running } with time.mono := 100000000 }
    let r : State := { up with power.remapPending := true }
    (s.task 0).state = .running ∧ (s.task 0).overrun = false ∧ baseMaxUs s ≤ ((advance 0 s).time.mono - (s.task 0).releasedAt) / 1000
    ∧ r.power.remapPending = true ∧ r.power.failed = false ∧ ({ idle with power.remapPending := true } : State).scan.mode = 2 := by decide

/-! EDIT_COMMIT's passing checks read the epoch that a payload carries, an opaque constant, so its clause has no witness on bytes. -/

/-- A container header of an epoch: no signature, one table block of 48 bytes and one data block of one byte. -/
def header (kind total data : Nat) (hash desc : Bytes) : Bytes :=
  leBytes 4 0x31434E44 ++ leBytes 2 1 ++ leBytes 1 kind ++ [0#8] ++ leBytes 2 160 ++ leBytes 2 512 ++ leBytes 2 1 ++ zeros 2
    ++ leBytes 4 total ++ leBytes 4 data ++ leBytes 2 0x9664 ++ [0#8, 0#8] ++ zeros 84 ++ hash ++ desc
/-- A descriptor with code for both partitions. -/
def desc : Bytes := zeros 24 ++ leBytes 4 1 ++ zeros 12 ++ leBytes 4 1 ++ zeros 20
theorem test_edit_stage : let h := header 2 1 1 (zeros 48) desc
    let s : State := ask 0x0401 (leBytes 4 1 ++ zeros 4 ++ h) { up with
      ps.prog := some {} }
    hdrLen h = 160 ∧ fitsShadow s (descOf h) = true ∧ hasBoth (descOf h) = true ∧ headerOk 2 1 h s = true
    ∧ w32 (leNat (slice (descOf h) 0 4)) = (prog s).imageId ∧ leNat (slice (descOf h) 4 4) = s.ps.epoch
    ∧ (prog s).len + 1 ≤ 25165824 ∧ editBusy s = false ∧ s.ps.loadId = none ∧ updBusy s = false ∧ profileWaits s = false
    ∧ profileWaits s = false ∧ s.ps.prog.isSome = true ∧ notMine s = false := by decide
theorem test_edit_block : let table := zeros 48
    let h := header 2 1 1 (sha384 table) desc
    blockLenOk h 0 table.length = true ∧ blockHashOk h [] 0 table = true := by decide +kernel
theorem test_edit_end : let s : State := { up with edit.state := 1, edit.lastCmd := 0 }
    s.edit.state = 1 ∧ s.edit.lastCmd + 60000000000 ≤ (advance 60000000000 s).now ∧ up.edit.state ≠ 1 ∧ s.pair.handover = none
    ∧ (commitCheck s (stagedEpoch s)).1 ≠ 0 ∧ s.edit.asked = false ∧ s.pair.shipping = false ∧ s.pair.role ≠ .apprentice
    ∧ ({ s with pair.role := .keeper, pair.shipping := true } : State).edit.asked = false := by decide

theorem test_firn : let r : LdgRec := { cls := 3, data := [1#8], seq := 1 }
    let s : State := { up with ldg.opened := true, ldg.mram := [(0xFF20, some r)] }
    let e : State := { up with ldg.opened := true, ldg.fallback := true }
    let c : State := { e with ldg.firnClosed := [1], ldg.firnRetired := (List.range 487).map (· + 2) }
    classOf s 0xFF20 = 3 ∧ firnBehind s 0xFF20 = true ∧ firnAvailable (advance 0 s) = true ∧ rawRec s 0xFF20 = some r ∧ r.deleted = false
    ∧ e.ldg.hot = [] ∧ firnAvailable (advance 10000000000 e) = true ∧ c.ldg.flashFailed = false ∧ firnFree c = 23 ∧ c.ldg.firnClosed = [1] := by decide
theorem test_journal : let s : State := { up with ldg.journal := [{ pairs := [(5, 7#32)], committed := true }] }
    ∃ e, s.ldg.journal = [e] ∧ e.committed = true ∧ e.pairs = [(5, 7#32)] := ⟨_, rfl, rfl, rfl⟩
theorem test_magnetometer : let a : State := { up with ldg.magHighAt := some 0 }
    let c : State := { up with ldg.magLowAt := some 0, ldg.magAlert := true }
    a.ldg.magHighAt = some 0 ∧ a.ldg.magAlert = false ∧ 0 + 10000000 ≤ (advance 10000000 a).now ∧ c.ldg.magLowAt = some 0
    ∧ c.ldg.magAlert = true ∧ 0 + 10000000000 ≤ (advance 10000000000 c).now := by decide
theorem test_archive : let s : State := { up with ev.soe := List.replicate 128 {}, ev.soeUnarchived := 128 }
    s.ldg.flashFailed = false ∧ s.ldg.magAlert = false ∧ 128 ≤ s.ev.soeUnarchived ∧ s.ev.soeUnarchived ≤ s.ev.soe.length
    ∧ s.ev.archive.length + s.ev.soeUnarchived ≤ 5767168 := by decide
/-- LDG_WRITE of one byte to the last key that a program has, a delete and an ADD. -/
def write (op : Nat) (s : State) : State := ask 0x0A01 (leBytes 2 0xFEFF ++ leBytes 1 op ++ zeros 7 ++ leBytes 2 1 ++ zeros 4 ++ [7#8]) s
theorem test_ledger_write : let w (op : Nat) := leBytes 2 0xFEFF ++ leBytes 1 op ++ zeros 7 ++ leBytes 2 1 ++ zeros 4 ++ [7#8]
    field (w 0) 0 2 0 = 0xFEFF ∧ field (w 1) 2 1 0 = 1 ∧ field (w 0) 4 4 0 = 0 ∧ field (w 0) 8 2 0 = 0 ∧ field (w 0) 10 2 0 = 1
    ∧ (w 0).drop 16 = [7#8] ∧ fits up 0xFEFF (newRec up 0xFEFF false false [0#8]) = true ∧ curRec up 0xFEFF = none
    ∧ (curRec { up with ldg.mram := [(0xFEFF, some { counter := true })] } 0xFEFF).isSome = true := by decide
theorem test_ledger_rest : let s : State := { up with ldg.parts := [(3, some {})] }
    let b : State := { up with ldg.tblStaged := [{ table := 0, data := [1#8] }] }
    let d : State := { up with ps.prog := some { tables := [(0, { base := 0, len := 8 })] } }
    s.ldg.parts.get none 3 = some {} ∧ 0 + 1000000000 ≤ (advance 1000000000 s).now ∧ hotBytes up ≤ 2097152
    ∧ (∀ j, j ∈ ldgKeys up → j < 0 ∨ 0xFEFF < j) ∧ boundary b = true ∧ ((prog d).tables.get {} 0).len ≠ 0
    ∧ heldPages d + (stagedPages d ++ pagesOf 0 8 0).dedup.length ≤ 512 ∧ (prog d).spb = none ∧ payloadBit (zeros 8) 5 7 = false := by decide

/-! ### Program, Rime, events, start -/

theorem test_load : let h := header 1 1 1 (zeros 48) []
    headerOk 1 1 h up = true ∧ (1 : Nat) ≤ 25165824 ∧ up.ps.loadId = none ∧ editBusy up = false ∧ updBusy up = false
    ∧ notMine up = false ∧ ({ up with ps.loadId := some 0 } : State).ps.loadId = some (field ([] : Bytes) 0 2 0) := by decide
theorem test_load_block : let s : State := { up with ps.loadId := some 0, ps.header := header 1 1 1 (sha384 (zeros 48)) [] }
    s.ps.blocks.get [] 0 = [] ∧ blockLenOk s.ps.header 0 (zeros 48).length = true
    ∧ blockHashOk s.ps.header s.ps.blocks 0 (zeros 48) = true := by decide +kernel
theorem test_mode_and_forces : let s : State := { idle with scan.forces := [(0x50000000, some 7#32)] }
    idle.scan.mode = 2 ∧ idle.ps.prog.isSome = true ∧ editBusy idle = false ∧ isWordPoint 0x50003FFF = true ∧ spaceOf 0x50003FFF = 5
    ∧ indexOk (spaceOf 0x50003FFF) (indexOf 0x50003FFF) = true ∧ safetyPoint idle 0x50003FFF = false ∧ (forcesAhead idle).length < 256
    ∧ s.scan.forces.get none 0x50000000 = some 7#32 ∧ safetyPoint s 0x50000000 = false
    ∧ updBusy idle = false ∧ notMine idle = false ∧ 1 ≤ spaceOf 0x50003FFF ∧ spaceOf 0x50003FFF ≤ 5 ∧ idle.pair.role = .solo
    ∧ (let e : State := { up with ps.prog := some { part4 := { tasks := [decl0] } }, scan.mode := 2 }
      taskDecl e (min 50 (field [16#8] 0 1 0)) = some decl0 ∧ isEventTask 16 = true ∧ safetyTask (prog e) 16 = false ∧ e.scan.mode = 2) := by decide
theorem test_queries : let e : State := { up with ev.soe := [{ seq := 1 }, { seq := 2 }], sup.log := [{ seq := 2 }, { seq := 1 }] }
    spaceOf 0x80000F7F = 8 ∧ indexOk (spaceOf 0x80000F7F) (indexOf 0x80000F7F) = true ∧ (soeHeld e).head? = some { seq := 1 }
    ∧ (soeHeld e).getLast? = some { seq := 2 } ∧ newerSeq 0 2 = false ∧ (e.sup.log.reverse.head?).isSome = true ∧ e.pair.role ≠ .apprentice
    ∧ ({ e with pair.role := .apprentice } : State).pair.role = .apprentice
    ∧ (spb { up with ps.prog := some { spb := some { conns := [{}] } } }).conns ≠ [] := by decide
theorem test_rule : let r : Rule := { inp := [0], terms := [1#16], target := 0x13F, enabled := true }
    let c : Rule := { r with target := 63 }
    let s (r : Rule) : State := { up with rime.mode := 2, rime.set := [(5, r)], fld.ch := [(63, { owner := 1#32 })] }
    (s r).rime.mode = 2 ∧ (s r).rime.stopped = false ∧ serving (s r) = true ∧ (s r).rime.set = [(5, r)] ∧ ruleSources (s r) 5 = []
    ∧ (s r).rime.sweepAt ≤ (advance 0 (s r)).now ∧ (advance 0 { s r with rime.sweepAt := 11 }).now < ({ s r with rime.sweepAt := 11 } : State).rime.sweepAt
    ∧ r.target % 4096 = 0x40 + 255 ∧ c.target % 4096 = 63 ∧ ownMode ((s c).chan 63).owner ≠ 0 ∧ ruleSources (s c) 5 = [] := by decide
theorem test_reflex_disagree : let c : Channel := { reflexAt := some 0, cfg := { function := 1 } }
    let s : State := { up with fld.ch := [(0, c)], rime.set := [(5, { inp := [0], enabled := true })] }
    let k := settleReflex (advance (filterNs c.cfg + 1000001) s).now (s.chan 0)
    k.reflexAt = some 0 ∧ isInput k.cfg = true ∧ ruleReads s 0 = true ∧ k.faults.getLsbD 8 = false
    ∧ 0 + (filterNs k.cfg + 1000001) ≤ (advance (filterNs c.cfg + 1000001) s).now := by decide
theorem test_stamps : let e : State := { up with ev.inbox := [{ source := 3 }] }
    let i : State := { up with ev.interp := [{ group := 0, source := 3 }], fld.ch := [(3, { cand := some 0 })] }
    let a : State := { up with ev.interp := [{ group := 4, source := 80 }] }
    up.ev.fifo.length < fifoSize ∧ up.power.wakeEv.getLsbD 64 = false ∧ takeWaiting 64 up.ev.inbox = none
    ∧ takeWaiting 87 up.ev.inbox = none ∧ takeWaiting 3 e.ev.inbox = some ({ source := 3 }, [])
    ∧ earlierPeers { source := 3 } [] = [] ∧ takeWaiting 127 [{ source := 127 }, { source := 96 }] = some ({ source := 127 }, [{ source := 96 }])
    ∧ earlierPeers { source := 127 } [{ source := 96 }] = [{ source := 96 }] ∧ up.power.wakeEv = 0#128
    ∧ (i.ev.interp.find? (fun e => decide (e.group = 0))).isSome = true ∧ (i.chan 3).cand = some 0
    ∧ (a.ev.interp.find? (fun e => decide (e.group = 4))).isSome = true := by decide
theorem test_start : let s : State := { State.reset with power.state := .run, power.restart := some .power }
    let b : State := { up with power.service := .booting, power.startReady := true }
    let env : StartEnv := ⟨none, false, false, false, 0#4, false, false, true, 0#4, false, false, false, false⟩
    s.power.resetLow = false ∧ s.clk.rcHold = false ∧ s.power.tripUntil = none ∧ s.power.restart = some .power
    ∧ (env.regionFail = 0#4 ∧ env.bankABad = false ∧ env.bankBBad = false ∧ env.selectorBad = false ∧ env.mramBad = false
      ∧ env.flashBad = false ∧ env.programBad = false ∧ env.recoveryLow = false)
    ∧ up.clk.xmFail = false ∧ xmUp { up with clk.ready := 0#6 } = false ∧ xmUp up = true ∧ s.upd.trial = false ∧ (prog s).has4 = true
    ∧ b.power.service = .booting ∧ b.power.recoveryWait = false ∧ ({ up with power.service := .early } : State).power.state = .run
    ∧ 0 + 60000000000 ≤ (advance 60000000000 up).now := by decide

/-! ### Supervision, heat, time -/

theorem test_selftest : let s : State := { idle with fld.ch := [(0, { loopFails := 2 }), (1, { loopFails := 1 })] }
    testing s = true ∧ s.power.retired.getLsbD 3 = false ∧ engineIdle s 15 = true ∧ up.pair.testRound = false
    ∧ ({ up with pair.testRound := true, pair.role := .keeper } : State).pair.role = .keeper ∧ serving s = true
    ∧ (s.chan 0).loopFails = 2 ∧ (s.chan 0).lost = false ∧ (s.chan 1).loopFails < 2 ∧ fullService up = true
    ∧ 1 * 10000000000 ≤ 10000000000 ∧ 9999999999 < 1 * 10000000000 ∧ payloadBit (zeros 8) 7 7 = false := by decide
theorem test_heat_and_system : serving up = true ∧ idle.ps.prog.isSome = true ∧ editBusy idle = false ∧ idle.upd.state ≠ 3
    ∧ profileFits (advance 0 idle) 2 = true ∧ anyStation up = false ∧ hasReflex up = false ∧ up.power.slumberReq = false
    ∧ field [1#8] 0 1 0 ≤ 1 := by decide
theorem test_tally : let s : State := { up with sup.tallyOn := true, sup.armed := 3#32, sup.periodAt := 0, sup.ticks := 8, sup.wdf := 0 }
    let e : State := { s with sup.satisfied := requiredMask s }
    windowOpen s.sup.ticks s.sup.wdf ≤ tallyCount (advance 31250 s) ∧ tallyCount (advance 31250 s) < s.sup.ticks
    ∧ s.sup.satisfied.getLsbD 0 = false ∧ s.sec.stewardHalted = false ∧ e.sup.ticks ≤ tallyCount (advance 250000 e)
    ∧ requiredMask e &&& ~~~e.sup.satisfied = 0#32 ∧ requiredMask s &&& ~~~s.sup.satisfied ≠ 0#32 := by decide
theorem test_leases : let s : State := { up with host.mb := [(7, { state := 1 })] }
    portsUp s = true ∧ s.edit.state ≠ 1 ∧ (s.mbox 7).state = 1 ∧ (s.mbox 7).leaseAt + 10000000000 ≤ (advance 10000000000 s).now
    ∧ payloadBit (leBytes 4 1000 ++ [0#8, 0#8]) 5 7 = false ∧ payloadBit (leBytes 4 1000 ++ [0#8, 0x80#8]) 5 7 = true
    ∧ windowTooShort s 1000 0 (prog s).checkinUs = false := by decide
theorem test_ptp : let m (o : Int) : PtpMsg := ⟨0, 0#8, 7#64, .sync o 0⟩
    let g : PtpMaster := { gm := 1#64, last := 10 }
    let s : State := { up with time.list := [1], time.portMask := 1#8, net.link := 1#2, time.stepUs := 1
                               time.src := [(1, { good := 9, last := 3 })], time.masters := [(7, some g)] }
    let l : State := { s with time.state := 2, time.active := 1, time.src := [(1, { good := 10, bad := 2, locked := true, last := 3 })] }
    s.power.state = .run ∧ s.power.service = .full ∧ s.pair.role ≠ .station ∧ s.time.list.contains 1 = true
    ∧ s.time.portMask.getLsbD 0 = true ∧ s.net.link.getLsbD 0 = true ∧ (m (-250)).domain.toNat = ptpDomain s
    ∧ bestMaster (advance 0 s) = some ((m 0).src.toNat, g) ∧ (bestMaster (advance 0 s)).map Prod.fst ≠ some (8#64 : Dword).toNat
    ∧ up.time.masters = [] ∧ (-250 : Int).natAbs ≤ 250 ∧ timeSrc s 1 = { good := 9, last := 3 } ∧ s.time.state ≠ 2 ∧ 1 ≤ s.time.stepUs
    ∧ 10000 < (-10001 : Int).natAbs ∧ timeSrc l 1 = { good := 10, bad := 2, locked := true, last := 3 } ∧ l.time.state = 2
    ∧ l.time.active = 1 ∧ timeSrc l 1 ≠ {} ∧ (timeSrc l 1).last + 3000000000 ≤ (advance 3000000003 l).now := by decide
theorem test_marks : let s : State := { up with time.list := [2, 3], cal.secondAt := 10, time.irigFlags := 1#8 }
    let mark (u : State) : Int := (calTai u : Int) - u.time.ppsDelay
    let far (u : State) : Nat := (mark u - (mark u + 500000000) / 1000000000 * 1000000000).natAbs
    s.time.list.contains 2 = true ∧ s.time.list.contains 3 = true ∧ serving s = true ∧ far s ≤ 400000000
    ∧ 400000000 < far (advance 450000010 s) ∧ s.time.irigFlags.getLsbD 0 = true := by decide
theorem test_time_rest : let s : State := { up with time.state := 3, time.lostAt := 0, time.ppsOutMs := 200 }
    s.time.state = 3 ∧ s.power.state ≠ .slumber ∧ asleep.power.state = .slumber
    ∧ s.time.lostAt + s.time.holdoverS * 1000000000 ≤ (advance (s.time.holdoverS * 1000000000) s).now ∧ s.time.ppsOutMs ≠ 0
    ∧ (advance 0 s).time.tai % 1000000000 = 0 ∧ (advance 11 s).time.tai % 1000000000 ≠ 0 ∧ up.time.state < 2 := by decide

/-! ### Field dies -/

/-- Die 0 powered and not in hold, with these channels. -/
def field1 (cs : List (Nat × Channel)) : State := { up with fld.dies := [(0, { powered := true, hold := false })], fld.ch := cs }
theorem test_die_commands : let s : State := { field1 [(0, { cfg := { function := 2 }, tripped := true, hot := false })] with
      ps.prog := some {} }
    let c : State := { up with ps.prog := some { chanCfg := [(0, { function := 1, mode := 0x20#8 })] } }
    let r : State := { up with fld.dies := [(0, { fwRestart := true })] }
    (s.die 0).powered = true ∧ (s.die 0).fwRestart = false ∧ s.pair.role ≠ .station ∧ s.power.state ≠ .holdup
    ∧ safetyChan s 0 = false ∧ (clampCfg s 0 (readCfg (zeros 32) 4)).function = (chanCfg s 0).function
    ∧ (clampCfg s 0 (readCfg (zeros 32) 4)).mode &&& 0x2E#8 = (chanCfg s 0).mode &&& 0x2E#8
    ∧ continuous (clampCfg s 0 (readCfg (zeros 32) 4)) = false
    ∧ (clampCfg c 0 (readCfg (zeros 32) 4)).function ≠ (chanCfg c 0).function
    ∧ counts (chanCfg c 0) = true ∧ counts (chanCfg up 0) = false ∧ isOutput (s.chan 0).cfg = true ∧ (s.chan 0).tripped = true
    ∧ (r.die (dieOf 0)).fwRestart = true ∧ payloadBit (zeros 32) 1 0 = false := by decide
theorem test_inputs : let i : ChanCfg := { function := 1 }
    let s : State := field1 [(0, { cfg := i, cand := some 5, sentinel := true }), (1, { cfg := { i with mode := 0x20#8, cntEdge := 2 }, sentinel := true }),
      (2, { cfg := i, cand := some 5 }), (3, { cfg := i, disagreeAt := some 0 })]
    dieLive s 0 = true ∧ dieFirmware s 0 = true ∧ (s.chan 0).cfg.function ≠ 0 ∧ counts (s.chan 0).cfg = false ∧ s.power.state ≠ .slumber
    ∧ sentinelLevel (s.chanNow 0).cfg true 0 0 ≠ (s.chanNow 0).sentinel ∧ sentinelLevel (s.chanNow 0).cfg true 36000 0 = (s.chanNow 0).sentinel
    ∧ sampleLevel (s.chan 0).cfg false 36000 0 ≠ (s.chan 0).validated ∧ sampleLevel (s.chan 0).cfg false 0 0 = (s.chan 0).validated
    ∧ sentinelLevel (s.chanNow 1).cfg true 0 0 ≠ (s.chanNow 1).sentinel ∧ dpEven s 0 = none ∧ dualOf s 0 = none
    ∧ (s.chan 0).run.getD ((advance 3000000 s).now) + 0 ≤ (advance 3000000 s).now ∧ (s.chan 0).run = none ∧ 0 < filterNs (s.chan 0).cfg
    ∧ counts (s.chan 1).cfg = true ∧ (s.chan 1).cntLevel ≠ (s.chan 1).sentinel
    ∧ (s.chan 1).lastEdge + 100 * (s.chan 1).cfg.cntFilter ≤ (advance 6553500 s).now
    ∧ (s.chan 2).cand.isSome = true ∧ (s.chan 2).sentinel = (s.chan 2).validated
    ∧ (s.chan 2).lastEdge + max (filterNs (s.chan 2).cfg) 62500 ≤ (advance 3000000 s).now
    ∧ (s.chan 3).disagreeAt = some 0 ∧ (s.chan 3).faults.getLsbD 7 = false ∧ 0 + 100000000 ≤ (advance 100000000 s).now
    ∧ (s.chan 0).lost = false ∧ (s.die 0).lost = false ∧ modeBit i 1 = false := by decide
theorem test_validation : let s : State := field1 [(0, { cfg := { function := 1 }, cand := some 5, run := some 0 })]
    (s.chan 0).run.getD ((advance 3000000 s).now) + filterNs (s.chan 0).cfg ≤ (advance 3000000 s).now := by decide
theorem test_stale : let s : State := field1 [(0, { stale := false, statusAt := 0 })]
    (s.chan 0).stale = false ∧ (s.chan 0).statusAt + 250000 ≤ (advance 250000 s).now := by decide
theorem test_double_point : let i : ChanCfg := { function := 1, mode := 8#8, discMs := 5000 }
    let s (a b : Bool) : State := { field1 [(0, { cfg := i, validated := a, dp := 1#2, dpLeft := some 0 }), (1, { cfg := i, validated := b })] with
      ps.prog := some { chanCfg := [(0, i)] } }
    dieFirmware (s true false) 0 = true ∧ dpEven (s true false) 0 = some 0 ∧ ((s true false).chan 0).dp ≠ BitVec.ofNat 2 2
    ∧ ((s true true).chan 0).dp = 1#2 ∧ ((s true true).chan 0).dpLeft = some 0
    ∧ ((s true true).chan 0).validated = ((s true true).chan 1).validated
    ∧ ((s true true).chan 0).dpAt + 1000000 * ((s true true).chan 0).cfg.discMs ≤ (advance 5000000000 (s true true)).now
    ∧ (advance 4999999999 (s true true)).now < ((s true true).chan 0).dpAt + 1000000 * ((s true true).chan 0).cfg.discMs
    ∧ (((field1 [(0, { cfg := i })]).chan 0).dpLeft = none) := by decide
theorem test_command_frames : let s : State := { field1 [(0, { cfg := { function := 2 } })] with pair.leaseQ := 1 }
    let f : CmdFrame := ⟨true, 0, 0x8000#16, true, some true, none⟩
    f.crcOk = true ∧ (s.die (dieOf 0)).hold = false ∧ (s.die (dieOf 0)).lost = false ∧ f.claim.getLsbD 15 = true ∧ 0 < s.pair.leaseQ
    ∧ claimValid (advance 0 s) ((s.die (dieOf 0)).claims.get {} 1) = false ∧ claimValid (advance 0 s) ((s.die (dieOf 0)).claims.get {} 2) = false
    ∧ (s.chan 0).lost = false ∧ ((advance 0 s).chanNow 0).cfg.function = 2
    ∧ isSaf ((advance 0 s).chanNow 0).cfg = false ∧ (s.chan 0).tripped = false ∧ (s.chan 0).safOff = false ∧ ownMode (s.chan 0).owner = 0
    ∧ bestSource (advance 0 s) (s.die (dieOf 0)) ≠ some 1 ∧ (s.chan 0).cmdAt + 125000 ≤ (advance 125000 s).now ∧ serving s = true
    ∧ (cmdSource (advance 125000 s)).isSome = true ∧ ownMode (1#32 : OwnerEntry) ≠ 0 ∧ rimeSends s = false := by decide
theorem test_claim_lapse : let s : State := { up with
      fld.dies := [(0, { powered := true, claims := [(0, { heard := true, last := 0, leaseQ := 4 })] })] }
    (s.die 0).powered = true ∧ ((s.die 0).claims.get {} 0).heard = true
    ∧ ((s.die 0).claims.get {} 0).last + 250000 * 4 ≤ (advance 1000000 s).now := by decide
theorem test_protection : let o : ChanCfg := { function := 2, mode := 0x10#8 }
    let s : State := field1 [(0, { cfg := o, latch := true, validated := false })]
    let safc : State := field1 [(0, { cfg := { o with mode := 4#8 }, safAt := some 0 }), (1, { pulseEnd := some 0 }),
      (2, { zeroAt := some 0, tripped := true })]
    dieFirmware s 0 = true ∧ isOutput (s.chan 0).cfg = true ∧ (s.chan 0).validated ≠ driverOn s 0
    ∧ (s.chan 0).expectAt + 2000001 ≤ (advance 2000001 s).now ∧ modeBit (s.chan 0).cfg 4 = true ∧ driverOn s 0 = true ∧ driving s 0 = true
    ∧ 999 < max 1000 (min 3000 0) ∧ (280 : Nat) < 281 ∧ (s.chan 0).tripped = false ∧ (safc.chan 0).safAt = some 0 ∧ isSaf (safc.chan 0).cfg = true
    ∧ (safc.chan 1).pulseEnd = some 0 ∧ (safc.chan 2).zeroAt = some 0 ∧ (safc.chan 2).applied = false
    ∧ 0 + 10000000 ≤ (advance 10000000 s).now ∧ (advance 9999999 s).now < 0 + 10000000 := by decide
theorem test_overload : let s : State := field1 ((List.range 16).map fun k => (k, { cfg := { function := 2 }, latch := true }))
    let ma : List Nat := 126 :: List.replicate 15 125
    (∀ k, k < 16 → driving s (16 * 0 + k) = true) ∧ max 2000 (min 2200 0) < (ma.take 16).sum
    ∧ (∀ k, k < 16 → ma.getD k 0 ≤ ma.getD 0 0) := by decide

/-! ### Host port and network -/

theorem test_mailboxes : let w : Work := { wid := 1, mb := 0, code := 0x0D01 }
    let s : State := { up with host.works := [w], host.mb := [(0, { state := 1 })] }
    let d : State := { up with host.mb := [(5, { state := 2 })] }
    let f : State := { up with host.works := [{ w with deferred := true, result := some (DONE, []) }] }
    inSlumber up = false ∧ enteringSlumber up = false ∧ portsUp up = true ∧ (up.mbox 5).state = 0 ∧ waitingResult up 5 = none ∧ deferredRunning up 5 < 8
    ∧ (d.mbox 5).state = 2 ∧ waitingResult d 5 = none ∧ s.host.works.find? (fun x => x.mb = 0 && !x.accepted) = some w
    ∧ s.sec.stewardHalted = false ∧ inWork s < 8 ∧ admission s w = none ∧ admission s { w with code := 0xFFFF } = some UNKNOWN_COMMAND
    ∧ (waitingResult f 0).isSome = true ∧ (f.mbox 0).state = 0
    ∧ s.host.works.find? (fun x => x.mb = 0 && !x.deferred && x.result.isNone) = some w ∧ (s.mbox 0).state = 1
    ∧ w.rungAt + 2000000000 ≤ (advance 2000000000 s).now ∧ (advance 1999999999 s).now < w.rungAt + 2000000000 := by decide
theorem test_window : let q : State := { up with power.hostQspi := true }
    let z : State := { asleep with power.wakeFlags := 2#8 }
    (1023 : Nat) < 1024 ∧ q.power.hostQspi = true ∧ inSlumber q = false ∧ portsUp q = true ∧ up.power.hostQspi = false
    ∧ inSlumber asleep = true ∧ asleep.power.wakeFlags.getLsbD 1 = false ∧ inSlumber z = true ∧ z.power.wakeFlags.getLsbD 1 = true
    ∧ (let n : State := { up with power.slumberReq := true, scan.atBoundary := true, power.wakeFlags := 2#8 }
      inSlumber n = false ∧ enteringSlumber n = true ∧ n.power.wakeFlags.getLsbD 1 = true ∧ n.power.keptWake = .none) := by
  decide
theorem test_stream : let s : State := { up with host.stream.ringAddr := 4096, host.stream.records := 64, host.stream.sources := 1#128
                                                 ev.fifo := [{ source := 0 }], ev.written := 1, ev.hostPos := 0 }
    let f : State := { s with host.stream.wrIndex := 64, host.stream.rdIndex := 0, host.stream.sinceIrq := 1, host.stream.firstAt := 0 }
    streamOn s = true ∧ s.host.perst = false ∧ s.ev.markers.get none 1 = none ∧ (s.ev.fifo.getLast?).isSome = true
    ∧ s.ev.written = s.ev.hostPos + 1 ∧ ringFull s = false ∧ s.host.stream.sources.getLsbD 0 = true ∧ fullService s = true
    ∧ ringFull f = true ∧ f.host.stream.rdIndex ≤ 64 ∧ 64 ≤ f.host.stream.wrIndex ∧ f.host.stream.sinceIrq ≠ 0
    ∧ f.host.stream.firstAt + 1000 * f.host.stream.irqUs ≤ (advance (1000 * f.host.stream.irqUs) f).now
    ∧ (let r : State := { up with host.usb := true, ev.fifo := List.replicate 16 {}, ev.written := 16, ev.usbPos := some 0 }
      r.host.usb = true ∧ r.ev.usbPos = some 0 ∧ r.ev.markers.get none 2 = none
        ∧ r.ev.fifo.length - (r.ev.written - 0) + 16 ≤ r.ev.fifo.length) := by decide
def hdr : NetHdr := ⟨0, 1#48, 0#48, 0#12, none, false, true⟩
theorem test_goose : let g : GooseSub := { enable := true, confRev := 1#32, gocbRef := [1#8] }
    let m (rev : Word) : GooseMsg := ⟨hdr, 0#16, [1#8], [], rev, false, false, 2#32, 0#32, 100, [.bool true], [], []⟩
    let s : State := { up with net.mode := 0, net.link := 1#2, net.subs := [(127, g)], ps.prog := some { gooseIn := [{ ref := 127, point := 0x10000100 }] } }
    let e : State := { s with net.subs := [(127, { g with expire := some 0, stale := false })] }
    s.net.mode = 0 ∧ portLive s 0 = true ∧ gooseSubFor s (m 1#32) = some 127 ∧ g.alg = 0 ∧ g.requireAuth = false
    ∧ unpad g.datSet = unpad (m 1#32).datSet ∧ g.last = none ∧ (∀ e, e ∈ (prog s).gooseIn → e.ref = 127 → typeSuits (m 1#32).members e = true)
    ∧ (∀ c, c ∈ gooseConns s → c.ref ≠ 127) ∧ (m 2#32).confRev ≠ g.confRev ∧ (e.net.subs.get {} 127).expire = some 0
    ∧ (e.net.subs.get {} 127).stale = false ∧ (e.net.subs.get {} 127).enable = true ∧ hdr.fcsOk = true ∧ (m 1#32).ndsCom = false
    ∧ (m 1#32).test = false ∧ 0 ≤ (advance 0 e).time.mono := by decide
theorem test_sv : let g : SvStream := { enable := true, svId := [1#8], lastCnt := some 3999 }
    let m : SvMsg := ⟨hdr, 0x4000#16, false, [1#8], 0#32, 0, 0, [List.replicate 8 (0, 0#32)], [], []⟩
    let s : State := { up with net.mode := 0, net.link := 1#2, net.sv := [(7, g)] }
    portLive s 0 = true ∧ svFor s m = some 7 ∧ g.alg = 0 ∧ g.requireAuth = false ∧ m.confRev = g.confRev ∧ g.spc = 0
    ∧ m.asdus.map List.length = [8] ∧ m.smpCnt < 80 * freqOf g ∧ m.smpCnt = (3999 + 1) % (80 * freqOf g) := by decide
theorem test_nodes_and_links : let s : State := { up with net.mode := 1, net.link := 1#2, net.nodes := [(1, 1, [])] }
    s.net.mode ≠ 0 ∧ portLive s 0 = true ∧ inRun s = true ∧ clkReady s 5 = true ∧ (s.net.nodes.get (0, []) 1).1 ≠ 0
    ∧ (s.net.nodes.get (0, []) 1).1 - 1 + 60000000000 ≤ (advance 60000000000 s).now ∧ s.net.link.getLsbD 1 ≠ true
    ∧ s.net.supAt + s.net.supS * 1000000000 ≤ (advance (s.net.supS * 1000000000) s).now := by decide
theorem test_host_frames : let s : State := { up with net.mode := 0, net.link := 1#2, net.rxRing := 4096, net.txRing := 8192 }
    portLive s 0 = true ∧ hdr.dst = s.net.mac ∧ ringsLive s = true ∧ s.net.rxRing ≠ 0 ∧ (zeros 2032).length ≤ 2032 ∧ s.net.txRing ≠ 0
    ∧ engineFrame (zeros 2032) = false ∧ 14 ≤ (⟨true, 14, zeros 14⟩ : TxSlot).len ∧ (zeros 14).length = 14 := by decide
theorem test_publications : let s : State := { up with net.pubs := [(63, { enable := true, nextAt := some 0 })], scan.mode := 2
                                                       pair.valid := true }
    (s.net.pubs.get {} 63).nextAt = some 0 ∧ (0 : Nat) ≤ (advance 0 s).time.mono ∧ inControl (advance 0 s) = true
    ∧ fullService s = true ∧ s.pair.role ≠ .station := by decide
theorem test_net_commands : payloadBit (zeros 8) 1 7 = false ∧ (subOf (zeros 8)).enable = false ∧ up.pair.role ≠ .apprentice
    ∧ (prog { up with ps.prog := some { sv := [(7, 1)] } }).sv.get 0 7 ≠ 0 := by decide

/-! ### Pair, panel, ring, safety -/

def apprentice : State := { up with pair.role := .apprentice, pair.state := 3, pair.lanes := 1#2, pair.known := true }
def keeper : State := { up with pair.role := .keeper, pair.state := 3, pair.lanes := 1#2, pair.identityOk := true }
def hb (seed : Bool) : HbRec := ⟨0x8000#16, 4, 0#64, true, 3, 0, seed, 0#32⟩
theorem test_health : let s : State := { up with pair.targetHealth := 0 }
    let n : State := { s with pair.newHealth := some (healthNow s, 0) }
    serving s = true ∧ healthNow s ≠ s.pair.targetHealth ∧ s.pair.newHealth = none ∧ n.pair.newHealth = some (healthNow n, 0)
    ∧ 0 + 200000000 ≤ (advance 200000000 n).now ∧ (advance 199999999 n).now < 0 + 200000000 := by decide
theorem test_pair_link : let l : State := { apprentice with pair.hbAt := [(0, 5)] }
    pairRuns apprentice = true ∧ apprentice.pair.seedClash = false ∧ (hb true).seed ≠ apprentice.pair.seed
    ∧ (hb false).seed = apprentice.pair.seed ∧ apprentice.power.restartAfterTakeover = none ∧ l.pair.lanes.getLsbD 0 = true
    ∧ l.pair.hbAt.get 0 0 + 30000 ≤ (advance 30005 l).now ∧ pairRuns l = true := by decide
theorem test_listening : let s : State := { apprentice with pair.state := 1, pair.listenAt := some 0 }
    let h : State := { s with pair.partnerClaim := 0x8000#16, pair.partnerAt := some 0 }
    pairRuns s = true ∧ 0 + 500000000 ≤ (advance 500000000 s).now ∧ s.pair.partnerAt = none ∧ s.pair.partner = none
    ∧ h.pair.partnerClaim.msb = true ∧ h.pair.partnerAt = some 0 := by decide
theorem test_takeover : let h : State := { apprentice with pair.partnerClaim := 0x8000#16, pair.partnerAt := some 10, pair.leaseQ := 4 }
    let b : State := { apprentice with pair.inStepAt := some 0, pair.takebackS := 1 }
    keeperGone (advance 0 apprentice) = true ∧ keeperGone (advance 10 h) = false ∧ pairRuns h = true ∧ h.pair.state = 3
    ∧ b.pair.inStepAt = some 0 ∧ b.pair.takebackDone = false ∧ 0 + b.pair.takebackS * 1000000000 ≤ (advance 1000000000 b).now := by decide
theorem test_shipping : let a : State := { apprentice with pair.aligned := true, scan.mode := 2, ps.prog := idle.ps.prog }
    let p : State := { a with pair.shipped := [(1, some [])] }
    let c : State := { a with pair.theirCrc := [(1, some (0, 0))] }
    a.pair.aligned = true ∧ a.scan.scan < (1#64).toNat ∧ a.pair.shipped.get none 1 = none ∧ p.pair.shipped.get none 1 = some []
    ∧ mayRelease p 1 = true ∧ switchDue p = false ∧ (p.task 1).state = .idle ∧ a.pair.known = true ∧ a.pair.releases.get none 1 = none ∧ a.pair.theirCrc.get none 1 = none
    ∧ a.pair.ourCrc.get none 1 = none ∧ (c.pair.theirCrc.get none 1).isSome = true ∧ c.pair.state = 3
    ∧ keeper.pair.ourCrc.get none 0 = none ∧ pairRuns keeper = true ∧ waitsForScan 0x0102 = true := by decide
theorem test_alignment : let s : State := { apprentice with pair.state := 2, pair.identityOk := true, ps.prog := some {} }
    let k : State := { keeper with pair.state := 2 }
    let f : State := { apprentice with pair.alignFailedAt := some 0 }
    pairRuns s = true ∧ s.pair.state = 2 ∧ s.pair.identityOk = true ∧ s.pair.aligned = false ∧ s.ps.prog.isSome = true
    ∧ k.pair.role = .keeper ∧ k.pair.state ≠ 3 ∧ k.pair.lanes ≠ 0#2 ∧ pairRuns k = true ∧ f.pair.alignFailedAt = some 0
    ∧ f.pair.suspect = false ∧ f.power.disqualified = false ∧ f.sup.storm = false ∧ 0 + 1000000000 ≤ (advance 1000000000 f).now
    ∧ (advance 999999999 f).now < 0 + 1000000000 ∧ f.pair.lanes ≠ 0#2
    ∧ ({ apprentice with edit.state := 2 } : State).edit.state = 2 := by decide
def pairKey : Bytes := beBytes 96 0xd5136d1655c65b914e665c9ed35e4e01d1d8da847736957a6a751ea4cf2f80a1380f08c2ae239bc498d1b1bb3fba744f0e746b1ce69a33ebe8e8a90604f1b2804397cf0410fed1beb08a12e00f8e7f3ec07a6774569844826d0370826f7f1f9f
def pairSig : Bytes := beBytes 96 0x4e47a237cc608f03d38bf953c2c25c8cb99de4bbada9288a6b43656520b2559143f1fd344dde210802bbc630315996be73db0856dae769c8430ea293a56aa0ad34fe5a124fc41bbacbc9464d3ce0cae8e5ebc89047027654aac3141df30a8479
/-- Two nonces, a key and a signature that come from a computation outside Lean (R500). -/
theorem test_pair_identity : let s : State := { apprentice with
      pair.state := 2, pair.peerKey := pairKey, pair.nonce := zeros 32 ++ (List.range 32).map (BitVec.ofNat 8) }
    s.pair.nonce ≠ []
    ∧ ecdsaVerify s.pair.peerKey (slice s.pair.nonce 32 32 ++ slice s.pair.nonce 0 32 ++ zeros 4) (slice pairSig 0 96) = true
    ∧ ecdsaVerify s.pair.peerKey (slice s.pair.nonce 32 32 ++ slice s.pair.nonce 0 32 ++ zeros 4) (slice (zeros 96) 0 96) = false
    ∧ ({ keeper with pair.nonce := [1#8] } : State).pair.nonce ≠ [] := by decide +kernel
theorem test_pair_commands : payloadBit (zeros 8) 3 7 = false ∧ field (zeros 8) 0 1 0 ≠ 1 ∧ keeper.pair.handover = none
    ∧ keeper.edit.state ≠ 2 ∧ keeper.edit.state ≠ 3 ∧ updBusy keeper = false ∧ keeper.pair.shipping = false
    ∧ keeper.pair.noHandoverBefore ≤ (advance 0 keeper).now ∧ (advance 0 { keeper with pair.noHandoverBefore := 11 }).now < 11
    ∧ keeper.power.state ≠ .holdup := by decide

theorem test_keys : let p : State := { up with panel.debounceMs := 5 }
    let c : State := { p with panel.keys := [(63, { cand := some (1, 0) })] }
    let h : State := { p with panel.keys := [(63, { state := 1, pressAt := 0 })] }
    serving p = true ∧ 0 < p.panel.debounceMs ∧ (∀ c, c < 8 → (panelKey p (8 * 7 + c)).cand = none) ∧ (panelKey c 63).cand = some (1, 0)
    ∧ (panelKey c 63).state = 0 ∧ 0 + 1000000 * c.panel.debounceMs ≤ (advance 5000000 c).now
    ∧ (∀ m, m < 72 → m ≠ 63 → candAt c m ≠ some 0) ∧ 64 ≤ inputNo (.touch 0) ∧ (panelKey p (inputNo (.touch 0))).cand = none
    ∧ (panelKey p (inputNo (.touch 0))).state < 2 ∧ inputState (inputNo (.touch 0)) true ≠ (panelKey p (inputNo (.touch 0))).state
    ∧ pressed h 63 = true ∧ (panelKey h 63).pressAt + (h.panel.stuckS * 1000000000 + 1) ≤ (advance (h.panel.stuckS * 1000000000 + 1) h).now := by
  decide
theorem test_slots : let q : Prog := { sbo := [(15, { selectKey := 63, execKey := 62 })] }
    let n : State := { up with ps.prog := some q }
    let e : State := { n with panel.slot := some 15, panel.slotState := 1, time.mono := 30000000000 }
    let x : State := { n with panel.slot := some 15, panel.slotState := 2, time.mono := 30000000000 }
    selectedBy n [63] = [15] ∧ selectedBy e [62] = [] ∧ (sboSlot n 15).localOnly = false ∧ (sboSlot e 15).execKey = 62 ∧ 62 ≠ (sboSlot e 15).selectKey
    ∧ 62 ≠ (sboSlot e 15).cancelKey ∧ 0 < e.panel.slotAt + selWindow e 15 ∧ e.panel.slotAt + selWindow e 15 ≤ (advance 0 e).time.mono
    ∧ (∀ m, m ∈ [(sboSlot e 15).execKey, (sboSlot e 15).cancelKey, (sboSlot e 15).selectKey] → (panelKey e m).cand = none)
    ∧ x.panel.slotAt + execWindow x 15 ≤ (advance 0 x).time.mono := by decide
theorem test_switch_and_gestures : let l : State := { up with panel.lrSameAt := some 0 }
    let g : State := { up with panel.presHold := some 0, panel.presence := some 0 }
    l.panel.lrSameAt = some 0 ∧ l.panel.lr ≠ 3 ∧ 0 + 100000000 ≤ (advance 100000000 l).now ∧ g.panel.presHold = some 0
    ∧ 0 + 3000000000 ≤ (advance 3000000000 g).now ∧ g.power.recoveryWait = false ∧ g.panel.presence = some 0
    ∧ 0 + 60000000000 ≤ (advance 60000000000 g).now ∧ (advance 59999999999 g).now < 0 + 60000000000
    ∧ (∀ i, i < 16 → field [1#8, 0#8, 3#8] 0 2 0 / 2 ^ i % 2 = 1 → ledOwned up i = false) ∧ field [1#8, 0#8, 3#8] 2 1 0 ≤ 3
    ∧ ledOwned { up with ps.prog := some { leds := [(0, 0x100#16)] } } 0 = true := by decide

/-- A controller with one station, and that station's returning SUM. -/
def ringed : State := { up with
  ring.topology := 1, ring.link := 3#2, ring.ringId := 7#32, ring.running := true, ring.cycle := 1, pair.leaseQ := 1, ring.units := 256
  ps.prog := some { stations := [(62, { enable := true, inBits := 8 })] } }
def slot : Bytes := closeSlot (leBytes 1 62 ++ leBytes 1 1 ++ leBytes 1 1 ++ zeros 1 ++ leBytes 2 1 ++ zeros 2 ++ [0xFF#8])
theorem test_ring_cycle : let idleRing : State := { ringed with ring.running := false, ring.next := [] }
    let due : State := { ringed with ring.ended := false, ring.sumAt := 0 }
    ringRuns idleRing = true ∧ idleRing.ring.next = [] ∧ ringRuns ringed = true ∧ 62500 * ringed.pair.leaseQ < cycleNs ringed
    ∧ ringed.ring.sumAt + 62500 * 1 * (ringed.ring.beacons + 1) ≤ (advance 62500 ringed).now
    ∧ 62500 * 1 * (ringed.ring.beacons + 1) < shareNs ringed ∧ 62 ∈ stationsOn due
    ∧ due.ring.sumAt + cycleNs due ≤ (advance (cycleNs due) due).now ∧ (stationCfg ringed 62).enable = true
    ∧ sumDue (advance 0 idleRing) = true ∧ msgFits (advance 0 idleRing) 1024 = true ∧ ringed.ring.cfgChanged = false := by decide
theorem test_sum_return : let b := frameHeader ringed 1 0 1 ++ slot
    hdrGood b = true ∧ frType b = 1 ∧ frRingId b = ringIdOf ringed.ring.ringId ∧ ownFrame ringed b = true ∧ frCycle b = ringed.ring.cycle
    ∧ slotsOf b = [slot] ∧ slotGood slot = true ∧ hdrF slot 0 1 = 62 ∧ (BitVec.ofNat 8 (hdrF slot 2 1)).getLsbD 0 = true
    ∧ (BitVec.ofNat 8 (hdrF slot 2 1)).getLsbD 4 = false ∧ (ringed.station 62).copies = 0 ∧ (ringed.station 62).lost = false
    ∧ frHops b ≤ 127 ∧ (ringed.station 62).admitted = false ∧ hdrGood [] = false
    ∧ ((ringed.setStation 62 { admitted := true, idOk := true }).station 62).admitted = true
    ∧ ((ringed.setStation 62 { admitted := true, idOk := true }).station 62).idOk = true := by decide +kernel
theorem test_msg_reply : let b := msgFrame 0 0#16 7#32 62 132 0 0 (zeros 20)
    let c := msgFrame 0 0#16 7#32 62 129 0 0 [1#8]
    msgGood b = true ∧ w32 (hdrF b 4 4) = ringIdOf ringed.ring.ringId ∧ hdrF b 8 1 = 62 ∧ hdrF b 9 1 = 132 ∧ ownFrame ringed b = true
    ∧ msgGood c = true ∧ hdrF c 9 1 = 129 ∧ (msgData c).length < 325 ∧ hdrF (msgData c) 0 1 = 1 := by decide +kernel
theorem test_ring_links : ringPortUp ringed 1 = true ∧ inRun ringed = true ∧ clkReady ringed 5 = true
    ∧ ({ ringed with scan.mode := 2 } : State).scan.mode = 2 ∧ notMine ringed = false ∧ payloadBit (zeros 8) 1 7 = false
    ∧ cycleBreaksSaf ringed = false ∧ transitTooLong { ringed with ring.topology := 0 } = false := by decide

theorem test_dual_points : let d : DualDecl := { chA := 0, chB := 1, discMs := 100 }
    let s (st : Nat) : State := { up with ps.prog := some { spb := some { duals := [d] } }, saf.duals := [(0, { state := st })], time.mono := 100000000 }
    (spb (s 0)).duals[0]? = some d ∧ serving (s 0) = true ∧ ((s 1).saf.duals.get {} 0).state = 1
    ∧ ((s 1).saf.duals.get {} 0).since + 1000000 * d.discMs ≤ (advance 0 (s 1)).time.mono / 1000000 * 1000000
    ∧ (advance 0 { s 1 with time.mono := 99999999 }).time.mono / 1000000 * 1000000 < 0 + 1000000 * d.discMs ∧ ((s 2).saf.duals.get {} 0).state = 2
    ∧ ¬(((s 0).saf.duals.get {} 0).a = some false ∧ ((s 0).saf.duals.get {} 0).b = some false)
    ∧ ((s 0).chan 0).rx = (((s 0).chan 1).rx != d.antivalent) := by decide
theorem test_confirm : let s : State := { up with ps.prog := some { spb := some {} }, panel.presence := some 0 }
    let b (op : Nat) : State := { s with scan.bnd := [.safConfirm op 0 (checkOf (prog s)) 0] }
    boundary (b 0) = true ∧ (prog (b 0)).spb.isSome = true ∧ (b 1).scan.bnd.length = 1 ∧ presenceValid (advance 0 s) = true
    ∧ presenceValid (advance 0 up) = false ∧ s.sec.life ≠ .retired
    ∧ w32 (field (zeros 4 ++ leBytes 4 (checkOf (prog s)).toNat) 4 4 0) = checkOf (prog s) := by decide +kernel

/-! ### Sessions, keys, debug

What rests on the module's own keys, which are opaque (log entry 6), has no witness on bytes: the signature of SES_AUTH runs over
IDENT, that of a token and of an update over keys in ROM. -/

theorem sha_round_length (v : List Dword) (kw : Dword) (h : v.length = 8) : (shaRound v kw).length = 8 := by simp [shaRound, h]
theorem sha_rounds_length (ks : List Dword) : ∀ w v : List Dword, v.length = 8 → (shaRounds ks w v).length = 8 := by
  induction ks with
  | nil => intro w v h; exact h
  | cons k ks ih => intro w v h; exact ih _ _ (sha_round_length _ _ h)
theorem sha_blocks_length (n : Nat) : ∀ (b : Bytes) (h : List Dword), h.length = 8 → (shaBlocks n b h).length = 8 := by
  induction n with
  | zero => intro b h e; exact e
  | succ n ih => intro b h e; exact ih _ _ (by simp [shaBlock, sha_rounds_length, e])
/-- A hash has 48 bytes, so the first 16 of IDENT stand where LIFECYCLE_ADVANCE's payload holds them. -/
theorem test_ident : fieldB (zeros 4 ++ ident.take 16) 4 16 = ident.take 16 := by
  have h : ∀ m, (sha384 m).length = 48 := by
    intro m
    have := sha_blocks_length ((shaPad m).length / 128) (shaPad m) (unpackRow sha384Init) rfl
    obtain ⟨a, b, c, d, e, f, g, h, i⟩ : ∃ a b c d e f g h, shaBlocks ((shaPad m).length / 128) (shaPad m) (unpackRow sha384Init)
        = [a, b, c, d, e, f, g, h] := by
      match shaBlocks ((shaPad m).length / 128) (shaPad m) (unpackRow sha384Init), this with
      | [a, b, c, d, e, f, g, h], _ => exact ⟨a, b, c, d, e, f, g, h, rfl⟩
    simp [sha384, i, beBytes, leBytes]
  have : (ident.take 16).length = 16 := by simp [ident, h]
  simp [fieldB, slice, zeros, this]
theorem test_sessions : let x : Session := { id := 1#32, idleS := 60, last := 0 }
    let s : State := { up with sec.sessions := [x] }
    let p : State := { up with sec.sessions := [{ x with pending := true, cred := 4 }], sec.life := .sealed }
    s.sec.sessions.find? (fun y => y.id = 1#32 && !y.pending) = some x ∧ x.last + 1000000000 * x.idleS ≤ (advance 60000000000 s).now
    ∧ (advance 59999999999 s).now < x.last + 1000000000 * x.idleS ∧ (p.sec.sessions.find? (fun y => y.id = 1#32 && y.pending)).isSome = true
    ∧ 0 + 10000000000 ≤ (advance 10000000000 p).now ∧ up.sec.lockout.get 0 1 ≤ (advance 0 up).now ∧ credentialOk up 4 3 = true
    ∧ up.sec.sessions.length < 8 ∧ lockedOut false (advance 0 up) = false ∧ credentialOk p 4 0 = false
    ∧ lockedOut true (advance 0 { up with sec.lockout := [(1, 11)] }) = true := by decide
theorem test_token_life : let k : Token := { notBefore := 0, notAfter := 5 }
    let s : State := { up with sec.token := some k, time.timeLost := false, sec.life := .sealed, time.tai := 6 }
    s.sec.token = some k ∧ s.time.timeLost = false ∧ k.notBefore ≤ (advance 0 s).time.tai ∧ k.notAfter < (advance 0 s).time.tai
    ∧ (advance 0 { s with time.tai := 5 }).time.tai ≤ k.notAfter ∧ tokenOk (advance 0 s) (fieldB (zeros 8) 4 176) = false := by
  decide +kernel
theorem test_lifecycle : let s : State := { up with panel.presence := some 0, sec.keys := [(0, { kind := 1 }), (1, { kind := 4 })] }
    presenceValid (advance 0 s) = true ∧ targetOk s 1 = true ∧ advanceOk s 1 = true ∧ s.power.reserveLow = false
    ∧ 16000 ≤ s.power.vinMv ∧ targetOk s 4 = true ∧ advanceOk s 4 = true ∧ presenceValid (advance 0 up) = false
    ∧ ({ up with sec.erasing := true } : State).sec.erasing = true ∧ up.sec.erasing = false := by decide
def key : Bytes := beBytes 96 0x4bfcff452ba69585bec311a8150b6bca410b4dc8d0aad7931646d48a9eabda66ac8c349eb5a8982b211ef0af5f3301ad49d0c7fcf23a9b559da0e05b1a47a7f4d7ce88c6d653ce5bdea19cc76e2eb5867cb63355455b51c59097d72c9bea547b
def sig : Bytes := beBytes 96 0x3c53a27696d72bb41394fbada09c1c4da9498b8e4612440069d56427678e0568c960eeb19430db82ae310ae87880724468fcbdaabb94ae09d748cebc843c59102adf829b31898e6c5d3d09be47b51a4e452d6d4651ced728a081257bc149a62f
def nonces : Bytes := zeros 32 ++ (List.range 32).map (BitVec.ofNat 8)
/-- Key and signature come from a computation outside Lean, with another formula for the curve (R500). -/
theorem test_signature : ecdsaVerify key (nonces ++ leBytes 4 7) sig = true := by decide +kernel
theorem test_signature_wrong : ecdsaVerify key (nonces ++ leBytes 4 8) sig = false := by decide +kernel
theorem test_enroll : let p := leBytes 1 31 ++ leBytes 1 3 ++ zeros 6 ++ key
    keyOnCurve (fieldB p 8 96) = true ∧ slotKind 31 = 3 ∧ slotKind 0 = 1 ∧ min 31 (field p 0 1 0) = 31 := by decide +kernel

def probe (space count : Nat) : DbgReq := ⟨false, BitVec.ofNat 8 space, count, 0, [1#8]⟩
def attached (level : Nat) : State := { up with sec.tapIr := 0x20, sec.dbg := [(0, level)] }
theorem test_tap : let l : State := { up with sec.life := .locked, sec.tapRefused := true }
    up.power.state = .run ∧ up.sec.extest = false ∧ tapAllowed up 0 = true ∧ tapAllowed l 0 = false ∧ l.sec.tapRefused = true
    ∧ tapUp up = true ∧ tapAllowed up 1 = true ∧ tapAllowed up 2 = true ∧ tapAllowed up 0x20 = true ∧ up.sec.dbg.get 0 0 = 0
    ∧ attachLevel 0 up ≠ 0 ∧ attachLevel 1 up ≠ 0 ∧ ({ up with host.usb := true } : State).host.usb = true := by decide
theorem test_debug : let h : State := { attached 2 with eng.halted := 0x8000#16 }
    debugLevel (attached 1) (probe 0x10 4) = some 1 ∧ debugRange (attached 1) (probe 0x10 4) = DONE
    ∧ debugRange (attached 2) (probe 0x13 4096) = DONE ∧ debugLevel (attached 0) (probe 0x10 4) = some 0
    ∧ debugLevel (attached 2) (probe 0x13 4) = some 2 ∧ haltPart (attached 2) (probe 0x4F 0) = some (some 15)
    ∧ haltPart h (probe 0x4F 0) = some (some 15) ∧ h.eng.halted.getLsbD 15 = true ∧ (attached 2).eng.halted.getLsbD 15 = false
    ∧ anyHalted (attached 2) = false := by decide

/-! ### Station and updates -/

def station : State := { up with pair.role := .station, bcr.stationNo := 62, ring.link := 3#2 }
/-- The station with controller 1 admitted and this block in force. -/
def member : State := { station with
  ring.ctl := [(1, { admission := 2, key := key, nonce := zeros 32, cNonce := nonces.drop 32 })]
  ring.active := some { bytes := [1#8] }, ring.ringId := 7#32 }
def outSlot : Bytes := closeSlot (leBytes 1 62 ++ leBytes 1 1 ++ zeros 2 ++ leBytes 2 8 ++ leBytes 2 (cfgTagOf { bytes := [1#8] }) ++ zeros 8)
theorem test_station_sum : let b := frameHeader ringed 1 0 1 ++ outSlot
    stationRuns member = true ∧ member.ring.link.getLsbD 0 = true ∧ frType b = 1 ∧ hdrGood b = true ∧ ringIdFits member (frRingId b) = true
    ∧ ctlOf (frClaim b) = 1 ∧ (ctl member 1).admission = 2 ∧ frReturn b = false ∧ frHops b ≤ 127 ∧ slotsOf b = [outSlot]
    ∧ hdrF outSlot 0 1 = member.bcr.stationNo ∧ slotGood outSlot = true ∧ cfgTagOf { bytes := [1#8] } = hdrF outSlot 6 2
    ∧ member.ring.committed = none ∧ (ctl member 1).cycle ≠ some (frCycle b) ∧ hdrF outSlot 1 1 = 1
    ∧ (ctl station 1).admission ≠ 2 ∧ ringIdFits station (frRingId b) = true := by decide +kernel
theorem test_station_beacon : let b := frameHeader ringed 2 0 0
    frType b = 2 ∧ hdrGood b = true ∧ ctlOf (frClaim b) = 1 ∧ frHops b ≤ 127 ∧ hdrGood (leBytes 1 2) = false ∧ frType (leBytes 1 2) = 2
    ∧ member.ring.link.getLsbD 1 = true := by decide +kernel
theorem test_station_admission : let b := msgFrame 0 0#16 7#32 62 1 0 0 sig
    let c := msgFrame 0 0#16 7#32 62 1 0 0 (zeros 229)
    msgForMe member 1 b = true ∧ hdrF b 10 2 < 229 ∧ msgCtl b = 1 ∧ (ctl member 1).key ≠ []
    ∧ ecdsaVerify (ctl member 1).key ((ctl member 1).nonce ++ (ctl member 1).cNonce ++ leBytes 4 (hdrF b 4 4)) (slice (msgData b) 0 96) = true
    ∧ msgForMe member 1 c = true ∧ 229 ≤ hdrF c 10 2 ∧ peerOk member (msgData c) = true
    ∧ peerOk { member with sec.life := .sealed } (msgData c) = false := by decide +kernel
theorem test_station_config : let s : State := { member with ring.block := [(0, [5#8])] }
    let b := msgFrame 0 0#16 7#32 62 2 0 0 [5#8]
    let c := msgFrame 0 0#16 7#32 62 3 0 0 (sha384 [5#8] ++ zeros 96)
    let d := msgFrame 0 0#16 7#32 62 3 0 0 (zeros 144)
    msgForMe s 2 b = true ∧ msgForMe s 3 c = true ∧ msgForMe s 3 d = true ∧ msgForMe s 4 (msgFrame 0 0#16 7#32 62 4 0 0 (zeros 40)) = true
    ∧ sha384 (s.ring.block.flatMap Prod.snd) = slice (msgData c) 0 48 ∧ sha384 (s.ring.block.flatMap Prod.snd) ≠ slice (msgData d) 0 48
    ∧ s.sec.life = .blank := by decide +kernel
theorem test_station_time : let y : State := { station with ring.ctl := [(1, { admission := 2, syncAt := some 0 })], ring.stState := 2 }
    (ctl y 1).syncAt = some 0 ∧ stationRuns y = true ∧ 2 ≤ y.ring.stState
    ∧ (∀ e, e ∈ y.ring.ctl → e.2.admission = 2 → e.2.lastHeard + 1000000000 ≤ (advance 1000000000 y).now) := by decide
theorem test_update : let r : State := { up with upd.state := 1, upd.lastCmd := 0, upd.header := header 3 1 1 (sha384 (zeros 48)) [] }
    let v : State := { up with upd.state := 2, scan.mode := 2 }
    let t : State := { up with upd.state := 4, upd.trialEnd := some 0, upd.trial := true }
    headerOk 3 1 (header 3 1 1 (zeros 48) []) up = false ∧ updKnown r 0 = true ∧ blockLenOk r.upd.header 0 48 = true
    ∧ blockHashOk r.upd.header r.upd.blocks 0 (zeros 48) = true ∧ blockHashOk r.upd.header r.upd.blocks 0 (leBytes 48 1) = false
    ∧ (updCheck (advance 0 r)).1 ≠ 0 ∧ updRefused v = false ∧ v.edit.state ≠ 2 ∧ v.pair.handover = none ∧ v.upd.state = 2
    ∧ t.upd.trialEnd = some 0 ∧ 0 ≤ (advance 0 t).time.mono ∧ t.upd.state = 4
    ∧ ({ up with upd.refresh := true } : State).upd.refresh = true ∧ fullService up = true
    ∧ r.upd.lastCmd + 60000000000 ≤ (advance 60000000000 r).now ∧ (advance 59999999999 r).now < r.upd.lastCmd + 60000000000 := by decide +kernel

/-! ### The reset state runs -/

theorem test_reset_steps : step State.reset = .next State.reset := rfl
theorem test_field_supply : (16999 : Nat) < 17000 ∧ (18000 : Nat) < 18001 ∧ (36000 : Nat) ≤ 36000 := by decide


/-! ### The spec's worked examples -/

/-- The bundle of the example after R196: BLD g5, IX39 and ADDI g7, g7, 0x0012_3456 with its X. -/
theorem test_example_bundle : encBI 0 0x20 5#6 1#4 39#12 = 0x08051027#32 ∧ encRRI 1 2 7#6 7#6 0x056#10 = 0x10871C56#32
    ∧ delivered (lone (some 0x48D#28)) (encRRI 1 2 7#6 7#6 0x056#10) = [0x10871C56#32, 0xD000048D#32]
    ∧ extended (some 0x48D#28) true 0x056#10 = 0x00123456#32 := by decide
/-- TON g9, g5, 0x28 of the example after R246. -/
theorem test_example_ton : encRRI 3 0x30 9#6 5#6 0x28#10 = 0x3C091428#32 := by decide
/-- IX39 and IW512 in the image window, after R208; the image address of CH39, chapter 0. -/
theorem test_example_window : imgAddr 1 39 = 0x10000027 ∧ windowPoint 0x1000004 = .ok (imgAddr 1 32)
    ∧ qualityPoints 0x1800010 = .ok ((List.range 8).map fun k => imgAddr 1 (32 + k)) ∧ windowPoint 0x4000800 = .ok (imgAddr 4 512) := by
  decide
/-- The MODULO ring buffer after R216: from 316 back to 0, and one step backward from 0. -/
theorem test_example_modulo : nextIdx { len := 320#32, step := 4#32, mode := 9#32, idx := 316#32 } = 0#32
    ∧ nextIdx { len := 320#32, step := -4#32, mode := 9#32, idx := 0#32 } = 316#32 := by decide
/-- SHA-384 of "abc" (FIPS 180-4) and the check value of CRC-32C over "123456789". -/
theorem test_sha384 : sha384 [0x61#8, 0x62#8, 0x63#8] =
    beBytes 48 0xcb00753f45a35e8bb5a03d699ac65007272c32ab0eded1631a8b605a43ff5bed8086072ba1e7cc2358baeca134c825a7 := by decide +kernel
theorem test_crc32c : crc32c [0x31#8, 0x32#8, 0x33#8, 0x34#8, 0x35#8, 0x36#8, 0x37#8, 0x38#8, 0x39#8] = 0xE3069283#32 := by
  decide +kernel

end Sys2Proof.Tests
end

section
/-! PROOFS. Timers, edges and counters (R244-R249): an instance opcode that is alone in its bundle and meets no trap retires,
what each timer's step stores case by case, and the two statements that rest on this. -/

namespace Sys2Proof.Machine

/-! ### An RRI syllable of the L class alone in its bundle (R193, R195, R201) -/

section LoadUnit
variable {s : State} {b : Issue} {x : Ctx} {op : Nat} {gd ga : BitVec 6} {imm : BitVec 10}

/-- The unused bits of an X are the ones above bit 21 where the format is RRI (R193). -/
theorem highOf_rri {w : Word} {k : Option (BitVec 28)} (hw : format (sylClass w) (sylOp w) = some .rri) (hf : fitsX k 22) :
    ∀ v, k = some v → highOf w v.toNat = 0 := fun v hv => by
  simp only [highOf, hw]
  exact Nat.div_eq_of_lt (hf v hv)

/-- An L-class syllable in format RRI retires with the acts that its evaluation gives, whether its STOP is set or stands in its X. -/
theorem loadUnit_rri_retires {l : List Act} (h : Alone s b x) (hf : fitsX b.x 22) (hop : op < 64) (hfmt : format 3 op = some .rri)
    (hp : ((pairPositions (encRRI 3 op gd ga imm)).any fun g => decide (g % 2 = 1)) = false)
    (hl : ∀ w, w = encRRI 3 op gd ga imm ∨ w = encRRI 3 op gd ga imm ||| 0x80000000#32 → evalL x w b.x = .ok l) :
    deliverSyl b (encRRI 3 op gd ga imm) s = retire x (sylWords b.x) l s := by
  have hc : sylClass (encRRI 3 op gd ga imm) = 3 := by simp
  have ho : sylOp (encRRI 3 op gd ga imm) = op := by simp [Nat.mod_eq_of_lt hop]
  have hw : format (sylClass (encRRI 3 op gd ga imm)) (sylOp (encRRI 3 op gd ga imm)) = some .rri := by rw [hc, ho, hfmt]
  have hx : isX (encRRI 3 op gd ga imm) = false := by simp [isX]
  have he : emulated (encRRI 3 op gd ga imm) = false := by simp only [emulated, subListed, hw]; simp
  have ht : takesX (encRRI 3 op gd ga imm) = true := by simp only [takesX, hx, hw]; simp
  refine imm_retires h hx he ht hp (highOf_rri hw hf) fun w hw' => ?_
  have hsame : isX w = false ∧ emulated w = false ∧ sylClass w = 3 := by
    rcases hw' with rfl | rfl <;> simp only [isX_stop, emulated_stop, sylClass_stop, hx, he, hc, and_self]
  obtain ⟨hxw, hew, hcw⟩ := hsame
  simp [evalSyl, hxw, hew, hcw, hl w hw']

end LoadUnit

/-! ### Instance opcodes (R244-R249) -/

/-- The opcodes of the timers, edges and counters have format RRI. -/
theorem format_instanceOp {op : Nat} (h : 0x30 ≤ op ∧ op ≤ 0x38) : format 3 op = some .rri := by simp [format, h]

/-- CTUD alone names a pair. -/
theorem pairPositions_instanceOp {op : Nat} {gd ga : BitVec 6} {imm : BitVec 10} (h : 0x30 ≤ op ∧ op ≤ 0x38)
    (hd : op = 0x38 → gd.toNat % 2 = 0) :
    ((pairPositions (encRRI 3 op gd ga imm)).any fun g => decide (g % 2 = 1)) = false := by
  obtain ⟨hlo, hhi⟩ := h
  interval_cases op <;> simp_all [pairPositions, emulated, isX, format, subListed]

/-- An instance opcode finds its sub-instance in the data window, aligned and open to the task. -/
theorem instCheck_none {x : Ctx} {a len al off wlen : Nat} (h0 : inData a = true) (h1 : inData (a + len - 1) = true)
    (ha : a % al = 0) (hr : x.dataReadCheck a (off + wlen) = none) (hw : x.dataWriteCheck (a + off) wlen = none) :
    instCheck x a len al off wlen = none := by
  simp [instCheck, h0, h1, ha, firstTrap, hr, hw]

/-- An instance opcode retires with the acts that its operands give: gd, ga and the address inst + i. -/
theorem instanceOp_retires {s : State} {b : Issue} {x : Ctx} {op : Nat} {gd ga : BitVec 6} {imm : BitVec 10} {l : List Act}
    (h : Alone s b x) (hf : fitsX b.x 22) (hop : 0x30 ≤ op ∧ op ≤ 0x38) (hd : op = 0x38 → gd.toNat % 2 = 0)
    (hl : ∀ w, sylOp w = op → sylGd w = gd.toNat → sylGa w = ga.toNat →
      instRRI x w b.x = (x.b.inst + extended b.x false imm).toNat → evalL x w b.x = .ok l) :
    deliverSyl b (encRRI 3 op gd ga imm) s = retire x (sylWords b.x) l s := by
  have hmod : op % 64 = op := Nat.mod_eq_of_lt (by omega)
  refine loadUnit_rri_retires h hf (by omega) (format_instanceOp hop) (pairPositions_instanceOp hop hd) fun w hw => ?_
  rcases hw with rfl | rfl <;> exact hl _ (by simp [hmod]) (by simp) (by simp) (by simp [instRRI])

/-- The counter that the sub-instance at `a` holds (R249). -/
def oldCounter (x : Ctx) (a : Nat) : Cnt :=
  let word := counterOp.wordAt (x.dataBytes a 0x10)
  { pv := (word 0).toInt, cv := (word 1).toInt, cu := (word 2).getLsbD 0, cd := (word 2).getLsbD 1 }

section Retire
variable {s : State} {b : Issue} {x : Ctx} {op a : Nat} {gd ga : BitVec 6} {imm : BitVec 10}
  (h : Alone s b x) (hf : fitsX b.x 22) (ha : (x.b.inst + extended b.x false imm).toNat = a)
include h hf ha

/-- A timer opcode stores what its step makes of the sub-instance, and gd takes Q two cycles later. -/
theorem timer_retires {step : Nat → Word → Timer → Timer} (hop : 0x30 ≤ op ∧ op < 0x38)
    (hc : instCheck x a 0x24 8 8 0x1C = none) (hev : ∀ w, sylOp w = op → evalL x w b.x = timerOp x w b.x step) :
    let now := (x.s.task x.n).snapMono
    let t := step now (x.reg ga.toNat) (readTimer now (x.dataBytes a 0x24))
    deliverSyl b (encRRI 3 op gd ga imm) s
      = retire x (sylWords b.x) [.data (a + 8) (timerBytes t), .reg gd.toNat (flag t.q) 2] s :=
  instanceOp_retires h hf ⟨hop.1, by omega⟩ (by omega) fun w ho hgd hga hi => by
    simp [hev w ho, timerOp, hi, ha, hc, hgd, hga]

/-- An edge opcode stores the input, and gd takes what its function says of the input and the stored one. -/
theorem edge_retires {f : Bool → Bool → Bool} (hop : 0x30 ≤ op ∧ op < 0x38) (hc : instCheck x a 4 4 0 4 = none)
    (hev : ∀ w, sylOp w = op → evalL x w b.x = edgeOp x w b.x f) :
    let inp := truth (x.reg ga.toNat)
    let prev := (w32 (leNat (x.dataBytes a 4))).getLsbD 0
    deliverSyl b (encRRI 3 op gd ga imm) s
      = retire x (sylWords b.x) [.data a (leBytes 4 (bit inp)), .reg gd.toNat (flag (f inp prev)) 2] s :=
  instanceOp_retires h hf ⟨hop.1, by omega⟩ (by omega) fun w ho hgd hga hi => by
    simp only [hev w ho, edgeOp, hi, ha, hc, hgd, hga]

/-- A counter opcode stores the CV and the STATE that its inputs and the old counter give, and its results follow QU and QD. -/
theorem counter_retires {cvOf : Word → Bool → Bool → Cnt → Int} {out : Bool → Bool → List Act} {old : Cnt} {st : Word}
    (cuBit cdBit : Option Nat) (v : Int) (cu cd qu qd : Bool) (hop : 0x30 ≤ op ∧ op ≤ 0x38)
    (hd : op = 0x38 → gd.toNat % 2 = 0) (hc : instCheck x a 0x10 4 4 8 = none) (hold : oldCounter x a = old)
    (hst : counterOp.wordAt (x.dataBytes a 0x10) 2 = st)
    (hev : ∀ w, sylOp w = op → sylGd w = gd.toNat → evalL x w b.x = counterOp x w b.x cuBit cdBit cvOf out) :
    let g := x.reg ga.toNat
    cuBit.elim old.cu (fun i => g.getLsbD i) = cu → cdBit.elim old.cd (fun i => g.getLsbD i) = cd →
    satCv (cvOf g (cu && !old.cu) (cd && !old.cd) old) = v →
    (if cuBit.isSome then decide (old.pv ≤ v) else st.getLsbD 2) = qu →
    (if cdBit.isSome then decide (v ≤ 0) else st.getLsbD 3) = qd →
    deliverSyl b (encRRI 3 op gd ga imm) s = retire x (sylWords b.x)
      (.data (a + 4) (leInt 4 v ++ leBytes 4 (bit cu + 2 * bit cd + 4 * bit qu + 8 * bit qd)) :: out qu qd) s := by
  rintro g rfl rfl rfl rfl rfl
  subst hold hst
  refine instanceOp_retires h hf hop hd fun w ho hgd hga hi => ?_
  simp only [hev w ho hgd, counterOp, hi, ha, hc, hga]
  rfl

end Retire

/-- STATE holds its bits where R249 places them, and is no longer than a word. -/
theorem counterState_bits (cu cd qu qd : Bool) :
    let st := bit cu + 2 * bit cd + 4 * bit qu + 8 * bit qd
    (w32 st).toNat = st ∧ (w32 st).getLsbD 0 = cu ∧ (w32 st).getLsbD 1 = cd ∧ (w32 st).getLsbD 2 = qu
      ∧ (w32 st).getLsbD 3 = qd := by
  revert cu cd qu qd
  decide

/-! ### The steps of the timers, case by case (R246) -/

section Steps
variable {now : Nat} {ga : Word} {t : Timer}

theorem stepTon_on (h : truth ga = true) : stepTon now ga t =
    let start := if t.prev then t.start else now
    { t with start := start, q := decide (t.pt ≤ now - start), et := min (now - start) t.pt, prev := true } := by
  cases hp : t.prev <;> simp [stepTon, h, hp]

theorem stepTon_off (h : truth ga = false) : stepTon now ga t = { t with q := false, et := 0, prev := false } := by
  simp [stepTon, h]

theorem stepTof_on (h : truth ga = true) :
    stepTof now ga t = { t with q := true, et := 0, timed := false, prev := true } := by
  simp [stepTof, h]

/-- A fall that is being timed, from now where the input has just fallen. -/
theorem stepTof_timing (h : truth ga = false) (ht : t.prev = true ∨ t.timed = true) : stepTof now ga t =
    let start := if t.prev then now else t.start
    if t.pt ≤ now - start then { t with start := start, q := false, et := t.pt, timed := false, prev := false }
    else { t with start := start, q := true, et := now - start, timed := true, prev := false } := by
  cases hp : t.prev with
  | true => simp [stepTof, h, hp]
  | false =>
    have htimed : t.timed = true := by simpa [hp] using ht
    simp [stepTof, h, hp, htimed]

theorem stepTof_idle (h : truth ga = false) (hp : t.prev = false) (ht : t.timed = false) :
    stepTof now ga t = { t with q := false } := by
  obtain ⟨pt, start, et, acc, q, prev, timed⟩ := t
  subst hp ht
  simp [stepTof, h]

theorem stepTp_running (hq : t.q = true) (hlt : now - t.start < t.pt) :
    stepTp now ga t = { t with et := now - t.start, prev := truth ga } := by
  simp [stepTp, hq, Nat.not_le.mpr hlt]

/-- With no pulse running, or one that ends, a rise starts a pulse. -/
theorem stepTp_rise (hidle : t.q = true → t.pt ≤ now - t.start) (h : truth ga = true) (hp : t.prev = false) :
    stepTp now ga t = { t with start := now, q := decide (0 < t.pt), et := 0, prev := true } := by
  cases hq : t.q <;> simp_all [stepTp]

theorem stepTp_held (hidle : t.q = true → t.pt ≤ now - t.start) (h : truth ga = true) (hp : t.prev = true) :
    stepTp now ga t = { t with q := false, et := if t.q then t.pt else t.et } := by
  obtain ⟨pt, start, et, acc, q, prev, timed⟩ := t
  cases q <;> simp_all [stepTp]

theorem stepTp_low (hidle : t.q = true → t.pt ≤ now - t.start) (h : truth ga = false) :
    stepTp now ga t = { t with q := false, et := 0, prev := false } := by
  cases hq : t.q <;> simp_all [stepTp]

theorem stepTacc_reset (h : ga.getLsbD 1 = true) :
    stepTacc now ga t = { t with acc := 0, q := false, et := 0, prev := false } := by
  simp [stepTacc, h]

theorem stepTacc_on (hr : ga.getLsbD 1 = false) (h : ga.getLsbD 0 = true) : stepTacc now ga t =
    let start := if t.prev then t.start else now
    let total := t.acc + (now - start)
    { t with start := start, q := decide (t.pt ≤ total), et := min total t.pt, prev := true } := by
  simp only [stepTacc, hr, h]
  cases hp : t.prev <;> simp

theorem stepTacc_off (hr : ga.getLsbD 1 = false) (h : ga.getLsbD 0 = false) : stepTacc now ga t =
    let acc := if t.prev then min (t.acc + (now - t.start)) (2 ^ 63 - 1) else t.acc
    { t with acc := acc, q := decide (t.pt ≤ acc), et := min acc t.pt, prev := false } := by
  simp only [stepTacc, hr, h]
  simp

/-- TON keeps PT, ACC and TIMED. -/
theorem stepTon_frame (now : Nat) (ga : Word) (t : Timer) :
    (stepTon now ga t).pt = t.pt ∧ (stepTon now ga t).acc = t.acc ∧ (stepTon now ga t).timed = t.timed := by
  cases h : truth ga with
  | true => simp [stepTon_on h]
  | false => simp [stepTon_off h]

/-- TOF keeps PT and ACC. -/
theorem stepTof_frame (now : Nat) (ga : Word) (t : Timer) :
    (stepTof now ga t).pt = t.pt ∧ (stepTof now ga t).acc = t.acc := by
  cases h : truth ga with
  | true => simp [stepTof_on h]
  | false =>
    by_cases ht : t.prev = true ∨ t.timed = true
    · rw [stepTof_timing h ht]
      dsimp only
      split_ifs <;> exact ⟨rfl, rfl⟩
    · simp only [not_or, Bool.not_eq_true] at ht
      simp [stepTof_idle h ht.1 ht.2]

/-- With the input off TOF takes now as START where the input has just fallen, and stores the input. -/
theorem stepTof_start_prev_off {now : Nat} {ga : Word} {t : Timer} (h : truth ga = false) :
    (stepTof now ga t).start = (if t.prev then now else t.start) ∧ (stepTof now ga t).prev = false := by
  by_cases ht : t.prev = true ∨ t.timed = true
  · rw [stepTof_timing h ht]
    dsimp only
    split_ifs <;> exact ⟨rfl, rfl⟩
  · simp only [not_or, Bool.not_eq_true] at ht
    simp [stepTof_idle h ht.1 ht.2, ht.1]

/-- TP keeps PT, ACC and TIMED. -/
theorem stepTp_frame (now : Nat) (ga : Word) (t : Timer) :
    (stepTp now ga t).pt = t.pt ∧ (stepTp now ga t).acc = t.acc ∧ (stepTp now ga t).timed = t.timed := by
  by_cases hidle : t.q = true → t.pt ≤ now - t.start
  · cases h : truth ga with
    | false => simp [stepTp_low hidle h]
    | true => cases hp : t.prev with
      | false => simp [stepTp_rise hidle h hp]
      | true => simp [stepTp_held hidle h hp]
  · obtain ⟨hq, hlt⟩ := Classical.not_imp.mp hidle
    simp [stepTp_running hq (Nat.lt_of_not_le hlt)]

/-- TACC keeps PT and TIMED. -/
theorem stepTacc_frame (now : Nat) (ga : Word) (t : Timer) :
    (stepTacc now ga t).pt = t.pt ∧ (stepTacc now ga t).timed = t.timed := by
  cases hr : ga.getLsbD 1 with
  | true => simp [stepTacc_reset hr]
  | false => cases h : ga.getLsbD 0 with
    | true => simp [stepTacc_on hr h]
    | false => simp [stepTacc_off hr h]

end Steps

end Sys2Proof.Machine

open Sys2Proof Sys2Proof.Machine

/-- Settles O13: each timer opcode retires with its step's timer, and the step's cases give the clauses. -/
theorem timerResults : Obligations.TimerResults := by
  intro s b x gd ga imm h hf a now old on1 stored hin hin' hal hr hw
  have hc : instCheck x a 0x24 8 8 0x1C = none := instCheck_none hin hin' hal hr hw
  have hon (hon : on1) : truth (x.reg ga.toNat) = true := decide_eq_true hon
  have hoff (hoff : ¬ on1) : truth (x.reg ga.toNat) = false := decide_eq_false hoff
  refine ⟨⟨stepTon now (x.reg ga.toNat) old, ?_, ?_⟩, ⟨stepTof now (x.reg ga.toNat) old, ?_, ?_⟩,
    ⟨stepTp now (x.reg ga.toNat) old, ?_, ?_⟩, ⟨stepTacc now (x.reg ga.toNat) old, ?_, ?_⟩⟩
  · exact congrArg Host.Outcome.next (timer_retires h hf rfl (by decide) hc fun w ho => by simp [evalL, ho, opTon])
  · obtain ⟨hpt, hacc, htimed⟩ := stepTon_frame now (x.reg ga.toNat) old
    refine ⟨hpt, hacc, htimed, fun ho => ?_, fun ho => ?_⟩
    · simp [stepTon_on (hon ho)]
    · simp [stepTon_off (hoff ho)]
  · exact congrArg Host.Outcome.next (timer_retires h hf rfl (by decide) hc fun w ho => by simp [evalL, ho, opTof])
  · obtain ⟨hpt, hacc⟩ := stepTof_frame now (x.reg ga.toNat) old
    refine ⟨hpt, hacc, fun ho => ?_, fun ho => ?_, fun ho ht hle => ?_, fun ho ht hlt => ?_, fun ho hp ht => ?_⟩
    · simp [stepTof_on (hon ho)]
    · exact stepTof_start_prev_off (hoff ho)
    · rw [(stepTof_start_prev_off (hoff ho)).1] at hle
      simp [stepTof_timing (hoff ho) ht, hle]
    · rw [(stepTof_start_prev_off (hoff ho)).1] at hlt
      have hgt := Nat.not_le.mpr hlt
      simp [stepTof_timing (hoff ho) ht, hgt]
    · simp [stepTof_idle (hoff ho) hp ht, ht]
  · exact congrArg Host.Outcome.next (timer_retires h hf rfl (by decide) hc fun w ho => by simp [evalL, ho, opTp])
  · obtain ⟨hpt, hacc, htimed⟩ := stepTp_frame now (x.reg ga.toNat) old
    have hidle (hq : old.q = false) : old.q = true → old.pt ≤ now - old.start := by simp [hq]
    refine ⟨hpt, hacc, htimed, rfl, fun hq hlt => ?_, fun hq ho hp => ?_, fun hq ho hp => ?_, fun hq ho => ?_,
      fun hq hle hstill => ?_, fun hq hle ho hp => ?_⟩
    · simp [stepTp_running hq hlt, hq]
    · simp [stepTp_rise (hidle hq) (hon ho) hp]
    · simp [stepTp_held (hidle hq) (hon ho) hp, hq]
    · simp [stepTp_low (hidle hq) (hoff ho)]
    · by_cases ho : on1
      · have hp : old.prev = true := hstill.resolve_right (not_not_intro ho)
        simp [stepTp_held (fun _ => hle) (hon ho) hp, hq, ho]
      · simp [stepTp_low (fun _ => hle) (hoff ho), ho]
    · simp [stepTp_rise (fun _ => hle) (hon ho) hp]
  · exact congrArg Host.Outcome.next (timer_retires h hf rfl (by decide) hc fun w ho => by simp [evalL, ho, opTacc])
  · obtain ⟨hpt, htimed⟩ := stepTacc_frame now (x.reg ga.toNat) old
    refine ⟨hpt, htimed, fun hrst => ?_, fun hrst ho => ?_, fun hrst ho => ?_⟩
    · simp [stepTacc_reset hrst]
    · simp [stepTacc_on hrst ho]
    · simp [stepTacc_off hrst ho]

/-- Settles O14: an edge retires with its function's result, and a counter with the CV and STATE that its inputs and the old
counter give. -/
theorem edgeAndCounterResults : Obligations.EdgeAndCounterResults := by
  intro s b x gd ga imm h hf a w g n1 result one pv cv cu sat saved
  refine ⟨fun hin hin' hal hr hw => ?_, fun hin hin' hal hr hw => ?_⟩
  · have hc : instCheck x a 4 4 0 4 = none := instCheck_none hin hin' hal hr hw
    have hrtrig := edge_retires (gd := gd) (ga := ga) h hf rfl (op := 0x34) (by decide) hc fun w ho => by
      simp only [evalL, ho, opRtrig]; rfl
    have hftrig := edge_retires (gd := gd) (ga := ga) h hf rfl (op := 0x35) (by decide) hc fun w ho => by
      simp only [evalL, ho, opFtrig]; rfl
    exact ⟨congrArg Host.Outcome.next hrtrig, congrArg Host.Outcome.next hftrig⟩
  · have hc : instCheck x a 0x10 4 4 8 = none := instCheck_none hin hin' hal hr hw
    have hsat (c : Int) : satCv c = sat c := rfl
    have hold : oldCounter x a = ⟨pv, cv, (w 2).getLsbD 0, (w 2).getLsbD 1⟩ := rfl
    have hst : counterOp.wordAt (x.dataBytes a 0x10) 2 = w 2 := rfl
    refine ⟨?_, ?_, fun hd => ?_⟩
    · intro v
      have hctu := counter_retires (gd := gd) (ga := ga) (op := 0x36) h hf rfl (some 0) none v (g.getLsbD 0) ((w 2).getLsbD 1)
        (decide (pv ≤ v)) ((w 2).getLsbD 3) (by decide) (by omega) hc hold hst
        (fun w ho hgd => by simp only [evalL, ho, opCtu, hgd]; rfl)
      obtain ⟨hword, hcu, -, hqu, -⟩ := counterState_bits (g.getLsbD 0) ((w 2).getLsbD 1) (decide (pv ≤ v)) ((w 2).getLsbD 3)
      refine ⟨_, hcu, hqu, ?_⟩
      rw [hword]
      exact congrArg Host.Outcome.next (hctu rfl rfl (by simp only [v, cu, g, hsat]) (by simp) (by simp))
    · intro v
      have hctd := counter_retires (gd := gd) (ga := ga) (op := 0x37) h hf rfl none (some 0) v ((w 2).getLsbD 0) (g.getLsbD 0)
        ((w 2).getLsbD 2) (decide (v ≤ 0)) (by decide) (by omega) hc hold hst
        (fun w ho hgd => by simp only [evalL, ho, opCtd, hgd]; rfl)
      obtain ⟨hword, -, hcd, -, hqd⟩ := counterState_bits ((w 2).getLsbD 0) (g.getLsbD 0) ((w 2).getLsbD 2) (decide (v ≤ 0))
      refine ⟨_, hcd, hqd, ?_⟩
      rw [hword]
      exact congrArg Host.Outcome.next (hctd rfl rfl (by simp only [v, g, hsat]) (by simp) (by simp))
    · intro cd v
      have hctud := counter_retires (gd := gd) (ga := ga) (op := 0x38) h hf rfl (some 0) (some 1) v (g.getLsbD 0) (g.getLsbD 1)
        (decide (pv ≤ v)) (decide (v ≤ 0)) (by decide) (fun _ => hd) hc hold hst
        (fun w ho hgd => by simp only [evalL, ho, opCtud, hgd]; rfl)
      exact congrArg Host.Outcome.next (hctud rfl rfl (by simp only [v, cu, cd, g, hsat]) (by simp) (by simp))

end

section
/-! PROOFS. The field supply of a die (R61, R311): VFLD_LOW and VFLD_RESTORE set the die's record and the instant from which the
levels of its outputs are expected, and leave the rest of every channel alone. -/

namespace Sys2Proof.Machine

/-! ### Channels and dies read after a write -/

@[simp] theorem State.chan_setChan (s : State) (n ch : Nat) (c : Channel) :
    (s.setChan n c).chan ch = if ch = n then c else s.chan ch := Tbl.get_set ..
@[simp] theorem State.die_setChan (s : State) (n m : Nat) (c : Channel) : (s.setChan n c).die m = s.die m := rfl
@[simp] theorem State.chan_setDie (s : State) (n ch : Nat) (d : FieldDie) : (s.setDie n d).chan ch = s.chan ch := rfl
@[simp] theorem State.die_setDie (s : State) (n m : Nat) (d : FieldDie) :
    (s.setDie n d).die m = if m = n then d else s.die m := Tbl.get_set ..
@[simp] theorem State.chan_logFault (code cls : Nat) (w d0 d1 : Word) (s : State) (ch : Nat) :
    (logFault code cls w d0 d1 s).chan ch = s.chan ch := rfl
@[simp] theorem State.die_logFault (code cls : Nat) (w d0 d1 : Word) (s : State) (n : Nat) :
    (logFault code cls w d0 d1 s).die n = s.die n := rfl

theorem dieOf_channel {n k : Nat} (hk : k < 16) : dieOf (16 * n + k) = n := by
  unfold dieOf
  omega

/-! ### The instant of the expected level (R312) -/

/-- Every channel stands as before, but for the instant of its expected level. -/
def ChannelsKept (s v : State) : Prop := ∀ ch, v.chan ch = { s.chan ch with expectAt := (v.chan ch).expectAt }

theorem ChannelsKept.of_chan_eq {s v : State} (h : ∀ ch, v.chan ch = s.chan ch) : ChannelsKept s v := by
  intro ch
  rw [h ch]

theorem ChannelsKept.trans {s u v : State} (h : ChannelsKept s u) (h' : ChannelsKept u v) : ChannelsKept s v := by
  intro ch
  rw [h' ch, h ch]

theorem channelsKept_setChan_expectAt (s : State) (n now : Nat) :
    ChannelsKept s (s.setChan n { s.chan n with expectAt := now }) := by
  intro ch
  by_cases h : ch = n
  · subst h
    simp
  · simp [h]

/-- A fold keeps the channels where each of its steps does. -/
theorem channelsKept_foldl {f : State → Nat → State} (h : ∀ s k, ChannelsKept s (f s k)) (ks : List Nat) (s : State) :
    ChannelsKept s (ks.foldl f s) := by
  induction ks generalizing s with
  | nil => exact .of_chan_eq fun _ => rfl
  | cons k ks ih => exact (h s k).trans (ih (f s k))

theorem channelsKept_expectNow (n : Nat) (s : State) : ChannelsKept s (expectNow n s) :=
  channelsKept_foldl (fun s _ => channelsKept_setChan_expectAt s _ _) _ s

@[simp] theorem State.die_expectNow (n m : Nat) (s : State) : (expectNow n s).die m = s.die m :=
  List.foldlRecOn _ _ (motive := fun v : State => v.die m = s.die m) rfl fun _ ih _ _ => ih

/-! ### The drivers (R310, R311) -/

theorem driverOn_of_vfldLow {s : State} {ch : Nat} (h : (s.die (dieOf ch)).vfldLow = true) : driverOn s ch = false := by
  simp [driverOn, h]

theorem driverOn_of_not_vfldLow {s : State} {ch : Nat} (h : (s.die (dieOf ch)).vfldLow = false) :
    driverOn s ch = ((s.chan ch).latch && !(s.chan ch).tripped && (s.die (dieOf ch)).powered) := by
  simp [driverOn, dieLive, h]

/-! ### The two events -/

/-- With the supply in its rating VFLD_LOW takes effect (R58). -/
theorem exec_vfldLow {t mv : Nat} {d : Fin 4} {s : State} (h : mv ≤ 36000) :
    exec (.vfldLow t d mv) s = .next (vfldLow d mv (advance t s)) := if_neg (Nat.not_lt.mpr h)

/-- With the supply in its rating VFLD_RESTORE takes effect (R58). -/
theorem exec_vfldRestore {t mv : Nat} {d : Fin 4} {s : State} (h : mv ≤ 36000) :
    exec (.vfldRestore t d mv) s = .next (vfldRestore d mv (advance t s)) := if_neg (Nat.not_lt.mpr h)

theorem channelsKept_vfldLow (n mv : Nat) (s : State) : ChannelsKept s (vfldLow n mv s) := by
  unfold vfldLow
  dsimp only
  split_ifs
  · exact .trans (.of_chan_eq fun _ => rfl) (channelsKept_expectNow n _)
  · exact .trans (.of_chan_eq fun _ => rfl) (channelsKept_expectNow n _)
  · exact .of_chan_eq fun _ => rfl

theorem channelsKept_vfldRestore (n mv : Nat) (s : State) : ChannelsKept s (vfldRestore n mv s) := by
  unfold vfldRestore
  dsimp only
  split_ifs
  · exact .trans (.of_chan_eq fun _ => rfl) (channelsKept_expectNow n _)
  · exact .of_chan_eq fun _ => rfl

/-- VFLD_LOW is latched below 17.0 V. -/
theorem die_vfldLow_vfldLow (n mv : Nat) (s : State) :
    ((vfldLow n mv s).die n).vfldLow = ((s.die n).vfldLow || decide (mv < 17000)) := by
  unfold vfldLow
  dsimp only
  split_ifs <;> simp

/-- VFLD_RESTORE changes the die's supply and its VFLD_LOW, which falls above 18.0 V. -/
theorem die_vfldRestore (n mv : Nat) (s : State) : (vfldRestore n mv s).die n =
    { s.die n with vfldMv := mv, vfldLow := (s.die n).vfldLow && decide (mv ≤ 18000) } := by
  unfold vfldRestore
  dsimp only
  split_ifs <;> simp

end Sys2Proof.Machine

open Sys2Proof Sys2Proof.Machine

/-- Settles O58: the events set VFLD_LOW and keep every channel's latch and trip, which with the die's power decide its drivers. -/
theorem driversFollowTheFieldSupply : Obligations.DriversFollowTheFieldSupply := by
  intro s t mv d
  have hadv : ChannelsKept s (advance t s) := .of_chan_eq (State.chan_advance t s)
  refine ⟨fun hmv => ?_, fun hmv hmax => ?_⟩
  · have hlow : ((vfldLow d mv (advance t s)).die d).vfldLow = true := by simp [die_vfldLow_vfldLow, hmv]
    refine ⟨_, exec_vfldLow (by omega), hlow, fun k hk => ?_, hadv.trans (channelsKept_vfldLow d mv _)⟩
    exact driverOn_of_vfldLow (by rwa [dieOf_channel hk])
  · have hkept : ChannelsKept s (vfldRestore d mv (advance t s)) := hadv.trans (channelsKept_vfldRestore d mv _)
    have hlow : ((vfldRestore d mv (advance t s)).die d).vfldLow = false := by simp [die_vfldRestore, hmv]
    refine ⟨_, exec_vfldRestore hmax, hlow, fun k hk => ?_, hkept⟩
    rw [driverOn_of_not_vfldLow (by rwa [dieOf_channel hk]), dieOf_channel hk, hkept (16 * d + k), die_vfldRestore,
      State.die_advance]

end

section
/-! PROOFS. The queue and the state before the first power-up. -/

open Sys2Proof Sys2Proof.Machine

/-- Settles O1: the two branches of a step. -/
theorem stepRunsFrontCommand : Obligations.StepRunsFrontCommand :=
  ⟨fun c rest s h => by simp only [step, h], fun s h => by simp only [step, h]⟩

/-- Settles O2: the reset state has every field at its default but the trim curve. -/
theorem resetIsTheUnpoweredModule : Obligations.ResetIsTheUnpoweredModule :=
  ⟨rfl, rfl, rfl, rfl, rfl, fun _ => rfl, rfl, rfl, rfl⟩

end

section
/-! PROOFS. What manufacture fuses and the fuse groups of the lifecycle have branded into the module (R78, R344, R392, R480, R495):
every operation of the model keeps it, except the one that LIFECYCLE_ADVANCE calls, and that one only goes on. -/

namespace Sys2Proof.Machine

/-! ### The brand of a state, and how it passes through updates, conditionals and folds -/

/-- The fuses of manufacture with the lifecycle state. -/
def brand (s : State) : (Word × BitVec 48 × Bool × Nat) × Lifecycle := (fuses s, s.sec.life)

theorem brand_eq_iff {s t : State} : brand t = brand s ↔ fuses t = fuses s ∧ t.sec.life = s.sec.life := Prod.ext_iff

/-- A record update keeps the brand where the five fields stay; `s` is read off the queue, which no operation touches. -/
@[simp] theorem brand_mk (s : State) {now axis power bcr clk time cal ev img scan ps eng rime edit fld panel net ring pair ldg saf
      sup sec upd host} (hmac : net.mac = s.net.mac) (hseed : pair.seed = s.pair.seed) (hwdf : sup.wdf = s.sup.wdf)
    (hserial : sec.serial = s.sec.serial) (hlife : sec.life = s.sec.life) :
    brand ⟨now, axis, power, bcr, clk, time, cal, ev, img, scan, ps, eng, rime, edit, fld, panel, net, ring, pair, ldg, saf, sup, sec,
      upd, host, s.pending⟩ = brand s := by
  simp [brand, fuses, hmac, hseed, hwdf, hserial, hlife]

@[simp] theorem brand_withPending (s : State) (q : List Instr) : brand (s.withPending q) = brand s := rfl

@[simp] theorem brand_ite (c : Prop) [Decidable c] (s t : State) :
    brand (if c then s else t) = if c then brand s else brand t := apply_ite ..

@[simp] theorem brand_snd_ite {α : Type} (c : Prop) [Decidable c] (p q : α × State) :
    brand (if c then p else q).2 = if c then brand p.2 else brand q.2 := apply_ite (fun p : α × State => brand p.2) ..

@[simp] theorem brand_elim {α : Type} {f : α → State} {s : State} (h : ∀ a, brand (f a) = brand s) (o : Option α) :
    brand (o.elim s f) = brand s := by
  cases o with
  | none => rfl
  | some a => exact h a

@[simp] theorem brand_foldl {α : Type} {f : State → α → State} (h : ∀ s a, brand (f s a) = brand s) (l : List α) (s : State) :
    brand (l.foldl f s) = brand s :=
  List.foldlRecOn l f (motive := fun t => brand t = brand s) rfl fun t ht a _ => (h t a).trans ht

@[simp] theorem brand_snd_foldl {α β : Type} {f : β × State → α → β × State} (h : ∀ p a, brand (f p a).2 = brand p.2) (l : List α)
    (p : β × State) : brand (l.foldl f p).2 = brand p.2 :=
  List.foldlRecOn l f (motive := fun q => brand q.2 = brand p.2) rfl fun q hq a _ => (h q a).trans hq

@[simp] theorem brand_fst_foldl {α β : Type} {f : State × β → α → State × β} (h : ∀ p a, brand (f p a).1 = brand p.1) (l : List α)
    (p : State × β) : brand (l.foldl f p).1 = brand p.1 :=
  List.foldlRecOn l f (motive := fun q => brand q.1 = brand p.1) rfl fun q hq a _ => (h q a).trans hq

@[simp] theorem logFault_sup_wdf (code cls : Nat) (w d0 d1 : Word) (s : State) :
    (logFault code cls w d0 d1 s).sup.wdf = s.sup.wdf := by
  simp [logFault]

@[simp] theorem pairSend_pair_seed (r : PairTx) (s : State) : (pairSend r s).pair.seed = s.pair.seed := by
  unfold pairSend
  split <;> rfl

@[simp] theorem count_sup_wdf (k n : Nat) (s : State) : (count k n s).sup.wdf = s.sup.wdf := by
  simp

/-! ### Operations that take a continuation -/

@[simp] theorem brand_checked {checks : List (Bool × Nat)} {k : Reply × State} {s : State} (h : brand k.2 = brand s) :
    brand (checked checks k s).2 = brand s := by
  unfold checked
  split
  · rfl
  · exact h

@[simp] theorem brand_takeBlock {id : Nat} {known : Bool} {h : Bytes} {blocks : Tbl Bytes} {p : Bytes} {store : Tbl Bytes → State}
    {s : State} (hs : ∀ b, brand (store b) = brand s) : brand (takeBlock id known h blocks p store s).2 = brand s := by
  simp [takeBlock, hs]

/-! ### The operations of the model, each after those that it calls -/

@[simp] theorem brand_enableClocks (ns : List Nat) (s : State) : brand (enableClocks ns s) = brand s := by simp [enableClocks]
@[simp] theorem brand_regulate (s : State) : brand (regulate s) = brand s := by simp [regulate]
@[simp] theorem brand_railsOn (kind : Restart) (s : State) : brand (railsOn kind s) = brand s := by simp [railsOn]
@[simp] theorem brand_alwaysOn (s : State) : brand (alwaysOn s) = brand s := by simp [alwaysOn]
@[simp] theorem brand_vinGood (mv : Nat) (s : State) : brand (vinGood mv s) = brand s := by simp [vinGood]
@[simp] theorem brand_advance (t : Nat) (s : State) : brand (advance t s) = brand s := by simp [advance]
@[simp] theorem brand_vinFall (mv : Nat) (s : State) : brand (vinFall mv s) = brand s := by simp [vinFall]
@[simp] theorem brand_foldAll (s : State) : brand (foldAll s) = brand s := by simp [foldAll]
@[simp] theorem brand_soeAppend (r : EvRec) (s : State) : brand (soeAppend r s) = brand s := by simp [soeAppend]
@[simp] theorem brand_soeDrain (s : State) : brand (soeDrain s) = brand s := by simp [soeDrain]
@[simp] theorem brand_homeWrite (s : State) : brand (homeWrite s) = brand s := by simp [homeWrite]

@[simp] theorem brand_writeDump (atSlumber valid : Bool) (s : State) : brand (writeDump atSlumber valid s) = brand s := by
  simp [writeDump]

@[simp] theorem brand_slumberDelta (valid : Bool) (s : State) : brand (slumberDelta valid s) = brand s := by
  unfold slumberDelta
  (repeat' split) <;> simp

@[simp] theorem brand_powerDump (fromSlumber : Bool) (s : State) : brand (powerDump fromSlumber s) = brand s := by
  simp [powerDump]

@[simp] theorem brand_saveCounts (s : State) : brand (saveCounts s) = brand s := by simp [saveCounts]
@[simp] theorem brand_holdupDump (s : State) : brand (holdupDump s) = brand s := by simp [holdupDump]
@[simp] theorem brand_dropToken (s : State) : brand (dropToken s) = brand s := by simp [dropToken]

@[simp] theorem brand_checkToken (s : State) : brand (checkToken s) = brand s := by
  unfold checkToken
  (repeat' split) <;> simp

@[simp] theorem brand_logFault (code cls : Nat) (w d0 d1 : Word) (s : State) : brand (logFault code cls w d0 d1 s) = brand s := by
  simp [logFault]

@[simp] theorem brand_latchTimeLost (cause : Nat) (s : State) : brand (latchTimeLost cause s) = brand s := by simp [latchTimeLost]
@[simp] theorem brand_setCal (y m d h mi sec : Nat) (s : State) : brand (setCal y m d h mi sec s) = brand s := by simp [setCal]
@[simp] theorem brand_alwaysOnLost (s : State) : brand (alwaysOnLost s) = brand s := by simp [alwaysOnLost]
@[simp] theorem brand_vaonLost (s : State) : brand (vaonLost s) = brand s := by simp [vaonLost]
@[simp] theorem brand_railsOff (s : State) : brand (railsOff s) = brand s := by simp [railsOff]
@[simp] theorem brand_holdupEnd (s : State) : brand (holdupEnd s) = brand s := by simp [holdupEnd]
@[simp] theorem brand_reloadCal (s : State) : brand (reloadCal s) = brand s := by simp [reloadCal]
@[simp] theorem brand_endHalt (s : State) : brand (endHalt s) = brand s := by simp [endHalt]
@[simp] theorem brand_holdupCal (s : State) : brand (holdupCal s) = brand s := by simp [holdupCal]
@[simp] theorem brand_endDebug (s : State) : brand (endDebug s) = brand s := by simp [endDebug]
@[simp] theorem brand_resetSlot (s : State) : brand (resetSlot s) = brand s := by simp [resetSlot]

@[simp] theorem brand_setChan (s : State) (n : Nat) (v : Channel) : brand (State.setChan s n v) = brand s := by
  simp [State.setChan]

@[simp] theorem brand_sendCmd (ch : Nat) (s : State) : brand (sendCmd ch s) = brand s := by
  unfold sendCmd
  (repeat' split) <;> simp

@[simp] theorem brand_sendAllCmds (s : State) : brand (sendAllCmds s) = brand s := by simp [sendAllCmds]
@[simp] theorem brand_raise (r : EvRec) (s : State) : brand (raise r s) = brand s := by simp [raise]

@[simp] theorem brand_raiseNow (src kind : Nat) (data : Word) (s : State) : brand (raiseNow src kind data s) = brand s := by
  simp [raiseNow]

@[simp] theorem brand_claimChanged (s : State) : brand (claimChanged s) = brand s := by simp [claimChanged]
@[simp] theorem brand_clearValid (s : State) : brand (clearValid s) = brand s := by simp [clearValid]

@[simp] theorem brand_setRegion (s : State) (n : Nat) (v : Region) : brand (State.setRegion s n v) = brand s := by
  simp [State.setRegion]

@[simp] theorem brand_setDataWord (region addr : Nat) (v : Word) (s : State) : brand (setDataWord region addr v s) = brand s := by
  simp [setDataWord]

@[simp] theorem brand_restoreData (keys : List Nat) (s : State) : brand (restoreData keys s) = brand s := by simp [restoreData]
@[simp] theorem brand_freeBanks (n : Nat) (s : State) : brand (freeBanks n s) = brand s := by simp [freeBanks]

@[simp] theorem brand_setTask (s : State) (n : Nat) (v : TaskRt) : brand (State.setTask s n v) = brand s := by
  simp [State.setTask]

@[simp] theorem brand_dropCycle (n : Nat) (s : State) : brand (dropCycle n s) = brand s := by simp [dropCycle]
@[simp] theorem brand_abandonAll (s : State) : brand (abandonAll s) = brand s := by simp [abandonAll]
@[simp] theorem brand_stopEngines (s : State) : brand (stopEngines s) = brand s := by simp [stopEngines]
@[simp] theorem brand_holdAll (s : State) : brand (holdAll s) = brand s := by simp [holdAll]
@[simp] theorem brand_setIrq (n : Nat) (s : State) : brand (setIrq n s) = brand s := by simp [setIrq]
@[simp] theorem brand_noteState (old s : State) : brand (noteState old s) = brand s := by simp [noteState]
@[simp] theorem brand_holdupBegin (s : State) : brand (holdupBegin s) = brand s := by simp [holdupBegin]

@[simp] theorem brand_holdupEntry (through : Bool) (s : State) : brand (holdupEntry through s) = brand s := by
  unfold holdupEntry
  (repeat' split) <;> simp

@[simp] theorem brand_judgeReserve (s : State) : brand (judgeReserve s) = brand s := by simp [judgeReserve]
@[simp] theorem brand_vholdCollapse (mv : Nat) (s : State) : brand (vholdCollapse mv s) = brand s := by simp [vholdCollapse]
@[simp] theorem brand_vrtcApplied (mv : Nat) (s : State) : brand (vrtcApplied mv s) = brand s := by simp [vrtcApplied]
@[simp] theorem brand_timeLostDetect (mv : Nat) (s : State) : brand (timeLostDetect mv s) = brand s := by simp [timeLostDetect]
@[simp] theorem brand_holdupSteps (s : State) : brand (holdupSteps s) = brand s := by simp [holdupSteps]

@[simp] theorem brand_resetAssert (s : State) : brand (resetAssert s) = brand s := by
  unfold resetAssert
  simp [↓brand_mk, ↓brand_ite]

@[simp] theorem brand_startRole (s : State) : brand (startRole s) = brand s := by simp [startRole]

@[simp] theorem brand_bcrDefaults (b : Bytes) (s : State) : brand (bcrDefaults b s) = brand s := by
  unfold bcrDefaults
  dsimp only
  simp [↓brand_mk, ↓brand_ite]

@[simp] theorem brand_readBcr (env : StartEnv) (s : State) : brand (readBcr env s) = brand s := by
  unfold readBcr
  (repeat' split) <;> simp

@[simp] theorem brand_clearLogic (k : Restart) (env : StartEnv) (s : State) : brand (clearLogic k env s) = brand s := by
  simp [brand, fuses, clearLogic, startPair, startSup, startSec]

@[simp] theorem brand_forcePoint (op addr : Nat) (v : Word) (s : State) : brand (forcePoint op addr v s) = brand s := by
  unfold forcePoint
  split
  · simp
  · split <;> simp
  · refine (brand_foldl (fun s e => ?_) _ _).trans (by simp)
    split <;> simp

@[simp] theorem brand_releaseForces (s : State) : brand (releaseForces s) = brand s := by simp [releaseForces]
@[simp] theorem brand_placeRec (k : Nat) (r : LdgRec) (s : State) : brand (placeRec k r s) = brand s := by simp [placeRec]

@[simp] theorem brand_audit (event port result : Nat) (detail : Bytes) (s : State) :
    brand (audit event port result detail s) = brand s := by
  simp [audit]

@[simp] theorem brand_endSession (x : Session) (s : State) : brand (endSession x s) = brand s := by simp [endSession]
@[simp] theorem brand_endSessions (xs : List Session) (s : State) : brand (endSessions xs s) = brand s := by simp [endSessions]
@[simp] theorem brand_sessionsEnd (k : Restart) (s : State) : brand (sessionsEnd k s) = brand s := by simp [sessionsEnd]

@[simp] theorem brand_logTrip (was : Option (Word × Nat)) (s : State) : brand (logTrip was s) = brand s := by
  unfold logTrip
  (repeat' split) <;> simp

@[simp] theorem brand_loadFlags (s : State) : brand (loadFlags s) = brand s := by simp [loadFlags]
@[simp] theorem brand_startStorm (k : Restart) (s : State) : brand (startStorm k s) = brand s := by simp [startStorm]
@[simp] theorem brand_retireAtStart (s : State) (p : Nat) : brand (retireAtStart s p) = brand s := by simp [retireAtStart]
@[simp] theorem brand_disqualify (cause : Nat) (s : State) : brand (disqualify cause s) = brand s := by simp [disqualify]
@[simp] theorem brand_moduleFailure (cause : Nat) (s : State) : brand (moduleFailure cause s) = brand s := by simp [moduleFailure]
@[simp] theorem brand_startRegions (env : StartEnv) (s : State) : brand (startRegions env s) = brand s := by simp [startRegions]

@[simp] theorem brand_bankFinding (cause bank : Nat) (s : State) : brand (bankFinding cause bank s) = brand s := by
  simp [bankFinding]

@[simp] theorem brand_badSelector (env : StartEnv) (s : State) : brand (badSelector env s) = brand s := by simp [badSelector]

@[simp] theorem brand_startCompare (old new : Tbl Rule) (s : State) : brand (startCompare old new s) = brand s := by
  simp [startCompare]

@[simp] theorem brand_setRules (new : Tbl Rule) (map : Tbl Half) (s : State) : brand (setRules new map s) = brand s := by
  simp [setRules]

@[simp] theorem brand_renewStation (old : State) (n : Nat) (s : State) : brand (renewStation old n s) = brand s := by
  simp [renewStation]

@[simp] theorem brand_renewStations (old s : State) : brand (renewStations old s) = brand s := by simp [renewStations]
@[simp] theorem brand_setDie (s : State) (n : Nat) (v : FieldDie) : brand (State.setDie s n v) = brand s := by simp [State.setDie]
@[simp] theorem brand_configureDie (n : Nat) (s : State) : brand (configureDie n s) = brand s := by simp [configureDie]
@[simp] theorem brand_installImage (p : Prog) (s : State) : brand (installImage p s) = brand s := by simp [installImage]

@[simp] theorem brand_revertState (cause : Nat) (s : State) : brand (revertState cause s) = brand s := by
  simp only [revertState]
  (repeat' split) <;> simp

@[simp] theorem brand_loadDieFw (s : State) : brand (loadDieFw s) = brand s := by simp [loadDieFw]
@[simp] theorem brand_installRecovery (s : State) : brand (installRecovery s) = brand s := by simp [installRecovery]

@[simp] theorem brand_trialImage (s : State) : brand (trialImage s) = brand s := by
  unfold trialImage
  (repeat' split) <;> simp

@[simp] theorem brand_selectBank (env : StartEnv) (s : State) : brand (selectBank env s) = brand s := by simp [selectBank]

@[simp] theorem brand_trialStart (k : Restart) (env : StartEnv) (s : State) : brand (trialStart k env s) = brand s := by
  simp [trialStart]

@[simp] theorem brand_startBanks (k : Restart) (env : StartEnv) (s : State) : brand (startBanks k env s) = brand s := by
  simp [startBanks]

@[simp] theorem brand_setSlow (rc : Bool) (s : State) : brand (setSlow rc s) = brand s := by simp [setSlow]
@[simp] theorem brand_startClocks (s : State) : brand (startClocks s) = brand s := by simp [startClocks]
@[simp] theorem brand_count (k n : Nat) (s : State) : brand (count k n s) = brand s := by simp [count]
@[simp] theorem brand_firnRoom (size : Nat) (s : State) : brand (firnRoom size s) = brand s := by simp [firnRoom]
@[simp] theorem brand_firnPlace (key len : Nat) (s : State) : brand (firnPlace key len s) = brand s := by simp [firnPlace]

@[simp] theorem brand_firnAppendRec (k : Nat) (r : LdgRec) (s : State) : brand (firnAppendRec k r s) = brand s := by
  simp [firnAppendRec]

@[simp] theorem brand_reconcileKey (k : Nat) (s : State) : brand (reconcileKey k s) = brand s := by
  unfold reconcileKey
  extract_lets m f putM
  have hput (r : LdgRec) (v : State) : brand (putM r v) = brand v := by
    dsimp only [putM]
    simp
  clear_value m f putM
  (repeat' split) <;> simp [hput]

@[simp] theorem brand_openLedger (s : State) : brand (openLedger s) = brand s := by
  unfold openLedger
  (repeat' split) <;> simp

@[simp] theorem brand_loadConfirm (s : State) : brand (loadConfirm s) = brand s := by
  unfold loadConfirm
  (repeat' split) <;> simp

@[simp] theorem brand_noteFallback (s : State) : brand (noteFallback s) = brand s := by simp [noteFallback]
@[simp] theorem brand_startLedger (env : StartEnv) (s : State) : brand (startLedger env s) = brand s := by simp [startLedger]
@[simp] theorem brand_chanFault (ch n : Nat) (s : State) : brand (chanFault ch n s) = brand s := by simp [chanFault]
@[simp] theorem brand_loadCount (ch : Nat) (s : State) : brand (loadCount ch s) = brand s := by simp [loadCount]
@[simp] theorem brand_startDie (s : State) (n : Nat) : brand (startDie s n) = brand s := by simp [startDie]
@[simp] theorem brand_enterRetiredHold (s : State) : brand (enterRetiredHold s) = brand s := by simp [enterRetiredHold]
@[simp] theorem brand_enterRecovery (s : State) : brand (enterRecovery s) = brand s := by simp [enterRecovery]
@[simp] theorem brand_takeTarget (s : State) : brand (takeTarget s) = brand s := by simp [takeTarget]

@[simp] theorem brand_newPeriod (s : State) : brand (newPeriod s) = brand s := by
  unfold newPeriod
  (repeat' split) <;> simp

@[simp] theorem brand_beginEarly (s : State) : brand (beginEarly s) = brand s := by simp [beginEarly]

@[simp] theorem brand_chooseService (k : Restart) (env : StartEnv) (s : State) : brand (chooseService k env s) = brand s := by
  simp [chooseService]

@[simp] theorem brand_noteNoProgram (env : StartEnv) (s : State) : brand (noteNoProgram env s) = brand s := by
  simp [noteNoProgram]

@[simp] theorem brand_startTable (k : Restart) (env : StartEnv) (s : State) : brand (startTable k env s) = brand s := by
  simp [startTable]

@[simp] theorem brand_goDown (kind : Restart) (s : State) : brand (goDown kind s) = brand s := by simp [goDown]

@[simp] theorem brand_startUp (env : StartEnv) (s : State) : brand (startUp env s) = brand s := by
  unfold startUp
  (repeat' split) <;> simp

@[simp] theorem brand_settleClocks (s : State) : brand (settleClocks s) = brand s := by simp [settleClocks]
@[simp] theorem brand_fullTrial (s : State) : brand (fullTrial s) = brand s := by simp [fullTrial]
@[simp] theorem brand_trackPresence (at1 : Nat) (s : State) : brand (trackPresence at1 s) = brand s := by simp [trackPresence]
@[simp] theorem brand_stopProgram (s : State) : brand (stopProgram s) = brand s := by simp [stopProgram]
@[simp] theorem brand_dualStart (s : State) : brand (dualStart s) = brand s := by simp [dualStart]
@[simp] theorem brand_resetHome (s : State) : brand (resetHome s) = brand s := by simp [resetHome]
@[simp] theorem brand_initImage (s : State) : brand (initImage s) = brand s := by simp [initImage]
@[simp] theorem brand_loadRegion (s : State) (l : Nat) : brand (loadRegion s l) = brand s := by simp [loadRegion]
@[simp] theorem brand_loadRegions (s : State) : brand (loadRegions s) = brand s := by simp [loadRegions]
@[simp] theorem brand_settleHome (s : State) : brand (settleHome s) = brand s := by simp [settleHome]
@[simp] theorem brand_setImg (a : Nat) (v : Word) (s : State) : brand (setImg a v s) = brand s := by simp [setImg]
@[simp] theorem brand_setFlags (a : Nat) (w : Word) (s : State) : brand (setFlags a w s) = brand s := by simp [setFlags]

@[simp] theorem brand_setMirrorWord (region addr : Nat) (v : Word) (s : State) : brand (setMirrorWord region addr v s) = brand s := by
  simp [setMirrorWord]

@[simp] theorem brand_restoreRetentive (s : State) : brand (restoreRetentive s) = brand s := by simp [restoreRetentive]
@[simp] theorem brand_startTasks (k : StartKind) (s : State) : brand (startTasks k s) = brand s := by simp [startTasks]

@[simp] theorem brand_setBank (s : State) (e c : Nat) (v : Bank) : brand (State.setBank s e c v) = brand s := by
  simp [State.setBank]

@[simp] theorem brand_startStripe (n phase l : Nat) (entry : Word) (s : State) : brand (startStripe n phase l entry s) = brand s := by
  simp [startStripe]

@[simp] theorem brand_dispatch1 (l c : Nat) (s : State) : brand (dispatch1 l c s) = brand s := by
  unfold dispatch1
  (repeat' split) <;> simp

@[simp] theorem brand_dispatch (s : State) : brand (dispatch s) = brand s := by simp [dispatch]

@[simp] theorem brand_startRelease (n : Nat) (c : Cause) (s : State) : brand (startRelease n c s) = brand s := by
  simp [startRelease]

@[simp] theorem brand_release (n : Nat) (c : Cause) (s : State) : brand (release n c s) = brand s := by simp [release]
@[simp] theorem brand_releaseOwn (n : Nat) (c : Cause) (s : State) : brand (releaseOwn n c s) = brand s := by simp [releaseOwn]
@[simp] theorem brand_gooseStart (s : State) : brand (gooseStart s) = brand s := by simp [gooseStart]

@[simp] theorem brand_startProgram (k : StartKind) (s : State) : brand (startProgram k s) = brand s := by
  unfold startProgram
  (repeat' split) <;> simp

@[simp] theorem brand_firstProgram (s : State) : brand (firstProgram s) = brand s := by simp [firstProgram]
@[simp] theorem brand_panelInitial (s : State) : brand (panelInitial s) = brand s := by simp [panelInitial]

@[simp] theorem brand_fullProgram (s : State) : brand (fullProgram s) = brand s := by
  unfold fullProgram
  dsimp only
  simp [↓brand_mk, ↓brand_ite]

@[simp] theorem brand_openDebug (port : Nat) (s : State) : brand (openDebug port s) = brand s := by simp [openDebug]
@[simp] theorem brand_attachWaiting (s : State) : brand (attachWaiting s) = brand s := by simp [attachWaiting]
@[simp] theorem brand_fullServiceStart (s : State) : brand (fullServiceStart s) = brand s := by simp [fullServiceStart]
@[simp] theorem brand_slumberSteps (k : Nat) (s : State) : brand (slumberSteps k s) = brand s := by simp [slumberSteps]
@[simp] theorem brand_learnAnew (s : State) : brand (learnAnew s) = brand s := by simp [learnAnew]

@[simp] theorem brand_setTimeState (st active : Nat) (s : State) : brand (setTimeState st active s) = brand s := by
  simp [setTimeState]

@[simp] theorem brand_loseLock (s : State) : brand (loseLock s) = brand s := by simp [loseLock]
@[simp] theorem brand_slumberStop (s : State) : brand (slumberStop s) = brand s := by simp [slumberStop]
@[simp] theorem brand_wakeUp (c : WakeCause) (s : State) : brand (wakeUp c s) = brand s := by simp [wakeUp]

@[simp] theorem brand_slumberEntry (drop : Option (Fin 4 × Nat)) (s : State) : brand (slumberEntry drop s) = brand s := by
  unfold slumberEntry
  (repeat' split) <;> simp

@[simp] theorem brand_startInterp (g src kind : Nat) (data : Word) (s : State) : brand (startInterp g src kind data s) = brand s := by
  simp [startInterp]

@[simp] theorem brand_missRecord (consumer : Nat) (lost : EvRec) (s : State) : brand (missRecord consumer lost s) = brand s := by
  unfold missRecord
  (repeat' split) <;> simp

@[simp] theorem brand_consumersMiss (lost : EvRec) (s : State) : brand (consumersMiss lost s) = brand s := by
  simp only [consumersMiss]
  (repeat' split) <;> simp

@[simp] theorem brand_enterRecord (r : EvRec) (s : State) : brand (enterRecord r s) = brand s := by
  unfold enterRecord
  (repeat' split) <;> simp

@[simp] theorem brand_wakeBy (c : WakeCause) (s : State) : brand (wakeBy c s) = brand s := by simp [wakeBy]

@[simp] theorem brand_sleepEdge (src kind : Nat) (data : Word) (s : State) : brand (sleepEdge src kind data s) = brand s := by
  simp [sleepEdge]

@[simp] theorem brand_originEdge (src kind : Nat) (data : Word) (s : State) : brand (originEdge src kind data s) = brand s := by
  simp [originEdge]

@[simp] theorem brand_holdupChargeDone (fromMv toMv chargeUs : Nat) (s : State) :
    brand (holdupChargeDone fromMv toMv chargeUs s) = brand s := by
  simp [holdupChargeDone]

@[simp] theorem brand_thermalWarn (die : Nat) (temp : Int) (s : State) : brand (thermalWarn die temp s) = brand s := by
  simp [thermalWarn]

@[simp] theorem brand_dieOvertemp (die : Nat) (temp : Int) (s : State) : brand (dieOvertemp die temp s) = brand s := by
  simp [dieOvertemp]

@[simp] theorem brand_setReady (n : Nat) (v : Bool) (s : State) : brand (setReady n v s) = brand s := by simp [setReady]
@[simp] theorem brand_skipMissed (s : State) : brand (skipMissed s) = brand s := by simp [skipMissed]
@[simp] theorem brand_clearDelays (s : State) : brand (clearDelays s) = brand s := by simp [clearDelays]
@[simp] theorem brand_wakeDone (s : State) : brand (wakeDone s) = brand s := by simp [wakeDone]

@[simp] theorem brand_clockReady (src : ClkSrc) (s : State) : brand (clockReady src s) = brand s := by
  unfold clockReady
  (repeat' split) <;> simp

@[simp] theorem brand_setFail (n : Nat) (s : State) : brand (setFail n s) = brand s := by simp [setFail]
@[simp] theorem brand_linkFails (s : State) : brand (linkFails s) = brand s := by simp [linkFails]
@[simp] theorem brand_setQ (a : Nat) (q : BitVec 4) (s : State) : brand (setQ a q s) = brand s := by simp [setQ]
@[simp] theorem brand_gooseAllStale (s : State) : brand (gooseAllStale s) = brand s := by simp [gooseAllStale]

@[simp] theorem brand_linksDown (s : State) : brand (linksDown s) = brand s := by
  unfold linksDown
  simp [↓brand_mk, ↓brand_ite]

@[simp] theorem brand_pllNetStops (s : State) : brand (pllNetStops s) = brand s := by simp [pllNetStops]
@[simp] theorem brand_xmFailure (s : State) : brand (xmFailure s) = brand s := by simp [xmFailure]
@[simp] theorem brand_xsFailure (s : State) : brand (xsFailure s) = brand s := by simp [xsFailure]
@[simp] theorem brand_rcFastTrip (s : State) : brand (rcFastTrip s) = brand s := by simp [rcFastTrip]
@[simp] theorem brand_pllNetTrip (s : State) : brand (pllNetTrip s) = brand s := by simp [pllNetTrip]

@[simp] theorem brand_tallyTrip (mask : Word) (kind : Nat) (stewardPassed : Bool) (s : State) :
    brand (tallyTrip mask kind stewardPassed s) = brand s := by
  unfold tallyTrip
  (repeat' split) <;> simp [↓brand_mk]

@[simp] theorem brand_clockMonitorTrip (src : ClkSrc) (s : State) : brand (clockMonitorTrip src s) = brand s := by
  unfold clockMonitorTrip
  (repeat' split) <;> simp

@[simp] theorem brand_pllNetRelock (locked : Bool) (s : State) : brand (pllNetRelock locked s) = brand s := by
  unfold pllNetRelock
  (repeat' split) <;> simp

@[simp] theorem brand_refSwitch (s : State) : brand (refSwitch s) = brand s := by
  unfold refSwitch
  (repeat' split) <;> simp

@[simp] theorem brand_slowSwitch (s : State) : brand (slowSwitch s) = brand s := by
  unfold slowSwitch
  (repeat' split) <;> simp

@[simp] theorem brand_clockSwitchApply (s : State) : brand (clockSwitchApply s) = brand s := by simp [clockSwitchApply]
@[simp] theorem brand_putWork (w : Work) (s : State) : brand (putWork w s) = brand s := by simp [putWork]

@[simp] theorem brand_setMbox (s : State) (n : Nat) (v : Mailbox) : brand (State.setMbox s n v) = brand s := by
  simp [State.setMbox]

@[simp] theorem brand_writeResponse (w : Work) (status : Nat) (payload : Bytes) (deferred : Bool) (s : State) :
    brand (writeResponse w status payload deferred s) = brand s := by
  simp [writeResponse]

@[simp] theorem brand_dropWork (wid : Nat) (s : State) : brand (dropWork wid s) = brand s := by simp [dropWork]

@[simp] theorem brand_finish (w : Work) (status : Nat) (payload : Bytes) (s : State) : brand (finish w status payload s) = brand s := by
  simp [finish]

@[simp] theorem brand_finishWid (wid status : Nat) (payload : Bytes) (s : State) :
    brand (finishWid wid status payload s) = brand s := by
  unfold finishWid
  (repeat' split) <;> simp

@[simp] theorem brand_profileChangeApply (s : State) : brand (profileChangeApply s) = brand s := by simp [profileChangeApply]
@[simp] theorem brand_excuseHold (s : State) : brand (excuseHold s) = brand s := by simp [excuseHold]
@[simp] theorem brand_noteLeap (old s : State) : brand (noteLeap old s) = brand s := by simp [noteLeap]

@[simp] theorem brand_takeMaster (s : State) : brand (takeMaster s) = brand s := by
  unfold takeMaster
  (repeat' split) <;> simp

@[simp] theorem brand_setTimeSrc (k : Nat) (v : TimeSrc) (s : State) : brand (setTimeSrc k v s) = brand s := by simp [setTimeSrc]
@[simp] theorem brand_toMicro (s : State) : brand (toMicro s) = brand s := by simp [toMicro]
@[simp] theorem brand_stepBy (delta : Int) (s : State) : brand (stepBy delta s) = brand s := by simp [stepBy]
@[simp] theorem brand_correct (offset ppb : Int) (s : State) : brand (correct offset ppb s) = brand s := by simp [correct]

@[simp] theorem brand_reselect (s : State) : brand (reselect s) = brand s := by
  unfold reselect
  (repeat' split) <;> simp

@[simp] theorem brand_takeOffset (k : Nat) (offset ppb : Int) (s : State) : brand (takeOffset k offset ppb s) = brand s := by
  simp [takeOffset]

@[simp] theorem brand_ptpBody (id : Nat) (b : PtpBody) (s : State) : brand (ptpBody id b s) = brand s := by
  unfold ptpBody
  (repeat' split) <;> simp

@[simp] theorem brand_ptpFrame (m : PtpMsg) (s : State) : brand (ptpFrame m s) = brand s := by simp [ptpFrame]
@[simp] theorem brand_irigFrame (m : IrigMsg) (s : State) : brand (irigFrame m s) = brand s := by simp [irigFrame]
@[simp] theorem brand_ppsInEdge (ppb : Int) (s : State) : brand (ppsInEdge ppb s) = brand s := by simp [ppsInEdge]

@[simp] theorem brand_timeSourceTimeout (k : Nat) (s : State) : brand (timeSourceTimeout k s) = brand s := by
  simp [timeSourceTimeout]

@[simp] theorem brand_loadCal (y m d h mi sec : Nat) (s : State) : brand (loadCal y m d h mi sec s) = brand s := by simp [loadCal]
@[simp] theorem brand_loadNext (c : CalNext) (s : State) : brand (loadNext c s) = brand s := by simp [loadNext]

@[simp] theorem brand_nextSecond (s : State) : brand (nextSecond s).1 = brand s := by
  simp only [nextSecond]
  (repeat' split) <;> simp

@[simp] theorem brand_countSecond (s : State) : brand (countSecond s) = brand s := by simp [countSecond]
@[simp] theorem brand_checkVrtc (s : State) : brand (checkVrtc s) = brand s := by simp [checkVrtc]
@[simp] theorem brand_compareCal (s : State) : brand (compareCal s) = brand s := by simp [compareCal]
@[simp] theorem brand_applyTrim (s : State) : brand (applyTrim s) = brand s := by simp [applyTrim]
@[simp] theorem brand_learnTemp (s : State) : brand (learnTemp s) = brand s := by simp [learnTemp]
@[simp] theorem brand_readTemp (temp : Int) (s : State) : brand (readTemp temp s) = brand s := by simp [readTemp]

@[simp] theorem brand_calendarSecond (temp : Int) (s : State) : brand (calendarSecond temp s) = brand s := by
  simp [calendarSecond]

@[simp] theorem brand_draw (s : State) : brand (draw s).2 = brand s := by simp [draw]
@[simp] theorem brand_triggerTasks (r : EvRec) (s : State) : brand (triggerTasks r s) = brand s := by simp [triggerTasks]
@[simp] theorem brand_deliver (r : EvRec) (s : State) : brand (deliver r s) = brand s := by simp [deliver]

@[simp] theorem brand_eventStamp (src kind : Nat) (data : Word) (s : State) : brand (eventStamp src kind data s) = brand s := by
  unfold eventStamp
  (repeat' split) <;> simp

@[simp] theorem brand_interpolatorDone (g n1 n2 tick : Nat) (s : State) : brand (interpolatorDone g n1 n2 tick s) = brand s := by
  unfold interpolatorDone
  dsimp only
  (repeat' split) <;> simp [↓brand_mk]

@[simp] theorem brand_periodicRelease (n : Nat) (s : State) : brand (periodicRelease n s) = brand s := by
  simp only [periodicRelease]
  (repeat' split) <;> simp

@[simp] theorem brand_flipRoot (l : Nat) (s : State) : brand (flipRoot l s) = brand s := by simp [flipRoot]

@[simp] theorem brand_switchTask (hold : Bool) (n : Nat) (s : State) : brand (switchTask hold n s) = brand s := by
  unfold switchTask
  (repeat' split) <;> simp

@[simp] theorem brand_retarget (s : State) : brand (retarget s) = brand s := by simp [retarget]

@[simp] theorem brand_changeRules (new : Tbl Rule) (map : Tbl Half) (s : State) : brand (changeRules new map s) = brand s := by
  simp [changeRules]

@[simp] theorem brand_releaseNext (n : Nat) (s : State) : brand (releaseNext n s) = brand s := by
  simp only [releaseNext]
  (repeat' split) <;> simp

@[simp] theorem brand_issueHeld (n : Nat) (s : State) : brand (issueHeld n s) = brand s := by
  simp only [issueHeld]
  (repeat' split) <;> simp

@[simp] theorem brand_liftTask (n : Nat) (s : State) : brand (liftTask n s) = brand s := by simp [liftTask]

@[simp] theorem brand_liftHold (s : State) : brand (liftHold s) = brand s := by
  unfold liftHold
  (repeat' split) <;> simp

@[simp] theorem brand_storeConfirm (v : Option Word) (s : State) : brand (storeConfirm v s) = brand s := by
  unfold storeConfirm
  (repeat' split) <;> simp

@[simp] theorem brand_safAtSwitch (s : State) : brand (safAtSwitch s) = brand s := by
  unfold safAtSwitch
  (repeat' split) <;> simp

@[simp] theorem brand_shipForces (ps : List ImgPoint) (s : State) : brand (shipForces ps s) = brand s := by simp [shipForces]

@[simp] theorem brand_takeShipped (n : Nat) (s : State) : brand (takeShipped n s) = brand s := by
  unfold takeShipped
  (repeat' split) <;> simp

@[simp] theorem brand_switchNow (e : Epoch) (s : State) : brand (switchNow e s) = brand s := by simp [switchNow]
@[simp] theorem brand_outOfStep (cause : Nat) (s : State) : brand (outOfStep cause s) = brand s := by simp [outOfStep]
@[simp] theorem brand_abortEdit (cause : Nat) (s : State) : brand (abortEdit cause s) = brand s := by simp [abortEdit]

@[simp] theorem brand_epochSwitch (s : State) : brand (epochSwitch s) = brand s := by
  unfold epochSwitch
  (repeat' split) <;> simp

@[simp] theorem brand_dropHandover (s : State) : brand (dropHandover s) = brand s := by
  simp only [dropHandover]
  (repeat' split) <;> simp

@[simp] theorem brand_answerSwitch (S : Nat) (s : State) : brand (answerSwitch S s) = brand s := by
  unfold answerSwitch
  (repeat' split) <;> simp

@[simp] theorem brand_changeControl (role : Role) (S : Nat) (s : State) : brand (changeControl role S s) = brand s := by
  simp [changeControl]

@[simp] theorem brand_setArchive (bank : Nat) (v : Option (Prog × Nat × List EpochRec)) (s : State) :
    brand (setArchive bank v s) = brand s := by
  simp [setArchive]

@[simp] theorem brand_applyActivate (trialS : Nat) (s : State) : brand (applyActivate trialS s) = brand s := by
  simp [applyActivate]

@[simp] theorem brand_revertUpdate (cause : Nat) (s : State) : brand (revertUpdate cause s) = brand s := by simp [revertUpdate]
@[simp] theorem brand_yieldControl (S : Nat) (s : State) : brand (yieldControl S s) = brand s := by simp [yieldControl]
@[simp] theorem brand_setPub (k : Nat) (g : GoosePub) (s : State) : brand (setPub k g s) = brand s := by simp [setPub]

@[simp] theorem brand_takePubs (s : State) : brand (takePubs s) = brand s := by
  refine brand_foldl (fun s e => ?_) _ _
  split <;> simp

@[simp] theorem brand_gainControl (S : Nat) (s : State) : brand (gainControl S s) = brand s := by simp [gainControl]

@[simp] theorem brand_handoverApply (s : State) : brand (handoverApply s) = brand s := by
  unfold handoverApply
  (repeat' split) <;> simp

@[simp] theorem brand_stopRequestApply (s : State) : brand (stopRequestApply s) = brand s := by simp [stopRequestApply]

@[simp] theorem brand_applyConfirm (op scope : Nat) (check : Word) (s : State) : brand (applyConfirm op scope check s) = brand s := by
  simp [applyConfirm]

@[simp] theorem brand_safConfirmApply (s : State) : brand (safConfirmApply s) = brand s := by
  refine (brand_foldl (fun s b => ?_) _ _).trans (by simp)
  split <;> simp

@[simp] theorem brand_flipTables (s : State) : brand (flipTables s) = brand s := by simp [flipTables]

@[simp] theorem brand_applyTaskCfg (n : Nat) (c : TaskCfg) (s : State) : brand (applyTaskCfg n c s) = brand s := by
  simp only [applyTaskCfg]
  (repeat' split) <;> simp

@[simp] theorem brand_applyMode (mode : Nat) (s : State) : brand (applyMode mode s) = brand s := by
  unfold applyMode
  (repeat' split) <;> simp

@[simp] theorem brand_applyBnd1 (b : Bnd) (s : State) : brand (applyBnd1 b s) = brand s := by
  unfold applyBnd1
  (repeat' split) <;> simp

@[simp] theorem brand_applyBnd (s : State) : brand (applyBnd s) = brand s := by simp [applyBnd]
@[simp] theorem brand_flushBoundary (s : State) : brand (flushBoundary s) = brand s := by simp [flushBoundary]
@[simp] theorem brand_pairFields (p : Bytes) (s : State) : brand (pairFields p s) = brand s := by simp [pairFields]
@[simp] theorem brand_heldSwitch (s : State) : brand (heldSwitch s) = brand s := by simp [heldSwitch]
@[simp] theorem brand_armRegion (q : Partition) (s : State) (l : Nat) : brand (armRegion q s l) = brand s := by simp [armRegion]
@[simp] theorem brand_commitEpoch (e : Epoch) (S : Nat) (s : State) : brand (commitEpoch e S s) = brand s := by simp [commitEpoch]
@[simp] theorem brand_apprenticeCommit (s : State) : brand (apprenticeCommit s) = brand s := by simp [apprenticeCommit]

@[simp] theorem brand_apprenticeActivate (p : Bytes) (s : State) : brand (apprenticeActivate p s) = brand s := by
  simp [apprenticeActivate]

@[simp] theorem brand_confirmUpdate (s : State) : brand (confirmUpdate s) = brand s := by simp [confirmUpdate]

@[simp] theorem brand_forward (code : Nat) (payload : Bytes) (s : State) : brand (forward code payload s) = brand s := by
  simp [forward]

@[simp] theorem brand_sysProfileSet (w : Work) (s : State) : brand (sysProfileSet w s).2 = brand s := by simp [sysProfileSet]
@[simp] theorem brand_prgLoadBegin (w : Work) (s : State) : brand (prgLoadBegin w s).2 = brand s := by simp [prgLoadBegin]
@[simp] theorem brand_prgLoadBlock (w : Work) (s : State) : brand (prgLoadBlock w s).2 = brand s := by simp [prgLoadBlock]
@[simp] theorem brand_dropLoad (s : State) : brand (dropLoad s) = brand s := by simp [dropLoad]
@[simp] theorem brand_prgLoadEnd (w : Work) (s : State) : brand (prgLoadEnd w s).2 = brand s := by simp [prgLoadEnd]
@[simp] theorem brand_applyIfStopped (s : State) : brand (applyIfStopped s) = brand s := by simp [applyIfStopped]
@[simp] theorem brand_prgMode (w : Work) (s : State) : brand (prgMode w s).2 = brand s := by simp [prgMode]
@[simp] theorem brand_imgForce (w : Work) (s : State) : brand (imgForce w s).2 = brand s := by simp [imgForce]

@[simp] theorem brand_taskCfg (w : Work) (s : State) : brand (taskCfg w s).2 = brand s := by
  simp only [taskCfg]
  (repeat' split) <;> simp

@[simp] theorem brand_editStage (w : Work) (s : State) : brand (editStage w s).2 = brand s := by simp [editStage]
@[simp] theorem brand_touchEdit (id : Nat) (s : State) : brand (touchEdit id s) = brand s := by simp [touchEdit]
@[simp] theorem brand_stageCode (s : State) : brand (stageCode s) = brand s := by simp [stageCode]
@[simp] theorem brand_editBlock (w : Work) (s : State) : brand (editBlock w s).2 = brand s := by simp [editBlock]

@[simp] theorem brand_answerCommit (status : Nat) (payload : Bytes) (s : State) : brand (answerCommit status payload s) = brand s := by
  unfold answerCommit
  (repeat' split) <;> simp

@[simp] theorem brand_pairSend (r : PairTx) (s : State) : brand (pairSend r s) = brand s := by simp [pairSend]

@[simp] theorem brand_commitHere (id : Nat) (s : State) : brand (commitHere id s).2.2 = brand s := by
  simp only [commitHere]
  (repeat' split) <;> simp

@[simp] theorem brand_partnerChecked (status check rule : Nat) (s : State) : brand (partnerChecked status check rule s) = brand s := by
  simp [partnerChecked]

@[simp] theorem brand_editAbort (w : Work) (s : State) : brand (editAbort w s).2 = brand s := by simp [editAbort]
@[simp] theorem brand_setSub (k : Nat) (g : GooseSub) (s : State) : brand (setSub k g s) = brand s := by simp [setSub]
@[simp] theorem brand_subStale (k : Nat) (s : State) : brand (subStale k s) = brand s := by simp [subStale]

@[simp] theorem brand_configureSub (k : Nat) (g : GooseSub) (s : State) : brand (configureSub k g s) = brand s := by
  simp [configureSub]

@[simp] theorem brand_gooseSubCfg (w : Work) (s : State) : brand (gooseSubCfg w s).2 = brand s := by simp [gooseSubCfg]

@[simp] theorem brand_configurePub (k : Nat) (g : GoosePub) (s : State) : brand (configurePub k g s) = brand s := by
  simp [configurePub]

@[simp] theorem brand_goosePubCfg (w : Work) (s : State) : brand (goosePubCfg w s).2 = brand s := by simp [goosePubCfg]
@[simp] theorem brand_setSv (k : Nat) (g : SvStream) (s : State) : brand (setSv k g s) = brand s := by simp [setSv]

@[simp] theorem brand_configureSv (k : Nat) (g : SvStream) (s : State) : brand (configureSv k g s) = brand s := by
  simp [configureSv]

@[simp] theorem brand_svSubCfg (w : Work) (s : State) : brand (svSubCfg w s).2 = brand s := by simp [svSubCfg]
@[simp] theorem brand_ringCfg (w : Work) (s : State) : brand (ringCfg w s).2 = brand s := by simp [ringCfg]

@[simp] theorem brand_applyRing (b : Bnd) (s : State) : brand (applyRing b s) = brand s := by
  unfold applyRing
  (repeat' split) <;> simp

@[simp] theorem brand_ringStationCfg (w : Work) (s : State) : brand (ringStationCfg w s).2 = brand s := by simp [ringStationCfg]
@[simp] theorem brand_tblWrite (w : Work) (s : State) : brand (tblWrite w s).2 = brand s := by simp [tblWrite]

@[simp] theorem brand_setBankFw (bank : Nat) (v : List Word) (s : State) : brand (setBankFw bank v s) = brand s := by
  simp [setBankFw]

@[simp] theorem brand_updBegin (w : Work) (s : State) : brand (updBegin w s).2 = brand s := by simp [updBegin]
@[simp] theorem brand_updBlock (w : Work) (s : State) : brand (updBlock w s).2 = brand s := by simp [updBlock]
@[simp] theorem brand_updAccept (s : State) : brand (updAccept s) = brand s := by simp [updAccept]
@[simp] theorem brand_updFail (cause : Nat) (s : State) : brand (updFail cause s) = brand s := by simp [updFail]
@[simp] theorem brand_updVerify (w : Work) (s : State) : brand (updVerify w s).2 = brand s := by simp [updVerify]

/-- The effect that a forwarded request has at the partner. -/
theorem brand_effectOf {code : Nat} {f : Work → State → Reply × State} (h : effectOf code = some f) (w : Work) (s : State) :
    brand (f w s).2 = brand s := by
  unfold effectOf at h
  split at h <;> cases h <;> simp

@[simp] theorem brand_runForwarded (c : FwdCmd) (s : State) : brand (runForwarded c s) = brand s := by
  unfold runForwarded
  split
  case h_6 =>
    split
    next f hf => 
      have := brand_effectOf hf
      simp [this]
    · rfl
  all_goals simp

@[simp] theorem brand_runDue (scan : Nat) (s : State) : brand (runDue scan s) = brand s := by simp [runDue]

@[simp] theorem brand_ringSample (b : SvBuf) (x : SvSample) (s : State) : brand (ringSample b x s) = brand s := by
  simp [ringSample]

@[simp] theorem brand_svSnapshot (n : Nat) (s : State) : brand (svSnapshot n s) = brand s := by simp [svSnapshot]

@[simp] theorem brand_useShipped (n : Nat) (ps : List ImgPoint) (s : State) : brand (useShipped n ps s) = brand s := by
  simp [useShipped]

@[simp] theorem brand_shipRelease (n : Nat) (s : State) : brand (shipRelease n s) = brand s := by simp [shipRelease]

@[simp] theorem brand_takeSnapshot (n : Nat) (d : TaskDecl) (s : State) : brand (takeSnapshot n d s) = brand s := by
  simp [takeSnapshot]

@[simp] theorem brand_beginPhase (n phase : Nat) (s : State) : brand (beginPhase n phase s) = brand s := by
  unfold beginPhase
  (repeat' split) <;> simp

@[simp] theorem brand_putWords (n : Nat) (ws : List (Nat × Word)) (s : State) : brand (putWords n ws s) = brand s := by
  simp [putWords]

@[simp] theorem brand_runMigration (n : Nat) (s : State) : brand (runMigration n s) = brand s := by
  simp only [runMigration]
  (repeat' split) <;> simp

@[simp] theorem brand_startCycle (n : Nat) (d : TaskDecl) (s : State) : brand (startCycle n d s) = brand s := by
  simp only [startCycle]
  (repeat' split) <;> simp

@[simp] theorem brand_snapshotComplete (n : Nat) (s : State) : brand (snapshotComplete n s) = brand s := by
  simp only [snapshotComplete]
  (repeat' split) <;> simp

@[simp] theorem brand_crossWord (n : Nat) (d : TaskDecl) (phase : Nat) (s : State) (k : Nat) :
    brand (crossWord n d phase s k) = brand s := by
  simp [crossWord]

@[simp] theorem brand_barrierRelease (n : Nat) (s : State) : brand (barrierRelease n s) = brand s := by
  unfold barrierRelease
  (repeat' split) <;> simp

@[simp] theorem brand_connFail (i : Nat) (c : ConnDecl) (cause tai : Nat) (x : ConnSt) (s : State) :
    brand (connFail i c cause tai x s).2 = brand s := by
  simp [connFail]

@[simp] theorem brand_connExamine (i : Nat) (c : ConnDecl) (now tai : Nat) (pdu : Bytes) (x : ConnSt) (s : State) :
    brand (connExamine i c now tai pdu x s).2 = brand s := by
  simp [connExamine]

@[simp] theorem brand_mslRecv (n i : Nat) (c : ConnDecl) (s : State) : brand (mslRecv n i c s) = brand s := by simp [mslRecv]

@[simp] theorem brand_mslSend (n i : Nat) (c : ConnDecl) (buf : Tbl (Option Word)) (s : State) :
    brand (mslSend n i c buf s).2 = brand s := by
  simp [mslSend]

@[simp] theorem brand_mslRun (n : Nat) (buf : Tbl (Option Word)) (s : State) : brand (mslRun n buf s).2 = brand s := by
  simp [mslRun]

@[simp] theorem brand_svPublish (n : Nat) (s : State) : brand (svPublish n s) = brand s := by simp [svPublish]

@[simp] theorem brand_putPoint (s : State) (p : Nat × Option Word) : brand (putPoint s p) = brand s := by
  unfold putPoint
  (repeat' split) <;> simp

@[simp] theorem brand_flagEvents (f : EvRec → EvRec) (changed : Nat → Option Bool) (s : State) :
    brand (flagEvents f changed s) = brand s := by
  refine brand_foldl (fun s k => ?_) _ _
  (repeat' split) <;> simp

@[simp] theorem brand_putBuffer (buf : Tbl (Option Word)) (s : State) : brand (putBuffer buf s) = brand s := by simp [putBuffer]

@[simp] theorem brand_setStation (s : State) (n : Nat) (v : StationRt) : brand (State.setStation s n v) = brand s := by
  simp [State.setStation]

@[simp] theorem brand_transfer (s : State) (a : Nat) : brand (transfer s a) = brand s := by
  unfold transfer
  dsimp only
  simp [↓brand_mk, ↓brand_ite]

@[simp] theorem brand_mirrorData (keys : List Nat) (s : State) : brand (mirrorData keys s) = brand s := by simp [mirrorData]
@[simp] theorem brand_journalAdd (e : JrnEnt) (s : State) : brand (journalAdd e s) = brand s := by simp [journalAdd]
@[simp] theorem brand_sendGoose (k : Nat) (s : State) : brand (sendGoose k s) = brand s := by simp [sendGoose]
@[simp] theorem brand_newGooseState (k : Nat) (s : State) : brand (newGooseState k s) = brand s := by simp [newGooseState]
@[simp] theorem brand_pubAtPublish (k : Nat) (s : State) : brand (pubAtPublish k s) = brand s := by simp [pubAtPublish]
@[simp] theorem brand_gooseOnPublish (s : State) : brand (gooseOnPublish s) = brand s := by simp [gooseOnPublish]
@[simp] theorem brand_tryInStep (s : State) : brand (tryInStep s) = brand s := by simp [tryInStep]
@[simp] theorem brand_crcMismatch (n scan : Nat) (s : State) : brand (crcMismatch n scan s) = brand s := by simp [crcMismatch]

@[simp] theorem brand_compareCrc (n : Nat) (s : State) : brand (compareCrc n s) = brand s := by
  unfold compareCrc
  (repeat' split) <;> simp

@[simp] theorem brand_linkSend (r : PairTx) (s : State) : brand (linkSend r s) = brand s := by simp [linkSend]

@[simp] theorem brand_pairPublish (n scan : Nat) (crc : Word) (ret : List (Nat × Word)) (s : State) :
    brand (pairPublish n scan crc ret s) = brand s := by
  simp [pairPublish]

@[simp] theorem brand_baseBoundary (s : State) : brand (baseBoundary s) = brand s := by simp [baseBoundary]
@[simp] theorem brand_afterRelease (n : Nat) (s : State) : brand (afterRelease n s) = brand s := by simp [afterRelease]

@[simp] theorem brand_publishCycle (n : Nat) (d : TaskDecl) (s : State) : brand (publishCycle n d s) = brand s := by
  simp [publishCycle]

@[simp] theorem brand_taskPublish (n : Nat) (s : State) : brand (taskPublish n s) = brand s := by
  unfold taskPublish
  (repeat' split) <;> simp

@[simp] theorem brand_baseOverrun (s : State) : brand (baseOverrun s) = brand s := by simp [baseOverrun]
@[simp] theorem brand_tasksAfterRemap (s : State) : brand (tasksAfterRemap s) = brand s := by simp [tasksAfterRemap]

@[simp] theorem brand_moveWord (s : State) (region addr : Nat) (v : Word) : brand (moveWord s region addr v) = brand s := by
  simp [moveWord]

@[simp] theorem brand_moveInstances (was3 : Bool) (old : Tbl Memory) (s : State) : brand (moveInstances was3 old s) = brand s := by
  simp [moveInstances]

@[simp] theorem brand_rejoin (s : State) : brand (rejoin s) = brand s := by simp [rejoin]
@[simp] theorem brand_remapTiming (s : State) : brand (remapTiming s) = brand s := by simp [remapTiming]
@[simp] theorem brand_remapResume (s : State) : brand (remapResume s) = brand s := by simp [remapResume]
@[simp] theorem brand_tested (k : Nat) (s : State) : brand (tested k s) = brand s := by simp [tested]
@[simp] theorem brand_editOnRetire (s : State) : brand (editOnRetire s) = brand s := by simp [editOnRetire]
@[simp] theorem brand_clearRegion (p : Nat) (s : State) : brand (clearRegion p s) = brand s := by simp [clearRegion]

@[simp] theorem brand_retireRegion (p cause : Nat) (s : State) : brand (retireRegion p cause s) = brand s := by
  simp [retireRegion]

@[simp] theorem brand_testSlice (e : Nat) (pass : Bool) (s : State) : brand (testSlice e pass s) = brand s := by simp [testSlice]

@[simp] theorem brand_testRoundComplete (pass : Bool) (s : State) : brand (testRoundComplete pass s) = brand s := by
  unfold testRoundComplete
  (repeat' split) <;> simp [↓brand_mk, ↓brand_ite]

@[simp] theorem brand_noteCorrected (w : Word) (words : List (Nat × Nat)) (s : State) : brand (noteCorrected w words s) = brand s := by
  simp [noteCorrected]

@[simp] theorem brand_sramScrub (corrected : List (Fin 5 × Nat)) (bad : BitVec 4) (badStore : Bool) (s : State) :
    brand (sramScrub corrected bad badStore s) = brand s := by
  simp [sramScrub]

@[simp] theorem brand_repairKey (k : Nat) (s : State) : brand (repairKey k s) = brand s := by simp [repairKey]

@[simp] theorem brand_repairHome (s : State) : brand (repairHome s) = brand s := by
  unfold repairHome
  (repeat' split) <;> simp

@[simp] theorem brand_markIx (ch : Nat) (s : State) : brand (markIx ch s) = brand s := by
  unfold markIx
  (repeat' split) <;> simp

@[simp] theorem brand_couplerFinding (ch : Nat) (s : State) : brand (couplerFinding ch s) = brand s := by simp [couplerFinding]

@[simp] theorem brand_couplerLoopback (ch : Nat) (crcOk : Bool) (rttNs : Nat) (s : State) :
    brand (couplerLoopback ch crcOk rttNs s) = brand s := by
  simp [couplerLoopback]

@[simp] theorem brand_controlCouplerLoopback (d : Nat) (okA okB txOk : Bool) (s : State) :
    brand (controlCouplerLoopback d okA okB txOk s) = brand s := by
  simp [controlCouplerLoopback]

@[simp] theorem brand_laneFails (lane why : Nat) (s : State) : brand (laneFails lane why s) = brand s := by simp [laneFails]

@[simp] theorem brand_linkErrorWindow (link errors bits : Nat) (s : State) : brand (linkErrorWindow link errors bits s) = brand s := by
  simp [linkErrorWindow]

@[simp] theorem brand_checkIn (n : Nat) (s : State) : brand (checkIn n s) = brand s := by simp [checkIn]
@[simp] theorem brand_tallyPeriodEnd (s : State) : brand (tallyPeriodEnd s) = brand s := by simp [tallyPeriodEnd]
@[simp] theorem brand_noteRevoked (res : LeaseRes) (s : State) : brand (noteRevoked res s) = brand s := by simp [noteRevoked]
@[simp] theorem brand_abandonCycle (n : Nat) (s : State) : brand (abandonCycle n s) = brand s := by simp [abandonCycle]
@[simp] theorem brand_stewardRestart (s : State) : brand (stewardRestart s) = brand s := by simp [stewardRestart]

@[simp] theorem brand_revokeSteward (res : LeaseRes) (s : State) : brand (revokeSteward res s) = brand s := by
  simp [revokeSteward]

@[simp] theorem brand_firnSpoil (s : State) : brand (firnSpoil s) = brand s := by simp [firnSpoil]

@[simp] theorem brand_deliverDeferred (n : Nat) (s : State) : brand (deliverDeferred n s) = brand s := by
  unfold deliverDeferred
  (repeat' split) <;> simp

@[simp] theorem brand_release1 (n : Nat) (s : State) : brand (release1 n s) = brand s := by simp [release1]
@[simp] theorem brand_revokeMailbox (n : Fin 8) (s : State) : brand (revokeMailbox n s) = brand s := by simp [revokeMailbox]

@[simp] theorem brand_claimLeaseExpiry (n k : Nat) (s : State) : brand (claimLeaseExpiry n k s) = brand s := by
  simp [claimLeaseExpiry]

@[simp] theorem brand_leaseExpiry (res : LeaseRes) (s : State) : brand (leaseExpiry res s) = brand s := by
  unfold leaseExpiry
  (repeat' split) <;> simp

@[simp] theorem brand_rimeStop (cause : Nat) (s : State) : brand (rimeStop cause s) = brand s := by simp [rimeStop]

@[simp] theorem brand_flagEvent (f : EvRec → EvRec) (rf : Nat) (new : Bool) (s : State) : brand (flagEvent f rf new s) = brand s := by
  simp [flagEvent]

@[simp] theorem brand_writeTarget (r : Rule) (v changed : Bool) (s : State) : brand (writeTarget r v changed s) = brand s := by
  simp [writeTarget]

@[simp] theorem brand_evalRule (n : Nat) (s : State) : brand (evalRule n s) = brand s := by simp [evalRule]
@[simp] theorem brand_evalPass (ns : List Nat) (s : State) : brand (evalPass ns s) = brand s := by simp [evalPass]

@[simp] theorem brand_ruleEvaluation (n : Nat) (evalOk storeOk : Bool) (s : State) :
    brand (ruleEvaluation n evalOk storeOk s) = brand s := by
  simp [ruleEvaluation]

@[simp] theorem brand_rimeSweep (evalOk storeOk : Bool) (s : State) : brand (rimeSweep evalOk storeOk s) = brand s := by
  simp [rimeSweep]

@[simp] theorem brand_reflexDisagree (ch : Nat) (s : State) : brand (reflexDisagree ch s) = brand s := by
  simp only [reflexDisagree]
  (repeat' split) <;> simp

@[simp] theorem brand_epochSwitchEvent (s : State) : brand (epochSwitchEvent s) = brand s := by simp [epochSwitchEvent]
@[simp] theorem brand_edgeStamp (ch : Nat) (s : State) : brand (edgeStamp ch s).2 = brand s := by simp [edgeStamp]

@[simp] theorem brand_sentinelEdge (ch pinMv : Nat) (dev : Int) (s : State) : brand (sentinelEdge ch pinMv dev s) = brand s := by
  simp [sentinelEdge]

@[simp] theorem brand_dpStep (e stamp : Nat) (flags q : Byte) (s : State) : brand (dpStep e stamp flags q s) = brand s := by
  simp [dpStep]

@[simp] theorem brand_validated (ch : Nat) (level : Bool) (s : State) : brand (validated ch level s) = brand s := by
  unfold validated
  (repeat' split) <;> simp

@[simp] theorem brand_burdenSample (ch pinMv : Nat) (dev : Int) (s : State) : brand (burdenSample ch pinMv dev s) = brand s := by
  simp [burdenSample]

@[simp] theorem brand_keepSeen (ch : Nat) (c : Channel) (s : State) : brand (keepSeen ch c s) = brand s := by simp [keepSeen]

@[simp] theorem brand_statusFrame (ch : Nat) (crcOk : Bool) (s : State) : brand (statusFrame ch crcOk s) = brand s := by
  unfold statusFrame
  (repeat' split) <;> simp

@[simp] theorem brand_commandFrame (ch : Nat) (f : CmdFrame) (s : State) : brand (commandFrame ch f s) = brand s := by
  unfold commandFrame
  simp [↓brand_ite]

@[simp] theorem brand_trip (ch n : Nat) (s : State) : brand (trip ch n s) = brand s := by simp [trip]
@[simp] theorem brand_setLoad (ch ma : Nat) (s : State) : brand (setLoad ch ma s) = brand s := by simp [setLoad]

@[simp] theorem brand_dieOverload (n : Nat) (currents : List Nat) (tripMa : Nat) (s : State) :
    brand (dieOverload n currents tripMa s) = brand s := by
  simp only [dieOverload]
  (repeat' split) <;> simp

@[simp] theorem brand_expectNow (n : Nat) (s : State) : brand (expectNow n s) = brand s := by simp [expectNow]
@[simp] theorem brand_vfldLow (n mv : Nat) (s : State) : brand (vfldLow n mv s) = brand s := by simp [vfldLow]
@[simp] theorem brand_vfldRestore (n mv : Nat) (s : State) : brand (vfldRestore n mv s) = brand s := by simp [vfldRestore]
@[simp] theorem brand_fieldDiePowerUp (n : Nat) (s : State) : brand (fieldDiePowerUp n s) = brand s := by simp [fieldDiePowerUp]

@[simp] theorem brand_dualRecord (d : DualDecl) (x : DualSt) (stamp : Nat) (q flags : Byte) (s : State) :
    brand (dualRecord d x stamp q flags s) = brand s := by
  simp [dualRecord]

@[simp] theorem brand_setDual (n : Nat) (d : DualDecl) (x : DualSt) (stamp : Nat) (q flags : Byte) (s : State) :
    brand (setDual n d x stamp q flags s) = brand s := by
  simp [setDual]

@[simp] theorem brand_dualChange (n : Nat) (evalOk : Bool) (s : State) : brand (dualChange n evalOk s) = brand s := by
  unfold dualChange
  (repeat' split) <;> simp

@[simp] theorem brand_setKey (n : Nat) (k : Key) (s : State) : brand (setKey n k s) = brand s := by simp [setKey]
@[simp] theorem brand_beginKey (n st : Nat) (s : State) : brand (beginKey n st s) = brand s := by simp [beginKey]

@[simp] theorem brand_sampleKey (n st : Nat) (s : State) : brand (sampleKey n st s) = brand s := by
  simp only [sampleKey]
  (repeat' split) <;> simp

@[simp] theorem brand_panelEvent (slot event at1 : Nat) (s : State) : brand (panelEvent slot event at1 s) = brand s := by
  simp [panelEvent]

@[simp] theorem brand_slotIdle (event at1 : Nat) (s : State) : brand (slotIdle event at1 s) = brand s := by
  unfold slotIdle
  (repeat' split) <;> simp

@[simp] theorem brand_sboFault (n : Nat) (s : State) : brand (sboFault n s) = brand s := by
  unfold sboFault
  (repeat' split) <;> simp

@[simp] theorem brand_sboLocal (s : State) : brand (sboLocal s) = brand s := by
  unfold sboLocal
  (repeat' split) <;> simp

@[simp] theorem brand_lrUpdate (f : Byte) (at1 : Nat) (s : State) : brand (lrUpdate f at1 s) = brand s := by simp [lrUpdate]

@[simp] theorem brand_takeChange (n : Nat) (s : State) : brand (takeChange n s) = brand s := by
  simp only [takeChange]
  (repeat' split) <;> simp

@[simp] theorem brand_settleSlot (mono : Nat) (s : State) : brand (settleSlot mono s) = brand s := by
  unfold settleSlot
  (repeat' split) <;> simp

@[simp] theorem brand_refuse (is : List Nat) (at1 : Nat) (s : State) : brand (refuse is at1 s) = brand s := by simp [refuse]

@[simp] theorem brand_sboPress (ks : List Nat) (at1 : Nat) (s0 : State) : brand (sboPress ks at1 s0) = brand s0 := by
  unfold sboPress
  dsimp only
  (repeat' split) <;> simp [↓brand_mk]

@[simp] theorem brand_panelWake (n : Nat) (s : State) : brand (panelWake n s) = brand s := by simp [panelWake]

@[simp] theorem brand_confirmTogether (ns : List Nat) (at1 : Nat) (s : State) : brand (confirmTogether ns at1 s) = brand s := by
  simp [confirmTogether]

@[simp] theorem brand_confirm (n : Nat) (s : State) : brand (confirm n s) = brand s := by simp [confirm]

@[simp] theorem brand_keyMatrixScan (row : Nat) (classes : List KeyClass) (s : State) :
    brand (keyMatrixScan row classes s) = brand s := by
  refine (brand_foldl (fun s c => ?_) _ _).trans (brand_foldl (fun s c => ?_) _ _)
  · simp
  · split <;> simp

@[simp] theorem brand_presenceComplete (s : State) : brand (presenceComplete s) = brand s := by
  unfold presenceComplete
  (repeat' split) <;> simp

@[simp] theorem brand_consumePresence (s : State) : brand (consumePresence s) = brand s := by simp [consumePresence]

@[simp] theorem brand_netAccept (h : NetHdr) (s : State) : brand (netAccept h s).2 = brand s := by
  unfold netAccept
  (repeat' split) <;> simp

@[simp] theorem brand_dropGoose (k : Nat) (flagBits : Byte) (s : State) : brand (dropGoose k flagBits s) = brand s := by
  simp [dropGoose]

@[simp] theorem brand_authFails (s : State) : brand (authFails s) = brand s := by simp [authFails]

@[simp] theorem brand_applyCarrier (ms : List GVal) (c : ConnDecl) (s : State) : brand (applyCarrier ms c s) = brand s := by
  unfold applyCarrier
  (repeat' split) <;> simp

@[simp] theorem brand_applyEntry (ms : List GVal) (m : MapEntry) (s : State) : brand (applyEntry ms m s) = brand s := by
  unfold applyEntry
  (repeat' split) <;> simp

@[simp] theorem brand_gooseTake (k : Nat) (m : GooseMsg) (s : State) : brand (gooseTake k m s) = brand s := by
  unfold gooseTake
  dsimp only
  (repeat' split) <;> simp

@[simp] theorem brand_dropSv (k : Nat) (flagBits : Byte) (s : State) : brand (dropSv k flagBits s) = brand s := by simp [dropSv]
@[simp] theorem brand_svTake (k : Nat) (m : SvMsg) (s : State) : brand (svTake k m s) = brand s := by simp [svTake]

@[simp] theorem brand_hostFrame (port : Nat) (frame : Bytes) (owned dupSeen : Bool) (s : State) :
    brand (hostFrame port frame owned dupSeen s) = brand s := by
  simp [hostFrame]

@[simp] theorem brand_sendSlots (l : List TxSlot) (s : State) : brand (sendSlots l s) = brand s := by
  induction l generalizing s with
  | nil => rfl
  | cons x r ih =>
    unfold sendSlots
    split
    · exact (ih _).trans (by simp)
    · rfl

@[simp] theorem brand_gooseRepeat (k : Nat) (s : State) : brand (gooseRepeat k s) = brand s := by
  simp only [gooseRepeat]
  (repeat' split) <;> simp

@[simp] theorem brand_netLink (port : Nat) (up : Bool) (s : State) : brand (netLink port up s) = brand s := by simp [netLink]

@[simp] theorem brand_answerAsks (p : Nat × Nat × Nat → Bool) (s : State) : brand (answerAsks p s) = brand s := by
  simp [answerAsks]

@[simp] theorem brand_substitute (n : Nat) (s : State) : brand (substitute n s) = brand s := by simp [substitute]
@[simp] theorem brand_stationMissed (n : Nat) (s : State) : brand (stationMissed n s) = brand s := by simp [stationMissed]

@[simp] theorem brand_setDiag (n : Nat) (q : BitVec 4) (d : Byte) (s : State) : brand (setDiag n q d s) = brand s := by
  simp [setDiag]

@[simp] theorem brand_stationCycleEnd (n : Nat) (s : State) : brand (stationCycleEnd n s) = brand s := by simp [stationCycleEnd]
@[simp] theorem brand_cycleEnd (s0 : State) : brand (cycleEnd s0) = brand s0 := by simp [cycleEnd]
@[simp] theorem brand_ringSend (port : Nat) (b : Bytes) (s : State) : brand (ringSend port b s) = brand s := by simp [ringSend]
@[simp] theorem brand_sendBoth (f : Nat → Bytes) (s : State) : brand (sendBoth f s) = brand s := by simp [sendBoth]

@[simp] theorem brand_sumSend (s : State) : brand (sumSend s) = brand s := by
  unfold sumSend
  (repeat' split) <;> simp [↓brand_mk, ↓brand_ite]

@[simp] theorem brand_beaconSend (s : State) : brand (beaconSend s) = brand s := by simp [beaconSend]

@[simp] theorem brand_drawBytes (n : Nat) (s : State) : brand (drawBytes n s).2 = brand s := by
  induction n generalizing s with
  | zero => rfl
  | succ n ih => exact (ih _).trans (brand_draw s)

@[simp] theorem brand_identitySig (m : Bytes) (s : State) : brand (identitySig m s).2 = brand s := by simp [identitySig]

@[simp] theorem brand_msgPayload (n op offset : Nat) (data : Bytes) (s : State) :
    brand (msgPayload n op offset data s).2 = brand s := by
  unfold msgPayload
  (repeat' split) <;> simp

@[simp] theorem brand_msgSend (n op offset : Nat) (data : Bytes) (s : State) : brand (msgSend n op offset data s) = brand s := by
  simp [msgSend]

@[simp] theorem brand_ringCrcError (s : State) : brand (ringCrcError s) = brand s := by simp [ringCrcError]
@[simp] theorem brand_residence (turned : Bool) (s : State) : brand (residence turned s).2 = brand s := by simp [residence]

@[simp] theorem brand_forwardFrame (port res : Nat) (b : Bytes) (s : State) : brand (forwardFrame port res b s) = brand s := by
  simp [forwardFrame]

@[simp] theorem brand_noteCopy (port : Nat) (b : Bytes) (s : State) : brand (noteCopy port b s) = brand s := by simp [noteCopy]
@[simp] theorem brand_setCtl (k : Nat) (v : CtlRt) (s : State) : brand (setCtl k v s) = brand s := by simp [setCtl]
@[simp] theorem brand_takeFlag (i : Nat) (v : Bool) (s : State) : brand (takeFlag i v s) = brand s := by simp [takeFlag]
@[simp] theorem brand_applyOut (out : Bytes) (s : State) : brand (applyOut out s) = brand s := by simp [applyOut]

@[simp] theorem brand_followClaim (old : Option (Fin 3)) (s : State) : brand (followClaim old s) = brand s := by
  unfold followClaim
  (repeat' split) <;> simp

@[simp] theorem brand_refreshClaims (k : Nat) (claim : Half) (leaseQ : Nat) (s : State) :
    brand (refreshClaims k claim leaseQ s) = brand s := by
  simp [refreshClaims]

@[simp] theorem brand_takeTime (port : Nat) (b : Bytes) (s : State) : brand (takeTime port b s) = brand s := by simp [takeTime]

@[simp] theorem brand_activateBlock (k : Nat) (s : State) : brand (activateBlock k s) = brand s := by
  unfold activateBlock
  (repeat' split) <;> simp

@[simp] theorem brand_takeRecords (k n : Nat) (s : State) : brand (takeRecords k n s).2.2 = brand s := by
  unfold takeRecords
  dsimp only
  (repeat' split) <;> simp [↓brand_mk]

@[simp] theorem brand_inSection (k : Nat) (s : State) : brand (inSection k s).2 = brand s := by simp [inSection]
@[simp] theorem brand_newCycle (k : Nat) (b : Bytes) (s : State) : brand (newCycle k b s) = brand s := by simp [newCycle]

@[simp] theorem brand_takeHeader (port : Nat) (b : Bytes) (s0 : State) : brand (takeHeader port b s0) = brand s0 := by
  simp [takeHeader]

@[simp] theorem brand_takeOut (k : Nat) (out : Bytes) (s : State) : brand (takeOut k out s) = brand s := by simp [takeOut]

@[simp] theorem brand_slotOutputs (k : Nat) (b sl : Bytes) (s : State) : brand (slotOutputs k b sl s) = brand s := by
  simp [slotOutputs]

@[simp] theorem brand_passSlot (k port : Nat) (b sl : Bytes) (s : State) : brand (passSlot k port b sl s).2 = brand s := by
  simp [passSlot]

@[simp] theorem brand_passSlots (k port : Nat) (b : Bytes) (l : List Bytes) (s : State) :
    brand (passSlots k port b l s).2 = brand s := by
  induction l generalizing s with
  | nil => rfl
  | cons sl r ih =>
    unfold passSlots
    refine (ih _).trans ?_
    split <;> simp

@[simp] theorem brand_sumRxStation (port : Nat) (b : Bytes) (s : State) : brand (sumRxStation port b s) = brand s := by
  simp [sumRxStation]

@[simp] theorem brand_stationRecs (n : Nat) (b : StationBlock) (inp : Bytes) (s : State) : brand (stationRecs n b inp s) = brand s := by
  simp [stationRecs]

@[simp] theorem brand_enterStation (n : Nat) (inp : Bytes) (s : State) : brand (enterStation n inp s) = brand s := by
  simp [enterStation]

@[simp] theorem brand_returnSlot (port hops corr : Nat) (sl : Bytes) (s : State) :
    brand (returnSlot port hops corr sl s) = brand s := by
  simp [returnSlot]

@[simp] theorem brand_sumReturn (port : Nat) (b : Bytes) (s : State) : brand (sumReturn port b s) = brand s := by simp [sumReturn]
@[simp] theorem brand_beaconRx (port : Nat) (b : Bytes) (s : State) : brand (beaconRx port b s) = brand s := by simp [beaconRx]

@[simp] theorem brand_forwardMsg (port : Nat) (b : Bytes) (s : State) : brand (forwardMsg port b s) = brand s := by
  simp [forwardMsg]

@[simp] theorem brand_hearPartner (b : Bytes) (s : State) : brand (hearPartner b s) = brand s := by simp [hearPartner]

@[simp] theorem brand_ringFrameForward (port resNs : Nat) (b : Bytes) (s : State) :
    brand (ringFrameForward port resNs b s) = brand s := by
  simp only [ringFrameForward]
  (repeat' split) <;> simp

@[simp] theorem brand_msgGoesOn (b : Bytes) (s : State) : brand (msgGoesOn b s) = brand s := by simp [msgGoesOn]
@[simp] theorem brand_msgPasses (b : Bytes) (s : State) : brand (msgPasses b s) = brand s := by simp [msgPasses]
@[simp] theorem brand_refuseCtl (k : Nat) (s : State) : brand (refuseCtl k s) = brand s := by simp [refuseCtl]
@[simp] theorem brand_msgAnswer (b data : Bytes) (s : State) : brand (msgAnswer b data s) = brand s := by simp [msgAnswer]
@[simp] theorem brand_admit1 (b : Bytes) (s : State) : brand (admit1 b s) = brand s := by simp [admit1]
@[simp] theorem brand_admit2 (b : Bytes) (s : State) : brand (admit2 b s) = brand s := by simp [admit2]
@[simp] theorem brand_admitStep (b : Bytes) (s : State) : brand (admitStep b s) = brand s := by simp [admitStep]
@[simp] theorem brand_freeAnswer (b : Bytes) (s : State) : brand (freeAnswer b s) = brand s := by simp [freeAnswer]
@[simp] theorem brand_cfgBlock (b : Bytes) (s : State) : brand (cfgBlock b s) = brand s := by simp [cfgBlock]
@[simp] theorem brand_cfgCommit (b : Bytes) (s : State) : brand (cfgCommit b s) = brand s := by simp [cfgCommit]
@[simp] theorem brand_msgStatus (b : Bytes) (s : State) : brand (msgStatus b s) = brand s := by simp [msgStatus]
@[simp] theorem brand_admissionFails (n : Nat) (s : State) : brand (admissionFails n s) = brand s := by simp [admissionFails]
@[simp] theorem brand_admitReply1 (n : Nat) (d : Bytes) (s : State) : brand (admitReply1 n d s) = brand s := by simp [admitReply1]

@[simp] theorem brand_msgReply (b : Bytes) (s : State) : brand (msgReply b s) = brand s := by
  simp only [msgReply]
  (repeat' split) <;> simp

@[simp] theorem brand_ringCycleEnd (s : State) : brand (ringCycleEnd s) = brand s := by simp [ringCycleEnd]

@[simp] theorem brand_syncOutputApply (s : State) : brand (syncOutputApply s) = brand s := by
  refine brand_foldl (fun s k => ?_) _ _
  dsimp only
  (repeat' split) <;> simp

@[simp] theorem brand_stationDownTimeout (s : State) : brand (stationDownTimeout s) = brand s := by simp [stationDownTimeout]
@[simp] theorem brand_commitAlone (s : State) : brand (commitAlone s) = brand s := by simp [commitAlone]
@[simp] theorem brand_scheduleHandover (s : State) : brand (scheduleHandover s) = brand s := by simp [scheduleHandover]
@[simp] theorem brand_claimFollow (s : State) : brand (claimFollow s) = brand s := by simp [claimFollow]
@[simp] theorem brand_newNonce (s : State) : brand (newNonce s).2 = brand s := by simp [newNonce]
@[simp] theorem brand_beginAlign (r : HbRec) (s : State) : brand (beginAlign r s) = brand s := by simp [beginAlign]

@[simp] theorem brand_updatePhase (inStep : Bool) (s : State) : brand (updatePhase inStep s) = brand s := by
  unfold updatePhase
  (repeat' split) <;> simp

@[simp] theorem brand_keeperSees (theirs : Fin 5) (s : State) : brand (keeperSees theirs s) = brand s := by
  unfold keeperSees
  (repeat' split) <;> simp [↓brand_mk, ↓brand_ite]

@[simp] theorem brand_takeHeartbeat (lane : Nat) (r : HbRec) (s : State) : brand (takeHeartbeat lane r s) = brand s := by
  unfold takeHeartbeat
  (repeat' split) <;> simp

@[simp] theorem brand_heartbeat (lane : Nat) (r : HbRec) (s : State) : brand (heartbeat lane r s) = brand s := by simp [heartbeat]

@[simp] theorem brand_releaseRecord (n scan mono tai source : Nat) (data : Word) (s : State) :
    brand (releaseRecord n scan mono tai source data s) = brand s := by
  simp [releaseRecord]

@[simp] theorem brand_snapshotRecord (n : Nat) (points : List (Nat × Word × BitVec 4)) (s : State) :
    brand (snapshotRecord n points s) = brand s := by
  simp [snapshotRecord]

@[simp] theorem brand_putRetentive (key : Nat) (v : Word) (s : State) : brand (putRetentive key v s) = brand s := by
  simp only [putRetentive]
  (repeat' split) <;> simp

@[simp] theorem brand_publishRecord (n scan : Nat) (crc : Word) (words : List (Nat × Word)) (s : State) :
    brand (publishRecord n scan crc words s) = brand s := by
  simp [publishRecord]

@[simp] theorem brand_commandRecord (code : Nat) (p : Bytes) (scan : Nat) (s : State) :
    brand (commandRecord code p scan s) = brand s := by
  simp [commandRecord]

@[simp] theorem brand_alignFails (s : State) : brand (alignFails s) = brand s := by simp [alignFails]
@[simp] theorem brand_identityFails (s : State) : brand (identityFails s) = brand s := by simp [identityFails]

@[simp] theorem brand_takeIdentity (step : Nat) (d : Bytes) (s : State) : brand (takeIdentity step d s) = brand s := by
  unfold takeIdentity
  dsimp only
  (repeat' split) <;> simp [↓brand_mk]

theorem brand_takeEpoch {s t : State} {c : Bytes × Bytes} (h : takeEpoch (some s) c = some t) : brand t = brand s := by
  simp only [takeEpoch, Option.bind_some] at h
  split at h
  · cases h
    simp
  · cases h

theorem foldl_takeEpoch_none (l : List (Bytes × Bytes)) : l.foldl takeEpoch none = none := by
  induction l with
  | nil => rfl
  | cons c l ih => exact ih

theorem brand_foldl_takeEpoch {l : List (Bytes × Bytes)} {s t : State} (h : l.foldl takeEpoch (some s) = some t) :
    brand t = brand s := by
  induction l generalizing s with
  | nil => cases h; rfl
  | cons c l ih =>
    rw [List.foldl_cons] at h
    cases hc : takeEpoch (some s) c with
    | none => rw [hc, foldl_takeEpoch_none] at h; cases h
    | some u => rw [hc] at h; rw [ih h, brand_takeEpoch hc]

@[simp] theorem brand_takeProgram (h payload : Bytes) (epochs : List (Bytes × Bytes)) (s : State) :
    brand (takeProgram h payload epochs s) = brand s := by
  unfold takeProgram
  dsimp only
  split
  · rfl
  · split
    · simp
    · split
      next s1 hs =>
        have hb : brand s1 = brand s := by simpa using brand_foldl_takeEpoch hs
        simp [hb]
      · simp

@[simp] theorem brand_alignWord (region addr : Nat) (v : Word) (s : State) : brand (alignWord region addr v s) = brand s := by
  unfold alignWord
  (repeat' split) <;> simp

@[simp] theorem brand_alignBlock (b : AlignBlk) (s : State) : brand (alignBlock b s) = brand s := by
  unfold alignBlock
  (repeat' split) <;> simp

@[simp] theorem brand_linkSilent (s : State) : brand (linkSilent s) = brand s := by simp [linkSilent]
@[simp] theorem brand_laneDown (lane : Nat) (s : State) : brand (laneDown lane s) = brand s := by simp [laneDown]
@[simp] theorem brand_regrid (s : State) : brand (regrid s) = brand s := by simp [regrid]
@[simp] theorem brand_becomeKeeper (s : State) : brand (becomeKeeper s) = brand s := by simp [becomeKeeper]

@[simp] theorem brand_pairListenEnd (s : State) : brand (pairListenEnd s) = brand s := by
  unfold pairListenEnd
  (repeat' split) <;> simp

@[simp] theorem brand_alignmentComplete (mono j : Nat) (s : State) : brand (alignmentComplete mono j s) = brand s := by
  unfold alignmentComplete
  (repeat' split) <;> simp [↓brand_mk]

@[simp] theorem brand_alignmentRetry (s : State) : brand (alignmentRetry s) = brand s := by
  unfold alignmentRetry
  (repeat' split) <;> simp

@[simp] theorem brand_editAtTakeover (s : State) : brand (editAtTakeover s) = brand s := by simp [editAtTakeover]
@[simp] theorem brand_takeover (s : State) : brand (takeover s) = brand s := by simp [takeover]

@[simp] theorem brand_healthSettled (s : State) : brand (healthSettled s) = brand s := by
  unfold healthSettled
  dsimp only
  (repeat' split) <;> simp [↓brand_mk]

@[simp] theorem brand_warmFlush (s : State) : brand (warmFlush s) = brand s := by
  unfold warmFlush
  split
  · rfl
  · dsimp only
    split
    · simp
    · refine (brand_foldl (fun s k => ?_) _ _).trans (by simp)
      (repeat' split) <;> simp

@[simp] theorem brand_flashServes (l : FlashLink) (s : State) : brand (flashServes l s) = brand s := by
  unfold flashServes
  (repeat' split) <;> simp

@[simp] theorem brand_firnAppend (k : Nat) (l : FlashLink) (s : State) : brand (firnAppend k l s) = brand s := by
  unfold firnAppend
  (repeat' split) <;> simp

@[simp] theorem brand_firnCompaction (eraseOk : Bool) (s : State) : brand (firnCompaction eraseOk s) = brand s := by
  unfold firnCompaction
  (repeat' split) <;> simp

@[simp] theorem brand_firnCatchUp (s0 : State) : brand (firnCatchUp s0) = brand s0 := by
  unfold firnCatchUp
  dsimp only
  split
  · rfl
  · refine (brand_mk _ rfl rfl rfl rfl rfl).trans ((brand_foldl (fun s k => ?_) _ _).trans (by simp))
    (repeat' split) <;> simp

@[simp] theorem brand_retentiveHomeWrite (s : State) : brand (retentiveHomeWrite s) = brand s := by simp [retentiveHomeWrite]
@[simp] theorem brand_archiveRecs (rs : List EvRec) (s : State) : brand (archiveRecs rs s) = brand s := by simp [archiveRecs]
@[simp] theorem brand_beginRevert (cause : Nat) (s : State) : brand (beginRevert cause s) = brand s := by simp [beginRevert]
@[simp] theorem brand_trialExpiry (s : State) : brand (trialExpiry s) = brand s := by simp [trialExpiry]
@[simp] theorem brand_debugStop (s : State) : brand (debugStop s) = brand s := by simp [debugStop]
@[simp] theorem brand_tapRefuse (s : State) : brand (tapRefuse s) = brand s := by simp [tapRefuse]
@[simp] theorem brand_debugRestart (s : State) : brand (debugRestart s) = brand s := by simp [debugRestart]
@[simp] theorem brand_leaveExtest (s : State) : brand (leaveExtest s) = brand s := by simp [leaveExtest]
@[simp] theorem brand_attachRun (port : Nat) (s : State) : brand (attachRun port s) = brand s := by simp [attachRun]

@[simp] theorem brand_attach (port : Nat) (s : State) : brand (attach port s) = brand s := by
  unfold attach
  (repeat' split) <;> simp

@[simp] theorem brand_loadToken (k : Bytes) (port : Nat) (s : State) : brand (loadToken k port s).2 = brand s := by
  simp [loadToken]

@[simp] theorem brand_dbgAnswer (op status : Nat) (data : Bytes) (s : State) : brand (dbgAnswer op status data s) = brand s := by
  simp [dbgAnswer]

@[simp] theorem brand_mramBytes (n n' : Nat) (s : State) : brand (mramBytes n n' s).2 = brand s := by
  induction n generalizing n' s with
  | zero => rfl
  | succ n ih =>
    unfold mramBytes
    split
    · exact ih _ s
    · exact (ih _ _).trans (brand_draw s)

@[simp] theorem brand_readFree (l : List (Option Word)) (s : State) : brand (readFree l s).2 = brand s := by
  induction l generalizing s with
  | nil => rfl
  | cons v r ih =>
    cases v with
    | none => exact (ih _).trans (brand_draw s)
    | some v => exact ih s

@[simp] theorem brand_debugData (s : State) (r : DbgReq) : brand (debugData s r).2 = brand s := by simp [debugData]
@[simp] theorem brand_debugStore (s : State) (r : DbgReq) : brand (debugStore s r) = brand s := by simp [debugStore]
@[simp] theorem brand_detach (port : Nat) (s : State) : brand (detach port s) = brand s := by simp [detach]
@[simp] theorem brand_ring1 (n : Nat) (s : State) : brand (ring1 n s) = brand s := by simp [ring1]
@[simp] theorem brand_ringUsb (mask : Word) (req : Bytes) (s : State) : brand (ringUsb mask req s) = brand s := by simp [ringUsb]

@[simp] theorem brand_slumberAccess (bells : List Nat) (s : State) : brand (slumberAccess bells s) = brand s := by
  simp [slumberAccess]

@[simp] theorem brand_ringHost (mask : Word) (s : State) : brand (ringHost mask s) = brand s := by simp [ringHost]

@[simp] theorem brand_hostAccess {f : State → State} (h : ∀ s, brand (f s) = brand s) (bells : List Nat) (s : State) :
    brand (hostAccess bells f s) = brand s := by
  unfold hostAccess
  split
  · simp
  · split <;> simp [h]

@[simp] theorem brand_doorbell (mask : Word) (usbPort : Bool) (req : Bytes) (s : State) :
    brand (doorbell mask usbPort req s) = brand s := by
  unfold doorbell
  split
  · split <;> simp
  · refine brand_hostAccess (fun s => ?_) _ s
    split <;> simp

@[simp] theorem brand_touchSession (w : Work) (s : State) : brand (touchSession w s) = brand s := by simp [touchSession]

@[simp] theorem brand_accept1 (w : Work) (s : State) : brand (accept1 w s) = brand s := by
  unfold accept1
  (repeat' split) <;> simp

@[simp] theorem brand_requestAccept (mb : Nat) (s : State) : brand (requestAccept mb s) = brand s := by
  unfold requestAccept
  (repeat' split) <;> simp

@[simp] theorem brand_usbRecords (s : State) : brand (usbRecords s) = brand s := by
  unfold usbRecords
  (repeat' split) <;> simp

@[simp] theorem brand_releaseMb (mask : Word) (usbPort : Bool) (s : State) : brand (releaseMb mask usbPort s) = brand s := by
  unfold releaseMb
  dsimp only
  split
  · (repeat' split) <;> simp
  · refine brand_hostAccess (fun s => ?_) _ s
    split <;> simp

@[simp] theorem brand_irqClear (mask : Word) (s : State) : brand (irqClear mask s) = brand s := by
  exact brand_hostAccess (fun s => by simp) _ s

@[simp] theorem brand_takeRdIndex (rd : Nat) (s : State) : brand (takeRdIndex rd s) = brand s := by simp [takeRdIndex]
@[simp] theorem brand_latchFor (off : Nat) (s : State) : brand (latchFor off s) = brand s := by simp [latchFor]
@[simp] theorem brand_writeWord (off : Nat) (v : Word) (s : State) : brand (writeWord off v s) = brand s := by simp [writeWord]

@[simp] theorem brand_mailboxPending (mb : Nat) (s : State) : brand (mailboxPending mb s) = brand s := by
  unfold mailboxPending
  (repeat' split) <;> simp

@[simp] theorem brand_readWords (off n : Nat) (s : State) : brand (readWords off n s) = brand s := by
  induction n generalizing off s with
  | zero => rfl
  | succ n ih => exact (ih _ _).trans (by simp)

@[simp] theorem brand_writeWords (off : Nat) (l : List Word) (s : State) : brand (writeWords off l s) = brand s := by
  induction l generalizing off s with
  | nil => rfl
  | cons v r ih => exact (ih _ _).trans (brand_writeWord ..)

@[simp] theorem brand_streamPut (r : EvRec) (s : State) : brand (streamPut r s) = brand s := by simp [streamPut]

@[simp] theorem brand_streamMarker (s : State) : brand (streamMarker s) = brand s := by
  unfold streamMarker
  (repeat' split) <;> simp

@[simp] theorem brand_streamRecords (l : List EvRec) (s : State) : brand (streamRecords l s) = brand s := by
  induction l generalizing s with
  | nil => rfl
  | cons r rest ih =>
    unfold streamRecords
    (repeat' split) <;> simp [ih]

@[simp] theorem brand_eventStreamWrite (s : State) : brand (eventStreamWrite s) = brand s := by simp [eventStreamWrite]
@[simp] theorem brand_usbDiscard (s : State) : brand (usbDiscard s) = brand s := by simp [usbDiscard]
@[simp] theorem brand_usbVbusRemoval (s : State) : brand (usbVbusRemoval s) = brand s := by simp [usbVbusRemoval]
@[simp] theorem brand_sysInfo (_w : Work) (s : State) : brand (sysInfo _w s).2 = brand s := by simp [sysInfo]
@[simp] theorem brand_sysStateGet (_w : Work) (s : State) : brand (sysStateGet _w s).2 = brand s := by simp [sysStateGet]
@[simp] theorem brand_sysSlumber (w : Work) (s : State) : brand (sysSlumber w s).2 = brand s := by simp [sysSlumber]
@[simp] theorem brand_sysHoldupCfg (w : Work) (s : State) : brand (sysHoldupCfg w s).2 = brand s := by simp [sysHoldupCfg]
@[simp] theorem brand_sysRestart (w : Work) (s : State) : brand (sysRestart w s).2 = brand s := by simp [sysRestart]
@[simp] theorem brand_engineKhzNow (s : State) : brand (engineKhzNow s).2 = brand s := by simp [engineKhzNow]
@[simp] theorem brand_clkStatus (_w : Work) (s : State) : brand (clkStatus _w s).2 = brand s := by simp [clkStatus]
@[simp] theorem brand_clkSwitch (w : Work) (s : State) : brand (clkSwitch w s).2 = brand s := by simp [clkSwitch]
@[simp] theorem brand_timeSourceCfg (w : Work) (s : State) : brand (timeSourceCfg w s).2 = brand s := by simp [timeSourceCfg]
@[simp] theorem brand_timeStatus (_w : Work) (s : State) : brand (timeStatus _w s).2 = brand s := by simp [timeStatus]
@[simp] theorem brand_calGet (_w : Work) (s : State) : brand (calGet _w s).2 = brand s := by simp [calGet]

@[simp] theorem brand_calSet (w : Work) (s : State) : brand (calSet w s).2 = brand s := by
  simp only [calSet]
  (repeat' split) <;> simp

@[simp] theorem brand_calTrimCurve (w : Work) (s : State) : brand (calTrimCurve w s).2 = brand s := by simp [calTrimCurve]
@[simp] theorem brand_backupCfg (w : Work) (s : State) : brand (backupCfg w s).2 = brand s := by simp [backupCfg]
@[simp] theorem brand_leapTableSet (w : Work) (s : State) : brand (leapTableSet w s).2 = brand s := by simp [leapTableSet]
@[simp] theorem brand_prgStatus (w : Work) (s : State) : brand (prgStatus w s).2 = brand s := by simp [prgStatus]
@[simp] theorem brand_imgRead (w : Work) (s : State) : brand (imgRead w s).2 = brand s := by simp [imgRead]
@[simp] theorem brand_evtStreamCfg (w : Work) (s : State) : brand (evtStreamCfg w s).2 = brand s := by simp [evtStreamCfg]

@[simp] theorem brand_soeRead (w : Work) (s : State) : brand (soeRead w s).2 = brand s := by
  simp only [soeRead]
  (repeat' split) <;> simp

@[simp] theorem brand_editCommit (w : Work) (s : State) : brand (editCommit w s).2 = brand s := by simp [editCommit]
@[simp] theorem brand_editStatus (w : Work) (s : State) : brand (editStatus w s).2 = brand s := by simp [editStatus]
@[simp] theorem brand_fldCfg (w : Work) (s : State) : brand (fldCfg w s).2 = brand s := by simp [fldCfg]
@[simp] theorem brand_fldStatus (w : Work) (s : State) : brand (fldStatus w s).2 = brand s := by simp [fldStatus]
@[simp] theorem brand_fldCounter (w : Work) (s : State) : brand (fldCounter w s).2 = brand s := by simp [fldCounter]

@[simp] theorem brand_fldTest (w : Work) (s : State) : brand (fldTest w s).2 = brand s := by
  simp only [fldTest]
  (repeat' split) <;> simp

@[simp] theorem brand_pnlCfg (w : Work) (s : State) : brand (pnlCfg w s).2 = brand s := by simp [pnlCfg]
@[simp] theorem brand_pnlLed (w : Work) (s : State) : brand (pnlLed w s).2 = brand s := by simp [pnlLed]
@[simp] theorem brand_pnlStatus (_w : Work) (s : State) : brand (pnlStatus _w s).2 = brand s := by simp [pnlStatus]
@[simp] theorem brand_pnlPresence (w : Work) (s : State) : brand (pnlPresence w s).2 = brand s := by simp [pnlPresence]
@[simp] theorem brand_netPortCfg (w : Work) (s : State) : brand (netPortCfg w s).2 = brand s := by simp [netPortCfg]
@[simp] theorem brand_netStatus (w : Work) (s : State) : brand (netStatus w s).2 = brand s := by simp [netStatus]
@[simp] theorem brand_ringStatus (w : Work) (s : State) : brand (ringStatus w s).2 = brand s := by simp [ringStatus]
@[simp] theorem brand_pairCfg (w : Work) (s : State) : brand (pairCfg w s).2 = brand s := by simp [pairCfg]
@[simp] theorem brand_pairStatus (_w : Work) (s : State) : brand (pairStatus _w s).2 = brand s := by simp [pairStatus]
@[simp] theorem brand_pairSwitch (w : Work) (s : State) : brand (pairSwitch w s).2 = brand s := by simp [pairSwitch]
@[simp] theorem brand_putCounter (k : Nat) (c : CntRec) (s : State) : brand (putCounter k c s) = brand s := by simp [putCounter]

@[simp] theorem brand_ldgWrite (w : Work) (s : State) : brand (ldgWrite w s).2 = brand s := by
  simp only [ldgWrite]
  (repeat' split) <;> simp

@[simp] theorem brand_ldgRead (w : Work) (s : State) : brand (ldgRead w s).2 = brand s := by
  simp only [ldgRead]
  (repeat' split) <;> simp

@[simp] theorem brand_reclass (cls k : Nat) (s : State) : brand (reclass cls k s) = brand s := by
  unfold reclass
  (repeat' split) <;> simp

@[simp] theorem brand_ldgClassCfg (w : Work) (s : State) : brand (ldgClassCfg w s).2 = brand s := by simp [ldgClassCfg]
@[simp] theorem brand_ldgStatus (_w : Work) (s : State) : brand (ldgStatus _w s).2 = brand s := by simp [ldgStatus]
@[simp] theorem brand_tblRead (w : Work) (s : State) : brand (tblRead w s).2 = brand s := by simp [tblRead]
@[simp] theorem brand_safStatus (_w : Work) (s : State) : brand (safStatus _w s).2 = brand s := by simp [safStatus]

@[simp] theorem brand_safConfirm (w : Work) (s : State) : brand (safConfirm w s).2 = brand s := by
  simp only [safConfirm]
  (repeat' split) <;> simp

@[simp] theorem brand_safConnStatus (w : Work) (s : State) : brand (safConnStatus w s).2 = brand s := by
  simp only [safConnStatus]
  (repeat' split) <;> simp

@[simp] theorem brand_healthReport (w : Work) (s : State) : brand (healthReport w s).2 = brand s := by
  unfold healthReport
  (repeat' split) <;> simp

@[simp] theorem brand_tallyCfg (w : Work) (s : State) : brand (tallyCfg w s).2 = brand s := by simp [tallyCfg]
@[simp] theorem brand_selftestCfg (w : Work) (s : State) : brand (selftestCfg w s).2 = brand s := by simp [selftestCfg]

@[simp] theorem brand_faultLogRead (w : Work) (s : State) : brand (faultLogRead w s).2 = brand s := by
  simp only [faultLogRead]
  (repeat' split) <;> simp

@[simp] theorem brand_sesOpen (w : Work) (s : State) : brand (sesOpen w s).2 = brand s := by simp [sesOpen]
@[simp] theorem brand_authFailed (x : Session) (s : State) : brand (authFailed x s) = brand s := by simp [authFailed]

@[simp] theorem brand_sesAuth (w : Work) (s : State) : brand (sesAuth w s).2 = brand s := by
  simp only [sesAuth]
  (repeat' split) <;> simp

@[simp] theorem brand_sesClose (w : Work) (s : State) : brand (sesClose w s).2 = brand s := by simp [sesClose]
@[simp] theorem brand_endAllDebug (s : State) : brand (endAllDebug s) = brand s := by simp [endAllDebug]

@[simp] theorem brand_commandZero (s : State) : brand (commandZero s) = brand s := by
  unfold commandZero
  (repeat' split) <;> simp

@[simp] theorem brand_enterRetired (s : State) : brand (enterRetired s) = brand s := by simp [enterRetired]
@[simp] theorem brand_fingerprint (k : KeySlot) (s : State) : brand (fingerprint k s).2 = brand s := by simp [fingerprint]
@[simp] theorem brand_enrollAnswer (slot : Nat) (s : State) : brand (enrollAnswer slot s).2 = brand s := by simp [enrollAnswer]
@[simp] theorem brand_keyEnroll (w : Work) (s : State) : brand (keyEnroll w s).2 = brand s := by simp [keyEnroll]
@[simp] theorem brand_dbgToken (w : Work) (s : State) : brand (dbgToken w s).2 = brand s := by simp [dbgToken]

@[simp] theorem brand_beginActivate (trialS : Nat) (s : State) : brand (beginActivate trialS s) = brand s := by
  simp [beginActivate]

@[simp] theorem brand_updActivate (w : Work) (s : State) : brand (updActivate w s).2 = brand s := by
  simp only [updActivate]
  (repeat' split) <;> simp

@[simp] theorem brand_updStatus (_w : Work) (s : State) : brand (updStatus _w s).2 = brand s := by simp [updStatus]
@[simp] theorem brand_updConfirm (w : Work) (s : State) : brand (updConfirm w s).2 = brand s := by simp [updConfirm]

@[simp] theorem brand_reportCorrection (b : Issue) (s : State) : brand (reportCorrection b s) = brand s := by
  unfold reportCorrection
  (repeat' split) <;> simp

@[simp] theorem brand_copyPair (e c : Nat) (s : State) : brand (copyPair e c s) = brand s := by simp [copyPair]

@[simp] theorem brand_abandonTrap (x : Ctx) (t : Trp) (slot : Nat) (ws : List Word) (s : State) :
    brand (abandonTrap x t slot ws s) = brand s := by
  simp [abandonTrap]

@[simp] theorem brand_markDirty (n : Nat) (keys : List Nat) (s : State) : brand (markDirty n keys s) = brand s := by
  simp [markDirty]

@[simp] theorem brand_writeData (p a : Nat) (b : Bytes) (s : State) : brand (writeData p a b s) = brand s := by simp [writeData]
@[simp] theorem brand_engineCheckIn (e n : Nat) (s : State) : brand (engineCheckIn e n s) = brand s := by simp [engineCheckIn]

@[simp] theorem brand_outAct (x : Ctx) (s : State) (a : Act) : brand (outAct x s a) = brand s := by
  unfold outAct
  (repeat' split) <;> simp

@[simp] theorem brand_passCycles (e c cost : Nat) (s : State) : brand (passCycles e c cost s) = brand s := by simp [passCycles]
@[simp] theorem brand_freeBank (e c : Nat) (s : State) : brand (freeBank e c s) = brand s := by simp [freeBank]
@[simp] theorem brand_freePair (e c : Nat) (s : State) : brand (freePair e c s) = brand s := by simp [freePair]
@[simp] theorem brand_arrive (x : Ctx) (n : Nat) (s : State) : brand (arrive x n s) = brand s := by simp [arrive]
@[simp] theorem brand_endStripe (x : Ctx) (s : State) : brand (endStripe x s) = brand s := by simp [endStripe]

@[simp] theorem brand_applyActs (x : Ctx) (next : Word) (l : List Act) (s : State) : brand (applyActs x next l s) = brand s := by
  unfold applyActs
  (repeat' split) <;> simp

@[simp] theorem brand_takeTrap (x : Ctx) (next : Word) (t : Trp) (slot : Nat) (ws : List Word) (s : State) :
    brand (takeTrap x next t slot ws s) = brand s := by
  unfold takeTrap
  (repeat' split) <;> simp

@[simp] theorem brand_lockstep (x : Ctx) (s : State) : brand (lockstep x s) = brand s := by simp [lockstep]

@[simp] theorem brand_issueBundle (x : Ctx) (ws : List Word) (cut : Bool) (s : State) : brand (issueBundle x ws cut s) = brand s := by
  simp only [issueBundle]
  (repeat' split) <;> simp

@[simp] theorem brand_deliverSyl (b : Issue) (w : Word) (s0 : State) : brand (deliverSyl b w s0) = brand s0 := by
  unfold deliverSyl
  dsimp only
  (repeat' split) <;> simp [↓brand_mk]

@[simp] theorem brand_ringLink (port : Nat) (up : Bool) (s : State) : brand (ringLink port up s) = brand s := by simp [ringLink]
@[simp] theorem brand_retiredErase (s : State) : brand (retiredErase s) = brand s := by simp [retiredErase]

@[simp] theorem brand_tapInstr {f : State → State} (h : ∀ s, brand (f s) = brand s) (ir : Nat) (s : State) :
    brand (tapInstr ir f s) = brand s := by
  unfold tapInstr
  split
  · rfl
  · dsimp only
    split <;> simp [h]

@[simp] theorem brand_runCommand {f : Work → State → Reply × State} (h : ∀ w s, brand (f w s).2 = brand s) (t mb code : Nat)
    (s : State) : brand (runCommand t mb code f s) = brand s := by
  unfold runCommand
  dsimp only
  split
  · simp
  next w _ =>
    have hw := h w (advance t s)
    split
    next hf => simpa [hf] using hw
    next hf => simpa [hf] using hw

/-- What a command that takes effect leaves of the brand. -/
def brandKept (s : State) : Result State → Prop
  | .next t => brand t = brand s
  | _ => True

theorem brandKept_next {s t : State} (h : brand t = brand s) : brandKept s (.next t) := h

theorem brandKept_guard {c : Prop} [Decidable c] {r : Fault} {s t : State} (h : brand t = brand s) :
    brandKept s (if c then .fault r else .next t) := by
  split
  · trivial
  · exact h

theorem brandKept_debugRun {op need : Nat} {r : DbgReq} {f : State → State} (h : ∀ s, brand (f s) = brand s) (t : Nat) (s : State) :
    brandKept s (debugRun op need r f t s) := by
  show brand _ = _
  (repeat' split) <;> simp [h]

theorem brandKept_execDebugRead (t : Nat) (r : DbgReq) (s : State) : brandKept s (execDebugRead t r s) :=
  brandKept_debugRun (fun s => by dsimp only; split <;> simp) t s

theorem brandKept_execDebugWrite (t : Nat) (r : DbgReq) (s : State) : brandKept s (execDebugWrite t r s) :=
  brandKept_debugRun (fun s => by (repeat' split) <;> simp) t s

theorem brandKept_execDebugHalt (t : Nat) (r : DbgReq) (s : State) : brandKept s (execDebugHalt t r s) :=
  brandKept_debugRun (fun s => by (repeat' split) <;> simp) t s

theorem brandKept_execDebugResume (t : Nat) (r : DbgReq) (s : State) : brandKept s (execDebugResume t r s) :=
  brandKept_debugRun (fun s => by (repeat' split) <;> simp) t s

theorem brandKept_execDebugStep (t : Nat) (r : DbgReq) (s : State) : brandKept s (execDebugStep t r s) :=
  brandKept_debugRun (fun s => by (repeat' split) <;> simp) t s

theorem brandKept_execDebugDetach (t : Nat) (r : DbgReq) (s : State) : brandKept s (execDebugDetach t r s) :=
  brandKept_debugRun (fun s => by simp) t s

/-- Every command but LIFECYCLE_ADVANCE keeps the brand. -/
theorem brandKept_exec (c : Instr) (s : State) (hc : ∀ t mb, c ≠ .lifecycleAdvance t mb) : brandKept s (exec c s) := by
  cases c
  case lifecycleAdvance t mb => exact absurd rfl (hc t mb)
  case vinGood | vinFall | vrtcApplied | vfldLow | vfldRestore =>
    exact brandKept_guard (by simp)
  case debugRead t r => exact brandKept_execDebugRead t r s
  case debugWrite t r => exact brandKept_execDebugWrite t r s
  case debugHalt t r => exact brandKept_execDebugHalt t r s
  case debugResume t r => exact brandKept_execDebugResume t r s
  case debugStep t r => exact brandKept_execDebugStep t r s
  case debugDetach t r => exact brandKept_execDebugDetach t r s
  case induced | pulseEnd | safTimeout | dpDiscrepancyTimeout | dualDiscrepancy | lrFault | sboSelTimeout | execEnd | gooseRx | svRx
      | gooseExpiry | controlRecord | takebackElapsed | magAlertSet | magAlertClear | ldgPartTimeout | sessionIdleTimeout
      | sessionAuthTimeout =>
    refine brandKept_next ?_
    (repeat' split) <;> simp
  all_goals exact brandKept_next (by simp [↓brand_mk, ↓brand_ite])

/-- LIFECYCLE_ADVANCE takes the lifecycle to the state it names. -/
theorem brand_advanceTo (target usb : Nat) (s : State) : brand (advanceTo target usb s) = (fuses s, lifeOf target) := by
  have hset : brand { consumePresence s with sec.life := lifeOf target } = (fuses s, lifeOf target) :=
    congrArg (fun f => (f, lifeOf target)) (Prod.ext_iff.mp (brand_consumePresence s)).1
  unfold advanceTo
  dsimp only
  (repeat' split) <;> simp [hset]

/-- What a step must keep of the module: the fuses, and the lifecycle where it stood or further on. -/
def Kept (s t : State) : Prop := fuses t = fuses s ∧ lifeCode s.sec.life ≤ lifeCode t.sec.life

theorem Kept.trans {s t u : State} (h : Kept s t) (h' : Kept t u) : Kept s u :=
  ⟨h'.1.trans h.1, h.2.trans h'.2⟩

theorem kept_of_brand {s t : State} (h : brand t = brand s) : Kept s t := by
  obtain ⟨hf, hl⟩ := brand_eq_iff.mp h
  exact ⟨hf, hl ▸ le_rfl⟩

theorem lifeCode_lifeOf {n : Nat} (h : n ≤ 4) : lifeCode (lifeOf n) = n := by
  interval_cases n <;> rfl

/-- The checks of a card pass where none of them holds. -/
theorem firstStatus_eq_none_iff {l : List (Bool × Nat)} : firstStatus l = none ↔ ∀ p ∈ l, p.1 = false := by
  induction l with
  | nil => simp [firstStatus]
  | cons p l ih =>
    obtain ⟨b, st⟩ := p
    cases b <;> simp [firstStatus, ih]

theorem lifeCode_le_of_targetOk {s : State} {n : Nat} (h : targetOk s n = true) : n ≤ 4 ∧ lifeCode s.sec.life ≤ n := by
  have hle : lifeCode s.sec.life ≤ 4 := by cases s.sec.life <;> decide
  simp [targetOk] at h
  omega

theorem kept_lifecycleAdvance (w : Work) (s : State) : Kept s (lifecycleAdvance w s).2 := by
  unfold lifecycleAdvance
  dsimp only
  split
  · exact kept_of_brand (by simp)
  · unfold checked
    split
    · exact kept_of_brand rfl
    next hc =>
      have htarget : targetOk s (field w.payload 0 1 0) = true := by
        have := firstStatus_eq_none_iff.mp hc
        simp_all
      obtain ⟨h4, hle⟩ := lifeCode_le_of_targetOk htarget
      obtain ⟨hf, hl⟩ := Prod.mk.inj (brand_advanceTo (field w.payload 0 1 0) (portOf (isUsbMb w.mb)) s)
      refine ⟨hf, ?_⟩
      simp only [hl, lifeCode_lifeOf h4, hle]

theorem kept_runCommand {f : Work → State → Reply × State} (h : ∀ w s, Kept s (f w s).2) (t mb code : Nat) (s : State) :
    Kept s (runCommand t mb code f s) := by
  have hadv : Kept s (advance t s) := kept_of_brand (brand_advance t s)
  unfold runCommand
  dsimp only
  split
  · exact hadv
  next w _ =>
    have hw : Kept s (f w (advance t s)).2 := hadv.trans (h w _)
    split
    next hf => exact (by simpa only [hf] using hw : Kept s _).trans (kept_of_brand (by simp))
    next hf => exact (by simpa only [hf] using hw : Kept s _).trans (kept_of_brand (by simp))

/-- A command that takes effect keeps the fuses and does not take the lifecycle back. -/
theorem kept_exec {c : Instr} {s t : State} (h : exec c s = .next t) : Kept s t := by
  by_cases hc : ∃ t mb, c = .lifecycleAdvance t mb
  · obtain ⟨t0, mb, rfl⟩ := hc
    cases h
    exact kept_runCommand kept_lifecycleAdvance ..
  · have hb := brandKept_exec c s fun t mb hc' => hc ⟨t, mb, hc'⟩
    rw [h] at hb
    exact kept_of_brand hb

end Sys2Proof.Machine

open Sys2Proof Sys2Proof.Machine

/-- Settles O59: every command but LIFECYCLE_ADVANCE keeps the fuses and the lifecycle, and that one goes on to a target it has checked. -/
theorem fusesStayAndLifecycleOnlyAdvances : Obligations.FusesStayAndLifecycleOnlyAdvances := by
  intro s t h
  unfold step at h
  split at h
  · cases h
    exact ⟨rfl, le_rfl⟩
  next c rest _ => exact (kept_of_brand (brand_withPending s rest)).trans (kept_exec h)

end

section
/-! PROOFS. The one stop of the model (R58, log entry 20): five commands report a supply that may lie beyond its rating, every
other one takes effect in every state. -/

namespace Sys2Proof.Machine

/-- The commands that report a supply for which R58 gives an absolute maximum rating. -/
def ReportsSupply (c : Instr) : Prop :=
  (∃ t mv, c = .vinGood t mv) ∨ (∃ t mv, c = .vinFall t mv) ∨ (∃ t mv, c = .vrtcApplied t mv)
    ∨ (∃ t d mv, c = .vfldLow t d mv) ∨ ∃ t d mv, c = .vfldRestore t d mv

/-- A command that reports no supply takes effect. -/
theorem reportsSupply_or_takes_effect (c : Instr) (s : State) : ReportsSupply c ∨ ∃ t, exec c s = .next t := by
  cases c
  case vinGood t mv => exact .inl (.inl ⟨t, mv, rfl⟩)
  case vinFall t mv => exact .inl (.inr (.inl ⟨t, mv, rfl⟩))
  case vrtcApplied t mv => exact .inl (.inr (.inr (.inl ⟨t, mv, rfl⟩)))
  case vfldLow t d mv => exact .inl (.inr (.inr (.inr (.inl ⟨t, d, mv, rfl⟩))))
  case vfldRestore t d mv => exact .inl (.inr (.inr (.inr (.inr ⟨t, d, mv, rfl⟩))))
  all_goals exact .inr ⟨_, rfl⟩

/-- A command that stops the machine where `c` holds is never refused, and its fault says that `c` holds. -/
theorem guarded_stops {c : Prop} [Decidable c] {t : State} {o : Result State} (ho : o = if c then .fault .overstress else .next t) :
    (∀ r, o ≠ .refused r) ∧ ∀ f, o = .fault f → c := by
  subst ho
  split <;> simp_all

end Sys2Proof.Machine

open Sys2Proof Sys2Proof.Machine

/-- Settles O60: the five commands that report a supply stop beyond its rating alone, and no other command stops. -/
theorem onlyOverstressStops : Obligations.OnlyOverstressStops := by
  intro c s
  obtain hc | ⟨t, ht⟩ := reportsSupply_or_takes_effect c s
  · obtain ⟨t, mv, rfl⟩ | ⟨t, mv, rfl⟩ | ⟨t, mv, rfl⟩ | ⟨t, d, mv, rfl⟩ | ⟨t, d, mv, rfl⟩ := hc
    · obtain ⟨hr, hf⟩ := guarded_stops (c := overstressed mv) (o := exec (.vinGood t mv) s) rfl
      exact ⟨hr, fun f h => ⟨t, mv, .inl ⟨of_decide_eq_true (hf f h), .inl rfl⟩⟩⟩
    · obtain ⟨hr, hf⟩ := guarded_stops (c := overstressed mv) (o := exec (.vinFall t mv) s) rfl
      exact ⟨hr, fun f h => ⟨t, mv, .inl ⟨of_decide_eq_true (hf f h), .inr rfl⟩⟩⟩
    · obtain ⟨hr, hf⟩ := guarded_stops (c := 4000 < mv) (o := exec (.vrtcApplied t mv) s) rfl
      exact ⟨hr, fun f h => ⟨t, mv, .inr (.inl ⟨hf f h, rfl⟩)⟩⟩
    · obtain ⟨hr, hf⟩ := guarded_stops (c := 36000 < mv) (o := exec (.vfldLow t d mv) s) rfl
      exact ⟨hr, fun f h => ⟨t, mv, .inr (.inr ⟨hf f h, d, .inl rfl⟩)⟩⟩
    · obtain ⟨hr, hf⟩ := guarded_stops (c := 36000 < mv) (o := exec (.vfldRestore t d mv) s) rfl
      exact ⟨hr, fun f h => ⟨t, mv, .inr (.inr ⟨hf f h, d, .inr rfl⟩)⟩⟩
  · simp [ht]
end

section
/-! PROOFS. A syllable that is alone in its bundle, format by format (R190-R195, R201): it retires with the acts that its unit's
evaluation gives, and that evaluation sees the operands of the command and nothing else of the word. -/

namespace Sys2Proof.Machine

/-- The evaluation of a syllable by the unit of its class (R191). -/
def evalUnit (cls : Nat) (x : Ctx) (next w : Word) (k : Option (BitVec 28)) : Eff :=
  match cls with
  | 0 => evalB x w k
  | 1 => evalA x w k
  | 2 => evalM x w
  | 3 => evalL x w k
  | _ => evalC x next w k

theorem evalSyl_eq_evalUnit {x : Ctx} {next w : Word} {k : Option (BitVec 28)} (hx : isX w = false) (he : emulated w = false) :
    evalSyl x next w k = evalUnit (sylClass w) x next w k := by
  simp only [evalSyl, hx, he]
  rfl

/-- What a unit sees of a syllable in format RRR. -/
structure FieldsRRR (w : Word) (op : Nat) (gd ga gb : BitVec 6) (sub : BitVec 4) : Prop where
  hop : sylOp w = op
  hgd : sylGd w = gd.toNat
  hga : sylGa w = ga.toNat
  hgb : sylGb w = gb.toNat
  hsub : sylSub w = sub.toNat
  hbits : ∀ i, i < 4 → w.getLsbD i = sub.getLsbD i

section Formats
variable {s : State} {b : Issue} {x : Ctx} {cls op : Nat} {gd ga gb : BitVec 6} {l : List Act}

theorem getLsbD_encRRR {sub : BitVec 4} {i : Nat} (hi : i < 4) : (encRRR cls op gd ga gb sub).getLsbD i = sub.getLsbD i := by
  have h := congrArg (fun v => v.getLsbD i) (sub_encRRR cls op gd ga gb sub)
  simpa [BitVec.getLsbD_extractLsb', hi] using h

/-- A syllable in format RRR with a listed SUB and even registers in its 64-bit positions. -/
theorem rrr_retires {sub : BitVec 4} (h : Alone s b x) (hk : b.x = none) (hc : cls ≤ 4) (hop : op < 64)
    (hfmt : format cls op = some .rrr) (hsub : subListed (encRRR cls op gd ga gb sub) = true)
    (hp : ((pairPositions (encRRR cls op gd ga gb sub)).any fun g => decide (g % 2 = 1)) = false)
    (hl : ∀ w, FieldsRRR w op gd ga gb sub → evalUnit cls x (x.b.pc + 4#32) w none = .ok l) :
    deliverSyl b (encRRR cls op gd ga gb sub) s = retire x 1 l s := by
  have hcls : sylClass (encRRR cls op gd ga gb sub) = cls := by simp; omega
  have hop' : sylOp (encRRR cls op gd ga gb sub) = op := by simp [Nat.mod_eq_of_lt hop]
  have hx : isX (encRRR cls op gd ga gb sub) = false := by simp [isX, hcls]; omega
  have he : emulated (encRRR cls op gd ga gb sub) = false := by simp only [emulated, hx, hsub, hcls, hop', hfmt]; rfl
  refine single_retires h hk hx (by simpa using he) (by simpa using hp) ?_
  rw [evalSyl_eq_evalUnit (by simpa using hx) (by simpa using he), sylClass_stop, hcls]
  exact hl _ ⟨by rw [sylOp_stop, hop'], by simp, by simp, by simp, by simp,
    fun i hi => by rw [stop_bit _ i (by omega), getLsbD_encRRR hi]⟩

/-- A syllable with an immediate, whether an X stands above it or not (R193). -/
theorem immediate_retires {w : Word} {f : Fmt} (h : Alone s b x) (hc : sylClass w ≤ 4) (hfmt : format (sylClass w) (sylOp w) = some f)
    (hf : f = .rri ∧ fitsX b.x 22 ∨ (f = .ri ∨ f = .bi) ∧ fitsX b.x 16)
    (hp : ((pairPositions w).any fun g => decide (g % 2 = 1)) = false)
    (hl : ∀ w', w' = w ∨ w' = w ||| 0x80000000#32 →
      evalUnit (sylClass w) x (x.b.pc + 4#32 * BitVec.ofNat 32 (sylWords b.x)) w' b.x = .ok l) :
    deliverSyl b w s = retire x (sylWords b.x) l s := by
  have hx : isX w = false := by simp [isX]; omega
  have he : emulated w = false := by
    obtain ⟨rfl, -⟩ | ⟨rfl | rfl, -⟩ := hf <;> simp [emulated, subListed, hfmt]
  have ht : takesX w = true := by
    obtain ⟨rfl, -⟩ | ⟨rfl | rfl, -⟩ := hf <;> simp [takesX, hx, hfmt]
  refine imm_retires h hx he ht hp (fun v hv => ?_) fun w' hw' => ?_
  · obtain ⟨rfl, hf⟩ | ⟨rfl | rfl, hf⟩ := hf <;> simp only [highOf, hfmt] <;> exact Nat.div_eq_of_lt (hf v hv)
  · have hsame : isX w' = isX w ∧ emulated w' = emulated w ∧ sylClass w' = sylClass w := by
      rcases hw' with rfl | rfl <;> simp
    rw [evalSyl_eq_evalUnit (hsame.1.trans hx) (hsame.2.1.trans he), hsame.2.2]
    exact hl w' hw'

/-- A syllable in format RRI sees gd, ga and its immediate (R193). -/
theorem rri_retires {imm : BitVec 10} (h : Alone s b x) (hf : fitsX b.x 22) (hc : cls ≤ 4) (hop : op < 64)
    (hfmt : format cls op = some .rri)
    (hp : ((pairPositions (encRRI cls op gd ga imm)).any fun g => decide (g % 2 = 1)) = false)
    (hl : ∀ w, sylOp w = op → sylGd w = gd.toNat → sylGa w = ga.toNat → (∀ sext, immRRI w b.x sext = extended b.x sext imm) →
      evalUnit cls x (x.b.pc + 4#32 * BitVec.ofNat 32 (sylWords b.x)) w b.x = .ok l) :
    deliverSyl b (encRRI cls op gd ga imm) s = retire x (sylWords b.x) l s := by
  have hcls : sylClass (encRRI cls op gd ga imm) = cls := by simp; omega
  have hop' : sylOp (encRRI cls op gd ga imm) = op := by simp [Nat.mod_eq_of_lt hop]
  refine immediate_retires h (by omega) (by rw [hcls, hop', hfmt]) (.inl ⟨rfl, hf⟩) hp fun w' hw' => ?_
  rw [hcls]
  rcases hw' with rfl | rfl
  · exact hl _ hop' (by simp) (by simp) (by simp)
  · exact hl _ (by rw [sylOp_stop, hop']) (by simp) (by simp) (by simp)

/-- A syllable in format RI sees gd and its immediate (R193). -/
theorem ri_retires {imm : BitVec 16} (h : Alone s b x) (hf : fitsX b.x 16) (hc : cls ≤ 4) (hop : op < 64)
    (hfmt : format cls op = some .ri)
    (hp : ((pairPositions (encRI cls op gd imm)).any fun g => decide (g % 2 = 1)) = false)
    (hl : ∀ w, sylOp w = op → sylGd w = gd.toNat → (∀ sext, immRI w b.x sext = extended b.x sext imm) →
      evalUnit cls x (x.b.pc + 4#32 * BitVec.ofNat 32 (sylWords b.x)) w b.x = .ok l) :
    deliverSyl b (encRI cls op gd imm) s = retire x (sylWords b.x) l s := by
  have hcls : sylClass (encRI cls op gd imm) = cls := by simp; omega
  have hop' : sylOp (encRI cls op gd imm) = op := by simp [Nat.mod_eq_of_lt hop]
  refine immediate_retires h (by omega) (by rw [hcls, hop', hfmt]) (.inr ⟨.inl rfl, hf⟩) hp fun w' hw' => ?_
  rw [hcls]
  rcases hw' with rfl | rfl
  · exact hl _ hop' (by simp) (by simp)
  · exact hl _ (by rw [sylOp_stop, hop']) (by simp) (by simp)

/-- A syllable in format BI sees gd and the image address that its space and index give (R193). -/
theorem bi_retires {space : BitVec 4} {index : BitVec 12} (h : Alone s b x) (hf : fitsX b.x 16) (hc : cls ≤ 4) (hop : op < 64)
    (hfmt : format cls op = some .bi)
    (hp : ((pairPositions (encBI cls op gd space index)).any fun g => decide (g % 2 = 1)) = false)
    (hl : ∀ w, sylOp w = op → sylGd w = gd.toNat →
      immBI w b.x = 2 ^ 28 * space.toNat + ((extended b.x false index).setWidth 28).toNat →
      evalUnit cls x (x.b.pc + 4#32 * BitVec.ofNat 32 (sylWords b.x)) w b.x = .ok l) :
    deliverSyl b (encBI cls op gd space index) s = retire x (sylWords b.x) l s := by
  have hcls : sylClass (encBI cls op gd space index) = cls := by simp; omega
  have hop' : sylOp (encBI cls op gd space index) = op := by simp [Nat.mod_eq_of_lt hop]
  refine immediate_retires h (by omega) (by rw [hcls, hop', hfmt]) (.inr ⟨.inr rfl, hf⟩) hp fun w' hw' => ?_
  rw [hcls]
  rcases hw' with rfl | rfl
  · exact hl _ hop' (by simp) (by simp)
  · exact hl _ (by rw [sylOp_stop, hop']) (by simp) (by simp)

/-- What the MAC unit sees of a syllable in format AG. -/
structure FieldsAG (w : Word) (op : Nat) (gd gb : BitVec 6) (agn : BitVec 2) (sub : BitVec 8) : Prop where
  hop : sylOp w = op
  hgd : sylGd w = gd.toNat
  hgb : sylGa w = gb.toNat
  hagn : sylAgn w = agn.toNat
  hsub : sylAgSub w = sub.toNat
  hbit : w.getLsbD 2 = sub.getLsbD 2

/-- A syllable in format AG with a listed SUB and even registers in its 64-bit positions (R233). -/
theorem ag_retires {agn : BitVec 2} {sub : BitVec 8} (h : Alone s b x) (hk : b.x = none) (hop : op < 64)
    (hfmt : format 2 op = some .ag) (hsub : subListed (encAG 2 op gd gb agn sub) = true)
    (hp : ((pairPositions (encAG 2 op gd gb agn sub)).any fun g => decide (g % 2 = 1)) = false)
    (hl : ∀ w, FieldsAG w op gd gb agn sub → evalM x w = .ok l) :
    deliverSyl b (encAG 2 op gd gb agn sub) s = retire x 1 l s := by
  have hcls : sylClass (encAG 2 op gd gb agn sub) = 2 := by simp
  have hop' : sylOp (encAG 2 op gd gb agn sub) = op := by simp [Nat.mod_eq_of_lt hop]
  have hx : isX (encAG 2 op gd gb agn sub) = false := by simp [isX]
  have he : emulated (encAG 2 op gd gb agn sub) = false := by simp only [emulated, hx, hsub, hcls, hop', hfmt]; rfl
  have hbit : (encAG 2 op gd gb agn sub).getLsbD 2 = sub.getLsbD 2 := by
    have hs : (encAG 2 op gd gb agn sub).extractLsb' 0 8 = sub := BitVec.eq_of_toNat_eq (sylAgSub_encAG ..)
    simpa [BitVec.getLsbD_extractLsb'] using congrArg (fun v => v.getLsbD 2) hs
  refine single_retires h hk hx (by simpa using he) (by simpa using hp) ?_
  rw [evalSyl_eq_evalUnit (by simpa using hx) (by simpa using he), sylClass_stop, hcls]
  exact hl _ ⟨by rw [sylOp_stop, hop'], by simp, by simp, by simp, by simp, by rw [stop_bit _ 2 (by omega), hbit]⟩

end Formats

end Sys2Proof.Machine

end

section
/-! PROOFS. The word ALU (R188, R189, R193, R229, R230): every opcode's result, from registers and from immediates. -/

namespace Sys2Proof.Machine

/-! ### Opcodes of the A class in format RRR -/

section WordAlu
variable {s : State} {b : Issue} {x : Ctx} {op : Nat} {gd ga gb : BitVec 6} {imm : BitVec 10} {l : List Act}

/-- The opcodes of the A class that have no immediate have format RRR. -/
theorem format_alu {op : Nat} (h : op < 0x2C) (hi : op ∉ [0x02, 0x06, 0x07, 0x08, 0x0C, 0x0D, 0x0E, 0x19, 0x1A, 0x1B, 0x20]) :
    format 1 op = some .rrr := by
  interval_cases op <;> simp_all [format]

/-- An opcode of the A class in format RRR whose SUB is listed (R194, R229). -/
theorem alu_retires {sub : BitVec 4} (h : Alone s b x) (hk : b.x = none) (hop : op < 0x2C) (hfmt : format 1 op = some .rrr)
    (hsub : sub = 0#4 ∨ op = 0x21 ∧ sub.toNat ≤ 3)
    (hp : ((pairPositions (encRRR 1 op gd ga gb sub)).any fun g => decide (g % 2 = 1)) = false)
    (hl : ∀ w, FieldsRRR w op gd ga gb sub → evalA x w none = .ok l) :
    deliverSyl b (encRRR 1 op gd ga gb sub) s = retire x 1 l s := by
  refine rrr_retires h hk (by omega) (by omega) hfmt ?_ hp hl
  have hmod : op % 64 = op := Nat.mod_eq_of_lt (by omega)
  obtain rfl | ⟨rfl, hs⟩ := hsub
  · simp only [subListed, sylClass_encRRR, sylOp_encRRR, sylSub_encRRR, hmod, hfmt]
    split <;> simp_all
  · simpa [subListed, hfmt] using hs

/-- Below 0x24 no opcode of the A class names a pair. -/
theorem pairPositions_alu {sub : BitVec 4} (hop : op < 0x24) : pairPositions (encRRR 1 op gd ga gb sub) = [] := by
  have hmod : op % 64 = op := Nat.mod_eq_of_lt (by omega)
  simp only [pairPositions, sylClass_encRRR, sylOp_encRRR, hmod]
  split
  · rfl
  · split <;> simp_all

/-- An opcode with two register operands and one result (R198, R229). -/
theorem alu2_retires (g : Ctx → Word → Eff) {f : Word → Word → Word} {r : Word} (h : Alone s b x) (hk : b.x = none) (hop : op < 0x24)
    (hfmt : format 1 op = some .rrr) (hev : ∀ w, sylOp w = op → evalA x w none = g x w) (hg : ∀ w, g x w = alu2 x w f)
    (hr : f (x.reg ga.toNat) (x.reg gb.toNat) = r) :
    deliverSyl b (encRRR 1 op gd ga gb 0#4) s = retire x 1 [.reg gd.toNat r 1] s :=
  alu_retires h hk (by omega) hfmt (.inl rfl) (by simp [pairPositions_alu hop]) fun w hw => by
    rw [hev w hw.hop, hg, alu2, hw.hgd, hw.hga, hw.hgb, hr, Eff.reg]

/-- An opcode with a register and an immediate (R193, R229). -/
theorem aluImm_retires (g : Ctx → Word → Option (BitVec 28) → Eff) {f : Word → Word → Word} {sext : Bool} {r : Word} (h : Alone s b x) (hf : fitsX b.x 22) (hop : op < 0x20)
    (hfmt : format 1 op = some .rri) (hev : ∀ w, sylOp w = op → evalA x w b.x = g x w b.x)
    (hg : ∀ w, g x w b.x = aluImm x w b.x sext f)
    (hr : f (x.reg ga.toNat) (extended b.x sext imm) = r) :
    deliverSyl b (encRRI 1 op gd ga imm) s = retire x (sylWords b.x) [.reg gd.toNat r 1] s := by
  refine rri_retires h hf (by omega) (by omega) hfmt ?_ fun w ho hgd hga himm => ?_
  · have hmod : op % 64 = op := Nat.mod_eq_of_lt (by omega)
    simp only [pairPositions, sylClass_encRRI, sylOp_encRRI, hmod]
    split
    · rfl
    · split <;> simp_all
  · show evalA x w b.x = _
    rw [hev w ho, hg, aluImm, hgd, hga, himm, hr, Eff.reg]

end WordAlu

/-! ### Results as the spec words them -/

theorem flag_decide (p : Prop) [Decidable p] : flag (decide p) = if p then 1#32 else 0#32 := by
  simp [flag]

end Sys2Proof.Machine

open Sys2Proof Sys2Proof.Machine

/-- Settles O3: each opcode's definition as a function of its two operands. -/
theorem wordAluResults : Obligations.WordAluResults := by
  refine ⟨fun s b x gd ga gb h hk => ?_, fun s b x gd ga imm imm16 h => ⟨fun hf => ?_, fun hf => ?_⟩⟩
  · refine ⟨?_, ?_, ?_, ?_, ?_, ?_, ?_, ?_, ?_, ?_, ?_, ?_, ?_, ?_, ?_, ?_, ?_, ?_, ?_, ?_, ?_, ?_⟩ <;> refine congrArg Host.Outcome.next ?_
    · exact alu2_retires opAdd h hk (by omega) rfl (fun w ho => by simp only [evalA, ho]) (fun _ => rfl) rfl
    · exact alu2_retires opSub h hk (by omega) rfl (fun w ho => by simp only [evalA, ho]) (fun _ => rfl) rfl
    · exact alu2_retires opAnd h hk (by omega) rfl (fun w ho => by simp only [evalA, ho]) (fun _ => rfl) rfl
    · exact alu2_retires opOr h hk (by omega) rfl (fun w ho => by simp only [evalA, ho]) (fun _ => rfl) rfl
    · exact alu2_retires opXor h hk (by omega) rfl (fun w ho => by simp only [evalA, ho]) (fun _ => rfl) rfl
    · exact alu2_retires opShl h hk (by omega) rfl (fun w ho => by simp only [evalA, ho]) (fun _ => rfl) rfl
    · exact alu2_retires opShr h hk (by omega) rfl (fun w ho => by simp only [evalA, ho]) (fun _ => rfl) rfl
    · exact alu2_retires opSar h hk (by omega) rfl (fun w ho => by simp only [evalA, ho]) (fun _ => rfl) rfl
    · exact alu2_retires opMin h hk (by omega) rfl (fun w ho => by simp only [evalA, ho]) (fun _ => rfl) (by simp [leS])
    · exact alu2_retires opMax h hk (by omega) rfl (fun w ho => by simp only [evalA, ho]) (fun _ => rfl) (by simp [leS])
    · exact alu2_retires opMinu h hk (by omega) rfl (fun w ho => by simp only [evalA, ho]) (fun _ => rfl) rfl
    · exact alu2_retires opMaxu h hk (by omega) rfl (fun w ho => by simp only [evalA, ho]) (fun _ => rfl) rfl
    · exact alu2_retires opCmpeq h hk (by omega) rfl (fun w ho => by simp only [evalA, ho]) (fun _ => rfl) (flag_decide _)
    · exact alu2_retires opCmpne h hk (by omega) rfl (fun w ho => by simp only [evalA, ho]) (fun _ => rfl) (by simp [flag])
    · exact alu2_retires opCmplt h hk (by omega) rfl (fun w ho => by simp only [evalA, ho]) (fun _ => rfl) (flag_decide _)
    · exact alu2_retires opCmpltu h hk (by omega) rfl (fun w ho => by simp only [evalA, ho]) (fun _ => rfl) (flag_decide _)
    · exact alu2_retires opCmple h hk (by omega) rfl (fun w ho => by simp only [evalA, ho]) (fun _ => rfl) (flag_decide _)
    · exact alu2_retires opCmpleu h hk (by omega) rfl (fun w ho => by simp only [evalA, ho]) (fun _ => rfl) (flag_decide _)
    · exact alu2_retires opCarry h hk (by omega) rfl (fun w ho => by simp only [evalA, ho]) (fun _ => rfl) (flag_decide _)
    · exact alu2_retires opBorrow h hk (by omega) rfl (fun w ho => by simp only [evalA, ho]) (fun _ => rfl) (flag_decide _)
    · exact alu2_retires opAdds h hk (by omega) rfl (fun w ho => by simp only [evalA, ho]) (fun _ => rfl) rfl
    · exact alu2_retires opSubs h hk (by omega) rfl (fun w ho => by simp only [evalA, ho]) (fun _ => rfl) rfl
  · refine ⟨?_, ?_, ?_, ?_, ?_, ?_, ?_, ?_, ?_, ?_⟩ <;> refine congrArg Host.Outcome.next ?_
    · exact aluImm_retires opAddi h hf (by omega) rfl (fun w ho => by simp only [evalA, ho]) (fun _ => rfl) rfl
    · exact aluImm_retires opAndi h hf (by omega) rfl (fun w ho => by simp only [evalA, ho]) (fun _ => rfl) rfl
    · exact aluImm_retires opOri h hf (by omega) rfl (fun w ho => by simp only [evalA, ho]) (fun _ => rfl) rfl
    · exact aluImm_retires opXori h hf (by omega) rfl (fun w ho => by simp only [evalA, ho]) (fun _ => rfl) rfl
    · exact aluImm_retires opShli h hf (by omega) rfl (fun w ho => by simp only [evalA, ho]) (fun _ => rfl) rfl
    · exact aluImm_retires opShri h hf (by omega) rfl (fun w ho => by simp only [evalA, ho]) (fun _ => rfl) rfl
    · exact aluImm_retires opSari h hf (by omega) rfl (fun w ho => by simp only [evalA, ho]) (fun _ => rfl) rfl
    · exact aluImm_retires opCmpeqi h hf (by omega) rfl (fun w ho => by simp only [evalA, ho]) (fun _ => rfl) (flag_decide _)
    · exact aluImm_retires opCmplti h hf (by omega) rfl (fun w ho => by simp only [evalA, ho]) (fun _ => rfl) (flag_decide _)
    · exact aluImm_retires opCmpltui h hf (by omega) rfl (fun w ho => by simp only [evalA, ho]) (fun _ => rfl) (flag_decide _)
  · refine congrArg Host.Outcome.next (ri_retires h hf (by omega) (by omega) rfl (by simp [pairPositions]) fun w ho hgd himm => ?_)
    simp [evalUnit, evalA, ho, opLi, hgd, himm, Eff.reg]

end

section
/-! PROOFS. The word ALU's operations beyond one word and one cycle (R188, R229, R230): EXT, CLZ, POPC, pairs and divisions. -/

namespace Sys2Proof.Machine

/-! ### Counts of bits (R229) -/

/-- The zeros above the highest set bit of a word that has no bit at or above `n`. -/
theorem leadingZeros_eq (w : Word) (n : Nat) (h : w.toNat < 2 ^ n) :
    leadingZeros w n = n - (if w = 0#32 then 0 else Nat.log2 w.toNat + 1) := by
  induction n with
  | zero => simp [leadingZeros]
  | succ n ih =>
    unfold leadingZeros
    split
    next hb =>
      have hle : 2 ^ n ≤ w.toNat := Nat.ge_two_pow_of_testBit hb
      have h0 : w ≠ 0#32 := by rintro rfl; simp at hb
      have hlog : n ≤ Nat.log2 w.toNat := (Nat.le_log2 (by omega)).mpr hle
      simp [h0]
      omega
    next hb =>
      have hlt : w.toNat < 2 ^ n := Nat.lt_pow_two_of_testBit _ fun i hi => by
        obtain rfl | hi' := Nat.eq_or_lt_of_le hi
        · simpa [BitVec.getLsbD] using hb
        · exact Nat.testBit_lt_two_pow (h.trans_le (Nat.pow_le_pow_right (by omega) hi'))
      rw [ih hlt]
      split
      · omega
      next h0 =>
        have hpos : w.toNat ≠ 0 := fun hz => h0 (BitVec.eq_of_toNat_eq hz)
        have := (Nat.log2_lt hpos).mpr hlt
        omega

/-- The set bits among the low `n`. -/
theorem onesIn_eq (w : Word) (n : Nat) : onesIn w n = ((List.range n).filter fun i => w.getLsbD i).length := by
  induction n with
  | zero => rfl
  | succ n ih =>
    rw [onesIn, ih, List.range_succ, List.filter_append, List.length_append, Nat.add_comm]
    cases h : w.getLsbD n <;> simp [h, bit]

/-! ### Pairs (R188) -/

/-- A pair as a whole number: the even register below the next one. -/
def Ctx.pairNat (x : Ctx) (r : Nat) : Nat := (x.reg r).toNat + 2 ^ 32 * (x.reg (r + 1)).toNat

theorem toNat_joinPair (lo hi : Word) : (joinPair lo hi).toNat = lo.toNat + 2 ^ 32 * hi.toNat := by
  rw [joinPair, BitVec.toNat_append, Nat.shiftLeft_eq, Nat.mul_comm, ← Nat.two_pow_add_eq_or_of_lt lo.isLt, Nat.add_comm]

theorem pair_eq_ofNat (x : Ctx) (r : Nat) : x.pair r = BitVec.ofNat 64 (x.pairNat r) := by
  apply BitVec.eq_of_toNat_eq
  have h0 := (x.reg r).isLt
  have h1 := (x.reg (r + 1)).isLt
  rw [Ctx.pair, toNat_joinPair, BitVec.toNat_ofNat, Ctx.pairNat, Nat.mod_eq_of_lt (by omega)]

/-- A pair result in its two registers. -/
theorem eff_pair_ofNat (r n lat : Nat) : Eff.pair r (BitVec.ofNat 64 n) lat
    = .ok [.reg r (BitVec.ofNat 32 n) lat, .reg (r + 1) (BitVec.ofNat 32 (n / 2 ^ 32)) lat] := by
  have hlo : loWord (BitVec.ofNat 64 n) = BitVec.ofNat 32 n := by
    apply BitVec.eq_of_toNat_eq
    simp [loWord, BitVec.extractLsb'_toNat]
  have hhi : hiWord (BitVec.ofNat 64 n) = BitVec.ofNat 32 (n / 2 ^ 32) := by
    apply BitVec.eq_of_toNat_eq
    simp [hiWord, BitVec.extractLsb'_toNat, Nat.shiftRight_eq_div_pow]
    omega
  rw [Eff.pair, hlo, hhi]

/-! ### Opcodes (R229, R230) -/

section Opcodes
variable {s : State} {b : Issue} {x : Ctx} {op : Nat} {gd ga gb : BitVec 6} {l : List Act}

/-- The 64-bit opcodes name pairs at even registers. -/
theorem pairPositions_wide (hop : 0x24 ≤ op ∧ op < 0x2C) (ha : op < 0x28 → ga.toNat % 2 = 0 ∧ gb.toNat % 2 = 0)
    (hd : op < 0x26 → gd.toNat % 2 = 0) :
    ((pairPositions (encRRR 1 op gd ga gb 0#4)).any fun g => decide (g % 2 = 1)) = false := by
  obtain ⟨hlo, hhi⟩ := hop
  interval_cases op <;> simp_all [pairPositions, emulated, isX, format, subListed]

/-- A 64-bit opcode or a division retires with the acts that its evaluation gives. -/
theorem wide_retires (h : Alone s b x) (hk : b.x = none) (hop : 0x24 ≤ op ∧ op < 0x2C)
    (ha : op < 0x28 → ga.toNat % 2 = 0 ∧ gb.toNat % 2 = 0) (hd : op < 0x26 → gd.toNat % 2 = 0)
    (hl : ∀ w, FieldsRRR w op gd ga gb 0#4 → evalA x w none = .ok l) :
    deliverSyl b (encRRR 1 op gd ga gb 0#4) s = retire x 1 l s :=
  alu_retires h hk (by omega) (format_alu (by omega) (by simp; omega)) (.inl rfl) (pairPositions_wide hop ha hd) hl

/-- EXT extends as SUB says. -/
theorem ext_retires {sub : BitVec 4} {r : Word} (h : Alone s b x) (hk : b.x = none) (hsub : sub.toNat ≤ 3)
    (hl : ∀ w, FieldsRRR w 0x21 gd ga gb sub → opExt x w = .ok [.reg gd.toNat r 1]) :
    deliverSyl b (encRRR 1 0x21 gd ga gb sub) s = retire x 1 [.reg gd.toNat r 1] s :=
  alu_retires h hk (by omega) rfl (.inr ⟨rfl, hsub⟩) (by simp [pairPositions_alu]) fun w hw => by
    simp only [evalA, hw.hop, hl w hw]

/-- A division by a register other than zero stalls its engine for 11 cycles (R198, R230). -/
theorem division_retires {f : Word → Word → Word} {r : Word} (h : Alone s b x) (hk : b.x = none) (hv : x.reg gb.toNat ≠ 0#32)
    (hop : 0x28 ≤ op ∧ op < 0x2C) (hev : ∀ w, sylOp w = op → evalA x w none = divide x w f)
    (hr : f (x.reg ga.toNat) (x.reg gb.toNat) = r) :
    deliverSyl b (encRRR 1 op gd ga gb 0#4) s = retire x 1 [.reg gd.toNat r 12, .stall 11] s :=
  wide_retires h hk (by omega) (by omega) (by omega) fun w hw => by
    rw [hev w hw.hop, divide, hw.hgd, hw.hga, hw.hgb, hr, if_neg hv]

end Opcodes

end Sys2Proof.Machine

open Sys2Proof Sys2Proof.Machine

/-- Settles O4: a pair is the number of its two words, and each opcode computes on these. -/
theorem wordAluWideResults : Obligations.WordAluWideResults := by
  intro s b x gd ga gb h hk u v pair result wide
  have hadd (n m : Nat) : BitVec.ofNat 64 n + BitVec.ofNat 64 m = BitVec.ofNat 64 ((n + m) % 2 ^ 64) := by
    apply BitVec.eq_of_toNat_eq
    simp
  have hsub {n m : Nat} (hm : m < 2 ^ 64) : BitVec.ofNat 64 n - BitVec.ofNat 64 m = BitVec.ofNat 64 ((2 ^ 64 + n - m) % 2 ^ 64) := by
    apply BitVec.eq_of_toNat_eq
    simp
    omega
  have hlt (r : Nat) : x.pairNat r < 2 ^ 64 := by
    have h0 := (x.reg r).isLt
    have h1 := (x.reg (r + 1)).isLt
    unfold Ctx.pairNat
    omega
  refine ⟨⟨?_, ?_, ?_, ?_⟩, ⟨?_, ?_⟩, fun ha hb => ⟨fun hd => ⟨?_, ?_⟩, ?_, ?_⟩, fun hv => ⟨?_, ?_, ?_, ?_⟩⟩
    <;> refine congrArg Host.Outcome.next ?_
  · exact ext_retires h hk (by decide) fun w hw => by simp [opExt, hw.hsub, hw.hgd, hw.hga, Eff.reg, signExt, u]
  · exact ext_retires h hk (by decide) fun w hw => by simp [opExt, hw.hsub, hw.hgd, hw.hga, Eff.reg, signExt, u]
  · exact ext_retires h hk (by decide) fun w hw => by
      simp [opExt, hw.hsub, hw.hgd, hw.hga, Eff.reg, zeroExt, u, ← BitVec.toNat_inj]
  · exact ext_retires h hk (by decide) fun w hw => by
      simp [opExt, hw.hsub, hw.hgd, hw.hga, Eff.reg, zeroExt, u, ← BitVec.toNat_inj]
  · exact alu_retires h hk (by omega) rfl (.inl rfl) (by simp [pairPositions_alu]) fun w hw => by
      simp [evalA, hw.hop, opClz, hw.hgd, hw.hga, Eff.reg, leadingZeros_eq _ 32 (x.reg ga.toNat).isLt, w32, u]
  · exact alu_retires h hk (by omega) rfl (.inl rfl) (by simp [pairPositions_alu]) fun w hw => by
      simp [evalA, hw.hop, opPopc, hw.hgd, hw.hga, Eff.reg, onesIn_eq, w32, u]
  · exact wide_retires h hk (by omega) (fun _ => ⟨ha, hb⟩) (fun _ => hd) fun w hw => by
      simp only [evalA, hw.hop, opAdd64, hw.hgd, hw.hga, hw.hgb, pair_eq_ofNat, hadd, eff_pair_ofNat]
      rfl
  · exact wide_retires h hk (by omega) (fun _ => ⟨ha, hb⟩) (fun _ => hd) fun w hw => by
      simp only [evalA, hw.hop, opSub64, hw.hgd, hw.hga, hw.hgb, pair_eq_ofNat, hsub (hlt _), eff_pair_ofNat]
      rfl
  · exact wide_retires h hk (by omega) (fun _ => ⟨ha, hb⟩) (by omega) fun w hw => by
      have hcmp : (x.pair ga.toNat < x.pair gb.toNat) ↔ pair ga.toNat < pair gb.toNat := by
        simp only [pair_eq_ofNat, BitVec.lt_def, BitVec.toNat_ofNat, Nat.mod_eq_of_lt (hlt _)]
        rfl
      simp only [evalA, hw.hop, opCmpltu64, hw.hgd, hw.hga, hw.hgb, flag_decide, hcmp]
      rfl
  · exact wide_retires h hk (by omega) (fun _ => ⟨ha, hb⟩) (by omega) fun w hw => by
      simp only [evalA, hw.hop, opCmplt64, hw.hgd, hw.hga, hw.hgb, flag_decide, pair_eq_ofNat]
      rfl
  · exact division_retires h hk hv (by omega) (fun w ho => by simp only [evalA, ho]; rfl) rfl
  · exact division_retires h hk hv (by omega) (fun w ho => by simp only [evalA, ho]; rfl) BitVec.udiv_def
  · exact division_retires h hk hv (by omega) (fun w ho => by simp only [evalA, ho]; rfl) rfl
  · exact division_retires h hk hv (by omega) (fun w ho => by simp only [evalA, ho]; rfl) BitVec.umod_def

end

section
/-! PROOFS. The bit unit on registers (R224, R227). -/

namespace Sys2Proof.Machine

section BitUnit
variable {s : State} {b : Issue} {x : Ctx} {op : Nat} {gd ga gb : BitVec 6} {sub : BitVec 4} {imm : BitVec 10}

/-- No opcode of the B class names a pair. -/
theorem pairPositions_bitUnit {w : Word} (h : sylClass w = 0) : pairPositions w = [] := by
  unfold pairPositions
  split
  · rfl
  · split <;> simp_all

/-- An opcode of the B class with two register operands (R227). -/
theorem bit_retires {r : Word} (h : Alone s b x) (hk : b.x = none) (hop : op ≤ 4) (hsub : op < 3 ∧ sub.toNat < 8 ∨ sub = 0#4)
    (hl : ∀ w, FieldsRRR w op gd ga gb sub → evalB x w none = .ok [.reg gd.toNat r 1]) :
    deliverSyl b (encRRR 0 op gd ga gb sub) s = retire x 1 [.reg gd.toNat r 1] s := by
  have hfmt : format 0 op = some .rrr := by simp [format, hop]
  refine rrr_retires h hk (by omega) (by omega) hfmt ?_ (by simp [pairPositions_bitUnit]) hl
  interval_cases op <;> simp_all [subListed]
  all_goals
    obtain hs | rfl := hsub
    · exact hs
    · decide

/-- BAND, BOR and BXOR: the operands and the result inverted by SUB (R227). -/
theorem bitOp_eq {w : Word} (hw : FieldsRRR w op gd ga gb sub) (f : Bool → Bool → Bool) :
    bitOp x w f = .ok [.reg gd.toNat (flag (f (truth (x.reg ga.toNat) != sub.getLsbD 0) (truth (x.reg gb.toNat) != sub.getLsbD 1)
      != sub.getLsbD 2)) 1] := by
  simp only [bitOp, sense, hw.hgd, hw.hga, hw.hgb, hw.hbits 0 (by omega), hw.hbits 1 (by omega), hw.hbits 2 (by omega), Eff.reg]

/-- BEXT and BINS see gd, ga and the immediate. -/
theorem bitImm_retires {r : Word} (h : Alone s b x) (hf : fitsX b.x 22) (hop : op = 8 ∨ op = 9)
    (hl : ∀ w, sylOp w = op → sylGd w = gd.toNat → sylGa w = ga.toNat → (∀ sext, immRRI w b.x sext = extended b.x sext imm) →
      evalB x w b.x = .ok [.reg gd.toNat r 1]) :
    deliverSyl b (encRRI 0 op gd ga imm) s = retire x (sylWords b.x) [.reg gd.toNat r 1] s :=
  rri_retires h hf (by omega) (by omega) (by obtain rfl | rfl := hop <;> rfl) (by simp [pairPositions_bitUnit]) hl

end BitUnit

end Sys2Proof.Machine

open Sys2Proof Sys2Proof.Machine

/-- Settles O5: the definitions of the opcodes on the fields that the unit sees. -/
theorem bitUnitRegisterResults : Obligations.BitUnitRegisterResults := by
  intro s b x gd ga gb sub imm h p q one n
  refine ⟨fun hk => ⟨fun hsub => ⟨?_, ?_, ?_⟩, ?_, ?_⟩, fun hf => ⟨?_, ?_⟩⟩ <;> refine congrArg Host.Outcome.next ?_
  · exact bit_retires h hk (by omega) (.inl ⟨by omega, hsub⟩) fun w hw => by simp only [evalB, hw.hop, opBand]; exact bitOp_eq hw _
  · exact bit_retires h hk (by omega) (.inl ⟨by omega, hsub⟩) fun w hw => by simp only [evalB, hw.hop, opBor]; exact bitOp_eq hw _
  · exact bit_retires h hk (by omega) (.inl ⟨by omega, hsub⟩) fun w hw => by simp only [evalB, hw.hop, opBxor]; exact bitOp_eq hw _
  · exact bit_retires h hk (by omega) (.inr rfl) fun w hw => by simp only [evalB, hw.hop, opNez, hw.hgd, hw.hga]; rfl
  · exact bit_retires h hk (by omega) (.inr rfl) fun w hw => by
      simp only [evalB, hw.hop, opEqz, hw.hgd, hw.hga]
      simp [Eff.reg, truth, flag]
  · exact bitImm_retires h hf (.inl rfl) fun w ho hgd hga himm => by simp only [evalB, ho, opBext, hgd, hga, himm]; rfl
  · exact bitImm_retires h hf (.inr rfl) fun w ho hgd hga himm => by
      simp only [evalB, ho, opBins, hgd, hga, himm, truth, decide_eq_true_eq]
      rfl

end

section
/-! PROOFS. The MAC unit on registers (R231, R232): integer products and sums, and binary32 results rounded once. -/

namespace Sys2Proof.Machine

section MacUnit
variable {s : State} {b : Issue} {x : Ctx} {op : Nat} {gd ga gb : BitVec 6} {sub : BitVec 4} {l : List Act}

/-- The SUBs that R231 lists for the MAC unit's register opcodes: the last one of each opcode. -/
def macSubMax (op : Nat) : Nat := if op = 0x17 then 2 else if op = 0x18 then 3 else if op = 0x19 then 4 else 0

/-- An opcode of the M class in format RRR whose SUB is listed. -/
theorem macUnit_retires (h : Alone s b x) (hk : b.x = none) (hop : op ≤ 5 ∨ 0x10 ≤ op ∧ op ≤ 0x19)
    (hsub : sub.toNat ≤ macSubMax op) (hd : op = 3 ∨ op = 5 → gd.toNat % 2 = 0)
    (hl : ∀ w, FieldsRRR w op gd ga gb sub → evalM x w = .ok l) :
    deliverSyl b (encRRR 2 op gd ga gb sub) s = retire x 1 l s := by
  have hlt : op < 0x1A := by omega
  have hfmt : format 2 op = some .rrr := by simp [format]; omega
  refine rrr_retires h hk (by omega) (by omega) hfmt ?_ ?_ hl
  · interval_cases op <;> simp_all [subListed, macSubMax]
  · interval_cases op <;> simp_all [pairPositions, emulated, isX, subListed, macSubMax]

/-- A result of two registers, two cycles later. -/
theorem mac2_retires (g : Ctx → Word → Eff) {f : Word → Word → Word} {r : Word} (h : Alone s b x) (hk : b.x = none)
    (hop : op ≤ 2 ∨ 0x10 ≤ op ∧ op ≤ 0x19) (hsub : sub.toNat ≤ macSubMax op)
    (hev : ∀ w, sylOp w = op → evalM x w = g x w) (hg : ∀ w, sylSub w = sub.toNat → g x w = mac2 x w f)
    (hr : f (x.reg ga.toNat) (x.reg gb.toNat) = r) :
    deliverSyl b (encRRR 2 op gd ga gb sub) s = retire x 1 [.reg gd.toNat r 2] s :=
  macUnit_retires h hk (by omega) hsub (by omega) fun w hw => by
    rw [hev w hw.hop, hg w hw.hsub, mac2, hw.hgd, hw.hga, hw.hgb, hr, Eff.reg]

/-- A result of gd and two registers, two cycles later. -/
theorem mac3_retires (g : Ctx → Word → Eff) {f : Word → Word → Word → Word} {r : Word} (h : Alone s b x) (hk : b.x = none)
    (hop : op = 4 ∨ 0x10 ≤ op ∧ op < 0x17) (hev : ∀ w, sylOp w = op → evalM x w = g x w)
    (hg : ∀ w, g x w = mac3 x w f) (hr : f (x.reg gd.toNat) (x.reg ga.toNat) (x.reg gb.toNat) = r) :
    deliverSyl b (encRRR 2 op gd ga gb 0#4) s = retire x 1 [.reg gd.toNat r 2] s :=
  macUnit_retires h hk (by omega) (by simp) (by omega) fun w hw => by
    rw [hev w hw.hop, hg w, mac3, hw.hgd, hw.hga, hw.hgb, hr, Eff.reg]

end MacUnit

/-- The high word of an unsigned product. -/
theorem hiWord_prodU (a b : Word) : hiWord (prodU a b) = BitVec.ofNat 32 (a.toNat * b.toNat / 2 ^ 32) := by
  have ha := a.isLt
  have hb := b.isLt
  have hlt : a.toNat * b.toNat < 2 ^ 32 * 2 ^ 32 := Nat.mul_lt_mul'' ha hb
  apply BitVec.eq_of_toNat_eq
  simp [hiWord, prodU, BitVec.extractLsb'_toNat, Nat.shiftRight_eq_div_pow]
  omega

/-! ### binary32 operands (R231, R232) -/

theorem fMin_eq (a b : Word) : fMin a b =
    if Flt.unpack a = .nan then (Flt.unpack b).pack else if Flt.unpack b = .nan then (Flt.unpack a).pack
    else if (Flt.unpack a).isMin (Flt.unpack b) then (Flt.unpack a).pack else (Flt.unpack b).pack := by
  unfold fMin
  cases Flt.unpack a <;> cases Flt.unpack b <;> simp

theorem fMax_eq (a b : Word) : fMax a b =
    if Flt.unpack a = .nan then (Flt.unpack b).pack else if Flt.unpack b = .nan then (Flt.unpack a).pack
    else if (Flt.unpack a).isMin (Flt.unpack b) then (Flt.unpack b).pack else (Flt.unpack a).pack := by
  unfold fMax
  cases Flt.unpack a <;> cases Flt.unpack b <;> simp

/-- Of two values in strict order the first is the minimum. -/
theorem Flt.isMin_of_lt {x y : Flt} (hle : x.le y = true) (hlt : y.le x = false) : x.isMin y = true := by
  simp [Flt.isMin, hle, hlt]

theorem fCmp_eq (sub : Nat) (a b : Word) : fCmp sub a b =
    if Flt.unpack a = .nan ∨ Flt.unpack b = .nan then decide (sub = 3)
    else match sub with
      | 0 => (Flt.unpack a).le (Flt.unpack b) && (Flt.unpack b).le (Flt.unpack a)
      | 1 => (Flt.unpack a).le (Flt.unpack b) && !(Flt.unpack b).le (Flt.unpack a)
      | 2 => (Flt.unpack a).le (Flt.unpack b)
      | _ => false := by
  unfold fCmp
  cases Flt.unpack a <;> cases Flt.unpack b <;> simp <;> rfl

theorem fSgn_fin {sub m : Nat} {e : Int} {neg : Bool} {a : Word} (b : Word) (h : Flt.unpack a = .fin neg m e) :
    fSgn sub a b = (Flt.fin (if sub = 0 then false else if sub = 1 then !a.msb else b.msb) m e).pack := by
  simp only [fSgn, h]

/-- A NaN converts to 0 (R232). -/
theorem fCvt_nan {sub : Nat} {a : Word} (h : Flt.unpack a = .nan) (hs : 2 ≤ sub ∧ sub ≤ 4) : fCvt sub a = 0#32 := by
  obtain ⟨_, _⟩ := hs
  interval_cases sub <;> simp [fCvt, fToInt, h]

/-- A whole number of 31 bits converts to itself, whatever the rounding and the range (R231). -/
theorem fCvt_whole {sub m e : Nat} {a : Word} (h : Flt.unpack a = .fin false m e) (hlt : m * 2 ^ e < 2 ^ 31)
    (hs : 2 ≤ sub ∧ sub ≤ 4) : fCvt sub a = BitVec.ofNat 32 (m * 2 ^ e) := by
  have hclamp (lo hi : Int) (hlo : lo ≤ 0) (hhi : 2 ^ 31 - 1 ≤ hi) (nearest : Bool) :
      fToInt lo hi nearest a = ((m * 2 ^ e : Nat) : Int) := by
    simp only [fToInt, h, toWhole, Int.natCast_nonneg, if_true, Int.toNat_natCast]
    simp only [clampI]
    generalize m * 2 ^ e = n at hlt ⊢
    simp
    omega
  obtain ⟨_, _⟩ := hs
  interval_cases sub <;> simp only [fCvt] <;> rw [hclamp _ _ (by norm_num) (by norm_num), BitVec.ofInt_natCast]

end Sys2Proof.Machine

open Sys2Proof Sys2Proof.Machine

/-- Settles O7: each opcode's definition on the words that it reads. -/
theorem macUnitIntegerResults : Obligations.MacUnitIntegerResults := by
  intro s b x gd ga gb h hk u v product pair result wide
  refine ⟨?_, ?_, ?_, ?_, fun hd => ⟨?_, ?_⟩⟩ <;> refine congrArg Host.Outcome.next ?_
  · exact mac2_retires opMul h hk (by omega) (by simp) (fun w ho => by simp only [evalM, ho]) (fun _ _ => rfl) rfl
  · exact mac2_retires opMulh h hk (by omega) (by simp) (fun w ho => by simp only [evalM, ho]) (fun _ _ => rfl) rfl
  · exact mac2_retires opMulhu h hk (by omega) (by simp) (fun w ho => by simp only [evalM, ho]) (fun _ _ => rfl) (hiWord_prodU _ _)
  · exact mac3_retires opMac h hk (by omega) (fun w ho => by simp only [evalM, ho]) (fun _ => rfl) rfl
  · exact macUnit_retires h hk (by omega) (by simp) (fun _ => hd) fun w hw => by
      simp only [evalM, hw.hop, opMulw, hw.hgd, hw.hga, hw.hgb]
      rfl
  · exact macUnit_retires h hk (by omega) (by simp) (fun _ => hd) fun w hw => by
      simp only [evalM, hw.hop, opMacw, hw.hgd, hw.hga, hw.hgb]
      rfl

/-- Settles O8: each opcode's definition on the values that its words read as. -/
theorem macUnitFloatResults : Obligations.MacUnitFloatResults := by
  intro s b x gd ga gb h hk u v d result
  have min_result {r : Word} (hr : fMin (x.reg ga.toNat) (x.reg gb.toNat) = r) : exec (.fmin b gd ga gb 0#4) s = result r :=
    congrArg Host.Outcome.next
      (mac2_retires opFmin h hk (by omega) (by simp) (fun w ho => by simp only [evalM, ho]) (fun _ _ => rfl) hr)
  have max_result {r : Word} (hr : fMax (x.reg ga.toNat) (x.reg gb.toNat) = r) : exec (.fmax b gd ga gb 0#4) s = result r :=
    congrArg Host.Outcome.next
      (mac2_retires opFmax h hk (by omega) (by simp) (fun w ho => by simp only [evalM, ho]) (fun _ _ => rfl) hr)
  have sgn_result (sub : BitVec 4) (hs : sub.toNat ≤ 2) {r : Word} (hr : fSgn sub.toNat (x.reg ga.toNat) (x.reg gb.toNat) = r) :
      exec (.fsgn b gd ga gb sub) s = result r :=
    congrArg Host.Outcome.next
      (mac2_retires opFsgn h hk (by omega) hs (fun w ho => by simp only [evalM, ho]) (fun _ hw => by rw [opFsgn, hw]) hr)
  have cvt_result (sub : BitVec 4) (hs : sub.toNat ≤ 4) {r : Word} (hr : fCvt sub.toNat (x.reg ga.toNat) = r) :
      exec (.fcvt b gd ga gb sub) s = result r :=
    congrArg Host.Outcome.next
      (mac2_retires opFcvt h hk (by omega) hs (fun w ho => by simp only [evalM, ho]) (fun _ hw => by rw [opFcvt, hw]) hr)
  refine ⟨?_, ?_, ?_, ?_, ?_, fun hu hv => ⟨min_result ?_, max_result ?_⟩, fun hu hv => ⟨min_result ?_, max_result ?_⟩,
    fun hu hv => ⟨min_result ?_, max_result ?_⟩, fun hu hv hle hlt => ⟨min_result ?_, max_result ?_⟩, fun sub hsub => ?_,
    fun m e neg hu => ⟨sgn_result _ (by decide) (fSgn_fin _ hu), sgn_result _ (by decide) (fSgn_fin _ hu),
      sgn_result _ (by decide) (fSgn_fin _ hu)⟩, cvt_result _ (by decide) rfl, cvt_result _ (by decide) rfl,
    fun hu sub h2 h4 => cvt_result _ h4 (fCvt_nan hu ⟨h2, h4⟩), fun m e hu hlt sub h2 h4 => cvt_result _ h4 (fCvt_whole hu hlt ⟨h2, h4⟩)⟩
  · exact congrArg Host.Outcome.next
      (mac2_retires opFadd h hk (by omega) (by simp) (fun w ho => by simp only [evalM, ho]) (fun _ _ => rfl) rfl)
  · exact congrArg Host.Outcome.next
      (mac2_retires opFsub h hk (by omega) (by simp) (fun w ho => by simp only [evalM, ho]) (fun _ _ => rfl) rfl)
  · exact congrArg Host.Outcome.next
      (mac2_retires opFmul h hk (by omega) (by simp) (fun w ho => by simp only [evalM, ho]) (fun _ _ => rfl) rfl)
  · exact congrArg Host.Outcome.next
      (mac3_retires opFmac h hk (by omega) (fun w ho => by simp only [evalM, ho]) (fun _ => rfl) rfl)
  · exact congrArg Host.Outcome.next
      (mac3_retires opFmsc h hk (by omega) (fun w ho => by simp only [evalM, ho]) (fun _ => rfl) rfl)
  · rw [fMin_eq, if_pos hu]; exact congrArg Flt.pack hv
  · rw [fMax_eq, if_pos hu]; exact congrArg Flt.pack hv
  · rw [fMin_eq, if_pos hu]
  · rw [fMax_eq, if_pos hu]
  · rw [fMin_eq, if_neg hu, if_pos hv]
  · rw [fMax_eq, if_neg hu, if_pos hv]
  · rw [fMin_eq, if_neg hu, if_neg hv, if_pos (Flt.isMin_of_lt hle hlt)]
  · rw [fMax_eq, if_neg hu, if_neg hv, if_pos (Flt.isMin_of_lt hle hlt)]
  · refine congrArg Host.Outcome.next
      (mac2_retires opFcmp h hk (by omega) hsub (fun w ho => by simp only [evalM, ho]) (fun _ hw => by rw [opFcmp, hw]) ?_)
    have hs : sub = 0#4 ∨ sub = 1#4 ∨ sub = 2#4 ∨ sub = 3#4 := by bv_omega
    rw [fCmp_eq]
    obtain rfl | rfl | rfl | rfl := hs <;> simp [flag] <;> split <;> simp_all

end

section
/-! PROOFS. Points of the process image as the bit unit and the image opcodes reach them (R207, R208, R227, R228, R234, R236). -/

namespace Sys2Proof.Machine

/-- The opcodes of the L class that name pair gd (R234, R244). -/
def pairLoads : List Nat := [0x05, 0x0B, 0x11, 0x13, 0x25, 0x2A, 0x2B, 0x38]

/-- An opcode of the L class names an odd pair only where it names pair gd and gd is odd. -/
theorem pairPositions_memory {w : Word} (hc : sylClass w = 3) (hp : sylOp w ∈ pairLoads → sylGd w % 2 = 0) :
    ((pairPositions w).any fun g => decide (g % 2 = 1)) = false := by
  unfold pairPositions
  split
  · rfl
  · split <;> simp_all [pairLoads]

section Memory
variable {s : State} {b : Issue} {x : Ctx} {op : Nat} {gd ga gb : BitVec 6} {l : List Act}

/-- An opcode of the L class with ga and an immediate of 10 bits. -/
theorem memory_rri_retires {imm : BitVec 10} (h : Alone s b x) (hf : fitsX b.x 22) (hop : op < 64) (hfmt : format 3 op = some .rri)
    (hp : op ∈ pairLoads → gd.toNat % 2 = 0)
    (hl : ∀ w, sylOp w = op → sylGd w = gd.toNat → sylGa w = ga.toNat → (∀ sext, immRRI w b.x sext = extended b.x sext imm) →
      evalL x w b.x = .ok l) :
    deliverSyl b (encRRI 3 op gd ga imm) s = retire x (sylWords b.x) l s :=
  rri_retires h hf (by omega) hop hfmt
    (pairPositions_memory (by simp) fun hm => by simpa using hp (by simpa [Nat.mod_eq_of_lt hop] using hm)) hl

/-- An opcode of the L class with an immediate of 16 bits. -/
theorem memory_ri_retires {imm : BitVec 16} (h : Alone s b x) (hf : fitsX b.x 16) (hop : op < 64) (hfmt : format 3 op = some .ri)
    (hp : op ∈ pairLoads → gd.toNat % 2 = 0)
    (hl : ∀ w, sylOp w = op → sylGd w = gd.toNat → (∀ sext, immRI w b.x sext = extended b.x sext imm) → evalL x w b.x = .ok l) :
    deliverSyl b (encRI 3 op gd imm) s = retire x (sylWords b.x) l s :=
  ri_retires h hf (by omega) hop hfmt
    (pairPositions_memory (by simp) fun hm => by simpa using hp (by simpa [Nat.mod_eq_of_lt hop] using hm)) hl

/-- An opcode of the L class with an image address. -/
theorem memory_bi_retires {space : BitVec 4} {index : BitVec 12} (h : Alone s b x) (hf : fitsX b.x 16) (hop : op = 0x1C ∨ op = 0x1D)
    (hl : ∀ w, sylOp w = op → sylGd w = gd.toNat →
      immBI w b.x = 2 ^ 28 * space.toNat + ((extended b.x false index).setWidth 28).toNat → evalL x w b.x = .ok l) :
    deliverSyl b (encBI 3 op gd space index) s = retire x (sylWords b.x) l s := by
  refine bi_retires h hf (by omega) (by omega) (by obtain rfl | rfl := hop <;> rfl) (pairPositions_memory (by simp) fun hm => ?_) hl
  obtain rfl | rfl := hop <;> simp [pairLoads] at hm

/-- An opcode of the B class with an image address (R227). -/
theorem bitPoint_retires {space : BitVec 4} {index : BitVec 12} (h : Alone s b x) (hf : fitsX b.x 16) (hop : 0x20 ≤ op ∧ op ≤ 0x23)
    (hl : ∀ w, sylOp w = op → sylGd w = gd.toNat →
      immBI w b.x = 2 ^ 28 * space.toNat + ((extended b.x false index).setWidth 28).toNat → evalB x w b.x = .ok l) :
    deliverSyl b (encBI 0 op gd space index) s = retire x (sylWords b.x) l s :=
  bi_retires h hf (by omega) (by omega) (by obtain ⟨_, _⟩ := hop; interval_cases op <;> rfl)
    (by simp [pairPositions_bitUnit]) hl

/-- A stack opcode of the L class. -/
theorem stack_retires (h : Alone s b x) (hk : b.x = none) (hop : 0x28 ≤ op ∧ op ≤ 0x2B) (hp : op ∈ pairLoads → gd.toNat % 2 = 0)
    (hl : ∀ w, sylOp w = op → sylGd w = gd.toNat → evalL x w none = .ok l) :
    deliverSyl b (encRRR 3 op gd ga gb 0#4) s = retire x 1 l s := by
  have hlt : op < 64 := by omega
  refine rrr_retires h hk (by omega) hlt (by obtain ⟨_, _⟩ := hop; interval_cases op <;> rfl) ?_
    (pairPositions_memory (by simp) fun hm => by simpa using hp (by simpa [Nat.mod_eq_of_lt hlt] using hm)) fun w hw => hl w hw.hop hw.hgd
  obtain ⟨_, _⟩ := hop
  interval_cases op <;> simp [subListed, format]

end Memory

section Points
variable {x : Ctx} {a : Nat}

theorem firstTrap_eq_none_iff {l : List (Option Trp)} : firstTrap l = none ↔ ∀ t ∈ l, t = none := by
  simp [firstTrap, List.findSome?_eq_none_iff]

theorem readPoint_readable (h : addrCheck a = none ∧ x.readCheck a = none) : x.readPoint a = .ok (x.point a) := by
  rw [Ctx.readPoint, firstTrap_eq_none_iff.mpr (by simp [h])]

theorem readQuality_readable (h : addrCheck a = none ∧ x.readCheck a = none) : x.readQuality a = .ok (x.quality a) := by
  rw [Ctx.readQuality, firstTrap_eq_none_iff.mpr (by simp [h])]

theorem writePoint_writable (v : Word) (h : addrCheck a = none ∧ x.writeCheck a = none) :
    x.writePoint a v = .ok [(a, if isWordPoint a then v else flag (truth v))] := by
  rw [Ctx.writePoint, firstTrap_eq_none_iff.mpr (by simp [h])]

theorem readImgWord_wordPoint (hw : isWordPoint a = true) (h : addrCheck a = none ∧ x.readCheck a = none) :
    x.readImgWord a = .ok (x.point a) := by
  rw [Ctx.readImgWord, if_pos hw, readPoint_readable h]

theorem writeImgWord_wordPoint (v : Word) (hw : isWordPoint a = true) (h : addrCheck a = none ∧ x.writeCheck a = none) :
    x.writeImgWord a v = .ok [(a, v)] := by
  rw [Ctx.writeImgWord, if_pos hw, firstTrap_eq_none_iff.mpr (by simp [h])]

theorem readImgWord_bits (hw : isWordPoint a = false) (ha : addrCheck a = none) (h : ∀ p ∈ wordPoints a, x.readCheck p = none) :
    x.readImgWord a = .ok (x.packed (a / 32 * 32) 32) := by
  have hc : firstTrap (addrCheck a :: (wordPoints a).map x.readCheck) = none := firstTrap_eq_none_iff.mpr (by simpa [ha] using h)
  simp only [Ctx.readImgWord, hw, Bool.false_eq_true, if_false, hc]

theorem writeImgWord_bits (v : Word) (hw : isWordPoint a = false) (ha : addrCheck a = none)
    (h : ∀ p ∈ wordPoints a, x.writeCheck p = none) :
    x.writeImgWord a v = .ok ((List.range 32).map fun k => (a / 32 * 32 + k, flag (v.getLsbD k))) := by
  have hc : firstTrap (addrCheck a :: (wordPoints a).map x.writeCheck) = none := firstTrap_eq_none_iff.mpr (by simpa [ha] using h)
  simp only [Ctx.writeImgWord, hw, Bool.false_eq_true, if_false, hc]

theorem getLsbD_oneAt {n k : Nat} (hn : n < 32) : (1#32 <<< n).getLsbD k = decide (k = n) := by
  rw [← BitVec.twoPow_eq, BitVec.getLsbD_twoPow]
  rcases eq_or_ne k n with rfl | hk
  · simpa using hn
  · simp [hk, Ne.symm hk]

/-- A packed word holds the truth of point `a + k` in bit k (R234). -/
theorem getLsbD_packed {n k : Nat} (hn : n ≤ 32) : (x.packed a n).getLsbD k = (decide (k < n) && truth (x.point (a + k))) := by
  induction n with
  | zero => simp [Ctx.packed]
  | succ n ih =>
    have hbit : (if truth (x.point (a + n)) then 1#32 <<< n else 0#32).getLsbD k = (truth (x.point (a + n)) && decide (k = n)) := by
      split
      · next ht => rw [getLsbD_oneAt (by omega), ht, Bool.true_and]
      · next ht => simp [ht]
    rw [Ctx.packed, BitVec.getLsbD_or, ih (by omega), hbit]
    rcases Nat.lt_trichotomy k n with hk | rfl | hk
    · simp [hk, Nat.lt_succ_of_lt hk, hk.ne]
    · simp
    · simp [Nat.not_lt.mpr hk.le, Nat.not_lt.mpr (Nat.succ_le_of_lt hk), hk.ne']

end Points

/-- The engine address of a syllable in format RRI (R234). -/
theorem addrOf_eq {x : Ctx} {w : Word} {k : Option (BitVec 28)} {ga : BitVec 6} {imm : BitVec 10} (hga : sylGa w = ga.toNat)
    (hi : ∀ sext, immRRI w k sext = extended k sext imm) : addrOf x w k = (x.reg ga.toNat + extended k true imm).toNat := by
  rw [addrOf, hga, hi]

theorem truth_flag (p : Bool) : truth (flag p) = p := by cases p <;> rfl

end Sys2Proof.Machine

open Sys2Proof Sys2Proof.Machine

/-- Settles O6: the checks of an access pass, and the opcode's definition names the register or the point. -/
theorem imagePointAccess : Obligations.ImagePointAccess := by
  intro s b x gd ga imm space index h bi rri readable writable result bool
  have hbool (p : Bool) : bool p = flag p := by cases p <;> rfl
  refine ⟨fun hf => ⟨fun hr => ⟨?_, ?_, ?_⟩, fun hw hword => ?_, fun hword => ⟨fun hr => ?_, fun hw => ?_⟩,
    fun hword ha => ⟨fun hr => ⟨x.packed (bi / 32 * 32) 32, ?_, fun k hk => ?_⟩, fun hw => ?_⟩⟩,
    fun hf => ⟨fun hr => ⟨?_, ?_⟩, fun hw => ?_⟩⟩
  case refine_8 => rw [getLsbD_packed le_rfl, decide_eq_true hk, Bool.true_and, truth]
  all_goals refine congrArg Host.Outcome.next ?_
  · exact bitPoint_retires h hf (by omega) fun w ho hgd (ha : immBI w b.x = bi) => by
      simp only [evalB, ho, opBld, fromPoint, ha, hgd, readPoint_readable hr, Eff.reg, hbool, truth]
  · exact bitPoint_retires h hf (by omega) fun w ho hgd (ha : immBI w b.x = bi) => by
      simp only [evalB, ho, opBldq, fromPoint, ha, hgd, readPoint_readable hr, Eff.reg]
  · exact bitPoint_retires h hf (by omega) fun w ho hgd (ha : immBI w b.x = bi) => by
      simp only [evalB, ho, opBldg, fromPoint, ha, hgd, readPoint_readable hr, Eff.reg, hbool, truth]
  · exact bitPoint_retires h hf (by omega) fun w ho hgd (ha : immBI w b.x = bi) => by
      simp only [evalB, ho, opBst, ha, hgd, writePoint_writable _ hw, hbool, truth_flag]
      simp [hword, Except.map, truth]
  · exact memory_bi_retires h hf (by omega) fun w ho hgd (ha : immBI w b.x = bi) => by
      simp only [evalL, ho, opIldw, ha, hgd, readImgWord_wordPoint hword hr, Except.map]
  · exact memory_bi_retires h hf (by omega) fun w ho hgd (ha : immBI w b.x = bi) => by
      simp only [evalL, ho, opIstw, ha, hgd, writeImgWord_wordPoint _ hword hw, Except.map]
      rfl
  · exact memory_bi_retires h hf (by omega) fun w ho hgd (ha : immBI w b.x = bi) => by
      simp only [evalL, ho, opIldw, ha, hgd, readImgWord_bits hword ‹_› hr, Except.map]
  · exact memory_bi_retires h hf (by omega) fun w ho hgd (ha : immBI w b.x = bi) => by
      simp only [evalL, ho, opIstw, ha, hgd, writeImgWord_bits _ hword ‹_› hw, Except.map, hbool, List.map_map]
      rfl
  · exact memory_rri_retires h hf (by omega) rfl (by simp [pairLoads]) fun w ho hgd hga hi => by
      have ha : addrOf x w b.x = rri := addrOf_eq hga hi
      simp only [evalL, ho, opIld, imgSum, ha, hgd, readPoint_readable hr, Except.map]
  · exact memory_rri_retires h hf (by omega) rfl (by simp [pairLoads]) fun w ho hgd hga hi => by
      have ha : addrOf x w b.x = rri := addrOf_eq hga hi
      simp only [evalL, ho, opIldq, imgSum, ha, hgd, readQuality_readable hr, Except.map]
  · exact memory_rri_retires h hf (by omega) rfl (by simp [pairLoads]) fun w ho hgd hga hi => by
      have ha : addrOf x w b.x = rri := addrOf_eq hga hi
      simp only [evalL, ho, opIst, imgSum, ha, hgd, writePoint_writable _ hw, Except.map, hbool, truth]
      rfl

end

section
/-! PROOFS. Address generators (R214-R216, R231, R233). -/

namespace Sys2Proof.Machine

/-- The SUBs that R231 lists for the generator opcodes. -/
def agSubListed (op sub : Nat) : Prop :=
  (op = 0x20 ∧ (sub < 4 ∨ sub = 4 ∨ sub = 5)) ∨ (op = 0x21 ∧ sub < 4) ∨ (0x22 ≤ op ∧ op ≤ 0x24 ∧ sub = 0)
    ∨ ((op = 0x28 ∨ op = 0x29) ∧ sub ≤ 4)

/-- The generator opcodes that name pairs have even registers there (R188, R231). -/
def agPairsEven (op sub gd gb : Nat) : Prop :=
  (op = 0x20 ∨ op = 0x21 → sub = 3 → gd % 2 = 0) ∧ (op = 0x23 ∨ op = 0x24 → gd % 2 = 0 ∧ gb % 2 = 0)

section Generators
variable {s : State} {b : Issue} {x : Ctx} {op : Nat} {gd gb : BitVec 6} {k : BitVec 2} {sub : BitVec 8} {l : List Act}

/-- A generator opcode with a listed SUB and even registers in its 64-bit positions. -/
theorem gen_retires (h : Alone s b x) (hk : b.x = none) (hs : agSubListed op sub.toNat)
    (hp : agPairsEven op sub.toNat gd.toNat gb.toNat) (hl : ∀ w, FieldsAG w op gd gb k sub → evalM x w = .ok l) :
    deliverSyl b (encAG 2 op gd gb k sub) s = retire x 1 l s := by
  have hcls : sylClass (encAG 2 op gd gb k sub) = 2 := by simp
  have hlt : op < 64 := by unfold agSubListed at hs; omega
  have hop : sylOp (encAG 2 op gd gb k sub) = op := by simp [Nat.mod_eq_of_lt hlt]
  have hfmt : format 2 op = some .ag := by
    unfold agSubListed at hs
    rw [format, if_neg (by omega), if_pos (by omega)]
  refine ag_retires h hk hlt hfmt ?_ ?_ hl
  · rw [subListed, hcls, hop, hfmt]
    obtain ⟨rfl, hs⟩ | ⟨rfl, hs⟩ | ⟨h1, h2, hs⟩ | ⟨rfl | rfl, hs⟩ := hs
    case inr.inr.inl => interval_cases op <;> simp [hs]
    all_goals simp
    all_goals omega
  · unfold pairPositions
    split
    · rfl
    · simp only [hcls, hop]
      obtain ⟨hp1, hp2⟩ := hp
      obtain ⟨rfl, hs⟩ | ⟨rfl, hs⟩ | ⟨h1, h2, hs⟩ | ⟨rfl | rfl, hs⟩ := hs
      case inr.inr.inl => interval_cases op <;> simp_all
      all_goals simp
      all_goals exact fun h3 => hp1 (by decide) (by omega)

/-- An opcode that reads through its generator gives its results and steps the generator (R233). -/
theorem throughGen_ok {w : Word} {len : Nat} {m : Bytes} {f : Bytes → List Act} (hk : sylAgn w = k.toNat)
    (hm : x.dataLoad ((x.gen k.toNat).base + (x.gen k.toNat).idx).toNat len = .ok m) :
    throughGen x w len f = .ok (f m ++ [.gen k.toNat { x.gen k.toNat with idx := nextIdx (x.gen k.toNat) }]) := by
  rw [throughGen, hk, genAddr, hm]
  rfl

end Generators

@[simp] theorem length_leBytes (n v : Nat) : (leBytes n v).length = n := by
  induction n generalizing v with
  | zero => rfl
  | succ n ih => simp [leBytes, ih]

/-- A store to the data window whose checks pass is its bytes alone (R203, R208). -/
theorem dataStore_ok {x : Ctx} {a len : Nat} {m : Bytes} (hm : m.length = len) (hd : inData a = true) (ha : a % len = 0)
    (hw : x.dataWriteCheck a len = none) : x.dataStore a m = .ok [.data a m] := by
  simp [Ctx.dataStore, hm, hd, ha, hw]

end Sys2Proof.Machine

open Sys2Proof Sys2Proof.Machine

/-- Settles O9: each opcode's definition on the generator that it names, the element read through `throughGen_ok`. -/
theorem generatorAccess : Obligations.GeneratorAccess := by
  intro s b x gd gb k h hk g v d d1 a f step result word
  have set (sub : BitVec 8) (hs : sub.toNat ≤ 4) {l : List Act}
      (hl : ∀ w, FieldsAG w 0x28 gd gb k sub → opAgset x w = .ok l) : exec (.agset b gd gb k sub) s = result l :=
    congrArg Host.Outcome.next (gen_retires h hk (by simp [agSubListed, hs]) (by simp [agPairsEven]) fun w hw => by
      simp only [evalM, hw.hop, hl w hw])
  have get (sub : BitVec 8) (hs : sub.toNat ≤ 4) {l : List Act}
      (hl : ∀ w, FieldsAG w 0x29 gd gb k sub → opAgget x w = .ok l) : exec (.agget b gd gb k sub) s = result l :=
    congrArg Host.Outcome.next (gen_retires h hk (by simp [agSubListed, hs]) (by simp [agPairsEven]) fun w hw => by
      simp only [evalM, hw.hop, hl w hw])
  have load (sub : BitVec 8) (hs : sub.toNat ≤ 5) (hp : sub.toNat = 3 → gd.toNat % 2 = 0) {l : List Act}
      (hl : ∀ w, FieldsAG w 0x20 gd gb k sub → opMld x w = .ok l) : exec (.mld b gd gb k sub) s = result l :=
    congrArg Host.Outcome.next (gen_retires h hk (by simp [agSubListed]; omega) (by simpa [agPairsEven] using hp) fun w hw => by
      simp only [evalM, hw.hop, hl w hw])
  refine ⟨⟨?_, ?_, ?_, ?_, ?_⟩, ⟨?_, ?_, ?_, ?_, ?_⟩, fun m hm => ⟨?_, ?_⟩, fun m hm => ⟨?_, ?_⟩,
    fun m hm => ⟨?_, ?_, fun hd hb => ?_⟩, fun hd m hm => ⟨?_, fun hb => ?_⟩, fun sub hs hd => ?_⟩
  iterate 5 exact set _ (by decide) fun w hw => by simp only [opAgset, hw.hagn, hw.hgb, hw.hsub]; rfl
  iterate 5 exact get _ (by decide) fun w hw => by simp only [opAgget, hw.hagn, hw.hgd, hw.hsub]; rfl
  iterate 2
    exact load _ (by decide) (by simp) fun w hw => by
      simp only [opMld, hw.hsub, hw.hbit, hw.hgd]
      exact throughGen_ok hw.hagn hm
  iterate 2
    exact load _ (by decide) (by simp) fun w hw => by
      simp only [opMld, hw.hsub, hw.hbit, hw.hgd]
      exact throughGen_ok hw.hagn hm
  · exact load _ (by decide) (by simp) fun w hw => by
      simp only [opMld, hw.hsub, hw.hbit, hw.hgd]
      exact throughGen_ok hw.hagn hm
  · refine congrArg Host.Outcome.next (gen_retires h hk (by simp [agSubListed]) (by simp [agPairsEven]) fun w hw => ?_)
    simp only [evalM, hw.hop, opFmaca, hw.hgd, hw.hgb]
    exact throughGen_ok hw.hagn hm
  · refine congrArg Host.Outcome.next (gen_retires h hk (by simp [agSubListed]) (by simp [agPairsEven, hd, hb]) fun w hw => ?_)
    simp only [evalM, hw.hop, opFmac2a, hw.hgd, hw.hgb]
    exact throughGen_ok hw.hagn hm
  · exact load _ (by decide) (fun _ => hd) fun w hw => by
      simp only [opMld, hw.hsub, hw.hbit, hw.hgd]
      exact throughGen_ok hw.hagn hm
  · intro br bi mr mi
    refine congrArg Host.Outcome.next (gen_retires h hk (by simp [agSubListed]) (by simp [agPairsEven, hd, hb]) fun w hw => ?_)
    simp only [evalM, hw.hop, opCmula, hw.hgd, hw.hgb]
    exact throughGen_ok hw.hagn hm
  · intro m ha hal hw
    refine congrArg Host.Outcome.next (gen_retires h hk (by simp [agSubListed]; omega) ⟨fun _ h3 => hd (by bv_omega), by simp⟩
      fun w hf => ?_)
    have hsub : sub.toNat % 4 = sub.toNat := Nat.mod_eq_of_lt (by omega)
    have hlen : m.length = 2 ^ sub.toNat := by
      have : 2 ^ sub.toNat ≤ 2 ^ 3 := Nat.pow_le_pow_right (by omega) hs
      simp [m]
      omega
    simp only [evalM, hf.hop, opMst, hf.hgd, hf.hagn, hf.hsub, hsub, genAddr]
    exact congrArg (Except.map _) (dataStore_ok hlen ha hal hw)

end

section
/-! PROOFS. Loads, stores and the data stack (R198, R203, R206, R208, R211-R213, R234, R235). -/

namespace Sys2Proof.Machine

section Addressed
variable {s : State} {b : Issue} {x : Ctx} {op : Nat} {gd ga gb : BitVec 6} {l : List Act}

/-- An opcode with an address ga + i sees gd and the address (R234). -/
theorem at_ga_retires (e : Ctx → Word → Option (BitVec 28) → Eff) {imm : BitVec 10} (h : Alone s b x) (hf : fitsX b.x 22)
    (hop : op < 64) (hfmt : format 3 op = some .rri) (hp : op ∈ pairLoads → gd.toNat % 2 = 0)
    (hev : ∀ w, sylOp w = op → evalL x w b.x = e x w b.x)
    (hl : ∀ w, sylGd w = gd.toNat → addrOf x w b.x = (x.reg ga.toNat + extended b.x true imm).toNat → e x w b.x = .ok l) :
    deliverSyl b (encRRI 3 op gd ga imm) s = retire x (sylWords b.x) l s :=
  memory_rri_retires h hf hop hfmt hp fun w ho hgd hga hi => (hev w ho).trans (hl w hgd (addrOf_eq hga hi))

/-- An opcode with an address inst + i sees gd and the address (R234). -/
theorem at_inst_retires (e : Ctx → Word → Option (BitVec 28) → Eff) {imm : BitVec 16} (h : Alone s b x) (hf : fitsX b.x 16)
    (hop : op < 64) (hfmt : format 3 op = some .ri) (hp : op ∈ pairLoads → gd.toNat % 2 = 0)
    (hev : ∀ w, sylOp w = op → evalL x w b.x = e x w b.x)
    (hl : ∀ w, sylGd w = gd.toNat → instRI x w b.x = (x.b.inst + extended b.x false imm).toNat → e x w b.x = .ok l) :
    deliverSyl b (encRI 3 op gd imm) s = retire x (sylWords b.x) l s :=
  memory_ri_retires h hf hop hfmt hp fun w ho hgd hi => (hev w ho).trans (hl w hgd (by rw [instRI, hi]))

end Addressed

/-- A store whose checks pass is its bytes in the data window alone (R203, R208). -/
theorem store_ok {x : Ctx} {a len : Nat} {m : Bytes} (hm : m.length = len)
    (h : inData a = true ∧ a % len = 0 ∧ x.dataWriteCheck a len = none) : x.store a m = .ok [.data a m] := by
  obtain ⟨hd, ha, hw⟩ := h
  simp [Ctx.store, hm, hd, ha, hw]

/-! ### The data stack (R211-R213) -/

section Stack
variable {x : Ctx} {v : Word} {k : Stk Word}

theorem pushData_room (h : k.top.length < 64) : x.pushData v k = .ok { k with top := v :: k.top } := by
  rw [Ctx.pushData, if_pos h]

/-- With 64 entries on die the 16 oldest go to the spill area before the push (R212, R213). -/
theorem pushData_spills (h : k.top.length = 64) (hs : 4 * (k.spilled + 16) ≤ x.st.dataSpillLen) :
    x.pushData v k = .ok
      { top := v :: k.top.take 48, spilled := k.spilled + 16
        acts := k.acts ++ (List.range 16).map fun i =>
          .spill (x.st.dataSpill + 4 * (k.spilled + i)) ((k.top.drop 48).reverse.getD i 0#32)
        stall := k.stall + 8 } := by
  rw [Ctx.pushData, if_neg (by omega), if_neg (by omega)]

theorem popData_cons {r : List Word} (h : k.top = v :: r) : x.popData k = .ok (v, { k with top := r }) := by
  simp only [Ctx.popData, h]

end Stack

end Sys2Proof.Machine

open Sys2Proof Sys2Proof.Machine

/-- Settles O10: each opcode's definition on the bytes that its access answers. -/
theorem loadResults : Obligations.LoadResults := by
  intro s b x gd ga imm imm16 h a n result word ai low high g
  refine ⟨fun hf => ⟨fun m hm => ⟨?_, ?_⟩, fun m hm => ⟨?_, ?_⟩, fun m hm => ?_, fun m hd hm => ?_, fun m hm => ⟨?_, ?_⟩,
    fun m hm => ⟨?_, ?_⟩, fun m hm => ?_, fun m hd hm => ?_⟩, fun hf => ⟨fun m hm => ?_, fun m hd hm => ?_⟩⟩ <;>
    refine congrArg Host.Outcome.next ?_
  · exact at_ga_retires opLdb h hf (by omega) rfl (by simp [pairLoads]) (fun w ho => by simp only [evalL, ho])
      fun w hgd ha => by rw [opLdb, ha, hm, intoReg, hgd]; rfl
  · exact at_ga_retires opLdbu h hf (by omega) rfl (by simp [pairLoads]) (fun w ho => by simp only [evalL, ho])
      fun w hgd ha => by rw [opLdbu, ha, hm, intoReg, hgd]; rfl
  · exact at_ga_retires opLdh h hf (by omega) rfl (by simp [pairLoads]) (fun w ho => by simp only [evalL, ho])
      fun w hgd ha => by rw [opLdh, ha, hm, intoReg, hgd]; rfl
  · exact at_ga_retires opLdhu h hf (by omega) rfl (by simp [pairLoads]) (fun w ho => by simp only [evalL, ho])
      fun w hgd ha => by rw [opLdhu, ha, hm, intoReg, hgd]; rfl
  · exact at_ga_retires opLdw h hf (by omega) rfl (by simp [pairLoads]) (fun w ho => by simp only [evalL, ho])
      fun w hgd ha => by rw [opLdw, ha, hm, intoReg, hgd]; rfl
  · exact at_ga_retires opLdd h hf (by omega) rfl (fun _ => hd) (fun w ho => by simp only [evalL, ho])
      fun w hgd ha => by rw [opLdd, ha, hm, intoPair, hgd]; rfl
  · exact at_ga_retires opTldb h hf (by omega) rfl (by simp [pairLoads]) (fun w ho => by simp only [evalL, ho])
      fun w hgd ha => by rw [opTldb, ha, hm, intoReg, hgd]; rfl
  · exact at_ga_retires opTldbu h hf (by omega) rfl (by simp [pairLoads]) (fun w ho => by simp only [evalL, ho])
      fun w hgd ha => by rw [opTldbu, ha, hm, intoReg, hgd]; rfl
  · exact at_ga_retires opTldh h hf (by omega) rfl (by simp [pairLoads]) (fun w ho => by simp only [evalL, ho])
      fun w hgd ha => by rw [opTldh, ha, hm, intoReg, hgd]; rfl
  · exact at_ga_retires opTldhu h hf (by omega) rfl (by simp [pairLoads]) (fun w ho => by simp only [evalL, ho])
      fun w hgd ha => by rw [opTldhu, ha, hm, intoReg, hgd]; rfl
  · exact at_ga_retires opTldw h hf (by omega) rfl (by simp [pairLoads]) (fun w ho => by simp only [evalL, ho])
      fun w hgd ha => by rw [opTldw, ha, hm, intoReg, hgd]; rfl
  · exact at_ga_retires opTldd h hf (by omega) rfl (fun _ => hd) (fun w ho => by simp only [evalL, ho])
      fun w hgd ha => by rw [opTldd, ha, hm, intoPair, hgd]; rfl
  · exact at_inst_retires opLdwi h hf (by omega) rfl (by simp [pairLoads]) (fun w ho => by simp only [evalL, ho])
      fun w hgd ha => by rw [opLdwi, ha, hm, intoReg, hgd]; rfl
  · exact at_inst_retires opLddi h hf (by omega) rfl (fun _ => hd) (fun w ho => by simp only [evalL, ho])
      fun w hgd ha => by rw [opLddi, ha, hm, intoPair, hgd]; rfl

/-- Settles O11: the checks of R203 pass, and the bytes go to the data window. -/
theorem storeResults : Obligations.StoreResults := by
  intro s b x gd ga imm imm16 h a n result ai four eight free
  have hfour : four.length = 4 := length_leBytes 4 _
  have height : eight.length = 8 := by simp [eight, hfour]
  refine ⟨fun hf => ⟨fun hc => ?_, fun hc => ?_, fun hc => ?_, fun hd hc => ?_⟩, fun hf => ⟨fun hc => ?_, fun hd hc => ?_⟩⟩ <;>
    refine congrArg Host.Outcome.next ?_
  · exact at_ga_retires opStb h hf (by omega) rfl (by simp [pairLoads]) (fun w ho => by simp only [evalL, ho]) fun w hgd ha => by
      rw [opStb, ha, gdBytes, hgd]; exact store_ok (by simp) hc
  · exact at_ga_retires opSth h hf (by omega) rfl (by simp [pairLoads]) (fun w ho => by simp only [evalL, ho]) fun w hgd ha => by
      rw [opSth, ha, gdBytes, hgd]; exact store_ok (by simp) hc
  · exact at_ga_retires opStw h hf (by omega) rfl (by simp [pairLoads]) (fun w ho => by simp only [evalL, ho]) fun w hgd ha => by
      rw [opStw, ha, gdBytes, hgd, List.take_of_length_le (by simp)]; exact store_ok hfour hc
  · exact at_ga_retires opStd h hf (by omega) rfl (fun _ => hd) (fun w ho => by simp only [evalL, ho]) fun w hgd ha => by
      rw [opStd, ha, pairBytes, gdBytes, hgd]; exact store_ok height hc
  · exact at_inst_retires opStwi h hf (by omega) rfl (by simp [pairLoads]) (fun w ho => by simp only [evalL, ho])
      fun w hgd ha => by rw [opStwi, ha, gdBytes, hgd]; exact dataStore_ok hfour hc.1 hc.2.1 hc.2.2
  · exact at_inst_retires opStdi h hf (by omega) rfl (fun _ => hd) (fun w ho => by simp only [evalL, ho])
      fun w hgd ha => by rw [opStdi, ha, pairBytes, gdBytes, hgd]; exact dataStore_ok height hc.1 hc.2.1 hc.2.2

/-- Settles O12: the stack's rules for a push with and without room and for a pop of an entry on die. -/
theorem dataStackResults : Obligations.DataStackResults := by
  intro s b x gd ga gb h hk u v result
  refine ⟨fun hl => ?_, fun hl hd => ?_, fun p r hp => ?_, fun p q r hp hd => ?_, fun hl hs => ?_⟩ <;>
    refine congrArg Host.Outcome.next ?_
  · refine stack_retires h hk (by omega) (by simp [pairLoads]) fun w ho hgd => ?_
    simp only [evalL, ho, opPush, hgd]
    rw [pushData_room hl]
    rfl
  · refine stack_retires h hk (by omega) (fun _ => hd) fun w ho hgd => ?_
    simp only [evalL, ho, opPushd, hgd]
    rw [pushData_room (by simp; omega)]
    simp only
    rw [pushData_room (by simp; omega)]
    rfl
  · refine stack_retires h hk (by omega) (by simp [pairLoads]) fun w ho hgd => ?_
    simp only [evalL, ho, opPop, hgd]
    rw [popData_cons hp]
    rfl
  · refine stack_retires h hk (by omega) (fun _ => hd) fun w ho hgd => ?_
    simp only [evalL, ho, opPopd, hgd]
    rw [popData_cons hp]
    simp only
    rw [popData_cons rfl]
    rfl
  · refine stack_retires h hk (by omega) (by simp [pairLoads]) fun w ho hgd => ?_
    simp only [evalL, ho, opPush, hgd]
    rw [pushData_spills hl hs]
    rfl

end

section
/-! PROOFS. Branches, loops, jumps, calls and returns (R196, R198, R211, R237-R239). -/

namespace Sys2Proof.Machine

/-- No opcode of the C class names a pair. -/
theorem pairPositions_control {w : Word} (h : sylClass w = 4) : pairPositions w = [] := by
  unfold pairPositions
  split
  · rfl
  · split <;> simp_all

section Control
variable {s : State} {b : Issue} {x : Ctx} {op : Nat} {gd ga gb : BitVec 6} {l : List Act}

/-- An opcode of the C class with an immediate. -/
theorem control_ri_retires {imm : BitVec 16} (h : Alone s b x) (hf : fitsX b.x 16) (hop : op ∈ [0, 1, 2, 4, 6, 0x10, 0x11, 0x12])
    (hl : ∀ w, sylOp w = op → sylGd w = gd.toNat → (∀ sext, immRI w b.x sext = extended b.x sext imm) →
      evalC x (x.b.pc + 4#32 * BitVec.ofNat 32 (sylWords b.x)) w b.x = .ok l) :
    deliverSyl b (encRI 4 op gd imm) s = retire x (sylWords b.x) l s := by
  have hlt : op < 64 := by simp at hop; omega
  refine ri_retires h hf (by omega) hlt ?_ (by simp [pairPositions_control]) hl
  simp at hop
  simp only [format]
  rw [if_pos (by omega)]

/-- An opcode of the C class on registers. -/
theorem control_rrr_retires (h : Alone s b x) (hk : b.x = none) (hop : op ∈ [3, 5, 7, 8, 9, 0xA])
    (hl : ∀ w, FieldsRRR w op gd ga gb 0#4 → evalC x (x.b.pc + 4#32) w none = .ok l) :
    deliverSyl b (encRRR 4 op gd ga gb 0#4) s = retire x 1 l s := by
  have hlt : op < 64 := by simp at hop; omega
  have hfmt : format 4 op = some .rrr := by
    simp at hop
    simp only [format]
    rw [if_neg (by omega), if_pos (by omega)]
  refine rrr_retires h hk (by omega) hlt hfmt ?_ (by simp [pairPositions_control]) hl
  simp [subListed, Nat.mod_eq_of_lt hlt, hfmt]

end Control

section ReturnStack
variable {x : Ctx} {p : Word × Word}

theorem pushRet_room (h : x.b.rs.length < 64) : x.pushRet p = .ok { top := p :: x.b.rs, spilled := x.b.rsSpilled } := by
  rw [Ctx.pushRet, if_pos h]

theorem popRet_cons {r : List (Word × Word)} (h : x.b.rs = p :: r) : x.popRet = .ok (p, { top := r, spilled := x.b.rsSpilled }) := by
  simp only [Ctx.popRet, h]

/-- A call with room on the return stack pushes the next bundle's address with inst (R237). -/
theorem withCall_room {next : Word} {f : List Act → Eff} (h : x.b.rs.length < 64) :
    withCall x next f = f [.retStack ((next, x.b.inst) :: x.b.rs) x.b.rsSpilled, .stall 0] := by
  rw [withCall, pushRet_room h]
  rfl

theorem jumpTo_aligned {pc : Word} {l : List Act} (h : pc.toNat % 4 = 0) : jumpTo pc l = .ok (l ++ taken pc) := by
  rw [jumpTo, if_neg (by omega)]

end ReturnStack

end Sys2Proof.Machine

open Sys2Proof Sys2Proof.Machine

/-- Settles O15: the definitions of the opcodes, with the return stack's rules for a call with room and for a return on die. -/
theorem controlFlowResults : Obligations.ControlFlowResults := by
  intro s b x gd ga gb imm h d u n next goal go push result
  refine ⟨fun hf => ?_, fun hk => ?_⟩
  · have ht {w : Word} (hi : ∀ sext, immRI w b.x sext = extended b.x sext imm) : target x w b.x = goal := by rw [target, hi]
    refine ⟨?_, ?_, ?_, fun hr => ⟨?_, ?_⟩⟩ <;> refine congrArg Host.Outcome.next ?_ <;>
      refine control_ri_retires h hf (by simp) fun w ho hgd hi => ?_
    · simp only [evalC, ho, opBnz, hgd, ht hi, truth, decide_eq_true_eq]
      exact (apply_ite Except.ok _ _ _).symm
    · simp only [evalC, ho, opBz, hgd, ht hi, truth, decide_eq_true_eq]
      by_cases hd : x.reg gd.toNat = 0#32 <;> simp [hd, d, go, taken]
    · simp only [evalC, ho, opLoop, hgd, ht hi, truth, decide_eq_true_eq]
      rfl
    · simp only [evalC, ho, opCall, withCall_room hr, ht hi]
      rfl
    · simp only [evalC, ho, opFbcall, withCall_room hr, ht hi, hgd]
      rfl
  have hn : n = 1 := by simp [n, sylWords, hk]
  have hnext : next = x.b.pc + 4#32 := by simp [next, hn]
  simp only [result, push, hn, hnext]
  refine ⟨?_, ?_, fun hu => ⟨?_, fun hr => ⟨?_, ?_⟩⟩, fun p i r hrs hp => ?_⟩ <;>
    refine congrArg Host.Outcome.next ?_ <;> refine control_rrr_retires h hk (by simp) fun w hw => ?_
  · simp only [evalC, hw.hop, opInstset, hw.hga]; rfl
  · simp only [evalC, hw.hop, opInstget, hw.hgd]; rfl
  · simp only [evalC, hw.hop, opJmpr, hw.hga, jumpTo_aligned (pc := x.reg ga.toNat) hu]; rfl
  · simp only [evalC, hw.hop, opCallr, hw.hga, jumpTo_aligned (pc := x.reg ga.toNat) hu, withCall_room hr]; rfl
  · simp only [evalC, hw.hop, opFbcallr, hw.hga, hw.hgb, jumpTo_aligned (pc := x.reg ga.toNat) hu, withCall_room hr]; rfl
  · simp only [evalC, hw.hop, opRet, popRet_cons hrs, jumpTo_aligned hp]; rfl

end

section
/-! PROOFS. Traps that enter a handler, and the operations that the system library emulates (R194, R198, R209, R217-R221, R230,
R250). -/

namespace Sys2Proof.Machine

/-- The issue of a bundle uses the engine's debug step up (R512). -/
def issued (x : Ctx) (s : State) : State := { s with eng.step := s.eng.step &&& ~~~(1#16 <<< x.e) }

theorem context_state {s : State} {e c : Nat} {x : Ctx} (h : context s e c = some x) : x.s = s := by
  simp only [context] at h
  split at h
  · cases h
  · split at h
    · cases h
    · obtain ⟨st, -, rfl⟩ := Option.map_eq_some_iff.mp h
      rfl

theorem isX_of_emulated {w : Word} (he : emulated w = true) : isX w = false := by
  unfold emulated at he
  revert he
  cases isX w <;> simp

/-- An emulated syllable forms a bundle with its X (R195 rule 7). -/
theorem breaks_emulated_ext {w : Word} {v : BitVec 28} (he : emulated w = true) :
    breaksRule [w, 0xD0000000#32 ||| v.setWidth 32] false = none := by
  have hx := isX_of_emulated he
  obtain ⟨hX, -⟩ := x_fields v
  have ht : takesX w = true := by simp [takesX, he]
  have heX : emulated (0xD0000000#32 ||| v.setWidth 32) = false := by simp [emulated, hX]
  have hp : pairPositions w = [] := by simp [pairPositions, he]
  have hpX : pairPositions (0xD0000000#32 ||| v.setWidth 32) = [] := by simp [pairPositions, hX]
  have hw : writesRegs w = [] := by simp [writesRegs, he]
  have hwX : writesRegs (0xD0000000#32 ||| v.setWidth 32) = [] := by simp [writesRegs, hX]
  have h1 : breaks1 [w, 0xD0000000#32 ||| v.setWidth 32] 0 0 0 = none := by simp [breaks1, he, hX]
  have h2 : breaks2 [w, 0xD0000000#32 ||| v.setWidth 32] 0 false 0 = none := by simp [breaks2, hx, hX, ht]
  have h4 : breaks4 [w, 0xD0000000#32 ||| v.setWidth 32] 0 = none := by simp [breaks4, he]
  have h5 : breaks5 [w, 0xD0000000#32 ||| v.setWidth 32] 0 [] = none := by simp [breaks5, hw, hwX]
  have h6 : breaks6 [w, 0xD0000000#32 ||| v.setWidth 32] = none := by simp [breaks6, List.findIdx?_cons, hp, hpX]
  have h7 : breaks7 [w, 0xD0000000#32 ||| v.setWidth 32] = none := by
    simp [breaks7, List.findIdx?_cons, he, List.range_succ, hX]
  simp [breaksRule, h1, h2, h4, h5, h6, h7]

section Traps
variable {s : State} {b : Issue} {x : Ctx} {w v : Word} {t : Trp}

/-- The X that stands behind a delivered syllable (R193). -/
theorem xAt_delivered (hs : b.stop = true) (hx : isX w = false) :
    xAt (delivered b w) 0 = b.x.map fun v => 0xD0000000#32 ||| v.setWidth 32 := by
  cases hk : b.x with
  | none => simp [delivered, hk, xAt]
  | some v => simp [delivered, hk, hs, xAt, hx, (x_fields v).1]

theorem length_delivered (b : Issue) (w : Word) : (delivered b w).length = sylWords b.x := by
  unfold delivered
  cases b.x <;> rfl

/-- The syllable as it stands in its bundle, with STOP where no X follows. -/
def standing (b : Issue) (w : Word) : Word := if b.x.isSome then w else w ||| 0x80000000#32

theorem getD_delivered (hs : b.stop = true) : (delivered b w).getD 0 0#32 = standing b w := by
  cases hk : b.x <;> simp [delivered, standing, hk, hs]

/-- A syllable that is alone in its bundle and traps: the trap is taken at slot 0 (R201, R217). -/
theorem trap_taken (h : Alone s b x) (hx : isX w = false) (hb : breaksRule (delivered b w) false = none)
    (hl : evalSyl x (x.b.pc + 4#32 * BitVec.ofNat 32 (sylWords b.x)) (standing b w) b.x = .error t) :
    deliverSyl b w s = takeTrap x (x.b.pc + 4#32 * BitVec.ofNat 32 (sylWords b.x)) t 0 (delivered b w)
      (issued x s) := by
  have hk : (xAt (delivered b w) 0).map sylX = b.x := by
    rw [xAt_delivered h.stop hx, Option.map_map]
    cases b.x <;> simp [(x_fields _).2]
  have hd : ∃ r, delivered b w = standing b w :: r := by
    cases hk : b.x <;> simp [delivered, standing, hk, h.stop]
  have hall : evalAll x (x.b.pc + 4#32 * BitVec.ofNat 32 (sylWords b.x)) (delivered b w) 0 (delivered b w) = .error (t, 0) := by
    obtain ⟨r, hr⟩ := hd
    generalize delivered b w = ws at hk hr
    rw [hr] at hk ⊢
    simp only [evalAll, hk, hl]
  rw [deliver_alone h]
  simp [issueBundle, h.clean, hb, length_delivered, hall, issued]

/-- The same for a syllable that its unit evaluates, without an X or in a format that takes one. -/
theorem evaluated_trap_taken (h : Alone s b x) (hx : isX w = false) (he : emulated w = false)
    (hp : ((pairPositions w).any fun g => decide (g % 2 = 1)) = false)
    (ht : ∀ v, b.x = some v → takesX w = true ∧ highOf w v.toNat = 0)
    (hl : evalSyl x (x.b.pc + 4#32 * BitVec.ofNat 32 (sylWords b.x)) (standing b w) b.x = .error t) :
    deliverSyl b w s = takeTrap x (x.b.pc + 4#32 * BitVec.ofNat 32 (sylWords b.x)) t 0 (delivered b w)
      (issued x s) := by
  refine trap_taken h hx ?_ hl
  cases hk : b.x with
  | none =>
    rw [show delivered b w = [w ||| 0x80000000#32] by simp [delivered, hk, h.stop]]
    exact breaks_single (by simpa using hx) (by simpa using he) (by simpa using hp)
  | some v =>
    rw [show delivered b w = [w, 0xD0000000#32 ||| v.setWidth 32] by simp [delivered, hk, h.stop]]
    exact breaks_ext hx he (ht v hk).1 hp (ht v hk).2

/-- An emulated syllable traps with EMULATE (R194). -/
theorem emulated_trap_taken (h : Alone s b x) (he : emulated w = true) :
    deliverSyl b w s = takeTrap x (x.b.pc + 4#32 * BitVec.ofNat 32 (sylWords b.x)) (1, emulateSub w) 0 (delivered b w)
      (issued x s) := by
  have hx := isX_of_emulated he
  refine trap_taken h hx ?_ ?_
  · cases hk : b.x with
    | none =>
      rw [show delivered b w = [w ||| 0x80000000#32] by simp [delivered, hk, h.stop]]
      exact breaks_emulated (by simpa using he)
    | some v =>
      rw [show delivered b w = [w, 0xD0000000#32 ||| v.setWidth 32] by simp [delivered, hk, h.stop]]
      exact breaks_emulated_ext he
  · cases hk : b.x <;> simp [standing, hk, evalSyl, hx, he, emulateSub]

/-- The vector of a resumable cause, as a word of the root block in force (R161, R219, R275). -/
theorem vectorOf_eq {cause : Nat} (hc : 1 ≤ cause ∧ cause ≤ 3) :
    vectorOf x cause = Memory.readWord (x.s.region x.region).code (x.root + 4 * cause) := by
  have hbyte (k : Nat) (hk : k < 4) : codeByte (x.s.region x.region) x.root (0x100 + 4 * cause + k)
      = Memory.readByte (x.s.region x.region).code (x.root + 4 * cause + k) := by
    have hlo : ¬ 0x100 + 4 * cause + k < 0x100 := by omega
    have hhi : 0x100 + 4 * cause + k < 0x140 := by omega
    have hoff : x.root + (0x100 + 4 * cause + k - 0x100) = x.root + 4 * cause + k := by omega
    simp only [codeByte, hlo, hhi, if_false, if_true, hoff]
  have hbytes : ((List.range 4).map fun k => codeByte (x.s.region x.region) x.root (0x100 + 4 * cause + k))
      = Memory.readBytes (x.s.region x.region).code (x.root + 4 * cause) 4 := by
    rw [List.map_congr_left fun k hk => hbyte k (List.mem_range.mp hk)]
    rfl
  rw [vectorOf, if_pos hc, hbytes]
  rfl

/-- With a vector and room on the return stack the handler is entered, where it is not one of the library's two (R220). -/
theorem takeTrap_enters {next : Word} {ws : List Word} (hv : vectorOf x t.1 = v) (h0 : v ≠ 0#32) (hr : x.b.rs.length < 64)
    (hlib : t.1 = 1 → v ≠ (prog s).sysLibVec) (hdiv : t.1 = 3 → v ≠ (prog s).sysLibDiv) :
    takeTrap x next t 0 ws s = applyActs { x with b := trapWords t 0 ws x.b } next
      [.retStack ((next, x.b.inst) :: x.b.rs) x.b.rsSpilled, .stall 0, .jump v, .stall 6] s := by
  simp only [takeTrap, hv, if_neg h0, pushRet_room hr]
  rw [if_neg fun hc => hlib hc.1 hc.2.2, if_neg fun hc => hdiv hc.1 hc.2]
  rfl

/-- Where the vector of EMULATE is the library's dispatcher, FDIV and FSQRT take their effect (R250). -/
theorem takeTrap_library {next : Word} {ws : List Word} {sub : Nat} (hv : vectorOf x 1 = v) (h0 : v ≠ 0#32)
    (hr : x.b.rs.length < 64) (hw : ws.getD 0 0#32 = w) (hlib : libraryOp w = true) (hvec : v = (prog s).sysLibVec) :
    takeTrap x next (1, sub) 0 ws s
      = applyActs { x with b := trapWords (1, sub) 0 ws x.b } next (libraryActs x w) s := by
  simp only [takeTrap, hv, if_neg h0, pushRet_room hr, hw]
  simp [hlib, ← hvec]

/-- Where the vector of DIV_ZERO is the library's handler, gd takes the value that the image names (R221, R230). -/
theorem takeTrap_divZero {next : Word} {ws : List Word} {sub : Nat} (hv : vectorOf x 3 = v) (h0 : v ≠ 0#32)
    (hr : x.b.rs.length < 64) (hw : ws.getD 0 0#32 = w) (hvec : v = (prog s).sysLibDiv) :
    takeTrap x next (3, sub) 0 ws s = applyActs { x with b := trapWords (3, sub) 0 ws x.b } next
      [.reg (sylGd w) (divZeroValue x w) 1, .stall 6] s := by
  simp only [takeTrap, hv, if_neg h0, pushRet_room hr, hw]
  simp [← hvec]

/-- The four trap words of a trap at slot 0 (R209, R220). -/
theorem trapWords_delivered (hs : b.stop = true) (hx : isX w = false) :
    trapWords t 0 (delivered b w) x.b = { x.b with
      trapCause := BitVec.ofNat 32 (t.1 + 256 * t.2), trapAddr := x.b.pc, trapSyl := standing b w
      trapX := match b.x with
        | some y => 0xD0000000#32 ||| y.setWidth 32
        | none => 0#32
      bundle := [], chk := .ok, chkSlot := 0 } := by
  have hX : (xAt (delivered b w) 0).getD 0#32 = match b.x with
      | some y => 0xD0000000#32 ||| y.setWidth 32
      | none => 0#32 := by
    rw [xAt_delivered hs hx]
    cases b.x <;> rfl
  simp only [trapWords, getD_delivered hs, hX, causeWord]
  rfl

end Traps

/-! ### The syllables that trap -/

/-- FDIV and FSQRT are reserved encodings on step B1 (R194, R250). -/
theorem emulated_library {op : Nat} (hop : op = 0x1A ∨ op = 0x1B) (gd ga gb : BitVec 6) (sub : BitVec 4) :
    emulated (encRRR 2 op gd ga gb sub) = true ∧ emulateSub (encRRR 2 op gd ga gb sub) = 0 := by
  obtain rfl | rfl := hop <;> simp [emulated, emulateSub, isX, format]

section Division
variable {s : State} {b : Issue} {x : Ctx} {op : Nat} {gd ga gb : BitVec 6}

/-- A division by zero traps with DIV_ZERO (R230). -/
theorem division_trap_taken (h : Alone s b x) (hk : b.x = none) (hop : 0x28 ≤ op ∧ op ≤ 0x2B) (hz : x.reg gb.toNat = 0#32) :
    deliverSyl b (encRRR 1 op gd ga gb 0#4) s = takeTrap x (x.b.pc + 4#32 * BitVec.ofNat 32 (sylWords b.x)) (3, 0) 0
      (delivered b (encRRR 1 op gd ga gb 0#4)) (issued x s) := by
  have hx : isX (encRRR 1 op gd ga gb 0#4) = false := by simp [isX]
  have he : emulated (encRRR 1 op gd ga gb 0#4) = false := by
    obtain ⟨_, _⟩ := hop
    interval_cases op <;> simp [emulated, isX, format, subListed]
  have hp : pairPositions (encRRR 1 op gd ga gb 0#4) = [] := by
    obtain ⟨_, _⟩ := hop
    interval_cases op <;> simp [pairPositions, he, hx]
  refine evaluated_trap_taken h hx he (by simp [hp]) (fun v hv => by simp [hk] at hv) ?_
  have hst : standing b (encRRR 1 op gd ga gb 0#4) = encRRR 1 op gd ga gb 0#4 ||| 0x80000000#32 := by simp [standing, hk]
  have hdiv (f : Word → Word → Word) : divide x (encRRR 1 op gd ga gb 0#4 ||| 0x80000000#32) f = .error (3, 0) := by
    simp [divide, hz]
  rw [hst, evalSyl_eq_evalUnit (by simpa using hx) (by simpa using he)]
  simp only [sylClass_stop, sylClass_encRRR, evalUnit]
  obtain ⟨_, _⟩ := hop
  interval_cases op <;> simp [evalA, opDiv, opDivu, opRem, opRemu, hdiv]

end Division

/-- TRAP n traps with SOFT (R237). -/
theorem soft_trap_taken {s : State} {b : Issue} {x : Ctx} {gd : BitVec 6} {imm : BitVec 16} (h : Alone s b x)
    (hf : fitsX b.x 16) : deliverSyl b (encRI 4 0x12 gd imm) s = takeTrap x (x.b.pc + 4#32 * BitVec.ofNat 32 (sylWords b.x))
      (2, (extended b.x false imm).toNat % 256) 0 (delivered b (encRI 4 0x12 gd imm))
      (issued x s) := by
  have hx : isX (encRI 4 0x12 gd imm) = false := by simp [isX]
  have he : emulated (encRI 4 0x12 gd imm) = false := by simp [emulated, isX, format, subListed]
  refine evaluated_trap_taken h hx he (by simp [pairPositions_control]) (fun v hv => ⟨by simp [takesX, isX, format], ?_⟩) ?_
  · simpa [highOf, format] using Nat.div_eq_of_lt (hf v hv)
  · have hev (w : Word) (hw : w = encRI 4 0x12 gd imm ∨ w = encRI 4 0x12 gd imm ||| 0x80000000#32) :
        evalSyl x (x.b.pc + 4#32 * BitVec.ofNat 32 (sylWords b.x)) w b.x = .error (2, (extended b.x false imm).toNat % 256) := by
      rw [evalSyl_eq_evalUnit (by rcases hw with rfl | rfl <;> simpa using hx) (by rcases hw with rfl | rfl <;> simpa using he)]
      rcases hw with rfl | rfl <;> simp [evalUnit, evalC, opTrap]
    refine hev _ ?_
    cases hk : b.x <;> simp [standing, hk]

/-- The word that is delivered for an emulated syllable is the one with these fields (R190). -/
theorem emulated_word (cls : BitVec 3) (op : BitVec 6) (rest : BitVec 22) :
    (0#1 ++ cls ++ op ++ rest).setWidth 32 = encSyl cls.toNat op.toNat (rest.extractLsb' 16 6) (rest.extractLsb' 0 16) := by
  apply BitVec.eq_of_getLsbD_eq
  intro i hi
  simp only [encSyl, BitVec.getLsbD_append, BitVec.getLsbD_extractLsb', BitVec.ofNat_toNat,
    BitVec.setWidth_eq]
  interval_cases i <;> simp

/-- The effect that the library gives FDIV and FSQRT (R250). -/
theorem libraryActs_eq {x : Ctx} {op : Nat} (hop : op = 0x1A ∨ op = 0x1B) (gd ga gb : BitVec 6) :
    libraryActs x (encRRR 2 op gd ga gb 0#4 ||| 0x80000000#32)
      = if op = 0x1A then [.reg gd.toNat (fDiv (x.reg ga.toNat) (x.reg gb.toNat)) 2, .stall 57]
        else [.reg gd.toNat (fSqrt (x.reg ga.toNat)) 2, .stall 65] := by
  obtain rfl | rfl := hop <;> simp [libraryActs, opFdiv, opFsqrt, mac2, Eff.reg, emulCycles]

end Sys2Proof.Machine

open Sys2Proof Sys2Proof.Machine

/-- Settles O16: the trap is taken at slot 0 of the bundle, and its vector says which of the three ends it has. -/
theorem resumableTrapEntry : Obligations.ResumableTrapEntry := by
  intro s b x gd ga gb imm cls op rest v h hr h0 r root n syl ext held entered
  have hs : x.s = s := context_state h.ctx
  have hvec {cause : Nat} (hc : 1 ≤ cause ∧ cause ≤ 3) (hroot : root cause) : vectorOf x cause = v := by
    rw [vectorOf_eq hc, Ctx.root, hs]
    exact hroot
  have hheld {w : Word} (cause sub : Nat) (hx : isX w = false) :
      { x with b := trapWords (cause, sub) 0 (delivered b w) x.b } = held cause sub w := by
    rw [trapWords_delivered h.stop hx]
    rfl
  have enters {w : Word} {cause sub : Nat} (hx : isX w = false) (hc : 1 ≤ cause ∧ cause ≤ 3) (hroot : root cause)
      (hlib : cause = 1 → v ≠ (prog s).sysLibVec) (hdiv : cause = 3 → v ≠ (prog s).sysLibDiv)
      (ht : deliverSyl b w s = takeTrap x (x.b.pc + 4#32 * BitVec.ofNat 32 n) (cause, sub) 0 (delivered b w)
        (issued x s)) :
      Host.Outcome.next (deliverSyl b w s) = entered cause sub w := by
    rw [ht, takeTrap_enters (s := issued x s) (hvec hc hroot) h0 hr hlib hdiv, hheld cause sub hx]
    rfl
  have library {op : Nat} (hop : op = 0x1A ∨ op = 0x1B) (hroot : root 1) (hlib : v = (prog s).sysLibVec) (hk : b.x = none) :
      (Host.Outcome.next (deliverSyl b (encRRR 2 op gd ga gb 0#4) s) : Result State)
        = .next (retire (held 1 0 (encRRR 2 op gd ga gb 0#4)) n
          (if op = 0x1A then [.reg gd.toNat (fDiv (x.reg ga.toNat) (x.reg gb.toNat)) 2, .stall 57]
            else [.reg gd.toNat (fSqrt (x.reg ga.toNat)) 2, .stall 65]) s) := by
    obtain ⟨he, hsub⟩ := emulated_library hop gd ga gb 0#4
    have hst : standing b (encRRR 2 op gd ga gb 0#4) = encRRR 2 op gd ga gb 0#4 ||| 0x80000000#32 := by simp [standing, hk]
    have hop' : libraryOp (encRRR 2 op gd ga gb 0#4 ||| 0x80000000#32) = true := by
      obtain rfl | rfl := hop <;> simp [libraryOp]
    rw [emulated_trap_taken h he, hsub,
      takeTrap_library (s := issued x s) (hvec (by omega) hroot) h0 hr ((getD_delivered h.stop).trans hst) hop' hlib,
      libraryActs_eq hop,
      hheld 1 0 (isX_of_emulated he)]
    rfl
  refine ⟨fun hroot hlib => ⟨?_, ?_, fun he => ?_⟩, fun hroot hlib hk => ⟨?_, ?_⟩, fun hroot hf => ?_,
    fun hroot hdiv hk hz => ⟨?_, ?_, ?_, ?_⟩, fun hroot hdiv hk hz => ?_⟩
  · obtain ⟨he, hsub⟩ := emulated_library (.inl rfl) gd ga gb 0#4
    refine enters (isX_of_emulated he) (by omega) hroot (fun _ => hlib) (by omega) ?_
    rw [emulated_trap_taken h he, hsub]
  · obtain ⟨he, hsub⟩ := emulated_library (.inr rfl) gd ga gb 0#4
    refine enters (isX_of_emulated he) (by omega) hroot (fun _ => hlib) (by omega) ?_
    rw [emulated_trap_taken h he, hsub]
  · exact (congrArg (fun w => Host.Outcome.next (deliverSyl b w s)) (emulated_word cls op rest)).trans
      (enters (isX_of_emulated he) (by omega) hroot (fun _ => hlib) (by omega) (emulated_trap_taken h he))
  · exact library (.inl rfl) hroot hlib hk
  · exact library (.inr rfl) hroot hlib hk
  · refine enters (by simp [isX]) (by omega) hroot (by omega) (by omega) (soft_trap_taken h hf)
  iterate 4
    · exact enters (by simp [isX]) (by omega) hroot (by omega) (fun _ => hdiv) (division_trap_taken h hk (by omega) hz)
  · intro given
    have gives {op : Nat} (hop : 0x28 ≤ op ∧ op ≤ 0x2B) :
        Host.Outcome.next (deliverSyl b (encRRR 1 op gd ga gb 0#4) s)
          = given op (if op = 0x28 ∨ op = 0x29 then 0#32 else x.reg ga.toNat) := by
      have hst : standing b (encRRR 1 op gd ga gb 0#4) = encRRR 1 op gd ga gb 0#4 ||| 0x80000000#32 := by simp [standing, hk]
      rw [division_trap_taken h hk hop hz, takeTrap_divZero (s := issued x s) (hvec (by omega) hroot) h0 hr
        ((getD_delivered h.stop).trans hst) hdiv,
        hheld 3 0 (by simp [isX])]
      simp only [divZeroValue, sylOp_stop, sylOp_encRRR, sylGd_stop, sylGd_encRRR, sylGa_stop, sylGa_encRRR,
        Nat.mod_eq_of_lt (by omega : op < 64)]
      rfl
    exact ⟨gives (by omega), gives (by omega), gives (by omega), gives (by omega)⟩

end

section
/-! PROOFS. What a bundle leaves unchanged and when its results land (R153, R157, R187, R190, R195, R197, R200-R203, R208, R240,
R241). -/

namespace Sys2Proof.Machine

/-! ### Updates of the banks alone -/

/-- Two states differ in their banks at most. -/
def SameButBanks (s t : State) : Prop := ∃ bs, t = { s with eng.banks := bs }

theorem SameButBanks.refl (s : State) : SameButBanks s s := ⟨s.eng.banks, rfl⟩

theorem SameButBanks.trans {s t u : State} (h : SameButBanks s t) (k : SameButBanks t u) : SameButBanks s u := by
  obtain ⟨bs, rfl⟩ := h
  obtain ⟨cs, rfl⟩ := k
  exact ⟨cs, rfl⟩

theorem SameButBanks.foldl {α : Type} {f : State → α → State} (h : ∀ s a, SameButBanks s (f s a)) (l : List α) (s : State) :
    SameButBanks s (l.foldl f s) := by
  induction l generalizing s with
  | nil => exact .refl s
  | cons a l ih => exact (h s a).trans (ih _)

theorem sameButBanks_setBank (s : State) (e c : Nat) (v : Bank) : SameButBanks s (s.setBank e c v) := ⟨_, rfl⟩

theorem sameButBanks_passCycles (e c cost : Nat) (s : State) : SameButBanks s (passCycles e c cost s) := by
  refine .foldl (fun s k => ?_) _ s
  dsimp only
  split
  · exact sameButBanks_setBank ..
  · exact .refl s

theorem sameButBanks_copyPair (e c : Nat) (s : State) : SameButBanks s (copyPair e c s) := by
  unfold copyPair
  split
  · exact sameButBanks_setBank ..
  · exact .refl s

theorem sameButBanks_freeBank (e c : Nat) (s : State) : SameButBanks s (freeBank e c s) := sameButBanks_setBank ..

theorem sameButBanks_freePair (e c : Nat) (s : State) : SameButBanks s (freePair e c s) := by
  unfold freePair
  dsimp only
  split
  · exact (sameButBanks_freeBank ..).trans (sameButBanks_freeBank ..)
  · exact sameButBanks_freeBank ..

section Banks
variable {s t : State}

theorem SameButBanks.task (h : SameButBanks s t) (n : Nat) : t.task n = s.task n := by obtain ⟨bs, rfl⟩ := h; rfl
theorem SameButBanks.region (h : SameButBanks s t) (n : Nat) : t.region n = s.region n := by obtain ⟨bs, rfl⟩ := h; rfl
theorem SameButBanks.img (h : SameButBanks s t) : t.img = s.img := by obtain ⟨bs, rfl⟩ := h; rfl
theorem SameButBanks.fld (h : SameButBanks s t) : t.fld = s.fld := by obtain ⟨bs, rfl⟩ := h; rfl
theorem SameButBanks.ldg (h : SameButBanks s t) : t.ldg = s.ldg := by obtain ⟨bs, rfl⟩ := h; rfl
theorem SameButBanks.host (h : SameButBanks s t) : t.host = s.host := by obtain ⟨bs, rfl⟩ := h; rfl
theorem SameButBanks.tables (h : SameButBanks s t) : t.eng.tables = s.eng.tables := by obtain ⟨bs, rfl⟩ := h; rfl
theorem SameButBanks.isPaired (h : SameButBanks s t) (p : Nat) : Machine.isPaired t p = Machine.isPaired s p := by
  obtain ⟨bs, rfl⟩ := h; rfl

theorem bank_setBank_same (e c : Nat) (v : Bank) : (s.setBank e c v).bank e c = v := by
  simp [State.bank, State.setBank]

theorem bank_setBank_other {e c e' c' : Nat} (v : Bank) (hc : c < 4) (hc' : c' < 4) (h : e ≠ e' ∨ c ≠ c') :
    (s.setBank e c v).bank e' c' = s.bank e' c' := by
  simp only [State.bank, State.setBank, Tbl.get_set]
  rw [if_neg (by omega)]

/-- The cycles of a bundle count for the other banks of its engine alone (R209). -/
theorem bank_passCycles {e c cost e' c' : Nat} (hc' : c' < 4) (h : e ≠ e' ∨ c = c') :
    (passCycles e c cost s).bank e' c' = s.bank e' c' := by
  have hstep (s : State) (k : Nat) (hk : k < 4) :
      (if k ≠ c ∧ (s.bank e k).task.isSome ∧ !(s.bank e k).waiting then
        s.setBank e k { s.bank e k with cycles := (s.bank e k).cycles + cost } else s).bank e' c' = s.bank e' c' := by
    split
    next hkc => exact bank_setBank_other _ hk hc' (by omega)
    next => rfl
  simp only [passCycles, List.foldl_cons, List.foldl_nil]
  rw [hstep _ _ (by omega), hstep _ _ (by omega), hstep _ _ (by omega), hstep _ _ (by omega)]

theorem bank_copyPair {e c e' c' : Nat} (hc : c < 4) (hc' : c' < 4) (h : e + 1 ≠ e' ∨ Machine.isPaired s (e / 4) = false) :
    (copyPair e c s).bank e' c' = s.bank e' c' := by
  unfold copyPair
  split
  next hp => exact bank_setBank_other _ hc hc' (h.imp id fun hf => absurd hp (by simp [hf]))
  next => rfl

end Banks

/-! ### A bundle that neither arrives at a barrier nor ends its stripe -/

/-- The bank after a bundle (R197). -/
def bankAfter (x : Ctx) (n : Nat) (acts : List Act) : Bank :=
  { acts.foldl (fun b a => bankAct x.b.cycles a b)
      { x.b with pc := x.b.pc + 4#32 * BitVec.ofNat 32 n, bundle := [], chk := .ok, chkSlot := 0 } with
    cycles := x.b.cycles + (1 + stallOf acts) }

/-- The act neither arrives at a barrier nor ends the stripe. -/
def goesOn : Act → Bool
  | .barrier _ | .tend => false
  | _ => true

theorem retire_goesOn {x : Ctx} {n : Nat} {acts : List Act} {s : State} (h : ∀ a ∈ acts, goesOn a = true) :
    retire x n acts s = copyPair x.e x.c (passCycles x.e x.c (1 + stallOf acts)
      (acts.foldl (outAct x) ((issued x s).setBank x.e x.c (bankAfter x n acts)))) := by
  have hgo {o : Option Nat} {f : Act → Option (Option Nat)} (hf : ∀ a, goesOn a = true → f a = none) :
      acts.findSome? f ≠ some o := by
    intro hs
    obtain ⟨a, ha, hfa⟩ := List.exists_of_findSome?_eq_some hs
    simp [hf a (h a ha)] at hfa
  unfold retire applyActs
  dsimp only
  split
  next hs =>
    refine absurd hs (hgo fun a ha => ?_)
    cases a <;> simp [goesOn] at ha ⊢
  next hs =>
    refine absurd hs (hgo fun a ha => ?_)
    cases a <;> simp [goesOn] at ha ⊢
  next => rfl

theorem retire_sameButBanks {x : Ctx} {n : Nat} {acts : List Act} {s u : State} (h : ∀ a ∈ acts, goesOn a = true)
    (hu : acts.foldl (outAct x) ((issued x s).setBank x.e x.c (bankAfter x n acts)) = u) : SameButBanks u (retire x n acts s) := by
  rw [retire_goesOn h, hu]
  exact (sameButBanks_passCycles ..).trans (sameButBanks_copyPair ..)

/-- Acts on the bank alone change nothing outside it. -/
theorem outAct_bankOnly {x : Ctx} {acts : List Act} (h : ∀ a ∈ acts, bankOnly a = true) (s : State) :
    acts.foldl (outAct x) s = s := by
  induction acts with
  | nil => rfl
  | cons a l ih =>
    have ha : outAct x s a = s := by
      have := h a (by simp)
      cases a <;> simp_all [bankOnly, outAct]
    rw [List.foldl_cons, ha, ih fun b hb => h b (by simp [hb])]

theorem goesOn_of_bankOnly {a : Act} (h : bankOnly a = true) : goesOn a = true := by
  cases a <;> simp_all [bankOnly, goesOn]

/-! ### Barrier and end -/

/-- Two states have the same image, and each task is as it was but for the stripes that it is still to start. -/
def SameButStarts (s t : State) : Prop := t.img = s.img ∧ ∀ n, ∃ l, t.task n = { s.task n with toStart := l }

theorem SameButStarts.refl (s : State) : SameButStarts s s := ⟨rfl, fun n => ⟨(s.task n).toStart, rfl⟩⟩

theorem SameButStarts.trans {s t u : State} (h : SameButStarts s t) (k : SameButStarts t u) : SameButStarts s u := by
  refine ⟨k.1.trans h.1, fun n => ?_⟩
  obtain ⟨l, hl⟩ := h.2 n
  obtain ⟨m, hm⟩ := k.2 n
  exact ⟨m, by rw [hm, hl]⟩

theorem SameButStarts.foldl {α : Type} {f : State → α → State} (h : ∀ s a, SameButStarts s (f s a)) (l : List α) (s : State) :
    SameButStarts s (l.foldl f s) := by
  induction l generalizing s with
  | nil => exact .refl s
  | cons a l ih => exact (h s a).trans (ih _)

theorem SameButBanks.sameButStarts {s t : State} (h : SameButBanks s t) : SameButStarts s t :=
  ⟨h.img, fun n => ⟨(s.task n).toStart, h.task n⟩⟩

theorem task_setTask (s : State) (n k : Nat) (r : TaskRt) : (s.setTask n r).task k = if k = n then r else s.task k := by
  simp [State.task, State.setTask]

theorem sameButStarts_startStripe (n phase l : Nat) (entry : Word) (s : State) : SameButStarts s (startStripe n phase l entry s) := by
  have hset (s : State) (l : List (Nat × Nat)) : SameButStarts s (s.setTask n { s.task n with toStart := l }) := by
    refine ⟨rfl, fun k => ?_⟩
    rw [task_setTask]
    split
    next hk => exact ⟨l, by rw [hk]⟩
    next => exact ⟨(s.task k).toStart, rfl⟩
  unfold startStripe
  dsimp only
  refine SameButStarts.trans ?_ (hset _ _)
  split
  · exact ((sameButBanks_setBank ..).trans (sameButBanks_setBank ..)).sameButStarts
  · exact (sameButBanks_setBank ..).sameButStarts

/-- Dispatching starts stripes and no more (R148). -/
theorem sameButStarts_dispatch (s : State) : SameButStarts s (dispatch s) := by
  refine .foldl (fun s l => .foldl (fun s c => ?_) _ s) _ s
  unfold dispatch1
  repeat' split
  case h_1 => exact sameButStarts_startStripe ..
  all_goals exact .refl s

/-- What BARRIER leaves of a task: it has arrived (R157, R240). -/
theorem task_arrive (x : Ctx) (n k : Nat) (s : State) : ∃ l, (arrive x n s).task k =
    { (if k = x.n then { s.task x.n with arrived := (s.task x.n).arrived ++ [stripeEngine x.st], barrier := some n } else s.task k)
      with toStart := l } := by
  obtain ⟨l, hl⟩ := ((sameButBanks_freePair x.e x.c _).sameButStarts.trans (sameButStarts_dispatch _)).2 k
  exact ⟨l, by rw [arrive, hl, task_setTask]⟩

/-- What TEND leaves of a task: it has ended the cycle on its engine (R157, R241). -/
theorem task_endStripe (x : Ctx) (k : Nat) (s : State) : ∃ l, (endStripe x s).task k =
    { (if k = x.n then { s.task x.n with ended := (s.task x.n).ended ++ [stripeEngine x.st] } else s.task k)
      with toStart := l } := by
  obtain ⟨l, hl⟩ := ((sameButBanks_freePair x.e x.c _).sameButStarts.trans (sameButStarts_dispatch _)).2 k
  refine ⟨l, ?_⟩
  rw [endStripe, hl, task_setTask]
  split <;> rfl

theorem img_arrive (x : Ctx) (n : Nat) (s : State) : (arrive x n s).img = s.img :=
  ((sameButBanks_freePair x.e x.c _).sameButStarts.trans (sameButStarts_dispatch _)).1

theorem img_endStripe (x : Ctx) (s : State) : (endStripe x s).img = s.img :=
  ((sameButBanks_freePair x.e x.c _).sameButStarts.trans (sameButStarts_dispatch _)).1

/-- The state in which a bundle of one act without an effect outside the bank arrives or ends. -/
def ready (x : Ctx) (n : Nat) (a : Act) (s : State) : State :=
  copyPair x.e x.c (passCycles x.e x.c (1 + stallOf [a]) ((issued x s).setBank x.e x.c (bankAfter x n [a])))

theorem sameButBanks_ready (x : Ctx) (n : Nat) (a : Act) (s : State) : SameButBanks (issued x s) (ready x n a s) :=
  ((sameButBanks_setBank ..).trans (sameButBanks_passCycles ..)).trans (sameButBanks_copyPair ..)

theorem retire_barrier (x : Ctx) (n k : Nat) (s : State) : retire x n [.barrier k] s = arrive x k (ready x n (.barrier k) s) := rfl

theorem retire_tend (x : Ctx) (n : Nat) (s : State) : retire x n [.tend] s = endStripe x (ready x n .tend s) := rfl

/-! ### Stores -/

/-- A store to the data window leaves the field side, the Ledger, the host, the tables and the image as they are (R200, R208). -/
theorem outAct_data (x : Ctx) (s : State) (a : Nat) (m : Bytes) :
    ∃ r, outAct x s (.data a m) = (writeData x.region a m s).setTask x.n r := ⟨_, rfl⟩

theorem region_setTask (s : State) (n p : Nat) (r : TaskRt) : (s.setTask n r).region p = s.region p := rfl

theorem region_writeData (s : State) (p q a : Nat) (m : Bytes) : (writeData p a m s).region q
    = if q = p then { s.region p with data := Memory.writeBytes (s.region p).data (a - 0x10000000) m } else s.region q := by
  simp [writeData, State.region, State.setRegion]

end Sys2Proof.Machine

open Sys2Proof Sys2Proof.Machine

/-- Settles O18: the arrival and the end change the task's record, and dispatching what waits changes no more of it than the stripes
that it is still to start. -/
theorem barrierAndTaskEnd : Obligations.BarrierAndTaskEnd := by
  intro s b x gd imm h hf
  have hbar : deliverSyl b (encRI 4 0x10 gd imm) s
      = retire x (sylWords b.x) [.barrier (extended b.x false imm).toNat] s :=
    control_ri_retires h hf (by simp) fun w ho _ hi => by simp only [evalC, ho, opBarrier, hi]
  have hend : deliverSyl b (encRI 4 0x11 gd imm) s = retire x (sylWords b.x) [.tend] s :=
    control_ri_retires h hf (by simp) fun w ho _ _ => by simp only [evalC, ho, opTend]
  refine ⟨⟨_, congrArg Host.Outcome.next (hbar.trans (retire_barrier ..)), ?_⟩,
    ⟨_, congrArg Host.Outcome.next (hend.trans (retire_tend ..)), ?_⟩⟩
  · generalize hu : ready x (sylWords b.x) (.barrier (extended b.x false imm).toNat) s = u
    have himg : u.img = s.img := hu ▸ (sameButBanks_ready ..).img
    obtain ⟨l, hl⟩ := task_arrive x (extended b.x false imm).toNat x.n u
    rw [if_pos rfl] at hl
    refine ⟨by rw [hl], by simp [hl], (img_arrive ..).trans himg⟩
  · generalize hu : ready x (sylWords b.x) .tend s = u
    have himg : u.img = s.img := hu ▸ (sameButBanks_ready ..).img
    obtain ⟨l, hl⟩ := task_endStripe x x.n u
    rw [if_pos rfl] at hl
    exact ⟨by simp [hl], (img_endStripe ..).trans himg⟩

/-- Settles O19: acts on the bank alone change nothing outside it, and the cycles and the copy of a pair reach the banks that the
statement excepts. -/
theorem registerBundleFrame : Obligations.RegisterBundleFrame := by
  intro x n acts s hb t
  have hgo : ∀ a ∈ acts, goesOn a = true := fun a ha => goesOn_of_bankOnly (hb a ha)
  constructor
  · obtain ⟨bs, hbs⟩ := retire_sameButBanks (s := s) (n := n) hgo (outAct_bankOnly hb _)
    rw [show t = _ from hbs]
    rfl
  · intro e c he hc hxe hxc hne hp
    rw [show t = _ from retire_goesOn hgo, outAct_bankOnly hb, bank_copyPair hxc hc, bank_passCycles hc (.inl hne.symm),
      bank_setBank_other _ hxc hc (.inl hne.symm)]
    · rfl
    · refine hp.imp Ne.symm fun hp => ?_
      rw [((sameButBanks_setBank ..).trans (sameButBanks_passCycles ..)).isPaired]
      exact hp

/-- Settles O20: the result stands in flight until the cycle that ends its latency. -/
theorem resultLandsAfterLatency : Obligations.ResultLandsAfterLatency := by
  intro x n r lat v s he hc hlat hfl b
  have hb : b = bankAfter x n [.reg r v lat] := by
    have : b = (copyPair x.e x.c (passCycles x.e x.c (1 + stallOf [.reg r v lat])
        ((issued x s).setBank x.e x.c (bankAfter x n [.reg r v lat])))).bank x.e x.c :=
      congrArg (fun t => t.bank x.e x.c) (retire_goesOn (by simp [goesOn]))
    rw [this, bank_copyPair hc hc (.inl (by omega)), bank_passCycles hc (.inr rfl), bank_setBank_same]
  by_cases hr : r = 0
  · have hg : b.g = x.b.g ∧ b.inflight = [] := by simp [hb, bankAfter, bankAct, hr, hfl]
    refine ⟨fun cycle k _ => by simp [land, hg], fun h => absurd hr h, ?_, ?_⟩ <;> simp [hb, bankAfter, bankAct, hr, stallOf]
  · have hg : b.g = x.b.g ∧ b.inflight = [{ due := x.b.cycles + lat - 1, reg := r, val := v }] := by
      simp [hb, bankAfter, bankAct, hr, hfl, addWrite]
    refine ⟨fun cycle k hk => ?_, fun _ cycle => ⟨fun hlt => ?_, fun hle => ?_⟩, ?_, ?_⟩
    · have hk : k ≠ r := hk.resolve_right hr
      simp only [land, hg, List.filter_cons, List.filter_nil]
      split <;> simp [hk]
    · have : ¬ x.b.cycles + lat - 1 < cycle := by omega
      simp [land, hg, this]
    · have : x.b.cycles + lat - 1 < cycle := by omega
      simp [land, hg, this]
    all_goals simp [hb, bankAfter, bankAct, hr, stallOf]

/-- Settles O21: the bytes go into the region's data, and the rest of the bundle changes banks and the task's record alone. -/
theorem storeChangesItsBytesOnly : Obligations.StoreChangesItsBytesOnly := by
  intro x n a m s t off
  obtain ⟨r, hr⟩ := outAct_data x ((issued x s).setBank x.e x.c (bankAfter x n [.data a m])) a m
  have ht := retire_sameButBanks (s := s) (n := n) (acts := [.data a m]) (by simp [goesOn]) hr
  have hreg (q : Nat) : t.region q = if q = x.region then { s.region x.region with
      data := Memory.writeBytes (s.region x.region).data off m } else s.region q := by
    rw [show t.region q = _ from ht.region q, region_setTask, region_writeData]
    rfl
  refine ⟨fun i hi => ?_, fun p k hpk => ?_, fun p k => ?_, ht.img, ht.fld, ht.tables, ht.ldg, ht.host⟩
  · rw [hreg, if_pos rfl, Memory.readByte_writeBytes_at _ _ _ _ hi]
  · rw [hreg]
    split
    next hp => rw [Memory.readByte_writeBytes_other _ _ _ _ (hpk.resolve_left (not_not.mpr hp)), hp]
    next => rfl
  · rw [hreg]
    split
    next hp => rw [hp]
    next => rfl

/-- Settles O22: the point goes into the task's buffer, and the rest of the bundle changes banks alone. -/
theorem imageStoreStaysPrivate : Obligations.ImageStoreStaysPrivate := by
  intro x n a v s t
  have ht := retire_sameButBanks (s := s) (x := x) (n := n) (acts := [.point a v]) (by simp [goesOn]) rfl
  refine ⟨fun p => ?_, fun k hk => ?_, fun p => ht.region p, ht.img, ht.fld⟩
  · rw [show t.task x.n = _ from ht.task x.n]
    simp only [List.foldl_cons, List.foldl_nil, outAct, task_setTask, if_true, Tbl.get_set]
    rfl
  · rw [show t.task k = _ from ht.task k]
    simp only [List.foldl_cons, List.foldl_nil, outAct, task_setTask, if_neg hk]
    rfl

end

section
/-! PROOFS. A syllable that only joins its bundle, and one that takes the code window's last word (R190, R195). -/

namespace Sys2Proof.Machine

/-- A bundle that the window's end cuts short breaks a rule of its form (R195 rule 8). -/
theorem breaksRule_cut (ws : List Word) : ∃ rule slot, breaksRule ws true = some (rule, slot) := by
  unfold breaksRule
  simp only [Bool.not_true, Bool.false_and, Bool.false_eq_true, if_false, if_true]
  repeat' split
  all_goals exact ⟨_, _, rfl⟩

/-- A bundle that breaks a rule of its form traps with BUNDLE (R195, R217). -/
theorem issueBundle_broken {x : Ctx} {ws : List Word} {cut : Bool} {s : State} {rule slot : Nat}
    (h : breaksRule ws cut = some (rule, slot)) :
    issueBundle x ws cut s = takeTrap x (x.b.pc + 4#32 * BitVec.ofNat 32 ws.length) (4, rule) slot ws s := by
  simp only [issueBundle, h]

end Sys2Proof.Machine

open Sys2Proof Sys2Proof.Machine

/-- Settles O23: the room in the code window says whether the bundle is cut. -/
theorem syllableJoinsBundle : Obligations.SyllableJoinsBundle := by
  intro s b x w hlead hmay hcls hctx hstop hchk hlen
  have hall : (x.b.bundle ++ delivered b w).length = x.b.bundle.length + sylWords b.x := by
    rw [List.length_append, length_delivered]
  have h8 : (x.b.bundle ++ delivered b w).take 8 = x.b.bundle ++ delivered b w := List.take_of_length_le (by omega)
  have hs : stopsBundle UnitCheck.ok = false := rfl
  refine ⟨fun hroom => ?_, fun hroom => ?_⟩
  · have hr : x.b.bundle.length + sylWords b.x < roomAt x.b.pc := by unfold roomAt; omega
    simp [deliverSyl, reportCorrection_ok hchk, hlead, hmay, hcls, hctx, hstop, hchk, hs, h8, length_delivered, hr.le, hr.ne', hlen]
  · obtain ⟨rule, slot, hb⟩ := breaksRule_cut (x.b.bundle ++ delivered b w)
    have hr : roomAt x.b.pc = x.b.bundle.length + sylWords b.x := by unfold roomAt; omega
    have ht : (x.b.bundle ++ delivered b w).take (x.b.bundle.length + sylWords b.x) = x.b.bundle ++ delivered b w :=
      List.take_of_length_le hall.le
    refine ⟨rule, slot, hb, ?_⟩
    simp [deliverSyl, reportCorrection_ok hchk, hlead, hmay, hcls, hctx, hstop, hchk, hs, h8, ht, length_delivered, hr, hlen]
    rw [issueBundle_broken hb, hall]

end

section
/-! PROOFS. Supplies and pins that change no power state (R58, R60-R63, R71, R82, R118, R121, R523). -/

namespace Sys2Proof.Machine

/-- The reserve with its judgement taken: the flag follows it, and a finding goes to the fault log as it begins (R63). -/
def judged (low : Bool) (s : State) : State :=
  let s1 := { s with power.reserveLow := low }
  if low && !s.power.reserveLow then logFault 0x32 2 (whr 4 0 0) (w32 (reserve01mJ s1)) 0#32 s1 else s1

/-- The reserve is below 20.4 mJ (R63). -/
def reserveBelow (s : State) : Bool := decide (reserveUnits (capUf s) s.power.vholdMv < 204 * 10 ^ 11)

theorem reserveBelow_eq {s : State} {c v : Nat} (hc : capUf s = c) (hv : s.power.vholdMv = v) :
    reserveBelow s = decide (425 * c * (v * v - 144000000) < 204 * 10 ^ 11) := by
  subst hc hv
  rfl

theorem judgeReserve_eq (s : State) : judgeReserve s = judged (reserveBelow s) s := rfl

theorem judged_power (low : Bool) (s : State) : (judged low s).power = { s.power with reserveLow := low } := by
  unfold judged
  dsimp only
  split
  · rw [logFault_power]
  · rfl

theorem judged_enough (s : State) : judged false s = { s with power.reserveLow := false } := rfl

theorem regulate_power (s : State) : (regulate s).power = { s.power with
    charging := decide (s.power.state = .run ∨ s.power.state = .slumber) && decide (s.power.vholdMv < 1000 * s.power.vholdSet) } := rfl

theorem alwaysOn_up {s : State} (h : s.power.vaonGood = true) : alwaysOn s = s := by simp [alwaysOn, h]

end Sys2Proof.Machine

open Sys2Proof Sys2Proof.Machine

/-- Settles O24: each supply's definition on its side of the thresholds. -/
theorem supplyInputsAreTaken : Obligations.SupplyInputsAreTaken := by
  intro s t mv u works reserveBad
  have hp : u.power = s.power := advance_power t s
  refine ⟨fun h => ⟨?_, ?_⟩, fun h => ?_, fun h => ⟨fun hv => ?_, fun hv => ?_, fun hv => ?_⟩, fun hw => ?_, fun hw => ?_,
    fun h hs => ?_, fun h h16 hs hg => ?_, fun hv hg => ?_, fun hs hr hc => ?_, fun f c us hfc => ?_⟩
  · exact if_pos (by simpa [overstressed] using h)
  · exact if_pos (by simpa [overstressed] using h)
  · exact if_pos h
  · have hn : ¬((s.power.state = .off ∨ s.power.state = .backup) ∧ 17000 ≤ mv) := by
      rintro ⟨hs, hm⟩
      rcases hv with hv | ⟨h1, h2⟩
      · omega
      · exact hs.elim h1 h2
    refine (if_neg (by simpa [overstressed] using h)).trans ?_
    simp only [vinGood, u, advance_power, if_neg hn]
  · refine (if_neg (by simpa [overstressed] using h)).trans ?_
    simp only [vinFall, u, advance_power, if_neg (not_le.mpr hv)]
    cases s.power.vinLowAt <;> rfl
  · refine (if_neg (by simpa [overstressed] using h)).trans ?_
    simp only [vinFall, u, advance_power, if_pos hv]
  · have hw : ¬(s.power.state = .run ∨ s.power.state = .slumber) := of_decide_eq_false hw
    refine congrArg Host.Outcome.next ?_
    simp only [vholdCollapse, u, advance_power, if_neg hw]
  · have hw' : s.power.state = .run ∨ s.power.state = .slumber := of_decide_eq_true hw
    have hlow : reserveBelow (regulate { u with power.vholdMv := mv }) = reserveBad mv :=
      reserveBelow_eq (by simp only [capUf, regulate, u, advance_power]) rfl
    refine ⟨judgeReserve (regulate { u with power.vholdMv := mv }), congrArg Host.Outcome.next ?_, ?_⟩
    · simp only [vholdCollapse, u, advance_power, if_pos hw']
    · rw [judgeReserve_eq, judged_power, regulate_power, hlow]
      simp [hp, hw']
  · refine (if_neg (by omega)).trans (congrArg Host.Outcome.next ?_)
    simp only [vrtcApplied, u, advance_power, hs, false_and, if_false]
  · refine (if_neg (by omega)).trans (congrArg Host.Outcome.next ?_)
    simp [vrtcApplied, hs, h16, alwaysOn, hg, enableClocks, u]
  · refine congrArg Host.Outcome.next ?_
    rw [advance_power, if_pos hv, alwaysOn_up (by simpa using hg)]
  · refine congrArg Host.Outcome.next ?_
    simp [u, hs, hr, hc]
  · have hlt : ¬ c ≤ f := by omega
    generalize hv : ({ regulate { u with power.vholdMv := c } with
      power.cMeasuredUf := some (s.power.chargeMa * us / (c - f)) } : State) = v
    have hex : exec (.holdupChargeDone t f c us) s = .next (judgeReserve v) := by
      refine congrArg Host.Outcome.next ?_
      simp only [holdupChargeDone, if_neg hlt, regulate, advance_power, ← hv, u]
    intro measured low charging
    have hlow : reserveBelow v = low := by
      subst hv
      exact reserveBelow_eq (by simp only [capUf, Option.getD_some]; rfl) rfl
    have hvp : v.power = { s.power with vholdMv := c, charging := charging, cMeasuredUf := some measured } := by
      subst hv
      simp only [regulate, u, advance_power]
      rfl
    rw [judgeReserve_eq, hlow] at hex
    clear_value low
    refine ⟨fun hl => ?_, _, hex, ?_⟩
    · rw [hex, hl, judged_enough]
      subst hv
      simp only [regulate, u, advance_power]
      rfl
    · rw [judged_power, hvp]
      exact ⟨rfl, rfl, rfl, rfl⟩

end

section
/-! PROOFS. A power-up turns the rails on (R60, R64, R65, R522). -/

namespace Sys2Proof.Machine

theorem railsOn_frame (kind : Restart) (s : State) :
    (railsOn kind s).fld = s.fld ∧ (railsOn kind s).ldg = s.ldg ∧ (railsOn kind s).sec = s.sec
      ∧ (railsOn kind s).ps = s.ps ∧ (railsOn kind s).net = s.net :=
  ⟨rfl, rfl, rfl, rfl, rfl⟩

theorem alwaysOn_frame (s : State) :
    (alwaysOn s).fld = s.fld ∧ (alwaysOn s).ldg = s.ldg ∧ (alwaysOn s).sec = s.sec
      ∧ (alwaysOn s).ps = s.ps ∧ (alwaysOn s).net = s.net := by
  unfold alwaysOn
  split <;> exact ⟨rfl, rfl, rfl, rfl, rfl⟩

theorem alwaysOn_power (s : State) : (alwaysOn s).power = { s.power with vaonGood := true } := by
  unfold alwaysOn
  split
  case isTrue h => rw [← h]
  case isFalse => rfl

theorem alwaysOn_now (s : State) : (alwaysOn s).now = s.now := by
  unfold alwaysOn
  split <;> rfl

end Sys2Proof.Machine

open Sys2Proof Sys2Proof.Machine

/-- Settles O25: the rails and the always-on domain come on, and neither reaches the field, the Ledger, the keys or the network. -/
theorem powerUpTurnsRailsOn : Obligations.PowerUpTurnsRailsOn := by
  intro s t mv hoff h17 h60
  have hin : decide (60000 < mv) = false := by simpa using h60
  have h16 : 16000 ≤ mv := by omega
  have hex : exec (.vinGood t mv) s = .next (vinGood mv (advance t s)) := if_neg (by simp [overstressed, hin])
  refine ⟨_, hex, ?_⟩
  have hgo : ((advance t s).power.state = .off ∨ (advance t s).power.state = .backup) ∧ 17000 ≤ mv := by
    rw [advance_power]
    exact ⟨hoff, h17⟩
  simp only [vinGood, if_pos hgo, if_pos h16]
  generalize hs1 : ({ advance t s with
    power.vinMv := mv, power.vinOk := (advance t s).power.vinOk || decide (17000 ≤ mv), power.vinLowAt := none
    power.vaonIn := (advance t s).power.vaonIn || decide (17000 ≤ mv), power.holdupN := false } : State) = s1
  obtain ⟨hfld, hldg, hsec, hps, hnet⟩ := railsOn_frame .power (alwaysOn s1)
  obtain ⟨hfld', hldg', hsec', hps', hnet'⟩ := alwaysOn_frame s1
  simp only [hfld, hldg, hsec, hps, hnet, hfld', hldg', hsec', hps', hnet']
  have hp : (railsOn .power (alwaysOn s1)).power = { s1.power with
      state := .run, vaonGood := true, service := if s1.power.resetLow then .resetHeld else .booting, startReady := false
      restart := some .power, tripUntil := none, bootAt := s1.now
      charging := decide (s1.power.vholdMv < 1000 * s1.power.vholdSet) } := by
    simp [railsOn, regulate_power, enableClocks, alwaysOn_power, alwaysOn_now]
  have hnow : (railsOn .power (alwaysOn s1)).now = s1.now := alwaysOn_now s1
  rw [hp, hnow]
  subst hs1
  simp [h17]

end

section
/-! PROOFS. What the operations of the supplies, the holdup table, SLUMBER and the event path leave alone. -/

namespace Sys2Proof.Machine

/-- A fold keeps what each of its steps keeps. -/
theorem foldl_keeps {α β : Type} (p : State → β) {f : State → α → State} (h : ∀ s a, p (f s a) = p s) (l : List α) (s : State) :
    p (l.foldl f s) = p s := by
  induction l generalizing s with
  | nil => rfl
  | cons a l ih => rw [List.foldl_cons, ih, h]

@[simp] theorem sendCmd_frame (ch : Nat) (s : State) :
    (sendCmd ch s).now = s.now ∧ (sendCmd ch s).power = s.power ∧ (sendCmd ch s).time = s.time ∧ (sendCmd ch s).eng = s.eng
      ∧ (sendCmd ch s).rime = s.rime ∧ (sendCmd ch s).panel = s.panel ∧ (sendCmd ch s).sup = s.sup
      ∧ (sendCmd ch s).sec = s.sec ∧ (sendCmd ch s).host = s.host := by
  unfold sendCmd
  and_intros <;> (repeat' split) <;> simp

@[simp] theorem sendAllCmds_frame (s : State) :
    (sendAllCmds s).now = s.now ∧ (sendAllCmds s).power = s.power ∧ (sendAllCmds s).time = s.time
      ∧ (sendAllCmds s).eng = s.eng ∧ (sendAllCmds s).rime = s.rime ∧ (sendAllCmds s).panel = s.panel
      ∧ (sendAllCmds s).sup = s.sup ∧ (sendAllCmds s).sec = s.sec ∧ (sendAllCmds s).host = s.host := by
  unfold sendAllCmds
  and_intros <;> exact foldl_keeps _ (by intro s a; simp) _ _

@[simp] theorem raiseNow_frame (src kind : Nat) (data : Word) (s : State) :
    (raiseNow src kind data s).now = s.now ∧ (raiseNow src kind data s).power = s.power
      ∧ (raiseNow src kind data s).time = s.time ∧ (raiseNow src kind data s).eng = s.eng
      ∧ (raiseNow src kind data s).rime = s.rime ∧ (raiseNow src kind data s).fld = s.fld
      ∧ (raiseNow src kind data s).panel = s.panel ∧ (raiseNow src kind data s).pair = s.pair
      ∧ (raiseNow src kind data s).sup = s.sup ∧ (raiseNow src kind data s).sec = s.sec
      ∧ (raiseNow src kind data s).host = s.host := by simp [raiseNow]

@[simp] theorem claimChanged_frame (s : State) :
    (claimChanged s).now = s.now ∧ (claimChanged s).power = s.power ∧ (claimChanged s).time = s.time
      ∧ (claimChanged s).eng = s.eng ∧ (claimChanged s).rime = s.rime ∧ (claimChanged s).panel = s.panel
      ∧ (claimChanged s).sup = s.sup ∧ (claimChanged s).sec = s.sec ∧ (claimChanged s).host = s.host := by simp [claimChanged]

@[simp] theorem clearValid_frame (s : State) :
    (clearValid s).now = s.now ∧ (clearValid s).power = s.power ∧ (clearValid s).time = s.time ∧ (clearValid s).eng = s.eng
      ∧ (clearValid s).rime = s.rime ∧ (clearValid s).panel = s.panel ∧ (clearValid s).sup = s.sup
      ∧ (clearValid s).sec = s.sec ∧ (clearValid s).host = s.host := by
  unfold clearValid
  and_intros <;> split <;> simp

@[simp] theorem missRecord_frame (consumer : Nat) (lost : EvRec) (s : State) :
    (missRecord consumer lost s).now = s.now ∧ (missRecord consumer lost s).time = s.time
      ∧ (missRecord consumer lost s).rime = s.rime ∧ (missRecord consumer lost s).fld = s.fld
      ∧ (missRecord consumer lost s).panel = s.panel ∧ (missRecord consumer lost s).pair = s.pair
      ∧ (missRecord consumer lost s).sup = s.sup ∧ (missRecord consumer lost s).sec = s.sec := by
  unfold missRecord
  and_intros <;> split <;> simp

@[simp] theorem consumersMiss_frame (lost : EvRec) (s : State) :
    (consumersMiss lost s).now = s.now ∧ (consumersMiss lost s).time = s.time ∧ (consumersMiss lost s).rime = s.rime
      ∧ (consumersMiss lost s).fld = s.fld ∧ (consumersMiss lost s).panel = s.panel ∧ (consumersMiss lost s).pair = s.pair
      ∧ (consumersMiss lost s).sup = s.sup ∧ (consumersMiss lost s).sec = s.sec := by
  unfold consumersMiss
  dsimp only
  and_intros
  all_goals
    refine (foldl_keeps _ (fun s c => ?_) _ _).trans ?_
    · split <;> simp
    · (repeat' split) <;> simp

@[simp] theorem soeAppend_frame (r : EvRec) (s : State) :
    (soeAppend r s).now = s.now ∧ (soeAppend r s).power = s.power ∧ (soeAppend r s).time = s.time
      ∧ (soeAppend r s).eng = s.eng ∧ (soeAppend r s).rime = s.rime ∧ (soeAppend r s).fld = s.fld
      ∧ (soeAppend r s).panel = s.panel ∧ (soeAppend r s).pair = s.pair ∧ (soeAppend r s).sup = s.sup
      ∧ (soeAppend r s).sec = s.sec ∧ (soeAppend r s).host = s.host := by
  and_intros <;> rfl

@[simp] theorem soeDrain_frame (s : State) :
    (soeDrain s).now = s.now ∧ (soeDrain s).power = s.power ∧ (soeDrain s).time = s.time ∧ (soeDrain s).eng = s.eng
      ∧ (soeDrain s).rime = s.rime ∧ (soeDrain s).fld = s.fld ∧ (soeDrain s).panel = s.panel ∧ (soeDrain s).pair = s.pair
      ∧ (soeDrain s).sup = s.sup ∧ (soeDrain s).sec = s.sec ∧ (soeDrain s).host = s.host := 
  ⟨foldl_keeps State.now (by simp) .., foldl_keeps State.power (by simp) .., foldl_keeps State.time (by simp) ..,
  foldl_keeps State.eng (by simp) .., foldl_keeps State.rime (by simp) .., foldl_keeps State.fld (by simp) ..,
  foldl_keeps State.panel (by simp) .., foldl_keeps State.pair (by simp) .., foldl_keeps State.sup (by simp) ..,
  foldl_keeps State.sec (by simp) .., foldl_keeps State.host (by simp) ..⟩

@[simp] theorem enterRecord_frame (r : EvRec) (s : State) :
    (enterRecord r s).now = s.now ∧ (enterRecord r s).time = s.time ∧ (enterRecord r s).rime = s.rime
      ∧ (enterRecord r s).fld = s.fld ∧ (enterRecord r s).panel = s.panel ∧ (enterRecord r s).pair = s.pair
      ∧ (enterRecord r s).sup = s.sup ∧ (enterRecord r s).sec = s.sec := by
  unfold enterRecord
  dsimp only
  and_intros <;> (repeat' split) <;> simp

@[simp] theorem enableClocks_frame (ns : List Nat) (s : State) :
    (enableClocks ns s).now = s.now ∧ (enableClocks ns s).time = s.time ∧ (enableClocks ns s).eng = s.eng
      ∧ (enableClocks ns s).rime = s.rime ∧ (enableClocks ns s).fld = s.fld ∧ (enableClocks ns s).panel = s.panel
      ∧ (enableClocks ns s).pair = s.pair ∧ (enableClocks ns s).sup = s.sup ∧ (enableClocks ns s).sec = s.sec := by simp [enableClocks]

@[simp] theorem wakeUp_frame (c : WakeCause) (s : State) :
    (wakeUp c s).now = s.now ∧ (wakeUp c s).time = s.time ∧ (wakeUp c s).eng = s.eng ∧ (wakeUp c s).rime = s.rime
      ∧ (wakeUp c s).fld = s.fld ∧ (wakeUp c s).panel = s.panel ∧ (wakeUp c s).pair = s.pair ∧ (wakeUp c s).sup = s.sup
      ∧ (wakeUp c s).sec = s.sec := by
  unfold wakeUp
  and_intros <;> split <;> simp

@[simp] theorem wakeBy_frame (c : WakeCause) (s : State) :
    (wakeBy c s).now = s.now ∧ (wakeBy c s).time = s.time ∧ (wakeBy c s).rime = s.rime ∧ (wakeBy c s).fld = s.fld
      ∧ (wakeBy c s).panel = s.panel ∧ (wakeBy c s).pair = s.pair ∧ (wakeBy c s).sup = s.sup ∧ (wakeBy c s).sec = s.sec := by
  unfold wakeBy
  and_intros <;> (repeat' split) <;> simp

@[simp] theorem freeBanks_frame (n : Nat) (s : State) :
    (freeBanks n s).now = s.now ∧ (freeBanks n s).power = s.power ∧ (freeBanks n s).time = s.time
      ∧ (freeBanks n s).rime = s.rime ∧ (freeBanks n s).fld = s.fld ∧ (freeBanks n s).panel = s.panel
      ∧ (freeBanks n s).pair = s.pair ∧ (freeBanks n s).sup = s.sup ∧ (freeBanks n s).sec = s.sec
      ∧ (freeBanks n s).host = s.host := by
  and_intros <;> rfl

@[simp] theorem setDataWord_frame (region addr : Nat) (v : Word) (s : State) :
    (setDataWord region addr v s).now = s.now ∧ (setDataWord region addr v s).power = s.power
      ∧ (setDataWord region addr v s).time = s.time ∧ (setDataWord region addr v s).rime = s.rime
      ∧ (setDataWord region addr v s).fld = s.fld ∧ (setDataWord region addr v s).panel = s.panel
      ∧ (setDataWord region addr v s).pair = s.pair ∧ (setDataWord region addr v s).sup = s.sup
      ∧ (setDataWord region addr v s).sec = s.sec ∧ (setDataWord region addr v s).host = s.host := by simp [setDataWord]

@[simp] theorem restoreData_frame (keys : List Nat) (s : State) :
    (restoreData keys s).now = s.now ∧ (restoreData keys s).power = s.power ∧ (restoreData keys s).time = s.time
      ∧ (restoreData keys s).rime = s.rime ∧ (restoreData keys s).fld = s.fld ∧ (restoreData keys s).panel = s.panel
      ∧ (restoreData keys s).pair = s.pair ∧ (restoreData keys s).sup = s.sup ∧ (restoreData keys s).sec = s.sec
      ∧ (restoreData keys s).host = s.host := by
  unfold restoreData
  and_intros <;> exact foldl_keeps _ (by intro s a; simp) _ _

@[simp] theorem dropCycle_frame (n : Nat) (s : State) :
    (dropCycle n s).now = s.now ∧ (dropCycle n s).power = s.power ∧ (dropCycle n s).time = s.time
      ∧ (dropCycle n s).rime = s.rime ∧ (dropCycle n s).fld = s.fld ∧ (dropCycle n s).panel = s.panel
      ∧ (dropCycle n s).pair = s.pair ∧ (dropCycle n s).sup = s.sup ∧ (dropCycle n s).sec = s.sec
      ∧ (dropCycle n s).host = s.host := by
  unfold dropCycle
  dsimp only
  and_intros <;> (repeat' split) <;> simp

@[simp] theorem abandonAll_frame (s : State) :
    (abandonAll s).now = s.now ∧ (abandonAll s).power = s.power ∧ (abandonAll s).time = s.time ∧ (abandonAll s).rime = s.rime
      ∧ (abandonAll s).fld = s.fld ∧ (abandonAll s).panel = s.panel ∧ (abandonAll s).pair = s.pair
      ∧ (abandonAll s).sup = s.sup ∧ (abandonAll s).sec = s.sec ∧ (abandonAll s).host = s.host := by
  unfold abandonAll
  and_intros <;> exact foldl_keeps _ (by intro s a; simp) _ _

@[simp] theorem writeDump_frame (atSlumber valid : Bool) (s : State) :
    (writeDump atSlumber valid s).now = s.now ∧ (writeDump atSlumber valid s).power = s.power
      ∧ (writeDump atSlumber valid s).time = s.time ∧ (writeDump atSlumber valid s).eng = s.eng
      ∧ (writeDump atSlumber valid s).rime = s.rime ∧ (writeDump atSlumber valid s).fld = s.fld
      ∧ (writeDump atSlumber valid s).panel = s.panel ∧ (writeDump atSlumber valid s).pair = s.pair
      ∧ (writeDump atSlumber valid s).sup = s.sup ∧ (writeDump atSlumber valid s).sec = s.sec
      ∧ (writeDump atSlumber valid s).host = s.host := by
  unfold writeDump
  dsimp only
  and_intros <;> (repeat' split) <;> simp

@[simp] theorem slumberDelta_frame (valid : Bool) (s : State) :
    (slumberDelta valid s).now = s.now ∧ (slumberDelta valid s).power = s.power ∧ (slumberDelta valid s).time = s.time
      ∧ (slumberDelta valid s).eng = s.eng ∧ (slumberDelta valid s).rime = s.rime ∧ (slumberDelta valid s).fld = s.fld
      ∧ (slumberDelta valid s).panel = s.panel ∧ (slumberDelta valid s).pair = s.pair ∧ (slumberDelta valid s).sup = s.sup
      ∧ (slumberDelta valid s).sec = s.sec ∧ (slumberDelta valid s).host = s.host := by
  unfold slumberDelta
  dsimp only
  and_intros <;> (repeat' split) <;> simp

@[simp] theorem foldAll_frame (s : State) :
    (foldAll s).now = s.now ∧ (foldAll s).power = s.power ∧ (foldAll s).time = s.time ∧ (foldAll s).eng = s.eng
      ∧ (foldAll s).rime = s.rime ∧ (foldAll s).fld = s.fld ∧ (foldAll s).panel = s.panel ∧ (foldAll s).pair = s.pair
      ∧ (foldAll s).sup = s.sup ∧ (foldAll s).sec = s.sec ∧ (foldAll s).host = s.host := by simp [foldAll]

@[simp] theorem homeWrite_frame (s : State) :
    (homeWrite s).now = s.now ∧ (homeWrite s).power = s.power ∧ (homeWrite s).time = s.time ∧ (homeWrite s).eng = s.eng
      ∧ (homeWrite s).rime = s.rime ∧ (homeWrite s).fld = s.fld ∧ (homeWrite s).panel = s.panel ∧ (homeWrite s).pair = s.pair
      ∧ (homeWrite s).sup = s.sup ∧ (homeWrite s).sec = s.sec ∧ (homeWrite s).host = s.host := by simp [homeWrite]

@[simp] theorem powerDump_frame (fromSlumber : Bool) (s : State) :
    (powerDump fromSlumber s).now = s.now ∧ (powerDump fromSlumber s).power = s.power
      ∧ (powerDump fromSlumber s).time = s.time ∧ (powerDump fromSlumber s).eng = s.eng
      ∧ (powerDump fromSlumber s).rime = s.rime ∧ (powerDump fromSlumber s).fld = s.fld
      ∧ (powerDump fromSlumber s).panel = s.panel ∧ (powerDump fromSlumber s).pair = s.pair
      ∧ (powerDump fromSlumber s).sup = s.sup ∧ (powerDump fromSlumber s).sec = s.sec
      ∧ (powerDump fromSlumber s).host = s.host := by
  unfold powerDump
  dsimp only
  and_intros <;> (repeat' split) <;> simp

@[simp] theorem setCal_frame (y m d h mi sec : Nat) (s : State) :
    (setCal y m d h mi sec s).now = s.now ∧ (setCal y m d h mi sec s).power = s.power
      ∧ (setCal y m d h mi sec s).time = s.time ∧ (setCal y m d h mi sec s).eng = s.eng
      ∧ (setCal y m d h mi sec s).rime = s.rime ∧ (setCal y m d h mi sec s).fld = s.fld
      ∧ (setCal y m d h mi sec s).panel = s.panel ∧ (setCal y m d h mi sec s).pair = s.pair
      ∧ (setCal y m d h mi sec s).sec = s.sec ∧ (setCal y m d h mi sec s).host = s.host := by simp [setCal]

@[simp] theorem reloadCal_frame (s : State) :
    (reloadCal s).now = s.now ∧ (reloadCal s).power = s.power ∧ (reloadCal s).time = s.time ∧ (reloadCal s).eng = s.eng
      ∧ (reloadCal s).rime = s.rime ∧ (reloadCal s).fld = s.fld ∧ (reloadCal s).panel = s.panel ∧ (reloadCal s).pair = s.pair
      ∧ (reloadCal s).sec = s.sec ∧ (reloadCal s).host = s.host := by
  unfold reloadCal
  dsimp only
  and_intros <;> (repeat' split) <;> simp

@[simp] theorem dropToken_frame (s : State) :
    (dropToken s).now = s.now ∧ (dropToken s).power = s.power ∧ (dropToken s).eng = s.eng ∧ (dropToken s).rime = s.rime
      ∧ (dropToken s).fld = s.fld ∧ (dropToken s).panel = s.panel ∧ (dropToken s).pair = s.pair ∧ (dropToken s).host = s.host := by
  and_intros <;> rfl

@[simp] theorem checkToken_frame (s : State) :
    (checkToken s).now = s.now ∧ (checkToken s).power = s.power ∧ (checkToken s).eng = s.eng ∧ (checkToken s).rime = s.rime
      ∧ (checkToken s).fld = s.fld ∧ (checkToken s).panel = s.panel ∧ (checkToken s).pair = s.pair
      ∧ (checkToken s).host = s.host := by
  unfold checkToken
  and_intros <;> (repeat' split) <;> simp

@[simp] theorem latchTimeLost_frame (cause : Nat) (s : State) :
    (latchTimeLost cause s).now = s.now ∧ (latchTimeLost cause s).power = s.power ∧ (latchTimeLost cause s).eng = s.eng
      ∧ (latchTimeLost cause s).rime = s.rime ∧ (latchTimeLost cause s).fld = s.fld ∧ (latchTimeLost cause s).panel = s.panel
      ∧ (latchTimeLost cause s).pair = s.pair ∧ (latchTimeLost cause s).host = s.host := by simp [latchTimeLost]

@[simp] theorem learnAnew_frame (s : State) :
    (learnAnew s).now = s.now ∧ (learnAnew s).power = s.power ∧ (learnAnew s).eng = s.eng ∧ (learnAnew s).rime = s.rime
      ∧ (learnAnew s).fld = s.fld ∧ (learnAnew s).panel = s.panel ∧ (learnAnew s).pair = s.pair ∧ (learnAnew s).sup = s.sup
      ∧ (learnAnew s).sec = s.sec ∧ (learnAnew s).host = s.host := by simp [learnAnew]

@[simp] theorem endHalt_frame (s : State) :
    (endHalt s).now = s.now ∧ (endHalt s).power = s.power ∧ (endHalt s).time = s.time ∧ (endHalt s).eng = s.eng
      ∧ (endHalt s).rime = s.rime ∧ (endHalt s).fld = s.fld ∧ (endHalt s).panel = s.panel ∧ (endHalt s).pair = s.pair
      ∧ (endHalt s).sec = s.sec ∧ (endHalt s).host = s.host := by simp [endHalt]

@[simp] theorem holdupCal_frame (s : State) :
    (holdupCal s).now = s.now ∧ (holdupCal s).power = s.power ∧ (holdupCal s).time = s.time ∧ (holdupCal s).eng = s.eng
      ∧ (holdupCal s).rime = s.rime ∧ (holdupCal s).fld = s.fld ∧ (holdupCal s).panel = s.panel ∧ (holdupCal s).pair = s.pair
      ∧ (holdupCal s).sec = s.sec ∧ (holdupCal s).host = s.host := by
  unfold holdupCal
  dsimp only
  and_intros <;> (repeat' split) <;> simp

@[simp] theorem startInterp_frame (g src kind : Nat) (data : Word) (s : State) :
    (startInterp g src kind data s).now = s.now ∧ (startInterp g src kind data s).time = s.time
      ∧ (startInterp g src kind data s).rime = s.rime ∧ (startInterp g src kind data s).fld = s.fld
      ∧ (startInterp g src kind data s).panel = s.panel ∧ (startInterp g src kind data s).pair = s.pair
      ∧ (startInterp g src kind data s).sup = s.sup ∧ (startInterp g src kind data s).sec = s.sec := by simp [startInterp]

@[simp] theorem sleepEdge_frame (src kind : Nat) (data : Word) (s : State) :
    (sleepEdge src kind data s).now = s.now ∧ (sleepEdge src kind data s).time = s.time
      ∧ (sleepEdge src kind data s).rime = s.rime ∧ (sleepEdge src kind data s).fld = s.fld
      ∧ (sleepEdge src kind data s).panel = s.panel ∧ (sleepEdge src kind data s).pair = s.pair
      ∧ (sleepEdge src kind data s).sup = s.sup ∧ (sleepEdge src kind data s).sec = s.sec := by
  unfold sleepEdge
  dsimp only
  and_intros <;> (repeat' split) <;> simp

@[simp] theorem setTimeState_frame (st active : Nat) (s : State) :
    (setTimeState st active s).now = s.now ∧ (setTimeState st active s).power = s.power
      ∧ (setTimeState st active s).eng = s.eng ∧ (setTimeState st active s).rime = s.rime
      ∧ (setTimeState st active s).fld = s.fld ∧ (setTimeState st active s).panel = s.panel
      ∧ (setTimeState st active s).pair = s.pair ∧ (setTimeState st active s).sup = s.sup
      ∧ (setTimeState st active s).sec = s.sec ∧ (setTimeState st active s).host = s.host := by
  unfold setTimeState
  dsimp only
  and_intros <;> (repeat' split) <;> simp

@[simp] theorem loseLock_frame (s : State) :
    (loseLock s).now = s.now ∧ (loseLock s).power = s.power ∧ (loseLock s).eng = s.eng ∧ (loseLock s).rime = s.rime
      ∧ (loseLock s).fld = s.fld ∧ (loseLock s).panel = s.panel ∧ (loseLock s).pair = s.pair ∧ (loseLock s).sup = s.sup
      ∧ (loseLock s).sec = s.sec ∧ (loseLock s).host = s.host := by simp [loseLock]

@[simp] theorem originEdge_frame (src kind : Nat) (data : Word) (s : State) :
    (originEdge src kind data s).now = s.now ∧ (originEdge src kind data s).time = s.time
      ∧ (originEdge src kind data s).rime = s.rime ∧ (originEdge src kind data s).fld = s.fld
      ∧ (originEdge src kind data s).panel = s.panel ∧ (originEdge src kind data s).pair = s.pair
      ∧ (originEdge src kind data s).sup = s.sup ∧ (originEdge src kind data s).sec = s.sec := by
  unfold originEdge
  and_intros <;> (repeat' split) <;> simp

/-! ### Tables -/

section
variable {α : Type} [DecidableEq α]

/-- Keys set one after the other from a function of the key. -/
theorem Tbl.get_foldl_set (d : α) (g : Nat → α) (ks : List Nat) (m : Tbl α) (j : Nat) :
    (ks.foldl (fun m k => m.set d k (g k)) m).get d j = if j ∈ ks then g j else m.get d j := by
  induction ks generalizing m with
  | nil => simp
  | cons k ks ih =>
    rw [List.foldl_cons, ih, Tbl.get_set]
    by_cases hj : j ∈ ks
    · simp [hj]
    · by_cases hk : j = k <;> simp [hj, hk]

/-- `over` maps each of its keys once. -/
theorem Tbl.get_over (d : α) (f : Nat → α → α) {ks : List Nat} (h : ks.Nodup) (m : Tbl α) (j : Nat) :
    (m.over d f ks).get d j = if j ∈ ks then f j (m.get d j) else m.get d j := by
  unfold Tbl.over
  induction ks generalizing m with
  | nil => simp
  | cons k ks ih =>
    obtain ⟨hk, hn⟩ := List.nodup_cons.mp h
    rw [List.foldl_cons, ih hn, Tbl.get_set]
    by_cases hjk : j = k
    · subst hjk
      simp [hk]
    · simp [hjk]

end

/-! ### Dies, channels and the claim -/

theorem die_holdAll (s : State) {d : Nat} (h : d < 4) :
    ((holdAll s).die d).hold = true ∧ ((holdAll s).die d).holding = true := by
  have hmem : d ∈ [0, 1, 2, 3] := by simp; omega
  have hnodup : [0, 1, 2, 3].Nodup := by decide
  simp only [State.die, holdAll_fld, Tbl.get_over _ _ hnodup, if_pos hmem, and_self]

theorem chan_setChan (s : State) (n c : Nat) (v : Channel) : (s.setChan n v).chan c = if c = n then v else s.chan c :=
  Tbl.get_set ..

@[simp] theorem sendCmd_dies (ch : Nat) (s : State) : (sendCmd ch s).fld.dies = s.fld.dies := by
  unfold sendCmd
  (repeat' split) <;> simp

@[simp] theorem sendAllCmds_dies (s : State) : (sendAllCmds s).fld.dies = s.fld.dies := by
  unfold sendAllCmds
  exact foldl_keeps (fun s => s.fld.dies) (by simp) ..

@[simp] theorem sendCmd_count (ch c : Nat) (s : State) : ((sendCmd ch s).chan c).count = (s.chan c).count := by
  unfold sendCmd
  split
  · split
    · rw [chan_setChan]
      split
      next h => rw [h]
      next => rfl
    · rfl
  · rfl

@[simp] theorem sendAllCmds_count (s : State) (c : Nat) : ((sendAllCmds s).chan c).count = (s.chan c).count := by
  unfold sendAllCmds
  exact foldl_keeps (fun s => (s.chan c).count) (by simp) ..

@[simp] theorem clearValid_count (s : State) (c : Nat) : ((clearValid s).chan c).count = (s.chan c).count := by
  unfold clearValid
  split
  · exact sendAllCmds_count _ c
  · rfl

@[simp] theorem sendCmd_pair (ch : Nat) (s : State) : (sendCmd ch s).pair = s.pair := by
  unfold sendCmd
  (repeat' split) <;> simp

@[simp] theorem sendAllCmds_pair (s : State) : (sendAllCmds s).pair = s.pair := by
  unfold sendAllCmds
  exact foldl_keeps State.pair (by simp) ..

@[simp] theorem claimChanged_pair (s : State) : (claimChanged s).pair = s.pair := by simp [claimChanged]

@[simp] theorem clearValid_valid (s : State) : (clearValid s).pair.valid = false := by
  unfold clearValid
  split
  · simp
  next h => simpa using h

end Sys2Proof.Machine

end

section
/-! PROOFS. HOLDUP and RESET_N leave the outputs held (R71, R72, R266, R318, R323, R337, R406, R511, R514, R523). -/

namespace Sys2Proof.Machine

/-- What steps 2 and 3 of the HOLDUP table leave of the module that was `s`: no claim, no period of Tally, no bank, slot, token or
debug session, an empty stream, every die in hold, the counts of the channels as they were. -/
structure Stopped (s u : State) : Prop where
  valid : u.pair.valid = false
  tally : u.sup.tallyOn = false
  banks : u.eng.banks = []
  slot : u.panel.slot = none
  token : u.sec.token = none
  dbg : u.sec.dbg = []
  stream : u.host.stream = {}
  dies : ∀ d, d < 4 → (u.die d).hold = true ∧ (u.die d).holding = true
  counts : ∀ c, (u.chan c).count = (s.chan c).count

/-- After step 6 Rime has stopped too and the counts are saved. -/
structure HeldDown (s u : State) : Prop extends Stopped s u where
  rime : u.rime.mode = 0
  saved : ∀ c, c < 64 → u.fld.savedCounts.get 0#32 c = (s.chan c).count

@[simp] theorem noteState_stream (o s : State) : (noteState o s).host.stream = s.host.stream := by
  unfold noteState setIrq
  split
  · rfl
  · split <;> rfl

theorem stopped_holdupBegin (s : State) : Stopped s (holdupBegin s) where
  valid := by simp [holdupBegin, stopEngines, endDebug, resetSlot]
  tally := by simp [holdupBegin, stopEngines]
  banks := by simp [holdupBegin, stopEngines]
  slot := by simp [holdupBegin, stopEngines, endDebug, resetSlot]
  token := by simp [holdupBegin, stopEngines]
  dbg := by simp [holdupBegin, stopEngines, endDebug]
  stream := by simp [holdupBegin, stopEngines]
  dies d hd := by
    simp only [holdupBegin, stopEngines, State.die, noteState_fld, abandonAll_frame]
    exact die_holdAll _ hd
  counts c := by simpa [holdupBegin, stopEngines, endDebug, resetSlot, State.chan] using clearValid_count s c

theorem holdupBegin_power (s : State) : (holdupBegin s).power = { s.power with
    charging := false, holdupN := true, pwrGood := false, slumberReq := false, slumberStep := 0, waking := false
    holdupSlumber := decide (s.power.state = .slumber ∨ 3 ≤ s.power.slumberStep), state := .holdup } := by
  simp [holdupBegin, stopEngines, endDebug, resetSlot]

theorem holdupBegin_rime (s : State) : (holdupBegin s).rime = s.rime := by
  simp [holdupBegin, stopEngines, endDebug, resetSlot]

theorem holdupBegin_regions (s : State) : (holdupBegin s).eng.regions = [] := by
  simp [holdupBegin]

theorem savedCounts_saveCounts (s : State) {c : Nat} (h : c < 64) :
    (saveCounts s).fld.savedCounts.get 0#32 c = (s.chan c).count :=
  (Tbl.get_foldl_set 0#32 (fun c => (s.chan c).count) (List.range 64) s.fld.savedCounts c).trans (if_pos (List.mem_range.mpr h))

/-- Step 4 to 6 on a module that steps 2 and 3 have stopped. -/
theorem Stopped.holdupDump {s u : State} (h : Stopped s u) : HeldDown s (holdupDump u) where
  valid := by simp [Machine.holdupDump, saveCounts, h.valid]
  tally := by simp [Machine.holdupDump, saveCounts, h.tally]
  banks := by simp [Machine.holdupDump, saveCounts, h.banks]
  slot := by simp [Machine.holdupDump, saveCounts, h.slot]
  token := by simp [Machine.holdupDump, saveCounts, h.token]
  dbg := by simp [Machine.holdupDump, saveCounts, h.dbg]
  stream := by simp [Machine.holdupDump, saveCounts, h.stream]
  dies d hd := by simpa [Machine.holdupDump, saveCounts, State.die] using h.dies d hd
  counts c := by simpa [Machine.holdupDump, saveCounts, State.chan] using h.counts c
  rime := rfl
  saved c hc := by
    have hs : (Machine.holdupDump u).fld = (saveCounts u).fld := by simp [Machine.holdupDump]
    rw [hs, savedCounts_saveCounts u hc, h.counts c]

theorem holdupDump_power (s : State) : (holdupDump s).power = s.power := by simp [holdupDump, saveCounts]

/-! ### The rails after the dump -/

theorem HeldDown.railsOn {s u : State} (h : HeldDown s u) (kind : Restart) : HeldDown s (railsOn kind u) := ⟨⟨h.valid, h.tally,
  h.banks, h.slot, h.token, h.dbg, h.stream, h.dies, h.counts⟩, h.rime, h.saved⟩

theorem HeldDown.withPower {s u : State} (h : HeldDown s u) (p : Power) : HeldDown s { u with power := p } := ⟨⟨h.valid, h.tally,
  h.banks, h.slot, h.token, h.dbg, h.stream, h.dies, h.counts⟩, h.rime, h.saved⟩

theorem checkToken_of_none {s : State} (h : s.sec.token = none) : checkToken s = s := by simp [checkToken, h]

theorem latchTimeLost_of_none {s : State} (h : s.sec.token = none) (cause : Nat) :
    latchTimeLost cause s = logFault 0x72 2 (whr 4 0 0) (w32 cause) 0#32 { s with time.timeLost := true } :=
  checkToken_of_none h

theorem HeldDown.alwaysOnLost {s u : State} (h : HeldDown s u) : HeldDown s (alwaysOnLost u) where
  valid := by simp [Machine.alwaysOnLost, setCal, enableClocks, h.valid]
  tally := by simp [Machine.alwaysOnLost, setCal, enableClocks, latchTimeLost_of_none, h.token, logFault, h.tally]
  banks := by simp [Machine.alwaysOnLost, setCal, enableClocks, h.banks]
  slot := by simp [Machine.alwaysOnLost, setCal, enableClocks, h.slot]
  token := by simp [Machine.alwaysOnLost, setCal, enableClocks, latchTimeLost_of_none, h.token]
  dbg := by simp [Machine.alwaysOnLost, setCal, enableClocks, latchTimeLost_of_none, h.token, h.dbg]
  stream := by simp [Machine.alwaysOnLost, setCal, enableClocks, h.stream]
  dies d hd := by simpa [Machine.alwaysOnLost, setCal, enableClocks, State.die] using h.dies d hd
  counts c := by simpa [Machine.alwaysOnLost, setCal, enableClocks, State.chan] using h.counts c
  rime := by simp [Machine.alwaysOnLost, setCal, enableClocks, h.rime]
  saved c hc := by simpa [Machine.alwaysOnLost, setCal, enableClocks] using h.saved c hc

theorem HeldDown.vaonLost {s u : State} (h : HeldDown s u) : HeldDown s (vaonLost u) := by
  unfold Machine.vaonLost
  dsimp only
  split
  · exact h.alwaysOnLost
  · exact h.alwaysOnLost.withPower _

/-- What is left of a module whose rails have gone off, with the always-on rail fed. -/
def unpowered (s : State) : State := { s with
  power.state := .backup, power.service := .booting, power.startReady := false, power.restart := none
  power.vaonIn := decide (16000 ≤ s.power.vinMv), time.running := false, clk.ready := s.clk.ready &&& 5#6
  host.works := [], host.mb := [], host.irq := 0#32, sec.sessions := []
  fld.dies := s.fld.dies.over {} (fun _ d => { d with powered := d.powered && decide (d.vfldMv ≠ 0) }) [0, 1, 2, 3] }

theorem railsOff_eq (s : State) : railsOff s = if vaonFed (unpowered s) then unpowered s else vaonLost (unpowered s) := rfl

theorem die_unpowered (s : State) {d : Nat} (h : d < 4) :
    (unpowered s).die d = { s.die d with powered := (s.die d).powered && decide ((s.die d).vfldMv ≠ 0) } := by
  have hmem : d ∈ [0, 1, 2, 3] := by simp; omega
  have hnodup : [0, 1, 2, 3].Nodup := by decide
  simp only [State.die, unpowered, Tbl.get_over _ _ hnodup, if_pos hmem]
  rfl

theorem HeldDown.unpowered {s u : State} (h : HeldDown s u) : HeldDown s (unpowered u) := ⟨⟨h.valid, h.tally, h.banks, h.slot,
  h.token, h.dbg, h.stream, fun d hd => by rw [die_unpowered u hd]; exact h.dies d hd, h.counts⟩, h.rime, h.saved⟩

theorem HeldDown.railsOff {s u : State} (h : HeldDown s u) : HeldDown s (railsOff u) := by
  rw [railsOff_eq]
  split
  · exact h.unpowered
  · exact h.unpowered.vaonLost

theorem HeldDown.holdupEnd {s u : State} (h : HeldDown s (holdupDump u)) : HeldDown s (holdupEnd u) := by
  unfold Machine.holdupEnd
  dsimp only
  split
  · exact (h.withPower _).railsOn _
  · exact (h.withPower _).railsOff

/-- Where step 7 leaves the supplies: at start-up with VIN good, else with the rails off. -/
theorem holdupEnd_on {s : State} (h : s.power.vinOk = true) :
    (holdupEnd s).power.state = .run ∧ (holdupEnd s).power.restart = some .holdup := by
  simp [holdupEnd, holdupDump_power, h, railsOn, regulate]

@[simp] theorem latchTimeLost_clk (cause : Nat) (s : State) : (latchTimeLost cause s).clk = s.clk := by
  unfold latchTimeLost checkToken
  (repeat' split) <;> simp [dropToken]

theorem vaonLost_power (s : State) : (vaonLost s).power = if 16000 ≤ s.power.vinMv then s.power else { s.power with
    vaonGood := false, state := if s.power.state = .backup then .off else s.power.state } := by
  unfold vaonLost
  dsimp only
  split <;> simp [alwaysOnLost, enableClocks, setCal]

theorem holdupEnd_off {s : State} (h : s.power.vinOk = false) :
    (holdupEnd s).power.state = if 16000 ≤ s.power.vinMv ∨ 1600 ≤ s.power.vrtcMv then .backup else .off := by
  have hoff : holdupEnd s = railsOff { holdupDump s with power.vinLowAt := none } :=
    if_neg (by simp [holdupDump_power, h])
  rw [hoff, railsOff_eq]
  have hp : (unpowered { holdupDump s with power.vinLowAt := none }).power = { s.power with
      vinLowAt := none, state := .backup, service := .booting, startReady := false, restart := none
      vaonIn := decide (16000 ≤ s.power.vinMv) } := by
    simp only [unpowered, holdupDump_power]
  have hfed : vaonFed (unpowered { holdupDump s with power.vinLowAt := none })
      = decide (16000 ≤ s.power.vinMv ∨ 1600 ≤ s.power.vrtcMv) := by
    simp [vaonFed, hp]
  by_cases hf : 16000 ≤ s.power.vinMv ∨ 1600 ≤ s.power.vrtcMv
  · rw [if_pos (by simpa [hfed] using hf), if_pos hf, hp]
  · rw [if_neg (by simpa [hfed] using hf), if_neg hf, vaonLost_power, hp, if_neg (by simp only; omega)]
    rfl

theorem railsOff_keeps (s : State) : (railsOff s).rime = s.rime ∧ (railsOff s).fld.savedCounts = s.fld.savedCounts := by
  rw [railsOff_eq]
  unfold vaonLost
  dsimp only
  constructor <;> (repeat' split) <;> simp [unpowered, alwaysOnLost, enableClocks, setCal]

theorem holdupEnd_rime (s : State) : (holdupEnd s).rime.mode = 0 := by
  unfold holdupEnd
  dsimp only
  split
  · rfl
  · rw [(railsOff_keeps _).1]
    rfl

theorem holdupEnd_saved (s : State) : (holdupEnd s).fld.savedCounts = (saveCounts s).fld.savedCounts := by
  have hd : (holdupDump s).fld = (saveCounts s).fld := by simp [holdupDump]
  unfold holdupEnd
  dsimp only
  split
  · exact congrArg Field.savedCounts hd
  · rw [(railsOff_keeps _).2]
    exact congrArg Field.savedCounts hd

@[simp] theorem checkToken_time (s : State) : (checkToken s).time = s.time := by
  unfold checkToken
  (repeat' split) <;> simp [dropToken]

/-- What the reset of the always-on domain leaves of what it held (R120, R121). -/
theorem alwaysOnLost_resets (s : State) : (alwaysOnLost s).time.timeLost = true ∧ (alwaysOnLost s).cal.year = 2000
    ∧ (alwaysOnLost s).cal.month = 1 ∧ (alwaysOnLost s).cal.day = 1 ∧ (alwaysOnLost s).cal.hour = 0
    ∧ (alwaysOnLost s).cal.minute = 0 ∧ (alwaysOnLost s).cal.second = 0 ∧ (alwaysOnLost s).clk.slowRc = true
    ∧ (alwaysOnLost s).sup.trips = 0 := by
  refine ⟨?_, rfl, rfl, rfl, rfl, rfl, rfl, ?_, rfl⟩
  · simp [alwaysOnLost, enableClocks, setCal, latchTimeLost]
  · simp [alwaysOnLost, enableClocks, setCal]

theorem holdupEnd_timeLost {s : State} (h : s.power.vinOk = false)
    (hf : ¬(16000 ≤ s.power.vinMv ∨ 1600 ≤ s.power.vrtcMv)) : (holdupEnd s).time.timeLost = true := by
  have hoff : holdupEnd s = railsOff { holdupDump s with power.vinLowAt := none } :=
    if_neg (by simp [holdupDump_power, h])
  have hfed : ¬vaonFed (unpowered { holdupDump s with power.vinLowAt := none }) = true := by
    simpa [vaonFed, unpowered, holdupDump_power] using hf
  rw [hoff, railsOff_eq, if_neg hfed]
  have hin : ¬16000 ≤ (unpowered { holdupDump s with power.vinLowAt := none }).power.vinMv := by
    simp only [unpowered, holdupDump_power]
    omega
  unfold vaonLost
  dsimp only
  rw [if_neg hin]
  exact (alwaysOnLost_resets _).1

end Sys2Proof.Machine

open Sys2Proof Sys2Proof.Machine

/-- Settles O26: steps 2 and 3 stop the module, the dump keeps that, and step 7 only moves the supplies. -/
theorem holdupLeavesOutputsHeld : Obligations.HoldupLeavesOutputsHeld := by
  intro s t quiet ends
  have hp : (advance t s).power = s.power := advance_power t s
  have hquiet : ∀ {w u}, HeldDown w u → w.fld = s.fld → quiet u := fun h hw => ⟨h.valid, h.tally, h.rime, h.banks, h.slot, h.token,
    h.dbg, h.stream, h.dies, fun c hc => by rw [h.saved c hc, State.chan, hw, State.chan]⟩
  refine ⟨fun a hlow hpass hst => ⟨?_, ?_⟩, fun through hst => ?_, fun hres hst hsv => ?_⟩
  · have hb := stopped_holdupBegin (advance t s)
    have hbp := holdupBegin_power (advance t s)
    refine ⟨holdupEnd (holdupBegin (advance t s)), congrArg Host.Outcome.next ?_, hquiet hb.holdupDump.holdupEnd (advance_fld t s), fun hv => ?_,
      fun hv hf => ?_, fun hv hi hr => ?_⟩
    · rcases hst with hst | hst <;> simp [holdupEntry, hst, hlow, passed, hpass]
    · exact holdupEnd_on (by simpa [hbp] using hv)
    · rw [holdupEnd_off (by simpa [hbp] using hv), if_pos (by simpa [hbp] using hf)]
    · have hf : ¬(16000 ≤ s.power.vinMv ∨ 1600 ≤ s.power.vrtcMv) := by omega
      rw [holdupEnd_off (by simpa [hbp] using hv), if_neg (by simpa [hbp] using hf)]
      exact ⟨rfl, holdupEnd_timeLost (by simpa [hbp] using hv) (by simpa [hbp] using hf)⟩
  · have hb := stopped_holdupBegin (advance t s)
    have hbp := holdupBegin_power (advance t s)
    refine ⟨holdupBegin (advance t s), congrArg Host.Outcome.next ?_, ?_, ?_, hb.valid, hb.tally, hb.banks,
      holdupBegin_regions _, ?_, fun d hd => (hb.dies d hd).1⟩
    · rcases hst with hst | hst <;> simp [holdupEntry, hst, hlow, passed, hpass]
    · rw [hbp]
    · rw [hbp]
    · simp [holdupBegin_rime]
  · refine ⟨holdupEnd (advance t s), congrArg Host.Outcome.next ?_, holdupEnd_rime _, fun c hc => ?_, fun hv => ?_, fun hv => ?_⟩
    · simp [holdupEntry, hst]
    · rw [holdupEnd_saved, savedCounts_saveCounts _ hc, State.chan, advance_fld, State.chan]
    · exact holdupEnd_on (by simpa using hv)
    · rw [holdupEnd_off (by simpa using hv)]
      split
      · exact .inl rfl
      · exact .inr rfl
  · obtain ⟨v, hv⟩ : ∃ v : State, v = { advance t s with power.resetLow := true } := ⟨_, rfl⟩
    have hrun : exec (.resetNAssert t) s = .next { holdupSteps v with
        power.state := .run, power.service := .resetHeld, power.startReady := false, time.running := false
        power.restart := some .resetN, power.holdupN := s.power.holdupN } := by
      subst hv
      refine congrArg Host.Outcome.next ?_
      simp [resetAssert, hres, hst, hsv]
    have hvp : (holdupSteps v).power.resetLow = true := by
      rw [holdupSteps, holdupDump_power, holdupBegin_power, hv]
    have hd : HeldDown v (holdupSteps v) := (stopped_holdupBegin v).holdupDump
    have hw : v.fld = s.fld := by rw [hv]; exact advance_fld t s
    generalize holdupSteps v = u at hrun hvp hd
    refine ⟨_, hrun, hquiet (w := v) ?_ hw, rfl, hvp, rfl, rfl⟩
    exact ⟨⟨hd.valid, hd.tally, hd.banks, hd.slot, hd.token, hd.dbg, hd.stream, hd.dies, hd.counts⟩, hd.rime, hd.saved⟩

end

section
/-! PROOFS. SLUMBER, its wakes and the loss of the always-on rail (R64, R66, R68-R70, R81, R96, R108, R118-R121). -/

namespace Sys2Proof.Machine

@[simp] theorem missRecord_power (consumer : Nat) (lost : EvRec) (s : State) :
    (missRecord consumer lost s).power = s.power := by
  unfold missRecord
  split <;> simp

@[simp] theorem consumersMiss_power (lost : EvRec) (s : State) :
    (consumersMiss lost s).power = s.power := by
  unfold consumersMiss
  dsimp only
  · refine (foldl_keeps _ (fun s c => ?_) _ _).trans ?_
    · split <;> simp
    · (repeat' split) <;> simp

@[simp] theorem enterRecord_power (r : EvRec) (s : State) :
    (enterRecord r s).power = s.power := by
  unfold enterRecord
  dsimp only
  (repeat' split) <;> simp

@[simp] theorem startInterp_power (g src kind : Nat) (data : Word) (s : State) :
    (startInterp g src kind data s).power = s.power := by simp [startInterp]

theorem wakeUp_wakes {s : State} (h : s.power.state = .slumber) (c : WakeCause) :
    (wakeUp c s).power.state = .run ∧ (wakeUp c s).power.lastWake = c := by
  simp [wakeUp, h, enableClocks]

theorem wakeBy_wakes {s : State} (h : s.power.state = .slumber) (c : WakeCause) :
    (wakeBy c s).power.state = .run ∧ (wakeBy c s).power.lastWake = c := by
  rw [wakeBy, if_pos h]
  exact wakeUp_wakes h c

theorem wakeBy_awake {s : State} (h : s.power.state = .run) (c : WakeCause) :
    (wakeBy c s).power.state = .run ∧ (wakeBy c s).power.lastWake = s.power.lastWake := by
  rw [wakeBy, if_neg (by simp [h])]
  split <;> exact ⟨h, rfl⟩

/-- A source's edge in SLUMBER wakes the module where its bit of the wake request is set, and moves no supply otherwise. -/
theorem sleepEdge_wakes {src : Nat} {s : State} (h : s.power.state = .slumber) (hw : s.power.wakeEv.getLsbD src = true)
    (kind : Nat) (data : Word) :
    (sleepEdge src kind data s).power.state = .run ∧ (sleepEdge src kind data s).power.lastWake = .event src := by
  simp only [sleepEdge, hw, if_true]
  refine wakeBy_wakes ?_ _
  split <;> simp [h]

theorem sleepEdge_sleeps {src : Nat} {s : State} (hw : s.power.wakeEv.getLsbD src = false) (kind : Nat) (data : Word) :
    (sleepEdge src kind data s).power = s.power := by
  simp only [sleepEdge, hw, Bool.false_eq_true, if_false]
  split <;> simp

theorem timeLostDetect_eq {s u : State} {mv : Nat} (hu : u = { s with power.vrtcMv := mv }) :
    timeLostDetect mv s = if s.power.vaonGood && !vaonFed u then vaonLost u else u := by
  subst hu
  rfl

theorem vaonLost_resets (s : State) : (vaonLost s).time.timeLost = true ∧ (vaonLost s).cal.year = 2000
    ∧ (vaonLost s).cal.month = 1 ∧ (vaonLost s).cal.day = 1 ∧ (vaonLost s).cal.hour = 0
    ∧ (vaonLost s).cal.minute = 0 ∧ (vaonLost s).cal.second = 0 ∧ (vaonLost s).clk.slowRc = true
    ∧ (vaonLost s).sup.trips = 0 := by
  unfold vaonLost
  dsimp only
  split <;> exact alwaysOnLost_resets s

/-- What stands after step 4: the clocks are stopped, Rime and Tally too, and the dies hold. -/
theorem slumberStop_power (s : State) : (slumberStop s).power = { s.power with
    state := .slumber, slumberReq := false, slumberStep := 0, slumberAt := s.now
    charging := decide (s.power.vholdMv < 1000 * s.power.vholdSet) } := by
  unfold slumberStop
  dsimp only
  split <;> simp [regulate]

theorem slumberStop_ready (s : State) {i : Nat} (h0 : i ≠ 0) (h2 : i ≠ 2) : (slumberStop s).clk.ready.getLsbD i = false := by
  have h5 : (5#6).getLsbD i = false := by
    by_cases hi : i < 6
    · interval_cases i <;> simp_all
    · exact BitVec.getLsbD_of_ge _ _ (by omega)
  simp [slumberStop, regulate, h5]

theorem slumberStop_fld (s : State) : (slumberStop s).fld = s.fld := by
  unfold slumberStop
  dsimp only
  split <;> simp [regulate]

/-- The three steps of an entry that starts at its first. -/
theorem slumberSteps_three {s : State} (h : s.power.slumberStep = 0) :
    slumberSteps 3 s = { writeDump true true (foldAll (holdAll (abandonAll s))) with power.slumberStep := 3 } := by
  simp [slumberSteps, h]

theorem slumberSteps_dies {s : State} (h : s.power.slumberStep = 0) {d : Nat} (hd : d < 4) :
    ((slumberSteps 3 s).die d).hold = true := by
  rw [slumberSteps_three h]
  simp only [State.die, writeDump_frame, foldAll_frame]
  exact (die_holdAll _ hd).1

end Sys2Proof.Machine

open Sys2Proof Sys2Proof.Machine

/-- Settles O27: the entry's steps in their order, the two wakes, and the detector on each side of 1.60 V. -/
theorem slumberAndWake : Obligations.SlumberAndWake := by
  intro s t
  have hp : (advance t s).power = s.power := advance_power t s
  refine ⟨fun hreq hst hbnd hidle hlow hkept hstep => ?_, fun ns hst => ⟨fun he hns hf => ?_, fun he => ?_, fun he hno => ?_⟩,
    fun hst h0 hal => ?_, fun mv hfed => ?_, fun mv hin hgood hmv => ?_⟩
  · have hbusy : ((advance t s).scan.tasks.any fun p => p.2.state = .running) = false := by
      simpa using hidle
    refine ⟨noteState (advance t s) (slumberStop (slumberSteps 3 (advance t s))), congrArg Host.Outcome.next ?_, ?_, ?_, ?_, ?_, ?_,
      fun d hd => ?_, fun i _ h0 h2 => ?_⟩
    · simp only [slumberEntry, hbusy]
      simp [hreq, hst, hbnd, hlow, hkept]
    · rw [noteState_power, slumberStop_power]
    · rw [noteState_power, slumberStop_power]
    · rw [noteState_power, slumberStop_power, slumberSteps_three (by rw [hp, hstep])]
      simp
    · rw [noteState_rime]
      rfl
    · rw [noteState_sup]
      rfl
    · rw [State.die, noteState_fld, slumberStop_fld]
      exact slumberSteps_dies (by rw [hp, hstep]) hd
    · rw [noteState_clk]
      exact slumberStop_ready _ h0 h2
  · have hs : (sleepEdge 79 0 0#32 (advance t s)).power = s.power := (sleepEdge_sleeps (by rw [hp, he]) _ _).trans hp
    refine ⟨wakeBy .wakeN (sleepEdge 79 0 0#32 (advance t s)), congrArg Host.Outcome.next ?_, wakeBy_wakes (by rw [hs, hst]) _⟩
    simp [originEdge, hst, hs, hns, hf]
  · have hs := sleepEdge_wakes (s := advance t s) (by rw [hp, hst]) (by rw [hp, he]) 0 0#32
    have hx : exec (.wakeNLow t ns) s = .next (if decide (1000 ≤ ns) && (sleepEdge 79 0 0#32 (advance t s)).power.wakeFlags.getLsbD 0
        then wakeBy .wakeN (sleepEdge 79 0 0#32 (advance t s)) else sleepEdge 79 0 0#32 (advance t s)) := by
      refine congrArg Host.Outcome.next ?_
      simp only [originEdge, hp, hst, if_true]
    refine ⟨_, hx, ?_⟩
    split
    · exact ⟨(wakeBy_awake hs.1 _).1, (wakeBy_awake hs.1 _).2.trans hs.2⟩
    · exact hs
  · have hs : (sleepEdge 79 0 0#32 (advance t s)).power = s.power := (sleepEdge_sleeps (by rw [hp, he]) _ _).trans hp
    refine ⟨sleepEdge 79 0 0#32 (advance t s), congrArg Host.Outcome.next ?_, by rw [hs, hst]⟩
    have hno' : (decide (1000 ≤ ns) && s.power.wakeFlags.getLsbD 0) = false := by
      rcases hno with hno | hno
      · simp [show ¬1000 ≤ ns by omega]
      · rw [hno, Bool.and_false]
    simp only [originEdge, hp, hst, if_true, hs, hno', Bool.false_eq_true, if_false]
  · refine ⟨wakeBy .alarm (advance t s), congrArg Host.Outcome.next ?_, wakeBy_wakes (by rw [hp, hst]) _⟩
    exact if_pos ⟨by rwa [hp], by rwa [hp]⟩
  · obtain ⟨u, hu⟩ : ∃ u : State, u = { advance t s with power.vrtcMv := mv } := ⟨_, rfl⟩
    have hf : vaonFed u = true := by simpa [vaonFed, hu] using hfed
    rw [← hu]
    refine congrArg Host.Outcome.next ?_
    rw [timeLostDetect_eq hu, hf, Bool.not_true, Bool.and_false]
    rfl
  · obtain ⟨u, hu⟩ : ∃ u : State, u = { advance t s with power.vrtcMv := mv } := ⟨_, rfl⟩
    have hup : u.power = { s.power with vrtcMv := mv } := by rw [hu, ← hp]
    have hf : vaonFed u = false := by
      simp [vaonFed, hup, hin]
      omega
    have hx : exec (.timeLostDetect t mv) s = .next (vaonLost u) := by
      refine congrArg Host.Outcome.next ?_
      rw [timeLostDetect_eq hu, hf, hp, hgood]
      rfl
    obtain ⟨htl, hy, hm, hd, hh, hmi, hs, hrc, htr⟩ := vaonLost_resets u
    refine ⟨vaonLost u, hx, htl, ?_, fun hv hb => ?_, fun hor => ?_, ?_, hy, hm, hd, hh, hmi, hs, hrc, htr⟩
    all_goals rw [vaonLost_power, hup]
    · split
      next h => simpa [hgood] using h
      next h => simpa using h
    · rw [if_neg (by simp only; omega)]
      simp [hb]
    · split
      next => rfl
      next h =>
        have hb : s.power.state ≠ .backup := hor.resolve_left h
        simp [hb]
    · split <;> rfl

end

section
/-! PROOFS. Status reads clear what they report (R114, R325, R342, R364, R449, R548). -/

namespace Sys2Proof.Machine

/-! ### Byte strings and their parts -/

@[simp] theorem length_zeros (n : Nat) : (zeros n).length = n := List.length_replicate

@[simp] theorem length_packBits (n : Nat) (l : List Bool) : (packBits n l).length = n := by
  induction n generalizing l with
  | zero => rfl
  | succ n ih => simp [packBits, ih]

@[simp] theorem length_keyBytes (n : Nat) (f : Nat → Bool) : (keyBytes n f).length = n := length_packBits ..

@[simp] theorem length_macBytes (m : BitVec 48) : (macBytes m).length = 6 := by simp [macBytes]

/-- The middle of three parts is the slice where it lies. -/
theorem slice_append {a b c : Bytes} {off len : Nat} (ha : a.length = off) (hb : b.length = len) :
    slice (a ++ (b ++ c)) off len = b := by
  subst ha hb
  simp [slice]

/-! ### One request, its answer -/

/-- A card that answers at once: the request ends with the card's status and payload, and the state is the card's. -/
theorem runCommand_answers {s s1 : State} {t mb code st : Nat} {w : Work} {p : Bytes} {f : Work → State → Reply × State}
    (h : Asks s mb code w) (hf : f w (advance t s) = (.done st p, s1)) (hw : s1.host.works = (advance t s).host.works) :
    Host.Outcome.next (runCommand t mb code f s) = (.next (finish w st p s1) : Result State) :=
  congrArg Host.Outcome.next (runCommand_done h hf (hw.trans (congrArg HostPort.works (advance_host t s))))

@[simp] theorem forward_frame (code : Nat) (payload : Bytes) (s : State) :
    (forward code payload s).now = s.now ∧ (forward code payload s).axis = s.axis ∧ (forward code payload s).power = s.power
      ∧ (forward code payload s).bcr = s.bcr ∧ (forward code payload s).clk = s.clk ∧ (forward code payload s).time = s.time
      ∧ (forward code payload s).cal = s.cal ∧ (forward code payload s).ev = s.ev ∧ (forward code payload s).img = s.img
      ∧ (forward code payload s).scan = s.scan ∧ (forward code payload s).ps = s.ps ∧ (forward code payload s).eng = s.eng
      ∧ (forward code payload s).rime = s.rime ∧ (forward code payload s).edit = s.edit
      ∧ (forward code payload s).fld = s.fld ∧ (forward code payload s).panel = s.panel
      ∧ (forward code payload s).net = s.net ∧ (forward code payload s).ring = s.ring ∧ (forward code payload s).ldg = s.ldg
      ∧ (forward code payload s).saf = s.saf ∧ (forward code payload s).sup = s.sup ∧ (forward code payload s).sec = s.sec
      ∧ (forward code payload s).upd = s.upd ∧ (forward code payload s).host = s.host
      ∧ (forward code payload s).pending = s.pending := by
  unfold forward
  and_intros <;> split <;> simp

/-- An answer moves the host port alone, field by field. -/
@[simp] theorem finish_fields (w : Work) (st : Nat) (p : Bytes) (s : State) :
    (finish w st p s).now = s.now ∧ (finish w st p s).axis = s.axis ∧ (finish w st p s).power = s.power
      ∧ (finish w st p s).bcr = s.bcr ∧ (finish w st p s).clk = s.clk ∧ (finish w st p s).time = s.time
      ∧ (finish w st p s).cal = s.cal ∧ (finish w st p s).ev = s.ev ∧ (finish w st p s).img = s.img
      ∧ (finish w st p s).scan = s.scan ∧ (finish w st p s).ps = s.ps ∧ (finish w st p s).eng = s.eng
      ∧ (finish w st p s).rime = s.rime ∧ (finish w st p s).edit = s.edit ∧ (finish w st p s).fld = s.fld
      ∧ (finish w st p s).panel = s.panel ∧ (finish w st p s).net = s.net ∧ (finish w st p s).ring = s.ring
      ∧ (finish w st p s).pair = s.pair ∧ (finish w st p s).ldg = s.ldg ∧ (finish w st p s).saf = s.saf
      ∧ (finish w st p s).sup = s.sup ∧ (finish w st p s).sec = s.sec ∧ (finish w st p s).upd = s.upd
      ∧ (finish w st p s).pending = s.pending := by
  have h := finish_frame w st p s
  exact ⟨(congrArg State.now h :), (congrArg State.axis h :), (congrArg State.power h :), (congrArg State.bcr h :),
    (congrArg State.clk h :), (congrArg State.time h :), (congrArg State.cal h :), (congrArg State.ev h :),
    (congrArg State.img h :), (congrArg State.scan h :), (congrArg State.ps h :), (congrArg State.eng h :),
    (congrArg State.rime h :), (congrArg State.edit h :), (congrArg State.fld h :), (congrArg State.panel h :),
    (congrArg State.net h :), (congrArg State.ring h :), (congrArg State.pair h :), (congrArg State.ldg h :),
    (congrArg State.saf h :), (congrArg State.sup h :), (congrArg State.sec h :), (congrArg State.upd h :),
    (congrArg State.pending h :)⟩

theorem finishWid_frame (wid st : Nat) (p : Bytes) (s : State) : ({ finishWid wid st p s with host := s.host } : State) = s := by
  unfold finishWid
  split
  · exact finish_frame ..
  · rfl

@[simp] theorem finishWid_fields (wid st : Nat) (p : Bytes) (s : State) :
    (finishWid wid st p s).now = s.now ∧ (finishWid wid st p s).axis = s.axis ∧ (finishWid wid st p s).power = s.power
      ∧ (finishWid wid st p s).bcr = s.bcr ∧ (finishWid wid st p s).clk = s.clk ∧ (finishWid wid st p s).time = s.time
      ∧ (finishWid wid st p s).cal = s.cal ∧ (finishWid wid st p s).ev = s.ev ∧ (finishWid wid st p s).img = s.img
      ∧ (finishWid wid st p s).scan = s.scan ∧ (finishWid wid st p s).ps = s.ps ∧ (finishWid wid st p s).eng = s.eng
      ∧ (finishWid wid st p s).rime = s.rime ∧ (finishWid wid st p s).edit = s.edit ∧ (finishWid wid st p s).fld = s.fld
      ∧ (finishWid wid st p s).panel = s.panel ∧ (finishWid wid st p s).net = s.net ∧ (finishWid wid st p s).ring = s.ring
      ∧ (finishWid wid st p s).pair = s.pair ∧ (finishWid wid st p s).ldg = s.ldg ∧ (finishWid wid st p s).saf = s.saf
      ∧ (finishWid wid st p s).sup = s.sup ∧ (finishWid wid st p s).sec = s.sec ∧ (finishWid wid st p s).upd = s.upd
      ∧ (finishWid wid st p s).pending = s.pending := by
  have h := finishWid_frame wid st p s
  exact ⟨(congrArg State.now h :), (congrArg State.axis h :), (congrArg State.power h :), (congrArg State.bcr h :),
    (congrArg State.clk h :), (congrArg State.time h :), (congrArg State.cal h :), (congrArg State.ev h :),
    (congrArg State.img h :), (congrArg State.scan h :), (congrArg State.ps h :), (congrArg State.eng h :),
    (congrArg State.rime h :), (congrArg State.edit h :), (congrArg State.fld h :), (congrArg State.panel h :),
    (congrArg State.net h :), (congrArg State.ring h :), (congrArg State.pair h :), (congrArg State.ldg h :),
    (congrArg State.saf h :), (congrArg State.sup h :), (congrArg State.sec h :), (congrArg State.upd h :),
    (congrArg State.pending h :)⟩

/-- A row of channels mapped one after the other. -/
theorem chan_foldl_setChan (g : Channel → Channel) (a m : Nat) (s : State) (c : Nat) :
    ((List.range m).foldl (fun s k => s.setChan (a + k) (g (s.chan (a + k)))) s).chan c
      = if a ≤ c ∧ c < a + m then g (s.chan c) else s.chan c := by
  induction m with
  | zero => exact (if_neg (by omega)).symm
  | succ m ih =>
    rw [List.range_succ, List.foldl_append, List.foldl_cons, List.foldl_nil, chan_setChan, ih]
    by_cases hc : c = a + m
    · subst hc
      simp [ih]
    · rw [if_neg hc]
      exact if_congr (by omega) rfl rfl

/-- A die that reports: its power loss and the fault words of its channels are told. -/
def dieTold (n : Nat) (s : State) : State :=
  (List.range 16).foldl (fun s k => s.setChan (16 * n + k) { s.chan (16 * n + k) with faults := 0#16 })
    (s.setDie n { s.die n with lostPower := false })

theorem fldStatus_eq {s : State} (h : isStation s = false) (w : Work) :
    ∃ p, fldStatus w s = (.done DONE p, dieTold (min 3 (field w.payload 0 1 0)) s) := by
  unfold fldStatus
  exact ⟨_, checked_pass (by simp [firstStatus, h])⟩

theorem chan_dieTold (n : Nat) (s : State) (c : Nat) :
    (dieTold n s).chan c = if 16 * n ≤ c ∧ c < 16 * n + 16 then { s.chan c with faults := 0#16 } else s.chan c :=
  chan_foldl_setChan (fun c => { c with faults := 0#16 }) (16 * n) 16 _ c

theorem dieTold_frame (n : Nat) (s : State) : (dieTold n s).img = s.img ∧ (dieTold n s).host = s.host
    ∧ (dieTold n s).fld.dies = s.fld.dies.set {} n { s.die n with lostPower := false } := by
  unfold dieTold
  exact ⟨foldl_keeps State.img (by simp) .., foldl_keeps State.host (by simp) .., foldl_keeps (fun s => s.fld.dies) (by simp) ..⟩

theorem clkStatus_eq (w : Work) (s : State) : ∃ p k, clkStatus w s = (.done DONE p, { s with clk.fail := 0#6, eng.fresh := k })
    ∧ p.take 4 = leBytes 1 s.clk.ready.toNat ++ leBytes 1 s.clk.fail.toNat ++ leBytes 1 (bit s.clk.sysRefRc)
      ++ leBytes 1 (bit s.clk.slowRc) := by
  simp only [clkStatus, engineKhzNow, draw, List.append_assoc]
  split <;> exact ⟨_, _, rfl, rfl⟩

theorem netStatus_eq (w : Work) (s : State) : ∃ p,
    netStatus w s = (.done DONE p,
      let sel := if 3 < field w.payload 0 1 0 then 0 else field w.payload 0 1 0
      let k := min (field w.payload 1 1 0) (if sel = 1 then 127 else if sel = 2 then 63 else if sel = 3 then 7 else 0)
      if sel = 1 then setSub k { s.net.subs.get {} k with flags := 0#8 } s
      else if sel = 3 then setSv k { s.net.sv.get {} k with flags := 0#8 } s else s)
    ∧ p.take 6 = macBytes s.net.mac :=
  ⟨_, rfl, by simp only [List.append_assoc]; exact List.take_left' (length_macBytes _)⟩

end Sys2Proof.Machine

open Sys2Proof Sys2Proof.Machine

/-- Settles O30: each card by its definition. -/
theorem statusReadsClearWhatTheyReport : Obligations.StatusReadsClearWhatTheyReport := by
  intro s t mb w u
  refine ⟨fun h => ?_, fun h => ?_, fun h hst n hn => ?_, fun h => ?_, fun h hsel => ?_, fun h hsel => ?_, fun h => ?_⟩
  · rw [show s.clk = u.clk from (advance_clk t s).symm]
    obtain ⟨p, k, hf, hp⟩ := clkStatus_eq w u
    exact ⟨p, k, runCommand_answers h hf rfl, hp⟩
  · rw [show s.ldg = u.ldg from (advance_ldg t s).symm]
    refine ⟨_, runCommand_answers h rfl rfl, ?_⟩
    simp only [List.append_assoc]
    exact slice_append (length_leBytes ..) (length_leBytes ..)
  · obtain ⟨p, hf⟩ := fldStatus_eq (s := u) (by simpa [isStation, u] using hst) w
    rw [← hn] at hf
    obtain ⟨himg, hhost, hdies⟩ := dieTold_frame n u
    refine ⟨p, dieTold n u, runCommand_answers h hf (congrArg HostPort.works hhost), ?_, fun k hk => ?_, fun c hc => ?_, ?_⟩
    · rw [hdies, State.die, advance_fld, State.die]
    · rw [chan_dieTold, if_pos (by omega), State.chan, advance_fld, State.chan]
    · rw [chan_dieTold, if_neg (by omega), State.chan, advance_fld, State.chan]
    · rw [himg, advance_img]
  · rw [show s.panel = u.panel from (advance_panel t s).symm, show s.eng = u.eng from (advance_eng t s).symm]
    refine ⟨_, runCommand_answers h rfl rfl, ?_, ?_⟩
    · simp
    · simp only [List.append_assoc]
      exact slice_append (by simp) (by simp)
  · rw [show s.net = u.net from (advance_net t s).symm]
    obtain ⟨p, hf, hp⟩ := netStatus_eq w u
    refine ⟨p, runCommand_answers h (hf.trans ?_) rfl, hp⟩
    simp [hsel]
  · rw [show s.net = u.net from (advance_net t s).symm]
    obtain ⟨p, hf, hp⟩ := netStatus_eq w u
    refine ⟨p, runCommand_answers h (hf.trans ?_) rfl, hp⟩
    simp [hsel]
  · rw [show s.upd = u.upd from (advance_upd t s).symm]
    refine ⟨_, runCommand_answers h rfl rfl, by simp, ?_⟩
    simp only [List.append_assoc]
    rfl

end

section
/-! PROOFS. Commands that only report (R78, R80, R117, R132, R179, R180, R184, R293, R389, R417, R447, R451, R471, R473, R491,
R494). -/

namespace Sys2Proof.Machine

/-! ### Lengths -/

@[simp] theorem length_leInt (n : Nat) (v : Int) : (leInt n v).length = n := length_leBytes ..

@[simp] theorem length_slice (p : Bytes) (off len : Nat) : (slice p off len).length = len := by
  simp [slice]

@[simp] theorem length_flatMap_leBytes (n : Nat) (f : Nat → Nat) (l : List Nat) :
    (l.flatMap fun k => leBytes n (f k)).length = n * l.length := by
  induction l with
  | nil => rfl
  | cons a l ih => simp [ih, Nat.mul_succ, Nat.add_comm]

@[simp] theorem length_flatMap_leInt (n : Nat) (f : Nat → Int) (l : List Nat) :
    (l.flatMap fun k => leInt n (f k)).length = n * l.length :=
  length_flatMap_leBytes n (fun k => (f k % (2 ^ (8 * n) : Int)).toNat) l

theorem length_shaRound {v : List Dword} (h : v.length = 8) (kw : Dword) : (shaRound v kw).length = 8 := by
  simp [shaRound, h]

theorem length_shaRounds (ks w : List Dword) {v : List Dword} (h : v.length = 8) : (shaRounds ks w v).length = 8 := by
  induction ks generalizing w v with
  | nil => exact h
  | cons k ks ih => exact ih _ (length_shaRound h _)

theorem length_shaBlocks (n : Nat) (b : Bytes) {h : List Dword} (hh : h.length = 8) : (shaBlocks n b h).length = 8 := by
  induction n generalizing b h with
  | zero => exact hh
  | succ n ih =>
    refine ih _ ?_
    rw [shaBlock, List.length_zipWith, length_shaRounds _ _ hh, hh]
    rfl

/-- A digest is 48 bytes long. -/
@[simp] theorem length_sha384 (m : Bytes) : (sha384 m).length = 48 := by
  have hw : ∀ l : List Dword, (l.flatMap fun w => beBytes 8 w.toNat).length = 8 * l.length := by
    intro l
    cases l with
    | nil => rfl
    | cons a l =>
      simp [beBytes]
      omega
  have h8 : (unpackRow sha384Init).length = 8 := by simp [unpackRow]
  rw [sha384, hw, List.length_take, length_shaBlocks _ _ h8]
  rfl

@[simp] theorem length_ident : ident.length = 48 := length_sha384 _

@[simp] theorem take_leBytes {n k : Nat} (h : n ≤ k) (v : Nat) : (leBytes n v).take k = leBytes n v :=
  List.take_of_length_le (by simpa using h)

@[simp] theorem drop_leBytes {n k : Nat} (h : n ≤ k) (v : Nat) : (leBytes n v).drop k = [] :=
  List.drop_eq_nil_of_le (by simpa using h)

/-! ### Cards that report -/

theorem length_ownStatus (s : State) : (ownStatus s).length = 64 := by simp [ownStatus]

theorem imgRead_eq {s : State} {w : Work} (h1 : 1 ≤ spaceOf (field w.payload 0 4 0)) (h8 : spaceOf (field w.payload 0 4 0) ≤ 8)
    (hix : indexOk (spaceOf (field w.payload 0 4 0)) (indexOf (field w.payload 0 4 0)) = true) :
    ∃ p, imgRead w s = (.done DONE p, s) ∧ p.take 4 = leBytes 4 (field w.payload 0 4 0)
      ∧ (isWordPoint (field w.payload 0 4 0) = true → slice p 8 4 = leBytes 4 (readValue s (field w.payload 0 4 0)).toNat) := by
  have hpass : firstStatus [(spaceOf (field w.payload 0 4 0) = 0 || decide (9 ≤ spaceOf (field w.payload 0 4 0))
      || !indexOk (spaceOf (field w.payload 0 4 0)) (indexOf (field w.payload 0 4 0)), CHECK_FAILED)] = none := by
    simp [firstStatus, hix]
    omega
  unfold imgRead
  refine ⟨_, checked_pass hpass, ?_, fun hw => ?_⟩
  · simp
  · obtain ⟨m, hm⟩ : ∃ m, min (if payloadBit w.payload 6 0 then 904 else 1018)
        (clamp 1 (spaceEnd (spaceOf (field w.payload 0 4 0)) (indexOf (field w.payload 0 4 0)) - indexOf (field w.payload 0 4 0))
          (field w.payload 4 2 1)) = m + 1 := by
      refine Nat.exists_eq_succ_of_ne_zero ?_
      simp only [clamp]
      split <;> omega
    simp only [hw, if_true, hm, List.range_succ_eq_map, List.map_cons, List.flatMap_cons]
    simp [slice, List.drop_append]

/-- A card that answers from the ends of a log: its first bytes. -/
theorem soeRead_eq {s : State} {w : Work} {a z : EvRec} (ha : (soeHeld s).head? = some a) (hz : (soeHeld s).getLast? = some z)
    (hn : newerSeq (field w.payload 0 4 0) z.seq = false) :
    ∃ p, soeRead w s = (.done DONE p, s) ∧ slice p 8 8 = leBytes 4 a.seq ++ leBytes 4 z.seq := by
  unfold soeRead
  simp only [ha, hz]
  refine ⟨_, checked_pass (by simp [firstStatus, hn]), ?_⟩
  simp [slice, List.drop_append, List.take_append]

theorem faultLogRead_eq {s : State} {w : Work} {a z : FaultEnt} {r : List FaultEnt} (hl : s.sup.log = z :: r)
    (ha : s.sup.log.reverse.head? = some a) (hn : newerSeq (field w.payload 0 4 0) z.seq = false) :
    ∃ p, faultLogRead w s = (.done DONE p, s) ∧ slice p 8 8 = leBytes 4 a.seq ++ leBytes 4 z.seq := by
  have hz : s.sup.log.head? = some z := by rw [hl]; rfl
  unfold faultLogRead
  simp only [ha, hz]
  refine ⟨_, checked_pass (by simp [firstStatus, hn]), ?_⟩
  simp [slice, List.drop_append, List.take_append]

theorem safConnStatus_eq {s : State} {w : Work} (hc : (spb s).conns ≠ []) :
    ∃ p, safConnStatus w s = (.done DONE p, s) ∧ p.length = 48
      ∧ p.take 1 = leBytes 1 (min (field w.payload 0 1 0) ((spb s).conns.length - 1)) := by
  have hlen : 0 < (spb s).conns.length := List.length_pos_iff.mpr hc
  have hk : min (field w.payload 0 1 0) ((spb s).conns.length - 1) < (spb s).conns.length := by omega
  unfold safConnStatus
  simp only [List.getElem?_eq_getElem hk]
  exact ⟨_, rfl, by simp, by simp⟩

theorem ringStatus_eq {s : State} {w : Work} (hsel : field w.payload 0 1 0 = 0) :
    ∃ p, ringStatus w s = (.done DONE p, s) ∧ p.length = 64 ∧ p.take 2 = leBytes 1 0 ++ leBytes 1 (ringState s) := by
  have h0 : (if isStation s = true ∨ 62 < field w.payload 0 1 0 then 0 else field w.payload 0 1 0) = 0 := by simp [hsel]
  unfold ringStatus
  simp only [h0]
  by_cases hs : isStation s = true
  · simp only [hs, if_true, ringState]
    exact ⟨_, rfl, length_ownStatus s, by simp [ownStatus, List.take_append]⟩
  · rw [if_neg hs]
    exact ⟨_, rfl, by simp, by simp [List.take_append]⟩

/-- Three fields of two bytes behind four of one. -/
theorem slice_fields (a b c d e f g : Nat) (r : Bytes) :
    slice (leBytes 1 a ++ (leBytes 1 b ++ (leBytes 1 c ++ (leBytes 1 d ++ (leBytes 2 e ++ (leBytes 2 f ++ (leBytes 2 g ++ r)))))))
      4 6 = leBytes 2 e ++ leBytes 2 f ++ leBytes 2 g := by
  simp [slice, List.drop_append, List.take_append]

theorem sysStateGet_eq (s : State) (w : Work) : ∃ p, sysStateGet w s = (.done DONE p, s) ∧ p.length = 36
    ∧ slice p 4 6 = leBytes 2 s.power.vinMv ++ leBytes 2 s.power.vholdMv ++ leBytes 2 s.power.vrtcMv := by
  unfold sysStateGet
  refine ⟨_, rfl, by simp, ?_⟩
  simp only [List.append_assoc]
  simpa using slice_fields ..

theorem healthReport_eq {s : State} {w : Work} (hsel : field w.payload 0 1 0 = 0) :
    healthReport w s = (.done DONE (s.sup.report.getD (zeros 64)), s) := by
  simp [healthReport, hsel]

theorem ldgRead_eq {s : State} {w : Work} {r : LdgRec} (hr : curRec s (field w.payload 0 2 0) = some r) :
    ∃ p, ldgRead w s = (.done DONE p, s) ∧ p.drop 24 = ((recData s (field w.payload 0 2 0) r).drop (field w.payload 2 2 0)).take
      (min (min 4056 (field w.payload 4 2 4056)) ((recData s (field w.payload 0 2 0) r).length - field w.payload 2 2 0)) := by
  unfold ldgRead
  simp only [hr]
  refine ⟨_, rfl, ?_⟩
  simp [List.drop_append]

theorem tblRead_eq {s : State} {w : Work} (hlen : ((prog s).tables.get {} (field w.payload 0 1 0)).len ≠ 0)
    (hle : field w.payload 4 4 0 ≤ ((prog s).tables.get {} (field w.payload 0 1 0)).len) :
    ∃ p, tblRead w s = (.done DONE p, s) ∧ p.drop 16 = Memory.readBytes s.eng.tables
      (((prog s).tables.get {} (field w.payload 0 1 0)).base + field w.payload 4 4 0) (min (min 4064 (field w.payload 8 4 4064))
        (((prog s).tables.get {} (field w.payload 0 1 0)).len - field w.payload 4 4 0)) := by
  unfold tblRead
  refine ⟨_, checked_pass (by simp [firstStatus, hlen, hle]), ?_⟩
  simp [List.drop_append]

theorem editStatus_eq {s : State} {w : Work} (hr : s.pair.role ≠ .apprentice) :
    ∃ p, editStatus w s = (.done DONE p, forward 0x0405 w.payload s) ∧ p.length = 44 ∧ (s.pair.role ≠ .station →
      p.take 4 = leBytes 1 s.edit.state ++ leBytes 1 s.edit.cause ++ leBytes 2 s.edit.id) := by
  unfold editStatus
  refine ⟨_, checked_pass (by simp [firstStatus, isApprentice, hr]), ?_, fun hst => ?_⟩
  · split <;> simp
  · simp [isStation, hst, List.take_append]

end Sys2Proof.Machine

open Sys2Proof Sys2Proof.Machine

/-- Settles O37: each card answers with the state as it is. -/
theorem queriesReportAndChangeNothing : Obligations.QueriesReportAndChangeNothing := by
  intro s t mb w u reports
  refine ⟨fun h => ?_, fun h => ?_, fun h => ?_, fun h => ?_, fun h => ?_, fun a ha h1 h8 hix h => ?_, fun a z ha hz hn h => ?_,
    fun h hr => ?_, fun h hr => ?_, fun h => ?_, fun hc h => ?_, fun hsel h => ?_, fun h => ?_, fun hsel h => ?_,
    fun a z r hl ha hn h => ?_, fun r hr h => ?_, fun d off hd hoff hlen hle h => ?_⟩
  · refine ⟨_, runCommand_answers h rfl rfl, by simp, ?_⟩
    simp only [List.append_assoc, List.take_append, length_leBytes]
    simp
    rfl
  · obtain ⟨p, hf, hp⟩ := sysStateGet_eq u w
    exact ⟨p, runCommand_answers h hf rfl, by simpa [u] using hp⟩
  · refine ⟨_, runCommand_answers h rfl rfl, by simp, ?_⟩
    simp [List.take_append, u]
  · refine ⟨_, runCommand_answers h rfl rfl, by simp, ?_⟩
    simp [List.take_append]
  · refine ⟨_, runCommand_answers h rfl rfl, by simp, fun hst => ?_⟩
    have hs : isStation s = false := by simpa [isStation] using hst
    simp [slice, List.drop_append, hs]
  · subst ha
    obtain ⟨p, hf, hp, hv⟩ := imgRead_eq (s := u) (w := w) h1 h8 hix
    exact ⟨p, runCommand_answers h hf rfl, hp, hv⟩
  · obtain ⟨p, hf, hp⟩ := soeRead_eq (s := u) (w := w) (by simpa [u] using ha) (by simpa [u] using hz) hn
    exact ⟨p, runCommand_answers h hf rfl, hp⟩
  · obtain ⟨p, hf, hlen, hp⟩ := editStatus_eq (s := u) (w := w) (by simpa [u] using hr)
    exact ⟨p, runCommand_answers h hf (by simp [u]), hlen, by simpa [u] using hp⟩
  · exact runCommand_answers h (checked_fail (by simp [firstStatus, isApprentice, hr])) rfl
  · refine ⟨_, runCommand_answers h rfl rfl, by simp, ?_⟩
    simp [slice, List.drop_append]
  · obtain ⟨p, hf, hp⟩ := safConnStatus_eq (s := u) (w := w) (by simpa [u] using hc)
    exact ⟨p, runCommand_answers h hf rfl, by simpa [u] using hp⟩
  · obtain ⟨p, hf, hp⟩ := ringStatus_eq (s := u) (w := w) hsel
    exact ⟨p, runCommand_answers h hf rfl, hp⟩
  · refine ⟨_, runCommand_answers h rfl rfl, by simp, ?_⟩
    simp [slice, List.drop_append]
  · refine ⟨_, runCommand_answers h (healthReport_eq hsel) rfl, ?_⟩
    rw [advance_sup]
  · obtain ⟨p, hf, hp⟩ := faultLogRead_eq (s := u) (w := w) (by rw [advance_sup, hl]) (by rw [advance_sup, ha]) hn
    exact ⟨p, runCommand_answers h hf rfl, hp⟩
  · obtain ⟨p, hf, hp⟩ := ldgRead_eq (s := u) (w := w) (r := r) (by simpa [u] using hr)
    exact ⟨p, runCommand_answers h hf rfl, by simpa [u] using hp⟩
  · subst hd hoff
    obtain ⟨p, hf, hp⟩ := tblRead_eq (s := u) (w := w) (by simpa [u] using hlen) (by simpa [u] using hle)
    exact ⟨p, runCommand_answers h hf rfl, by simpa [u] using hp⟩

end

section
/-! PROOFS. Program load, mode, forces and task parameters (R162, R175-R178, R181, R182). -/

namespace Sys2Proof.Machine

/-- A card that answers later: the request runs on. -/
theorem runCommand_defers {s s1 : State} {t mb code : Nat} {w : Work} {f : Work → State → Reply × State}
    (h : Asks s mb code w) (hf : f w (advance t s) = (.later, s1)) :
    Host.Outcome.next (runCommand t mb code f s) = (.next (putWork { w with running := true } s1) : Result State) :=
  congrArg Host.Outcome.next (runCommand_later h hf)

/-- A block that is new, of its length and of its hash is stored. -/
theorem takeBlock_new {id : Nat} {known : Bool} {hd : Bytes} {blocks : Tbl Bytes} {p : Bytes} {store : Tbl Bytes → State} {s : State}
    (hk : known = true) (hb : blocks.get [] (min (field p 4 4 0) (hdrBlocks hd - 1)) = [])
    (hl : blockLenOk hd (min (field p 4 4 0) (hdrBlocks hd - 1)) (p.drop 8).length = true)
    (hh : blockHashOk hd blocks (min (field p 4 4 0) (hdrBlocks hd - 1)) (p.drop 8) = true) :
    takeBlock id known hd blocks p store s = (.done DONE (leBytes 2 id ++ zeros 2 ++ leBytes 4 (blocks.length + 1)),
      store (blocks.set [] (min (field p 4 4 0) (hdrBlocks hd - 1)) (p.drop 8))) := by
  simp only [takeBlock, hb, ne_eq, not_true, decide_false, Bool.false_eq_true, if_false]
  have hl' := hl
  simp only [List.length_drop] at hl'
  exact checked_pass (by simp [firstStatus, hk, hl', hh])

theorem isKeeper_solo {s : State} (h : s.pair.role = .solo) : isKeeper s = false := by simp [isKeeper, h]
theorem isApprentice_solo {s : State} (h : s.pair.role = .solo) : isApprentice s = false := by simp [isApprentice, h]
theorem inPair_solo {s : State} (h : s.pair.role = .solo) : inPair s = false := by simp [inPair, isKeeper, isApprentice, h]

/-- A SOLO module hands nothing on. -/
theorem forward_solo {s : State} (h : s.pair.role = .solo) (code : Nat) (p : Bytes) : forward code p s = s := by
  simp [forward, isKeeper_solo h]

theorem inHoldup_eq_false {s : State} (h : s.power.state ≠ .holdup) : inHoldup s = false := by simpa [inHoldup] using h

theorem notMine_solo {s : State} (h : s.pair.role = .solo) (hp : s.power.state ≠ .holdup) : notMine s = false := by
  simp [notMine, isApprentice_solo h, inHoldup_eq_false hp, isStation, h]

theorem applyIfStopped_running {s : State} (h : s.scan.mode = 2) : applyIfStopped s = s := if_pos h

/-- Only bits are points of a Reflex channel. -/
theorem reflexQx_wordPoint {s : State} {a : Nat} (h : isWordPoint a = true) : reflexQx s a = false := by
  have h2 : spaceOf a ≠ 2 := by
    rintro h2
    simp [isWordPoint, h2] at h
  simp [reflexQx, h2]

/-- The checks of IMG_FORCE for a word point that a SOLO module may force. -/
theorem imgForce_passes {s : State} {w : Work} {op : Nat} (hop : field w.payload 0 1 1 = op) (hle : op ≤ 1)
    (hrole : s.pair.role = .solo) (hpow : s.power.state ≠ .holdup) (hword : isWordPoint (field w.payload 4 4 0) = true)
    (h1 : 1 ≤ spaceOf (field w.payload 4 4 0)) (h5 : spaceOf (field w.payload 4 4 0) ≤ 5)
    (hix : indexOk (spaceOf (field w.payload 4 4 0)) (indexOf (field w.payload 4 4 0)) = true)
    (hsafe : safetyPoint s (field w.payload 4 4 0) = false) (hroom : op = 0 → (forcesAhead s).length < 256) :
    ∃ p, imgForce w s = (.done DONE p, forcePoint op (field w.payload 4 4 0) (w32 (field w.payload 8 4 0)) s) := by
  have hop' : (if 2 < field w.payload 0 1 1 then 1 else field w.payload 0 1 1) = op := by rw [hop, if_neg (by omega)]
  unfold imgForce
  simp only [hop', hword, if_true, inPair_solo hrole, Bool.false_eq_true, if_false]
  refine ⟨_, checked_pass ?_⟩
  have hnot : ¬(op = 0 ∧ 256 ≤ (forcesAhead s).length) := fun h => absurd (hroom h.1) (by omega)
  simp [firstStatus, isApprentice_solo hrole, inHoldup_eq_false hpow, h1, h5, hix, hsafe, reflexQx_wordPoint hword]
  omega

theorem prgLoadBlock_new {s : State} {w : Work} {i : Nat} (hid : s.ps.loadId = some (field w.payload 0 2 0))
    (hi : i = min (field w.payload 4 4 0) (hdrBlocks s.ps.header - 1)) (hb : s.ps.blocks.get [] i = [])
    (hl : blockLenOk s.ps.header i (w.payload.drop 8).length = true)
    (hh : blockHashOk s.ps.header s.ps.blocks i (w.payload.drop 8) = true) :
    prgLoadBlock w s = (.done DONE (leBytes 2 (field w.payload 0 2 0) ++ zeros 2 ++ leBytes 4 (s.ps.blocks.length + 1)),
      forward 0x0302 w.payload { s with ps.blocks := s.ps.blocks.set [] i (w.payload.drop 8) }) := by
  subst hi
  unfold prgLoadBlock
  exact takeBlock_new (decide_eq_true hid) hb hl hh

theorem prgMode_waits {s : State} {w : Work} (hlt : field w.payload 0 1 0 < 3) (hp : s.ps.prog.isSome = true)
    (hmine : notMine s = false) (he : editBusy s = false) (hup : updBusy s = false) (hmd : s.scan.mode = 2) :
    prgMode w s = (.later, forward 0x0304 w.payload { s with
      scan.bnd := s.scan.bnd ++ [.prgMode (field w.payload 0 1 0) w.wid] }) := by
  have hm : (if 3 < field w.payload 0 1 0 then 0 else field w.payload 0 1 0) = field w.payload 0 1 0 := if_neg (by omega)
  have hne : field w.payload 0 1 0 ≠ 3 := by omega
  have hnone : s.ps.prog.isNone = false := by rw [← Option.not_isSome, hp]; rfl
  unfold prgMode
  simp only [hm]
  refine (checked_pass ?_).trans ?_
  · simp only [firstStatus, hnone, hne, hmine, he, hup]
    simp
  · rw [applyIfStopped_running (by simpa only [forward_frame] using hmd)]

theorem taskCfg_waits {s : State} {w : Work} {d : TaskDecl} {n : Nat} (hn : n = min 50 (field w.payload 0 1 0))
    (hd : taskDecl s n = some d) (hev : isEventTask n = true) (hsf : safetyTask (prog s) n = false) (hr : s.pair.role = .solo)
    (hpw : s.power.state ≠ .holdup) (hmd : s.scan.mode = 2) :
    taskCfg w s = (.later, { s with scan.bnd := s.scan.bnd ++ [.taskCfg n (askedCfg s d w.payload) w.wid] }) := by
  have hkind : isErrorTask n = false ∧ isPeriodicTask n = false ∧ n ≠ 0 := by
    simp only [isEventTask, decide_eq_true_eq] at hev
    simp only [isErrorTask, isPeriodicTask, decide_eq_false_iff_not]
    omega
  obtain ⟨herr, hper, h0⟩ := hkind
  unfold taskCfg
  dsimp only
  rw [← hn]
  simp only [hd, herr, Bool.false_eq_true, if_false]
  refine (checked_pass ?_).trans ?_
  · simp [firstStatus, hsf, hper, h0, notMine_solo hr hpw]
  · rw [forward_solo (by exact hr), applyIfStopped_running (by exact hmd)]

/-- PRG_LOAD_END by the outcome of the load's checks: the load is dropped, and its image waits only if they all pass. -/
theorem prgLoadEnd_eq {s : State} {w : Work} (hid : s.ps.loadId = some (field w.payload 0 2 0)) :
    ∃ st p v, prgLoadEnd w s = (.done st p, v) ∧ v.host = s.host ∧ v.ps.loadId = none ∧ v.ps.blocks = [] ∧ v.ps.prog = s.ps.prog
      ∧ (st = DONE ↔ (loadCheck s s.ps.header s.ps.blocks).1 = 0) ∧ (st = DONE ∨ st = CHECK_FAILED)
      ∧ v.ps.pendingImg = (if st = DONE then some (loadedImage s s.ps.header s.ps.blocks) else s.ps.pendingImg) := by
  have hne : CHECK_FAILED ≠ DONE := by decide
  unfold prgLoadEnd
  dsimp only
  rw [if_neg (not_not.mpr hid)]
  by_cases hc : (loadCheck s s.ps.header s.ps.blocks).1 = 0
  · rw [if_pos hc]
    exact ⟨_, _, _, rfl, by simp [dropLoad], by simp [dropLoad], by simp [dropLoad], by simp [dropLoad], iff_of_true rfl hc,
      .inl rfl, by simp⟩
  · rw [if_neg hc]
    exact ⟨_, _, _, rfl, by simp [dropLoad], by simp [dropLoad], by simp [dropLoad], by simp [dropLoad], iff_of_false hne hc,
      .inr rfl, by simp [dropLoad, hne]⟩

end Sys2Proof.Machine

open Sys2Proof Sys2Proof.Machine

/-- Settles O36: each card by its checks and its effect. -/
theorem programCommands : Obligations.ProgramCommands := by
  intro s t mb w u id h
  have hrole {r : Role} (h : s.pair.role = r) : u.pair.role = r := by rw [show u.pair = s.pair from advance_pair t s, h]
  have hpow {x : PState} (h : s.power.state ≠ x) : u.power.state ≠ x := by rwa [show u.power = s.power from advance_power t s]
  refine ⟨fun hq hh htot hid he hup hm => ?_, fun i hq hid hi hb hl hh => ?_, fun hq hid => ?_, fun mode hq hm hlt hp hmine he hup hmd => ?_,
    fun a x hq hop ha hx hr hpw hw h1 h5 hix hsf hlen => ?_, fun a old hq hop ha hr hpw hw h1 h5 hix hsf hold => ?_,
    fun d n hq hn hd hev hsf hr hsh hpw hmd => ?_⟩
  · rw [show s.ps = u.ps from (advance_ps t s).symm]
    refine ⟨_, runCommand_answers hq (checked_pass ?_) (by simp [u])⟩
    have hl : loading u = false := by simp [loading, u, hid]
    have hh' : headerOk 1 (field w.payload 0 4 0) (w.payload.drop 8) s = true := hh
    simp [firstStatus, u, hh', not_lt.mpr htot, hl, he, hup, hm]
  · rw [show s.ps = u.ps from (advance_ps t s).symm] at hid hi hb hl hh ⊢
    exact runCommand_answers hq (prgLoadBlock_new hid hi hb hl hh) (by simp [u])
  · rw [show s.ps = u.ps from (advance_ps t s).symm, ← loadCheck_advance t, ← loadedImage_advance t] at *
    obtain ⟨st, p, v, hf, hhost, hv⟩ := prgLoadEnd_eq (s := u) (w := w) hid
    exact ⟨st, p, v, runCommand_answers hq hf (by rw [hhost]), hv⟩
  · subst hm
    rw [show s.scan = u.scan from (advance_scan t s).symm] at hmd ⊢
    exact runCommand_defers hq (prgMode_waits hlt (by simpa [u] using hp) (by simpa [u] using hmine) (by simpa [u] using he)
      (by simpa [u] using hup) hmd)
  · subst ha hx
    obtain ⟨p, hf⟩ := imgForce_passes (s := u) (w := w) hop (by omega) (hrole hr) (hpow hpw) hw h1 h5 hix (by simpa [u] using hsf)
      (fun _ => by simpa [u] using hlen)
    rw [show s.scan = u.scan from (advance_scan t s).symm]
    exact ⟨p, runCommand_answers hq hf rfl⟩
  · subst ha
    obtain ⟨p, hf⟩ := imgForce_passes (s := u) (w := w) hop (by omega) (hrole hr) (hpow hpw) hw h1 h5 hix (by simpa [u] using hsf)
      (fun h => absurd h (by omega))
    rw [show s.scan = u.scan from (advance_scan t s).symm] at hold ⊢
    refine ⟨p, runCommand_answers hq (hf.trans ?_) rfl⟩
    simp [forcePoint, forceOf, hold]
  · rw [show s.scan = u.scan from (advance_scan t s).symm] at hmd ⊢
    rw [← askedCfg_advance t]
    exact runCommand_defers hq (taskCfg_waits hn (by simpa [u] using hd) hev (by simpa [u] using hsf) (hrole hr) (hpow hpw) hmd)

end

section
/-! PROOFS. Online edits: staging, checks, commit and end (R278, R288-R292). -/

namespace Sys2Proof.Machine

@[simp] theorem stageCode_frame (s : State) :
    (stageCode s).img = s.img ∧ (stageCode s).scan = s.scan ∧ (stageCode s).ps = s.ps ∧ (stageCode s).edit = s.edit
      ∧ (stageCode s).host = s.host := by
  unfold stageCode
  and_intros <;> exact foldl_keeps _ (by intro s a; dsimp only; (repeat' split) <;> simp) _ _

@[simp] theorem armRegion_frame (q : Partition) (s : State) (l : Nat) :
    (armRegion q s l).img = s.img ∧ (armRegion q s l).scan = s.scan ∧ (armRegion q s l).ps = s.ps
      ∧ (armRegion q s l).edit = s.edit ∧ (armRegion q s l).host = s.host := by simp [armRegion]

theorem touchEdit_staged {s : State} {id : Nat} (h1 : s.edit.state = 1) (hid : s.edit.id = id) :
    touchEdit id s = { s with edit.lastCmd := s.now } := if_pos ⟨h1, hid⟩

theorem partnerChecked_unasked {s : State} (h : s.edit.asked = false) (st c r : Nat) : partnerChecked st c r s = s := by
  simp [partnerChecked, h]

theorem editStage_passes {s : State} {w : Work} (hfit : fitsShadow s (descOf (w.payload.drop 8)) = true)
    (hboth : hasBoth (descOf (w.payload.drop 8)) = true) (hok : headerOk 2 (field w.payload 0 4 0) (w.payload.drop 8) s = true)
    (himg : w32 (leNat (slice (descOf (w.payload.drop 8)) 0 4)) = (prog s).imageId)
    (hbase : leNat (slice (descOf (w.payload.drop 8)) 4 4) = s.ps.epoch) (hlen : (prog s).len + field w.payload 0 4 0 ≤ 25165824)
    (hbusy : editBusy s = false) (hload : s.ps.loadId = none) (hupd : updBusy s = false) (hprof : profileWaits s = false)
    (hprog : s.ps.prog.isSome = true) (hmine : notMine s = false) :
    ∃ p, editStage w s = (.done DONE p, forward 0x0401 w.payload { s with
      edit.state := 1, edit.cause := 0, edit.id := (s.edit.id + 1) % 65536, edit.newEpoch := s.ps.epoch + 1
      edit.header := w.payload.drop 8, edit.blocks := [], edit.switchScan := 0, edit.epoch := none
      edit.signed := ownerOk s (w.payload.drop 8), edit.lastCmd := s.now, edit.switchAt := none }) := by
  have hl : loading s = false := by simp [loading, hload]
  have hnone : s.ps.prog.isNone = false := by rw [← Option.not_isSome, hprog]; rfl
  unfold editStage
  simp only [hbase]
  refine ⟨_, checked_pass ?_⟩
  simp only [firstStatus, hfit, hboth, hok, himg, hbusy, hl, hupd, hprof, hnone, hmine]
  simp [not_lt.mpr hlen]

theorem editBlock_new {s : State} {w : Work} {i : Nat} (h1 : s.edit.state = 1) (hid : s.edit.id = field w.payload 0 2 0)
    (hr : s.pair.role ≠ .apprentice) (hi : i = min (field w.payload 4 4 0) (hdrBlocks s.edit.header - 1))
    (hb : s.edit.blocks.get [] i = []) (hl : blockLenOk s.edit.header i (w.payload.drop 8).length = true)
    (hh : blockHashOk s.edit.header s.edit.blocks i (w.payload.drop 8) = true) {v : State}
    (hv : v = forward 0x0402 w.payload { s with
      edit.lastCmd := s.now, edit.blocks := s.edit.blocks.set [] i (w.payload.drop 8) }) :
    editBlock w s = (.done DONE (leBytes 2 (field w.payload 0 2 0) ++ zeros 2 ++ leBytes 4 (s.edit.blocks.length + 1)),
      if allStored s.edit.header v.edit.blocks && payloadOk s.edit.header v.edit.blocks then stageCode v else v) := by
  have happ : isApprentice s = false := by simpa [isApprentice] using hr
  have hve : v.edit = { s.edit with lastCmd := s.now, blocks := s.edit.blocks.set [] i (w.payload.drop 8) } := by
    simp only [hv, forward_frame]
  subst hi
  unfold editBlock
  simp only [happ, Bool.false_eq_true, if_false, touchEdit_staged h1 hid]
  refine (takeBlock_new ?_ hb hl hh).trans ?_
  · simp [staged, h1, hid, isApprentice, hr]
  · simp only [hve, ← hv]

/-- EDIT_COMMIT at a KEEPER that ships: the partner is asked. -/
theorem editCommit_asks {s : State} {w : Work} (h1 : s.edit.state = 1) (hid : s.edit.id = field w.payload 0 2 0)
    (hho : s.pair.handover = none) (hr : s.pair.role = .keeper) (hsh : s.pair.shipping = true) (hask : s.edit.asked = false) :
    editCommit w s = (.later, forward 0x0403 w.payload { s with edit.lastCmd := s.now, edit.asked := true }) := by
  simp [editCommit, isApprentice, hr, touchEdit_staged h1 hid, hho, staged, h1, hid, hask, isKeeper, hsh]

/-- EDIT_COMMIT of a module that does not ship: its own checks decide. -/
theorem editCommit_here {s : State} {w : Work} (h1 : s.edit.state = 1) (hid : s.edit.id = field w.payload 0 2 0)
    (hho : s.pair.handover = none) (hr : s.pair.role ≠ .apprentice) (hsh : s.pair.shipping = false) (hask : s.edit.asked = false) :
    editCommit w s = (.done (commitHere (field w.payload 0 2 0) { s with edit.lastCmd := s.now }).1
      (commitHere (field w.payload 0 2 0) { s with edit.lastCmd := s.now }).2.1,
      (commitHere (field w.payload 0 2 0) { s with edit.lastCmd := s.now }).2.2) := by
  simp [editCommit, isApprentice, hr, touchEdit_staged h1 hid, hho, staged, h1, hid, hask, hsh]

theorem editAbort_ends {s : State} {w : Work} (h1 : s.edit.state = 1) (hid : s.edit.id = field w.payload 0 2 0)
    (hr : s.pair.role ≠ .apprentice) (hask : s.edit.asked = false) :
    ∃ p, editAbort w s = (.done DONE p, forward 0x0404 w.payload (abortEdit 1 s)) := by
  unfold editAbort
  rw [partnerChecked_unasked (by simpa [abortEdit] using hask)]
  exact ⟨_, checked_pass (by simp [firstStatus, staged, h1, hid, isApprentice, hr])⟩

theorem commitHere_fails {s : State} {id : Nat} (h : (commitCheck s (stagedEpoch s)).1 ≠ 0) :
    ∃ p, commitHere id s = ((commitCheck s (stagedEpoch s)).2.2, p, abortEdit 7 s) :=
  ⟨_, if_pos h⟩

theorem commitEpoch_frame (e : Epoch) (S : Nat) (s : State) : (commitEpoch e S s).img = s.img ∧ (commitEpoch e S s).scan = s.scan
    ∧ (commitEpoch e S s).ps = s.ps ∧ (commitEpoch e S s).host = s.host ∧ (commitEpoch e S s).edit
      = { s.edit with state := 2, cause := 0, epoch := some e, switchScan := S, asked := false } := by
  unfold commitEpoch
  exact ⟨foldl_keeps State.img (by simp) .., foldl_keeps State.scan (by simp) .., foldl_keeps State.ps (by simp) ..,
    foldl_keeps State.host (by simp) .., foldl_keeps State.edit (by simp) ..⟩

theorem commitHere_passes {s : State} {id : Nat} (h : (commitCheck s (stagedEpoch s)).1 = 0) (hmd : s.scan.mode = 2) :
    ∃ p v, commitHere id s = (DONE, p, v) ∧ v.host = s.host ∧ v.edit.state = 2 ∧ v.edit.switchScan = s.scan.scan + 3
      ∧ v.edit.epoch = some (stagedEpoch s) ∧ v.ps = s.ps ∧ v.scan = s.scan ∧ v.img = s.img := by
  obtain ⟨himg, hscan, hps, hhost, hedit⟩ := commitEpoch_frame (stagedEpoch s) (s.scan.scan + 3) s
  refine ⟨commitAnswer s id 0 0 (s.scan.scan + 3), pairSend { kind := 7, num := 2, scan := s.scan.scan + 3 } (commitEpoch (stagedEpoch s) (s.scan.scan + 3) s), ?_, ?_⟩
  · simp only [commitHere, h, hmd, if_true]
    rfl
  · simp [himg, hscan, hps, hhost, hedit]

end Sys2Proof.Machine

open Sys2Proof Sys2Proof.Machine

/-- Settles O33: each card by its checks and its effect, and the silence of 60 s. -/
theorem editCommands : Obligations.EditCommands := by
  intro s t mb w u id h c
  have hp : u.pair = s.pair := advance_pair t s
  rw [show s.edit = u.edit from (advance_edit t s).symm, show s.pair = u.pair from hp.symm,
    show s.scan = u.scan from (advance_scan t s).symm, show s.ps = u.ps from (advance_ps t s).symm,
    show s.img = u.img from (advance_img t s).symm]
  refine ⟨fun hq hfit hboth hok himg hbase hlen hbusy hload hupd hprof hprog hmine => ?_, fun i hq h1 hid hr hi hb hl hh => ?_,
    fun hq h1 hid hho hr hsh hask => ?_, fun hq h1 hid hho hr hsh hask => ⟨fun hc => ?_, fun hc hmd => ?_⟩,
    fun hq h1 hid hr hask => ?_, fun hq hno => ?_, fun h1 hask hpass => ?_⟩
  · obtain ⟨p, hf⟩ := editStage_passes (s := u) (w := w) (by rw [fitsShadow_advance]; exact hfit) hboth
      (by rw [headerOk_advance]; exact hok) (by rw [prog_advance]; exact himg) hbase (by rw [prog_advance]; exact hlen)
      (by rw [editBusy_advance]; exact hbusy) hload (by rw [updBusy_advance]; exact hupd)
      (by rw [profileWaits_advance]; exact hprof) hprog (by rw [notMine_advance]; exact hmine)
    rw [ownerOk_advance] at hf
    exact ⟨p, runCommand_answers hq hf (by simp [u])⟩
  · refine runCommand_answers hq (editBlock_new h1 hid hr hi hb hl hh rfl) ?_
    split <;> simp [u]
  · exact runCommand_defers hq (editCommit_asks h1 hid hho hr hsh hask)
  · have hst : stagedEpoch { u with edit.lastCmd := u.now } = stagedEpoch s := stagedEpoch_advance t s
    have hc' : c = commitCheck { u with edit.lastCmd := u.now } (stagedEpoch { u with edit.lastCmd := u.now }) := by rw [hst]
    have hf := editCommit_here h1 hid hho hr hsh hask
    rw [hc'] at hc ⊢
    obtain ⟨p, hf'⟩ := commitHere_fails (id := field w.payload 0 2 0) hc
    rw [hf'] at hf
    exact ⟨p, runCommand_answers hq hf rfl⟩
  · have hst : stagedEpoch { u with edit.lastCmd := u.now } = stagedEpoch s := stagedEpoch_advance t s
    have hf := editCommit_here h1 hid hho hr hsh hask
    rw [← hst]
    obtain ⟨p, v, hf', hhost, hv⟩ := commitHere_passes (s := { u with edit.lastCmd := u.now }) (id := field w.payload 0 2 0)
      (by rw [hst]; exact hc) hmd
    rw [hf'] at hf
    exact ⟨p, v, runCommand_answers hq hf (congrArg HostPort.works hhost), hv⟩
  · obtain ⟨p, hf⟩ := editAbort_ends h1 hid hr hask
    exact ⟨p, runCommand_answers hq hf (by simp [abortEdit, u])⟩
  · refine runCommand_answers hq (checked_fail ?_) rfl
    have hbad : (!staged u (field w.payload 0 2 0) || isApprentice u) = true := by
      rcases hno with hno | hno
      · simp [staged, hno]
      · simp [isApprentice, hno]
    exact if_pos hbad
  · refine congrArg Host.Outcome.next ((if_pos ⟨h1, decide_eq_true hpass⟩).trans (partnerChecked_unasked ?_ ..))
    exact hask

end

section
/-! PROOFS. Ledger records, parts, classes and tables (R425-R427, R437, R438, R445-R448, R450). -/

namespace Sys2Proof.Machine

@[simp] theorem firnRoom_frame (size : Nat) (s : State) :
    (firnRoom size s).img = s.img ∧ (firnRoom size s).eng = s.eng ∧ (firnRoom size s).host = s.host := by
  unfold firnRoom
  and_intros <;> split <;> simp

@[simp] theorem firnPlace_frame (key len : Nat) (s : State) : (firnPlace key len s).img = s.img
    ∧ (firnPlace key len s).eng = s.eng ∧ (firnPlace key len s).host = s.host := by
  simp [firnPlace]

/-! ### Counters -/

/-- A fold or a put leaves the counter at the value that was put. -/
theorem value_put (c : CntRec) (v : Nat) : (c.put v).value = min v (2 ^ 128 - 1) := by
  have hmod : ∀ g : Nat, g % 65536 ≠ (g + 1) % 65536 := fun g => by omega
  unfold CntRec.put
  split
  next h =>
    obtain ⟨hok, hgen⟩ : c.okA = true ∧ c.genA % 65536 = c.genD := by simpa [CntRec.baseIsA] using h
    simp [CntRec.value, CntRec.baseIsA, hok, hmod c.genA]
  next h => simp [CntRec.value, CntRec.baseIsA]

theorem value_fold (c : CntRec) : c.fold.value = c.value := by
  rw [CntRec.fold, value_put, CntRec.value]
  omega

/-- An ADD adds, and saturates. -/
theorem value_add (c : CntRec) (n : Nat) : (c.add n).value = min (c.value + n) (2 ^ 128 - 1) := by
  unfold CntRec.add
  split
  · have hb : ({ c with delta := c.delta + n } : CntRec).baseIsA = c.baseIsA := rfl
    simp only [CntRec.value, hb]
    generalize (if c.baseIsA = true then c.valueA else c.valueB) = b
    generalize (2 ^ 128 - 1 : Nat) = m
    omega
  · exact value_put ..

/-! ### Placing a record -/

/-- A record that is placed is its key's current copy, and no other key's. -/
theorem rawRec_placeRec (k j : Nat) (r : LdgRec) (s : State) :
    rawRec (placeRec k r s) j = if j = k then some r else rawRec s j := by
  unfold placeRec
  dsimp only
  by_cases hj : j = k
  · (repeat' split) <;> simp_all [rawRec, hotRec, mramRec]
  · (repeat' split) <;> simp_all [rawRec, hotRec, mramRec]

theorem placeRec_frame (k : Nat) (r : LdgRec) (s : State) : (placeRec k r s).img = s.img ∧ (placeRec k r s).host = s.host
    ∧ (placeRec k r s).ldg.home = s.ldg.home ∧ (placeRec k r s).ldg.cnt = s.ldg.cnt := by
  unfold placeRec
  dsimp only
  and_intros <;> (repeat' split) <;> rfl

theorem curRec_placeRec {k : Nat} {r : LdgRec} {s : State} (hd : r.deleted = false) (hv : r.valid = true) :
    curRec (placeRec k r s) k = some r := by
  rw [curRec, rawRec_placeRec, if_pos rfl]
  simp [hd, hv]

theorem curRec_placeRec_deleted {k : Nat} {r : LdgRec} {s : State} (hd : r.deleted = true) : curRec (placeRec k r s) k = none := by
  rw [curRec, rawRec_placeRec, if_pos rfl]
  simp [hd]

/-! ### LDG_WRITE by its OP -/

/-- What a request to LDG_WRITE has to say for a whole record of the key `k` with these data. -/
structure WholeWrite (s : State) (w : Work) (k op : Nat) (data : Bytes) : Prop where
  key : field w.payload 0 2 0 = k
  user : k < 0xFF00
  op : field w.payload 2 1 0 = op
  expect : field w.payload 4 4 0 = 0
  offset : field w.payload 8 2 0 = 0
  total : field w.payload 10 2 (w.payload.length - 16) = data.length
  short : data.length ≤ 4096
  up : inHoldup s = false
  tail : w.payload.drop 16 = data

theorem WholeWrite.op_eq {s : State} {w : Work} {k op : Nat} {data : Bytes} (h : WholeWrite s w k op data) (hop : op ≤ 3) :
    (if 3 < field w.payload 2 1 0 then 0 else field w.payload 2 1 0) = op := by
  rw [h.op, if_neg (by omega)]

theorem WholeWrite.data_eq {s : State} {w : Work} {k op : Nat} {data : Bytes} (h : WholeWrite s w k op data) :
    (w.payload.drop 16).take (min 4096 (field w.payload 0xA 2 (w.payload.length - 16)) - field w.payload 8 2 0) = data := by
  have hmin : min 4096 data.length = data.length := by have := h.short; omega
  rw [h.tail, h.total, h.offset, hmin, Nat.sub_zero, List.take_length]

theorem ldgWrite_record {s : State} {w : Work} {k : Nat} {data : Bytes} (h : WholeWrite s w k 0 data)
    (hfit : fits s k (newRec s k false false (List.replicate data.length 0#8)) = true) :
    ∃ p, ldgWrite w s = (.done DONE p, placeRec k (newRec s k false false data)
      { s with ldg.cnt := s.ldg.cnt.set none k none, ldg.parts := s.ldg.parts.set none k none }) := by
  have hmin : min 4096 data.length = data.length := by have := h.short; omega
  unfold ldgWrite
  simp only [h.op_eq (by omega), h.tail, h.key, h.expect, h.offset, h.total, hmin, Nat.sub_zero, List.take_length, le_refl, and_self,
    if_true]
  refine ⟨_, checked_pass ?_⟩
  have hfit' : fits s k { newRec s k false false data with data := List.replicate data.length 0#8 } = true := hfit
  simp [firstStatus, not_le.mpr h.user, h.up, hfit']

theorem ldgWrite_delete {s : State} {w : Work} {k : Nat} {data : Bytes} (h : WholeWrite s w k 1 data)
    (hcur : (curRec s k).isSome = true) :
    ∃ p, ldgWrite w s = (.done DONE p, placeRec k (newRec s k false true [])
      { s with ldg.cnt := s.ldg.cnt.set none k none, ldg.parts := s.ldg.parts.set none k none }) := by
  have hnone : (curRec s k).isNone = false := by rw [← Option.not_isSome, hcur]; rfl
  unfold ldgWrite
  simp only [h.op_eq (by omega), h.key, h.expect]
  refine ⟨_, checked_pass ?_⟩
  simp [firstStatus, not_le.mpr h.user, h.up, hnone]

theorem ldgWrite_add {s : State} {w : Work} {k : Nat} {data : Bytes} {r : LdgRec} (h : WholeWrite s w k 2 data)
    (hcur : curRec s k = some r) (hcnt : r.counter = true) :
    ∃ p, ldgWrite w s = (.done DONE p,
      putCounter k (CntRec.add ((s.ldg.cnt.get none k).getD {}) (leNat (data.take 8))) s) := by
  unfold ldgWrite
  simp only [h.op_eq (by omega), h.data_eq, h.key, h.expect, hcur]
  refine ⟨_, checked_pass ?_⟩
  simp [firstStatus, not_le.mpr h.user, h.up, hcnt]

theorem ldgWrite_add_absent {s : State} {w : Work} {k : Nat} {data : Bytes} (h : WholeWrite s w k 2 data)
    (hcur : curRec s k = none) : ldgWrite w s = (.done NOT_PRESENT [], s) := by
  unfold ldgWrite
  simp only [h.op_eq (by omega), h.data_eq, h.key, h.expect, hcur]
  exact checked_fail (by simp [firstStatus])

theorem putCounter_value (k : Nat) (c : CntRec) (s : State) :
    (((putCounter k c s).ldg.cnt.get none k).getD {}).value = c.value
      ∧ ∀ j, j ≠ k → (putCounter k c s).ldg.cnt.get none j = s.ldg.cnt.get none j := by
  unfold putCounter
  dsimp only
  rw [(placeRec_frame _ _ _).2.2.2]
  refine ⟨?_, fun j hj => ?_⟩
  · simp only [Tbl.get_set, if_true, Option.getD_some]
    split
    · exact value_fold c
    · rfl
  · simp [hj]

theorem rawRec_putCounter {k j : Nat} (hj : j ≠ k) (c : CntRec) (s : State) : rawRec (putCounter k c s) j = rawRec s j :=
  (rawRec_placeRec ..).trans (if_neg hj)

/-! ### Classes and tables -/

theorem ldgClassCfg_sets {s : State} {w : Work} {first last cls : Nat} (hq : ldgClassCfg.payloadBit w.payload 5 7 = false)
    (hup : inHoldup s = false) (hf : first = min (field w.payload 0 2 0) 0xFEFF)
    (hl : last = max first (min (field w.payload 2 2 0) 0xFEFF)) (hc : cls = field w.payload 4 1 2) (h1 : 1 ≤ cls) (h3 : cls ≤ 3)
    (hhot : hotBytes s ≤ 2097152) (hkeys : ∀ j ∈ ldgKeys s, j < first ∨ last < j) :
    ∃ p, ldgClassCfg w s = (.done DONE p, { s with ldg.cls := { first := first, last := last, cls := cls } :: s.ldg.cls }) := by
  have hcls : (if field w.payload 4 1 2 = 0 ∨ 3 < field w.payload 4 1 2 then 2 else field w.payload 4 1 2) = cls := by
    rw [← hc, if_neg (by omega)]
  have hnone : ((ldgKeys s).filter fun k => decide (first ≤ k ∧ k ≤ last)) = [] := by
    refine List.filter_eq_nil_iff.mpr fun j hj => ?_
    have := hkeys j hj
    simp
    omega
  unfold ldgClassCfg
  simp only [← hf, ← hl, hcls, hq, hnone, List.foldl_nil, Bool.false_eq_true, if_false]
  refine ⟨_, checked_pass ?_⟩
  refine (if_neg ?_).trans (by simp [firstStatus, hup])
  rw [Bool.not_eq_true]
  exact decide_eq_false (not_lt.mpr hhot)

theorem tblWrite_waits {s : State} {w : Work} {d : TableDecl} {c : TblPart} (hc : c = {
      table := field w.payload 0 1 0, offset := field w.payload 4 4 0, wid := w.wid
      data := (w.payload.drop 8).take (d.len - field w.payload 4 4 0) }) (hd : d = (prog s).tables.get {} (field w.payload 0 1 0))
    (hlen : d.len ≠ 0) (hoff : field w.payload 4 4 0 ≤ d.len) (hpages : heldPages s + ((stagedPages s ++ pagesOf d.base
      (field w.payload 4 4 0) ((w.payload.drop 8).take (d.len - field w.payload 4 4 0)).length).dedup).length ≤ 512)
    (hspb : (prog s).spb = none) (hp : s.ps.prog.isSome = true) (hr : s.pair.role = .solo) (hpw : s.power.state ≠ .holdup) :
    tblWrite w s = (.later, { s with ldg.tblStaged := s.ldg.tblStaged ++ [c] }) := by
  subst hc
  have hnone : s.ps.prog.isNone = false := by rw [← Option.not_isSome, hp]; rfl
  unfold tblWrite
  simp only [← hd]
  refine (checked_pass ?_).trans ?_
  · have h1 : decide (d.len = 0 ∨ d.len < field w.payload 4 4 0) = false := decide_eq_false (by omega)
    have h2 := decide_eq_false (not_lt.mpr hpages)
    simp only [firstStatus, h1, h2, hspb, hnone, isStation, isApprentice_solo hr, inHoldup_eq_false hpw, hr]
    simp
  · rw [forward_solo (by exact hr)]

/-- One change that the flip takes. -/
theorem flipTables_one {s : State} {c : TblPart} (hc : s.ldg.tblStaged = [c]) :
    (flipTables s).ldg.tblStaged = [] ∧ (flipTables s).img = s.img
      ∧ (flipTables s).eng.tables = Memory.writeBytes s.eng.tables (((prog s).tables.get {} c.table).base + c.offset) c.data := by
  have hstaged (key len : Nat) (s : State) : (firnPlace key len s).ldg.tblStaged = s.ldg.tblStaged := by
    simp only [firnPlace, firnRoom]
    split <;> rfl
  unfold flipTables
  rw [if_neg (by simp [hc])]
  simp only [hc, List.foldl_cons, List.foldl_nil]
  refine ⟨?_, ?_, ?_⟩
  · simp only [finishWid_fields]
    split
    · exact hstaged ..
    · rfl
  all_goals
    simp only [finishWid_fields]
    split <;> simp [applyTable]

end Sys2Proof.Machine

open Sys2Proof Sys2Proof.Machine

/-- Settles O35: each form of LDG_WRITE, the parts' end, the class range and the tables. -/
theorem ledgerKeepsWhatIsWritten : Obligations.LedgerKeepsWhatIsWritten := by
  intro s t mb w k data u asks
  have hwrite {op : Nat} (h : asks op) : WholeWrite u w k op data := by
    obtain ⟨_, hpw, hkey, huser, hop, hexp, hoff, htot, hdata, hshort⟩ := h
    exact ⟨hkey.symm, huser, hop, hexp, hoff, htot, hshort, by simpa [u] using inHoldup_eq_false hpw, hdata.symm⟩
  have hraw (j : Nat) : rawRec u j = rawRec s j := rawRec_advance t s j
  have hldg : u.ldg = s.ldg := advance_ldg t s
  refine ⟨fun h hfit => ?_, fun h hcur => ?_, fun r h hcur hcnt => ?_, fun h hcur => ?_, fun key q hq hpass => ?_,
    fun first last cls hq hpw hquery hf hl hc h1 h3 hhot hkeys => ?_,
    fun d hq hd hlen hoff hpages hspb hp hr hsh hpw => ?_, fun c hb hc => ?_⟩
  · obtain ⟨p, hf⟩ := ldgWrite_record (hwrite h) (by simpa [u] using hfit)
    rw [newRec_advance] at hf
    obtain ⟨himg, hhost, hhome, -⟩ := placeRec_frame k (newRec s k false false data)
      { u with ldg.cnt := u.ldg.cnt.set none k none, ldg.parts := u.ldg.parts.set none k none }
    refine ⟨p, _, runCommand_answers h.1 hf (congrArg HostPort.works hhost), curRec_placeRec rfl rfl, rfl, rfl, fun j hj => ?_, ?_, ?_⟩
    · rw [rawRec_placeRec, if_neg hj]
      exact hraw j
    · rw [hhome, ← hldg]
    · rw [himg]
      exact advance_img t s
  · obtain ⟨p, hf⟩ := ldgWrite_delete (hwrite h) (by simpa [u] using hcur)
    obtain ⟨-, hhost, -, -⟩ := placeRec_frame k (newRec u k false true [])
      { u with ldg.cnt := u.ldg.cnt.set none k none, ldg.parts := u.ldg.parts.set none k none }
    refine ⟨p, _, runCommand_answers h.1 hf (congrArg HostPort.works hhost), curRec_placeRec_deleted rfl, fun j hj => ?_⟩
    rw [rawRec_placeRec, if_neg hj]
    exact hraw j
  · obtain ⟨p, hf⟩ := ldgWrite_add (hwrite h) (by simpa [u] using hcur) hcnt
    obtain ⟨hval, hcnt'⟩ := putCounter_value k (CntRec.add ((u.ldg.cnt.get none k).getD {}) (leNat (data.take 8))) u
    refine ⟨p, _, runCommand_answers h.1 hf (congrArg HostPort.works (placeRec_frame ..).2.1), ?_, fun j hj => ⟨?_, ?_⟩⟩
    · rw [hval, value_add, hldg]
    · rw [rawRec_putCounter hj]
      exact hraw j
    · rw [hcnt' j hj, hldg]
  · exact runCommand_answers h.1 (ldgWrite_add_absent (hwrite h) (by simpa [u] using hcur)) rfl
  · rw [← hldg] at hq ⊢
    have hq' : (advance t s).ldg.parts.get none key.toNat = some q := hq
    refine congrArg Host.Outcome.next ?_
    simp only [hq']
    exact if_pos (decide_eq_true hpass)
  · rw [← hldg]
    obtain ⟨p, hf'⟩ := ldgClassCfg_sets (s := u) hquery (by simpa [u] using inHoldup_eq_false hpw) hf hl hc h1 h3
      (by simpa [u] using hhot) (by simpa [u] using hkeys)
    exact ⟨p, runCommand_answers hq hf' rfl⟩
  · rw [← hldg]
    exact runCommand_defers hq (tblWrite_waits (s := u) rfl (by simpa [u] using hd) hlen hoff (by simpa [u] using hpages)
      (by simpa [u] using hspb) (by simpa [u] using hp) (by simpa [u] using hr) (by simpa [u] using hpw))
  · obtain ⟨hnil, himg, htab⟩ := flipTables_one (s := u) (c := c) (by rw [hldg, hc])
    refine ⟨flipTables u, congrArg Host.Outcome.next (if_pos (by simpa using hb)), hnil, by simpa [u] using himg, ?_⟩
    simpa [u] using htab

end

section
/-! PROOFS. Heat and the system commands (R62, R75, R76, R79, R81-R83). -/

namespace Sys2Proof.Machine

/-! ### Heat -/

theorem thermalWarn_hot {s : State} {die : Nat} {temp : Int} (hd : die < 7) (hot : 110 ≤ temp) :
    (thermalWarn die temp s).power = { s.power with temps := s.power.temps.set 0 die temp, thermalWarn := true }
      ∧ (thermalWarn die temp s).fld = s.fld ∧ (thermalWarn die temp s).pair = s.pair
      ∧ (thermalWarn die temp s).ev.inbox
        = (if s.power.thermalWarn then s.ev.inbox else s.ev.inbox ++ [eventNow 86 0 (w32 die) s]) := by
  have hany : ((List.range 7).any fun k => decide (110 ≤ (s.power.temps.set 0 die temp).get 0 k)) = true :=
    List.any_eq_true.mpr ⟨die, List.mem_range.mpr hd, by simpa using hot⟩
  unfold thermalWarn
  simp only [hany, Bool.true_and]
  by_cases hw : s.power.thermalWarn = true
  · simp [hw]
  · simp only [hw, Bool.not_false, if_true]
    exact ⟨rfl, rfl, rfl, rfl⟩

/-! ### A failure of the module -/

@[simp] theorem claimChanged_role (s : State) : (claimChanged s).pair.role = s.pair.role := by simp

@[simp] theorem clearValid_role (s : State) : (clearValid s).pair.role = s.pair.role := by
  unfold clearValid
  split <;> simp

theorem disqualify_pair (cause : Nat) (s : State) :
    (disqualify cause s).pair.valid = false ∧ (disqualify cause s).pair.role = s.pair.role := by
  unfold disqualify
  dsimp only
  split <;> simp

theorem moduleFailure_failed (cause : Nat) (s : State) :
    (moduleFailure cause s).pair.valid = false ∧ (moduleFailure cause s).power.failed = true := by
  obtain ⟨hv, -⟩ := disqualify_pair cause s
  unfold moduleFailure
  dsimp only
  split <;> simp [hv]

theorem moduleFailure_solo {s : State} (h : s.pair.role = .solo) (cause : Nat) :
    (moduleFailure cause s).power.restart = some .moduleFailure
      ∧ ∀ d, d < 4 → ((moduleFailure cause s).die d).hold = true ∧ ((moduleFailure cause s).die d).holding = true := by
  obtain ⟨-, hr⟩ := disqualify_pair cause s
  have hsolo : isSolo (disqualify cause s) = true := by simp [isSolo, hr, h]
  unfold moduleFailure
  dsimp only
  rw [if_pos hsolo]
  refine ⟨by simp, fun d hd => ?_⟩
  rw [State.die, (abandonAll_frame _).2.2.2.2.1]
  exact die_holdAll _ hd

/-! ### Steps 3 to 6 before a restart -/

theorem goDown_down (kind : Restart) (s : State) :
    (goDown kind s).power.restart = some kind ∧ (goDown kind s).pair.valid = false ∧ (goDown kind s).eng.banks = []
      ∧ (goDown kind s).sup.tallyOn = false ∧ (goDown kind s).host = s.host
      ∧ ∀ d, d < 4 → ((goDown kind s).die d).hold = true ∧ ((goDown kind s).die d).holding = true := by
  refine ⟨by simp [goDown, saveCounts, stopEngines], by simp [goDown, saveCounts, stopEngines],
    by simp [goDown, saveCounts, stopEngines], by simp [goDown, saveCounts, stopEngines],
    by simp [goDown, saveCounts, stopEngines], fun d hd => ?_⟩
  have hdies : (goDown kind s).fld.dies
      = (holdAll (clearValid { s with power.restart := some kind, sup.tallyOn := false })).fld.dies := by
    simp only [goDown, saveCounts, stopEngines, powerDump_frame, abandonAll_frame]
  rw [State.die, hdies]
  exact die_holdAll _ hd

/-! ### The cards -/

theorem sysProfileSet_waits {s : State} {w : Work} (hp : s.ps.prog.isSome = true) (hr : s.pair.role ≠ .apprentice)
    (hpw : s.power.state ≠ .holdup) (he : editBusy s = false) (hu : s.upd.state ≠ 3)
    (hfit : profileFits s (min 2 (field w.payload 0 1 1)) = true) :
    sysProfileSet w s = (.later, forward 0x0102 (leBytes 1 (min 2 (field w.payload 0 1 1)))
      { s with scan.bnd := s.scan.bnd ++ [.profile (min 2 (field w.payload 0 1 1)) w.wid] }) := by
  have hnone : s.ps.prog.isNone = false := by rw [← Option.not_isSome, hp]; rfl
  unfold sysProfileSet
  exact checked_pass (by simp [firstStatus, hnone, isApprentice, hr, inHoldup_eq_false hpw, he, hu, hfit])

theorem dieOvertemp_hot {s : State} {die : Nat} {temp : Int} (hd : die < 7) (hp : s.power.state = .run ∨ s.power.state = .slumber)
    (hot : 125 ≤ temp) :
    (dieOvertemp die temp s).pair.valid = false ∧ (dieOvertemp die temp s).power.failed = true
      ∧ (s.pair.role = .solo → (dieOvertemp die temp s).power.restart = some .moduleFailure
        ∧ ∀ d, d < 4 → ((dieOvertemp die temp s).die d).hold = true ∧ ((dieOvertemp die temp s).die d).holding = true) := by
  obtain ⟨-, -, hpair, -⟩ := thermalWarn_hot (s := s) hd (by omega : 110 ≤ temp)
  have hup : ¬ (s.power.state ≠ .run ∧ s.power.state ≠ .slumber) := by tauto
  obtain ⟨v, hv⟩ : ∃ v, v = logFault 0x31 3 (whr 3 die 0) (w32 die) (BitVec.ofInt 32 temp)
      { thermalWarn die temp s with power.state := .run } := ⟨_, rfl⟩
  have heq : dieOvertemp die temp s = noteState s (moduleFailure 0x31 v) := by
    rw [hv]
    exact (if_neg hup).trans (if_pos hot)
  obtain ⟨h1, h2⟩ := moduleFailure_failed 0x31 v
  rw [heq]
  simp only [noteState_pair, noteState_power, State.die, noteState_fld]
  exact ⟨h1, h2, fun hs => moduleFailure_solo (by rw [hv, logFault_pair, hpair]; exact hs) 0x31⟩

theorem alarm_not_before (alarm tai ms : Nat) :
    (if alarm ≠ 0 ∧ alarm < tai + ms then tai + ms else alarm) = if alarm = 0 then 0 else max alarm (tai + ms) := by
  split_ifs <;> omega

theorem wakeFlags_lt (c : Prop) [Decidable c] (n : Nat) : (if c then 2 else n % 8) < 8 := by
  split <;> omega

theorem sysSlumber_taken {s : State} {w : Work} (hr : s.pair.role = .solo) (hp : s.power.state ≠ .holdup) (he : editBusy s = false)
    (hu : updBusy s = false) (ha : anyStation s = false) (hx : hasReflex s = false) (hq : s.power.slumberReq = false) :
    ∃ p a f, sysSlumber w s = (.done DONE p, { s with
        power.wakeEv := BitVec.ofNat 128 (field w.payload 0 16 0), power.alarmTai := a, power.wakeFlags := BitVec.ofNat 8 f
        power.slumberReq := true, power.keptWake := .none })
      ∧ a = (if field w.payload 0x10 8 0 = 0 then 0 else max (field w.payload 0x10 8 0) (s.time.tai + 10000000))
      ∧ f < 8 ∧ (field w.payload 0 16 0 = 0 → field w.payload 0x10 8 0 = 0 → field w.payload 0x18 1 7 % 8 = 0 → f = 2) := by
  unfold sysSlumber
  refine ⟨_, _, _, checked_pass ?_, ?_, ?_, ?_⟩
  · simp [firstStatus, isSolo, hr, inHoldup_eq_false hp, he, hu, ha, hx, hq]
  · rw [alarm_not_before, show 10 ^ 7 = 10000000 by norm_num]
  · exact wakeFlags_lt _ _
  · intro h1 h2 h3
    simp [h1, h2, h3]

theorem sysHoldupCfg_taken {s : State} {w : Work} (hp : s.power.state ≠ .holdup) :
    ∃ p low v, sysHoldupCfg w s = (.done DONE p, judged low v) ∧ low = reserveBelow v
      ∧ v = regulate { s with power.vholdSet := clamp 20 34 (field w.payload 0 1 34)
                              power.chargeMa := clamp 50 400 (field w.payload 2 2 200) / 50 * 50
                              power.cBoardUf := clamp 47 4700 (field w.payload 4 2 470), power.holdupCfgSet := true } := by
  unfold sysHoldupCfg
  exact ⟨_, _, _, checked_pass (by simp [firstStatus, inHoldup_eq_false hp]), rfl, rfl⟩

theorem judged_frame (low : Bool) (s : State) :
    (judged low s).fld = s.fld ∧ (judged low s).img = s.img ∧ (judged low s).host = s.host := by
  unfold judged
  dsimp only
  split
  · simp only [logFault_fld, logFault_img, logFault_host, and_self]
  · exact ⟨rfl, rfl, rfl⟩

theorem sysRestart_solo {s : State} {w : Work} (hr : s.pair.role = .solo) (hp : s.power.state ≠ .holdup) (hu : s.upd.state ≠ 3)
    (hm : field w.payload 0 1 0 ≤ 1) :
    ∃ p, sysRestart w s = (.done DONE p, goDown (if field w.payload 0 1 0 = 1 then .cold else .warm) s) := by
  have hmode : (if 2 < field w.payload 0 1 0 then 0 else field w.payload 0 1 0) = field w.payload 0 1 0 := if_neg (by omega)
  have hkind : restartKind (field w.payload 0 1 0) = if field w.payload 0 1 0 = 1 then .cold else .warm := by
    obtain h | h : field w.payload 0 1 0 = 0 ∨ field w.payload 0 1 0 = 1 := by omega
    all_goals rw [h]; rfl
  have hne : field w.payload 0 1 0 ≠ 2 := by omega
  unfold sysRestart
  simp only [hmode, hkind, isKeeper_solo hr, Bool.false_and, Bool.false_eq_true, if_false, hne, false_and]
  exact ⟨_, checked_pass (by simp [firstStatus, inHoldup_eq_false hp, hu])⟩

end Sys2Proof.Machine

open Sys2Proof Sys2Proof.Machine

/-- Settles O42: a command card by card; a failure of the module and a restart go through `holdAll`, which puts every die in hold. -/
theorem heatAndSystemCommands : Obligations.HeatAndSystemCommands := by
  intro s t mb w u
  have hrole : u.pair.role = s.pair.role := by simp [u]
  have hstate : u.power.state = s.power.state := by simp [u]
  refine ⟨fun die temp hp hot => ?_, fun die temp hp hot => ?_, fun h hg hr hpw he hu hfit => ?_,
    fun h hr hpw he hu ha hx hq => ?_, fun h hpw => ?_, fun h hr hpw hu hm => ?_⟩
  · obtain ⟨hpow, hfld, -, hev⟩ := thermalWarn_hot (s := u) (die := die) (temp := temp) (by omega) hot
    have hgo : (serving u || decide (u.power.state = .slumber)) = true := by simpa [u] using hp
    refine ⟨thermalWarn die temp u, congrArg Host.Outcome.next (if_pos hgo), ?_⟩
    rw [hpow, hfld, hev]
    simp [u]
  · obtain ⟨h1, h2, h3⟩ := dieOvertemp_hot (s := u) (die := die) (temp := temp) (by omega) (by rwa [hstate]) hot
    exact ⟨_, rfl, h1, h2, by rwa [hrole] at h3⟩
  · rw [show s.scan = u.scan from (advance_scan t s).symm]
    exact runCommand_defers h (sysProfileSet_waits (by simpa [u] using hg) (by rwa [hrole]) (by rwa [hstate])
      (by simpa [u] using he) (by simpa [u] using hu) hfit)
  · obtain ⟨p, a, f, hf, hrest⟩ := sysSlumber_taken (s := u) (w := w) (by rwa [hrole]) (by rwa [hstate]) (by simpa [u] using he)
      (by simpa [u] using hu) (by simpa [u] using ha) (by simpa [u] using hx) (by simpa [u] using hq)
    exact ⟨p, a, f, runCommand_answers h hf rfl, hrest⟩
  · obtain ⟨p, low, v, hf, hlow, hv⟩ := sysHoldupCfg_taken (s := u) (w := w) (by rwa [hstate])
    obtain ⟨hjfld, hjimg, hjhost⟩ := judged_frame low v
    have hvp := congrArg State.power hv
    rw [regulate_power] at hvp
    have hc : capUf v = s.power.cMeasuredUf.getD (clamp 47 4700 (field w.payload 4 2 470)) := by
      rw [capUf, hvp]
      simp only [u, advance_power]
    have hmv : v.power.vholdMv = s.power.vholdMv := by
      rw [hvp]
      simp only [u, advance_power]
    refine ⟨p, judged low v, runCommand_answers h hf (by rw [hjhost, hv]; rfl), ?_, ?_, ?_⟩
    · rw [hjfld, hv]
      exact advance_fld t s
    · rw [hjimg, hv]
      exact advance_img t s
    · rw [reserveBelow_eq hc hmv] at hlow
      rw [judged_power, hvp, hlow, show u.power = s.power from advance_power t s]
  · obtain ⟨p, hf⟩ := sysRestart_solo (s := u) (w := w) (by rwa [hrole]) (by rwa [hstate]) (by simpa [u] using hu) hm
    obtain ⟨h1, h2, h3, h4, h5, h6⟩ := goDown_down (if field w.payload 0 1 0 = 1 then .cold else .warm) u
    exact ⟨p, _, runCommand_answers h hf (congrArg HostPort.works h5), h1, h2, h3, h4, h6⟩

end

section
/-! PROOFS. Self-test, corrected words, lost channels and dies, link errors, reports (R12, R43, R402, R475-R477, R487-R493). -/

namespace Sys2Proof.Machine

/-! ### What the steps of this family leave unchanged -/

@[simp] theorem sendCmd_scan (ch : Nat) (s : State) :
    (sendCmd ch s).scan = s.scan := by
  unfold sendCmd
  (repeat' split) <;> simp

@[simp] theorem sendAllCmds_scan (s : State) :
    (sendAllCmds s).scan = s.scan := by
  unfold sendAllCmds
  exact foldl_keeps _ (by intro s a; simp) _ _

@[simp] theorem raiseNow_scan (src kind : Nat) (data : Word) (s : State) :
    (raiseNow src kind data s).scan = s.scan := by simp [raiseNow]

@[simp] theorem claimChanged_scan (s : State) :
    (claimChanged s).scan = s.scan := by simp [claimChanged]

@[simp] theorem clearValid_scan (s : State) :
    (clearValid s).scan = s.scan := by
  unfold clearValid
  split <;> simp

@[simp] theorem disqualify_frame (cause : Nat) (s : State) :
    (disqualify cause s).now = s.now ∧ (disqualify cause s).time = s.time ∧ (disqualify cause s).scan = s.scan
      ∧ (disqualify cause s).eng = s.eng := by
  unfold disqualify
  dsimp only
  and_intros <;> (repeat' split) <;> simp

@[simp] theorem abortEdit_frame (cause : Nat) (s : State) :
    (abortEdit cause s).now = s.now ∧ (abortEdit cause s).time = s.time ∧ (abortEdit cause s).scan = s.scan
      ∧ (abortEdit cause s).eng = s.eng ∧ (abortEdit cause s).sup = s.sup := by simp [abortEdit]

@[simp] theorem editOnRetire_frame (s : State) :
    (editOnRetire s).now = s.now ∧ (editOnRetire s).time = s.time ∧ (editOnRetire s).scan = s.scan
      ∧ (editOnRetire s).eng = s.eng ∧ (editOnRetire s).sup = s.sup := by
  unfold editOnRetire
  and_intros <;> (repeat' split) <;> simp

@[simp] theorem clearRegion_frame (p : Nat) (s : State) :
    (clearRegion p s).now = s.now ∧ (clearRegion p s).time = s.time ∧ (clearRegion p s).scan = s.scan
      ∧ (clearRegion p s).sup = s.sup := by simp [clearRegion]

@[simp] theorem markIx_frame (ch : Nat) (s : State) :
    (markIx ch s).now = s.now ∧ (markIx ch s).power = s.power ∧ (markIx ch s).eng = s.eng ∧ (markIx ch s).fld = s.fld
      ∧ (markIx ch s).pair = s.pair ∧ (markIx ch s).sup = s.sup ∧ (markIx ch s).host = s.host := by
  unfold markIx
  dsimp only
  and_intros <;> (repeat' split) <;> simp

@[simp] theorem couplerFinding_frame (ch : Nat) (s : State) :
    (couplerFinding ch s).now = s.now ∧ (couplerFinding ch s).power = s.power ∧ (couplerFinding ch s).eng = s.eng
      ∧ (couplerFinding ch s).pair = s.pair ∧ (couplerFinding ch s).host = s.host := by simp [couplerFinding]

@[simp] theorem laneFails_frame (lane why : Nat) (s : State) :
    (laneFails lane why s).now = s.now ∧ (laneFails lane why s).power = s.power ∧ (laneFails lane why s).eng = s.eng
      ∧ (laneFails lane why s).fld = s.fld ∧ (laneFails lane why s).host = s.host := by
  unfold laneFails
  and_intros <;> split <;> simp

/-! ### A region that is retired -/

/-- No bank of region `p` is in use. -/
def RegionFree (p : Nat) (s : State) : Prop := ∀ e ∈ s.eng.banks, e.1 / 16 ≠ p

theorem RegionFree.of_eng {p : Nat} {s v : State} (h : RegionFree p s) (hv : v.eng.banks = s.eng.banks) : RegionFree p v := by
  unfold RegionFree
  rw [hv]
  exact h

theorem regionFree_clearRegion (p : Nat) (s : State) : RegionFree p (clearRegion p s) := by
  intro e he
  simpa using (List.mem_filter.mp he).2

theorem restoreData_banks (keys : List Nat) (s : State) : (restoreData keys s).eng.banks = s.eng.banks := by
  unfold restoreData
  exact foldl_keeps (fun v => v.eng.banks) (fun v k => by simp [setDataWord]) ..

theorem RegionFree.freeBanks {p : Nat} {s : State} (h : RegionFree p s) (n : Nat) : RegionFree p (freeBanks n s) := by
  intro e he
  obtain ⟨b, hb, hbe⟩ := List.mem_filterMap.mp he
  obtain ⟨-, rfl⟩ : _ ∧ _ = e := by simpa only [Option.ite_none_left_eq_some, Option.some.injEq] using hbe
  exact h b hb

theorem RegionFree.dropCycle {p : Nat} {s : State} (h : RegionFree p s) (n : Nat) : RegionFree p (dropCycle n s) := by
  unfold Sys2Proof.Machine.dropCycle
  dsimp only
  split
  · exact (h.freeBanks n).of_eng (restoreData_banks ..)
  · split
    · exact h
    · exact h

theorem RegionFree.abandonAll {p : Nat} {s : State} (h : RegionFree p s) : RegionFree p (abandonAll s) := by
  unfold Sys2Proof.Machine.abandonAll
  generalize s.scan.tasks.keys = ks
  induction ks generalizing s with
  | nil => exact h
  | cons n ks ih => exact ih (h.dropCycle n)

theorem RegionFree.drop_eq {p : Nat} {s : State} (h : RegionFree p s) :
    s.eng.banks = s.eng.banks.drop fun k => decide (k / 16 = p) :=
  (List.filter_eq_self.mpr fun e he => by simp [h e he]).symm

@[simp] theorem disqualify_retired (cause : Nat) (s : State) : (disqualify cause s).power.retired = s.power.retired := by
  unfold disqualify
  dsimp only
  split <;> simp

@[simp] theorem moduleFailure_retired (cause : Nat) (s : State) : (moduleFailure cause s).power.retired = s.power.retired := by
  unfold moduleFailure
  dsimp only
  split <;> simp

theorem RegionFree.moduleFailure {p : Nat} {s : State} (h : RegionFree p s) (cause : Nat) :
    RegionFree p (moduleFailure cause s) := by
  unfold Sys2Proof.Machine.moduleFailure
  dsimp only
  split
  · exact (h.of_eng (by simp)).abandonAll
  · exact h.of_eng (by simp)

theorem editOnRetire_power (s : State) : (editOnRetire s).power = s.power := by
  unfold editOnRetire
  (repeat' split) <;> simp [abortEdit]

theorem retireRegion_retired {p : Nat} {s : State} (h : s.power.retired.getLsbD p = false) (cause : Nat) :
    (retireRegion p cause s).power.retired = s.power.retired ||| (1#4 <<< p) ∧ RegionFree p (retireRegion p cause s) := by
  obtain ⟨v, hv⟩ : ∃ v, v = clearRegion p { editOnRetire (abandonAll s) with
      power.retired := (editOnRetire (abandonAll s)).power.retired ||| (1#4 <<< p) } := ⟨_, rfl⟩
  have hr : v.power.retired = s.power.retired ||| (1#4 <<< p) := by
    rw [hv]
    change (editOnRetire (abandonAll s)).power.retired ||| _ = _
    rw [editOnRetire_power]
    simp
  have hfree : RegionFree p v := hv ▸ regionFree_clearRegion p _
  unfold retireRegion
  rw [if_neg (by simp [h])]
  dsimp only
  rw [← hv]
  clear hv
  generalize hx : logFault 6 _ (whr 2 p 0) (w32 cause) 0#32 v = x
  replace hr : x.power.retired = s.power.retired ||| (1#4 <<< p) := by rw [← hx, logFault_power, hr]
  replace hfree : RegionFree p x := hfree.of_eng (by rw [← hx, logFault_eng])
  split
  · exact ⟨by rw [moduleFailure_retired, hr], hfree.moduleFailure 6⟩
  · split
    · exact ⟨by rw [disqualify_retired, ← hr], hfree.of_eng (by simp only [disqualify_frame])⟩
    · exact ⟨hr, hfree⟩

/-! ### Self-test -/

theorem testSlice_runs {s : State} {e : Nat} (ht : testing s = true) (hr : s.power.retired.getLsbD (e / 4) = false)
    (hi : engineIdle s e = true ∨ s.scan.atBoundary = true) (hd : testDue (16 + e) (s.sup.sliceMs * 1000000) s = true) :
    testSlice e true s
        = count 4 1 { tested (16 + e) s with eng.slices := s.eng.slices.set 0 e ((s.eng.slices.get 0 e + 1) % 256) }
      ∧ (testSlice e false s).power.retired = s.power.retired ||| (1#4 <<< (e / 4))
      ∧ RegionFree (e / 4) (testSlice e false s) := by
  have hgo : ¬ (!testing s || s.power.retired.getLsbD (e / 4) || !(engineIdle s e || s.scan.atBoundary)
      || !testDue (16 + e) (s.sup.sliceMs * 10 ^ 6) s) = true := by
    rw [show 10 ^ 6 = 1000000 by norm_num]
    obtain h | h := hi <;> simp [ht, hr, hd, h]
  unfold testSlice
  rw [if_neg hgo, if_neg hgo]
  exact ⟨rfl, retireRegion_retired (by simpa using hr) 5⟩

@[simp] theorem clearValid_pair (s : State) : (clearValid s).pair = { s.pair with valid := false } := by
  unfold clearValid
  split
  · simp
  next h => rw [← Bool.eq_false_iff.mpr h]

theorem disqualify_keeper {s : State} (h : s.pair.role = .keeper) (cause : Nat) :
    (disqualify cause s).power.abdicated = true ∧ (disqualify cause s).pair.testRound = s.pair.testRound := by
  unfold disqualify
  dsimp only
  rw [if_pos (Or.inl h)]
  exact ⟨rfl, by simp⟩

theorem sramScrub_due {s : State} (ht : testing s = true) (hd : testDue 0 (s.sup.sramS * 1000000000) s = true)
    (corrected : List (Fin 5 × Nat)) (badStore : Bool) :
    ∃ v, v = corrected.foldl (fun s c => noteCorrected (if c.1.val = 4 then whr 4 0 0 else whr 2 c.1 0) [(c.1.val, c.2)] s) (tested 0 s)
      ∧ sramScrub corrected 0#4 badStore s
        = if badStore then moduleFailure 2 (logFault 2 3 (whr 4 0 0) 4#32 0#32 (count 1 1 v)) else v := by
  have hgo : ¬ (!testing s || !testDue 0 (s.sup.sramS * 10 ^ 9) s) = true := by
    rw [show 10 ^ 9 = 1000000000 by norm_num]
    simp [ht, hd]
  refine ⟨_, rfl, ?_⟩
  unfold sramScrub
  rw [if_neg hgo]
  simp

/-! ### Channels, dies and links -/

theorem ixQuality_lost {s : State} {ch : Nat} (h : (s.chan ch).lost = true) : ixQuality s ch = 2#4 := by
  simp [ixQuality, chanStale, h]

theorem markIx_stale {s : State} {ch : Nat} (h : ixQuality s ch = 2#4) :
    (markIx ch s).img.q.get 2#4 (imgAddr 1 ch) = 2#4 := by
  unfold markIx
  dsimp only
  split
  next p _ =>
    by_cases hp : imgAddr 1 ch = imgAddr 1 p
    · have hpc : p = ch := by simpa [imgAddr] using hp.symm
      simp [hpc, h]
    · simp [hp, h]
  · simp [h]

theorem couplerLoopback_good {s : State} {ch r : Nat} (hs : serving s = true) (hr : r ≤ 100) :
    couplerLoopback ch true r s = s.setChan ch { s.chan ch with loopFails := 0 } := by
  simp [couplerLoopback, hs, hr]

theorem couplerLoopback_bad {s : State} {ch r : Nat} {ok : Bool} (hs : serving s = true) (hb : ok = false ∨ 100 < r) :
    ((s.chan ch).loopFails < 2 → couplerLoopback ch ok r s
        = s.setChan ch { s.chan ch with loopFails := (s.chan ch).loopFails + 1 })
      ∧ ((s.chan ch).loopFails = 2 → (s.chan ch).lost = false → couplerLoopback ch ok r s
        = markIx ch (couplerFinding ch (s.setChan ch { s.chan ch with loopFails := 3, lost := true }))) := by
  have hbad : ¬ (ok && decide (r ≤ 100)) = true := by
    obtain rfl | h := hb
    · simp
    · simp [h]
  unfold couplerLoopback
  simp only [hs, Bool.not_true, Bool.false_eq_true, if_false, hbad]
  refine ⟨fun h => ?_, fun h hl => ?_⟩
  · rw [if_pos (Or.inl (by omega)), min_eq_left (by omega)]
  · rw [if_neg (by simp [h, hl])]

theorem channel_is_lost (s : State) (ch : Nat) :
    ∀ v, v = markIx ch (couplerFinding ch (s.setChan ch { s.chan ch with loopFails := 3, lost := true })) →
      (v.chan ch).lost = true ∧ (v.chan ch).faults = (s.chan ch).faults ||| 0x40#16
        ∧ v.img.q.get 2#4 (imgAddr 1 ch) = 2#4 ∧ v.sup.ctr.get 0 6 = (s.sup.ctr.get 0 6 + 1) % 2 ^ 32
        ∧ ∀ c, c ≠ ch → v.chan c = s.chan c := by
  rintro _ rfl
  obtain ⟨v, hv⟩ : ∃ v, v = s.setChan ch { s.chan ch with loopFails := 3, lost := true } := ⟨_, rfl⟩
  have hvc : v.chan ch = { s.chan ch with loopFails := 3, lost := true } := by rw [hv, State.chan_setChan, if_pos rfl]
  obtain ⟨w, hw⟩ : ∃ w, w = couplerFinding ch v := ⟨_, rfl⟩
  have hwc : ∀ c, w.chan c = if c = ch then { v.chan ch with faults := (v.chan ch).faults ||| 0x40#16 } else v.chan c := by
    intro c
    rw [hw, couplerFinding, State.chan_logFault, State.chan, count_fld]
    exact State.chan_setChan ..
  have hwl : (w.chan ch).lost = true := by simp [hwc, hvc]
  have hmc : ∀ c, (markIx ch w).chan c = w.chan c := by simp [State.chan]
  rw [← hv, ← hw]
  refine ⟨by rw [hmc, hwl], ?_, markIx_stale (ixQuality_lost hwl), ?_, fun c hc => ?_⟩
  · rw [hmc, hwc, if_pos rfl, hvc]
  · rw [hw, hv]
    simp [couplerFinding, count, logFault]
  · rw [hmc, hwc, if_neg hc, hv, State.chan_setChan, if_neg hc]

theorem controlCouplerLoopback_die {s : State} (hs : serving s = true) (d : Nat) (a b x : Bool) :
    ((controlCouplerLoopback d a b x s).die d) = { s.die d with
        couplerA := a, couplerB := b, txLost := !x, lost := !x || (!a && !b)
        holding := (s.die d).holding || (!x || (!a && !b))
        powered := (s.die d).powered && (x || decide ((s.die d).vfldMv ≠ 0)) }
      ∧ (controlCouplerLoopback d a b x s).fld.ch = s.fld.ch := by
  obtain ⟨v, hv⟩ : ∃ v, v = s.setDie d { s.die d with
      couplerA := a, couplerB := b, txLost := !x, lost := !x || (!a && !b), holding := (s.die d).holding || (!x || (!a && !b))
      powered := (s.die d).powered && (x || decide ((s.die d).vfldMv ≠ 0)) } := ⟨_, rfl⟩
  have hfld : (controlCouplerLoopback d a b x s).fld = v.fld := by
    unfold controlCouplerLoopback
    simp only [hs, Bool.not_true, Bool.false_eq_true, if_false, ← hv]
    clear hv
    split
    · refine (foldl_keeps State.fld (by simp) _ _).trans ?_
      (repeat' split) <;> simp
    · (repeat' split) <;> simp
  have hdie : v.die d = _ := (congrArg (State.die · d) hv).trans ((State.die_setDie ..).trans (if_pos rfl))
  refine ⟨?_, ?_⟩
  · rw [State.die, hfld]
    exact hdie
  · rw [hfld, hv]
    rfl

@[simp] theorem laneFails_ctr (lane why : Nat) (s : State) : (laneFails lane why s).sup.ctr = s.sup.ctr := by
  unfold laneFails
  split <;> rfl

theorem laneFails_down (lane : Fin 2) (why : Nat) (s : State) : (laneFails lane why s).pair.lanes.getLsbD lane = false := by
  unfold laneFails
  split
  · rw [logFault_pair]
    simp
  next h => simpa using h

/-- The finding of a link beyond its error rate. -/
def linkFinding (link errors : Nat) (s : State) : State :=
  let s2 := logFault 0x22 2 (whr 4 0 link) (w32 link) (w32 errors) (count 7 errors s)
  if 4 ≤ link then laneFails (link - 4) 1 s2 else s2

theorem linkErrorWindow_eq (link errors bits : Nat) (s : State) : linkErrorWindow link errors bits s
    = if bits < errors * 10000000000 then linkFinding link errors s else count 7 errors s := by
  unfold linkErrorWindow linkFinding
  norm_num

theorem linkFinding_ctr (link errors : Nat) (s : State) :
    (linkFinding link errors s).sup.ctr.get 0 7 = (s.sup.ctr.get 0 7 + errors) % 2 ^ 32 := by
  have hc : (count 7 errors s).sup.ctr.get 0 7 = (s.sup.ctr.get 0 7 + errors) % 2 ^ 32 := by simp [count]
  unfold linkFinding
  dsimp only
  split
  · rw [laneFails_ctr, ← hc]
    rfl
  · exact hc

theorem linkFinding_lane (lane : Fin 2) (errors : Nat) (s : State) :
    (linkFinding (4 + lane) errors s).pair.lanes.getLsbD lane = false := by
  unfold linkFinding
  dsimp only
  rw [if_pos (Nat.le_add_right ..), Nat.add_sub_cancel_left]
  exact laneFails_down ..

/-! ### SELFTEST_CFG -/

theorem selftestCfg_set {s : State} {w : Work} (hq : payloadBit w.payload 7 7 = false) (hr : payloadBit w.payload 7 0 = false)
    (hp : s.power.state ≠ .holdup) :
    ∃ p, selftestCfg w s = (.done DONE p, { s with
      sup.sliceMs := clamp (min (prog s).sliceMs 100) 100 (field w.payload 0 2 (prog s).sliceMs)
      sup.sramS := clamp 1 60 (field w.payload 2 2 10), sup.mramMin := clamp 10 1440 (field w.payload 4 2 60)
      sup.patrolDays := clamp 1 30 (field w.payload 6 1 7) }) := by
  unfold selftestCfg
  simp only [hq, hr, Bool.false_eq_true, if_false, Bool.or_false]
  exact ⟨_, checked_pass (by simp [firstStatus, inHoldup_eq_false hp])⟩

end Sys2Proof.Machine

open Sys2Proof Sys2Proof.Machine

/-- Settles O41: each find is counted and logged by the step that makes it; a failed slice retires the engine's region, whose
banks stay out of use whatever the retirement goes on to do. -/
theorem selfTestFindsAndCounts : Obligations.SelfTestFindsAndCounts := by
  intro s t mb w u
  refine ⟨fun e ht hr hi hd => ?_, fun pass hp => ?_, fun hp hk => ?_, fun ht hd => ?_, fun ch ok r hs => ?_,
    fun d a b x hs => ?_, fun l e bits hp => ?_, fun hf hn => ?_, fun h hq hr hp => ?_⟩
  · obtain ⟨h1, h2, h3⟩ := testSlice_runs (s := u) (e := e) (by simpa [u] using ht) (by simpa [u] using hr)
      (by simpa [u] using hi) (by simpa [u] using hd)
    refine ⟨congrArg Host.Outcome.next (h1.trans ?_), _, rfl, by simpa [u] using h2, h3.drop_eq⟩
    simp only [u, advance_eng]
  · refine congrArg Host.Outcome.next ?_
    simp [testRoundComplete, u, hp]
  · refine ⟨disqualify 0x50 { u with sup.runNow := false, pair.testRound := false }, congrArg Host.Outcome.next ?_,
      (disqualify_pair ..).1, ?_⟩
    · simp [testRoundComplete, u, hp]
    · exact disqualify_keeper (by simpa [u] using hk) 0x50
  · have ht' : testing u = true := by simpa [u] using ht
    have hd' : testDue 0 (u.sup.sramS * 1000000000) u = true := by simpa [u] using hd
    refine ⟨fun m a => ?_, ?_⟩
    · obtain ⟨v, hv, hf⟩ := sramScrub_due ht' hd' [(m, a)] false
      exact congrArg Host.Outcome.next (hf.trans hv)
    · obtain ⟨v, hv, hf⟩ := sramScrub_due ht' hd' [] true
      refine ⟨_, congrArg Host.Outcome.next hf, ?_⟩
      exact (moduleFailure_failed 2 _).symm
  · have hs' : serving u = true := by simpa [u] using hs
    rw [show s.chan ch = u.chan ch by simp [u, State.chan]]
    refine ⟨?_, fun hb hn => ?_, fun hb hn hl => ?_⟩
    · rintro rfl hr
      exact congrArg Host.Outcome.next (couplerLoopback_good hs' hr)
    · exact congrArg Host.Outcome.next ((couplerLoopback_bad hs' hb).1 hn)
    · refine ⟨_, congrArg Host.Outcome.next ((couplerLoopback_bad hs' hb).2 hn hl), ?_⟩
      simpa [u, State.chan] using channel_is_lost u ch _ rfl
  · obtain ⟨h1, h2⟩ := controlCouplerLoopback_die (s := u) (by simpa [u] using hs) d a b x
    rw [show s.die d = u.die d by simp [u, State.die]]
    refine ⟨controlCouplerLoopback d a b x u, rfl, ?_⟩
    rw [h1]
    exact ⟨rfl, rfl, rfl, rfl, rfl, h2.trans (by simp [u])⟩
  · have hrun : inRun u = true := by simpa [inRun, u] using hp
    have hex : exec (.linkErrorWindow t l e bits) s = .next (linkErrorWindow l e bits u) := congrArg Host.Outcome.next (if_pos hrun)
    rw [hex, linkErrorWindow_eq]
    refine ⟨fun h => by rw [if_neg (not_lt.mpr h)], fun h => ⟨_, by rw [if_pos h], ?_, ?_, ?_⟩⟩
    · rw [linkFinding_ctr]
      simp only [u, advance_sup]
    · rintro rfl
      exact linkFinding_lane 0 e u
    · rintro rfl
      exact linkFinding_lane 1 e u
  · have hgo : ¬ (!fullService u || !passed u.now (u.sup.testAt.get 0 3) (10 ^ 8)) = true := by
      rw [show 10 ^ 8 = 100000000 by norm_num]
      simpa [u, hf, passed] using hn
    refine congrArg Host.Outcome.next ((if_neg hgo).trans ?_)
    rw [show inPair s = inPair u by simp [u], show s.pair = u.pair by simp [u], show s.sup = u.sup by simp [u]]
    by_cases hin : inPair u = true
    · exact (if_pos hin).trans (by rw [if_pos hin]; rfl)
    · exact (if_neg hin).trans (by rw [if_neg hin]; rfl)
  · rw [show prog s = prog u by simp [u]]
    obtain ⟨p, hf⟩ := selftestCfg_set (s := u) hq hr (by simpa [u] using hp)
    exact ⟨p, runCommand_answers h hf rfl⟩

end

section
/-! PROOFS. Tally's periods and trip, Steward and the leases (R43, R406, R478, R480-R488, R492, R560, R564, R567). -/

namespace Sys2Proof.Machine

/-! ### What the steps of this family leave unchanged -/

@[simp] theorem sendCmd_img (ch : Nat) (s : State) :
    (sendCmd ch s).img = s.img := by
  unfold sendCmd
  (repeat' split) <;> simp

@[simp] theorem sendAllCmds_img (s : State) :
    (sendAllCmds s).img = s.img := by
  unfold sendAllCmds
  exact foldl_keeps _ (by intro s a; simp) _ _

@[simp] theorem raiseNow_img (src kind : Nat) (data : Word) (s : State) :
    (raiseNow src kind data s).img = s.img := by simp [raiseNow]

@[simp] theorem claimChanged_img (s : State) :
    (claimChanged s).img = s.img := by simp [claimChanged]

@[simp] theorem clearValid_img (s : State) :
    (clearValid s).img = s.img := by
  unfold clearValid
  split <;> simp

@[simp] theorem disqualify_img (cause : Nat) (s : State) :
    (disqualify cause s).img = s.img := by
  unfold disqualify
  dsimp only
  (repeat' split) <;> simp

@[simp] theorem startRelease_frame (n : Nat) (c : Cause) (s : State) :
    (startRelease n c s).img = s.img ∧ (startRelease n c s).sup = s.sup := by simp [startRelease]

@[simp] theorem release_frame (n : Nat) (c : Cause) (s : State) :
    (release n c s).img = s.img ∧ (release n c s).sup = s.sup := by
  unfold release
  dsimp only
  and_intros <;> (repeat' split) <;> simp

@[simp] theorem releaseOwn_frame (n : Nat) (c : Cause) (s : State) :
    (releaseOwn n c s).img = s.img ∧ (releaseOwn n c s).sup = s.sup := by
  unfold releaseOwn
  and_intros <;> split <;> simp

@[simp] theorem releaseNext_frame (n : Nat) (s : State) :
    (releaseNext n s).img = s.img ∧ (releaseNext n s).sup = s.sup := by
  unfold releaseNext
  dsimp only
  and_intros <;> (repeat' split) <;> simp

@[simp] theorem startStripe_frame (n phase l : Nat) (entry : Word) (s : State) :
    (startStripe n phase l entry s).img = s.img ∧ (startStripe n phase l entry s).sup = s.sup := by
  unfold startStripe
  dsimp only
  and_intros <;> (repeat' split) <;> simp

@[simp] theorem dispatch1_frame (l c : Nat) (s : State) :
    (dispatch1 l c s).img = s.img ∧ (dispatch1 l c s).sup = s.sup := by
  unfold dispatch1
  and_intros <;> (repeat' split) <;> simp

@[simp] theorem dispatch_frame (s : State) :
    (dispatch s).img = s.img ∧ (dispatch s).sup = s.sup := by
  unfold dispatch
  and_intros <;> exact foldl_keeps _ (by intro s a; simp) _ _

@[simp] theorem freeBanks_img (n : Nat) (s : State) :
    (freeBanks n s).img = s.img := by
  rfl

@[simp] theorem setDataWord_img (region addr : Nat) (v : Word) (s : State) :
    (setDataWord region addr v s).img = s.img := by simp [setDataWord]

@[simp] theorem restoreData_img (keys : List Nat) (s : State) :
    (restoreData keys s).img = s.img := by
  unfold restoreData
  exact foldl_keeps _ (by intro s a; simp) _ _

@[simp] theorem dropCycle_img (n : Nat) (s : State) :
    (dropCycle n s).img = s.img := by
  unfold dropCycle
  dsimp only
  (repeat' split) <;> simp

@[simp] theorem abandonCycle_frame (n : Nat) (s : State) :
    (abandonCycle n s).img = s.img ∧ (abandonCycle n s).sup = s.sup := by
  unfold abandonCycle
  dsimp only
  and_intros <;> (repeat' split) <;> simp

@[simp] theorem abandonAll_img (s : State) :
    (abandonAll s).img = s.img := by
  unfold abandonAll
  exact foldl_keeps _ (by intro s a; simp) _ _

@[simp] theorem abortEdit_img (cause : Nat) (s : State) :
    (abortEdit cause s).img = s.img := by simp [abortEdit]

@[simp] theorem editOnRetire_img (s : State) :
    (editOnRetire s).img = s.img := by
  unfold editOnRetire
  (repeat' split) <;> simp

@[simp] theorem moduleFailure_img (cause : Nat) (s : State) :
    (moduleFailure cause s).img = s.img := by
  unfold moduleFailure
  dsimp only
  (repeat' split) <;> simp

@[simp] theorem clearRegion_img (p : Nat) (s : State) :
    (clearRegion p s).img = s.img := by simp [clearRegion]

@[simp] theorem retireRegion_img (p cause : Nat) (s : State) :
    (retireRegion p cause s).img = s.img := by
  unfold retireRegion
  dsimp only
  (repeat' split) <;> simp

@[simp] theorem abortEdit_ldg (cause : Nat) (s : State) :
    (abortEdit cause s).ldg = s.ldg := by simp [abortEdit]

@[simp] theorem stewardRestart_ldg (s : State) :
    (stewardRestart s).ldg = s.ldg := by
  unfold stewardRestart
  dsimp only
  (repeat' split) <;> simp

@[simp] theorem noteRevoked_ldg (res : LeaseRes) (s : State) :
    (noteRevoked res s).ldg = s.ldg := by simp [noteRevoked]

@[simp] theorem abortEdit_fld (cause : Nat) (s : State) :
    (abortEdit cause s).fld = s.fld := by simp [abortEdit]

@[simp] theorem stewardRestart_fld (s : State) :
    (stewardRestart s).fld = s.fld := by
  unfold stewardRestart
  dsimp only
  (repeat' split) <;> simp

@[simp] theorem newPeriod_frame (s : State) :
    (newPeriod s).now = s.now ∧ (newPeriod s).power = s.power := by
  unfold newPeriod
  dsimp only
  and_intros <;> (repeat' split) <;> simp

@[simp] theorem disqualify_host (cause : Nat) (s : State) :
    (disqualify cause s).host = s.host := by
  unfold disqualify
  dsimp only
  (repeat' split) <;> simp

@[simp] theorem abortEdit_host (cause : Nat) (s : State) :
    (abortEdit cause s).host = s.host := by simp [abortEdit]

@[simp] theorem editOnRetire_host (s : State) :
    (editOnRetire s).host = s.host := by
  unfold editOnRetire
  (repeat' split) <;> simp

@[simp] theorem moduleFailure_host (cause : Nat) (s : State) :
    (moduleFailure cause s).host = s.host := by
  unfold moduleFailure
  dsimp only
  (repeat' split) <;> simp

@[simp] theorem clearRegion_host (p : Nat) (s : State) :
    (clearRegion p s).host = s.host := by simp [clearRegion]

@[simp] theorem retireRegion_host (p cause : Nat) (s : State) :
    (retireRegion p cause s).host = s.host := by
  unfold retireRegion
  dsimp only
  (repeat' split) <;> simp

@[simp] theorem noteRevoked_host (res : LeaseRes) (s : State) :
    (noteRevoked res s).host = s.host := by simp [noteRevoked]

@[simp] theorem disqualify_rime (cause : Nat) (s : State) :
    (disqualify cause s).rime = s.rime := by
  unfold disqualify
  dsimp only
  (repeat' split) <;> simp

@[simp] theorem firnRoom_sup (size : Nat) (s : State) :
    (firnRoom size s).sup = s.sup := by
  unfold firnRoom
  split <;> simp

@[simp] theorem clearValid_dies (s : State) : (clearValid s).fld.dies = s.fld.dies := by
  unfold clearValid
  split <;> simp [claimChanged]

@[simp] theorem disqualify_ctr (cause : Nat) (s : State) : (disqualify cause s).sup.ctr = s.sup.ctr := by
  unfold disqualify
  dsimp only
  split <;> simp [logFault]

@[simp] theorem moduleFailure_ctr (cause : Nat) (s : State) : (moduleFailure cause s).sup.ctr = s.sup.ctr := by
  unfold moduleFailure
  dsimp only
  split <;> simp

@[simp] theorem editOnRetire_sup (s : State) : (editOnRetire s).sup = s.sup := by
  unfold editOnRetire
  (repeat' split) <;> simp [abortEdit]

@[simp] theorem retireRegion_ctr (p cause : Nat) (s : State) : (retireRegion p cause s).sup.ctr = s.sup.ctr := by
  unfold retireRegion
  dsimp only
  (repeat' split) <;> simp [logFault, clearRegion]

@[simp] theorem stewardRestart_ctr (s : State) : (stewardRestart s).sup.ctr = s.sup.ctr := by
  unfold stewardRestart
  dsimp only
  split <;> simp [abortEdit]

/-! ### Check-ins and periods -/

theorem checkIn_open {s : State} {n : Nat} (ht : s.sup.tallyOn = true) (ho : windowOpen s.sup.ticks s.sup.wdf ≤ tallyCount s)
    (hp : tallyCount s < s.sup.ticks) (hn : s.sup.satisfied.getLsbD n = false) :
    checkIn n s = { s with sup.satisfied := s.sup.satisfied ||| (1#32 <<< n), sup.ready := s.sup.ready ||| (1#32 <<< n) } := by
  simp [checkIn, ht, not_lt.mpr ho, hp, hn]

theorem checkIn_zero_one {s : State} (ht : s.sup.tallyOn = true) (ho : windowOpen s.sup.ticks s.sup.wdf ≤ tallyCount s)
    (hp : tallyCount s < s.sup.ticks) (h0 : s.sup.satisfied.getLsbD 0 = false) (h1 : s.sup.satisfied.getLsbD 1 = false)
    (a b : Bool) :
    ∀ v, v = (if b then (if a then s else checkIn 0 s) else checkIn 1 (if a then s else checkIn 0 s)) →
      v.sup.satisfied.getLsbD 0 = !a ∧ v.sup.satisfied.getLsbD 1 = !b ∧ v.sup.ctr = s.sup.ctr ∧ v.fld = s.fld := by
  rintro _ rfl
  have g0 : s.sup.satisfied[0] = false := h0
  have g1 : s.sup.satisfied[1] = false := h1
  have hfirst := checkIn_open ht ho hp h0
  cases a
  case true => cases b <;> simp [checkIn_open ht ho hp h1, g0, g1]
  case false =>
    obtain ⟨x, hx⟩ : ∃ x, x = checkIn 0 s := ⟨_, rfl⟩
    rw [← hx] at hfirst
    have hsat : x.sup.satisfied = s.sup.satisfied ||| 1#32 := by simp [hfirst]
    have hctr : x.sup.ctr = s.sup.ctr := by rw [hfirst]
    have hfld : x.fld = s.fld := by rw [hfirst]
    have hsecond := checkIn_open (n := 1) (s := x) (by rw [hfirst]; exact ht)
      (by rw [hfirst]; exact ho) (by rw [hfirst]; exact hp) (by rw [hsat]; simp [g1])
    cases b <;> simp [← hx, hsecond, hsat, hctr, hfld, g0, g1]

theorem newPeriod_begins (s : State) :
    (newPeriod s).sup.periodAt = s.now ∧ (newPeriod s).sup.satisfied = 0#32 ∧ (newPeriod s).sup.tallyOn = s.sup.tallyOn
      ∧ (newPeriod s).sup.trips = s.sup.trips ∧ (newPeriod s).fld = s.fld ∧ (newPeriod s).power = s.power := by
  unfold newPeriod
  split <;> exact ⟨rfl, rfl, rfl, rfl, rfl, rfl⟩

theorem tallyPeriodEnd_ended {s : State} (ht : s.sup.tallyOn = true) (hp : s.sup.ticks ≤ tallyCount s) :
    (requiredMask s &&& ~~~s.sup.satisfied = 0#32 → tallyPeriodEnd s
        = newPeriod { s with sup.stewardOk := s.sup.satisfied.getLsbD 0 && s.sup.satisfied.getLsbD 1 })
      ∧ (requiredMask s &&& ~~~s.sup.satisfied ≠ 0#32 → tallyPeriodEnd s
        = tallyTrip (requiredMask s &&& ~~~s.sup.satisfied) 0 (s.sup.satisfied.getLsbD 0 && s.sup.satisfied.getLsbD 1) s) := by
  unfold tallyPeriodEnd
  rw [if_neg (by simp [ht, hp])]
  exact ⟨fun h => if_pos h, fun h => if_neg h⟩

/-! ### The trip -/

/-- A trip that is noted: Tally off, the trip counted, and its words kept, in the fault log or latched for Steward. -/
def tripNoted (mask : Word) (kind : Nat) (stewardPassed : Bool) (s : State) : State :=
  let s2 := { s with
    sup.tallyOn := false
    sup.trips := min (s.sup.trips + 1) 65535
    sup.tripAt := s.now :: s.sup.tripAt.take 15 }
  if stewardPassed then powerDump false (logFault 0x10 3 (whr 4 0 0) mask (w32 kind) s2)
  else { s2 with sup.tripLatched := some (mask, kind) }

theorem tripNoted_frame (mask : Word) (kind : Nat) (stewardPassed : Bool) (s : State) :
    (tripNoted mask kind stewardPassed s).power = s.power ∧ (tripNoted mask kind stewardPassed s).pair = s.pair
      ∧ (tripNoted mask kind stewardPassed s).rime = s.rime ∧ (tripNoted mask kind stewardPassed s).fld.dies = s.fld.dies := by
  unfold tripNoted
  dsimp only
  split <;> simp

theorem tripNoted_sup (mask : Word) (kind : Nat) (stewardPassed : Bool) (s : State) :
    (tripNoted mask kind stewardPassed s).sup.tallyOn = false
      ∧ (tripNoted mask kind stewardPassed s).sup.trips = min (s.sup.trips + 1) 65535
      ∧ (stewardPassed = false → (tripNoted mask kind stewardPassed s).sup.tripLatched = some (mask, kind)) := by
  unfold tripNoted
  cases stewardPassed <;> simp [logFault]

theorem disqualify_trips (cause : Nat) (s : State) :
    (disqualify cause s).sup.trips = s.sup.trips ∧ (disqualify cause s).fld.dies = s.fld.dies := by
  unfold disqualify
  dsimp only
  split <;> simp [logFault]

theorem tallyTrip_eq (mask : Word) (kind : Nat) (stewardPassed : Bool) (s : State) :
    ∃ v, v = tripNoted mask kind stewardPassed (disqualify 0x10 (holdAll (abandonAll s)))
      ∧ tallyTrip mask kind stewardPassed s = if isKeeper s && fullService s then
        { v with power.restart := some .trip, power.tripUntil := some (s.now + 250000 * s.pair.leaseQ), power.startReady := false }
      else { v with rime.mode := 0, power.restart := some .trip, power.service := .booting, power.startReady := false
                    power.pwrGood := false } := ⟨_, rfl, rfl⟩

theorem tallyTrip_trips (mask : Word) (kind : Nat) (stewardPassed : Bool) (s : State) :
    ∀ v, v = tallyTrip mask kind stewardPassed s →
      v.sup.tallyOn = false ∧ v.sup.trips = min (s.sup.trips + 1) 65535 ∧ v.pair.valid = false ∧ v.power.restart = some .trip
        ∧ (s.pair.role ≠ .keeper ∨ fullService s = false → v.power.pwrGood = false ∧ v.rime.mode = 0 ∧ v.power.service = .booting)
        ∧ (s.pair.role = .keeper → fullService s = true → v.power.tripUntil = some (s.now + 250000 * s.pair.leaseQ)
          ∧ v.rime.mode = s.rime.mode)
        ∧ (∀ d, d < 4 → (v.die d).hold = true ∧ (v.die d).holding = true)
        ∧ (stewardPassed = false → v.sup.tripLatched = some (mask, kind)) := by
  rintro _ rfl
  obtain ⟨x, hx, heq⟩ := tallyTrip_eq mask kind stewardPassed s
  obtain ⟨-, hpair, hrime, hdies⟩ := tripNoted_frame mask kind stewardPassed (disqualify 0x10 (holdAll (abandonAll s)))
  obtain ⟨hon, htrips, hlatch⟩ := tripNoted_sup mask kind stewardPassed (disqualify 0x10 (holdAll (abandonAll s)))
  rw [← hx] at hpair hrime hdies hon htrips hlatch
  have ht : x.sup.trips = min (s.sup.trips + 1) 65535 := by rw [htrips, (disqualify_trips ..).1]; simp
  have hv : x.pair.valid = false := by rw [hpair, (disqualify_pair ..).1]
  have hr : x.rime = s.rime := by rw [hrime]; simp
  have hd : ∀ d, d < 4 → (x.die d).hold = true ∧ (x.die d).holding = true := by
    intro d hd
    rw [State.die, hdies, (disqualify_trips ..).2]
    exact die_holdAll _ hd
  rw [heq]
  clear hx heq hpair hrime hdies htrips
  by_cases hk : (isKeeper s && fullService s) = true
  · rw [if_pos hk]
    obtain ⟨hrole, hfull⟩ : s.pair.role = .keeper ∧ fullService s = true := by simpa [isKeeper] using hk
    refine ⟨hon, ht, hv, rfl, fun h => ?_, fun _ _ => ⟨rfl, by rw [hr]⟩, hd, hlatch⟩
    simp [hrole, hfull] at h
  · rw [if_neg hk]
    refine ⟨hon, ht, hv, rfl, fun _ => ⟨rfl, rfl, rfl⟩, fun h1 h2 => ?_, hd, hlatch⟩
    simp [isKeeper, h1, h2] at hk

/-! ### Steward -/

theorem Tbl.get_mem_or {α : Type} (m : Tbl α) (d : α) (k : Nat) : m.get d k = d ∨ ∃ e ∈ m, m.get d k = e.2 := by
  induction m with
  | nil => exact .inl rfl
  | cons e m ih =>
    unfold Tbl.get
    split
    · exact .inr ⟨e, by simp, rfl⟩
    · obtain h | ⟨x, hx, h⟩ := ih
      · exact .inl h
      · exact .inr ⟨x, by simp [hx], h⟩

theorem Tbl.get_mapVal {α : Type} [DecidableEq α] {d : α} {f : Nat → α → α} {P : α → Prop} (hd : P d)
    (hf : ∀ k x, P (f k x)) (m : Tbl α) (k : Nat) : P ((m.mapVal d f).get d k) := by
  obtain h | ⟨e, he, h⟩ := Tbl.get_mem_or (m.mapVal d f) d k
  · rw [h]
    exact hd
  · obtain ⟨b, -, hb⟩ := List.mem_filterMap.mp he
    obtain ⟨-, rfl⟩ : _ ∧ _ = e := by simpa only [Option.ite_none_left_eq_some, Option.some.injEq] using hb
    rw [h]
    exact hf _ _

theorem setIrq_host (n : Nat) (s : State) : (setIrq n s).host.works = s.host.works ∧ (setIrq n s).host.mb = s.host.mb := by
  unfold setIrq
  split <;> exact ⟨rfl, rfl⟩

theorem setIrq_irq (n : Fin 32) (s : State) : (setIrq n s).host.irq.getLsbD n = true := by
  unfold setIrq
  split
  next h => exact h
  · simp

theorem stewardRestart_clears {s : State} (h : s.edit.state ≠ 1) :
    (stewardRestart s).host.works = [] ∧ (∀ n, ((stewardRestart s).mbox n).state = 0)
      ∧ (stewardRestart s).sup.stewardRestarts = (s.sup.stewardRestarts + 1) % 256
      ∧ (stewardRestart s).host.irq.getLsbD 11 = true ∧ (stewardRestart s).img = s.img ∧ (stewardRestart s).fld = s.fld := by
  unfold stewardRestart
  dsimp only
  rw [if_neg h]
  refine ⟨(setIrq_host ..).1, fun n => ?_, by rw [setIrq_sup], setIrq_irq 11 _, by rw [setIrq_img], by rw [setIrq_fld]⟩
  rw [State.mbox, (setIrq_host ..).2]
  exact Tbl.get_mapVal (d := ({} : Mailbox)) (P := fun m => m.state = 0)
    (f := fun _ m => { m with state := 0, deferredResult := false })
    rfl (fun _ _ => rfl) s.host.mb n

/-! ### Leases -/

theorem noteRevoked_frame (res : LeaseRes) (s : State) :
    (noteRevoked res s).host = s.host ∧ (noteRevoked res s).img = s.img ∧ (noteRevoked res s).ldg = s.ldg
      ∧ (noteRevoked res s).edit = s.edit
      ∧ (noteRevoked res s).sup.ctr.get 0 10 = (s.sup.ctr.get 0 10 + 1) % 2 ^ 32 := by
  refine ⟨rfl, rfl, rfl, rfl, ?_⟩
  simp [noteRevoked, logFault, count]

theorem revokeSteward_counts (res : LeaseRes) (s : State) :
    (revokeSteward res s).ldg = s.ldg ∧ (revokeSteward res s).sup.ctr.get 0 10 = (s.sup.ctr.get 0 10 + 1) % 2 ^ 32 := by
  obtain ⟨-, -, hl, -, hc⟩ := noteRevoked_frame res s
  unfold revokeSteward
  dsimp only
  split
  · exact ⟨by rw [stewardRestart_ldg, hl], by rw [stewardRestart_ctr, hc]⟩
  · exact ⟨hl, hc⟩

theorem firnRoom_mram (size : Nat) (s : State) : (firnRoom size s).ldg.mram = s.ldg.mram := by
  unfold firnRoom
  split <;> rfl

theorem firnSpoil_frame (s : State) : (firnSpoil s).ldg.mram = s.ldg.mram ∧ (firnSpoil s).sup = s.sup := by
  unfold firnSpoil
  exact ⟨by simp [firnRoom_mram], by simp⟩

theorem leaseExpiry_imagePort {s : State} {r : Fin 4} {n : Fin 51} {held : Nat} (hs : (s.task n).state ≠ .idle)
    (hh : 100000 ≤ held) :
    (leaseExpiry (.imagePort r n held) s).img = s.img
      ∧ (leaseExpiry (.imagePort r n held) s).sup.ctr.get 0 10 = (s.sup.ctr.get 0 10 + 1) % 2 ^ 32 := by
  obtain ⟨-, hi, -, -, hc⟩ := noteRevoked_frame (.imagePort r n held) (abandonCycle n s)
  have hi' := hi.trans (abandonCycle_frame n s).1
  rw [(abandonCycle_frame n s).2] at hc
  unfold leaseExpiry
  dsimp only
  rw [if_neg (by simp [hs, not_lt.mpr hh])]
  split
  · exact ⟨by rw [retireRegion_img, hi'], by rw [retireRegion_ctr, hc]⟩
  · exact ⟨hi', hc⟩

theorem leaseExpiry_flash {s : State} (h : Fin 4) (erase : Bool) {held : Nat} (hf : s.ldg.flashFailed = false) :
    (held < 20000000 → leaseExpiry (.flash h erase held) s = s)
      ∧ (20000000 ≤ held → (leaseExpiry (.flash h erase held) s).ldg.mram = s.ldg.mram
        ∧ (leaseExpiry (.flash h erase held) s).sup.ctr.get 0 10 = (s.sup.ctr.get 0 10 + 1) % 2 ^ 32) := by
  unfold leaseExpiry
  dsimp only
  rw [show 20 * 10 ^ 6 = 20000000 by norm_num]
  refine ⟨fun hh => if_pos (Or.inl hh), fun hh => ?_⟩
  rw [if_neg (by simp [hf, not_lt.mpr hh])]
  obtain ⟨hl, hc⟩ := revokeSteward_counts (.flash h erase held) (if h.val = 0 ∧ !erase then firnSpoil s else s)
  obtain ⟨hm, hsup⟩ := firnSpoil_frame s
  rw [hl, hc]
  split
  · exact ⟨hm, by rw [hsup]⟩
  · exact ⟨rfl, rfl⟩

theorem leaseExpiry_mailbox {s : State} {n : Fin 8} (hs : (s.mbox n).state = 1)
    (hp : (s.mbox n).leaseAt + 10000000000 ≤ s.now) :
    ∀ v, v = leaseExpiry (.mailbox n) s → (v.mbox n).state = 0 ∧ (v.mbox n).revokedN = min ((s.mbox n).revokedN + 1) 65535
      ∧ v.host.works = (s.host.works.filter fun w => w.mb ≠ n.val || w.deferred)
      ∧ v.sup.ctr.get 0 10 = (s.sup.ctr.get 0 10 + 1) % 2 ^ 32 := by
  rintro _ rfl
  have hgo : ¬ ((s.mbox n).state = 0 ∨ (!passed s.now (s.mbox n).leaseAt (10 ^ 10)) = true) := by
    rw [show 10 ^ 10 = 10000000000 by norm_num]
    simp [hs, passed, hp]
  obtain ⟨hh, -, -, -, hc⟩ := noteRevoked_frame (.mailbox n) (revokeMailbox n s)
  have hr : revokeMailbox n s = { (s.setMbox n { s.mbox n with revokedN := min ((s.mbox n).revokedN + 1) 65535 }).setMbox n
      { s.mbox n with revokedN := min ((s.mbox n).revokedN + 1) 65535, state := 0 } with
      host.works := s.host.works.filter fun w => w.mb ≠ n.val || w.deferred } := by
    unfold revokeMailbox
    dsimp only
    rw [if_neg (by omega)]
    simp [State.mbox, State.setMbox]
  have heq : leaseExpiry (.mailbox n) s = noteRevoked (.mailbox n) (revokeMailbox n s) := if_neg hgo
  rw [heq, hc, State.mbox, hh, hr]
  simp [State.setMbox]

/-! ### The lease of a claim -/

theorem latches_setDie (n : Nat) (d : FieldDie) (s : State) : latches (s.setDie n d) = latches s := rfl

theorem claimLeaseExpiry_latches (n k : Nat) (s : State) : latches (claimLeaseExpiry n k s) = latches s := by
  unfold claimLeaseExpiry
  dsimp only
  split
  · rfl
  · exact latches_setDie ..

theorem claimLeaseExpiry_now (n k : Nat) (s : State) : (claimLeaseExpiry n k s).now = s.now := by
  unfold claimLeaseExpiry
  dsimp only
  split <;> rfl

theorem claimLeaseExpiry_other {n m : Nat} (h : m ≠ n) (k : Nat) (s : State) : (claimLeaseExpiry n k s).die m = s.die m := by
  unfold claimLeaseExpiry
  dsimp only
  split
  · rfl
  · rw [State.die_setDie, if_neg h]

theorem List.foldl_picks {P : Nat → Prop} {f : Option Nat → Nat → Option Nat}
    (hf : ∀ best k, f best k = best ∨ f best k = some k ∧ P k) {k : Nat} (l : List Nat) (best : Option Nat)
    (hb : ∀ b, best = some b → P b) (h : l.foldl f best = some k) : P k := by
  induction l generalizing best with
  | nil => exact hb k h
  | cons a l ih =>
    refine ih (f best a) (fun b hfb => ?_) h
    obtain he | ⟨he, hp⟩ := hf best a
    · exact hb b (he.symm.trans hfb)
    · exact Option.some.inj (he.symm.trans hfb) ▸ hp

theorem bestSource_valid {s : State} {d : FieldDie} {k : Nat} (h : bestSource s d = some k) :
    claimValid s (d.claims.get {} k) = true := by
  refine List.foldl_picks (P := fun k => claimValid s (d.claims.get {} k) = true) (fun best k => ?_) [0, 1, 2] none nofun h
  by_cases hv : claimValid s (d.claims.get {} k) = true
  · simp only [hv, Bool.not_true, Bool.false_eq_true, if_false, and_true]
    split
    · exact .inr rfl
    · split
      · exact .inr rfl
      · exact .inl rfl
  · exact .inl (if_pos (by simpa using hv))

theorem claimLeaseExpiry_runs_out {s : State} {n : Nat} (hp : (s.die n).powered = true)
    (hh : ((s.die n).claims.get {} 0).heard = true)
    (hl : ((s.die n).claims.get {} 0).last + 250000 * ((s.die n).claims.get {} 0).leaseQ ≤ s.now) :
    (((claimLeaseExpiry n 0 s).die n).claims.get {} 0).heard = false ∧ ((claimLeaseExpiry n 0 s).die n).obeyed ≠ some 0 := by
  obtain ⟨d, hd⟩ : ∃ d, d = { s.die n with
    claims := (s.die n).claims.set {} 0 { (s.die n).claims.get {} 0 with heard := false } } := ⟨_, rfl⟩
  have heq : claimLeaseExpiry n 0 s
      = s.setDie n { d with obeyed := bestSource s d, holding := d.holding || (bestSource s d).isNone } := by
    rw [hd]
    exact if_neg (by simp [hp, hh, passed, hl])
  have hheard : (d.claims.get {} 0).heard = false := by simp [hd]
  rw [heq, State.die_setDie, if_pos rfl]
  refine ⟨hheard, fun h => ?_⟩
  simpa [claimValid, hheard] using bestSource_valid h

theorem claims_expire {s : State} {d : Nat} (hd : d < 4) (hp : (s.die d).powered = true)
    (hh : ((s.die d).claims.get {} 0).heard = true)
    (hl : ((s.die d).claims.get {} 0).last + 250000 * ((s.die d).claims.get {} 0).leaseQ ≤ s.now) :
    ∀ v, v = leaseExpiry .claim s → ((v.die d).claims.get {} 0).heard = false ∧ (v.die d).obeyed ≠ some 0 := by
  rintro _ rfl
  have hsplit : List.range 4 = List.range d ++ d :: (List.range (3 - d)).map (d + 1 + ·) := by
    obtain rfl | rfl | rfl | rfl : d = 0 ∨ d = 1 ∨ d = 2 ∨ d = 3 := by omega
    all_goals decide
  have hother : ∀ (l : List Nat) (v : State), d ∉ l → (l.foldl (fun s n => claimLeaseExpiry n 0 s) v).die d = v.die d := by
    intro l
    induction l with
    | nil => intro v _; rfl
    | cons n l ih =>
      intro v hn
      obtain ⟨h1, h2⟩ := List.ne_and_not_mem_of_not_mem_cons hn
      exact (ih _ h2).trans (claimLeaseExpiry_other h1 0 v)
  obtain ⟨x, hx⟩ : ∃ x, x = (List.range d).foldl (fun s n => claimLeaseExpiry n 0 s) s := ⟨_, rfl⟩
  have hxd : x.die d = s.die d := hx ▸ hother _ s (by simp)
  have hxn : x.now = s.now := hx ▸ foldl_keeps State.now (fun v n => claimLeaseExpiry_now n 0 v) _ s
  have heq : leaseExpiry .claim s = ((List.range (3 - d)).map (d + 1 + ·)).foldl (fun s n => claimLeaseExpiry n 0 s)
      (claimLeaseExpiry d 0 x) := by
    rw [hx]
    have hall : leaseExpiry .claim s = (List.range 4).foldl (fun s n => claimLeaseExpiry n 0 s) s := rfl
    rw [hall, hsplit, List.foldl_append, List.foldl_cons]
  rw [heq, hother _ _ (by simp; omega)]
  exact claimLeaseExpiry_runs_out (by rw [hxd, hp]) (by rw [hxd, hh]) (by rw [hxd, hxn]; exact hl)

/-! ### TALLY_CFG -/

theorem tallyCfg_taken {s : State} {w : Work} {us clk : Nat} (hq : payloadBit w.payload 5 7 = false) (hp : s.power.state ≠ .holdup)
    (hus : us = clamp 1000 10000000 (field w.payload 0 4 100000))
    (hclk : clk = if 1 < field w.payload 4 1 0 then 0 else field w.payload 4 1 0)
    (hw : windowTooShort s us clk (prog s).checkinUs = false) :
    ∃ p, tallyCfg w s = (.done DONE p, { s with sup.tallyNext := some (us, clk) }) := by
  unfold tallyCfg
  simp only [hq, Bool.false_eq_true, if_false, ← hus, ← hclk]
  exact ⟨_, checked_pass (by simp [firstStatus, hw, inHoldup_eq_false hp])⟩

theorem tallyCfg_query {s : State} {w : Work} (hq : payloadBit w.payload 5 7 = true) :
    ∃ p, tallyCfg w s = (.done DONE p, s) := by
  unfold tallyCfg
  simp only [hq, if_true]
  exact ⟨_, rfl⟩

end Sys2Proof.Machine

open Sys2Proof Sys2Proof.Machine

/-- Settles O43: a period ends in `newPeriod` or in `tallyTrip`, which puts every die in hold before it disqualifies the module;
a lease that runs out goes through `noteRevoked`, and what follows a third revocation leaves the counters. -/
theorem tallyTripsAndLeasesEnd : Obligations.TallyTripsAndLeasesEnd := by
  intro s t mb w u
  have hports : portsUp s = true → ∀ res, exec (.leaseExpiry t res) s = .next (leaseExpiry res u) := fun h res =>
    congrArg Host.Outcome.next (if_pos (by simpa [u] using h))
  have hsup : u.sup = s.sup := advance_sup t s
  refine ⟨fun a b ht hk ho hp h0 h1 => ?_, fun ht hp hm => ?_, fun ht hp hm => ?_, fun hp he => ?_, fun hp => ?_,
    fun hp n steward held => ?_, fun hp r n held => ?_, fun hp hf h erase held => ?_, fun hp n hs hl => ?_,
    fun h hq hp us clk hus hclk hw => ?_, fun h hq => ?_⟩
  · have hgo : ¬ (!u.sup.tallyOn || u.sec.stewardHalted || decide (tallyCount u < windowOpen u.sup.ticks u.sup.wdf)) = true := by
      simp [u, ht, hk, not_lt.mpr ho]
    refine ⟨_, congrArg Host.Outcome.next (if_neg hgo), ?_⟩
    simpa [u] using checkIn_zero_one (s := u) (by rw [hsup, ht]) (by rw [hsup]; exact ho) (by rw [hsup]; exact hp)
      (by rw [hsup, h0]) (by rw [hsup, h1]) a b _ rfl
  · obtain ⟨h1, -⟩ := tallyPeriodEnd_ended (s := u) (by rw [hsup, ht]) (by rw [hsup]; exact hp)
    refine ⟨_, congrArg Host.Outcome.next (h1 (by simpa [u] using hm)), ?_⟩
    simpa [u, ht] using newPeriod_begins { u with sup.stewardOk := u.sup.satisfied.getLsbD 0 && u.sup.satisfied.getLsbD 1 }
  · obtain ⟨-, h2⟩ := tallyPeriodEnd_ended (s := u) (by rw [hsup, ht]) (by rw [hsup]; exact hp)
    refine ⟨_, congrArg Host.Outcome.next (h2 (by simpa [u] using hm)), ?_⟩
    obtain ⟨g1, g2, g3, g4, g5, g6, g7, g8⟩ := tallyTrip_trips (requiredMask u &&& ~~~u.sup.satisfied) 0
      (u.sup.satisfied.getLsbD 0 && u.sup.satisfied.getLsbD 1) u _ rfl
    refine ⟨g1, by simpa [u] using g2, g3, g4, by simpa [u] using g5, by simpa [u] using g6, g7, fun h => ?_⟩
    have := g8 (by rw [hsup, h]; rfl)
    simpa [u] using this
  · have h := stewardRestart_clears (s := u) (by simpa [u] using he)
    refine ⟨stewardRestart u, congrArg Host.Outcome.next (if_pos (by simpa [u] using hp)), ?_⟩
    simpa [u] using h
  · refine ⟨_, hports hp .claim, ?_, fun d hd q hq hpw hh hl => ?_⟩
    · refine (foldl_keeps latches (fun v n => claimLeaseExpiry_latches n 0 v) _ u).trans ?_
      simp [latches, State.chan, u]
    · have hdie : u.die d = s.die d := by simp [u, State.die]
      rw [hq, ← hdie] at hh hl
      exact claims_expire hd (by rw [hdie, hpw]) hh hl _ rfl
  · rw [hports hp]
    exact ⟨fun h => congrArg Host.Outcome.next (if_pos h), fun h hst => congrArg Host.Outcome.next
      ((if_neg (not_lt.mpr h)).trans (if_neg (by simp [hst])))⟩
  · rw [hports hp]
    refine ⟨fun h => congrArg Host.Outcome.next (if_pos (Or.inr h)), fun h hs => ⟨_, rfl, ?_⟩⟩
    have := leaseExpiry_imagePort (s := u) (r := r) (n := n) (by simpa [u, State.task] using hs) h
    simpa [u] using this
  · rw [hports hp]
    obtain ⟨h1, h2⟩ := leaseExpiry_flash (s := u) h erase (held := held) (by simpa [u] using hf)
    refine ⟨fun hh => congrArg Host.Outcome.next (h1 hh), fun hh => ⟨_, rfl, ?_⟩⟩
    simpa [u] using h2 hh
  · have := leaseExpiry_mailbox (s := u) (n := n) (by simpa [u, State.mbox] using hs) (by simpa [u, State.mbox] using hl) _ rfl
    refine ⟨_, hports hp _, ?_⟩
    simpa [u, State.mbox] using this
  · obtain ⟨p, hf⟩ := tallyCfg_taken (s := u) hq (by simpa [u] using hp) hus hclk (by simpa [u] using hw)
    exact ⟨p, runCommand_answers h hf rfl⟩
  · obtain ⟨p, hf⟩ := tallyCfg_query (s := u) hq
    exact ⟨p, runCommand_answers h hf rfl⟩

end

section
/-! PROOFS. Firn, the retentive journal, the magnetometer, the archive and the scrubs (R422, R423, R426, R431-R433, R440-R443,
R475). -/

namespace Sys2Proof.Machine

/-! ### Firn -/

theorem firnRoom_ldg (size : Nat) (s : State) :
    (firnRoom size s).ldg.mram = s.ldg.mram ∧ (firnRoom size s).ldg.hot = s.ldg.hot
      ∧ (firnRoom size s).ldg.cls = s.ldg.cls ∧ (firnRoom size s).ldg.firn = s.ldg.firn
      ∧ (firnRoom size s).ldg.home = s.ldg.home ∧ (firnRoom size s).ldg.homeFirn = s.ldg.homeFirn
      ∧ (firnRoom size s).ldg.journal = s.ldg.journal ∧ (firnRoom size s).ldg.magAlert = s.ldg.magAlert
      ∧ (firnRoom size s).ldg.firnErases = s.ldg.firnErases ∧ (firnRoom size s).ldg.firnRetired = s.ldg.firnRetired
      ∧ (firnRoom size s).ev = s.ev := by
  unfold firnRoom
  and_intros <;> split <;> rfl

@[simp] theorem firnPlace_ldg (key len : Nat) (s : State) :
    (firnPlace key len s).ldg.mram = s.ldg.mram ∧ (firnPlace key len s).ldg.hot = s.ldg.hot
      ∧ (firnPlace key len s).ldg.cls = s.ldg.cls ∧ (firnPlace key len s).ldg.firn = s.ldg.firn
      ∧ (firnPlace key len s).ldg.home = s.ldg.home ∧ (firnPlace key len s).ldg.homeFirn = s.ldg.homeFirn
      ∧ (firnPlace key len s).ldg.journal = s.ldg.journal ∧ (firnPlace key len s).ldg.magAlert = s.ldg.magAlert
      ∧ (firnPlace key len s).ldg.firnErases = s.ldg.firnErases ∧ (firnPlace key len s).ldg.firnRetired = s.ldg.firnRetired
      ∧ (firnPlace key len s).ev = s.ev := by
  simp [firnPlace, firnRoom_ldg]

theorem firn_firnAppendRec (k j : Nat) (r : LdgRec) (s : State) : (firnAppendRec k r s).ldg.firn.get none j
    = if j = k then some { r with data := if r.deleted then [] else recData s k r } else s.ldg.firn.get none j := by
  unfold firnAppendRec
  simp only [firnPlace_ldg]
  exact Tbl.get_set ..

@[simp] theorem firnAppendRec_ldg (k : Nat) (r : LdgRec) (s : State) :
    (firnAppendRec k r s).ldg.mram = s.ldg.mram ∧ (firnAppendRec k r s).ldg.hot = s.ldg.hot
      ∧ (firnAppendRec k r s).ldg.cls = s.ldg.cls := by
  unfold firnAppendRec
  simp only [firnPlace_ldg, and_self]

theorem newerSeq_self (a : Nat) : newerSeq a a = false := by
  have hd : (a + 2 ^ 32 - a % 2 ^ 32) % 2 ^ 32 = 0 := by omega
  unfold newerSeq
  rw [hd]
  rfl

theorem rawRec_of_firnBehind {s : State} {k : Nat} (h : firnBehind s k = true) : ∃ r, rawRec s k = some r := by
  unfold firnBehind at h
  split at h
  · contradiction
  next r hr => exact ⟨r, hr⟩

/-- A key that is appended is behind no more; no other key changes. -/
theorem firnBehind_firnAppendRec {k : Nat} {r : LdgRec} {s : State} (hr : rawRec s k = some r) (j : Nat) :
    firnBehind (firnAppendRec k r s) j = if j = k then false else firnBehind s j := by
  have hraw : rawRec (firnAppendRec k r s) j = rawRec s j := by simp only [rawRec, hotRec, mramRec, firnAppendRec_ldg]
  unfold firnBehind
  rw [hraw, firnRec, firn_firnAppendRec]
  by_cases hj : j = k
  · subst hj
    simp [hr, newerSeq_self]
  · simp only [hj, if_false]
    rfl

theorem classOf_congr {s v : State} (h : v.ldg.cls = s.ldg.cls) (k : Nat) : classOf v k = classOf s k := by
  unfold classOf
  rw [h]

/-- A flash die that serves has denied no lease. -/
theorem firnAvailable_served {s v : State} (hv : v.ldg = { s.ldg with leaseDenied := none }) (h : firnAvailable s = true) :
    firnAvailable v = true := by
  have hflash : v.ldg.flashFailed = s.ldg.flashFailed := by rw [hv]
  have hfree : firnFree v = firnFree s := by simp only [firnFree, hv]
  have hlive : ∀ b, firnLive v b = firnLive s b := fun b => by simp only [firnLive, hv]
  have hcompact : canCompact v = canCompact s := by simp only [canCompact, hlive, hv]
  have hlease : leaseGone v = false := by simp only [leaseGone, hv]
  simp only [firnAvailable, Bool.and_eq_true] at h
  simp only [firnAvailable, Bool.and_eq_true, hflash, hfree, hcompact, hlease]
  exact ⟨h.1, rfl⟩

theorem firnAppend_good {s : State} {k : Nat} {r : LdgRec} (ho : s.ldg.opened = true) (hc : classOf s k = 3)
    (hb : firnBehind s k = true) (ha : firnAvailable { s with ldg.leaseDenied := none } = true) (hr : rawRec s k = some r) :
    firnAppend k .good s = firnAppendRec k r { s with ldg.leaseDenied := none } := by
  unfold firnAppend
  rw [if_neg (by simp [ho, hc, hb])]
  dsimp only [flashServes]
  rw [if_neg (by simp [ha]), hr]

theorem firnAppend_badCrc {s : State} {k : Nat} (ho : s.ldg.opened = true) (hc : classOf s k = 3)
    (hb : firnBehind s k = true) (ha : firnAvailable s = true) :
    firnAppend k .badCrc s = logFault 0x22 2 (whr 3 2 0) 7#32 1#32 (count 7 1 s) := by
  have ha' : firnAvailable (logFault 0x22 2 (whr 3 2 0) 7#32 1#32 (count 7 1 s)) = true := ha
  unfold firnAppend
  rw [if_neg (by simp [ho, hc, hb])]
  dsimp only [flashServes]
  rw [if_neg (by simp [ha'])]

/-! ### The flush of the WARM records -/

/-- One key of the flush. -/
def flushKey (s : State) (k : Nat) : State :=
  if classOf s k = 2 && firnBehind s k then
    match mramRec s k with
    | some r => firnAppendRec k r s
    | none => s
  else s

theorem flushKey_ldg (s : State) (k : Nat) :
    (flushKey s k).ldg.mram = s.ldg.mram ∧ (flushKey s k).ldg.hot = s.ldg.hot ∧ (flushKey s k).ldg.cls = s.ldg.cls := by
  unfold flushKey
  (repeat' split) <;> simp

theorem rawRec_cold {s : State} (h : s.ldg.hot = []) (k : Nat) : rawRec s k = mramRec s k := by simp [rawRec, hotRec, h]

theorem firnBehind_flushKey {s : State} (h : s.ldg.hot = []) (k j : Nat) :
    firnBehind (flushKey s k) j = (firnBehind s j && !(decide (j = k) && decide (classOf s k = 2))) := by
  unfold flushKey
  by_cases hgo : classOf s k = 2 ∧ firnBehind s k = true
  · obtain ⟨hc, hb⟩ := hgo
    obtain ⟨r, hr⟩ := rawRec_of_firnBehind hb
    rw [if_pos (by simp [hc, hb]), ← rawRec_cold h, hr]
    dsimp only
    rw [firnBehind_firnAppendRec hr]
    by_cases hj : j = k <;> simp [hj, hc]
  · rw [if_neg (by simpa using hgo)]
    by_cases hj : j = k
    · subst hj
      cases hb : firnBehind s j
      · rfl
      · simp [hb] at hgo
        simp [hgo]
    · simp [hj]

theorem flushKeys (l : List Nat) (s : State) (h : s.ldg.hot = []) :
    (l.foldl flushKey s).ldg.mram = s.ldg.mram ∧ ∀ j, classOf s j = 2 → j ∈ l ∨ firnBehind s j = false →
      firnBehind (l.foldl flushKey s) j = false := by
  induction l generalizing s with
  | nil => exact ⟨rfl, fun j _ hj => hj.resolve_left (by simp)⟩
  | cons k l ih =>
    obtain ⟨hm, hh, hcls⟩ := flushKey_ldg s k
    obtain ⟨h1, h2⟩ := ih (flushKey s k) (hh.trans h)
    refine ⟨h1.trans hm, fun j hc hj => h2 j ((classOf_congr hcls j).trans hc) ?_⟩
    rw [firnBehind_flushKey h]
    obtain hj | hj := hj
    · obtain rfl | hj := List.mem_cons.mp hj
      · simp [hc]
      · exact .inl hj
    · simp [hj]

theorem Tbl.get_of_not_mem {α : Type} {m : Tbl α} {d : α} {k : Nat} (h : k ∉ m.keys) : m.get d k = d := by
  induction m with
  | nil => rfl
  | cons e m ih =>
    obtain ⟨hne, hm⟩ := List.ne_and_not_mem_of_not_mem_cons h
    exact (if_neg hne).trans (ih hm)

theorem warmFlush_flushes {s : State} (ho : s.ldg.opened = true) (hh : s.ldg.hot = []) (ha : firnAvailable s = true)
    (ht : s.ldg.warmAt + 10000000000 ≤ s.now) :
    (warmFlush s).ldg.mram = s.ldg.mram ∧ ∀ k, classOf s k = 2 → firnBehind (warmFlush s) k = false := by
  obtain ⟨v, hv⟩ : ∃ v, v = { s with
    ldg.warmAt := s.now, ldg.cnt := s.ldg.cnt.mapVal none fun k c => if classOf s k = 2 then c.map CntRec.fold else c } := ⟨_, rfl⟩
  have hva : firnAvailable v = true := by rw [hv]; exact ha
  have hvm : v.ldg.mram = s.ldg.mram := by rw [hv]
  have hvh : v.ldg.hot = [] := by rw [hv]; exact hh
  have heq : warmFlush s = (ldgKeys v).foldl flushKey v := by
    unfold warmFlush
    rw [if_neg (by rw [show 10 ^ 10 = 10000000000 by norm_num]; simp [ho, passed, ht])]
    dsimp only
    rw [← hv, if_neg (by simp [hva])]
    rfl
  obtain ⟨h1, h2⟩ := flushKeys (ldgKeys v) v hvh
  rw [heq]
  refine ⟨h1.trans hvm, fun k hc => h2 k ((classOf_congr (by rw [hv]) k).trans hc) ?_⟩
  by_cases hk : k ∈ v.ldg.mram.keys
  · exact .inl (List.mem_append_left _ hk)
  · have hnone : rawRec v k = none := (rawRec_cold hvh k).trans (Tbl.get_of_not_mem hk)
    exact .inr (by simp [firnBehind, hnone])

/-! ### Compaction and catch-up -/

theorem firnPlace_foldl {α : Type} (f : State → α) (hf : ∀ key len v, f (firnPlace key len v) = f v) (l : List (Nat × Nat)) (s : State) :
    f (l.foldl (fun s p => firnPlace p.1 (p.2 % 2 ^ 20 - 32) s) s) = f s :=
  foldl_keeps f (fun v _ => hf _ _ v) l s

theorem firnCompaction_one {s : State} {b : Nat} (ok : Bool) (hf : s.ldg.flashFailed = false) (ho : s.ldg.opened = true)
    (hn : firnFree s < 24) (hb : s.ldg.firnClosed = [b]) :
    b ∉ (firnCompaction ok s).ldg.firnClosed
      ∧ (firnCompaction ok s).ldg.firnErases.get 0 b = s.ldg.firnErases.get 0 b + 1
      ∧ (b ∈ (firnCompaction ok s).ldg.firnRetired ↔ ok = false ∨ b ∈ s.ldg.firnRetired) := by
  have hblk : compactBlock s = some b := by
    unfold compactBlock
    rw [hb]
    rfl
  unfold firnCompaction
  rw [if_neg (by simp [hf, ho, hn]), hblk]
  dsimp only
  obtain ⟨v, hv⟩ : ∃ v, v = (s.ldg.firnEnt.filter fun p => p.2 / 2 ^ 20 = b + 1).foldl
      (fun s p => firnPlace p.1 (p.2 % 2 ^ 20 - 32) s) s := ⟨_, rfl⟩
  have he : v.ldg.firnErases = s.ldg.firnErases := hv ▸ firnPlace_foldl (fun v => v.ldg.firnErases) (by simp) _ s
  have hr : v.ldg.firnRetired = s.ldg.firnRetired := hv ▸ firnPlace_foldl (fun v => v.ldg.firnRetired) (by simp) _ s
  rw [← hv]
  clear hv
  cases ok <;> simp [he, hr]

/-- One key of the catch-up. -/
def catchUpKey (s : State) (k : Nat) : State :=
  if firnBehind s k && classOf s k ≠ 1 then
    match rawRec s k with
    | some r => firnAppendRec k r s
    | none => s
  else s

theorem catchUpKey_mram (s : State) (k : Nat) : (catchUpKey s k).ldg.mram = s.ldg.mram := by
  unfold catchUpKey
  (repeat' split) <;> simp

theorem firnCatchUp_ends {s : State} (hf : s.ldg.fallback = true) (ha : firnAvailable { s with ldg.leaseDenied := none } = true) :
    (firnCatchUp s).ldg.fallback = false ∧ (firnCatchUp s).ldg.catchUp = false ∧ (firnCatchUp s).ldg.mram = s.ldg.mram := by
  obtain ⟨v, hv⟩ : ∃ v, v = { s with ldg.leaseDenied := none } := ⟨_, rfl⟩
  have hvm : v.ldg.mram = s.ldg.mram := by rw [hv]
  have heq : firnCatchUp s = { (ldgKeys v).foldl catchUpKey v with ldg.fallback := false, ldg.catchUp := false } := by
    rw [hv]
    exact if_neg (by rw [ha, hf]; decide)
  rw [heq]
  exact ⟨rfl, rfl, (foldl_keeps (fun v => v.ldg.mram) catchUpKey_mram _ v).trans hvm⟩

/-! ### The retentive journal -/

theorem homeWrite_one {s : State} {e : JrnEnt} {k : Nat} {x : Word} (hj : s.ldg.journal = [e]) (hc : e.committed = true)
    (hp : e.pairs = [(k, x)]) : homeWrite s = { s with
      ldg.home := { words := s.ldg.home.words.set none k (some x), layout := s.ldg.home.layout.set 0 e.task e.epoch }
      ldg.journal := [] } := by
  simp [homeWrite, hj, hc, hp]

theorem retentiveHomeWrite_copies (s : State) :
    (retentiveHomeWrite s).ldg.journal = (homeWrite s).ldg.journal ∧ (retentiveHomeWrite s).ldg.home = (homeWrite s).ldg.home
      ∧ (s.ldg.magAlert = true → firnAvailable s = true → (retentiveHomeWrite s).ldg.homeFirn = some (homeWrite s).ldg.home) := by
  have hav : firnAvailable (homeWrite s) = firnAvailable s := rfl
  have hal : (homeWrite s).ldg.magAlert = s.ldg.magAlert := rfl
  unfold retentiveHomeWrite
  dsimp only
  rw [hav, hal]
  split
  · simp only [firnPlace_ldg, implies_true, and_self]
  next h => exact ⟨rfl, rfl, fun h1 h2 => absurd (by rw [h1, h2]; rfl) h⟩

/-! ### The magnetometer -/

/-- MAG_ALERT as it begins, before the home copy goes to Firn. -/
def magAlerted (s : State) : State :=
  logFault 0x33 0 (whr 3 1 0) (w32 s.ldg.magNow) 0#32 (raiseNow 85 0 (w32 s.ldg.magNow) { s with ldg.magAlert := true })

/-- What MAG_ALERT does as it begins. -/
def magAlertBegins (s : State) : State :=
  if firnAvailable (magAlerted s) then
    firnPlace (2 ^ 40) 4096 { magAlerted s with ldg.homeFirn := some (magAlerted s).ldg.home }
  else magAlerted s

theorem magAlertBegins_copies (s : State) :
    (magAlertBegins s).ldg.magAlert = true
      ∧ (magAlertBegins s).ev.inbox = s.ev.inbox ++ [eventNow 85 0 (w32 s.ldg.magNow) { s with ldg.magAlert := true }]
      ∧ (firnAvailable s = true → (magAlertBegins s).ldg.homeFirn = some s.ldg.home) := by
  have hav : firnAvailable (magAlerted s) = firnAvailable s := rfl
  unfold magAlertBegins
  rw [hav]
  split
  · simp only [firnPlace_ldg]
    exact ⟨rfl, rfl, fun _ => rfl⟩
  next h => exact ⟨rfl, rfl, fun h' => absurd h' h⟩

/-! ### The archive -/

theorem archive_whole_pages {s : State} (h : s.ev.archive.length + s.ev.soeUnarchived ≤ 5767168) :
    archiveRecs ((s.ev.soe.drop (s.ev.soe.length - s.ev.soeUnarchived)).take (s.ev.soeUnarchived / 128 * 128)) s
      = { s with ev.archive := s.ev.archive
            ++ (s.ev.soe.drop (s.ev.soe.length - s.ev.soeUnarchived)).take (s.ev.soeUnarchived / 128 * 128) } := by
  unfold archiveRecs
  rw [if_pos]
  simp only [List.length_take, List.length_drop]
  omega

/-! ### Scrubs -/

theorem noteFallback_ldg (s : State) :
    (noteFallback s).ldg.flashFailed = s.ldg.flashFailed ∧ (noteFallback s).ldg.mram = s.ldg.mram := by
  unfold noteFallback
  split <;> exact ⟨rfl, rfl⟩

end Sys2Proof.Machine

open Sys2Proof Sys2Proof.Machine

/-- Settles O34: a key that is appended is behind no more and no other key's copy changes (`firnBehind_firnAppendRec`), which the
flush does key by key; what is beyond repair goes through `moduleFailure`. -/
theorem firnAndScrubsKeepTheLedger : Obligations.FirnAndScrubsKeepTheLedger := by
  intro s t u
  have hl : u.ldg = s.ldg := advance_ldg t s
  have due (hp : s.power.state = .run) (hd : testDue 1 (s.sup.mramMin * 60000000000) u = true) :
      ¬ (!inRun u || !testDue 1 (u.sup.mramMin * 60 * 10 ^ 9) u) = true := by
    rw [show u.sup.mramMin * 60 * 10 ^ 9 = s.sup.mramMin * 60000000000 by rw [advance_sup]; ring, hd]
    simp [inRun, u, hp]
  have patrols (hp : s.power.state = .run) (hf : s.ldg.flashFailed = false) : ¬ (!inRun u || u.ldg.flashFailed) = true := by
    simp [inRun, u, hp, hf]
  refine ⟨fun k r ho hc hb ha hr hd => ?_, fun k ho hc hb ha => ?_, fun ho hh ha ht => ?_, fun b ok hf ho hn hb => ?_,
    fun hf ha => ?_, fun e k x hj hc hp => ?_, fun mag hm => ?_, fun a hh hm ha => ?_, fun a hh hm ha => ?_,
    fun hf hm h1 h2 h3 => ?_, fun hp a => ⟨fun hd => ⟨?_, ?_, ?_⟩, fun hf hd => ?_, fun hf => ?_⟩⟩
  · have hav : firnAvailable { u with ldg.leaseDenied := none } = true := firnAvailable_served (by rw [hl]) ha
    have hb' : firnBehind u k.toNat = true := by simpa [u] using hb
    have hr' : rawRec u k.toNat = some r := by simpa [u] using hr
    refine ⟨_, congrArg Host.Outcome.next (firnAppend_good (by rw [hl, ho]) (by simpa [u] using hc) hb' hav hr'), ?_, ?_, ?_⟩
    · rw [firn_firnAppendRec, if_pos rfl, hd, if_neg (by decide)]
      simp [recData]
    · intro j hj
      rw [firn_firnAppendRec, if_neg hj, hl]
    · simp
  · exact congrArg Host.Outcome.next (firnAppend_badCrc (by rw [hl, ho]) (by simpa [u] using hc) (by simpa [u] using hb) ha)
  · obtain ⟨h1, h2⟩ := warmFlush_flushes (s := u) (by rw [hl, ho]) (by rw [hl, hh]) ha (by rw [hl]; exact ht)
    exact ⟨_, rfl, by rw [h1, hl], fun k hk => h2 k (by simpa [u] using hk)⟩
  · obtain ⟨h1, h2, h3⟩ := firnCompaction_one (s := u) ok (by rw [hl, hf]) (by rw [hl, ho]) (by simpa [u] using hn) (by rw [hl, hb])
    exact ⟨_, rfl, h1, by rw [h2, hl], by rw [h3, hl]⟩
  · have hav : firnAvailable { u with ldg.leaseDenied := none } = true := firnAvailable_served (by rw [hl]) ha
    obtain ⟨h1, h2, h3⟩ := firnCatchUp_ends (s := u) (by rw [hl, hf]) hav
    exact ⟨_, rfl, h1, h2, by rw [h3, hl]⟩
  · obtain ⟨h1, h2, h3⟩ := retentiveHomeWrite_copies u
    rw [homeWrite_one (by rw [hl, hj]) hc hp] at h1 h2 h3
    refine ⟨_, rfl, h1, ?_, fun j hj => ?_, ?_, fun hm ha => ?_⟩
    · rw [h2]
      simp
    · rw [h2, hl]
      simp [hj]
    · rw [h2]
      simp
    · rw [h3 (by rw [hl, hm]) ha, h2]
  · refine congrArg Host.Outcome.next ?_
    rw [min_eq_left (by omega : mag ≤ 65535), hl]
  · have hgo : exec (.magAlertSet t) s = .next (magAlertBegins u) := by
      refine congrArg Host.Outcome.next ?_
      have hgo : (!u.ldg.magAlert && passed u.now a (10 * 10 ^ 6)) = true := by
        rw [show 10 * 10 ^ 6 = 10000000 by norm_num]
        simpa [hl, hm, passed] using ha
      rw [show (advance t s).ldg.magHighAt = some a by rw [hl, hh]]
      exact if_pos hgo
    obtain ⟨h1, h2, h3⟩ := magAlertBegins_copies u
    refine ⟨_, _, hgo, h1, h2.trans (congrArg (· ++ _) (by simp [u])), rfl, by rw [← hl]; rfl, fun ha => by rw [h3 ha, hl]⟩
  · have hgo : (u.ldg.magAlert && passed u.now a (10 ^ 10)) = true := by
      rw [show 10 ^ 10 = 10000000000 by norm_num]
      simpa [hl, hm, passed] using ha
    refine ⟨{ u with ldg.magAlert := false, ldg.homeFirn := none, ldg.firnEnt := u.ldg.firnEnt.set 0 (2 ^ 40) 0 },
      congrArg Host.Outcome.next ?_, rfl, rfl, by simp [u]⟩
    rw [show (advance t s).ldg.magLowAt = some a by rw [hl, hh]]
    exact if_pos hgo
  · have hev : u.ev = s.ev := advance_ev t s
    have hn : ¬ (u.ldg.flashFailed || decide (u.ev.soeUnarchived / 128 * 128 = 0)) = true := by
      simp [u, hf]
      omega
    have hwhole := archive_whole_pages (s := u) (by rw [hev]; exact h3)
    refine congrArg Host.Outcome.next ?_
    rw [show (advance t s).ldg.magAlert = false by rw [hl, hm]]
    refine (if_neg hn).trans ?_
    have hsub : u.ev.soeUnarchived - u.ev.soeUnarchived / 128 * 128 = s.ev.soeUnarchived % 128 := by
      rw [hev]
      omega
    change { archiveRecs ((u.ev.soe.drop (u.ev.soe.length - u.ev.soeUnarchived)).take (u.ev.soeUnarchived / 128 * 128)) u with
      ev.soeUnarchived := u.ev.soeUnarchived - u.ev.soeUnarchived / 128 * 128 } = _
    rw [hwhole, hsub, hev]
  · exact congrArg Host.Outcome.next (if_neg (due hp hd))
  · exact ⟨moduleFailure 2 (logFault 2 3 (whr 3 1 0) 5#32 0#32 (count 1 1 (tested 1 u))),
      congrArg Host.Outcome.next (if_neg (due hp hd)), (moduleFailure_failed ..).symm⟩
  · exact ⟨moduleFailure 2 (logFault 2 3 (whr 3 1 0) 5#32 0#32 (count 1 1 (tested 1 u))),
      congrArg Host.Outcome.next (if_neg (due hp hd)), (moduleFailure_failed ..).symm⟩
  · have hdue : ¬ (!testDue 2 (u.sup.patrolDays * 86400 * 10 ^ 9) u) = true := by
      rw [show u.sup.patrolDays * 86400 * 10 ^ 9 = s.sup.patrolDays * 86400000000000 by rw [advance_sup]; ring]
      simpa using hd
    exact congrArg Host.Outcome.next ((if_neg (patrols hp hf)).trans ((if_neg (by decide)).trans (if_neg hdue)))
  · obtain ⟨h1, h2⟩ := noteFallback_ldg { u with ldg.flashFailed := true }
    exact ⟨noteFallback { u with ldg.flashFailed := true },
      congrArg Host.Outcome.next ((if_neg (patrols hp hf)).trans (if_pos rfl)), h1, by rw [h2]; simp [u]⟩

end

section
/-! PROOFS. What happens at a BASE boundary: a stop, an epoch switch, a handover (R161, R165, R279, R412, R413). -/

namespace Sys2Proof.Machine

/-! ### What the steps of this family leave unchanged -/

@[simp] theorem startRelease_ps_edit_fld (n : Nat) (c : Cause) (s : State) :
    (startRelease n c s).ps = s.ps ∧ (startRelease n c s).edit = s.edit ∧ (startRelease n c s).fld = s.fld := by simp [startRelease]

@[simp] theorem release_ps_edit_fld (n : Nat) (c : Cause) (s : State) :
    (release n c s).ps = s.ps ∧ (release n c s).edit = s.edit ∧ (release n c s).fld = s.fld := by
  unfold release
  dsimp only
  and_intros <;> (repeat' split) <;> simp

@[simp] theorem releaseOwn_ps_edit_fld (n : Nat) (c : Cause) (s : State) :
    (releaseOwn n c s).ps = s.ps ∧ (releaseOwn n c s).edit = s.edit ∧ (releaseOwn n c s).fld = s.fld := by
  unfold releaseOwn
  and_intros <;> split <;> simp

@[simp] theorem releaseNext_ps_edit_fld (n : Nat) (s : State) :
    (releaseNext n s).ps = s.ps ∧ (releaseNext n s).edit = s.edit ∧ (releaseNext n s).fld = s.fld := by
  unfold releaseNext
  dsimp only
  and_intros <;> (repeat' split) <;> simp

@[simp] theorem shipForces_frame (ps : List ImgPoint) (s : State) :
    (shipForces ps s).ps = s.ps ∧ (shipForces ps s).edit = s.edit ∧ (shipForces ps s).fld = s.fld
      ∧ (shipForces ps s).sup = s.sup := by
  and_intros <;> rfl

@[simp] theorem takeShipped_frame (n : Nat) (s : State) :
    (takeShipped n s).ps = s.ps ∧ (takeShipped n s).edit = s.edit ∧ (takeShipped n s).fld = s.fld
      ∧ (takeShipped n s).sup = s.sup := by
  unfold takeShipped
  dsimp only
  and_intros <;> (repeat' split) <;> simp

@[simp] theorem issueHeld_frame (n : Nat) (s : State) :
    (issueHeld n s).ps = s.ps ∧ (issueHeld n s).edit = s.edit ∧ (issueHeld n s).fld = s.fld ∧ (issueHeld n s).sup = s.sup := by
  unfold issueHeld
  dsimp only
  and_intros <;> (repeat' split) <;> simp

@[simp] theorem liftTask_frame (n : Nat) (s : State) :
    (liftTask n s).ps = s.ps ∧ (liftTask n s).edit = s.edit ∧ (liftTask n s).fld = s.fld ∧ (liftTask n s).sup = s.sup := by
  unfold liftTask
  dsimp only
  and_intros <;> (repeat' split) <;> simp

@[simp] theorem switchTask_frame (hold : Bool) (n : Nat) (s : State) :
    (switchTask hold n s).ps = s.ps ∧ (switchTask hold n s).edit = s.edit ∧ (switchTask hold n s).fld = s.fld
      ∧ (switchTask hold n s).sup = s.sup := by
  unfold switchTask
  dsimp only
  and_intros <;> (repeat' split) <;> simp

@[simp] theorem flipRoot_frame (l : Nat) (s : State) :
    (flipRoot l s).ps = s.ps ∧ (flipRoot l s).edit = s.edit ∧ (flipRoot l s).fld = s.fld ∧ (flipRoot l s).sup = s.sup := by simp [flipRoot]

@[simp] theorem freeBanks_edit (n : Nat) (s : State) :
    (freeBanks n s).edit = s.edit := by
  rfl

@[simp] theorem setDataWord_edit (region addr : Nat) (v : Word) (s : State) :
    (setDataWord region addr v s).edit = s.edit := by simp [setDataWord]

@[simp] theorem restoreData_edit (keys : List Nat) (s : State) :
    (restoreData keys s).edit = s.edit := by
  unfold restoreData
  exact foldl_keeps _ (by intro s a; simp) _ _

@[simp] theorem dropCycle_edit (n : Nat) (s : State) :
    (dropCycle n s).edit = s.edit := by
  unfold dropCycle
  dsimp only
  (repeat' split) <;> simp

@[simp] theorem abandonAll_edit (s : State) :
    (abandonAll s).edit = s.edit := by
  unfold abandonAll
  exact foldl_keeps _ (by intro s a; simp) _ _

@[simp] theorem startCompare_frame (old new : Tbl Rule) (s : State) :
    (startCompare old new s).ps = s.ps ∧ (startCompare old new s).edit = s.edit ∧ (startCompare old new s).sup = s.sup := by
  unfold startCompare
  and_intros <;> exact foldl_keeps _ (by intro s a; dsimp only; (repeat' split) <;> simp) _ _

@[simp] theorem sendCmd_ps_edit (ch : Nat) (s : State) :
    (sendCmd ch s).ps = s.ps ∧ (sendCmd ch s).edit = s.edit := by
  unfold sendCmd
  and_intros <;> (repeat' split) <;> simp

@[simp] theorem retarget_frame (s : State) :
    (retarget s).ps = s.ps ∧ (retarget s).edit = s.edit ∧ (retarget s).sup = s.sup := by
  unfold retarget
  split
  · exact ⟨rfl, rfl, rfl⟩
  · and_intros
    all_goals
      refine foldl_keeps _ (fun v ch => ?_) _ _
      dsimp only
      split
      · rfl
      · split
        · rfl
        · simp

@[simp] theorem changeRules_frame (new : Tbl Rule) (map : Tbl Half) (s : State) :
    (changeRules new map s).ps = s.ps ∧ (changeRules new map s).edit = s.edit ∧ (changeRules new map s).sup = s.sup := by
  unfold changeRules setRules
  simp

theorem placeRec_others (k : Nat) (r : LdgRec) (s : State) : (placeRec k r s).ps = s.ps ∧ (placeRec k r s).edit = s.edit
    ∧ (placeRec k r s).sup = s.sup ∧ (placeRec k r s).fld = s.fld := by
  unfold placeRec
  dsimp only
  and_intros <;> (repeat' split) <;> rfl

@[simp] theorem safAtSwitch_frame (s : State) : (safAtSwitch s).ps = s.ps ∧ (safAtSwitch s).edit = s.edit
    ∧ (safAtSwitch s).sup = s.sup ∧ (safAtSwitch s).fld = s.fld := by
  unfold safAtSwitch storeConfirm
  dsimp only
  and_intros <;> (repeat' split) <;> simp [placeRec_others]

/-! ### The stop -/

theorem noCycle_idle (r : TaskRt) : (noCycle r).state = .idle := rfl

@[simp] theorem task_restoreData (keys : List Nat) (n m : Nat) (s : State) :
    (restoreData keys (freeBanks n s)).task m = s.task m := by
  unfold restoreData
  exact (foldl_keeps (fun v => v.task m) (fun v k => by simp [setDataWord, State.task]) _ _).trans rfl

theorem task_dropCycle (n m : Nat) (s : State) :
    (m ≠ n → (dropCycle n s).task m = s.task m) ∧ ((dropCycle n s).task n).state = .idle := by
  unfold dropCycle
  dsimp only
  split
  · exact ⟨fun h => by simp [task_setTask, h], by simp [task_setTask, noCycle_idle]⟩
  next h1 =>
    split
    · exact ⟨fun h => by simp [task_setTask, h], by simp [task_setTask, noCycle_idle]⟩
    next h2 =>
      refine ⟨fun _ => rfl, ?_⟩
      cases hs : (s.task n).state <;> simp_all

theorem task_abandonAll_keys (ks : List Nat) (s : State) (n : Nat) (h : n ∈ ks ∨ (s.task n).state = .idle) :
    ((ks.foldl (fun s n =>
      let s1 := dropCycle n s
      s1.setTask n { s1.task n with pending := none, queue := [], held := false, heldRelease := none }) s).task n).state = .idle := by
  induction ks generalizing s with
  | nil => simpa using h
  | cons k ks ih =>
    refine ih _ ?_
    obtain ⟨hother, hidle⟩ := task_dropCycle k n s
    by_cases hk : n = k
    · subst hk
      exact .inr (by simp only [task_setTask, if_true, hidle])
    · refine h.imp (fun h => (List.mem_cons.mp h).resolve_left hk) (fun h => ?_)
      simp only [task_setTask, hk, if_false, hother hk, h]

theorem task_abandonAll {s : State} {n : Nat} (h : n ∈ s.scan.tasks.keys) : ((abandonAll s).task n).state = .idle :=
  task_abandonAll_keys _ s n (.inl h)

theorem stopRequestApply_stops {s : State} (hb : boundary s = true) (hs : s.scan.stopPending = true) (he : s.edit.epoch = none)
    (hw : s.edit.switchAt = none) : stopRequestApply s = stopProgram s := by
  have he' : (stopProgram s).edit = s.edit := by
    unfold stopProgram resetSlot
    simp
  have hlift : liftHold (stopProgram s) = stopProgram s := by
    unfold liftHold
    rw [he', he]
  unfold stopRequestApply
  rw [if_pos (by rw [hs, hb]; rfl), hlift]
  unfold epochSwitch
  rw [he', he, hw]

theorem stopProgram_stopped {s : State} (hp : s.ps.prog.isSome = true) :
    (stopProgram s).scan.mode = 1 ∧ (stopProgram s).scan.stopPending = false ∧ (stopProgram s).fld = s.fld
      ∧ (stopProgram s).rime = s.rime ∧ (stopProgram s).panel.slot = none ∧ (stopProgram s).img = s.img
      ∧ ∀ n, n ∈ s.scan.tasks.keys → ((stopProgram s).task n).state = .idle := by
  unfold stopProgram resetSlot
  dsimp only
  rw [if_pos hp]
  refine ⟨rfl, rfl, by simp, by simp, by simp, by simp, fun n hn => ?_⟩
  exact task_abandonAll (s := { s with panel.slot := none, panel.slotState := 0 }) hn

/-! ### The epoch switch -/

/-- What a channel drives and counts. -/
def driven (c : Channel) : Bool × Bool × Option Bool × Option Nat × Option Nat × Word :=
  (c.latch, c.tripped, c.qx, c.pulseEnd, c.safAt, c.count)

theorem driven_setChan {s : State} {n : Nat} {c : Channel} (h : driven c = driven (s.chan n)) (ch : Nat) :
    driven ((s.setChan n c).chan ch) = driven (s.chan ch) := by
  rw [chan_setChan]
  split
  next hc => rw [hc, h]
  · rfl

theorem driven_sendCmd (n ch : Nat) (s : State) : driven ((sendCmd n s).chan ch) = driven (s.chan ch) := by
  unfold sendCmd
  split
  · split
    · refine driven_setChan ?_ ch
      rfl
    · rfl
  · rfl

theorem driven_retarget (s : State) (ch : Nat) : driven ((retarget s).chan ch) = driven (s.chan ch) := by
  unfold retarget
  split
  · rfl
  · refine foldl_keeps (fun v => driven (v.chan ch)) (fun v n => ?_) _ _
    dsimp only
    split
    · rfl
    · split
      · rfl
      · rw [driven_sendCmd]
        refine driven_setChan ?_ ch
        rfl

theorem driven_settleReflex (now : Nat) (c : Channel) : driven (settleReflex now c) = driven c := by
  unfold settleReflex
  split <;> rfl

theorem driven_startCompare (old new : Tbl Rule) (s : State) (ch : Nat) :
    driven ((startCompare old new s).chan ch) = driven (s.chan ch) := by
  unfold startCompare
  refine foldl_keeps (fun v => driven (v.chan ch)) (fun v n => ?_) _ _
  dsimp only
  split
  · refine driven_setChan ?_ ch
    exact driven_settleReflex v.now (v.chan n)
  · rfl

theorem driven_changeRules (new : Tbl Rule) (map : Tbl Half) (s : State) (ch : Nat) :
    driven ((changeRules new map s).chan ch) = driven (s.chan ch) := by
  unfold changeRules setRules
  rw [driven_retarget, driven_startCompare]
  rfl

theorem liftHold_frame (s : State) : (liftHold s).fld = s.fld ∧ (liftHold s).sup = s.sup ∧ (liftHold s).ps.epoch = s.ps.epoch
    ∧ (liftHold s).ps.prog = s.ps.prog := by
  unfold liftHold
  split
  · exact ⟨rfl, rfl, rfl, rfl⟩
  · split
    · exact ⟨rfl, rfl, rfl, rfl⟩
    · and_intros
      · exact (foldl_keeps State.fld (by simp) ..).trans rfl
      · exact (foldl_keeps State.sup (by simp) ..).trans rfl
      · exact (foldl_keeps (fun v => v.ps.epoch) (by simp) ..).trans rfl
      · exact (foldl_keeps (fun v => v.ps.prog) (by simp) ..).trans rfl

/-- The hold lasts as long as the epoch is kept. -/
theorem liftHold_state {s : State} {e : Epoch} (he : s.edit.epoch = some e) (hs : s.edit.state = 3) :
    (liftHold s).edit.state = if (liftHold s).edit.epoch = none then 4 else 3 := by
  unfold liftHold
  rw [he]
  dsimp only
  split
  · rw [he, hs]
    rfl
  · rw [foldl_keeps State.edit (by simp)]
    rfl

theorem switchNow_switched {s : State} {e : Epoch} (he : s.edit.epoch = some e) :
    (switchNow e s).ps.epoch = s.ps.epoch + 1 ∧ (switchNow e s).ps.prog = some e.result
      ∧ (switchNow e s).edit.state = (if (switchNow e s).edit.epoch = none then 4 else 3)
      ∧ (switchNow e s).sup.switchPeriods = 2 ∧ ∀ ch, driven ((switchNow e s).chan ch) = driven (s.chan ch) := by
  obtain ⟨s0, h0⟩ : ∃ v, v = { s with
    ps.oldProg := s.ps.prog, ps.prog := some e.result, ps.epoch := s.ps.epoch + 1
    ps.epochsSigned := s.ps.epochsSigned && s.edit.signed, edit.state := 3
    edit.applied := s.edit.applied ++ [epochRec e (prog s) (s.ps.epoch + 1)] } := ⟨_, rfl⟩
  obtain ⟨s1, h1⟩ : ∃ v, v = (List.range (regionCount s0)).foldl (fun s l => flipRoot l s) s0 := ⟨_, rfl⟩
  obtain ⟨s2, h2⟩ : ∃ v, v = ((List.range 51).filter (changedTask e)).foldl
      (fun s n => switchTask (decide (oldCycles e s1 ≠ [])) n s) s1 := ⟨_, rfl⟩
  obtain ⟨s3, h3⟩ : ∃ v, v = changeRules e.result.rules e.result.tiMap { s2 with
    sup.switchPeriods := 2, sup.switchSlots := changedSlots e s2 } := ⟨_, rfl⟩
  obtain ⟨s4, h4⟩ : ∃ v, v = liftHold (safAtSwitch s3) := ⟨_, rfl⟩
  have heq : switchNow e s = (List.range 51).foldl (fun s n => takeShipped n (issueHeld n s)) s4 := by
    rw [h4, h3, h2, h1, h0]
    rfl
  have hlast {α : Type} (f : State → α) (h1 : ∀ n v, f (takeShipped n v) = f v) (h2 : ∀ n v, f (issueHeld n v) = f v) :
      f (switchNow e s) = f s4 := by
    rw [heq]
    exact foldl_keeps f (fun v n => (h1 n _).trans (h2 n v)) _ s4
  have hmid {α : Type} (f : State → α) (h3 : ∀ l v, f (flipRoot l v) = f v) (h4 : ∀ b n v, f (switchTask b n v) = f v) :
      f s2 = f s0 := by
    rw [h2, foldl_keeps f (fun v n => h4 _ n v), h1, foldl_keeps f (fun v l => h3 l v)]
  have hps : s3.ps = s0.ps := by
    rw [h3]
    simp only [changeRules_frame]
    exact hmid State.ps (by simp) (by simp)
  have hed : s3.edit = s0.edit := by
    rw [h3]
    simp only [changeRules_frame]
    exact hmid State.edit (by simp) (by simp)
  obtain ⟨lfld, lsup, lep, lprog⟩ := liftHold_frame (safAtSwitch s3)
  rw [← h4] at lfld lsup lep lprog
  have hst : s4.edit.state = if s4.edit.epoch = none then 4 else 3 := by
    rw [h4]
    exact liftHold_state (e := e) (by simp [hed, h0, he]) (by simp [hed, h0])
  refine ⟨?_, ?_, ?_, ?_, fun ch => ?_⟩
  · rw [hlast (fun v => v.ps.epoch) (by simp) (by simp), lep]
    simp [hps, h0]
  · rw [hlast (fun v => v.ps.prog) (by simp) (by simp), lprog]
    simp [hps, h0]
  · rw [hlast State.edit (by simp) (by simp), hst]
  · rw [hlast State.sup (by simp) (by simp), lsup]
    simp [h3]
  · calc driven ((switchNow e s).chan ch) = driven (s4.chan ch) := hlast (fun v => driven (v.chan ch)) (by simp [State.chan])
          (by simp [State.chan])
      _ = driven (s3.chan ch) := by simp [State.chan, lfld]
      _ = driven (s2.chan ch) := by rw [h3, driven_changeRules]; rfl
      _ = driven (s0.chan ch) := hmid (fun v => driven (v.chan ch)) (by simp [State.chan]) (by simp [State.chan])
      _ = driven (s.chan ch) := by rw [h0]; rfl

/-! ### The handover -/

theorem takeTarget_frame (s : State) : (takeTarget s).pair.role = s.pair.role ∧ (takeTarget s).pair.shipping = s.pair.shipping
    ∧ (takeTarget s).pair.handover = s.pair.handover ∧ (takeTarget s).pair.takeovers = s.pair.takeovers
    ∧ (takeTarget s).pair.lastScan = s.pair.lastScan ∧ (takeTarget s).pair.shipped = s.pair.shipped
    ∧ (takeTarget s).fld.dies = s.fld.dies := by
  unfold takeTarget
  dsimp only
  split <;> simp [claimChanged]

theorem answerSwitch_frame (S : Nat) (s : State) : (answerSwitch S s).pair = s.pair ∧ (answerSwitch S s).fld = s.fld := by
  unfold answerSwitch
  split
  · constructor <;> simp
  · exact ⟨rfl, rfl⟩

theorem yieldControl_yields {s : State} (hp : s.upd.phase = 0) (hs : s.upd.state ≠ 4) (S : Nat) :
    (yieldControl S s).pair.role = .apprentice ∧ (yieldControl S s).pair.shipping = false
      ∧ (yieldControl S s).pair.handover = s.pair.handover
      ∧ (yieldControl S s).pair.takeovers = (s.pair.takeovers + 1) % 2 ^ 32 ∧ (yieldControl S s).pair.lastScan = S
      ∧ (yieldControl S s).fld.dies = s.fld.dies := by
  obtain ⟨v, hv⟩ : ∃ v, v = { changeControl .apprentice S s with
    pair.shipping := false, pair.aligned := true, pair.inStepAt := some s.now } := ⟨_, rfl⟩
  have heq : yieldControl S s = answerSwitch S (takeTarget v) := by
    unfold yieldControl
    rw [if_neg (by omega), if_neg (by simp [hs]), hv]
  obtain ⟨h1, h2⟩ := answerSwitch_frame S (takeTarget v)
  obtain ⟨g1, g2, g3, g4, g5, -, g7⟩ := takeTarget_frame v
  rw [heq, h1, h2, g1, g2, g3, g4, g5, g7, hv]
  exact ⟨rfl, rfl, rfl, rfl, rfl, rfl⟩

theorem takePubs_frame (s : State) : (takePubs s).pair = s.pair ∧ (takePubs s).fld = s.fld := by
  unfold takePubs
  constructor
  all_goals
    refine foldl_keeps _ (fun v e => ?_) _ _
    dsimp only
    split <;> rfl

theorem releaseOwn_pair (n : Nat) (c : Cause) (s : State) : (releaseOwn n c s).pair = s.pair := by
  have hrel : (release n c s).pair = s.pair := by
    unfold release startRelease
    dsimp only
    (repeat' split) <;> rfl
  unfold releaseOwn
  split
  · exact hrel
  · rfl

theorem gainControl_gains (S : Nat) (s : State) :
    (gainControl S s).pair.role = .keeper ∧ (gainControl S s).pair.shipping = true
      ∧ (gainControl S s).pair.handover = s.pair.handover ∧ (gainControl S s).pair.lastScan = S
      ∧ (gainControl S s).pair.shipped = [] ∧ (gainControl S s).fld.dies = s.fld.dies := by
  obtain ⟨v, hv⟩ : ∃ v, v = { changeControl .keeper S s with
    pair.shipping := true, pair.aligned := false, pair.ackScan := S, pair.shipped := [], pair.releases := []
    upd.phase := if s.upd.phase = 2 then 4 else s.upd.phase } := ⟨_, rfl⟩
  have heq : gainControl S s = releaseOwn 0 {} (takePubs (takeTarget v)) := by rw [hv]; rfl
  obtain ⟨h1, h2⟩ := takePubs_frame (takeTarget v)
  obtain ⟨g1, g2, g3, -, g5, g6, g7⟩ := takeTarget_frame v
  have hf : (gainControl S s).fld = (takeTarget v).fld := by
    rw [heq]
    simp [h2]
  rw [hf, heq, releaseOwn_pair, h1, g1, g2, g3, g5, g6, g7, hv]
  exact ⟨rfl, rfl, rfl, rfl, rfl, rfl⟩

theorem handoverApply_keeper {s : State} {S : Nat} (hb : boundary s = true) (hh : s.pair.handover = some S) (hS : S ≤ s.scan.scan)
    (hr : s.pair.role = .keeper) (hst : s.pair.state = 3) (ha : S ≤ s.pair.ackScan + 1)
    (ht : s.pair.targetHealth ≤ (partnerTarget s).toNat / 256 % 128) :
    handoverApply s = yieldControl S { s with pair.handover := none } := by
  have hk : isKeeper s = true := by simp [isKeeper, hr]
  have hswap : swapsAtS s = true := by simp [swapsAtS, hk, ht]
  unfold handoverApply
  rw [hh]
  dsimp only
  rw [if_neg (by simp [hb, hS]), if_pos hk, if_neg (by simp [hst, ha]), if_pos hswap]

theorem handoverApply_apprentice {s : State} {S : Nat} (hb : boundary s = true) (hh : s.pair.handover = some S)
    (hS : S ≤ s.scan.scan) (hr : s.pair.role = .apprentice) (hst : s.pair.state = 3)
    (hsh : (s.pair.shipped.get none 0).isSome = true) (ht : (partnerTarget s).toNat / 256 % 128 ≤ s.pair.targetHealth) :
    handoverApply s = gainControl S { s with pair.handover := none } := by
  have hk : isKeeper s = false := by simp [isKeeper, hr]
  have hswap : swapsAtS s = true := by simp [swapsAtS, hk, ht]
  unfold handoverApply
  rw [hh]
  dsimp only
  rw [if_neg (by simp [hb, hS]), if_neg (by simp [hk]), if_pos (by simp [isApprentice, hr, hsh, hst]), if_pos hswap]

end Sys2Proof.Machine

open Sys2Proof Sys2Proof.Machine

/-- Settles O28: a stop abandons each task's cycle in turn; the parts of a switch keep what the channels drive (`driven`), and its
hold ends with the epoch that it keeps; a handover that the healths allow swaps the roles. -/
theorem boundaryChanges : Obligations.BoundaryChanges := by
  intro s t hb
  obtain ⟨u, hu⟩ : ∃ u, u = advance t s := ⟨_, rfl⟩
  have hbu : boundary u = true := by rw [hu, boundary_advance, hb]
  have hscan : u.scan = s.scan := hu ▸ advance_scan t s
  have hedit : u.edit = s.edit := hu ▸ advance_edit t s
  have hps : u.ps = s.ps := hu ▸ advance_ps t s
  have hpair : u.pair = s.pair := hu ▸ advance_pair t s
  have hfld : u.fld = s.fld := hu ▸ advance_fld t s
  have hupd : u.upd = s.upd := hu ▸ advance_upd t s
  have htgt : partnerTarget u = partnerTarget s := by simp only [partnerTarget, hpair]
  refine ⟨fun hs he hw hg => ?_, fun e he hst hm hS hr => ?_, fun S hh hS hr hst ha hp hus ht => ?_,
    fun S hh hS hr hst hsh hp h4 h6 ht => ?_⟩
  · obtain ⟨h1, h2, h3, h4, h5, h6, h7⟩ := stopProgram_stopped (s := u) (by rw [hps, hg])
    refine ⟨stopProgram u, congrArg Host.Outcome.next ?_, h1, h2, by rw [h3, hfld], ?_, h5, ?_, fun n hn => h7 n (by rwa [hscan])⟩
    · rw [← hu]
      exact stopRequestApply_stops hbu (by rw [hscan, hs]) (by rw [hedit, he]) (by rw [hedit, hw])
    · rw [h4, hu, advance_rime]
    · rw [h6, hu, advance_img]
  · have hna : isApprentice u = false := by
      obtain hr | hr := hr <;> simp [isApprentice, hpair, hr]
    obtain ⟨v, hv⟩ : ∃ v, v = { u with
      edit.switchScan := if u.scan.mode = 2 then u.edit.switchScan else u.scan.scan } := ⟨_, rfl⟩
    have hex : exec (.epochSwitch t) s = .next (switchNow e v) := by
      refine congrArg Host.Outcome.next ?_
      rw [← hu]
      unfold epochSwitchEvent
      rw [if_neg (by simp [hna])]
      unfold epochSwitch
      dsimp only
      rw [hedit, he]
      dsimp only
      rw [if_neg (by simp [hst, hbu, hscan, hS, hna]), hv, hedit, ← he]
    obtain ⟨h1, h2, h3, h4, h5⟩ := switchNow_switched (s := v) (e := e) (by rw [hv, ← he, ← hedit])
    refine ⟨_, hex, ?_, h2, h3, h4, fun c => ?_⟩
    · rw [h1, hv, ← hps]
    · have hc : v.chan c = s.chan c := by rw [hv, State.chan, State.chan, ← hfld]
      have := h5 c
      rw [hc] at this
      simpa [driven] using this
  · refine ⟨_, congrArg Host.Outcome.next ((congrArg handoverApply hu.symm).trans (handoverApply_keeper hbu (by rw [hpair, hh])
      (by rwa [hscan]) (by rw [hpair, hr]) (by rw [hpair, hst]) (by rwa [hpair]) (by rwa [htgt, hpair]))), ?_⟩
    obtain ⟨h1, h2, h3, h4, h5, h6⟩ := yieldControl_yields (s := { u with pair.handover := none }) (by rw [← hp, ← hupd])
      (by rw [← hupd] at hus; exact hus) S
    exact ⟨h1, h2, h3, by rw [h4, ← hpair], h5, by rw [h6, ← hfld]⟩
  · refine ⟨_, congrArg Host.Outcome.next ((congrArg handoverApply hu.symm).trans (handoverApply_apprentice hbu (by rw [hpair, hh])
      (by rwa [hscan]) (by rw [hpair, hr]) (by rw [hpair, hst]) (by rwa [hpair]) (by rwa [htgt, hpair]))), ?_⟩
    obtain ⟨h1, h2, h3, h4, h5, h6⟩ := gainControl_gains S { u with pair.handover := none }
    exact ⟨h1, h2, h3, h4, h5, by rw [h6, ← hfld]⟩

end

section
/-! PROOFS. The calendar, its setting, its charger and its leap table (R118-R136). -/

namespace Sys2Proof.Machine

/-! ### What the steps of this family leave unchanged -/

@[simp] theorem missRecord_cal (consumer : Nat) (lost : EvRec) (s : State) :
    (missRecord consumer lost s).cal = s.cal := by
  unfold missRecord
  split <;> simp

@[simp] theorem consumersMiss_cal (lost : EvRec) (s : State) :
    (consumersMiss lost s).cal = s.cal := by
  unfold consumersMiss
  dsimp only
  · refine (foldl_keeps _ (fun s c => ?_) _ _).trans ?_
    · split <;> simp
    · (repeat' split) <;> simp

@[simp] theorem soeAppend_cal (r : EvRec) (s : State) :
    (soeAppend r s).cal = s.cal := by
  rfl

@[simp] theorem soeDrain_cal (s : State) :
    (soeDrain s).cal = s.cal :=
  foldl_keeps State.cal (by simp) ..

@[simp] theorem enterRecord_cal (r : EvRec) (s : State) :
    (enterRecord r s).cal = s.cal := by
  unfold enterRecord
  dsimp only
  (repeat' split) <;> simp

@[simp] theorem dropToken_cal (s : State) :
    (dropToken s).cal = s.cal := by
  rfl

@[simp] theorem checkToken_cal (s : State) :
    (checkToken s).cal = s.cal := by
  unfold checkToken
  (repeat' split) <;> simp

/-! ### A whole second -/

/-- What the calendar shows, and the timebase. -/
structure Face where
  date : Nat × Nat × Nat
  clock : Nat × Nat × Nat
  next : List CalNext
  time : Timebase

def face (s : State) : Face :=
  { date := (s.cal.year, s.cal.month, s.cal.day), clock := (s.cal.hour, s.cal.minute, s.cal.second), next := s.cal.next
    time := s.time }

theorem face_slowSwitch (s : State) : face (slowSwitch s) = face s := by
  unfold slowSwitch setSlow
  dsimp only
  (repeat' split) <;> rfl

theorem face_readTemp (temp : Int) (s : State) : face (readTemp temp s) = face s := by
  unfold readTemp learnTemp learnAnew
  dsimp only
  (repeat' split) <;> rfl

theorem face_applyTrim (s : State) : face (applyTrim s) = face s := by
  unfold applyTrim
  dsimp only
  split <;> rfl

theorem face_compareCal (s : State) : face (compareCal s) = face s := by
  unfold compareCal
  split <;> rfl

theorem face_checkVrtc (s : State) : face (checkVrtc s) = face s := by
  unfold checkVrtc
  (repeat' split) <;> rfl

theorem face_noteLeap (old s : State) : face (noteLeap old s) = face s := by
  unfold noteLeap
  split <;> rfl

/-- What ends a second shows nothing else. -/
theorem face_calendarSecond {s : State} (hv : s.power.vaonGood = true) (temp : Int) :
    face (calendarSecond temp s) = face (
      if !s.cal.next.isEmpty then s.cal.next.foldl (fun s c => loadNext c s) { s with cal.next := [] }
      else if s.cal.halted then s
      else if s.cal.reload then reloadCal s
      else countSecond s) := by
  unfold calendarSecond
  rw [if_neg (by simp [hv])]
  simp only [face_noteLeap, face_checkVrtc, face_compareCal, face_applyTrim, face_readTemp, face_slowSwitch]

theorem face_calendarSecond_counts {s : State} (hv : s.power.vaonGood = true) (hn : s.cal.next = []) (hh : s.cal.halted = false)
    (hr : s.cal.reload = false) (temp : Int) : face (calendarSecond temp s) = face (countSecond s) := by
  rw [face_calendarSecond hv, if_neg (by rw [hn]; decide), if_neg (by rw [hh]; decide), if_neg (by rw [hr]; decide)]

theorem face_calendarSecond_halted {s : State} (hv : s.power.vaonGood = true) (hn : s.cal.next = []) (hh : s.cal.halted = true)
    (temp : Int) : face (calendarSecond temp s) = face s := by
  rw [face_calendarSecond hv, if_neg (by rw [hn]; decide), if_pos hh]

theorem face_calendarSecond_loads {s : State} {c : CalNext} (hv : s.power.vaonGood = true) (hn : s.cal.next = [c]) (temp : Int) :
    face (calendarSecond temp s) = face (loadNext c { s with cal.next := [] }) := by
  rw [face_calendarSecond hv, if_pos (by rw [hn]; rfl), hn]
  rfl

theorem nextSecond_within {s : State} (h : s.cal.second < 58) :
    nextSecond s = (setCal s.cal.year s.cal.month s.cal.day s.cal.hour s.cal.minute (s.cal.second + 1) s, false) := by
  have hlast : ∀ p : Prop, [Decidable p] → ∀ q : Prop, [Decidable q] → ¬ (if p then 60 else if q then 58 else 59) ≤ s.cal.second := by
    intro p _ q _
    split_ifs <;> omega
  unfold nextSecond
  dsimp only
  rw [if_neg (by rintro (⟨-, h'⟩ | ⟨h', h1, h2⟩); exacts [hlast _ _ h', h' ⟨h1, h2⟩])]
  split
  next he => rw [he.1, he.2]
  · rw [if_pos (by omega)]

theorem countSecond_within {s : State} (h : s.cal.second < 58) :
    countSecond s = setCal s.cal.year s.cal.month s.cal.day s.cal.hour s.cal.minute (s.cal.second + 1) s := by
  have hday : calDay (setCal s.cal.year s.cal.month s.cal.day s.cal.hour s.cal.minute (s.cal.second + 1) s) = calDay s := rfl
  unfold countSecond
  rw [nextSecond_within h]
  simp [hday]

theorem nextSecond_midnight {s : State} (hl : leapToday s = 0) (hh : s.cal.hour = 23) (hm : s.cal.minute = 59)
    (hs : s.cal.second = 59) (hy : (dateOf (calDay s + 1)).1 < 2400) :
    nextSecond s = (setCal (dateOf (calDay s + 1)).1 (dateOf (calDay s + 1)).2.1 (dateOf (calDay s + 1)).2.2 0 0 0 s, false) := by
  unfold nextSecond
  dsimp only
  rw [if_pos (Or.inl ⟨⟨hh, hm⟩, by simp [hl, hs]⟩), if_neg (not_le.mpr hy)]

theorem face_countSecond_midnight {s : State} (hl : leapToday s = 0) (hh : s.cal.hour = 23) (hm : s.cal.minute = 59)
    (hs : s.cal.second = 59) (hy : (dateOf (calDay s + 1)).1 < 2400) :
    (face (countSecond s)).date = dateOf (calDay s + 1) ∧ (face (countSecond s)).clock = (0, 0, 0) := by
  unfold countSecond
  rw [nextSecond_midnight hl hh hm hs hy]
  dsimp only
  rw [if_neg (by decide)]
  split <;> exact ⟨rfl, rfl⟩

theorem toMicro_mono (s : State) : (toMicro s).time.mono = (s.time.mono + 999) / 1000 * 1000 := by
  have h : s.time.mono + (1000 - s.time.mono % 1000) % 1000 = (s.time.mono + 999) / 1000 * 1000 := by omega
  exact h

theorem stepBy_keeps (delta : Int) (s : State) :
    (stepBy delta s).cal = s.cal ∧ (stepBy delta s).time.timeLost = s.time.timeLost
      ∧ (stepBy delta s).time.mono = (s.time.mono + 999) / 1000 * 1000 := by
  have h := toMicro_mono s
  unfold stepBy
  simp only [checkToken_cal, checkToken_time, enterRecord_cal, enterRecord_frame]
  exact ⟨rfl, rfl, h⟩

theorem face_loadNext (c : CalNext) (s : State) :
    (face (loadNext c s)).date = (c.year, c.month, c.day) ∧ (face (loadNext c s)).clock = (c.hour, c.minute, c.second)
      ∧ (face (loadNext c s)).next = s.cal.next ∧ (face (loadNext c s)).time.timeLost = false
      ∧ (face (loadNext c s)).time.mono = (s.time.mono + 999) / 1000 * 1000 := by
  obtain ⟨v, hv⟩ : ∃ v, v = { setCal c.year c.month c.day c.hour c.minute c.second s with
    cal.halted := false, cal.reload := false, time.timeLost := false } := ⟨_, rfl⟩
  obtain ⟨h1, h2, h3⟩ := stepBy_keeps ((calTai v : Int) - v.time.tai) v
  have hl : loadCal c.year c.month c.day c.hour c.minute c.second s = stepBy ((calTai v : Int) - v.time.tai) v := by
    rw [hv]
    rfl
  unfold loadNext face
  simp only [finishWid_fields, hl, h1, h2, h3]
  rw [hv]
  exact ⟨rfl, rfl, rfl, rfl, rfl⟩

/-! ### The commands -/

theorem calSet_halts {s : State} {w : Work} (ht : s.time.state ≠ 2) (hr : s.pair.role ≠ .station) (hp : s.power.state ≠ .holdup)
    (hm : field w.payload 0 1 0 = 1) :
    ∃ p, calSet w s = (.done DONE p, { s with
      cal.halted := true, cal.haltAt := if s.cal.halted then s.cal.haltAt else s.now, cal.subsec := subsecNow s }) := by
  unfold calSet
  dsimp only
  rw [hm]
  exact ⟨_, checked_pass (by simp [firstStatus, ht, isStation, hr, inHoldup_eq_false hp])⟩

theorem calSet_waits {s : State} {w : Work} (ht : s.time.state ≠ 2) (hr : s.pair.role ≠ .station) (hp : s.power.state ≠ .holdup)
    (hm : field w.payload 0 1 0 = 0) :
    ∃ c : CalNext, c.wid = w.wid ∧ calSet w s = (.later, { s with cal.next := s.cal.next ++ [c] }) := by
  unfold calSet
  dsimp only
  rw [hm]
  exact ⟨_, rfl, checked_pass (by simp [firstStatus, ht, isStation, hr, inHoldup_eq_false hp])⟩

theorem ascending_defaultCurve : ascending defaultCurve = true := by decide

theorem calTrimCurve_default {s : State} {w : Work} (hp : s.power.state ≠ .holdup) (hw : w.payload = []) :
    ∃ p, calTrimCurve w s = (.done DONE p, { s with cal.curve := defaultCurve, cal.auto := true }) := by
  unfold calTrimCurve
  dsimp only
  rw [hw]
  exact ⟨_, checked_pass (by simp [firstStatus, ascending_defaultCurve, inHoldup_eq_false hp])⟩

theorem backupCfg_sets {s : State} {w : Work} (hp : s.power.state ≠ .holdup) :
    ∃ p, backupCfg w s = (.done DONE p, { s with
      eng.fresh := s.eng.fresh + 1
      cal.backupMode := if 2 < field w.payload 0 1 0 then 0 else field w.payload 0 1 0, cal.backupSet := true }) := by
  unfold backupCfg draw
  exact ⟨_, checked_pass (by simp [firstStatus, inHoldup_eq_false hp])⟩

theorem mram_placeRec (k : Nat) {r : LdgRec} (h : r.cls ≠ 1) (s : State) :
    (placeRec k r s).ldg.mram = s.ldg.mram.set none k (some r) := by
  unfold placeRec
  rw [if_neg h]

theorem placeRec_cal (k : Nat) (r : LdgRec) (s : State) : (placeRec k r s).cal = s.cal ∧ (placeRec k r s).time = s.time := by
  unfold placeRec
  dsimp only
  constructor <;> (repeat' split) <;> rfl

theorem noteLeap_frame (old s : State) : (noteLeap old s).cal = s.cal ∧ (noteLeap old s).time = s.time
    ∧ (noteLeap old s).ldg = s.ldg ∧ (noteLeap old s).host = s.host := by
  unfold noteLeap
  and_intros <;> split <;> rfl

theorem leapTableSet_takes {s : State} {w : Work} {es : List (Nat × Int)} (hp : s.power.state ≠ .holdup)
    (hes : es = leapEntries w.payload (min (min 64 (field w.payload 2 2 0)) ((w.payload.length - 8) / 8)) 8)
    (hall : es.all (fun e => e.2 ≠ 0 && lastOfMonth e.1) = true) (hasc : daysAscend es = true) :
    ∃ p v, leapTableSet w s = (.done DONE p, v) ∧ v.cal.leaps = es ∧ v.cal.leapLoaded = true
      ∧ v.cal.baseOffset = clampI 0 127 (fieldS w.payload 0 2 32) ∧ v.time = s.time ∧ v.host = s.host
      ∧ (v.ldg.mram.get none 0xFF01).isSome = true := by
  have hmem : ∀ e ∈ es, e.2 ≠ 0 ∧ lastOfMonth e.1 = true := by simpa using hall
  have hzero : es.any (fun e => e.2 = 0) = false := List.any_eq_false.mpr fun e he => by simpa using (hmem e he).1
  have hlast : es.any (fun e => !lastOfMonth e.1) = false := List.any_eq_false.mpr fun e he => by simpa using (hmem e he).2
  unfold leapTableSet
  dsimp only
  rw [← hes]
  refine ⟨_, _, checked_pass (by simp [firstStatus, hzero, hlast, hasc, inHoldup_eq_false hp]), ?_⟩
  obtain ⟨v, hv⟩ : ∃ v, v = { s with
    cal.baseOffset := clampI 0 127 (fieldS w.payload 0 2 32), cal.leaps := es, cal.leapLoaded := true, cal.leapAdj := 0 } :=
    ⟨_, rfl⟩
  obtain ⟨r, hr⟩ : ∃ r, r = newRec s 0xFF01 false false (leInt 2 (clampI 0 127 (fieldS w.payload 0 2 32))
    ++ leBytes 2 (min (min 64 (field w.payload 2 2 0)) ((w.payload.length - 8) / 8)) ++ zeros 4
    ++ (w.payload.drop 8).take (8 * min (min 64 (field w.payload 2 2 0)) ((w.payload.length - 8) / 8))) := ⟨_, rfl⟩
  have hcls : r.cls ≠ 1 := by rw [hr]; exact (by decide : (3 : Nat) ≠ 1)
  obtain ⟨h1, h2, h3, h4⟩ := noteLeap_frame s (placeRec 0xFF01 r v)
  obtain ⟨g1, g2⟩ := placeRec_cal 0xFF01 r v
  rw [← hv, ← hr, h1, h2, h3, h4, g1, g2, (placeRec_frame ..).2.1, mram_placeRec 0xFF01 hcls, hv]
  exact ⟨rfl, rfl, rfl, rfl, rfl, by simp⟩

end Sys2Proof.Machine

open Sys2Proof Sys2Proof.Machine

/-- Settles O29: the corrections that end a second leave the calendar's face and the timebase (`face_calendarSecond`), so what
counts, waits or is loaded shows as it is. -/
theorem calendarKeepsTime : Obligations.CalendarKeepsTime := by
  intro s t mb w u
  have hcal : u.cal = s.cal := advance_cal t s
  have hpow : u.power = s.power := advance_power t s
  have hv' (hv : s.power.vaonGood = true) : u.power.vaonGood = true := by rw [hpow, hv]
  have hfields {v x : State} (h : face v = face x) := And.intro (congrArg Face.date h)
    (And.intro (congrArg Face.clock h) (And.intro (congrArg Face.next h) (congrArg Face.time h)))
  refine ⟨fun temp hv hn hh hr hs => ?_, fun temp hv hn hh hr hl h1 h2 h3 hy => ?_, fun temp hv hn hh => ?_,
    fun temp c hv hn => ?_, fun r ha ht hp => ?_, fun hor r => ?_, fun hh hp => ?_, fun h ht hr hp hm => ?_,
    fun h ht hr hp hm => ?_, fun h ht => ?_, fun h hp hw => ?_, fun h hp m hm => ?_, fun h hp es hes hall hasc => ?_⟩
  · have hf := face_calendarSecond_counts (hv' hv) (by rw [hcal, hn]) (by rw [hcal, hh]) (by rw [hcal, hr]) temp
    rw [countSecond_within (by rw [hcal]; exact hs)] at hf
    obtain ⟨hd, hc, -, ht⟩ := hfields hf
    simp only [face, setCal, Prod.mk.injEq, hcal] at hd hc ht
    exact ⟨_, rfl, hc.2.2, hc.2.1, hc.1, hd.2.2, hd.2.1, hd.1, congrArg Timebase.tai ht, congrArg Timebase.mono ht⟩
  · have hf := face_calendarSecond_counts (hv' hv) (by rw [hcal, hn]) (by rw [hcal, hh]) (by rw [hcal, hr]) temp
    obtain ⟨hd, hc, -, -⟩ := hfields hf
    have hday : calDay u = calDay s := calDay_advance t s
    obtain ⟨g1, g2⟩ := face_countSecond_midnight (s := u) (by rw [leapToday_advance, hl]) (by rw [hcal, h1]) (by rw [hcal, h2])
      (by rw [hcal, h3]) (by rw [hday]; exact hy)
    rw [g1, hday] at hd
    rw [g2] at hc
    simp only [face, Prod.mk.injEq] at hd hc
    exact ⟨_, rfl, hc.2.2, hc.2.1, hc.1, hd⟩
  · have hf := face_calendarSecond_halted (hv' hv) (by rw [hcal, hn]) (by rw [hcal, hh]) temp
    obtain ⟨-, hc, -, -⟩ := hfields hf
    simp only [face, Prod.mk.injEq, hcal] at hc
    exact ⟨_, rfl, hc.2.2, hc.2.1⟩
  · have hf := face_calendarSecond_loads (hv' hv) (by rw [hcal, hn]) temp
    obtain ⟨hd, hc, hx, ht⟩ := hfields hf
    obtain ⟨g1, g2, g3, g4, g5⟩ := face_loadNext c { u with cal.next := [] }
    rw [g1] at hd
    rw [g2] at hc
    rw [g3] at hx
    rw [← ht] at g4 g5
    simp only [face, Prod.mk.injEq] at hd hc
    exact ⟨_, rfl, g4, hx, hc.2.2, hc.2.1, hc.1, hd.2.2, hd.2.1, hd.1, g5⟩
  · have hgo : (u.cal.auto && decide (u.time.state = 2) && passed u.now u.cal.learnAt (600 * 10 ^ 9)) = true := by
      rw [show 600 * 10 ^ 9 = 600000000000 by norm_num]
      simp [ha, passed, hp, u, ht]
    refine ⟨clampI (-3000) 3000 (u.cal.learned + (r - u.cal.learned) * ((Config.free u.eng.fresh).toNat : Int) / (2 ^ 32 : Int)),
      ?_, ?_, ?_⟩
    · rw [show s.eng.fresh = u.eng.fresh by simp [u], show s.cal.temp = u.cal.temp by rw [hcal]]
      exact congrArg Host.Outcome.next (if_pos hgo)
    · exact le_max_left ..
    · exact max_le (by decide) (min_le_left ..)
  · refine congrArg Host.Outcome.next (if_neg ?_)
    rw [show 600 * 10 ^ 9 = 600000000000 by norm_num]
    obtain h | h | h := hor
    · simp [h]
    · simp [h]
    · simp [passed]
      exact fun _ _ => h
  · refine congrArg Host.Outcome.next (if_pos ?_)
    rw [show 10 ^ 10 = 10000000000 by norm_num]
    simp [hh, passed, hp]
  · rw [show s.cal.halted = u.cal.halted by rw [hcal], show s.cal.haltAt = u.cal.haltAt by rw [hcal]]
    obtain ⟨p, hf⟩ := calSet_halts (s := u) (w := w) (by simpa [u] using ht) (by simpa [u] using hr) (by rwa [hpow]) hm
    exact ⟨p, runCommand_answers h hf rfl⟩
  · obtain ⟨c, hc, hf⟩ := calSet_waits (s := u) (w := w) (by simpa [u] using ht) (by simpa [u] using hr) (by rwa [hpow]) hm
    exact ⟨_, c, runCommand_defers h hf, rfl, by rw [← hcal]; rfl, hc⟩
  · exact runCommand_answers h (checked_fail (by simp [firstStatus, ht])) rfl
  · obtain ⟨p, hf⟩ := calTrimCurve_default (s := u) (w := w) (by rwa [hpow]) hw
    exact ⟨p, runCommand_answers h hf rfl⟩
  · obtain ⟨p, hf⟩ := backupCfg_sets (s := u) (w := w) (by rwa [hpow])
    rw [show s.eng = u.eng from (advance_eng t s).symm, hm]
    exact ⟨p, runCommand_answers h hf rfl⟩
  · obtain ⟨p, v, hf, h1, h2, h3, h4, h5, h6⟩ := leapTableSet_takes (s := u) (w := w) (by rwa [hpow]) hes hall hasc
    refine ⟨p, v, runCommand_answers h hf (by rw [h5]), h1, h2, h3, h4, h6⟩

end

section
/-! PROOFS. Dual points, the two evaluators and SAF_CONFIRM (R37, R459, R460, R463, R464, R472). -/

namespace Sys2Proof.Machine

/-! ### What the steps of this family leave unchanged -/

@[simp] theorem sendCmd_saf (ch : Nat) (s : State) :
    (sendCmd ch s).saf = s.saf := by
  unfold sendCmd
  (repeat' split) <;> simp

@[simp] theorem sendAllCmds_saf (s : State) :
    (sendAllCmds s).saf = s.saf := by
  unfold sendAllCmds
  exact foldl_keeps _ (by intro s a; simp) _ _

@[simp] theorem raiseNow_saf (src kind : Nat) (data : Word) (s : State) :
    (raiseNow src kind data s).saf = s.saf := by simp [raiseNow]

@[simp] theorem claimChanged_saf (s : State) :
    (claimChanged s).saf = s.saf := by simp [claimChanged]

@[simp] theorem clearValid_saf (s : State) :
    (clearValid s).saf = s.saf := by
  unfold clearValid
  split <;> simp

@[simp] theorem disqualify_saf (cause : Nat) (s : State) :
    (disqualify cause s).saf = s.saf := by
  unfold disqualify
  dsimp only
  (repeat' split) <;> simp

@[simp] theorem freeBanks_saf (n : Nat) (s : State) :
    (freeBanks n s).saf = s.saf := by
  rfl

@[simp] theorem setDataWord_saf (region addr : Nat) (v : Word) (s : State) :
    (setDataWord region addr v s).saf = s.saf := by simp [setDataWord]

@[simp] theorem restoreData_saf (keys : List Nat) (s : State) :
    (restoreData keys s).saf = s.saf := by
  unfold restoreData
  exact foldl_keeps _ (by intro s a; simp) _ _

@[simp] theorem dropCycle_saf (n : Nat) (s : State) :
    (dropCycle n s).saf = s.saf := by
  unfold dropCycle
  dsimp only
  (repeat' split) <;> simp

@[simp] theorem abandonAll_saf (s : State) :
    (abandonAll s).saf = s.saf := by
  unfold abandonAll
  exact foldl_keeps _ (by intro s a; simp) _ _

@[simp] theorem moduleFailure_saf (cause : Nat) (s : State) :
    (moduleFailure cause s).saf = s.saf := by
  unfold moduleFailure
  dsimp only
  (repeat' split) <;> simp

@[simp] theorem markIx_time_scan_ps (ch : Nat) (s : State) :
    (markIx ch s).time = s.time ∧ (markIx ch s).scan = s.scan ∧ (markIx ch s).ps = s.ps := by
  unfold markIx
  dsimp only
  and_intros <;> (repeat' split) <;> simp

@[simp] theorem dualRecord_frame (d : DualDecl) (x : DualSt) (stamp : Nat) (q flags : Byte) (s : State) :
    (dualRecord d x stamp q flags s).time = s.time ∧ (dualRecord d x stamp q flags s).scan = s.scan
      ∧ (dualRecord d x stamp q flags s).ps = s.ps ∧ (dualRecord d x stamp q flags s).fld = s.fld := by simp [dualRecord]

@[simp] theorem setDual_frame (n : Nat) (d : DualDecl) (x : DualSt) (stamp : Nat) (q flags : Byte) (s : State) :
    (setDual n d x stamp q flags s).time = s.time ∧ (setDual n d x stamp q flags s).scan = s.scan
      ∧ (setDual n d x stamp q flags s).ps = s.ps ∧ (setDual n d x stamp q flags s).fld = s.fld := by
  unfold setDual
  dsimp only
  and_intros <;> (repeat' split) <;> simp

theorem markIx_val (ch : Nat) (s : State) : (markIx ch s).img.val = s.img.val := by
  unfold markIx
  dsimp only
  split <;> rfl

@[simp] theorem markIx_saf (ch : Nat) (s : State) : (markIx ch s).saf = s.saf := by
  unfold markIx
  dsimp only
  split <;> rfl

/-! ### A dual point -/

theorem setDual_point (n : Nat) (d : DualDecl) (x : DualSt) (stamp : Nat) (q flags : Byte) (s : State) :
    (setDual n d x stamp q flags s).saf.duals = s.saf.duals.set {} n x
      ∧ imgVal (setDual n d x stamp q flags s) (imgAddr 1 d.chA) = b32 x.v
      ∧ imgVal (setDual n d x stamp q flags s) (imgAddr 1 d.chB) = b32 x.v := by
  obtain ⟨v, hv⟩ : ∃ v, v = markIx d.chA (setImg (imgAddr 1 d.chB) (b32 x.v)
    (setImg (imgAddr 1 d.chA) (b32 x.v) { s with saf.duals := s.saf.duals.set {} n x })) := ⟨_, rfl⟩
  have hd : v.saf.duals = s.saf.duals.set {} n x := by rw [hv]; simp
  have hi : v.img.val = (s.img.val.set 0#32 (imgAddr 1 d.chA) (b32 x.v)).set 0#32 (imgAddr 1 d.chB) (b32 x.v) := by
    rw [hv, markIx_val]
    rfl
  have hsame : (setDual n d x stamp q flags s).img = v.img ∧ (setDual n d x stamp q flags s).saf = v.saf := by
    unfold setDual
    dsimp only
    rw [← hv]
    constructor <;> (repeat' split) <;> rfl
  obtain ⟨h1, h2⟩ := hsame
  simp only [imgVal, h1, h2, hd, hi, Tbl.get_set]
  refine ⟨trivial, ?_, ?_⟩ <;> simp

theorem setDual_event {n : Nat} {x : DualSt} {s : State} (h : x.state = 2) (ho : (s.saf.duals.get {} n).state ≠ 2) (d : DualDecl)
    (stamp : Nat) (q flags : Byte) : (setDual n d x stamp q flags s).ev.inbox.length = s.ev.inbox.length + 1 := by
  have hm : ∀ ch v, (markIx ch v).ev = v.ev := by
    intro ch v
    unfold markIx
    dsimp only
    split <;> rfl
  have henters : (decide (x.state = 2) && decide ((s.saf.duals.get {} n).state ≠ 2)) = true := by simp [h, ho]
  unfold setDual
  simp only [henters, Bool.true_or, if_true, dualRecord, raise, logFault_ev, hm, setImg_ev, List.length_append,
    List.length_singleton]

/-- The step of R463's pseudo-code, state by state. -/
theorem dualStep_cases (d : DualDecl) (now : Nat) (a b : Bool) (x : DualSt) :
    (x.state = 0 → a = b → (dualStep d now a b x).state = 0 ∧ (dualStep d now a b x).v = a)
      ∧ (x.state = 0 → a ≠ b → (dualStep d now a b x).state = 1 ∧ (dualStep d now a b x).v = d.safe
        ∧ (dualStep d now a b x).since = now)
      ∧ (x.state = 1 → a = b → now < x.since + 1000000 * d.discMs →
        (dualStep d now a b x).state = 0 ∧ (dualStep d now a b x).v = a)
      ∧ (x.state = 1 → a ≠ b → (dualStep d now a b x).state = 1 ∧ (dualStep d now a b x).v = d.safe
        ∧ (dualStep d now a b x).since = x.since)
      ∧ (x.state = 2 → (dualStep d now a b x).v = d.safe
        ∧ ((dualStep d now a b x).state = 0 ↔ a = d.safe ∧ b = d.safe)) := by
  unfold dualStep
  rw [show 10 ^ 6 = 1000000 by norm_num]
  refine ⟨fun h hab => ?_, fun h hab => ?_, fun h hab hn => ?_, fun h hab => ?_, fun h => ?_⟩
  · simp [h, hab]
  · simp [h, hab]
  · simp [h, hab, not_le.mpr hn]
  · simp [h, hab]
  · rw [if_pos h]
    split <;> simp_all

theorem dualChange_ok {s : State} {n : Nat} {d : DualDecl} {x : DualSt} (hd : (spb s).duals[n]? = some d) (hs : serving s = true)
    (hx : x = s.saf.duals.get {} n) (hne : ¬ (x.a = some (s.chan d.chA).rx ∧ x.b = some (s.chan d.chB).rx)) :
    ∃ stamp q flags, dualChange n true s = setDual n d { dualStep d s.time.mono (s.chan d.chA).rx ((s.chan d.chB).rx != d.antivalent) x with
      a := some (s.chan d.chA).rx, b := some (s.chan d.chB).rx } stamp q flags s := by
  unfold dualChange
  simp only [hd, hs, ← hx, hne, Bool.not_true, Bool.false_eq_true, if_false]
  exact ⟨_, _, _, rfl⟩

theorem dualChange_evaluator {s : State} {n : Nat} {d : DualDecl} (hd : (spb s).duals[n]? = some d) (hs : serving s = true) :
    dualChange n false s = moduleFailure 0x60 s := by
  unfold dualChange
  simp [hd, hs]

/-- What the 1 ms tick of MONO does to dual point `n`. -/
def dualTick (n : Nat) (evalOk : Bool) (s : State) : State :=
  match (spb s).duals[n]? with
  | none => s
  | some d =>
    let x := s.saf.duals.get {} n
    if !serving s || x.state ≠ 1 then s
    else if !evalOk then moduleFailure 0x60 s
    else if decide (x.since + 10 ^ 6 * d.discMs ≤ s.time.mono / 10 ^ 6 * 10 ^ 6) then
      let r := stampNow d.chA 6 0#32 s
      setDual n d { x with state := 2, v := d.safe } r.tai r.quality r.flags s
    else s

theorem dualDiscrepancy_evaluator {s : State} {n : Nat} {d : DualDecl} (hd : (spb s).duals[n]? = some d) (hs : serving s = true)
    (hx : (s.saf.duals.get {} n).state = 1) : dualTick n false s = moduleFailure 0x60 s := by
  unfold dualTick
  simp [hd, hs, hx]

theorem dualDiscrepancy_early {s : State} {n : Nat} {d : DualDecl} (hd : (spb s).duals[n]? = some d)
    (hn : s.time.mono / 1000000 * 1000000 < (s.saf.duals.get {} n).since + 1000000 * d.discMs) : dualTick n true s = s := by
  unfold dualTick
  rw [show 10 ^ 6 = 1000000 by norm_num]
  simp [hd, not_le.mpr hn]

theorem dualDiscrepancy_due {s : State} {n : Nat} {d : DualDecl} (hd : (spb s).duals[n]? = some d) (hs : serving s = true)
    (hx : (s.saf.duals.get {} n).state = 1)
    (hn : (s.saf.duals.get {} n).since + 1000000 * d.discMs ≤ s.time.mono / 1000000 * 1000000) :
    ∃ stamp q flags, dualTick n true s
      = setDual n d { s.saf.duals.get {} n with state := 2, v := d.safe } stamp q flags s := by
  unfold dualTick
  rw [show 10 ^ 6 = 1000000 by norm_num]
  simp only [hd, hs, hx, hn, Bool.not_true, Bool.false_eq_true, if_false, if_true, decide_true, Bool.false_or, ne_eq,
    not_true_eq_false, decide_false]
  exact ⟨_, _, _, rfl⟩

/-! ### SAF_CONFIRM at the boundary -/

theorem storeConfirm_some (c : Word) (s : State) :
    (storeConfirm (some c) s).saf.confirmed = some c ∧ (storeConfirm (some c) s).saf.confirmTai = s.time.tai
      ∧ (storeConfirm (some c) s).ps = s.ps ∧ (storeConfirm (some c) s).scan = s.scan := by
  unfold storeConfirm placeRec
  dsimp only
  and_intros <;> (repeat' split) <;> rfl

theorem storeConfirm_none (s : State) : (storeConfirm none s).saf.confirmed = none ∧ (storeConfirm none s).scan = s.scan := by
  unfold storeConfirm placeRec
  dsimp only
  constructor <;> (repeat' split) <;> rfl

theorem safConfirmApply_one {s : State} {op scope wid : Nat} {c : Word} (h : s.scan.bnd = [.safConfirm op scope c wid]) :
    ∃ p, safConfirmApply s = finishWid wid DONE p (applyConfirm op scope c { s with scan.bnd := [] }) := by
  unfold safConfirmApply
  simp only [h]
  exact ⟨_, rfl⟩

theorem safConfirm_waits {s : State} {w : Work} (ho : field w.payload 0 1 1 = 0) (hsc : field w.payload 1 1 0 = 0)
    (hc : w32 (field w.payload 4 4 0) = checkOf (prog s)) (hv : presenceValid s = true) (hg : (prog s).spb.isSome = true)
    (hr : s.pair.role ≠ .apprentice) (hst : s.pair.role ≠ .station) (hl : s.sec.life ≠ .retired) (hp : s.power.state ≠ .holdup) :
    safConfirm w s = (.later, forward 0x0B02 w.payload { s with
      panel.presence := none, scan.bnd := s.scan.bnd ++ [.safConfirm 0 0 (checkOf (prog s)) w.wid] }) := by
  have hspb : (prog s).spb.isNone = false := by rw [← Option.not_isSome, hg]; rfl
  unfold safConfirm
  dsimp only
  rw [ho, hsc]
  split
  next h => simp [firstStatus, hc, hv, hspb, isApprentice, hr, isStation, hst, hl, inHoldup_eq_false hp] at h
  next => rw [hc]; rfl

theorem safConfirm_wrong {s : State} {w : Work} (ho : field w.payload 0 1 1 = 0) (hsc : field w.payload 1 1 0 = 0)
    (hc : w32 (field w.payload 4 4 0) ≠ checkOf (prog s)) :
    safConfirm w s = (.done CHECK_FAILED [], { s with panel.presence := none }) := by
  unfold safConfirm
  dsimp only
  rw [ho, hsc]
  split
  next st h =>
    obtain rfl : CHECK_FAILED = st := by simpa [firstStatus, hc] using h
    rfl
  next h => simp [firstStatus, hc] at h

theorem safConfirm_unseen {s : State} {w : Work} (ho : field w.payload 0 1 1 = 0) (hsc : field w.payload 1 1 0 = 0)
    (hc : w32 (field w.payload 4 4 0) = checkOf (prog s)) (hv : presenceValid s = false) :
    safConfirm w s = (.done NOT_PERMITTED [], { s with panel.presence := none }) := by
  unfold safConfirm
  dsimp only
  rw [ho, hsc]
  split
  next st h =>
    obtain rfl : NOT_PERMITTED = st := by simpa [firstStatus, hc, hv] using h
    rfl
  next h => simp [firstStatus, hc, hv] at h

end Sys2Proof.Machine

open Sys2Proof Sys2Proof.Machine

/-- Settles O53: a dual point goes by `dualStep`, whose cases are R463's pseudo-code, and `setDual` puts the result into both
points; evaluators that disagree fail the module. -/
theorem safetyPointsAndConfirmation : Obligations.SafetyPointsAndConfirmation := by
  intro s t n d mb w u x a b
  obtain ⟨hu⟩ : Nonempty (u = advance t s) := ⟨rfl⟩
  have hsaf : u.saf = s.saf := by simp [u]
  have hchan : ∀ c, u.chan c = s.chan c := fun c => by simp [u, State.chan]
  have hspb : spb u = spb s := by simp [u]
  have hsv : serving u = serving s := by simp [u]
  have hprog : prog u = prog s := by simp [u]
  have hrole : u.pair.role = s.pair.role := by simp [u]
  refine ⟨fun hd hs hne hx => ?_, fun hd hs => ?_, fun hd hs hx => ⟨?_, fun hn => ?_⟩, fun hd hs hx hn => ?_,
    fun wid hb hg => ⟨fun c hbnd hc => ?_, fun c hbnd => ?_⟩, fun h ho hsc => ⟨fun hc hv hg hr hst hl hp => ?_, fun hc => ?_,
      fun hc hv => ?_⟩⟩
  · obtain ⟨stamp, q, flags, heq⟩ := dualChange_ok (s := u) (n := n) (d := d) (x := x) (by rwa [hspb]) (by rwa [hsv])
      (by rw [hsaf]) (by rw [hchan, hchan]; exact hne)
    obtain ⟨h1, h2, h3, h4, h5⟩ := dualStep_cases d u.time.mono a b x
    rw [hchan, hchan] at heq
    obtain ⟨y, hy⟩ : ∃ y, y = { dualStep d u.time.mono a b x with a := some a, b := some (s.chan d.chB).rx } := ⟨_, rfl⟩
    have hex : exec (.dualContactChange t n true) s = .next (setDual n d y stamp q flags u) := by
      rw [hy]
      exact congrArg Host.Outcome.next heq
    obtain ⟨g1, g2, g3⟩ := setDual_point n d y stamp q flags u
    have hn : (setDual n d y stamp q flags u).saf.duals.get {} n = y := by rw [g1, Tbl.get_set, if_pos rfl]
    refine ⟨_, hex, ?_, ?_, ?_, ?_, ?_, ?_, ?_, fun m hm => ?_, ?_⟩
    · rw [hn, hy]
      exact h1
    · rw [hn, hy]
      exact h2
    · rw [hn, hy]
      exact h3
    · rw [hn, hy]
      exact h4
    · rw [hn, hy]
      exact h5
    · rw [hn, g2]
    · rw [hn, g3]
    · rw [g1, Tbl.get_set, if_neg hm, hsaf]
    · simp [latches, State.chan, u]
  · obtain ⟨h1, h2⟩ := moduleFailure_failed 0x60 u
    refine ⟨_, congrArg Host.Outcome.next (dualChange_evaluator (s := u) (by rwa [hspb]) (by rwa [hsv])), h1, h2, ?_,
      fun hr k hk => ((moduleFailure_solo (by rwa [hrole]) 0x60).2 k hk).1⟩
    rw [moduleFailure_saf, hsaf]
  · obtain ⟨h1, h2⟩ := moduleFailure_failed 0x60 u
    have hex : exec (.dualDiscrepancy t ⟨n, false⟩) s = .next (moduleFailure 0x60 u) :=
      congrArg Host.Outcome.next (dualDiscrepancy_evaluator (s := u) (by rwa [hspb]) (by rwa [hsv]) (by rwa [hsaf]))
    exact ⟨_, hex, h1, h2, by rw [moduleFailure_saf, hsaf]⟩
  · exact congrArg Host.Outcome.next (dualDiscrepancy_early (s := u) (by rwa [hspb]) (by rwa [hsaf]))
  · obtain ⟨stamp, q, flags, heq⟩ := dualDiscrepancy_due (s := u) (by rwa [hspb]) (by rwa [hsv]) (by rwa [hsaf]) (by rwa [hsaf])
    rw [hsaf] at heq
    obtain ⟨g1, g2, g3⟩ := setDual_point n d { x with state := 2, v := d.safe } stamp q flags u
    refine ⟨_, congrArg Host.Outcome.next heq, ?_, ?_, g2, g3, ?_⟩
    · rw [g1, Tbl.get_set, if_pos rfl]
    · rw [g1, Tbl.get_set, if_pos rfl]
    · rw [setDual_event rfl (by rw [hsaf]; exact ne_of_eq_of_ne hx (by decide))]
      simp [u]
  · obtain ⟨p, hf⟩ := safConfirmApply_one (s := u) (by rw [show u.scan = s.scan by simp [u], hbnd])
    obtain ⟨v, hv⟩ : ∃ v, v = { u with scan.bnd := [] } := ⟨_, rfl⟩
    have hvp : prog v = prog s := by rw [hv, ← hprog]; rfl
    have happ : applyConfirm 0 0 c v = storeConfirm (some c) v := by
      simp [applyConfirm, hvp, hg, hc]
    obtain ⟨h1, h2, h3, h4⟩ := storeConfirm_some c v
    refine ⟨_, congrArg Host.Outcome.next ((if_pos (by simpa [u] using hb)).trans hf), ?_, ?_, ?_⟩
    · rw [← hv, happ]
      have hps : prog (finishWid wid DONE p (storeConfirm (some c) v)) = prog s := by
        rw [← hvp]
        simp only [prog, finishWid_fields, h3]
      unfold confirmed
      rw [hps, hg, ← hc]
      simp [h1]
    · rw [← hv, happ]
      simp only [finishWid_fields, h2]
      rw [hv]
    · rw [← hv, happ]
      simp only [finishWid_fields, h4]
      rw [hv]
  · obtain ⟨p, hf⟩ := safConfirmApply_one (s := u) (by rw [show u.scan = s.scan by simp [u], hbnd])
    obtain ⟨v, hv⟩ : ∃ v, v = { u with scan.bnd := [] } := ⟨_, rfl⟩
    obtain ⟨h1, h2⟩ := storeConfirm_none v
    refine ⟨_, congrArg Host.Outcome.next ((if_pos (by simpa [u] using hb)).trans hf), ?_, ?_⟩
    · rw [← hv]
      simp [confirmed, applyConfirm, h1]
    · rw [← hv]
      simp only [finishWid_fields]
      exact (congrArg Scan.bnd h2).trans (by rw [hv])
  · rw [← hprog] at hc hg ⊢
    rw [show s.scan = u.scan by simp [u]]
    exact runCommand_defers h (safConfirm_waits ho hsc hc hv hg (by rwa [hrole]) (by rwa [hrole]) (by simpa [u] using hl)
      (by simpa [u] using hp))
  · exact runCommand_answers h (safConfirm_wrong ho hsc (by rwa [hprog])) rfl
  · exact runCommand_answers h (safConfirm_unseen ho hsc (by rwa [hprog]) hv) rfl

end

section
/-! PROOFS. The operator panel: contacts, keys, slots, gestures, LEDs (R328, R329, R331, R332, R336-R338, R340, R341, R343). -/

namespace Sys2Proof.Machine

/-! ### The row that is scanned -/

@[simp] theorem panelKey_setKey (n m : Nat) (k : Key) (s : State) : panelKey (setKey n k s) m = if m = n then k else panelKey s m :=
  Tbl.get_set ..

/-- What the first sample of state `st` makes of a key with no change under debounce (R329, R331). -/
def firstSample (now st : Nat) (k : Key) : Key :=
  if st = k.state ∨ (k.state = 2 ∧ st = 1) then { k with cand := none, samples := 0 }
  else { k with cand := some (st, now), samples := 1, flags := 0#8 }

theorem sampleKey_first {s : State} {n : Nat} (hp : s.power.state ≠ .slumber) (hc : (panelKey s n).cand = none) (st : Nat) :
    sampleKey n st s = setKey n (firstSample s.now st (panelKey s n)) s := by
  unfold sampleKey firstSample
  dsimp only
  split
  · rfl
  · rw [hc]
    exact if_pos hp

theorem firstSample_cand (now st : Nat) (k : Key) :
    (firstSample now st k).cand = none ∨ (firstSample now st k).cand = some (st, now) := by
  unfold firstSample
  split
  · exact .inl rfl
  · exact .inr rfl

/-- The sample of column `c` of a row. -/
def sampleCol (row : Nat) (classes : List KeyClass) (s : State) (c : Nat) : State :=
  match classes[c]? with
  | some x => sampleKey (8 * row + c) (classState x) s
  | none => s

/-- What the sample makes of the key of a column. -/
def colKey (s : State) (row : Nat) (classes : List KeyClass) (c : Nat) : Key :=
  match classes[c]? with
  | some x => firstSample s.now (classState x) (panelKey s (8 * row + c))
  | none => panelKey s (8 * row + c)

theorem sampleCol_eq {s : State} {row c : Nat} (hp : s.power.state ≠ .slumber) (hc : (panelKey s (8 * row + c)).cand = none)
    (classes : List KeyClass) :
    (∃ K, sampleCol row classes s c = { s with panel.keys := K })
      ∧ ∀ m, panelKey (sampleCol row classes s c) m = if m = 8 * row + c then colKey s row classes c else panelKey s m := by
  unfold sampleCol colKey
  split
  next x _ =>
    rw [sampleKey_first hp hc]
    exact ⟨⟨_, rfl⟩, fun m => panelKey_setKey ..⟩
  next =>
    refine ⟨⟨_, rfl⟩, fun m => ?_⟩
    split
    next h => rw [h]
    next => rfl

theorem sampleCols_eq (row : Nat) (classes : List KeyClass) (cols : List Nat) (hn : cols.Nodup) (s : State)
    (hp : s.power.state ≠ .slumber) (hc : ∀ c ∈ cols, (panelKey s (8 * row + c)).cand = none) :
    (∃ K, cols.foldl (sampleCol row classes) s = { s with panel.keys := K })
      ∧ (∀ c ∈ cols, panelKey (cols.foldl (sampleCol row classes) s) (8 * row + c) = colKey s row classes c)
      ∧ ∀ m, (∀ c ∈ cols, m ≠ 8 * row + c) → panelKey (cols.foldl (sampleCol row classes) s) m = panelKey s m := by
  induction cols generalizing s with
  | nil => exact ⟨⟨s.panel.keys, rfl⟩, by simp, fun _ _ => rfl⟩
  | cons c cols ih =>
    obtain ⟨hnot, hn'⟩ := List.nodup_cons.mp hn
    obtain ⟨⟨K, hK⟩, hkey⟩ := sampleCol_eq hp (hc c (by simp)) classes
    have hother : ∀ d ∈ cols, panelKey (sampleCol row classes s c) (8 * row + d) = panelKey s (8 * row + d) := by
      intro d hd
      rw [hkey, if_neg]
      rintro h
      exact hnot ((by omega : d = c) ▸ hd)
    have hcol : ∀ d ∈ cols, colKey (sampleCol row classes s c) row classes d = colKey s row classes d := by
      intro d hd
      unfold colKey
      rw [hother d hd, hK]
    obtain ⟨⟨K', hK'⟩, h1, h2⟩ := ih hn' (sampleCol row classes s c) (by rw [hK]; exact hp)
      (fun d hd => by rw [hother d hd]; exact hc d (by simp [hd]))
    refine ⟨⟨K', by rw [List.foldl_cons, hK', hK]⟩, fun d hd => ?_, fun m hm => ?_⟩
    · obtain rfl | hd := List.mem_cons.mp hd
      · rw [List.foldl_cons, h2 (8 * row + d) (fun e he h => hnot ((by omega : e = d) ▸ he)), hkey, if_pos rfl]
      · rw [List.foldl_cons, h1 d hd, hcol d hd]
    · rw [List.foldl_cons, h2 m (fun e he => hm e (by simp [he])), hkey, if_neg (hm c (by simp))]

theorem not_dueKey_fresh {s : State} {n : Nat} (hn : n < 64) (hd : 0 < s.panel.debounceMs)
    (hc : (panelKey s n).cand = none ∨ ∃ st, (panelKey s n).cand = some (st, s.now)) : dueKey s n = false := by
  unfold dueKey
  dsimp only
  obtain hc | ⟨st, hc⟩ := hc
  · rw [hc]
  · rw [hc]
    dsimp only
    rw [if_neg (by omega)]
    simp only [passed, debounceNs, if_pos hn, decide_eq_false_iff_not, not_le]
    exact Nat.lt_add_of_pos_right (Nat.mul_pos (by norm_num) hd)

theorem confirm_not_due {s : State} {n : Nat} (h : dueKey s n = false) : confirm n s = s :=
  if_pos (by simp [h])

theorem keyMatrixScan_samples {s : State} {row : Nat} {classes : List KeyClass} (hr : row < 8) (hs : serving s = true)
    (hd : 0 < s.panel.debounceMs) (hc : ∀ c, c < 8 → (panelKey s (8 * row + c)).cand = none) :
    (keyMatrixScan row classes s).ev = s.ev
      ∧ (∀ c, c < 8 → s.panel.populated.getLsbD (8 * row + c) = true →
        panelKey (keyMatrixScan row classes s) (8 * row + c) = colKey s row classes c)
      ∧ ∀ m, m < 8 * row ∨ 8 * row + 8 ≤ m → panelKey (keyMatrixScan row classes s) m = panelKey s m := by
  obtain ⟨cols, hcols⟩ : ∃ cols, cols = (List.range 8).filter fun c =>
      s.panel.populated.getLsbD (8 * row + c) && sampled s (8 * row + c) := ⟨_, rfl⟩
  have hlt : ∀ c ∈ cols, c < 8 := fun c h => by
    rw [hcols] at h
    exact List.mem_range.mp (List.mem_of_mem_filter h)
  have hmem : ∀ c, c < 8 → s.panel.populated.getLsbD (8 * row + c) = true → c ∈ cols := fun c h hp => by
    rw [hcols, List.mem_filter]
    exact ⟨List.mem_range.mpr h, by simp [hp, sampled, hs]⟩
  have hpow : s.power.state ≠ .slumber := by
    intro h
    simp [serving, h] at hs
  obtain ⟨⟨K, hK⟩, h1, h2⟩ := sampleCols_eq row classes cols (hcols ▸ List.nodup_range.filter _) s hpow
    (fun c h => hc c (hlt c h))
  obtain ⟨v, hv⟩ : ∃ v, v = cols.foldl (sampleCol row classes) s := ⟨_, rfl⟩
  rw [← hv] at hK h1 h2
  have hnow : v.now = s.now := by rw [hK]
  have hdue : ∀ c ∈ cols, dueKey v (8 * row + c) = false := by
    intro c h
    have := hlt c h
    refine not_dueKey_fresh (by omega) (by rw [hK]; exact hd) ?_
    rw [h1 c h, hnow]
    unfold colKey
    split
    next x _ => exact (firstSample_cand s.now (classState x) (panelKey s (8 * row + c))).imp id (fun h => ⟨_, h⟩)
    next => exact .inl (hc c this)
  have heq : keyMatrixScan row classes s = v := by
    have hscan : keyMatrixScan row classes s = cols.foldl (fun s c => confirm (8 * row + c) s) v := by
      rw [hv, hcols]
      rfl
    rw [hscan]
    clear hscan hmem h1 h2 hv hcols
    induction cols with
    | nil => rfl
    | cons c cols ih =>
      rw [List.foldl_cons, confirm_not_due (hdue c (by simp))]
      exact ih (fun d hd => hlt d (by simp [hd])) (fun d hd => hdue d (by simp [hd]))
  rw [heq]
  refine ⟨by rw [hK], fun c h hp => h1 c (hmem c h hp), fun m hm => h2 m (fun c h => ?_)⟩
  have := hlt c h
  omega

/-! ### Slots -/

/-- No key changes, and the records that wait stay first. -/
def Appends (s v : State) : Prop := v.panel.keys = s.panel.keys ∧ ∃ rs, v.ev.inbox = s.ev.inbox ++ rs

theorem Appends.refl (s : State) : Appends s s := ⟨rfl, [], by simp⟩

theorem Appends.trans {s v x : State} (h : Appends s v) (h' : Appends v x) : Appends s x := by
  obtain ⟨h1, rs, h2⟩ := h
  obtain ⟨h3, rs', h4⟩ := h'
  exact ⟨h3.trans h1, rs ++ rs', by rw [h4, h2, List.append_assoc]⟩

theorem appends_panelEvent (slot event at1 : Nat) (s : State) : Appends s (panelEvent slot event at1 s) := ⟨rfl, _, rfl⟩

theorem appends_slotIdle (event at1 : Nat) (s : State) : Appends s (slotIdle event at1 s) := by
  unfold slotIdle
  split
  · exact ⟨rfl, _, rfl⟩
  · exact .refl s

theorem appends_settleSlot (mono : Nat) (s : State) : Appends s (settleSlot mono s) := by
  unfold settleSlot
  split
  · dsimp only
    split
    · exact appends_slotIdle ..
    · exact .refl s
  · exact .refl s

theorem appends_refuse (is : List Nat) (at1 : Nat) (s : State) : Appends s (refuse is at1 s) := by
  induction is generalizing s with
  | nil => exact .refl s
  | cons i is ih => exact (appends_panelEvent i 5 at1 s).trans (ih _)

theorem panel_refuse (is : List Nat) (at1 : Nat) (s : State) : (refuse is at1 s).panel = s.panel := by
  unfold refuse
  exact foldl_keeps State.panel (fun v i => by simp [panelEvent, raise]) is s

theorem appends_sboPress (ks : List Nat) (at1 : Nat) (s : State) : Appends s (sboPress ks at1 s) := by
  unfold sboPress
  split
  · exact .refl s
  · dsimp only
    refine (appends_settleSlot (s.time.mono - (s.now - at1)) s).trans ?_
    generalize settleSlot (s.time.mono - (s.now - at1)) s = v
    split
    · split
      · split
        · exact appends_refuse ..
        · exact ⟨rfl, _, rfl⟩
      · exact appends_refuse ..
    · refine Appends.trans ?_ (appends_refuse ..)
      split
      · exact .refl v
      · split
        · exact appends_slotIdle ..
        · split
          · exact ⟨rfl, _, rfl⟩
          · exact .refl v

theorem settleSlot_over {s : State} {i mono : Nat} (hs : s.panel.slot = some i) (he : (slotEnd s i).1 ≤ mono) :
    settleSlot mono s = resetSlot (panelEvent i (slotEnd s i).2 (s.now - (s.time.mono - (slotEnd s i).1)) s) := by
  unfold settleSlot
  rw [hs]
  dsimp only
  rw [if_pos he]
  unfold slotIdle
  rw [hs]

theorem settleSlot_open {s : State} {i mono : Nat} (hs : s.panel.slot = some i) (he : mono < (slotEnd s i).1) :
    settleSlot mono s = s := by
  unfold settleSlot
  rw [hs]
  exact if_neg (not_le.mpr he)

theorem sboPress_select {s : State} {k i at1 : Nat} (hf : fullService s = true) (hp : s.ps.prog.isSome = true)
    (hs : s.panel.slot = none) (hsel : selectedBy s [k] = [i]) (hl : (sboSlot s i).localOnly = false) :
    (sboPress [k] at1 s).panel.slot = some i ∧ (sboPress [k] at1 s).panel.slotState = 1 := by
  have hidle : settleSlot (s.time.mono - (s.now - at1)) s = s := by
    unfold settleSlot
    rw [hs]
  have hnone : s.ps.prog.isNone = false := by rw [← Option.not_isSome, hp]; rfl
  unfold sboPress
  rw [if_neg (by simp [hf, hnone])]
  dsimp only
  rw [hidle, hs]
  dsimp only
  rw [hsel]
  dsimp only
  rw [if_neg (by simp [hl])]
  exact ⟨rfl, rfl⟩

theorem sboPress_execute {s : State} {k i at1 : Nat} (hk : k < 64) (hf : fullService s = true) (hp : s.ps.prog.isSome = true)
    (hs : s.panel.slot = some i) (hst : s.panel.slotState = 1) (hex : (sboSlot s i).execKey = k)
    (hsel : k ≠ (sboSlot s i).selectKey) (hcan : k ≠ (sboSlot s i).cancelKey)
    (hw : s.time.mono - (s.now - at1) < s.panel.slotAt + selWindow s i) :
    (sboPress [k] at1 s).panel.slot = some i ∧ (sboPress [k] at1 s).panel.slotState = 2 := by
  have hopen : settleSlot (s.time.mono - (s.now - at1)) s = s := by
    refine settleSlot_open hs ?_
    rw [slotEnd, if_pos hst]
    exact hw
  have hnone : s.ps.prog.isNone = false := by rw [← Option.not_isSome, hp]; rfl
  unfold sboPress
  rw [if_neg (by simp [hf, hnone])]
  dsimp only
  rw [hopen, hs]
  dsimp only
  rw [panel_refuse, if_neg (by simp [hst]), if_neg (by simp [hsel.symm, hcan.symm]),
    if_pos (by rw [hex]; simp; omega)]
  exact ⟨hs, rfl⟩

theorem sboPress_late {s : State} {k i at1 : Nat} (hf : fullService s = true) (hp : s.ps.prog.isSome = true)
    (hs : s.panel.slot = some i) (hst : s.panel.slotState = 1) (hsel : selectedBy s [k] = [])
    (hw : s.panel.slotAt + selWindow s i ≤ s.time.mono - (s.now - at1)) :
    (sboPress [k] at1 s).panel.slot = none ∧ (sboPress [k] at1 s).panel.slotState = 0 := by
  have he : (slotEnd s i).1 ≤ s.time.mono - (s.now - at1) := by
    rw [slotEnd, if_pos hst]
    exact hw
  have hnone : s.ps.prog.isNone = false := by rw [← Option.not_isSome, hp]; rfl
  have hover := settleSlot_over hs he
  obtain ⟨v, hv⟩ : ∃ v, v = settleSlot (s.time.mono - (s.now - at1)) s := ⟨_, rfl⟩
  rw [← hv] at hover
  have hvs : v.panel.slot = none ∧ v.panel.slotState = 0 := by
    rw [hover]
    exact ⟨rfl, rfl⟩
  have hvsel : selectedBy v [k] = [] := by
    rw [hover]
    exact hsel
  unfold sboPress
  rw [if_neg (by simp [hf, hnone])]
  dsimp only
  rw [← hv, hvs.1]
  dsimp only
  rw [hvsel]
  exact hvs

/-! ### A key that is confirmed -/

theorem trackPresence_frame (at1 : Nat) (s : State) :
    (trackPresence at1 s).panel.keys = s.panel.keys ∧ (trackPresence at1 s).panel.slot = s.panel.slot
      ∧ (trackPresence at1 s).panel.slotState = s.panel.slotState ∧ (trackPresence at1 s).ev = s.ev := by
  unfold trackPresence
  dsimp only
  and_intros <;> (repeat' split) <;> rfl

theorem wakeBy_ev (c : WakeCause) (s : State) : (wakeBy c s).ev = s.ev := by
  unfold wakeBy wakeUp
  (repeat' split) <;> simp [enableClocks]

theorem panelWake_frame (n : Nat) (s : State) : (panelWake n s).panel = s.panel ∧ (panelWake n s).ev = s.ev := by
  unfold panelWake
  constructor <;> (repeat' split) <;> simp [wakeBy_ev]

/-- A key that is pressed, as confirmed and recorded. -/
def keyPressed (k a : Nat) (s : State) : State :=
  let s1 := setKey k { panelKey s k with cand := none, samples := 0, state := 1, pressAt := a } s
  raise (edgeFlags (panelKey s k).flags (panelRec 64 2 k a s1)) s1

theorem takeChange_press {s : State} {k a : Nat} (hk : k < 64) (hc : (panelKey s k).cand = some (1, a)) :
    takeChange k s = keyPressed k a s := by
  unfold takeChange
  dsimp only
  rw [hc]
  dsimp only
  rw [if_pos hk, if_pos rfl]
  rfl

theorem confirm_press {s : State} {k a : Nat} (hk : k < 64) (hs : serving s = true) (hc : (panelKey s k).cand = some (1, a))
    (hd : a + 1000000 * s.panel.debounceMs ≤ s.now) (hm : ∀ m, m < 72 → m ≠ k → candAt s m ≠ some a) :
    confirm k s = panelWake k (trackPresence a (sboPress [k] a (keyPressed k a s))) := by
  have hcand : candAt s k = some a := by simp [candAt, hc]
  have hdue : dueKey s k = true := by
    unfold dueKey
    dsimp only
    rw [hc]
    dsimp only
    rw [if_neg (by omega)]
    simpa [passed, debounceNs, hk] using hd
  have hmates : ((List.range 72).filter fun m => m ≠ k && dueKey s m && candAt s m = candAt s k) = [] := by
    rw [List.filter_eq_nil_iff]
    intro m hmem
    rw [hcand]
    by_cases hmk : m = k
    · simp [hmk]
    · simp [hm m (List.mem_range.mp hmem) hmk]
  have hpress : ([k].filter fun n => decide (n < 72) && ((panelKey s n).cand.map Prod.fst) = some 1) = [k] := by
    simp [hc]
    omega
  unfold confirm
  rw [if_neg (by simp [sampled, hs, hdue])]
  dsimp only
  rw [hmates, if_pos (by omega), hcand]
  unfold confirmTogether
  dsimp only
  rw [List.mergeSort_singleton, hpress, if_neg (by simp)]
  simp only [List.foldl_cons, List.foldl_nil, takeChange_press hk hc]
  rfl

theorem keyPressed_record {s : State} {k a : Nat} (ha : a ≤ s.now) :
    ∃ r, (keyPressed k a s).ev.inbox = s.ev.inbox ++ [r] ∧ r.source = 64 ∧ r.kind = 2 ∧ r.data = w32 k
      ∧ r.tai = s.time.tai - (s.now - a) := by
  obtain ⟨x, hx⟩ : ∃ x, x = setKey k { panelKey s k with cand := none, samples := 0, state := 1, pressAt := a } s := ⟨_, rfl⟩
  have hstamp : (stampNow 64 2 (w32 k) x).source = 64 ∧ (stampNow 64 2 (w32 k) x).kind = 2
      ∧ (stampNow 64 2 (w32 k) x).data = w32 k := by
    unfold stampNow
    split <;> exact ⟨rfl, rfl, rfl⟩
  have htai : x.time.tai + a - x.now = s.time.tai - (s.now - a) := by
    rw [show x.time = s.time by rw [hx]; rfl, show x.now = s.now by rw [hx]; rfl]
    omega
  refine ⟨edgeFlags (panelKey s k).flags (panelRec 64 2 k a x), by rw [hx]; rfl, ?_⟩
  unfold edgeFlags
  split <;> exact ⟨hstamp.1, hstamp.2.1, hstamp.2.2, htai⟩

/-! ### The switch, the windows, the gesture -/

theorem sboLocal_appends (s : State) : Appends s (sboLocal s) ∧ (sboLocal s).panel.lr = s.panel.lr := by
  unfold sboLocal
  split
  · split
    · refine ⟨appends_slotIdle .., ?_⟩
      unfold slotIdle
      split <;> rfl
    · exact ⟨.refl s, rfl⟩
  · exact ⟨.refl s, rfl⟩

theorem sboLocal_cancels {s : State} {i : Nat} (hs : s.panel.slot = some i) (hst : s.panel.slotState = 1)
    (hl : (sboSlot s i).localOnly = true) (hlr : s.panel.lr ≠ 1) : (sboLocal s).panel.slot = none := by
  unfold sboLocal
  rw [hs]
  dsimp only
  rw [if_pos ⟨hst, hl, hlr⟩]
  unfold slotIdle
  rw [hs]
  rfl

theorem panelRec_fields (src kind data at1 : Nat) (s : State) :
    (panelRec src kind data at1 s).source = src ∧ (panelRec src kind data at1 s).kind = kind
      ∧ (panelRec src kind data at1 s).data = w32 data := by
  unfold panelRec stampNow
  dsimp only
  and_intros <;> split <;> rfl

/-- Both lines alike for 100 ms. -/
def lrFaulted (s : State) : State :=
  sboLocal (raise (panelRec 77 6 3 s.now { s with panel.lr := 3 }) { s with panel.lr := 3 })

theorem lrFaulted_record (s : State) : (lrFaulted s).panel.lr = 3
    ∧ (∃ r rs, (lrFaulted s).ev.inbox = s.ev.inbox ++ r :: rs ∧ r.source = 77 ∧ r.kind = 6 ∧ r.data = 3#32)
    ∧ (∀ i, s.panel.slot = some i → s.panel.slotState = 1 → (sboSlot s i).localOnly = true → (lrFaulted s).panel.slot = none) := by
  obtain ⟨r, hr⟩ : ∃ r, r = panelRec 77 6 3 s.now { s with panel.lr := 3 } := ⟨_, rfl⟩
  obtain ⟨h1, h2, h3⟩ := panelRec_fields 77 6 3 s.now { s with panel.lr := 3 }
  obtain ⟨⟨-, rs, hrs⟩, hlr⟩ := sboLocal_appends (raise r { s with panel.lr := 3 })
  rw [← hr] at h1 h2 h3
  unfold lrFaulted
  rw [← hr]
  refine ⟨hlr, ⟨r, rs, ?_, h1, h2, h3⟩, fun i hs hst hl => sboLocal_cancels hs hst hl (by decide : (3 : Nat) ≠ 1)⟩
  rw [hrs]
  simp [raise]

theorem settleSlot_record {s : State} {i mono : Nat} (hs : s.panel.slot = some i) (he : (slotEnd s i).1 ≤ mono) :
    (settleSlot mono s).panel.slot = none ∧ (settleSlot mono s).panel.slotState = 0
      ∧ ∃ r, (settleSlot mono s).ev.inbox = s.ev.inbox ++ [r] ∧ r.source = 64 ∧ r.kind = 6
        ∧ r.data = w32 (65536 * i + 1048576 * (slotEnd s i).2) := by
  rw [settleSlot_over hs he]
  exact ⟨rfl, rfl, _, rfl, panelRec_fields ..⟩

theorem presenceComplete_gesture {s : State} {a : Nat} (hh : s.panel.presHold = some a) (ht : a + 3000000000 ≤ s.now)
    (hr : s.power.recoveryWait = false) (hf : fullService s = true) :
    ∀ v, v = presenceComplete s → presenceValid v = true ∧ v.panel.presHold = none
      ∧ v.ev.inbox.length = s.ev.inbox.length + 1 := by
  rintro _ rfl
  have hp : ¬ (!passed s.now a (3 * 10 ^ 9)) = true := by
    rw [show 3 * 10 ^ 9 = 3000000000 by norm_num]
    simpa [passed] using ht
  unfold presenceComplete
  rw [hh]
  dsimp only
  rw [if_neg hp, if_neg (by simp [hr]), if_pos hf]
  refine ⟨?_, rfl, by simp [panelEvent, raise]⟩
  exact decide_eq_true (Nat.lt_add_of_pos_right (by norm_num))

theorem presenceComplete_recovery {s : State} {a : Nat} (hh : s.panel.presHold = some a) (ht : a + 3000000000 ≤ s.now)
    (hr : s.power.recoveryWait = true) :
    ∀ v, v = presenceComplete s → v.power.service = .recovery ∧ presenceValid v = presenceValid s ∧ v.pair.valid = false := by
  rintro _ rfl
  have hp : ¬ (!passed s.now a (3 * 10 ^ 9)) = true := by
    rw [show 3 * 10 ^ 9 = 3000000000 by norm_num]
    simpa [passed] using ht
  unfold presenceComplete
  rw [hh]
  dsimp only
  rw [if_neg hp, if_pos hr]
  unfold enterRecovery
  refine ⟨by simp, ?_, by simp⟩
  simp [presenceValid]

theorem presenceExpiry_cases {s : State} {a : Nat} (h : s.panel.presence = some a) :
    (a + 60000000000 ≤ s.now → (s.panel.presence.isSome && !presenceValid s) = true)
      ∧ (s.now < a + 60000000000 → ¬ (s.panel.presence.isSome && !presenceValid s) = true) := by
  have hv : presenceValid s = decide (s.now < a + 60000000000) := by
    unfold presenceValid
    rw [h, show 60 * 10 ^ 9 = 60000000000 by norm_num]
  rw [hv, h]
  exact ⟨fun hn => by simp [not_lt.mpr hn], fun hn => by simp [hn]⟩

/-! ### The commands -/

theorem pnlCfg_sets {s : State} {w : Work} (hp : s.power.state ≠ .holdup) :
    ∃ p v, pnlCfg w s = (.done DONE p, v) ∧ v.host = s.host ∧ v.panel.cfgSet = true
      ∧ v.panel.debounceMs = clamp 5 50 (field w.payload 8 1 20) ∧ v.panel.stuckS = clamp 10 255 (field w.payload 9 1 60)
      ∧ v.panel.ledMa = clamp 1 10 (field w.payload 10 1 5) ∧ v.panel.touchSens = clamp 2 50 (field w.payload 11 1 8)
      ∧ v.panel.populated = BitVec.ofNat 64 (field w.payload 0 8 (2 ^ 64 - 1)) ||| (1#64 <<< s.bcr.presKeyA)
        ||| (1#64 <<< s.bcr.presKeyB) := by
  unfold pnlCfg
  exact ⟨_, _, checked_pass (by simp [firstStatus, inHoldup_eq_false hp]), rfl, rfl, rfl, rfl, rfl, rfl, rfl⟩

/-- The LEDs that PNL_LED's mask chooses. -/
def chosenLeds (mask : Nat) : List Nat := (List.range 16).filter fun i => decide (mask / 2 ^ i % 2 = 1)

theorem mem_chosenLeds {mask i : Nat} : i ∈ chosenLeds mask ↔ i < 16 ∧ mask / 2 ^ i % 2 = 1 := by
  simp [chosenLeds]

theorem pnlLed_sets {s : State} {w : Work} (hp : s.power.state ≠ .holdup) (hm : field w.payload 2 1 0 ≤ 3)
    (ho : ∀ i, i < 16 → field w.payload 0 2 0 / 2 ^ i % 2 = 1 → ledOwned s i = false) :
    ∃ p, pnlLed w s = (.done DONE p, { s with
      panel.leds := (chosenLeds (field w.payload 0 2 0)).foldl (fun m i => m.set 0 i (field w.payload 2 1 0)) s.panel.leds }) := by
  have hany : (chosenLeds (field w.payload 0 2 0)).any (ledOwned s) = false := List.any_eq_false.mpr fun i hi => by
    obtain ⟨h1, h2⟩ := mem_chosenLeds.mp hi
    simp [ho i h1 h2]
  have hmode : (if 3 < field w.payload 2 1 0 then 0 else field w.payload 2 1 0) = field w.payload 2 1 0 := if_neg (by omega)
  unfold chosenLeds at hany
  unfold pnlLed
  simp only [hmode]
  exact ⟨_, checked_pass (by simp only [firstStatus, hany, inHoldup_eq_false hp]; rfl)⟩

theorem pnlLed_owned {s : State} {w : Work} {i : Nat} (hi : i < 16) (hm : field w.payload 0 2 0 / 2 ^ i % 2 = 1)
    (ho : ledOwned s i = true) : pnlLed w s = (.done OWNED [], s) := by
  have hany : (chosenLeds (field w.payload 0 2 0)).any (ledOwned s) = true :=
    List.any_eq_true.mpr ⟨i, mem_chosenLeds.mpr ⟨hi, hm⟩, ho⟩
  unfold chosenLeds at hany
  unfold pnlLed
  exact checked_fail (by simp only [firstStatus, hany]; rfl)

theorem pnlPresence_cases (w : Work) (s : State) :
    (field w.payload 0 1 0 = 1 → ∃ p, pnlPresence w s = (.done DONE p, { s with panel.presence := none }))
      ∧ (field w.payload 0 1 0 ≠ 1 → ∃ p, pnlPresence w s = (.done DONE p, s)) := by
  unfold pnlPresence
  refine ⟨fun h => ?_, fun h => ?_⟩
  · rw [if_pos h]
    exact ⟨_, rfl⟩
  · rw [if_neg h]
    exact ⟨_, rfl⟩

end Sys2Proof.Machine

open Sys2Proof Sys2Proof.Machine

/-- Settles O51: a scan of a row only begins or forgets debounces; a confirmed press acts on the slots as the window left them
(`sboPress_select`, `sboPress_execute`, `sboPress_late`), and each window that has run ends in `settleSlot`. -/
theorem panelKeysSlotsAndGestures : Obligations.PanelKeysSlotsAndGestures := by
  intro s t mb w u
  have hpanel : u.panel = s.panel := advance_panel t s
  have hev : u.ev = s.ev := advance_ev t s
  have hpow : u.power = s.power := advance_power t s
  have hkey : ∀ n, panelKey u n = panelKey s n := panelKey_advance t s
  have hserv : serving u = serving s := by simp [u]
  have hslot : ∀ i, sboSlot u i = sboSlot s i := sboSlot_advance t s
  have hwin : ∀ i, selWindow u i = selWindow s i := selWindow_advance t s
  have hfull : fullService u = fullService s := by simp [u]
  have hps : u.ps = s.ps := advance_ps t s
  refine ⟨fun row cs hs hd hc => ?_, fun k a hs hc hst hd hm => ?_, fun inp level hn hs hc hst hne => ?_, fun k hk ht => ?_,
    fun a ha hs hl ht => ?_, fun i hi hst hw hn => ?_, fun i hi hst hw => ?_, fun a ha ht => ⟨fun hr hf => ?_, fun hr => ?_⟩,
    fun a ha => ⟨fun ht => ?_, fun ht => ?_⟩, fun h hp => ?_, fun h hp ho hm => ?_, fun h i hi hm ho => ?_, fun h hf => ?_,
    fun h hf => ?_⟩
  · obtain ⟨h1, h2, h3⟩ := keyMatrixScan_samples (s := u) (classes := cs) row.isLt (by rwa [hserv]) (by rwa [hpanel])
      (fun c h => by rw [hkey, hc c h])
    refine ⟨keyMatrixScan row cs u, rfl, by rw [h1, hev], fun c x hlt hpop hx k hk => ?_, fun m hm => by rw [h3 m hm, hkey]⟩
    rw [h2 c hlt (by rwa [hpanel]), colKey, hx]
    dsimp only
    rw [hkey, ← hk]
    rfl
  · have ha : a ≤ u.now := by
      change a ≤ (advance t s).now
      omega
    have heq := confirm_press (s := u) (k := k) (a := a) k.isLt (by rwa [hserv]) (by rw [hkey, hc]) (by rw [hpanel]; exact hd)
      (fun m h1 h2 => by rw [candAt_advance]; exact hm m h1 h2)
    obtain ⟨x, hx⟩ : ∃ x, x = keyPressed k a u := ⟨_, rfl⟩
    have hxpanel : x.panel.slot = s.panel.slot ∧ x.panel.slotState = s.panel.slotState ∧ x.panel.slotAt = s.panel.slotAt := by
      rw [hx, ← hpanel]
      exact ⟨rfl, rfl, rfl⟩
    obtain ⟨hxs, hxst, hxat⟩ := hxpanel
    have hxkey : panelKey x k = { panelKey u k with cand := none, samples := 0, state := 1, pressAt := a } := by
      rw [hx]
      exact (panelKey_setKey ..).trans (if_pos rfl)
    have hxfull : fullService x = fullService s := by rw [hx, ← hfull]; rfl
    have hxps : x.ps = s.ps := by rw [hx, ← hps]; rfl
    have hxtime : x.time = u.time ∧ x.now = u.now := by rw [hx]; exact ⟨rfl, rfl⟩
    have hxslot : ∀ i, sboSlot x i = sboSlot s i := fun i => by rw [← hslot, hx]; rfl
    have hxwin : ∀ i, selWindow x i = selWindow s i := fun i => by rw [← hwin, hx]; rfl
    have hxsel : ∀ ks, selectedBy x ks = selectedBy s ks := fun ks => by rw [← selectedBy_advance t s, hx]; rfl
    obtain ⟨r, hr, h1, h2, h3, h4⟩ := keyPressed_record (k := k) ha
    rw [← hx] at hr heq
    obtain ⟨hkeys, rs, hrs⟩ := appends_sboPress [k] a x
    obtain ⟨t1, t2, t3, t4⟩ := trackPresence_frame a (sboPress [k] a x)
    obtain ⟨w1, w2⟩ := panelWake_frame k (trackPresence a (sboPress [k] a x))
    have hvkey : panelKey (panelWake k (trackPresence a (sboPress [k] a x))) k = panelKey x k := by
      rw [panelKey, w1, t1, hkeys, panelKey]
    refine ⟨_, congrArg Host.Outcome.next heq, ?_, ?_, ?_, ⟨r, rs, ?_, h1, h2, h3, h4⟩, fun i hf hp hn hsel hl => ?_,
      fun i hf hp hi hst hex hsel hcan hw => ?_, fun i hf hp hi hst hsel hw => ?_⟩
    · rw [hvkey, hxkey]
    · rw [hvkey, hxkey]
    · rw [hvkey, hxkey]
    · rw [w2, t4, hrs, hr, hev]
      simp
    · rw [w1, t2, t3]
      exact sboPress_select (by rwa [hxfull]) (by rwa [hxps]) (by rwa [hxs]) (by rwa [hxsel]) (by rwa [hxslot])
    · rw [w1, t2, t3]
      exact sboPress_execute k.isLt (by rwa [hxfull]) (by rwa [hxps]) (by rwa [hxs]) (by rwa [hxst]) (by rwa [hxslot])
        (by rwa [hxslot]) (by rwa [hxslot]) (by rw [hxtime.1, hxtime.2, hxat, hxwin]; exact hw)
    · rw [w1, t2, t3]
      exact sboPress_late (by rwa [hxfull]) (by rwa [hxps]) (by rwa [hxs]) (by rwa [hxst]) (by rwa [hxsel])
        (by rw [hxtime.1, hxtime.2, hxat, hxwin]; exact hw)
  · have hpw : u.power.state ≠ .slumber := by
      intro h
      rw [hpow] at h
      simp [serving, h] at hs
    have hsamp : sampled u (inputNo inp) = true := by simp [sampled, hserv, hs]
    have hfirst := sampleKey_first hpw (by rw [hkey, hc]) (inputState (inputNo inp) level)
    rw [hkey, firstSample, if_neg (by omega)] at hfirst
    exact congrArg Host.Outcome.next ((if_pos ⟨hn, hsamp⟩).trans hfirst)
  · have hgo : (pressed u k && passed u.now (panelKey u k).pressAt (u.panel.stuckS * 10 ^ 9 + 1)) = true := by
      rw [show 10 ^ 9 = 1000000000 by norm_num, hkey, hpanel, show pressed u k = true by simpa [u] using hk]
      simpa [passed] using ht
    rw [← hpanel]
    exact congrArg Host.Outcome.next (if_pos hgo)
  · have hgo : (serving u && decide (u.panel.lr ≠ 3) && passed u.now a (10 ^ 8)) = true := by
      rw [show 10 ^ 8 = 100000000 by norm_num, hserv, hs, hpanel]
      simpa [passed, hl] using ht
    obtain ⟨h1, h2, h3⟩ := lrFaulted_record u
    refine ⟨lrFaulted u, congrArg Host.Outcome.next ?_, h1, by rwa [← hev], fun i hi hst hlo => h3 i (by rwa [hpanel])
      (by rwa [hpanel]) (by rwa [hslot])⟩
    rw [show (advance t s).panel.lrSameAt = some a by rw [hpanel, ha]]
    exact if_pos hgo
  · have he : slotEnd u i = (s.panel.slotAt + selWindow s i, 4) := by
      rw [slotEnd, hpanel, if_pos hst, hwin]
    have hrec := settleSlot_record (s := u) (i := i) (mono := u.time.mono) (by rw [hpanel, hi]) (by rw [he]; exact hw)
    rw [he, hev] at hrec
    refine ⟨_, congrArg Host.Outcome.next ?_, hrec⟩
    rw [show (advance t s).panel.slot = some i by rw [hpanel, hi]]
    refine if_pos (Bool.and_eq_true_iff.mpr ⟨by rw [hpanel, hst]; rfl, ?_⟩)
    rw [Bool.not_eq_true', List.any_eq_false]
    intro n hmem
    rw [sboSlot_advance] at hmem
    rw [panelKey_advance, hn n hmem]
    exact Bool.false_ne_true
  · have he : slotEnd u i = (s.panel.slotAt + execWindow s i, 6) := by
      rw [slotEnd, hpanel, if_neg (by omega), execWindow_advance]
    have hrec := settleSlot_record (s := u) (i := i) (mono := u.time.mono) (by rw [hpanel, hi]) (by rw [he]; exact hw)
    rw [he, hev] at hrec
    refine ⟨_, congrArg Host.Outcome.next ?_, hrec⟩
    rw [show (advance t s).panel.slot = some i by rw [hpanel, hi]]
    exact if_pos (by rw [hpanel, hst])
  · have h := presenceComplete_gesture (s := u) (a := a) (by rw [hpanel, ha]) ht (by rw [hpow, hr]) (by rw [hfull, hf]) _ rfl
    exact ⟨_, rfl, h.1, h.2.1, by rw [h.2.2, hev]⟩
  · exact ⟨_, rfl, presenceComplete_recovery (s := u) (a := a) (by rw [hpanel, ha]) ht (by rw [hpow, hr]) _ rfl⟩
  · exact congrArg Host.Outcome.next (if_pos ((presenceExpiry_cases (s := u) (a := a) (by rw [hpanel, ha])).1 ht))
  · exact congrArg Host.Outcome.next (if_neg ((presenceExpiry_cases (s := u) (a := a) (by rw [hpanel, ha])).2 ht))
  · obtain ⟨p, v, hf, h0, h1, h2, h3, h4, h5, h6⟩ := pnlCfg_sets (s := u) (w := w) (by rwa [hpow])
    rw [show u.bcr = s.bcr from advance_bcr t s] at h6
    refine ⟨p, v, runCommand_answers h hf (by rw [h0]), h1, h2, h3, h4, h5, fun hA => ?_, fun hB => ?_, fun i hi hb => ?_⟩
    · rw [h6]
      simp [hA]
    · rw [h6]
      simp [hB]
    · rw [h6]
      simp only [BitVec.getLsbD_or, hb, Bool.true_or]
  · obtain ⟨p, hf⟩ := pnlLed_sets (s := u) (w := w) (by rwa [hpow]) hm (fun i h1 h2 => by rw [ledOwned_advance]; exact ho i h1 h2)
    refine ⟨p, _, runCommand_answers h hf rfl, fun i hi => ?_⟩
    refine (Tbl.get_foldl_set 0 (fun _ => field w.payload 2 1 0) _ _ i).trans ?_
    simp only [mem_chosenLeds, hi, true_and, hpanel]
  · exact runCommand_answers h (pnlLed_owned hi hm (by rwa [ledOwned_advance])) rfl
  · obtain ⟨p, hp⟩ := (pnlPresence_cases w u).1 hf
    exact ⟨p, runCommand_answers h hp rfl⟩
  · obtain ⟨p, hp⟩ := (pnlPresence_cases w u).2 hf
    exact ⟨p, runCommand_answers h hp rfl⟩

end

section
/-! PROOFS. Events are stamped and numbered (R106-R111, R265). -/

namespace Sys2Proof.Machine

@[simp] theorem startRelease_power_ev (n : Nat) (c : Cause) (s : State) :
    (startRelease n c s).power = s.power ∧ (startRelease n c s).ev = s.ev := by simp [startRelease]

@[simp] theorem release_power_ev (n : Nat) (c : Cause) (s : State) :
    (release n c s).power = s.power ∧ (release n c s).ev = s.ev := by
  unfold release
  dsimp only
  and_intros <;> (repeat' split) <;> simp

@[simp] theorem releaseOwn_power_ev (n : Nat) (c : Cause) (s : State) :
    (releaseOwn n c s).power = s.power ∧ (releaseOwn n c s).ev = s.ev := by
  unfold releaseOwn
  and_intros <;> split <;> simp

theorem triggerTasks_power_ev (r : EvRec) (s : State) : (triggerTasks r s).power = s.power ∧ (triggerTasks r s).ev = s.ev := by
  have hstep : ∀ (p : State → Power × Events) (s : State) (d : TaskDecl), (∀ s n c, p (releaseOwn n c s) = p s) →
      p (if isEventTask d.num && d.source = r.source && edgePasses (edgeOf s d) r.kind then
        releaseOwn d.num { evTai := r.tai, evData := r.data, evSeq := r.seq } s else s) = p s := by
    intro p s d h
    split
    · exact h ..
    · rfl
  have := foldl_keeps (fun s => (s.power, s.ev)) (fun s d => hstep (fun s => (s.power, s.ev)) s d (fun _ _ _ => by simp)) (partition s).tasks s
  exact ⟨congrArg Prod.fst this, congrArg Prod.snd this⟩

theorem soeDrain_ev (s : State) :
    (soeDrain s).ev.fifo = s.ev.fifo ∧ (soeDrain s).ev.inbox = s.ev.inbox ∧ (soeDrain s).ev.seqNext = s.ev.seqNext
      ∧ (soeDrain s).ev.written = s.ev.written ∧ (soeDrain s).ev.interp = s.ev.interp ∧ (soeDrain s).ev.soePos = s.ev.written := by
  refine ⟨?_, ?_, ?_, ?_, ?_, rfl⟩
  · exact (foldl_keeps (fun s : State => s.ev.fifo) (f := fun s r => soeAppend r s) (fun _ _ => rfl) _ _ :)
  · exact (foldl_keeps (fun s : State => s.ev.inbox) (f := fun s r => soeAppend r s) (fun _ _ => rfl) _ _ :)
  · exact (foldl_keeps (fun s : State => s.ev.seqNext) (f := fun s r => soeAppend r s) (fun _ _ => rfl) _ _ :)
  · exact (foldl_keeps (fun s : State => s.ev.written) (f := fun s r => soeAppend r s) (fun _ _ => rfl) _ _ :)
  · exact (foldl_keeps (fun s : State => s.ev.interp) (f := fun s r => soeAppend r s) (fun _ _ => rfl) _ _ :)

/-- The FIFO has room for `n` records more, and the module is in full service. -/
def RoomFor (n : Nat) (s : State) : Prop :=
  s.ev.fifo.length + n ≤ fifoSize ∧ s.power.state = .run ∧ s.power.service = .full

/-- In full service a record is written with the next SEQ, and the sequence of events takes it in at once. -/
theorem enterRecord_room {s : State} (h : RoomFor 1 s) (r : EvRec) :
    (enterRecord r s).ev.fifo = s.ev.fifo ++ [{ r with seq := s.ev.seqNext }] ∧ (enterRecord r s).ev.inbox = s.ev.inbox
      ∧ (enterRecord r s).ev.seqNext = (s.ev.seqNext + 1) % 2 ^ 32 ∧ (enterRecord r s).ev.written = s.ev.written + 1
      ∧ (enterRecord r s).ev.interp = s.ev.interp ∧ (enterRecord r s).ev.soePos = s.ev.written + 1 := by
  obtain ⟨hlen, hrun, hfull⟩ := h
  obtain ⟨v, hv⟩ : ∃ v : State, v = { s with
      ev.fifo := s.ev.fifo ++ [{ r with seq := s.ev.seqNext }], ev.seqNext := (s.ev.seqNext + 1) % 2 ^ 32
      ev.written := s.ev.written + 1 } := ⟨_, rfl⟩
  have hdrain : enterRecord r s = soeDrain v := by
    unfold enterRecord
    rw [if_pos (Nat.lt_of_succ_le hlen)]
    rw [hv]
    exact if_pos (by simp [fullService, hrun, hfull])
  obtain ⟨hfifo, hinbox, hseq, hwritten, hinterp, hsoe⟩ := soeDrain_ev v
  rw [hdrain, hfifo, hinbox, hseq, hwritten, hinterp, hsoe, hv]
  exact ⟨rfl, rfl, rfl, rfl, rfl, rfl⟩

/-- A record of a source that wakes nothing, delivered in full service. -/
theorem deliver_room {s : State} (h : RoomFor 1 s) {r : EvRec} (hw : s.power.wakeEv.getLsbD r.source = false) :
    (deliver r s).ev.fifo = s.ev.fifo ++ [{ r with seq := s.ev.seqNext }] ∧ (deliver r s).ev.inbox = s.ev.inbox
      ∧ (deliver r s).ev.seqNext = (s.ev.seqNext + 1) % 2 ^ 32 ∧ (deliver r s).ev.written = s.ev.written + 1
      ∧ (deliver r s).ev.interp = s.ev.interp ∧ (deliver r s).ev.soePos = s.ev.written + 1
      ∧ (deliver r s).power = s.power := by
  have hd : deliver r s = triggerTasks { r with seq := s.ev.seqNext } (enterRecord r s) := by
    unfold deliver
    dsimp only
    rw [hw]
    rfl
  obtain ⟨hpower, hev⟩ := triggerTasks_power_ev { r with seq := s.ev.seqNext } (enterRecord r s)
  obtain ⟨hfifo, hinbox, hseq, hwritten, hinterp, hsoe⟩ := enterRecord_room h r
  rw [hd, hev, hpower, enterRecord_power]
  exact ⟨hfifo, hinbox, hseq, hwritten, hinterp, hsoe, rfl⟩

theorem serving_full {s : State} (hr : s.power.state = .run) (hf : s.power.service = .full) : serving s = true := by
  simp [serving, hr, hf]

/-- A waiting record enters after the records `first` of its publish that have a lower source. -/
theorem eventStamp_waiting {s : State} (hl : serving s = true) {src : Nat} {r : EvRec} {rest : List EvRec}
    (ht : takeWaiting src s.ev.inbox = some (r, rest)) (kind : Nat) (data : Word) :
    eventStamp src kind data s = deliver r ((earlierPeers r rest).foldl (fun s x => deliver x s)
      { s with ev.inbox := rest.filter fun x => !(earlierPeers r rest).contains x }) := by
  unfold eventStamp
  rw [ht]
  dsimp only
  rw [hl]
  rfl

theorem eventStamp_edge {s : State} (hr : s.power.state = .run) (hf : s.power.service = .full) {src : Nat}
    (ht : takeWaiting src s.ev.inbox = none) (h1 : 64 ≤ src) (h2 : src < 88) (kind : Nat) (data : Word) :
    eventStamp src kind data s = deliver (eventNow src kind data s) s := by
  unfold eventStamp
  rw [ht]
  dsimp only
  rw [serving_full hr hf, if_neg (by simp [canRaise, h1, h2]), if_neg (by simp [hr])]
  unfold stampNow
  rw [if_neg (by simp [fullService, hr, hf])]

theorem interpolatorDone_channel {s : State} {g : Nat} {e : InterpEdge} {c : Nat} (hg : g < 4)
    (hf : s.ev.interp.find? (fun e => decide (e.group = g)) = some e) (hc : (s.chan e.source).cand = some c) (n1 n2 tick : Nat) :
    interpolatorDone g n1 n2 tick s = ({ s with ev.interp := s.ev.interp.erase e } : State).setChan e.source
      { s.chan e.source with cand := some (interpTime n1 n2 tick), candFlags := 1#8 } := by
  unfold interpolatorDone
  rw [hf]
  dsimp only
  rw [if_pos hg]
  exact if_pos (Option.isSome_iff_exists.mpr ⟨c, hc⟩)

theorem interpolatorDone_record {s : State} {e : InterpEdge}
    (hf : s.ev.interp.find? (fun e => decide (e.group = 4)) = some e) (hs : e.source < 128) (n1 n2 tick : Nat) :
    ∃ q, interpolatorDone 4 n1 n2 tick s = deliver
      { tai := interpTime n1 n2 tick, source := e.source, kind := e.kind, data := e.data, quality := q, flags := 1#8 }
      { s with ev.interp := s.ev.interp.erase e } := by
  refine ⟨quality { s with ev.interp := s.ev.interp.erase e }, ?_⟩
  unfold interpolatorDone
  rw [hf]
  dsimp only
  rw [if_neg (by norm_num), if_neg (by omega)]

end Sys2Proof.Machine

open Sys2Proof Sys2Proof.Machine

/-- Settles O39: a record in full service takes the next SEQ at the end of the FIFO (`deliver_room`), whether it waited, was an
edge, or came from an interpolator; the peer of its publish goes before it. -/
theorem eventsAreStampedAndNumbered : Obligations.EventsAreStampedAndNumbered := by
  intro s t u room
  have hroom : ∀ {n}, s.ev.fifo.length + n ≤ fifoSize → room → RoomFor n u := fun hn h =>
    ⟨by simpa [u] using hn, by simpa [u] using h.2.1, by simpa [u] using h.2.2⟩
  refine ⟨?_, ?_, ?_, ?_, ?_⟩
  · intro src kind data h hw ht h1 h2
    obtain ⟨hlen, hrun, hfull⟩ := hroom (n := 1) h.1 h
    obtain ⟨hfifo, -, hseq, hwritten, -, hsoe, -⟩ :=
      deliver_room ⟨hlen, hrun, hfull⟩ (r := eventNow src kind data u) (by simpa [u, eventNow] using hw)
    refine ⟨_, congrArg Host.Outcome.next (eventStamp_edge (s := u) hrun hfull (by simpa [u] using ht) h1 h2 kind data), ?_⟩
    rw [hfifo, hseq, hwritten, hsoe]
    simp [u]
  · intro src kind data r rest h hw ht hp
    obtain ⟨hlen, hrun, hfull⟩ := hroom (n := 1) h.1 h
    obtain ⟨v, hv⟩ : ∃ v : State, v = { u with ev.inbox := rest.filter fun x => !(earlierPeers r rest).contains x } := ⟨_, rfl⟩
    obtain ⟨hfifo, hinbox, hseq, -⟩ := deliver_room (s := v) (r := r) (by rw [hv]; exact ⟨hlen, hrun, hfull⟩)
      (by rw [hv]; simpa [u] using hw)
    refine ⟨_, congrArg Host.Outcome.next
      (eventStamp_waiting (s := u) (serving_full hrun hfull) (by simpa [u] using ht) kind data), ?_⟩
    rw [← hv, hp, List.foldl_nil, hfifo, hinbox, hseq, hv]
    simp [u, hp]
  · intro src kind data r rest x h hlen2 hw ht hp
    obtain ⟨hlen, hrun, hfull⟩ := hroom (n := 2) hlen2 h
    obtain ⟨v, hv⟩ : ∃ v : State, v = { u with ev.inbox := rest.filter fun x => !(earlierPeers r rest).contains x } := ⟨_, rfl⟩
    have hwake : ∀ n, v.power.wakeEv.getLsbD n = false := fun n => by
      rw [hv]
      simp [u, hw]
    obtain ⟨hfifo, hinbox, hseq, -, -, -, hpower⟩ := deliver_room (s := v) (r := x)
      (by rw [hv]; exact ⟨by dsimp only; omega, hrun, hfull⟩) (hwake _)
    obtain ⟨hfifo', hinbox', -⟩ := deliver_room (s := deliver x v) (r := r)
      ⟨by rw [hfifo, hv, List.length_append]; exact hlen, by rw [hpower, hv]; exact hrun, by rw [hpower, hv]; exact hfull⟩
      (by rw [hpower]; exact hwake _)
    refine ⟨_, congrArg Host.Outcome.next
      (eventStamp_waiting (s := u) (serving_full hrun hfull) (by simpa [u] using ht) kind data), ?_⟩
    rw [← hv, hp, List.foldl_cons, List.foldl_nil, hfifo', hinbox', hfifo, hinbox, hseq, hv]
    simp [u, hp]
  · intro g n1 n2 tick e c hg hf hc
    have hlt : g.val < 4 := by
      have : g.val ≠ 4 := fun h => hg (Fin.ext h)
      omega
    have := interpolatorDone_channel (s := u) hlt (by simpa [u] using hf) (by simpa [u] using hc) n1 n2 tick
    rw [show u.ev.interp = s.ev.interp by simp [u], show u.chan e.source = s.chan e.source by simp [u]] at this
    exact congrArg Host.Outcome.next this
  · intro n1 n2 tick e h hf hs hw
    obtain ⟨hlen, hrun, hfull⟩ := hroom (n := 1) h.1 h
    obtain ⟨q, hq⟩ := interpolatorDone_record (s := u) (by simpa [u] using hf) hs n1 n2 tick
    obtain ⟨v, hv⟩ : ∃ v : State, v = { u with ev.interp := u.ev.interp.erase e } := ⟨_, rfl⟩
    obtain ⟨r, hr⟩ : ∃ r : EvRec, r =
        { tai := interpTime n1 n2 tick, source := e.source, kind := e.kind, data := e.data, quality := q, flags := 1#8 } := ⟨_, rfl⟩
    obtain ⟨hfifo, -, -, -, hinterp, -⟩ := deliver_room (s := v) (r := r) (by rw [hv]; exact ⟨hlen, hrun, hfull⟩)
      (by rw [hv, hr]; simpa [u] using hw)
    rw [← hv, ← hr] at hq
    refine ⟨_, { r with seq := v.ev.seqNext }, congrArg Host.Outcome.next hq, ?_⟩
    rw [hfifo, hinterp, hv, hr]
    simp [u, interpTime]
end

section
/-! PROOFS. The clock tree (R65, R84, R85, R89, R91-R96, R115): the end of a profile change's hold. -/

namespace Sys2Proof.Machine

/-- A held release with the reset entry of task 0 written out in the table of tasks, in front of another entry of the task: a form
that no `Tbl.set` gives (log entry 7). -/
def doubledEntry : State := { power := { releaseHold := true }, scan := { tasks := [(0, {}), (0, { skipped := 1 })] } }

/-- The first entry of the task is its reset value, so the second one is not seen. -/
theorem doubledEntry_task : doubledEntry.task 0 = {} := rfl

/-- The excuse of the hold drops the entry that holds the reset value, and the second one comes to light. -/
theorem doubledEntry_settled : ∃ v, exec (.pllSysSettled 0) doubledEntry = .next v ∧ (v.task 0).skipped = 1 :=
  ⟨_, rfl, rfl⟩

end Sys2Proof.Machine

open Sys2Proof Sys2Proof.Machine

/-- Refutes O31: the statement is over every state, with no premise that its tables are in the canonical form of log entry 7. With
an entry of task 0 that holds the reset value in front of a second one, PLL_SYS_SETTLED maps the table entry by entry and drops the
first, so an idle task reads another count of skipped releases than before. -/
theorem not_clockTreeEvents : ¬ Obligations.ClockTreeEvents := by
  intro h
  obtain ⟨-, -, -, -, -, -, -, -, -, -, -, -, -, -, -, hsettled, -⟩ := h doubledEntry 0
  obtain ⟨v, hv, -, htask⟩ := hsettled rfl rfl
  obtain ⟨w, hw, hskipped⟩ := doubledEntry_settled
  obtain rfl := Host.Outcome.next.inj (hv.symm.trans hw)
  rw [htask 0, doubledEntry_task] at hskipped
  exact absurd hskipped (by decide)
end

section
/-! PROOFS. A task's cycle: release, snapshot, barrier, publish, overrun, retirement (R85, R147-R163, R174). -/

namespace Sys2Proof.Machine

/-! ### What the steps of a cycle leave alone -/

@[simp] theorem startRelease_pair_ldg (n : Nat) (c : Cause) (s : State) :
    (startRelease n c s).pair = s.pair ∧ (startRelease n c s).ldg = s.ldg := by simp [startRelease]

@[simp] theorem release_ldg (n : Nat) (c : Cause) (s : State) :
    (release n c s).ldg = s.ldg := by
  unfold release
  dsimp only
  (repeat' split) <;> simp

@[simp] theorem releaseOwn_ldg (n : Nat) (c : Cause) (s : State) :
    (releaseOwn n c s).ldg = s.ldg := by
  unfold releaseOwn
  split <;> simp

@[simp] theorem startStripe_power_edit_fld_pair_ldg (n phase l : Nat) (entry : Word) (s : State) :
    (startStripe n phase l entry s).power = s.power ∧ (startStripe n phase l entry s).edit = s.edit
      ∧ (startStripe n phase l entry s).fld = s.fld ∧ (startStripe n phase l entry s).pair = s.pair
      ∧ (startStripe n phase l entry s).ldg = s.ldg := by
  unfold startStripe
  dsimp only
  and_intros <;> (repeat' split) <;> simp

@[simp] theorem dispatch1_power_edit_fld_pair_ldg (l c : Nat) (s : State) :
    (dispatch1 l c s).power = s.power ∧ (dispatch1 l c s).edit = s.edit ∧ (dispatch1 l c s).fld = s.fld
      ∧ (dispatch1 l c s).pair = s.pair ∧ (dispatch1 l c s).ldg = s.ldg := by
  unfold dispatch1
  and_intros <;> (repeat' split) <;> simp

@[simp] theorem dispatch_power_edit_fld_pair_ldg (s : State) :
    (dispatch s).power = s.power ∧ (dispatch s).edit = s.edit ∧ (dispatch s).fld = s.fld ∧ (dispatch s).pair = s.pair
      ∧ (dispatch s).ldg = s.ldg := by
  unfold dispatch
  and_intros <;> exact foldl_keeps _ (by intro s a; simp) _ _

@[simp] theorem setPub_frame (k : Nat) (g : GoosePub) (s : State) :
    (setPub k g s).img = s.img ∧ (setPub k g s).scan = s.scan ∧ (setPub k g s).edit = s.edit := by simp [setPub]

@[simp] theorem sendGoose_frame (k : Nat) (s : State) :
    (sendGoose k s).img = s.img ∧ (sendGoose k s).scan = s.scan ∧ (sendGoose k s).edit = s.edit := by simp [sendGoose]

@[simp] theorem newGooseState_frame (k : Nat) (s : State) :
    (newGooseState k s).img = s.img ∧ (newGooseState k s).scan = s.scan ∧ (newGooseState k s).edit = s.edit := by
  unfold newGooseState
  dsimp only
  and_intros <;> (repeat' split) <;> simp

@[simp] theorem pubAtPublish_frame (k : Nat) (s : State) :
    (pubAtPublish k s).img = s.img ∧ (pubAtPublish k s).scan = s.scan ∧ (pubAtPublish k s).edit = s.edit := by
  unfold pubAtPublish
  dsimp only
  and_intros <;> (repeat' split) <;> simp

@[simp] theorem gooseOnPublish_frame (s : State) :
    (gooseOnPublish s).img = s.img ∧ (gooseOnPublish s).scan = s.scan ∧ (gooseOnPublish s).edit = s.edit := by
  unfold gooseOnPublish
  and_intros <;> exact foldl_keeps _ (by intro s a; simp) _ _

@[simp] theorem setMirrorWord_frame (region addr : Nat) (v : Word) (s : State) :
    (setMirrorWord region addr v s).power = s.power ∧ (setMirrorWord region addr v s).img = s.img
      ∧ (setMirrorWord region addr v s).edit = s.edit ∧ (setMirrorWord region addr v s).pair = s.pair
      ∧ (setMirrorWord region addr v s).ldg = s.ldg := by simp [setMirrorWord]

@[simp] theorem mirrorData_frame (keys : List Nat) (s : State) :
    (mirrorData keys s).img = s.img ∧ (mirrorData keys s).edit = s.edit ∧ (mirrorData keys s).pair = s.pair := by
  unfold mirrorData
  and_intros <;> exact foldl_keeps _ (by intro s a; simp) _ _

@[simp] theorem homeWrite_img_edit (s : State) :
    (homeWrite s).img = s.img ∧ (homeWrite s).edit = s.edit := by simp [homeWrite]

@[simp] theorem journalAdd_frame (e : JrnEnt) (s : State) :
    (journalAdd e s).img = s.img ∧ (journalAdd e s).edit = s.edit ∧ (journalAdd e s).pair = s.pair := by
  unfold journalAdd
  dsimp only
  and_intros <;> (repeat' split) <;> simp

@[simp] theorem transfer_frame (s : State) (a : Nat) :
    (transfer s a).img = s.img ∧ (transfer s a).edit = s.edit ∧ (transfer s a).pair = s.pair := by
  unfold transfer
  dsimp only
  and_intros <;> (repeat' split) <;> simp

@[simp] theorem setDataWord_ldg (region addr : Nat) (v : Word) (s : State) :
    (setDataWord region addr v s).ldg = s.ldg := by simp [setDataWord]

@[simp] theorem loadRegion_frame (s : State) (l : Nat) :
    (loadRegion s l).power = s.power ∧ (loadRegion s l).ldg = s.ldg := by simp [loadRegion]

@[simp] theorem loadRegions_frame (s : State) :
    (loadRegions s).power = s.power ∧ (loadRegions s).ldg = s.ldg := by
  unfold loadRegions
  and_intros <;> exact foldl_keeps _ (by intro s a; simp) _ _

@[simp] theorem moveWord_frame (s : State) (region addr : Nat) (v : Word) :
    (moveWord s region addr v).power = s.power ∧ (moveWord s region addr v).ldg = s.ldg := by simp [moveWord]

@[simp] theorem tasksAfterRemap_frame (s : State) :
    (tasksAfterRemap s).power = s.power ∧ (tasksAfterRemap s).ldg = s.ldg := by
  unfold tasksAfterRemap
  and_intros <;> exact foldl_keeps _ (by intro s a; simp) _ _

@[simp] theorem releaseNext_power_pair_ldg (n : Nat) (s : State) :
    (releaseNext n s).power = s.power ∧ (releaseNext n s).pair = s.pair ∧ (releaseNext n s).ldg = s.ldg := by
  unfold releaseNext
  dsimp only
  refine ⟨?_, ?_, ?_⟩ <;> (repeat' split) <;> simp [startRelease, releaseOwn_pair]

theorem moveInstances_keeps (was3 : Bool) (old : Tbl Memory) (s : State) :
    (moveInstances was3 old s).power = s.power ∧ (moveInstances was3 old s).ldg = s.ldg := by
  unfold moveInstances
  split
  · exact ⟨foldl_keeps State.power (by intros; rfl) _ _, foldl_keeps State.ldg (by intros; rfl) _ _⟩
  · exact ⟨foldl_keeps State.power (fun s m => foldl_keeps State.power (by simp) _ _) _ _,
      foldl_keeps State.ldg (fun s m => foldl_keeps State.ldg (by simp) _ _) _ _⟩

/-- What a release and the dispatch leave of the scan: all but the tasks' own records. -/
def scanFace (s : State) : Nat × Bool × Bool × List Bnd × Nat × Nat :=
  (s.scan.scan, s.scan.atBoundary, s.scan.sx12, s.scan.bnd, s.scan.mode, s.scan.overruns)

@[simp] theorem scanFace_setTask (s : State) (n : Nat) (r : TaskRt) : scanFace (s.setTask n r) = scanFace s := rfl
@[simp] theorem scanFace_startRelease (n : Nat) (c : Cause) (s : State) : scanFace (startRelease n c s) = scanFace s := rfl
@[simp] theorem scanFace_release (n : Nat) (c : Cause) (s : State) : scanFace (release n c s) = scanFace s := by
  unfold release
  dsimp only
  (repeat' split) <;> simp
@[simp] theorem scanFace_releaseOwn (n : Nat) (c : Cause) (s : State) : scanFace (releaseOwn n c s) = scanFace s := by
  unfold releaseOwn
  split <;> simp
@[simp] theorem scanFace_releaseNext (n : Nat) (s : State) : scanFace (releaseNext n s) = scanFace s := by
  unfold releaseNext
  dsimp only
  (repeat' split) <;> simp
@[simp] theorem scanFace_setRegion (s : State) (n : Nat) (r : Region) : scanFace (s.setRegion n r) = scanFace s := rfl
@[simp] theorem scanFace_dispatch (s : State) : scanFace (dispatch s) = scanFace s := by
  refine foldl_keeps scanFace (fun s l => foldl_keeps scanFace (fun s c => ?_) _ s) _ s
  unfold dispatch1 startStripe
  dsimp only
  (repeat' split) <;> rfl

theorem scanFace_moveInstances (was3 : Bool) (old : Tbl Memory) (s : State) : scanFace (moveInstances was3 old s) = scanFace s := by
  unfold moveInstances
  split
  · exact (foldl_keeps scanFace (by simp) _ _).trans rfl
  · exact foldl_keeps scanFace (fun s m => foldl_keeps scanFace (by intros; rfl) _ _) _ _

theorem scanFace_loadRegions (s : State) : scanFace (loadRegions s) = scanFace s :=
  (foldl_keeps scanFace (by intros; rfl) _ _).trans rfl

theorem scanFace_tasksAfterRemap (s : State) : scanFace (tasksAfterRemap s) = scanFace s :=
  foldl_keeps scanFace (by intros; rfl) _ _

/-! ### Releases -/

/-- A release begins no cycle: the task runs as it did, or is released. -/
def SameCycle (s t : State) : Prop :=
  ∀ m, (t.task m).cycles = (s.task m).cycles ∧ (t.task m).buf = (s.task m).buf ∧ (t.task m).overrun = (s.task m).overrun
    ∧ ((t.task m).state = (s.task m).state ∨ (t.task m).state = .released)

theorem SameCycle.refl (s : State) : SameCycle s s := fun _ => ⟨rfl, rfl, rfl, .inl rfl⟩

theorem SameCycle.trans {s t u : State} (h : SameCycle s t) (k : SameCycle t u) : SameCycle s u := by
  intro m
  obtain ⟨h1, h2, h3, h4⟩ := h m
  obtain ⟨k1, k2, k3, k4⟩ := k m
  refine ⟨k1.trans h1, k2.trans h2, k3.trans h3, ?_⟩
  obtain k4 | k4 := k4
  · exact h4.imp k4.trans k4.trans
  · exact .inr k4

theorem sameCycle_setTask {s : State} {n : Nat} {r : TaskRt} (hc : r.cycles = (s.task n).cycles) (hb : r.buf = (s.task n).buf)
    (ho : r.overrun = (s.task n).overrun) (hs : r.state = (s.task n).state ∨ r.state = .released) : SameCycle s (s.setTask n r) := by
  intro m
  rw [task_setTask]
  split
  next h => exact h ▸ ⟨hc, hb, ho, hs⟩
  next => exact ⟨rfl, rfl, rfl, .inl rfl⟩

theorem sameCycle_startRelease (n : Nat) (c : Cause) (s : State) : SameCycle s (startRelease n c s) :=
  sameCycle_setTask rfl rfl rfl (.inr rfl)

theorem sameCycle_release (n : Nat) (c : Cause) (s : State) : SameCycle s (release n c s) := by
  unfold release
  dsimp only
  split
  · (repeat' split)
    · exact .refl s
    all_goals exact sameCycle_setTask rfl rfl rfl (.inl rfl)
  split
  · exact sameCycle_startRelease _ _ _
  all_goals (repeat' split) <;> exact sameCycle_setTask rfl rfl rfl (.inl rfl)

theorem sameCycle_releaseOwn (n : Nat) (c : Cause) (s : State) : SameCycle s (releaseOwn n c s) := by
  unfold releaseOwn
  split
  · exact sameCycle_release _ _ _
  · exact .refl s

theorem sameCycle_releaseNext (n : Nat) (s : State) : SameCycle s (releaseNext n s) := by
  unfold releaseNext
  dsimp only
  split
  · exact .refl s
  split
  · refine SameCycle.trans ?_ (sameCycle_startRelease _ _ _)
    exact sameCycle_setTask rfl rfl rfl (.inl rfl)
  · refine SameCycle.trans ?_ (sameCycle_startRelease _ _ _)
    exact sameCycle_setTask rfl rfl rfl (.inl rfl)
  split
  · exact sameCycle_releaseOwn _ _ _
  · exact .refl s

theorem sameCycle_dispatch (s : State) : SameCycle s (dispatch s) := by
  intro m
  obtain ⟨l, hl⟩ := (sameButStarts_dispatch s).2 m
  rw [hl]
  exact ⟨rfl, rfl, rfl, .inl rfl⟩

theorem isApprentice_eq_false {s : State} (h : s.pair.role ≠ .apprentice) : isApprentice s = false := by
  simpa [isApprentice] using h

/-- A release of an idle task that nothing holds begins at once. -/
theorem releaseOwn_idle {s : State} {n : Nat} (hm : mayRelease s n = true) (hr : s.pair.role ≠ .apprentice)
    (hi : (s.task n).state = .idle) (hh : (s.task n).held = false) (hd : switchDue s = false) (c : Cause) :
    releaseOwn n c s = startRelease n c s := by
  unfold releaseOwn
  rw [if_pos (by simp [hm, isApprentice_eq_false hr])]
  unfold release
  dsimp only
  rw [hh, hd, hi]
  rfl

theorem Tbl.insert_insert {α : Type} (m : Tbl α) (k : Nat) (v w : α) : (m.insert k v).insert k w = m.insert k w := by
  induction m with
  | nil => simp [Tbl.insert]
  | cons p r ih =>
    obtain ⟨k', v'⟩ := p
    simp only [Tbl.insert]
    split
    · simp [Tbl.insert]
    split
    · simp [Tbl.insert]
    · simp [Tbl.insert, *]

/-- Of two entries of a task the later one stands. -/
theorem setTask_setTask {s : State} {n : Nat} {r q : TaskRt} (hr : r ≠ {}) (hq : q ≠ {}) :
    (s.setTask n r).setTask n q = s.setTask n q := by
  have hset : (s.scan.tasks.set {} n r).set {} n q = s.scan.tasks.set {} n q := by
    unfold Tbl.set
    rw [if_neg hr, if_neg hq, if_neg hq]
    exact Tbl.insert_insert ..
  unfold State.setTask
  dsimp only
  rw [hset]

/-- The grid passes an instant of a periodic task (R147). -/
theorem periodicRelease_due {s : State} {n : Nat} {d : TaskDecl} (hd : taskDecl s n = some d) (hp : isPeriodicTask n = true)
    (hm : s.scan.mode = 2) (ht : 1000 * phaseUs s d + (s.task n).nextK * (1000 * periodUs s d) ≤ taskMono s) :
    periodicRelease n s =
      let s1 := s.setTask n { s.task n with nextK := (s.task n).nextK + 1 }
      if s1.power.releaseHold then { s1 with power.heldReleases := s1.power.heldReleases ++ [n] } else releaseOwn n {} s1 := by
  unfold periodicRelease
  rw [hd]
  dsimp only
  rw [if_neg (by simp [hp, hm, ht])]

/-- A task's cycle keeps its program while it keeps its epoch and stays begun, or stays idle. -/
theorem taskDecl_congr {s v : State} {n : Nat} (hps : v.ps = s.ps) (hp : v.power = s.power) (he : (v.task n).epoch = (s.task n).epoch)
    (hs : (v.task n).state = .idle ↔ (s.task n).state = .idle) : taskDecl v n = taskDecl s n := by
  have hpart : partitionFor v n = partitionFor s n := by
    unfold partitionFor partition prog
    simp only [hps, hp, he, hs, ne_eq]
  unfold taskDecl
  rw [hpart]

/-! ### The snapshot -/

theorem snapPoint_other (s : State) (n : Nat) (r : TaskRt) {a b : Nat} (h : b ≠ a) :
    (snapPoint s n r b).snap.val.get 0#32 a = r.snap.val.get 0#32 a ∧ (snapPoint s n r b).snap.q.get 0#4 a = r.snap.q.get 0#4 a := by
  unfold snapPoint
  split
  · exact ⟨rfl, rfl⟩
  · have hsnap : (captureLevel (bit (decide (imgVal s b ≠ 0#32))) r (indexOf b)).2.snap = r.snap := by
      unfold captureLevel
      dsimp only
      (repeat' split) <;> rfl
    dsimp only
    rw [Tbl.get_set, Tbl.get_set, if_neg h.symm, if_neg h.symm]
    split
    · rw [hsnap]
      exact ⟨rfl, rfl⟩
    · exact ⟨rfl, rfl⟩

theorem snapPoint_self (s : State) (n : Nat) (r : TaskRt) {a : Nat} (h7 : spaceOf a ≠ 7) (hc : captures s a = false) :
    (snapPoint s n r a).snap.val.get 0#32 a = pointValue s a ∧ (snapPoint s n r a).snap.q.get 0#4 a = pointQuality s a := by
  unfold snapPoint
  rw [if_neg h7, hc]
  simp [w32]

/-- A point that is declared as an input and is not under pulse capture is in the snapshot as the image shows it (R152). -/
theorem snapPoints_holds (s : State) (n : Nat) {a : Nat} (h7 : spaceOf a ≠ 7) (hc : captures s a = false) (l : List Nat) (r : TaskRt)
    (ha : a ∈ l ∨ r.snap.val.get 0#32 a = pointValue s a ∧ r.snap.q.get 0#4 a = pointQuality s a) :
    (l.foldl (fun r a => snapPoint s n r a) r).snap.val.get 0#32 a = pointValue s a
      ∧ (l.foldl (fun r a => snapPoint s n r a) r).snap.q.get 0#4 a = pointQuality s a := by
  induction l generalizing r with
  | nil => simpa using ha
  | cons b l ih =>
    refine ih _ ?_
    by_cases hb : b = a
    · rw [hb]
      exact .inr (snapPoint_self s n r h7 hc)
    · obtain ⟨hv, hq⟩ := snapPoint_other s n r hb
      rw [hv, hq]
      exact ha.imp_left fun h => (List.mem_cons.mp h).resolve_left (Ne.symm hb)

theorem snapPoints_kept (s : State) (n : Nat) (l : List Nat) (r : TaskRt) :
    (l.foldl (fun r a => snapPoint s n r a) r).snapTai = r.snapTai ∧ (l.foldl (fun r a => snapPoint s n r a) r).snapMono = r.snapMono
      ∧ (l.foldl (fun r a => snapPoint s n r a) r).layout = r.layout ∧ (l.foldl (fun r a => snapPoint s n r a) r).epoch = r.epoch := by
  induction l generalizing r with
  | nil => exact ⟨rfl, rfl, rfl, rfl⟩
  | cons b l ih =>
    obtain ⟨h1, h2, h3, h4⟩ := ih (snapPoint s n r b)
    have hb : (snapPoint s n r b).snapTai = r.snapTai ∧ (snapPoint s n r b).snapMono = r.snapMono
        ∧ (snapPoint s n r b).layout = r.layout ∧ (snapPoint s n r b).epoch = r.epoch := by
      unfold snapPoint captureLevel
      dsimp only
      refine ⟨?_, ?_, ?_, ?_⟩ <;> (repeat' split) <;> rfl
    obtain ⟨b1, b2, b3, b4⟩ := hb
    exact ⟨h1.trans b1, h2.trans b2, h3.trans b3, h4.trans b4⟩

theorem shipRelease_solo {s : State} (h : s.pair.shipping = false) (n : Nat) : shipRelease n s = s := by
  simp [shipRelease, pairSend, h]

theorem svSnapshot_none {s : State} {n : Nat} (h : svBound s n = []) : svSnapshot n s = s := by
  unfold svSnapshot
  rw [h]
  rfl

theorem runMigration_none {s : State} {n : Nat} (h : dueEpochs s n (s.task n).layout (s.task n).epoch = []) : runMigration n s = s := by
  unfold runMigration
  dsimp only
  rw [h]

/-- A phase begins: its stripes are to start, and some have started. -/
theorem beginPhase_begun {s : State} {n : Nat} {d : TaskDecl} (hd : taskDecl s n = some d) (phase : Nat) :
    ∃ l, (beginPhase n phase s).task n =
        { s.task n with phase := phase, arrived := [], barrier := none, phaseDirty := [], toStart := l }
      ∧ (beginPhase n phase s).img = s.img ∧ (beginPhase n phase s).fld = s.fld := by
  unfold beginPhase
  rw [hd]
  dsimp only
  generalize hr : ({ s.task n with phase := phase, arrived := [], barrier := none, phaseDirty := [], toStart := _ } : TaskRt) = r
  obtain ⟨l, hl⟩ := (sameButStarts_dispatch (s.setTask n r)).2 n
  refine ⟨l, ?_, by simp, by simp⟩
  rw [hl, task_setTask, if_pos rfl, ← hr]

/-- The record of a task whose cycle begins with its own snapshot (R152). -/
def snapped (n : Nat) (d : TaskDecl) (s : State) : TaskRt :=
  let s1 := s.setTask n { s.task n with
    snapMono := taskMono s, snapTai := s.time.tai, snapQuality := quality s, snap := {}, snapSys := [] }
  (addrsOf d.inputs).foldl (fun r a => snapPoint s1 n r a) (s1.task n)

theorem takeSnapshot_snapped (n : Nat) (d : TaskDecl) (s : State) : ∃ r, takeSnapshot n d s = (s.setTask n r).setTask n (snapped n d s) :=
  ⟨_, rfl⟩

theorem snapped_kept (n : Nat) (d : TaskDecl) (s : State) :
    (snapped n d s).snapTai = s.time.tai ∧ (snapped n d s).snapMono = taskMono s ∧ (snapped n d s).layout = (s.task n).layout
      ∧ (snapped n d s).epoch = (s.task n).epoch := by
  unfold snapped
  dsimp only
  obtain ⟨h1, h2, h3, h4⟩ := snapPoints_kept (s.setTask n { s.task n with
    snapMono := taskMono s, snapTai := s.time.tai, snapQuality := quality s, snap := {}, snapSys := [] }) n (addrsOf d.inputs)
    ((s.setTask n { s.task n with
      snapMono := taskMono s, snapTai := s.time.tai, snapQuality := quality s, snap := {}, snapSys := [] }).task n)
  rw [h1, h2, h3, h4, task_setTask, if_pos rfl]
  exact ⟨rfl, rfl, rfl, rfl⟩

theorem snapped_holds (n : Nat) (d : TaskDecl) (s : State) {a : Nat} (ha : a ∈ addrsOf d.inputs) (h7 : spaceOf a ≠ 7)
    (hc : captures s a = false) :
    (snapped n d s).snap.val.get 0#32 a = pointValue s a ∧ (snapped n d s).snap.q.get 0#4 a = pointQuality s a :=
  snapPoints_holds (s.setTask n { s.task n with
    snapMono := taskMono s, snapTai := s.time.tai, snapQuality := quality s, snap := {}, snapSys := [] }) n h7 hc _ _ (.inl ha)

theorem startCycle_solo {s : State} {n : Nat} {d : TaskDecl} (hd : taskDecl s n = some d) (hst : (s.task n).state = .released)
    (hn : n ≠ 0) (hr : s.pair.role = .solo) (hs : s.pair.shipping = false)
    (hsv : svBound s n = []) (hm : dueEpochs s n (s.task n).layout (s.task n).epoch = []) :
    ∃ l, (startCycle n d s).task n = { snapped n d s with
        state := .running, buf := [], dirty := [], ended := [], overrun := false, oldTables := none
        phase := 0, arrived := [], barrier := none, phaseDirty := [], toStart := l }
      ∧ (startCycle n d s).img = s.img ∧ (startCycle n d s).fld = s.fld := by
  have hs0 : ({ s with scan.atBoundary := s.scan.atBoundary && decide (n ≠ 0) } : State) = s := by simp [hn]
  obtain ⟨q, hq⟩ := takeSnapshot_snapped n d s
  obtain ⟨v, hv⟩ : ∃ v, v = (s.setTask n q).setTask n (snapped n d s) := ⟨_, rfl⟩
  have htask : v.task n = snapped n d s := by rw [hv, task_setTask, if_pos rfl]
  obtain ⟨w, hw⟩ : ∃ w, w = v.setTask n { snapped n d s with
    state := .running, buf := [], dirty := [], ended := [], overrun := false, oldTables := none } := ⟨_, rfl⟩
  obtain ⟨-, -, hlayout, hepoch⟩ := snapped_kept n d s
  have hcycle : startCycle n d s = beginPhase n 0 (runMigration n w) := by
    unfold startCycle
    rw [hs0, svSnapshot_none hsv]
    dsimp only
    rw [hq, ← hv, isApprentice_eq_false (by simp [hr]), shipRelease_solo (by rw [hv]; exact hs), htask, ← hw]
  have hmig : runMigration n w = w := runMigration_none (by
    rw [hw, task_setTask, if_pos rfl]
    dsimp only
    rw [hlayout, hepoch, hv]
    exact hm)
  have hdecl : taskDecl w n = some d := by
    rw [← hd]
    refine taskDecl_congr (by rw [hw, hv]; rfl) (by rw [hw, hv]; rfl) ?_ ?_
    · rw [hw, task_setTask, if_pos rfl]
      exact hepoch
    · rw [hw, task_setTask, if_pos rfl, hst]
      simp
  obtain ⟨l, hl, himg, hfld⟩ := beginPhase_begun hdecl 0
  refine ⟨l, ?_, ?_, ?_⟩
  · rw [hcycle, hmig, hl, hw, task_setTask, if_pos rfl]
  · rw [hcycle, hmig, himg, hw, hv]
    rfl
  · rw [hcycle, hmig, hfld, hw, hv]
    rfl

theorem snapshotComplete_starts {s : State} {n : Nat} {d : TaskDecl} (hn : n ≠ 0) (hm : maySnapshot n s = true)
    (hd : taskDecl s n = some d) : snapshotComplete n s = startCycle n d s := by
  simp [snapshotComplete, hn, hm, hd]

theorem barrierRelease_opens {s : State} {n : Nat} {d : TaskDecl} {b : BarrierDecl} (hd : taskDecl s n = some d)
    (hb : openBarrier n d s = some b) (hp : (s.task n).phaseDirty = []) :
    barrierRelease n s = beginPhase n ((s.task n).phase + 1) s := by
  unfold barrierRelease
  rw [hd]
  dsimp only
  rw [hb, hp]
  rfl

end Sys2Proof.Machine
end

section
/-! PROOFS. A task's publish, its overrun and the resume after a retirement (R153, R156, R162, R163, R174). -/

namespace Sys2Proof.Machine

/-! ### The buffer of a publish -/

theorem Tbl.mem_of_mem_insert {α : Type} {m : Tbl α} {k : Nat} {v : α} {p : Nat × α} (h : p ∈ m.insert k v) : p = (k, v) ∨ p ∈ m := by
  induction m with
  | nil => simpa [Tbl.insert] using h
  | cons q r ih =>
    unfold Tbl.insert at h
    split at h
    · simpa using h
    split at h
    · simp only [List.mem_cons] at h ⊢
      exact h.imp_right .inr
    · simp only [List.mem_cons] at h ⊢
      obtain h | h := h
      · exact .inr (.inl h)
      · exact (ih h).imp_right .inr

theorem Tbl.mem_insert_of_ne {α : Type} {m : Tbl α} {k : Nat} {p : Nat × α} (hp : p ∈ m) (hk : p.1 ≠ k) (v : α) : p ∈ m.insert k v := by
  induction m with
  | nil => exact absurd hp (by simp)
  | cons q r ih =>
    obtain ⟨k', v'⟩ := q
    simp only [Tbl.insert]
    split
    · exact List.mem_cons_of_mem _ hp
    split
    next h =>
      obtain rfl | hp := List.mem_cons.mp hp
      · exact absurd h.symm hk
      · exact List.mem_cons_of_mem _ hp
    · obtain rfl | hp := List.mem_cons.mp hp
      · exact List.mem_cons_self
      · exact List.mem_cons_of_mem _ (ih hp)

/-- The buffer holds one value for a point. -/
def Shows (a : Nat) (x : Word) (buf : Tbl (Option Word)) : Prop :=
  (a, some x) ∈ buf ∧ ∀ p ∈ buf, p.1 = a → p.2 = some x

theorem Shows.get {a : Nat} {x : Word} {buf : Tbl (Option Word)} (h : Shows a x buf) : buf.get none a = some x := by
  obtain ⟨hmem, hall⟩ := h
  induction buf with
  | nil => exact absurd hmem (by simp)
  | cons q r ih =>
    obtain ⟨k, v⟩ := q
    simp only [Tbl.get]
    split
    next hk => exact hall (k, v) List.mem_cons_self hk.symm
    next hk =>
      refine ih ((List.mem_cons.mp hmem).resolve_left fun h => hk (congrArg Prod.fst h)) fun p hp => ?_
      exact hall p (List.mem_cons_of_mem _ hp)

theorem Shows.set {a b : Nat} {x : Word} {buf : Tbl (Option Word)} (h : Shows a x buf) (hb : b ≠ a) (w : Word) :
    Shows a x (buf.set none b (some w)) := by
  obtain ⟨hmem, hall⟩ := h
  unfold Tbl.set
  rw [if_neg (by simp)]
  refine ⟨Tbl.mem_insert_of_ne hmem hb.symm _, fun p hp hpa => ?_⟩
  obtain rfl | hp := Tbl.mem_of_mem_insert hp
  · exact absurd hpa hb
  · exact hall p hp hpa

/-- A sampled-value result enters the buffer only where the task has written nothing. -/
theorem Shows.svResults {a : Nat} {x : Word} {buf : Tbl (Option Word)} (h : Shows a x buf) (n : Nat) (s : State) :
    Shows a x (Machine.svResults n buf s) := by
  have hword : ∀ (f : Nat → Word) (l : List Nat) (buf : Tbl (Option Word)), Shows a x buf →
      Shows a x (l.foldl (fun buf b => if (buf.get none b).isSome then buf else buf.set none b (some (f b))) buf) := by
    intro f l
    induction l with
    | nil => exact fun _ h => h
    | cons b l ih =>
      intro buf h
      refine ih _ ?_
      dsimp only
      split
      · exact h
      next hb =>
        refine h.set (fun hba => hb ?_) _
        rw [hba, h.get]
        rfl
  unfold Machine.svResults
  generalize (svBound s n).filter _ = l
  induction l generalizing buf with
  | nil => exact h
  | cons k l ih =>
    rw [List.foldl_cons]
    generalize svWords k = ws
    exact ih (hword (fun b => svWordOf (s.net.sv.get {} k) (indexOf b % 512)) ws _ h)

theorem putPoint_val {a : Nat} {x : Word} (h7 : spaceOf a ≠ 7) {s : State} {p : Nat × Option Word} (hp : p.1 = a → p.2 = some x) :
    (p = (a, some x) → imgVal (putPoint s p) a = x) ∧ (imgVal s a = x → imgVal (putPoint s p) a = x) := by
  obtain ⟨b, w⟩ := p
  unfold putPoint imgVal
  cases w with
  | none => simp
  | some w =>
    dsimp only
    by_cases hb : b = a
    · subst hb
      obtain rfl := Option.some.inj (hp rfl)
      simp [h7, setImg]
    · constructor
      · exact fun h => absurd (congrArg Prod.fst h) hb
      · intro h
        split
        · exact h
        · simpa [setImg, Ne.symm hb] using h

theorem putPoints_val {a : Nat} {x : Word} (h7 : spaceOf a ≠ 7) {buf : Tbl (Option Word)} {s : State}
    (hall : ∀ p ∈ buf, p.1 = a → p.2 = some x) (h : (a, some x) ∈ buf ∨ imgVal s a = x) : imgVal (buf.foldl putPoint s) a = x := by
  induction buf generalizing s with
  | nil => simpa using h
  | cons p r ih =>
    obtain ⟨hself, hkeep⟩ := putPoint_val h7 (s := s) (hall p (by simp))
    refine ih (fun q hq => hall q (by simp [hq])) ?_
    obtain h | h := h
    · obtain h | h := List.mem_cons.mp h
      · exact .inr (hself h.symm)
      · exact .inl h
    · exact .inr (hkeep h)

/-! ### What a publish leaves alone until the boundary -/

/-- The tasks and what decides at the boundary: all that a publish leaves alone before it ends its own task's cycle. -/
def calm (s : State) : Tbl TaskRt × Nat × List Bnd × Option Epoch × Role × List FwdCmd × ProgStore :=
  (s.scan.tasks, s.scan.scan, s.scan.bnd, s.edit.epoch, s.pair.role, s.pair.commands, s.ps)

theorem calm_svPublish (n : Nat) (s : State) : calm (svPublish n s) = calm s ∧ (svPublish n s).img.val = s.img.val := by
  have hstep : ∀ {β : Type} (p : State → β), (∀ a q s, p (setQ a q s) = p s) → (∀ k g s, p (setSv k g s) = p s) →
      (∀ a b c s, p (raiseNow a b c s) = p s) → p (svPublish n s) = p s := by
    intro β p hq hs hr
    refine foldl_keeps p (fun s k => ?_) _ s
    dsimp only
    split
    · rw [foldl_keeps p fun s a => hq .., hs]
    · rw [foldl_keeps p fun s a => hr .., foldl_keeps p fun s a => hq .., hs]
  exact ⟨hstep calm (by intros; rfl) (by intros; rfl) (by intros; rfl),
    hstep (fun s => s.img.val) (by intros; rfl) (by intros; rfl) (by intros; rfl)⟩

theorem calm_putBuffer (buf : Tbl (Option Word)) (s : State) : calm (putBuffer buf s) = calm s := by
  have hflags : ∀ f g s, calm (flagEvents f g s) = calm s := by
    intro f g s
    refine foldl_keeps calm (fun s k => ?_) _ s
    (repeat' split) <;> rfl
  unfold putBuffer
  dsimp only
  rw [hflags]
  refine foldl_keeps calm (fun s p => ?_) _ s
  unfold putPoint
  (repeat' split) <;> rfl

theorem imgVal_putBuffer {a : Nat} {x : Word} (h7 : spaceOf a ≠ 7) {buf : Tbl (Option Word)} (h : Shows a x buf) (s : State) :
    imgVal (putBuffer buf s) a = x := by
  have hflags : ∀ f g s, (flagEvents f g s).img = s.img := by
    intro f g s
    refine foldl_keeps State.img (fun s k => ?_) _ s
    (repeat' split) <;> rfl
  unfold putBuffer imgVal
  dsimp only
  rw [hflags]
  exact putPoints_val h7 h.2 (.inl h.1)

theorem calm_transfer (s : State) (a : Nat) : calm (transfer s a) = calm s := by
  have hcmd : ∀ i (s : State), calm (sendCmd i s) = calm s := by
    intro i s
    unfold sendCmd
    (repeat' split) <;> rfl
  unfold transfer
  dsimp only
  (repeat' split) <;> (try rw [hcmd]) <;> rfl

theorem calm_gooseOnPublish (s : State) : calm (gooseOnPublish s) = calm s := by
  refine foldl_keeps calm (fun s k => ?_) _ s
  have hpair : ∀ r (s : State), calm (pairSend r s) = calm s := by
    intro r s
    unfold pairSend
    split <;> rfl
  have hgoose : ∀ k (s : State), calm (sendGoose k s) = calm s := fun _ _ => (hpair _ _).trans rfl
  have hsend : ∀ k (s : State), calm (newGooseState k s) = calm s := fun _ _ => (hgoose _ _).trans rfl
  unfold pubAtPublish
  dsimp only
  (repeat' split) <;> (try rw [hsend]) <;> rfl

theorem calm_journalAdd (e : JrnEnt) (s : State) : calm (journalAdd e s) = calm s := by
  unfold journalAdd
  dsimp only
  split <;> rfl

theorem calm_mirrorData (keys : List Nat) (s : State) : calm (mirrorData keys s) = calm s :=
  foldl_keeps calm (by intros; rfl) _ _

/-! ### The publish -/

theorem mslRun_none {s : State} (h : (prog s).spb = none) (n : Nat) (buf : Tbl (Option Word)) : mslRun n buf s = (buf, s) := by
  simp [mslRun, spb, h]

theorem blockReleases_none {s : State} (h : (prog s).spb = none) (d : TaskDecl) (buf : Tbl (Option Word)) :
    blockReleases d buf s = buf := by
  simp [blockReleases, h]

theorem pairPublish_solo {s : State} (h : s.pair.role = .solo) (n scan : Nat) (crc : Word) (ret : List (Nat × Word)) :
    pairPublish n scan crc ret s = s := by
  simp [pairPublish, isKeeper, isApprentice, h]

/-- A boundary that nothing waits for counts SCAN on and keeps it. -/
theorem baseBoundary_quiet {s : State} (hb : s.scan.bnd = []) (hc : s.pair.commands = []) :
    baseBoundary s = { s with scan.scan := (s.scan.scan + 1) % 2 ^ 64, scan.atBoundary := true, scan.bnd := []
                              pair.commands := [], ldg.scanKept := (s.scan.scan + 1) % 2 ^ 64 } := by
  simp [baseBoundary, runDue, applyBnd, hb, hc]

theorem liftHold_none {s : State} (h : s.edit.epoch = none) : liftHold s = s := by
  unfold liftHold
  rw [h]

/-- The state of a task's publish before the boundary: the buffer is in the image and the task's cycle is over. -/
def Published (n : Nat) (u v : State) : Prop :=
  (∃ now, v.task n = afterPublish now (u.task n)) ∧ v.scan.scan = u.scan.scan ∧ v.scan.bnd = u.scan.bnd
    ∧ v.edit.epoch = u.edit.epoch ∧ v.pair.role = u.pair.role ∧ v.pair.commands = u.pair.commands
    ∧ ∀ a x, spaceOf a ≠ 7 → (u.task n).buf = [(a, some x)] → imgVal v a = x

/-- The end of a publish: the boundary of BASE, the task's next release and the dispatch. -/
def publishEnd (n : Nat) (v : State) : State :=
  dispatch (liftHold (afterRelease n (if n = 0 then baseBoundary v else v)))

theorem publishCycle_solo {u : State} {n : Nat} (d : TaskDecl) (hspb : (prog u).spb = none) (hr : u.pair.role = .solo) :
    ∃ v, publishCycle n d u = publishEnd n v ∧ Published n u v := by
  obtain ⟨s1, hs1⟩ : ∃ s1, s1 = svPublish n u := ⟨_, rfl⟩
  obtain ⟨buf, hbuf⟩ : ∃ buf, buf = svResults n (u.task n).buf u := ⟨_, rfl⟩
  obtain ⟨s2, hs2⟩ : ∃ s2, s2 = putBuffer buf s1 := ⟨_, rfl⟩
  obtain ⟨s3, hs3⟩ : ∃ s3, s3 = (addrsOf d.outputs).foldl transfer (mirrorData (s2.task n).dirty s2) := ⟨_, rfl⟩
  obtain ⟨e, he⟩ : ∃ e : JrnEnt, e = { scan := u.scan.scan, task := n, epoch := (u.task n).epoch
                                       pairs := retentiveWords s2 n (changedWords s1 buf), committed := true } := ⟨_, rfl⟩
  obtain ⟨s4, hs4⟩ : ∃ s4, s4 = if (retentiveWords s2 n (changedWords s1 buf)).isEmpty then s3 else journalAdd e s3 := ⟨_, rfl⟩
  obtain ⟨s5, hs5⟩ : ∃ s5, s5 = gooseOnPublish (s4.setTask n (afterPublish s4.time.mono (s4.task n))) := ⟨_, rfl⟩
  have hcalm2 : calm s2 = calm u := by
    rw [hs2, calm_putBuffer, hs1]
    exact (calm_svPublish n u).1
  have hcalm3 : calm s3 = calm u := by
    rw [hs3, foldl_keeps calm calm_transfer, calm_mirrorData, hcalm2]
  have hcalm4 : calm s4 = calm u := by
    rw [hs4]
    split
    · exact hcalm3
    · rw [calm_journalAdd, hcalm3]
  have hcalm5 : calm s5 = calm (s4.setTask n (afterPublish s4.time.mono (s4.task n))) := by
    rw [hs5, calm_gooseOnPublish]
  have himg5 : s5.img = s2.img := by
    have h3 : s3.img = s2.img := by rw [hs3, foldl_keeps State.img (by simp), (mirrorData_frame ..).1]
    have h4 : s4.img = s3.img := by
      rw [hs4]
      split
      · rfl
      · exact (journalAdd_frame ..).1
    rw [hs5, (gooseOnPublish_frame _).1, State.setTask_img, h4, h3]
  simp only [calm, Prod.mk.injEq] at hcalm4 hcalm5
  obtain ⟨htasks4, hscan4, hbnd4, hepoch4, hrole4, hcmd4, hps4⟩ := hcalm4
  obtain ⟨htasks5, hscan5, hbnd5, hepoch5, hrole5, hcmd5, -⟩ := hcalm5
  have hps1 : s1.ps = u.ps := by
    have := (calm_svPublish n u).1
    simp only [calm, Prod.mk.injEq] at this
    rw [hs1]
    exact this.2.2.2.2.2.2
  refine ⟨s5, ?_, ?_, ?_, ?_, ?_, ?_, ?_, ?_⟩
  · have hrole : s5.pair.role = .solo := by rw [hrole5, ← hr, ← hrole4]; rfl
    unfold publishCycle
    dsimp only
    rw [mslRun_none hspb]
    dsimp only
    rw [← hs1, ← hbuf, blockReleases_none (by rw [← hspb, prog, prog, hps1]), ← hs2, ← hs3, ← he, ← hs4, ← hs5,
      pairPublish_solo hrole]
    rfl
  · refine ⟨s4.time.mono, ?_⟩
    have h4 : s4.task n = u.task n := by rw [State.task, htasks4, ← State.task]
    rw [State.task, htasks5, ← State.task, task_setTask, if_pos rfl, h4]
  · rw [hscan5, ← hscan4]; rfl
  · rw [hbnd5, ← hbnd4]; rfl
  · rw [hepoch5, ← hepoch4]; rfl
  · rw [hrole5, ← hrole4]; rfl
  · rw [hcmd5, ← hcmd4]; rfl
  · intro a x h7 hb
    have hshows : Shows a x buf := by
      rw [hbuf, hb]
      exact Shows.svResults ⟨by simp, by simp⟩ n u
    rw [imgVal, himg5, hs2]
    exact imgVal_putBuffer h7 hshows s1

theorem publishEnd_solo {v : State} (hr : v.pair.role = .solo) (he : v.edit.epoch = none) (hb : v.scan.bnd = [])
    (hc : v.pair.commands = []) (n : Nat) :
    SameCycle v (publishEnd n v) ∧ (publishEnd n v).img = v.img
      ∧ (publishEnd n v).scan.scan = (if n = 0 then (v.scan.scan + 1) % 2 ^ 64 else v.scan.scan)
      ∧ (n = 0 → (publishEnd n v).scan.atBoundary = true ∧ (publishEnd n v).ldg.scanKept = (v.scan.scan + 1) % 2 ^ 64) := by
  obtain ⟨w, hw⟩ : ∃ w, w = if n = 0 then baseBoundary v else v := ⟨_, rfl⟩
  have hface : w.pair.role = .solo ∧ w.edit.epoch = none ∧ w.img = v.img ∧ w.scan.tasks = v.scan.tasks
      ∧ w.scan.scan = (if n = 0 then (v.scan.scan + 1) % 2 ^ 64 else v.scan.scan)
      ∧ (n = 0 → w.scan.atBoundary = true ∧ w.ldg.scanKept = (v.scan.scan + 1) % 2 ^ 64) := by
    rw [hw]
    by_cases hn : n = 0
    · rw [if_pos hn, if_pos hn, baseBoundary_quiet hb hc]
      exact ⟨hr, he, rfl, rfl, rfl, fun _ => ⟨rfl, rfl⟩⟩
    · rw [if_neg hn, if_neg hn]
      exact ⟨hr, he, rfl, rfl, rfl, fun h => absurd h hn⟩
  obtain ⟨hrole, hepoch, himg, htasks, hscan, hbase⟩ := hface
  have hrel : afterRelease n w = if mayRelease w n then releaseNext n w else w := by
    unfold afterRelease
    rw [isApprentice_eq_false (by simp [hrole])]
    rfl
  obtain ⟨x, hx⟩ : ∃ x, x = afterRelease n w := ⟨_, rfl⟩
  have hx' : SameCycle w x ∧ x.img = w.img ∧ scanFace x = scanFace w ∧ x.ldg = w.ldg ∧ x.edit = w.edit := by
    rw [hx, hrel]
    split
    · exact ⟨sameCycle_releaseNext n w, by simp, by simp, by simp, by simp⟩
    · exact ⟨.refl w, rfl, rfl, rfl, rfl⟩
  obtain ⟨hcycle, himgx, hfacex, hldgx, heditx⟩ := hx'
  have hend : publishEnd n v = dispatch x := by
    unfold publishEnd
    rw [← hw, ← hx, liftHold_none (by rw [heditx, hepoch])]
  have hvw : SameCycle v w := fun m => by
    rw [show w.task m = v.task m by rw [State.task, htasks, ← State.task]]
    exact ⟨rfl, rfl, rfl, .inl rfl⟩
  have hface' : scanFace (dispatch x) = scanFace w := (scanFace_dispatch x).trans hfacex
  simp only [scanFace, Prod.mk.injEq] at hface'
  obtain ⟨hscan', hbound', -⟩ := hface'
  rw [hend]
  refine ⟨(hvw.trans hcycle).trans (sameCycle_dispatch x), ?_, by rw [hscan', hscan], fun hn => ?_⟩
  · rw [(dispatch_frame x).1, himgx, himg]
  · have hldg : (dispatch x).ldg = w.ldg := by simp [hldgx]
    rw [hbound', hldg]
    exact hbase hn

/-! ### The overrun -/

theorem task_release_other {n m : Nat} (h : m ≠ n) (c : Cause) (s : State) : (release n c s).task m = s.task m := by
  unfold release startRelease
  dsimp only
  (repeat' split) <;> simp [task_setTask, h]

theorem task_releaseOwn_other {n m : Nat} (h : m ≠ n) (c : Cause) (s : State) : (releaseOwn n c s).task m = s.task m := by
  unfold releaseOwn
  split
  · exact task_release_other h c s
  · rfl

theorem baseOverrun_found {s : State} (hs : (s.task 0).state = .running) (ho : (s.task 0).overrun = false)
    (hm : baseMaxUs s ≤ (s.time.mono - (s.task 0).releasedAt) / 1000) :
    ((baseOverrun s).task 0).overrun = true ∧ ((baseOverrun s).task 0).state = .running
      ∧ (baseOverrun s).scan.overruns = (s.scan.overruns + 1) % 2 ^ 32 ∧ (baseOverrun s).img = s.img := by
  have hq : ¬((s.task 0).state ≠ .running ∨ (s.task 0).overrun ∨ (s.time.mono - (s.task 0).releasedAt) / 1000 < baseMaxUs s) := by
    simp [hs, ho, hm]
  unfold baseOverrun
  dsimp only
  rw [if_neg hq]
  generalize hx : logFault _ _ _ _ _ _ = x
  have hface : scanFace (releaseOwn 49 {} x) = scanFace x := scanFace_releaseOwn 49 {} x
  simp only [scanFace, Prod.mk.injEq] at hface
  obtain ⟨-, -, -, -, -, hover⟩ := hface
  have htask : x.task 0 = { s.task 0 with overrun := true } := by
    rw [← hx]
    exact (task_setTask s 0 0 _).trans (if_pos rfl)
  rw [task_releaseOwn_other (by norm_num), htask, hover, ← hx]
  exact ⟨rfl, hs, rfl, (by simp)⟩

/-! ### The resume after a retirement -/

theorem rejoin_keeps (s : State) :
    (rejoin s).power.threeRegion = s.power.threeRegion ∧ (rejoin s).power.remapPending = s.power.remapPending
      ∧ (rejoin s).sup.tallyOn = s.sup.tallyOn ∧ (rejoin s).scan = s.scan := by
  unfold rejoin outOfStep
  split
  · exact ⟨rfl, rfl, rfl, rfl⟩
  · (repeat' split) <;> simp [logFault]

theorem remapTiming_keeps (s : State) :
    (remapTiming s).power = s.power ∧ (remapTiming s).sup.tallyOn = s.sup.tallyOn ∧ (remapTiming s).scan = s.scan := by
  unfold remapTiming
  split <;> exact ⟨rfl, rfl, rfl⟩

theorem newPeriod_keeps (s : State) :
    (newPeriod s).power = s.power ∧ (newPeriod s).sup.tallyOn = s.sup.tallyOn ∧ (newPeriod s).scan = s.scan := by
  unfold newPeriod
  dsimp only
  split <;> exact ⟨rfl, rfl, rfl⟩

theorem remapResume_resumes {s : State} (hp : s.power.remapPending = true) (hf : s.power.failed = false) :
    (remapResume s).power.threeRegion = true ∧ (remapResume s).power.remapPending = false ∧ (remapResume s).sup.tallyOn = true
      ∧ (s.ps.prog.isSome = true → (remapResume s).scan.sx12 = false)
      ∧ (s.ps.prog.isSome = true → s.scan.mode = 2 → (remapResume s).scan.scan = (s.ldg.scanKept + 1) % 2 ^ 64) := by
  unfold remapResume
  rw [hp, hf, if_neg (by decide)]
  dsimp only
  split
  next hn =>
    obtain ⟨hpower, htally, -⟩ := newPeriod_keeps { s with power.threeRegion := true, power.remapPending := false, sup.tallyOn := true }
    rw [hpower, htally]
    exact ⟨rfl, rfl, rfl, fun h => by simp [Option.isNone_iff_eq_none.mp hn] at h,
      fun h => by simp [Option.isNone_iff_eq_none.mp hn] at h⟩
  next =>
    obtain ⟨s1, hs1⟩ : ∃ s1 : State, s1 = { s with power.threeRegion := true, power.remapPending := false } := ⟨_, rfl⟩
    obtain ⟨s2, hs2⟩ : ∃ s2, s2 = tasksAfterRemap (moveInstances s.power.threeRegion s.scan.mirror (loadRegions s1)) := ⟨_, rfl⟩
    have hface2 : scanFace s2 = scanFace s1 := by
      rw [hs2, scanFace_tasksAfterRemap, scanFace_moveInstances, scanFace_loadRegions]
    have hpower2 : s2.power = s1.power := by
      rw [hs2, (tasksAfterRemap_frame _).1, (moveInstances_keeps ..).1, (loadRegions_frame _).1]
    have hldg2 : s2.ldg = s1.ldg := by
      rw [hs2, (tasksAfterRemap_frame _).2, (moveInstances_keeps ..).2, (loadRegions_frame _).2]
    obtain ⟨q, hq⟩ : ∃ q : State, q = { s2 with
      scan.sx12 := false, scan.stopPending := false, sup.tallyOn := true
      scan.scan := if s2.scan.mode = 2 then (s2.ldg.scanKept + 1) % 2 ^ 64 else s2.scan.scan } := ⟨_, rfl⟩
    obtain ⟨s3, hs3⟩ : ∃ s3, s3 = newPeriod (rejoin (remapTiming q)) := ⟨_, rfl⟩
    rw [← hs1, ← hs2, ← hq, ← hs3]
    obtain ⟨hthree, hpend, htally, hscan⟩ : s3.power.threeRegion = q.power.threeRegion
        ∧ s3.power.remapPending = q.power.remapPending ∧ s3.sup.tallyOn = q.sup.tallyOn ∧ s3.scan = q.scan := by
      obtain ⟨r1, r2, r3, r4⟩ := rejoin_keeps (remapTiming q)
      obtain ⟨t1, t2, t3⟩ := remapTiming_keeps q
      obtain ⟨p1, p2, p3⟩ := newPeriod_keeps (rejoin (remapTiming q))
      rw [hs3, p1, p2, p3, r1, r2, r3, r4, t1, t2, t3]
      exact ⟨rfl, rfl, rfl, rfl⟩
    have hface : scanFace (dispatch (releaseOwn 0 {} s3)) = scanFace q := by
      rw [scanFace_dispatch, scanFace_releaseOwn, scanFace, hscan]
      rfl
    have hpower : (dispatch (releaseOwn 0 {} s3)).power = s3.power := by simp
    have hsup : (dispatch (releaseOwn 0 {} s3)).sup = s3.sup := by simp
    simp only [scanFace, Prod.mk.injEq] at hface hface2
    obtain ⟨hcount, -, hsx, -⟩ := hface
    obtain ⟨-, -, -, -, hmode, -⟩ := hface2
    rw [hpower, hsup, hcount, hsx, hthree, hpend, htally, hq]
    refine ⟨?_, ?_, rfl, fun _ => rfl, fun _ hm => ?_⟩
    · rw [show s2.power.threeRegion = s1.power.threeRegion by rw [hpower2], hs1]
    · rw [show s2.power.remapPending = s1.power.remapPending by rw [hpower2], hs1]
    · dsimp only
      rw [hmode, hs1, if_pos hm, hldg2, hs1]

end Sys2Proof.Machine

open Sys2Proof Sys2Proof.Machine

/-- Settles O32: the grid's release (`periodicRelease_due`), the snapshot point by point (`snapPoints_holds`), the next phase
(`beginPhase_begun`), the publish up to the boundary (`publishCycle_solo`) and after it (`publishEnd_solo`), the overrun and the
resume. -/
theorem taskCycleEvents : Obligations.TaskCycleEvents := by
  intro s t n d u
  refine ⟨?_, ?_, ?_, ?_, ?_, ?_⟩
  · intro hd hp hm ht
    have hdue := periodicRelease_due (s := u) (n := n) (d := d) (by simpa [u] using hd) hp (by simpa [u] using hm)
      (by simpa [u] using ht)
    have htask : u.task n = s.task n := by simp [u]
    have hpower : u.power = s.power := by simp [u]
    refine ⟨fun hh => ?_, fun hh hmay hr hi hheld hsw => ?_⟩
    · refine congrArg Host.Outcome.next (hdue.trans ?_)
      rw [← htask, ← hpower]
      exact if_pos (hpower ▸ hh)
    · refine congrArg Host.Outcome.next (hdue.trans ((if_neg ?_).trans ?_))
      · exact fun h => absurd (hpower ▸ hh : u.power.releaseHold = false) (by rw [show u.power.releaseHold = true from h]; decide)
      · obtain ⟨v, hv⟩ : ∃ v, v = u.setTask n { u.task n with nextK := (u.task n).nextK + 1 } := ⟨_, rfl⟩
        have hvt : v.task n = { u.task n with nextK := (u.task n).nextK + 1 } := by rw [hv, task_setTask, if_pos rfl]
        have hvm : mayRelease v n = true := by
          have hvd : taskDecl v n = taskDecl u n := taskDecl_congr (by rw [hv]; rfl) (by rw [hv]; rfl) (by rw [hvt]) (by rw [hvt])
          have hum : mayRelease u n = true := by simpa [u] using hmay
          rw [← hum, mayRelease, mayRelease, hvd, hv]
          rfl
        rw [← hv, releaseOwn_idle hvm (by rw [hv]; simpa [u] using hr) (by rw [hvt, htask]; exact hi) (by rw [hvt, htask]; exact hheld)
          (by rw [hv, ← hsw, ← switchDue_advance t s]; rfl) {}, startRelease]
        dsimp only
        rw [hvt, hv, setTask_setTask (fun h => absurd (congrArg TaskRt.nextK h) (by simp))
          (fun h => absurd (congrArg TaskRt.state h) (by simp)), ← htask]
        simp [u]
  · intro hn hmay hd hr hs hsv hm
    have hn' : n.val ≠ 0 := fun h => hn (Fin.ext h)
    have hmay' : maySnapshot n u = true := by simpa [u] using hmay
    have hst : (u.task n).state = .released := by
      simp only [maySnapshot, Bool.and_eq_true, decide_eq_true_eq] at hmay'
      exact hmay'.1.1.1
    obtain ⟨l, hl, himg, hfld⟩ := startCycle_solo (s := u) (n := n) (d := d) (by simpa [u] using hd) hst hn' (by simpa [u] using hr)
      (by simpa [u] using hs) (by simpa [u] using hsv) (by simpa [u] using hm)
    obtain ⟨htai, hmono, -, -⟩ := snapped_kept n d u
    refine ⟨_, congrArg Host.Outcome.next (snapshotComplete_starts hn' hmay' (by simpa [u] using hd)), ?_⟩
    rw [hl, himg, hfld]
    refine ⟨rfl, rfl, rfl, htai, hmono, by simp [u], by simp [u], fun a ha h7 hc => ?_⟩
    simpa [u] using snapped_holds n d u ha h7 (by simpa [u] using hc)
  · intro b hd hb hp
    obtain ⟨l, hl, himg, -⟩ := beginPhase_begun (s := u) (n := n) (d := d) (by simpa [u] using hd) ((u.task n).phase + 1)
    refine ⟨_, congrArg Host.Outcome.next
      (barrierRelease_opens (s := u) (by simpa [u] using hd) (by simpa [u] using hb) (by simpa [u] using hp)), ?_⟩
    rw [hl, himg]
    exact ⟨by simp [u], rfl, rfl, by simp [u]⟩
  · intro hd hdone hspb he hr hb hc
    obtain ⟨v, hv, ⟨now, htask⟩, hscan, hbnd, hepoch, hrole, hcmd, himg⟩ :=
      publishCycle_solo (u := u) (n := n) d (by simpa [u] using hspb) (by simpa [u] using hr)
    obtain ⟨hcycle, himg', hscan', hbase⟩ := publishEnd_solo (v := v) (hrole.trans (by simpa [u] using hr))
      (hepoch.trans (by simpa [u] using he)) (hbnd.trans (by simpa [u] using hb)) (hcmd.trans (by simpa [u] using hc)) n
    obtain ⟨hcycles, hbuf, -, hstate⟩ := hcycle n
    have hexec : exec (.taskPublish t n) s = .next (publishEnd n v) := by
      refine congrArg Host.Outcome.next (Eq.trans ?_ hv)
      unfold taskPublish
      rw [show taskDecl u n = some d by simpa [u] using hd]
      exact if_pos (by simpa [u] using hdone)
    have hn : n = 0 ↔ n.val = 0 := Fin.ext_iff
    rw [htask] at hcycles hbuf hstate
    refine ⟨_, hexec, ?_, ?_, hbuf, ?_, fun h0 => ?_, fun a x h3 hx => ?_⟩
    · rw [hcycles]
      simp [afterPublish, noCycle, u]
    · obtain h | h := hstate <;> rw [h] <;> simp [afterPublish, noCycle]
    · rw [hscan', hscan, show u.scan.scan = s.scan.scan by simp [u]]
      simp only [hn]
    · obtain ⟨h1, h2⟩ := hbase (hn.mp h0)
      exact ⟨h1, by rw [h2, hscan]; simp [u]⟩
    · rw [imgVal, himg']
      exact himg a x (by rw [h3]; decide) (by simpa [u] using hx)
  · intro hs ho hm
    obtain ⟨h1, h2, h3, h4⟩ := baseOverrun_found (s := u) (by simpa [u] using hs) (by simpa [u] using ho) (by simpa [u] using hm)
    exact ⟨_, rfl, h1, h2, by rw [h3]; simp [u], by rw [h4]; simp [u]⟩
  · intro hp hf
    have := remapResume_resumes (s := u) (by simpa [u] using hp) (by simpa [u] using hf)
    exact ⟨_, rfl, by simpa [u] using this⟩
end

section
/-! PROOFS. The time sources, holdover, PPS_OUT (R97, R99-R106, R112, R113, R116, R120). -/

namespace Sys2Proof.Machine

@[simp] theorem raiseNow_clk (src kind : Nat) (data : Word) (s : State) :
    (raiseNow src kind data s).clk = s.clk := by simp [raiseNow]

@[simp] theorem learnAnew_clk_img (s : State) :
    (learnAnew s).clk = s.clk ∧ (learnAnew s).img = s.img := by simp [learnAnew]

@[simp] theorem setTimeState_clk_img (st active : Nat) (s : State) :
    (setTimeState st active s).clk = s.clk ∧ (setTimeState st active s).img = s.img := by
  unfold setTimeState
  dsimp only
  and_intros <;> (repeat' split) <;> simp

@[simp] theorem loseLock_clk_img (s : State) :
    (loseLock s).clk = s.clk ∧ (loseLock s).img = s.img := by simp [loseLock]

@[simp] theorem reselect_frame (s : State) :
    (reselect s).clk = s.clk ∧ (reselect s).img = s.img ∧ (reselect s).host = s.host := by
  unfold reselect
  dsimp only
  and_intros <;> (repeat' split) <;> simp

/-! ### What a choice of source leaves of the timebase -/

/-- The timebase without what a choice of source sets. -/
def chosenAside (t : Timebase) : Timebase :=
  { t with state := 0, active := 0, ppsHighUntil := none, qualityBefore := 0#8, lostAt := 0, setAt := 0 }

/-- The timebase without what a measurement may correct. -/
def correctedAside (t : Timebase) : Timebase :=
  { chosenAside t with tai := 0, mono := 0, slew := 0, steps := 0, lastStep := 0, freqPpb := 0, offset := 0 }

theorem setTimeState_time (st active : Nat) (s : State) :
    (setTimeState st active s).time.state = st ∧ (setTimeState st active s).time.active = active
      ∧ (setTimeState st active s).time.lostAt = s.time.lostAt
      ∧ chosenAside (setTimeState st active s).time = chosenAside s.time := by
  unfold setTimeState
  split
  next h => exact ⟨h.1, h.2, rfl, rfl⟩
  next =>
    dsimp only
    split <;> exact ⟨rfl, rfl, rfl, rfl⟩

theorem chosenAside_reselect (s : State) : chosenAside (reselect s).time = chosenAside s.time := by
  unfold reselect
  split
  · exact (setTimeState_time ..).2.2.2
  · (repeat' split)
    · exact (setTimeState_time ..).2.2.2
    · exact (setTimeState_time ..).2.2.2
    · exact (setTimeState_time ..).2.2.2
    · rfl

/-- A listed source that is LOCKED, with none before it, is used. -/
theorem reselect_locks {s : State} {k : Nat} {r : List Nat} (hl : s.time.list = k :: r) (hk : k ≠ 0)
    (hs : (timeSrc s k).locked = true) : (reselect s).time.state = 2 ∧ (reselect s).time.active = k := by
  obtain ⟨h1, h2, -⟩ := setTimeState_time 2 k s
  unfold reselect
  rw [show s.time.list.find? (fun k => k ≠ 0 && (timeSrc s k).locked) = some k by simp [hl, hk, hs]]
  exact ⟨h1, h2⟩

/-- With its only source lost the timebase holds over (R105). -/
theorem reselect_loses {s : State} {k : Nat} (hl : s.time.list = [k]) (hs : (timeSrc s k).locked = false) (hst : s.time.state = 2) :
    (reselect s).time.state = 3 ∧ (reselect s).time.active = 0 ∧ (reselect s).time.lostAt = s.now := by
  unfold reselect
  rw [show s.time.list.find? (fun k => k ≠ 0 && (timeSrc s k).locked) = none by simp [hl, hs]]
  dsimp only
  rw [if_pos hst]
  unfold loseLock
  obtain ⟨h1, h2, h3, -⟩ := setTimeState_time 3 0 { s with
    time.qualityBefore := quality0 s, time.lostAt := s.now, time.setAt := s.time.tai }
  exact ⟨h1, h2, h3⟩

theorem reselect_cal (s : State) : ∃ a lo hi, (reselect s).cal = { s.cal with learnAt := a, learnLo := lo, learnHi := hi } := by
  have hset : ∀ st active (s : State), ∃ a lo hi,
      (setTimeState st active s).cal = { s.cal with learnAt := a, learnLo := lo, learnHi := hi } := by
    intro st active s
    unfold setTimeState
    split
    · exact ⟨s.cal.learnAt, s.cal.learnLo, s.cal.learnHi, rfl⟩
    · dsimp only
      split
      · exact ⟨s.now, s.cal.temp, s.cal.temp, rfl⟩
      · exact ⟨s.cal.learnAt, s.cal.learnLo, s.cal.learnHi, rfl⟩
  unfold reselect
  split
  · exact hset ..
  · (repeat' split)
    · exact hset ..
    · exact hset ..
    · exact hset ..
    · exact ⟨s.cal.learnAt, s.cal.learnLo, s.cal.learnHi, rfl⟩

/-! ### A measurement -/

/-- The source's own record of a measurement (R99, R120). -/
def measured (k : Nat) (offset : Int) (s : State) : State :=
  let r := timeSrc s k
  let good := if offset.natAbs ≤ 250 then min 10 (r.good + 1) else 0
  let bad := if 10000 < offset.natAbs then min 3 (r.bad + 1) else 0
  let locked := if r.locked then decide (bad < 3) else decide (10 ≤ good)
  setTimeSrc k { good := if r.locked && !locked then 0 else good, bad := bad, locked := locked, last := s.now }
    { s with time.timeLost := s.time.timeLost && !(decide (k = 1) && locked && !r.locked) }

/-- The correction of the timebase by the source that steers it. -/
def steered (k : Nat) (offset ppb : Int) (s : State) : State :=
  if steers s k then correct offset ppb { s with time.offset := clampI (-(2 ^ 31 - 1)) (2 ^ 31 - 1) offset } else s

theorem takeOffset_eq (k : Nat) (offset ppb : Int) (s : State) :
    takeOffset k offset ppb s = reselect (steered k offset ppb (measured k offset s)) := rfl

theorem timeSrc_setTimeSrc (k : Nat) (v : TimeSrc) (s : State) : timeSrc (setTimeSrc k v s) k = v :=
  (Tbl.get_set ..).trans (if_pos rfl)

theorem timeSrc_measured (k : Nat) (offset : Int) (s : State) : (timeSrc (measured k offset s) k).last = s.now := by
  unfold measured
  rw [timeSrc_setTimeSrc]

theorem timeSrc_congr {s v : State} (h : correctedAside v.time = correctedAside s.time) (k : Nat) : timeSrc v k = timeSrc s k :=
  congrArg (fun t => t.src.get {} k) h

theorem toMicro_now (s : State) : s.now ≤ (toMicro s).now ∧ (toMicro s).now < s.now + 1000 := by
  have : (1000 - s.time.mono % 1000) % 1000 < 1000 := Nat.mod_lt _ (by norm_num)
  exact ⟨Nat.le_add_right .., Nat.add_lt_add_left this _⟩

/-- A correction leaves the choice of the source, and takes less than 1 µs. -/
theorem correct_keeps (offset ppb : Int) (s : State) :
    correctedAside (correct offset ppb s).time = correctedAside s.time
      ∧ (correct offset ppb s).time.state = s.time.state ∧ (correct offset ppb s).time.active = s.time.active
      ∧ s.now ≤ (correct offset ppb s).now ∧ (correct offset ppb s).now < s.now + 1000 := by
  unfold correct
  split
  · exact ⟨rfl, rfl, rfl, le_refl s.now, Nat.lt_add_of_pos_right (by norm_num)⟩
  · obtain ⟨h1, h2⟩ := toMicro_now { s with time.freqPpb := rateOf ppb }
    unfold stepBy
    simp only [checkToken_time, enterRecord_frame, checkToken_frame]
    exact ⟨rfl, rfl, rfl, h1, h2⟩

theorem steered_keeps (k : Nat) (offset ppb : Int) (s : State) :
    correctedAside (steered k offset ppb s).time = correctedAside s.time
      ∧ (steered k offset ppb s).time.state = s.time.state ∧ (steered k offset ppb s).time.active = s.time.active
      ∧ s.now ≤ (steered k offset ppb s).now ∧ (steered k offset ppb s).now < s.now + 1000 := by
  unfold steered
  split
  · exact correct_keeps offset ppb { s with time.offset := clampI (-(2 ^ 31 - 1)) (2 ^ 31 - 1) offset }
  · exact ⟨rfl, rfl, rfl, le_refl s.now, Nat.lt_add_of_pos_right (by norm_num)⟩

theorem correctedAside_reselect (s : State) : correctedAside (reselect s).time = correctedAside s.time :=
  congrArg (fun t : Timebase => { t with tai := 0, mono := 0, slew := 0, steps := 0, lastStep := 0, freqPpb := 0, offset := 0 })
    (chosenAside_reselect s)

theorem correctedAside_takeOffset (k : Nat) (offset ppb : Int) (s : State) :
    correctedAside (takeOffset k offset ppb s).time = correctedAside (measured k offset s).time := by
  rw [takeOffset_eq, correctedAside_reselect, (steered_keeps ..).1]

theorem timeSrc_takeOffset (k : Nat) (offset ppb : Int) (s : State) : (timeSrc (takeOffset k offset ppb s) k).last = s.now := by
  rw [timeSrc_congr (correctedAside_takeOffset ..), timeSrc_measured]

/-- The tenth offset in a row within ±250 ns locks a source. -/
theorem measured_tenth {s : State} {offset : Int} {l : Nat} (ho : offset.natAbs ≤ 250) (hs : timeSrc s 1 = { good := 9, last := l }) :
    measured 1 offset s = setTimeSrc 1 { good := 10, bad := 0, locked := true, last := s.now } { s with time.timeLost := false } := by
  unfold measured
  rw [hs]
  simp [ho, show ¬ 10000 < offset.natAbs by omega]

/-- The third offset in a row beyond ±10 µs loses it. -/
theorem measured_third {s : State} {offset : Int} {k l : Nat} (ho : 10000 < offset.natAbs)
    (hs : timeSrc s k = { good := 10, bad := 2, locked := true, last := l }) :
    measured k offset s = setTimeSrc k { good := 0, bad := 3, locked := false, last := s.now }
      { s with time.timeLost := s.time.timeLost && true } := by
  unfold measured
  rw [hs]
  simp [ho]

theorem takeOffset_locks {s : State} {offset : Int} {l : Nat} {r : List Nat} (ho : offset.natAbs ≤ 250)
    (hl : s.time.list = 1 :: r) (hs : timeSrc s 1 = { good := 9, last := l }) (hst : s.time.state ≠ 2) (hstep : 1 ≤ s.time.stepUs)
    (ppb : Int) :
    (takeOffset 1 offset ppb s).time.state = 2 ∧ (takeOffset 1 offset ppb s).time.active = 1
      ∧ (timeSrc (takeOffset 1 offset ppb s) 1).locked = true ∧ (takeOffset 1 offset ppb s).time.timeLost = false
      ∧ (takeOffset 1 offset ppb s).time.gm = s.time.gm ∧ (takeOffset 1 offset ppb s).time.tai = s.time.tai
      ∧ (s.time.state ≠ 3 → (takeOffset 1 offset ppb s).time.slew = -offset ∧ (takeOffset 1 offset ppb s).time.offset = offset) := by
  obtain ⟨m, hm⟩ : ∃ m, m = measured 1 offset s := ⟨_, rfl⟩
  have hm' := hm.trans (measured_tenth ho hs)
  have hsrc : timeSrc m 1 = { good := 10, bad := 0, locked := true, last := s.now } := by rw [hm', timeSrc_setTimeSrc]
  have hcorrect : ∀ w : State, w.time.stepUs = s.time.stepUs →
      correct offset ppb w = { w with time.slew := -offset, time.freqPpb := rateOf ppb } := fun w hw =>
    if_pos (by rw [hw]; omega)
  have hsteer : steers m 1 = decide (s.time.state ≠ 3) := by
    have hmeas : measuring m 1 = true := by
      unfold measuring
      rw [hsrc, hm']
      simp [setTimeSrc]
    have hfind : m.time.list.find? (measuring m) = some 1 := by
      rw [show m.time.list = 1 :: r by rw [hm']; exact hl]
      simp [hmeas]
    unfold steers
    rw [hfind, if_neg (by rw [hm']; exact hst), hm']
    by_cases h3 : s.time.state = 3 <;> simp [setTimeSrc, h3]
  have hclamp : clampI (-(2 ^ 31 - 1)) (2 ^ 31 - 1) offset = offset := by
    unfold clampI
    rw [show (2 : Int) ^ 31 - 1 = 2147483647 by norm_num]
    omega
  have hsteered : steered 1 offset ppb m =
      if s.time.state ≠ 3 then { m with time.offset := offset, time.slew := -offset, time.freqPpb := rateOf ppb } else m := by
    unfold steered
    rw [hsteer, hclamp, hcorrect _ (by rw [hm']; rfl)]
    simp
  obtain ⟨w, hw⟩ : ∃ w, w = steered 1 offset ppb m := ⟨_, rfl⟩
  have hkept : w.time.src = m.time.src ∧ w.time.list = s.time.list ∧ w.time.timeLost = false ∧ w.time.gm = s.time.gm
      ∧ w.time.tai = s.time.tai ∧ (s.time.state ≠ 3 → w.time.slew = -offset ∧ w.time.offset = offset) := by
    rw [hw, hsteered]
    split
    · exact ⟨rfl, by rw [hm']; rfl, by rw [hm']; rfl, by rw [hm']; rfl, by rw [hm']; rfl, fun _ => ⟨rfl, rfl⟩⟩
    next h => exact ⟨rfl, by rw [hm']; rfl, by rw [hm']; rfl, by rw [hm']; rfl, by rw [hm']; rfl, fun h' => absurd h' h⟩
  obtain ⟨hksrc, hklist, hklost, hkgm, hktai, hkslew⟩ := hkept
  have hwsrc : timeSrc w 1 = timeSrc m 1 := congrArg (fun t : Tbl TimeSrc => t.get {} 1) hksrc
  obtain ⟨h1, h2⟩ := reselect_locks (hklist.trans hl) (by norm_num) (by rw [hwsrc, hsrc])
  have hrest := chosenAside_reselect w
  rw [takeOffset_eq, ← hm, ← hw]
  refine ⟨h1, h2, ?_, (congrArg Timebase.timeLost hrest).trans hklost, (congrArg Timebase.gm hrest).trans hkgm,
    (congrArg Timebase.tai hrest).trans hktai, fun h3 => ?_⟩
  · rw [timeSrc_congr (correctedAside_reselect w), hwsrc, hsrc]
  · exact ⟨(congrArg Timebase.slew hrest).trans (hkslew h3).1, (congrArg Timebase.offset hrest).trans (hkslew h3).2⟩

theorem takeOffset_loses {s : State} {offset : Int} {k l : Nat} (ho : 10000 < offset.natAbs) (hl : s.time.list = [k])
    (hs : timeSrc s k = { good := 10, bad := 2, locked := true, last := l }) (hst : s.time.state = 2) (ppb : Int) :
    (takeOffset k offset ppb s).time.state = 3 ∧ (takeOffset k offset ppb s).time.active = 0
      ∧ (timeSrc (takeOffset k offset ppb s) k).locked = false
      ∧ s.now ≤ (takeOffset k offset ppb s).time.lostAt ∧ (takeOffset k offset ppb s).time.lostAt < s.now + 1000 := by
  obtain ⟨m, hm⟩ : ∃ m, m = measured k offset s := ⟨_, rfl⟩
  have hm' := hm.trans (measured_third ho hs)
  have hsrc : timeSrc m k = { good := 0, bad := 3, locked := false, last := s.now } := by rw [hm', timeSrc_setTimeSrc]
  obtain ⟨hkeep, hkst, -, hlo, hhi⟩ := steered_keeps k offset ppb m
  obtain ⟨w, hw⟩ : ∃ w, w = steered k offset ppb m := ⟨_, rfl⟩
  rw [← hw] at hkeep hkst hlo hhi
  have hmnow : m.now = s.now := by rw [hm']; rfl
  have hlist : w.time.list = [k] := (congrArg Timebase.list hkeep).trans (by rw [hm']; exact hl)
  have hwsrc : timeSrc w k = timeSrc m k := timeSrc_congr hkeep k
  obtain ⟨h1, h2, h3⟩ := reselect_loses hlist (by rw [hwsrc, hsrc]) (hkst.trans (by rw [hm']; exact hst))
  rw [takeOffset_eq, ← hm, ← hw, h3]
  refine ⟨h1, h2, ?_, hmnow ▸ hlo, hmnow ▸ hhi⟩
  rw [timeSrc_congr (correctedAside_reselect w), hwsrc, hsrc]

/-! ### Messages and edges -/

theorem mayMeasure_own {s : State} (hp : s.power.state = .run) (hf : s.power.service = .full) (hr : s.pair.role ≠ .station) {k : Nat}
    (hl : s.time.list.contains k = true) : mayMeasure s k = true := by
  unfold mayMeasure
  rw [hl]
  simp [fullService, isStation, hp, hf, hr]

/-- The count of the frames that an HSR port forwards. -/
def hsrCounted (s : State) : State :=
  if decide (s.net.mode = 2) && serving s && s.net.link = 3#2 then { s with net.hsrFwd := (s.net.hsrFwd + 1) % 2 ^ 32 } else s

theorem hsrCounted_keeps (s : State) : (hsrCounted s).time = s.time ∧ (hsrCounted s).now = s.now := by
  unfold hsrCounted
  split <;> exact ⟨rfl, rfl⟩

theorem bestMaster_congr {s v : State} (ht : v.time = s.time) (hn : v.now = s.now) : bestMaster v = bestMaster s := by
  unfold bestMaster
  rw [ht, hn]

theorem ptpFrame_heard {s : State} {m : PtpMsg} (hm : mayMeasure s 1 = true) (hp : s.time.portMask.getLsbD m.port = true)
    (hl : s.net.link.getLsbD m.port = true) (hd : m.domain.toNat = ptpDomain s) :
    (ptpFrame m s).time = (ptpBody m.src.toNat m.body (hsrCounted s)).time := by
  have h : ptpFrame m s = noteLeap s (ptpBody m.src.toNat m.body (hsrCounted s)) := by
    unfold ptpFrame
    dsimp only
    rw [if_neg (by rw [hm, hp, hl, hd]; simp)]
    rfl
  rw [h, (noteLeap_frame ..).2.1]

/-- A Sync of the master selected is measured, with that master's properties. -/
theorem ptpBody_sync {s : State} {id : Nat} {g : PtpMaster} (h : bestMaster s = some (id, g)) (o ppb : Int) :
    ptpBody id (.sync o ppb) s = takeOffset 1 o ppb
      { s with time.gm := g.gm, time.ptpUtc := g.utcOffset, time.leap61 := g.leap61, time.leap59 := g.leap59 } := by
  unfold ptpBody takeMaster
  rw [h]
  exact if_pos rfl

theorem ptpBody_other {s : State} {id : Nat} (h : (bestMaster s).map Prod.fst ≠ some id) (o ppb : Int) :
    ptpBody id (.sync o ppb) s = s :=
  if_neg h

/-- The dataset that an Announce gives of its master. -/
def masterOf (d : PtpAnnounce) (now : Nat) : PtpMaster :=
  { priority1 := d.priority1, clockClass := d.clockClass, accuracy := d.accuracy, variance := d.variance
    priority2 := d.priority2, gm := d.gm, steps := d.steps, utcOffset := d.utcOffset, leap61 := d.leap61
    leap59 := d.leap59, last := now }

/-- The only master heard is the one selected. -/
theorem ptpBody_announce {s : State} (h : s.time.masters = []) (id : Nat) (d : PtpAnnounce) (alt : Option Int) :
    ptpBody id (.announce d alt) s = { s with
      time.masters := [(id, some (masterOf d s.now))], time.altOffset := if alt.isSome then alt else s.time.altOffset
      time.gm := d.gm, time.ptpUtc := d.utcOffset, time.leap61 := d.leap61, time.leap59 := d.leap59 } := by
  obtain ⟨x, hx⟩ : ∃ x : State, x = { s with
    time.masters := [(id, some (masterOf d s.now))], time.altOffset := if alt.isSome then alt else s.time.altOffset } := ⟨_, rfl⟩
  have hbody : ptpBody id (.announce d alt) s = takeMaster x := by
    unfold ptpBody
    dsimp only
    rw [h, hx]
    rfl
  have hbest : bestMaster x = some (id, masterOf d s.now) := by
    rw [hx]
    unfold bestMaster
    simp [show (masterOf d s.now).last = s.now from rfl]
  rw [hbody, takeMaster, hbest, hx]
  rfl

theorem originEdge_serving {s : State} (h : serving s = true) (src kind : Nat) (data : Word) :
    originEdge src kind data s = { s with ev.inbox := s.ev.inbox ++ [stampNow src kind data s] } := by
  unfold originEdge
  rw [if_neg (fun hp => by simp [serving, hp] at h), if_pos h]
  rfl

theorem irigFrame_measured {s : State} {m : IrigMsg} (hv : serving s = true) (hp : m.parityOk = true) (hm : mayMeasure s 2 = true)
    {use : Option Irig1344} (hu : use = if s.time.irigFlags.getLsbD 0 then m.ieee1344 else none) :
    (irigFrame m s).time.irigLeap = use.isSome
      ∧ ((use.map Irig1344.quality).getD 0 ≠ 15 → (timeSrc (irigFrame m s) 2).last = s.now)
      ∧ ((use.map Irig1344.quality).getD 0 = 15 → (irigFrame m s).time.src = s.time.src ∧ (irigFrame m s).time.tai = s.time.tai) := by
  obtain ⟨s0, hs0⟩ : ∃ s0, s0 = originEdge 81 0 0#32 s := ⟨_, rfl⟩
  obtain ⟨s1, hs1⟩ : ∃ s1 : State, s1 = { s0 with
    time.irigLeap := use.isSome
    time.irigLocal := (use.map Irig1344.localHalfHours).getD 0, time.irigQuality := (use.map Irig1344.quality).getD 0
    time.leap61 := if ptpLocked s then s.time.leap61 else (use.map Irig1344.leapPending).getD false } := ⟨_, rfl⟩
  have h0 := hs0.trans (originEdge_serving hv ..)
  have hframe : irigFrame m s = if (use.map Irig1344.quality).getD 0 = 15 then s1
      else noteLeap s (takeOffset 2 ((s1.time.tai : Int) - s1.time.irigDelay - irigTai use m s1) m.ppb s1) := by
    unfold irigFrame
    dsimp only
    rw [if_neg (by rw [hp, hm]; decide), ← hs0, ← hu, ← hs1, show s1.time.tai = s0.time.tai by rw [hs1],
      show s1.time.irigDelay = s0.time.irigDelay by rw [hs1]]
  have hnow : s1.now = s.now := by rw [hs1, h0]
  have htime : (noteLeap s (takeOffset 2 ((s1.time.tai : Int) - s1.time.irigDelay - irigTai use m s1) m.ppb s1)).time
      = (takeOffset 2 ((s1.time.tai : Int) - s1.time.irigDelay - irigTai use m s1) m.ppb s1).time := (noteLeap_frame ..).2.1
  rw [hframe]
  refine ⟨?_, fun hq => ?_, fun hq => ?_⟩
  · split
    · rw [hs1]
    · rw [htime]
      exact (congrArg Timebase.irigLeap (correctedAside_takeOffset ..)).trans (by rw [hs1]; rfl)
  · rw [if_neg hq, timeSrc, htime, ← timeSrc, timeSrc_takeOffset, hnow]
  · rw [if_pos hq, hs1, h0]
    exact ⟨rfl, rfl⟩

theorem timeSourceTimeout_loses {s : State} {k : Nat} (hk : k ≠ 4) (hs : timeSrc s k ≠ {}) (hl : (timeSrc s k).last + 3000000000 ≤ s.now) :
    timeSrc (timeSourceTimeout k s) k = {} ∧ (s.time.list = [k] → s.time.state = 2 →
      (timeSourceTimeout k s).time.state = 3 ∧ (timeSourceTimeout k s).time.active = 0) := by
  obtain ⟨v, hv⟩ : ∃ v, v = setTimeSrc k {} s := ⟨_, rfl⟩
  have hout : timeSourceTimeout k s = reselect v := by
    unfold timeSourceTimeout
    dsimp only
    rw [if_neg hk, if_pos ⟨hs, decide_eq_true hl⟩, hv]
  have hsrc : timeSrc v k = {} := by rw [hv, timeSrc_setTimeSrc]
  rw [hout]
  refine ⟨by rw [timeSrc_congr (correctedAside_reselect v), hsrc], fun h1 h2 => ?_⟩
  obtain ⟨h3, h4, -⟩ := reselect_loses (s := v) (k := k) (by rw [hv]; exact h1) (by rw [hsrc]) (by rw [hv]; exact h2)
  exact ⟨h3, h4⟩

theorem setTimeState_raises {s : State} {st active : Nat} (h : s.time.state ≠ st) :
    ∃ e, (setTimeState st active s).ev.inbox = s.ev.inbox ++ [e] ∧ e.source = 84 ∧ e.kind = 6 ∧ e.data = w32 st := by
  unfold setTimeState
  rw [if_neg (fun h' => h h'.1)]
  dsimp only
  split <;> exact ⟨_, rfl, rfl, rfl, rfl⟩

theorem portMask_ne_zero (n : Nat) : BitVec.ofNat 8 (if n % 4 = 0 then 3 else n % 4) ≠ 0#8 := by
  intro h
  have := congrArg BitVec.toNat h
  simp only [BitVec.toNat_ofNat] at this
  split at this <;> omega

/-- The timebase as TIME_SOURCE_CFG sets it, before it chooses its source again (R116). -/
def configured (p : Bytes) (s : State) : State :=
  let list := cleanList (field p 0 1 1) (field p 1 1 2) (field p 2 1 3)
  let flags := field p 0x10 1 1 % 4
  { s with
    time.list := list
    time.ptpProfile := if 1 < field p 3 1 0 then 0 else field p 3 1 0
    time.ptpDomain := if 255 < field p 4 2 0xFFFF then 0xFFFF else field p 4 2 0xFFFF
    time.holdoverS := clamp 1 3600 (field p 6 2 60)
    time.irigDelay := min 100000 (field p 8 4 0)
    time.ppsDelay := min 100000 (field p 0xC 4 0)
    time.irigFlags := BitVec.ofNat 8 (if flags % 2 = 1 then flags else 0)
    time.ppsOutMs := min 200 (field p 0x11 1 100)
    time.stepUs := clamp 10 10000 (field p 0x12 2 1000)
    time.portMask := BitVec.ofNat 8 (if field p 0x14 1 3 % 4 = 0 then 3 else field p 0x14 1 3 % 4)
    time.ppsHighUntil := if min 200 (field p 0x11 1 100) = 0 then none else s.time.ppsHighUntil
    time.src := s.time.src.drop fun k => !list.contains k }

theorem timeSourceCfg_configured {s : State} (hp : s.power.state ≠ .holdup) (hr : s.pair.role ≠ .station) (w : Work) :
    ∃ p, timeSourceCfg w s = (.done DONE p, reselect (configured w.payload s)) := by
  unfold timeSourceCfg
  dsimp only
  exact ⟨_, checked_pass (by simp [firstStatus, isStation, hr, inHoldup_eq_false hp])⟩

end Sys2Proof.Machine

open Sys2Proof Sys2Proof.Machine

/-- Settles O44: a measurement is the source's record, the correction, and the choice of the source (`takeOffset_eq`), of which the
first locks or loses the source and the last leaves everything else of the timebase (`correctedAside_takeOffset`). -/
theorem timeSourcesDisciplineTheTimebase : Obligations.TimeSourcesDisciplineTheTimebase := by
  intro s t u own heard mark label
  have htime : ∀ k, timeSrc u k = timeSrc s k := fun k => by simp [u, timeSrc]
  have hmeas : ∀ {k}, own → s.time.list.contains k = true → mayMeasure u k = true := fun ⟨hp, hf, hr⟩ hl =>
    mayMeasure_own (by simpa [u] using hp) (by simpa [u] using hf) (by simpa [u] using hr) (by simpa [u] using hl)
  have hptp : ∀ {m}, heard m → (ptpFrame m u).time = (ptpBody m.src.toNat m.body (hsrCounted u)).time := fun ⟨ho, hl, hp, hn, hd⟩ =>
    ptpFrame_heard (hmeas ho hl) (by simpa [u] using hp) (by simpa [u] using hn) (by rw [hd]; simp [u, ptpDomain])
  obtain ⟨w, hw⟩ : ∃ w, w = hsrCounted u := ⟨_, rfl⟩
  obtain ⟨hwtime, hwnow⟩ := hsrCounted_keeps u
  rw [← hw] at hptp hwtime hwnow
  have hwbest : bestMaster w = bestMaster u := bestMaster_congr hwtime hwnow
  have hserving : own → serving u = true := fun ⟨hp, hf, _⟩ => serving_full (by simpa [u] using hp) (by simpa [u] using hf)
  have hedge : ∀ src, serving s = true →
      originEdge src 0 0#32 u = { u with ev.inbox := s.ev.inbox ++ [stampNow src 0 0#32 u] } := fun src h => by
    rw [originEdge_serving (by simpa [u] using h), show u.ev = s.ev by simp [u]]
  have hstate : u.time.state = s.time.state := by simp [u]
  have hlist : u.time.list = s.time.list := by simp [u]
  refine ⟨?_, ?_, ?_, ?_, ?_, ?_, ?_, ?_, ?_, ?_, ?_, ?_, ?_, ?_⟩
  · intro m o ppb g l r hm hl hb hbest ho hs hst hstep
    obtain ⟨x, hx⟩ : ∃ x : State, x = { w with
      time.gm := g.gm, time.ptpUtc := g.utcOffset, time.leap61 := g.leap61, time.leap59 := g.leap59 } := ⟨_, rfl⟩
    have hv : (ptpFrame m u).time = (takeOffset 1 o ppb x).time := by
      rw [hptp hm, hb, ptpBody_sync (hwbest.trans hbest), hx]
    have hx1 : timeSrc x 1 = timeSrc s 1 := by
      rw [← htime 1, hx, timeSrc, timeSrc, hwtime]
    obtain ⟨h1, h2, h3, h4, h5, h6, h7⟩ := takeOffset_locks (s := x) (ppb := ppb) ho (by rw [hx]; simpa [hwtime, hlist] using hl) (hx1.trans hs)
      (by rw [hx]; simpa [hwtime, hstate] using hst) (by rw [hx]; simpa [hwtime, u] using hstep)
    refine ⟨ptpFrame m u, rfl, ?_⟩
    rw [timeSrc, hv, ← timeSrc]
    refine ⟨h1, h2, h3, h4, h5.trans (by rw [hx]), h6.trans (by rw [hx]; simp [hwtime]), fun h => h7 ?_⟩
    rw [hx]
    simpa [hwtime, hstate] using h
  · intro m o ppb g l hm hl hb hbest ho hs hst ha
    obtain ⟨x, hx⟩ : ∃ x : State, x = { w with
      time.gm := g.gm, time.ptpUtc := g.utcOffset, time.leap61 := g.leap61, time.leap59 := g.leap59 } := ⟨_, rfl⟩
    have hv : (ptpFrame m u).time = (takeOffset 1 o ppb x).time := by
      rw [hptp hm, hb, ptpBody_sync (hwbest.trans hbest), hx]
    have hx1 : timeSrc x 1 = timeSrc s 1 := by
      rw [← htime 1, hx, timeSrc, timeSrc, hwtime]
    have hxnow : x.now = u.now := by rw [hx, ← hwnow]
    obtain ⟨h1, h2, h3, h4, h5⟩ := takeOffset_loses (s := x) (ppb := ppb) ho (by rw [hx]; simpa [hwtime, hlist] using hl) (hx1.trans hs)
      (by rw [hx]; simpa [hwtime, hstate] using hst)
    refine ⟨ptpFrame m u, rfl, ?_⟩
    rw [timeSrc, hv, ← timeSrc]
    exact ⟨h1, h2, h3, hxnow ▸ h4, hxnow ▸ h5⟩
  · intro m o ppb hm hb hbest
    refine ⟨ptpFrame m u, rfl, ?_⟩
    rw [hptp hm, hb, ptpBody_other (by rw [hwbest]; exact hbest), hwtime]
  · intro m d alt hm hb hmasters
    refine ⟨ptpFrame m u, rfl, ?_⟩
    rw [hptp hm, hb, ptpBody_announce (by rw [hwtime]; simpa [u] using hmasters)]
    refine ⟨rfl, rfl, rfl, rfl, ?_, by simp [hwtime]⟩
    rw [show s.time.altOffset = w.time.altOffset by rw [hwtime]; simp [u]]
  · intro m hv hp
    refine congrArg Host.Outcome.next (Eq.trans ?_ (hedge 81 hv))
    unfold irigFrame
    dsimp only
    rw [hp]
    rfl
  · intro m use ho hp hl hu
    exact ⟨_, rfl, by simpa [u] using irigFrame_measured (s := u) (hserving ho) hp (hmeas ho hl) (use := use) (by simpa [u] using hu)⟩
  · intro ppb hv hfar
    refine congrArg Host.Outcome.next (Eq.trans ?_ (hedge 80 hv))
    refine if_pos ?_
    rw [Bool.or_eq_true]
    exact .inr (decide_eq_true (by simpa [mark, label, u] using hfar))
  · intro ppb ho hnear hl
    obtain ⟨x, hx⟩ : ∃ x, x = originEdge 80 0 0#32 u := ⟨_, rfl⟩
    have hout : ∃ o, ppsInEdge ppb u = takeOffset 3 o ppb x := by
      refine ⟨_, (if_neg ?_).trans (by rw [hx])⟩
      rw [Bool.or_eq_true, hmeas ho hl]
      rintro (h | h)
      · exact absurd h (by decide)
      · exact absurd (of_decide_eq_true h) (not_lt.mpr (by simpa [mark, label, u] using hnear))
    obtain ⟨o, ho'⟩ := hout
    refine ⟨_, congrArg Host.Outcome.next ho', ?_⟩
    rw [timeSrc_takeOffset, hx, originEdge_serving (hserving ho)]
  · intro k hk hp hs hl
    have hk4 : k.val + 1 ≠ 4 := fun h => hk (Fin.ext (by simpa using h))
    obtain ⟨h1, h2⟩ := timeSourceTimeout_loses (s := u) hk4 (by rw [htime]; exact hs) (by rw [htime]; exact hl)
    refine ⟨_, congrArg Host.Outcome.next (if_pos (by simpa [inRun] using hp)), h1, fun h3 h4 => ?_⟩
    have hk1 : ((k + 1 : Fin 4) : Nat) = k.val + 1 := by
      rw [Fin.val_add_one]
      exact if_neg hk
    exact h2 (hlist.trans (h3.trans (congrArg (fun n => [n]) hk1))) (hstate.trans h4)
  · intro hp
    exact congrArg Host.Outcome.next (if_neg fun h => h.2.1 (by simpa using hp))
  · intro hst hp hl
    obtain ⟨h1, h2, -⟩ := setTimeState_time 0 0 u
    obtain ⟨e, h3, h4⟩ := setTimeState_raises (s := u) (st := 0) (active := 0) (by rw [hstate, hst]; decide)
    refine ⟨_, congrArg Host.Outcome.next (if_pos ⟨hstate.trans hst, by simpa using hp, ?_⟩), h1, h2, e, by rw [h3]; simp [u], h4⟩
    exact decide_eq_true (by simpa [u] using hl)
  · intro hp hst hms
    have hlive : (inRun u && (u.time.state = 2 || u.time.state = 3) && decide (u.time.ppsOutMs ≠ 0)) = true := by
      simpa [inRun, u, hp, hms] using hst
    refine ⟨fun h0 => congrArg Host.Outcome.next ((if_neg ?_).trans ?_), fun h0 => congrArg Host.Outcome.next (if_pos ?_)⟩
    · rw [Bool.and_eq_true]
      exact fun h => of_decide_eq_true h.2 h0
    · dsimp only
      rw [if_pos hlive]
      simp [u]
    · rw [Bool.and_eq_true]
      exact ⟨hlive, decide_eq_true h0⟩
  · intro h
    have hdead : (inRun u && (u.time.state = 2 || u.time.state = 3) && decide (u.time.ppsOutMs ≠ 0)) = false := by
      rw [hstate, show u.time.ppsOutMs = s.time.ppsOutMs by simp [u]]
      obtain h | h := h
      · simp [show s.time.state ≠ 2 by omega, show s.time.state ≠ 3 by omega]
      · simp [h]
    refine congrArg Host.Outcome.next ((if_neg ?_).trans ?_)
    · rw [hdead]
      exact Bool.false_ne_true
    · dsimp only
      rw [hdead]
      rfl
  · intro mb w h hp hr
    obtain ⟨p, hcfg⟩ := timeSourceCfg_configured (s := u) (by simpa [u] using hp) (by simpa [u] using hr) w
    obtain ⟨x, hx⟩ : ∃ x, x = configured w.payload u := ⟨_, rfl⟩
    rw [← hx] at hcfg
    have hrest := chosenAside_reselect x
    obtain ⟨a, lo, hi, hcal⟩ := reselect_cal x
    obtain ⟨hclk, himg, hhost⟩ := reselect_frame x
    refine ⟨p, reselect x, runCommand_answers h hcfg (by rw [hhost, hx]; rfl), (congrArg Timebase.list hrest).trans (by rw [hx]; rfl),
      (congrArg Timebase.holdoverS hrest).trans (by rw [hx]; rfl), (congrArg Timebase.irigDelay hrest).trans (by rw [hx]; rfl),
      (congrArg Timebase.ppsDelay hrest).trans (by rw [hx]; rfl), (congrArg Timebase.ppsOutMs hrest).trans (by rw [hx]; rfl),
      (congrArg Timebase.stepUs hrest).trans (by rw [hx]; rfl), fun h0 => ?_, ?_, ?_, ?_⟩
    · refine portMask_ne_zero (field w.payload 0x14 1 3) (Eq.trans ?_ h0)
      exact (Eq.trans (congrArg Timebase.portMask hrest) (by rw [hx]; rfl)).symm
    · rw [hclk, hx, ← advance_clk t s]
      rfl
    · rw [himg, hx, ← advance_img t s]
      rfl
    · rw [hcal, hx, ← advance_cal t s]
      rfl
end

section
/-! PROOFS. Dies that restart, and the field commands (R294, R297, R306, R315, R318, R319, R323-R327, R475, R580). -/

namespace Sys2Proof.Machine

/-! ### A die that gains power -/

theorem exists_chan_of_die {n c : Nat} : (∃ k ∈ List.range 16, c = 16 * n + k) ↔ c / 16 = n := by
  simp only [List.mem_range]
  constructor
  · rintro ⟨k, hk, rfl⟩
    omega
  · exact fun hc => ⟨c % 16, by omega, by omega⟩

/-- A step over the channels of a die that changes the one it names, by a rule that holds while `P` does. -/
structure ChanStep (n : Nat) (P : State → Prop) (g : Nat → Channel → Channel) (f : State → Nat → State) : Prop where
  keeps : ∀ s k, P s → P (f s k)
  chan : ∀ s k c, P s → (f s k).chan c = if c = 16 * n + k then g c (s.chan c) else s.chan c

theorem ChanStep.foldl {n : Nat} {P : State → Prop} {g : Nat → Channel → Channel} {f : State → Nat → State} (h : ChanStep n P g f)
    {l : List Nat} (hl : l.Nodup) {s : State} (hs : P s) :
    P (l.foldl f s) ∧ ∀ c, (l.foldl f s).chan c = if ∃ k ∈ l, c = 16 * n + k then g c (s.chan c) else s.chan c := by
  induction l generalizing s with
  | nil => exact ⟨hs, by simp⟩
  | cons a l ih =>
    obtain ⟨ha, hn⟩ := List.nodup_cons.mp hl
    obtain ⟨hP, hc⟩ := ih hn (h.keeps s a hs)
    refine ⟨hP, fun c => ?_⟩
    rw [List.foldl_cons, hc, h.chan s a c hs]
    by_cases hca : c = 16 * n + a
    · rw [if_neg, if_pos hca, if_pos ⟨a, by simp, hca⟩]
      rintro ⟨k, hk, hck⟩
      exact ha ((by omega : k = a) ▸ hk)
    · rw [if_neg hca]
      by_cases hk : ∃ k ∈ l, c = 16 * n + k
      · obtain ⟨k, hk, hck⟩ := hk
        rw [if_pos ⟨k, hk, hck⟩, if_pos ⟨k, by simp [hk], hck⟩]
      · rw [if_neg hk, if_neg]
        rintro ⟨k, hm, hck⟩
        obtain rfl | hm := List.mem_cons.mp hm
        · exact hca hck
        · exact hk ⟨k, hm, hck⟩

theorem chanStep_fresh (n : Nat) : ChanStep n (fun _ => True) (fun _ => freshChannel)
    fun s k => markIx (16 * n + k) (s.setChan (16 * n + k) (freshChannel (s.chan (16 * n + k)))) where
  keeps _ _ h := h
  chan s k c _ := by
    rw [State.chan, (markIx_frame ..).2.2.2.1, ← State.chan, chan_setChan]
    split
    next h => rw [h]
    next => rfl

/-- The logic side's record of a channel, as it is sent to the channel's die (R319). -/
def sentCfg (s : State) (ch : Nat) (c : Channel) : Channel := { c with cfg := chanCfg s ch, cfgNext := none, owner := ownerOf s ch }

theorem chanStep_configure (n : Nat) (s0 : State) :
    ChanStep n (fun s => ∀ ch, chanCfg s ch = chanCfg s0 ch ∧ ownerOf s ch = ownerOf s0 ch) (sentCfg s0)
      fun s k => s.setChan (16 * n + k) (sentCfg s (16 * n + k) (s.chan (16 * n + k))) where
  keeps _ _ h := h
  chan s k c h := by
    rw [chan_setChan]
    split
    next hc =>
      unfold sentCfg
      rw [← hc, (h c).1, (h c).2]
    next => rfl

/-- The die at its power-up state, before the logic side's configuration. -/
def freshDie (n : Nat) (s : State) : State :=
  (List.range 16).foldl (fun s k => markIx (16 * n + k) (s.setChan (16 * n + k) (freshChannel (s.chan (16 * n + k)))))
    (s.setDie n { powered := true, txLost := (s.die n).txLost, lost := (s.die n).txLost, vfldMv := (s.die n).vfldMv
                  vfldLow := decide ((s.die n).vfldMv < 17000), couplerA := true, couplerB := true, lostPower := true
                  hold := (s.die n).hold, fw := dieFw s n })

theorem fieldDiePowerUp_eq (n : Nat) (s : State) :
    fieldDiePowerUp n s = if serving s then configureDie n (freshDie n s) else freshDie n s := rfl

theorem freshDie_keeps (n : Nat) (s : State) :
    (∀ ch, chanCfg (freshDie n s) ch = chanCfg s ch) ∧ (freshDie n s).img.val = s.img.val
      ∧ (freshDie n s).die n = { powered := true, txLost := (s.die n).txLost, lost := (s.die n).txLost, vfldMv := (s.die n).vfldMv
                                 vfldLow := decide ((s.die n).vfldMv < 17000), couplerA := true, couplerB := true, lostPower := true
                                 hold := (s.die n).hold, fw := dieFw s n }
      ∧ ∀ c, (freshDie n s).chan c = if c / 16 = n then freshChannel (s.chan c) else s.chan c := by
  have hstep : ∀ {β : Type} (p : State → β), (∀ a q s, p (setQ a q s) = p s) → (∀ k c s, p (State.setChan s k c) = p s) →
      p (freshDie n s) = p (s.setDie n { powered := true, txLost := (s.die n).txLost, lost := (s.die n).txLost
                                         vfldMv := (s.die n).vfldMv, vfldLow := decide ((s.die n).vfldMv < 17000), couplerA := true
                                         couplerB := true, lostPower := true, hold := (s.die n).hold, fw := dieFw s n }) := by
    intro β p hq hc
    refine foldl_keeps p (fun s k => ?_) _ _
    unfold markIx
    dsimp only
    split
    · rw [hq, hq, hq, hc]
    · rw [hq, hq, hc]
  refine ⟨fun ch => ?_, ?_, ?_, fun c => ?_⟩
  · exact hstep (fun s => chanCfg s ch) (by intros; rfl) (by intros; rfl)
  · exact hstep (fun s => s.img.val) (by intros; rfl) (by intros; rfl)
  · rw [hstep (fun s => s.die n) (by intros; rfl) (by intros; rfl), State.die_setDie, if_pos rfl]
  · unfold freshDie
    rw [((chanStep_fresh n).foldl List.nodup_range trivial).2 c, State.chan_setDie]
    simp only [exists_chan_of_die]

theorem configureDie_keeps (n : Nat) (s : State) :
    (configureDie n s).img = s.img ∧ (configureDie n s).die n = { s.die n with configured := true }
      ∧ ∀ c, (configureDie n s).chan c = if c / 16 = n then sentCfg s c (s.chan c) else s.chan c := by
  have hcfg : ∀ {β : Type} (p : State → β), (∀ k c s, p (State.setChan s k c) = p s) →
      p (configureDie n s) = p (s.setDie n { s.die n with configured := true }) := fun p hc => by
    unfold configureDie
    exact foldl_keeps p (fun s k => hc ..) _ _
  refine ⟨(hcfg State.img (by intros; rfl)).trans rfl, ?_, fun c => ?_⟩
  · rw [hcfg (fun s => s.die n) (by intros; rfl), State.die_setDie, if_pos rfl]
  · have := ((chanStep_configure n s).foldl List.nodup_range (l := List.range 16)
      (s := s.setDie n { s.die n with configured := true }) fun _ => ⟨rfl, rfl⟩).2 c
    refine this.trans ?_
    simp only [State.chan_setDie, exists_chan_of_die]

theorem fieldDiePowerUp_chan (n : Nat) (s : State) (c : Nat) :
    (fieldDiePowerUp n s).chan c = if c / 16 = n then
      (if serving s then sentCfg (freshDie n s) c (freshChannel (s.chan c)) else freshChannel (s.chan c)) else s.chan c := by
  obtain ⟨-, -, -, hchan⟩ := freshDie_keeps n s
  rw [fieldDiePowerUp_eq]
  by_cases hs : serving s = true
  · rw [if_pos hs, (configureDie_keeps ..).2.2, hchan, if_pos hs]
    split <;> rfl
  · rw [if_neg hs, if_neg hs, hchan]

theorem fieldDiePowerUp_keeps (n : Nat) (s : State) :
    (fieldDiePowerUp n s).img.val = s.img.val ∧ (fieldDiePowerUp n s).die n =
      { powered := true, txLost := (s.die n).txLost, lost := (s.die n).txLost, vfldMv := (s.die n).vfldMv
        vfldLow := decide ((s.die n).vfldMv < 17000), couplerA := true, couplerB := true, lostPower := true
        hold := (s.die n).hold, fw := dieFw s n, configured := serving s } := by
  obtain ⟨-, himg, hdie, -⟩ := freshDie_keeps n s
  obtain ⟨himg', hdie', -⟩ := configureDie_keeps n (freshDie n s)
  rw [fieldDiePowerUp_eq]
  by_cases hs : serving s = true
  · rw [if_pos hs, himg', hdie', hdie, hs]
    exact ⟨himg, rfl⟩
  · rw [if_neg hs, hdie, Bool.eq_false_of_not_eq_true hs]
    exact ⟨himg, rfl⟩

/-! ### The field commands -/

theorem field_byte (p : Bytes) (o : Nat) : field p o 1 0 = (p.getD o 0#8).toNat := by
  unfold field
  split
  next h =>
    have : o < p.length := by omega
    simp [slice, List.take_one, leNat, this]
  next h => simp [List.getD, List.getElem?_eq_none (show p.length ≤ o by omega)]

theorem field_query (p : Bytes) (o : Nat) : decide (field p o 1 0 % 2 = 1) = payloadBit p o 0 := by
  rw [field_byte, payloadBit, BitVec.getLsbD, Nat.testBit_zero]

/-- The state that FLD_CFG leaves: the record kept, and handed to a live die (R315). -/
def recorded (ch : Nat) (new : ChanCfg) (s : State) : State :=
  let s1 : State := { s with fld.kept := s.fld.kept.set none ch (some new) }
  if dieLive s ch then s1.setChan ch { s1.chanNow ch with cfgNext := some new, cfgAt := s.now } else s1

theorem fldCfg_takes {s : State} {w : Work} {ch : Nat} {new : ChanCfg} (hch : ch = min 63 (field w.payload 0 1 0))
    (hq : payloadBit w.payload 1 0 = false) (hp : s.ps.prog.isSome = true) (hr : s.pair.role ≠ .station) (hh : s.power.state ≠ .holdup)
    (hf : (s.die (dieOf ch)).fwRestart = false) (hs : safetyChan s ch = false) (hn : new = clampCfg s ch (readCfg w.payload 4))
    (h1 : new.function = (chanCfg s ch).function) (h2 : new.mode &&& 0x2E#8 = (chanCfg s ch).mode &&& 0x2E#8)
    (hc : continuous new = false) : ∃ p, fldCfg w s = (.done DONE p, recorded ch new s) := by
  unfold fldCfg
  dsimp only
  rw [field_query, hq, ← hch, ← hn]
  exact ⟨_, checked_pass (by
    simp [firstStatus, h1, h2, hc, hs, isStation, hr, inHoldup_eq_false hh, hf, Option.isSome_iff_ne_none.mp hp])⟩

theorem fldCfg_owned {s : State} {w : Work} {ch : Nat} (hch : ch = min 63 (field w.payload 0 1 0))
    (hq : payloadBit w.payload 1 0 = false) (h1 : (clampCfg s ch (readCfg w.payload 4)).function ≠ (chanCfg s ch).function) :
    fldCfg w s = (.done OWNED [], s) := by
  unfold fldCfg
  dsimp only
  rw [field_query, hq, ← hch]
  exact checked_fail (by simp [firstStatus, h1])

theorem fldCounter_presets {s : State} {w : Work} {ch : Nat} (hch : ch = min 63 (field w.payload 0 1 0))
    (ho : field w.payload 1 1 0 = 1) (hc : counts (chanCfg s ch) = true) (hs : safetyChan s ch = false) (hr : s.pair.role ≠ .station)
    (hh : s.power.state ≠ .holdup) :
    ∃ p, fldCounter w s = (.done DONE p,
      s.setChan ch { settleCount s.now (s.chan ch) with count := w32 (field w.payload 4 4 0) }) := by
  unfold fldCounter
  dsimp only
  rw [ho, ← hch]
  exact ⟨_, checked_pass (by simp [firstStatus, hc, hs, isStation, hr, inHoldup_eq_false hh])⟩

theorem fldCounter_reads {s : State} {w : Work} {ch : Nat} (hch : ch = min 63 (field w.payload 0 1 0))
    (ho : field w.payload 1 1 0 = 0) (hc : counts (chanCfg s ch) = true) (hr : s.pair.role ≠ .station) (hh : s.power.state ≠ .holdup) :
    ∃ p, fldCounter w s = (.done DONE p, s.setChan ch (settleCount s.now (s.chan ch))) := by
  unfold fldCounter
  dsimp only
  rw [ho, ← hch]
  exact ⟨_, checked_pass (by simp [firstStatus, hc, isStation, hr, inHoldup_eq_false hh])⟩

theorem fldCounter_absent {s : State} {w : Work} (hc : counts (chanCfg s (min 63 (field w.payload 0 1 0))) = false) :
    fldCounter w s = (.done NOT_PRESENT [], s) := by
  unfold fldCounter
  dsimp only
  exact checked_fail (by simp [firstStatus, hc])

theorem fldTest_busy {s : State} {w : Work} (hf : (s.die (dieOf (min 63 (field w.payload 0 1 0)))).fwRestart = true) :
    fldTest w s = (.done BUSY [], s) := by
  unfold fldTest
  dsimp only
  exact checked_fail (by simp [firstStatus, hf])

/-- FLD_TEST of a cold trip clears it (R327). -/
theorem fldTest_clears {s : State} {w : Work} {ch : Nat} (hch : ch = min 63 (field w.payload 0 1 0)) (ho : field w.payload 1 1 1 = 0)
    (hf : (s.die (dieOf ch)).fwRestart = false) (hr : s.pair.role ≠ .station) (hh : s.power.state ≠ .holdup)
    (hout : isOutput (s.chan ch).cfg = true) (ht : (s.chan ch).tripped = true) (hhot : (s.chan ch).hot = false) :
    fldTest w s = (.done DONE (leBytes 1 ch ++ leBytes 1 0 ++ leBytes 1 0 ++ zeros 1 ++ leBytes 4 0),
      s.setChan ch { s.chan ch with tripped := false, hot := false }) := by
  unfold fldTest
  dsimp only
  rw [ho, ← hch]
  refine (checked_pass (by simp [firstStatus, isStation, hr, inHoldup_eq_false hh, hf])).trans ?_
  simp [hout, ht, hhot]

/-- The round trip of a loop is free, and the loop passes within 100 ns. -/
theorem fldTest_loops {s : State} {w : Work} {ch : Nat} (hch : ch = min 63 (field w.payload 0 1 0)) (ho : field w.payload 1 1 1 = 1)
    (hf : (s.die (dieOf ch)).fwRestart = false) (hr : s.pair.role ≠ .station) (hh : s.power.state ≠ .holdup) :
    ∃ r ns, fldTest w s = (.done DONE (leBytes 1 ch ++ leBytes 1 1 ++ leBytes 1 r ++ zeros 1 ++ leBytes 4 ns),
      { s with eng.fresh := s.eng.fresh + 1 }) ∧ (r = 0 ↔ ns ≤ 100) := by
  have htest : fldTest w s = if (Config.free s.eng.fresh).toNat ≤ 100 then
      (.done DONE (leBytes 1 ch ++ leBytes 1 1 ++ leBytes 1 0 ++ zeros 1 ++ leBytes 4 (Config.free s.eng.fresh).toNat),
        { s with eng.fresh := s.eng.fresh + 1 })
      else (.done DONE (leBytes 1 ch ++ leBytes 1 1 ++ leBytes 1 1 ++ zeros 1 ++ leBytes 4 (Config.free s.eng.fresh).toNat),
        { s with eng.fresh := s.eng.fresh + 1 }) := by
    unfold fldTest
    dsimp only
    rw [ho, ← hch]
    exact checked_pass (by simp [firstStatus, isStation, hr, inHoldup_eq_false hh, hf])
  by_cases h : (Config.free s.eng.fresh).toNat ≤ 100
  · exact ⟨0, _, htest.trans (if_pos h), by simp [h]⟩
  · exact ⟨1, _, htest.trans (if_neg h), by simp [h]⟩

/-- What the record of FLD_CFG shows of a state. -/
theorem recorded_shows (ch : Nat) (new : ChanCfg) (s : State) :
    chanCfg (recorded ch new s) ch = new ∧ (∀ k, k ≠ ch → chanCfg (recorded ch new s) k = chanCfg s k)
      ∧ (dieLive s ch = true → (recorded ch new s).chan ch = { s.chanNow ch with cfgNext := some new, cfgAt := s.now })
      ∧ (∀ k, ((recorded ch new s).chan k).latch = (s.chan k).latch)
      ∧ (recorded ch new s).host = s.host := by
  have hkept : (recorded ch new s).fld.kept = s.fld.kept.set none ch (some new) := by
    unfold recorded
    dsimp only
    split <;> rfl
  have hrest : (recorded ch new s).pair = s.pair ∧ (recorded ch new s).ring = s.ring ∧ (recorded ch new s).ps = s.ps
      ∧ (recorded ch new s).host = s.host := by
    unfold recorded
    dsimp only
    split <;> exact ⟨rfl, rfl, rfl, rfl⟩
  obtain ⟨hpair, hring, hps, hhost⟩ := hrest
  refine ⟨?_, fun k hk => ?_, fun hd => ?_, fun k => ?_, hhost⟩
  · unfold chanCfg
    rw [hkept, Tbl.get_set, if_pos rfl]
  · unfold chanCfg isStation prog
    rw [hkept, Tbl.get_set, if_neg hk, hpair, hring, hps]
  · unfold recorded
    rw [if_pos hd]
    exact (chan_setChan ..).trans (if_pos rfl)
  · unfold recorded
    dsimp only
    split
    · rw [chan_setChan]
      split
      next h =>
        rw [h]
        show (settleCfg s.now 62500 (s.chan ch)).latch = _
        unfold settleCfg
        (repeat' split) <;> rfl
      next => rfl
    · rfl

end Sys2Proof.Machine

open Sys2Proof Sys2Proof.Machine

/-- Settles O45: the power-up of a die channel by channel (`ChanStep.foldl`), and the three field commands in the forms that the
statement names. -/
theorem diesRestartAndFieldCommandsAnswer : Obligations.DiesRestartAndFieldCommandsAnswer := by
  intro s t d mb w u ch
  have hchan : ∀ k, u.chan k = s.chan k := fun k => by simp [u]
  have hdie : ∀ k, u.die k = s.die k := fun k => by simp [u]
  have hcfg : ∀ k, chanCfg u k = chanCfg s k := fun k => by simp [u]
  have hrole : ∀ {r : Role}, s.pair.role ≠ r → u.pair.role ≠ r := fun h => by simpa [u] using h
  have hpow : s.power.state ≠ .holdup → u.power.state ≠ .holdup := fun h => by simpa [u] using h
  refine ⟨?_, ?_, ?_, ?_, ?_, ?_, ?_, ?_, ?_, ?_, ?_⟩
  · obtain ⟨himg, hd⟩ := fieldDiePowerUp_keeps d u
    have hserv : serving u = serving s := by simp [u]
    refine ⟨_, rfl, ?_⟩
    rw [hd, himg]
    refine ⟨rfl, rfl, hserv, rfl, by rw [hdie], fun k hk c hc => ?_, fun k hk => ?_, by simp [u]⟩
    · have hkd : (16 * d.val + k) / 16 = d.val := by omega
      rw [fieldDiePowerUp_chan, if_pos hkd, hserv] at hc
      have hcf : chanCfg (freshDie d u) (16 * d.val + k) = chanCfg s (16 * d.val + k) := ((freshDie_keeps d u).1 _).trans (hcfg _)
      generalize freshDie d u = f at hc hcf
      rw [hc]
      split
      · exact ⟨rfl, rfl, rfl, rfl, rfl, rfl, rfl, rfl, rfl, hcf⟩
      · exact ⟨rfl, rfl, rfl, rfl, rfl, rfl, rfl, rfl, rfl, rfl⟩
    · rw [fieldDiePowerUp_chan, if_neg hk, hchan]
  · intro hp hf
    refine congrArg Host.Outcome.next ((if_pos ?_).trans ?_)
    · rw [← hdie d] at hp hf
      rw [show (advance t s).die d = u.die d from rfl, hp, hf]
      rfl
    · rw [← hdie d]
  · rw [← hdie d]
    rfl
  · intro h hq hp hr hh hf hs new hn h1 h2 hc
    obtain ⟨p, htake⟩ := fldCfg_takes (s := u) (w := w) (ch := ch) (new := new) rfl hq (by simpa [u] using hp) (hrole hr) (hpow hh)
      (by rw [hdie]; exact hf) (by simpa [u] using hs) (by simpa [u] using hn) (by rw [hcfg]; exact h1) (by rw [hcfg]; exact h2) hc
    obtain ⟨r1, r2, r3, r4, r5⟩ := recorded_shows ch new u
    obtain ⟨v, hv⟩ : ∃ v, v = recorded ch new u := ⟨_, rfl⟩
    rw [← hv] at r1 r2 r3 r4 r5 htake
    have hfin : ∀ k, chanCfg (finish w DONE p v) k = chanCfg v k := fun k => by
      unfold chanCfg isStation prog
      simp
    have hfinch : ∀ k, (finish w DONE p v).chan k = v.chan k := fun k => by simp [State.chan]
    refine ⟨_, runCommand_answers h htake (by rw [r5]), by rw [hfin, r1], fun k hk => by rw [hfin, r2 k hk, hcfg], fun hd => ?_, ?_⟩
    · have := r3 (by simpa [u] using hd)
      rw [hfinch, this]
      refine ⟨rfl, fun now hnow => ?_⟩
      unfold settleCfg
      exact congrArg Channel.cfg (if_pos (decide_eq_true hnow))
    · unfold latches
      simp only [hfinch, r4, hchan]
  · intro h hq h1
    have := fldCfg_owned (s := u) (w := w) (ch := ch) rfl hq (by rw [hcfg]; simpa [u] using h1)
    exact runCommand_answers h this rfl
  · intro h ho hc hs hr hh
    obtain ⟨p, hset⟩ := fldCounter_presets (s := u) (w := w) (ch := ch) rfl ho (by rw [hcfg]; exact hc) (by simpa [u] using hs)
      (hrole hr) (hpow hh)
    have hfinch : ∀ v k, (finish w DONE p v).chan k = v.chan k := fun v k => by simp [State.chan]
    refine ⟨_, runCommand_answers h hset rfl, ?_, fun k hk => ?_⟩
    · rw [hfinch, chan_setChan, if_pos rfl]
    · rw [hfinch, chan_setChan, if_neg hk, hchan]
  · intro h ho hc hr hh
    obtain ⟨p, hset⟩ := fldCounter_reads (s := u) (w := w) (ch := ch) rfl ho (by rw [hcfg]; exact hc) (hrole hr) (hpow hh)
    rw [hchan] at hset
    exact ⟨p, runCommand_answers h hset rfl⟩
  · intro h hc
    exact runCommand_answers h (fldCounter_absent (s := u) (by rw [hcfg]; exact hc)) rfl
  · intro h ho hf hr hh hout ht hhot
    have := fldTest_clears (s := u) (w := w) (ch := ch) rfl ho (by rw [hdie]; exact hf) (hrole hr) (hpow hh) (by rw [hchan]; exact hout)
      (by rw [hchan]; exact ht) (by rw [hchan]; exact hhot)
    rw [hchan] at this
    exact runCommand_answers h this rfl
  · intro h ho hf hr hh
    obtain ⟨r, ns, hset, hiff⟩ := fldTest_loops (s := u) (w := w) (ch := ch) rfl ho (by rw [hdie]; exact hf) (hrole hr) (hpow hh)
    refine ⟨r, ns, (runCommand_answers h hset rfl).trans ?_, hiff⟩
    rw [show u.eng = s.eng by simp [u]]
  · intro h hf
    exact runCommand_answers h (fldTest_busy (s := u) (by rw [hdie]; exact hf)) rfl
end

section
/-! PROOFS. Inputs of a field die: edges, validation, faults, status frames, double points (R300-R304, R320-R322, R145). -/

namespace Sys2Proof.Machine

/-! ### What settles in a channel -/

/-- What settles with time in a channel leaves its states. -/
theorem settleCfg_keeps (now span : Nat) (c : Channel) :
    (settleCfg now span c).sentinel = c.sentinel ∧ (settleCfg now span c).validated = c.validated
      ∧ (settleCfg now span c).cand = c.cand ∧ (settleCfg now span c).count = c.count ∧ (settleCfg now span c).cntLevel = c.cntLevel
      ∧ (settleCfg now span c).lastEdge = c.lastEdge ∧ (settleCfg now span c).latch = c.latch
      ∧ (settleCfg now span c).run = c.run ∧ (settleCfg now span c).rejects = c.rejects
      ∧ (settleCfg now span c).candQ = c.candQ ∧ (settleCfg now span c).candFlags = c.candFlags := by
  unfold settleCfg
  split
  · split <;> exact ⟨rfl, rfl, rfl, rfl, rfl, rfl, rfl, rfl, rfl, rfl, rfl⟩
  · exact ⟨rfl, rfl, rfl, rfl, rfl, rfl, rfl, rfl, rfl, rfl, rfl⟩

theorem settleReflex_keeps (now : Nat) (c : Channel) :
    ∃ i a, settleReflex now c = { c with reflexIn := i, reflexAt := a } := by
  unfold settleReflex
  split
  · exact ⟨_, _, rfl⟩
  · exact ⟨c.reflexIn, c.reflexAt, rfl⟩

theorem settleCount_of_not_counts {now : Nat} {c : Channel} (h : counts c.cfg = false) : settleCount now c = c := by
  unfold settleCount
  rw [h]
  rfl

/-- Counting changes the count and its level only. -/
theorem settleCount_keeps (now : Nat) (c : Channel) : ∃ l n, settleCount now c = { c with cntLevel := l, count := n } := by
  unfold settleCount
  split
  · exact ⟨_, _, rfl⟩
  · exact ⟨c.cntLevel, c.count, rfl⟩

theorem settleCount_counts {now : Nat} {c : Channel} (h : counts c.cfg = true) (hl : c.cntLevel ≠ c.sentinel) (he : c.cfg.cntEdge = 2)
    (hp : c.lastEdge + 100 * c.cfg.cntFilter ≤ now) : settleCount now c = { c with cntLevel := c.sentinel, count := c.count + 1 } := by
  unfold settleCount
  rw [if_pos (by simp [h, passed, hp, Ne.symm hl]), if_pos (.inl he)]

/-- The latches depend on the channels' latches alone. -/
theorem latches_of {s v : State} (h : ∀ c, (v.chan c).latch = (s.chan c).latch) : latches v = latches s := by
  unfold latches
  simp only [h]

theorem latches_setChan {s : State} {ch : Nat} {c : Channel} (h : c.latch = (s.chan ch).latch) : latches (s.setChan ch c) = latches s :=
  latches_of fun k => by
    rw [chan_setChan]
    split
    next hk => rw [hk, h]
    next => rfl

/-! ### The sentinel -/

/-- The channel after an edge of its sentinel, with the stamp `st` where the edge starts a candidate. -/
def edged (now mv : Nat) (level : Bool) (st : Option (Nat × Byte × Byte)) (c0 : Channel) : Channel :=
  let c1 := settleReflex now (settleCount now c0)
  let c2 := match st with
    | some st => { c1 with cand := some st.1, candFlags := st.2.1, candQ := st.2.2 }
    | none => c1
  let c3 := { c2 with sentinel := level, lastEdge := now, pinMv := mv }
  { c3 with disagreeAt := disagree now c3 }

theorem edged_shows (now mv : Nat) (level : Bool) (st : Option (Nat × Byte × Byte)) (c : Channel) :
    (edged now mv level st c).sentinel = level ∧ (edged now mv level st c).lastEdge = now ∧ (edged now mv level st c).pinMv = mv
      ∧ (edged now mv level st c).validated = c.validated ∧ (edged now mv level st c).latch = c.latch
      ∧ (edged now mv level st c).count = (settleCount now c).count ∧ (edged now mv level st c).cntLevel = (settleCount now c).cntLevel
      ∧ (edged now mv level st c).cand = (st.map Prod.fst).orElse (fun _ => c.cand) := by
  obtain ⟨l, n, hc⟩ := settleCount_keeps now c
  obtain ⟨i, a, hr⟩ := settleReflex_keeps now (settleCount now c)
  unfold edged
  dsimp only
  rw [hr, hc]
  cases st <;> exact ⟨rfl, rfl, rfl, rfl, rfl, rfl, rfl, rfl⟩

theorem sentinelEdge_same {s : State} {ch mv : Nat} {dev : Int} (hd : dieLive s ch = true) (hf : (s.chanNow ch).cfg.function ≠ 0)
    (h : sentinelLevel (s.chanNow ch).cfg (s.chanNow ch).sentinel mv dev = (s.chanNow ch).sentinel) :
    sentinelEdge ch mv dev s = s.setChan ch { s.chanNow ch with pinMv := mv } := by
  unfold sentinelEdge
  dsimp only
  rw [if_neg (by simp [hd, hf]), if_pos h]

/-- An edge awake changes its channel alone; away from the validated state with no candidate it starts one. -/
theorem sentinelEdge_edge {s : State} {ch mv : Nat} {dev : Int} (hd : dieLive s ch = true) (hf : (s.chanNow ch).cfg.function ≠ 0)
    (h : sentinelLevel (s.chanNow ch).cfg (s.chanNow ch).sentinel mv dev ≠ (s.chanNow ch).sentinel) (hp : s.power.state ≠ .slumber) :
    ∃ st, sentinelEdge ch mv dev s = s.setChan ch
        (edged s.now mv (sentinelLevel (s.chanNow ch).cfg (s.chanNow ch).sentinel mv dev) st (s.chanNow ch))
      ∧ (st.isSome = ((sentinelLevel (s.chanNow ch).cfg (s.chanNow ch).sentinel mv dev != (s.chan ch).validated)
          && (s.chan ch).cand.isNone)) := by
  obtain ⟨l, n, hc⟩ := settleCount_keeps s.now (s.chanNow ch)
  obtain ⟨i, a, hr⟩ := settleReflex_keeps s.now (settleCount s.now (s.chanNow ch))
  obtain ⟨-, hval, hcand, -⟩ := settleCfg_keeps s.now 62500 (s.chan ch)
  have hval' : (settleReflex s.now (settleCount s.now (s.chanNow ch))).validated = (s.chan ch).validated := by
    rw [hr, hc]
    exact hval
  have hcand' : (settleReflex s.now (settleCount s.now (s.chanNow ch))).cand = (s.chan ch).cand := by
    rw [hr, hc]
    exact hcand
  have hst : edgeStamp ch s = (((stampNow ch 0 0#32 s).tai, (stampNow ch 0 0#32 s).flags, (stampNow ch 0 0#32 s).quality), s) := by
    unfold edgeStamp
    rw [if_neg hp]
  have hfresh := congrArg₂ (fun v (c : Option Nat) =>
    (sentinelLevel (s.chanNow ch).cfg (s.chanNow ch).sentinel mv dev != v) && c.isNone) hval' hcand'
  rw [← hfresh]
  unfold sentinelEdge
  dsimp only
  rw [if_neg (by simp [hd, hf]), if_neg h, hst]
  split
  next hn => exact ⟨some ((stampNow ch 0 0#32 s).tai, (stampNow ch 0 0#32 s).flags, (stampNow ch 0 0#32 s).quality), rfl, hn.symm⟩
  next hn => exact ⟨none, rfl, (Bool.eq_false_of_not_eq_true hn).symm⟩

/-! ### The samples -/

/-- The channel as a sample of level `level` finds it. -/
def sampled1 (now mv : Nat) (level : Bool) (c0 : Channel) : Channel :=
  let c1 := { c0 with sample := level, pinMv := mv }
  { c1 with disagreeAt := disagree now c1 }

/-- The channel with the record in force at a sample (R302, R306). -/
def State.chanAt (s : State) (ch : Nat) : Channel := settleCfg s.now (if continuous (s.chan ch).cfg then 0 else 3500) (s.chan ch)

theorem burdenSample_eq {s : State} {ch : Nat} (hd : dieFirmware s ch = true) (hf : (s.chanAt ch).cfg.function ≠ 0) {mv : Nat}
    {dev : Int} {level : Bool} (hl : level = sampleLevel (s.chanAt ch).cfg (s.chan ch).validated mv dev) :
    burdenSample ch mv dev s =
      let c := sampled1 s.now mv level (s.chanAt ch)
      if level = c.validated then
        let rest := c.cand.isSome && c.sentinel = c.validated && passed s.now c.lastEdge (max (filterNs c.cfg) 62500)
        s.setChan ch (if rest then { c with run := none, cand := none, rejects := min (c.rejects + 1) 65535 } else { c with run := none })
      else
        let start := c.run.getD s.now
        let s1 := s.setChan ch { c with run := some start }
        if passed s.now start (filterNs c.cfg) then validated ch level s1 else s1 := by
  have hval : (s.chanAt ch).validated = (s.chan ch).validated := (settleCfg_keeps ..).2.1
  rw [← hval] at hl
  rw [hl]
  exact if_neg (by
    show ¬ (!dieFirmware s ch || decide ((s.chanAt ch).cfg.function = 0)) = true
    simp [hd, hf])

/-- What a validated transition makes of the channel (R303). -/
def transited (now : Nat) (level : Bool) (st : Nat) (c : Channel) : Channel :=
  let c := settleReflex now c
  { c with
    reflexAt := if c.reflexIn = level then none else some now
    validated := level, stamp := st, cand := none, run := none
    riseSeen := c.riseSeen || level, fallSeen := c.fallSeen || !level }

/-- The record of a transition. -/
def transitRec (ch a : Nat) (level : Bool) (c : Channel) : EvRec :=
  { tai := a, source := ch, kind := bit (!level), quality := c.candQ, flags := c.candFlags, data := b32 level }

theorem validated_single {s : State} {ch a : Nat} {level : Bool} (hc : (s.chan ch).cand = some a) (he : dpEven s ch = none)
    (hd : dualOf s ch = none) :
    validated ch level s = raise (transitRec ch a level (s.chan ch))
      (s.setChan ch (transited s.now level a (s.chan ch))) := by
  obtain ⟨i, b, hr⟩ := settleReflex_keeps s.now (s.chan ch)
  unfold validated transited transitRec
  dsimp only
  rw [hc, he, hd]
  dsimp only
  rw [hr]

theorem transited_shows (now : Nat) (level : Bool) (st : Nat) (c : Channel) :
    (transited now level st c).validated = level ∧ (transited now level st c).stamp = st ∧ (transited now level st c).cand = none
      ∧ (transited now level st c).run = none ∧ (transited now level st c).rejects = c.rejects
      ∧ (transited now level st c).pinMv = c.pinMv ∧ (level = true → (transited now level st c).riseSeen = true)
      ∧ (level = false → (transited now level st c).fallSeen = true) ∧ (transited now level st c).latch = c.latch := by
  obtain ⟨i, b, hr⟩ := settleReflex_keeps now c
  unfold transited
  rw [hr]
  cases level <;> simp

/-! ### Faults and status frames -/

theorem chanFault_shows (ch n : Nat) (s : State) :
    (chanFault ch n s).chan ch = { s.chan ch with faults := (s.chan ch).faults ||| (1#16 <<< n) } ∧ (chanFault ch n s).ev = s.ev :=
  ⟨(chan_setChan ..).trans (if_pos rfl), rfl⟩

theorem statusFrame_dead {s : State} {ch : Nat} {ok : Bool}
    (h : (s.chan ch).lost = true ∨ (s.die (dieOf ch)).lost = true ∨ serving s = false) : statusFrame ch ok s = s := by
  obtain ⟨l, n, hc⟩ := settleCount_keeps s.now (s.chan ch)
  unfold statusFrame
  dsimp only
  rw [hc]
  refine if_pos ?_
  obtain h | h | h := h <;> simp [h]

theorem statusFrame_live {s : State} {ch : Nat} (hd : dieFirmware s ch = true) (hl : (s.chan ch).lost = false)
    (hdl : (s.die (dieOf ch)).lost = false) (hs : serving s = true) (hf : (s.chan ch).cfg.function ≠ 0) (ok : Bool) :
    statusFrame ch ok s = if !ok then couplerFinding ch s else statusFrame ch true s := by
  obtain ⟨l, n, hc⟩ := settleCount_keeps s.now (s.chan ch)
  have hlive : (!dieFirmware s ch || (settleCount s.now (s.chan ch)).lost || (s.die (dieOf ch)).lost || !serving s
      || decide ((settleCount s.now (s.chan ch)).cfg.function = 0)) = false := by
    rw [hc]
    simp [hd, hl, hdl, hs, hf]
  cases ok
  · unfold statusFrame
    dsimp only
    rw [hlive]
    rfl
  · rfl

/-- The channel after a good frame (R145). -/
def framed (now : Nat) (c : Channel) : Channel :=
  { c with rx := c.validated, stale := false, statusAt := now, riseSeen := false, fallSeen := false }

theorem statusFrame_good {s : State} {ch : Nat} (hd : dieFirmware s ch = true) (hl : (s.chan ch).lost = false)
    (hdl : (s.die (dieOf ch)).lost = false) (hs : serving s = true) (hf : (s.chan ch).cfg.function = 1)
    (hc : counts (s.chan ch).cfg = false) (hm : modeBit (s.chan ch).cfg 1 = false) (he : dpEven s ch = none) (hu : dualOf s ch = none) :
    statusFrame ch true s = markIx ch (setImg (imgAddr 1 ch) (b32 (s.chan ch).validated) (s.setChan ch (framed s.now (s.chan ch)))) := by
  have hkeep : ∀ v : State, keepSeen ch (s.chan ch) v = v := fun v => if_pos (.inr (by rw [hm]; rfl))
  have hix : ixValue (s.setChan ch (framed s.now (s.chan ch))) ch = (s.chan ch).validated := by
    unfold ixValue
    rw [show dpEven (s.setChan ch (framed s.now (s.chan ch))) ch = none from he,
      show dualOf (s.setChan ch (framed s.now (s.chan ch))) ch = none from hu, chan_setChan, if_pos rfl]
    rfl
  unfold statusFrame
  dsimp only
  rw [settleCount_of_not_counts hc, if_neg (by simp [hd, hl, hdl, hs, hf]), if_neg (by decide), hkeep, he, hc]
  exact congrArg (fun b => markIx ch (setImg (imgAddr 1 ch) (b32 b) (s.setChan ch (framed s.now (s.chan ch))))) hix

theorem chan_markIx (ch : Nat) (s : State) (k : Nat) : (markIx ch s).chan k = s.chan k := by
  rw [State.chan, (markIx_frame ..).2.2.2.1, ← State.chan]

theorem staleMarked_shows (ch : Nat) (s : State) :
    ((markIx ch (s.setChan ch { s.chan ch with stale := true })).chan ch).stale = true
      ∧ (markIx ch (s.setChan ch { s.chan ch with stale := true })).img.val = s.img.val
      ∧ latches (markIx ch (s.setChan ch { s.chan ch with stale := true })) = latches s := by
  refine ⟨?_, ?_, ?_⟩
  · rw [chan_markIx, chan_setChan, if_pos rfl]
  · rw [markIx_val]
    rfl
  · exact (latches_of (s := s.setChan ch { s.chan ch with stale := true }) fun k => by rw [chan_markIx]).trans (latches_setChan rfl)

theorem staleTimeout_marks {t : Nat} {ch : Fin 64} {s u : State} (hu : u = advance t s) (hs : (s.chan ch).stale = false)
    (hp : (s.chan ch).statusAt + 250000 ≤ u.now) :
    exec (.staleTimeout t ch) s = .next (markIx ch (u.setChan ch { u.chan ch with stale := true })) := by
  have hc : u.chan ch = s.chan ch := by rw [hu, State.chan_advance]
  have hcond : (!(u.chan ch).stale && passed u.now (u.chan ch).statusAt 250000) = true := by
    simpa [hc, hs, passed] using hp
  show execStaleTimeout t ch s = _
  unfold execStaleTimeout
  dsimp only
  rw [← hu, if_pos hcond]

theorem couplerFinding_shows (ch : Nat) (s : State) :
    ((couplerFinding ch s).chan ch).faults = (s.chan ch).faults ||| 0x40#16 ∧ (couplerFinding ch s).img = s.img
      ∧ latches (couplerFinding ch s) = latches s ∧ (couplerFinding ch s).sup.ctr.get 0 6 = (s.sup.ctr.get 0 6 + 1) % 2 ^ 32 := by
  obtain ⟨x, hx⟩ : ∃ x, x = s.setChan ch { s.chan ch with faults := (s.chan ch).faults ||| 0x40#16 } := ⟨_, rfl⟩
  have hf : couplerFinding ch s = logFault 0x20 2 (whr 0 (dieOf ch) ch) (w32 ch) 0#32 (count 6 1 x) := by rw [hx]; rfl
  have hxc : ∀ k, (couplerFinding ch s).chan k = x.chan k := fun k => by rw [hf]; rfl
  refine ⟨?_, by rw [hf, hx, logFault_img, count_img, State.setChan_img], ?_, ?_⟩
  · rw [hxc, hx, chan_setChan, if_pos rfl]
  · exact (latches_of (s := x) fun k => by rw [hxc]).trans (by rw [hx]; exact latches_setChan rfl)
  · have hctr : (count 6 1 x).sup.ctr.get 0 6 = (x.sup.ctr.get 0 6 + 1) % 2 ^ 32 := by simp [count]
    rw [hf]
    refine Eq.trans hctr ?_
    rw [hx]
    rfl

/-! ### Double points -/

theorem dpStep_end {s : State} {e stamp : Nat} {fl q : Byte} (hv : (s.chan e).validated ≠ (s.chan (e + 1)).validated)
    (hd : (s.chan e).dp ≠ BitVec.ofNat 2 (2 * bit (s.chan e).validated + bit (s.chan (e + 1)).validated)) :
    ∃ r, dpStep e stamp fl q s = raise r (s.setChan e { s.chan e with
      dp := BitVec.ofNat 2 (2 * bit (s.chan e).validated + bit (s.chan (e + 1)).validated), dpLeft := none, dpLate := false }) := by
  refine ⟨{ tai := stamp, source := e, kind := 6, quality := q, flags := fl
            data := w32 (BitVec.ofNat 2 (2 * bit (s.chan e).validated + bit (s.chan (e + 1)).validated)).toNat }, ?_⟩
  unfold dpStep
  dsimp only
  rw [if_pos (by
    revert hv
    cases (s.chan e).validated <;> cases (s.chan (e + 1)).validated <;> simp [bit]), if_neg (Ne.symm hd)]

theorem dpStep_between {s : State} {e left : Nat} {fl q : Byte} (hv : (s.chan e).validated = (s.chan (e + 1)).validated)
    (hd : (s.chan e).dp = 1#2 ∨ (s.chan e).dp = 2#2) (hl : (s.chan e).dpLeft = some left) :
    ((s.chan e).dpAt + 1000000 * (s.chan e).cfg.discMs ≤ s.now →
      ∃ r, dpStep e left fl q s = raise r (chanFault e 11 (s.setChan e { s.chan e with
        dp := if (s.chan e).validated then 3#2 else 0#2, dpLeft := some left, dpAt := (s.chan e).dpAt, dpLate := true })))
      ∧ (s.now < (s.chan e).dpAt + 1000000 * (s.chan e).cfg.discMs →
        dpStep e left fl q s = s.setChan e { s.chan e with dpLeft := some left, dpAt := (s.chan e).dpAt }) := by
  have hraw : BitVec.ofNat 2 (2 * bit (s.chan e).validated + bit (s.chan (e + 1)).validated)
      = if (s.chan e).validated then 3#2 else 0#2 := by
    rw [← hv]
    cases (s.chan e).validated <;> rfl
  have hmid : ¬ ((if (s.chan e).validated then 3#2 else 0#2) = 2#2 ∨ (if (s.chan e).validated then 3#2 else 0#2) = 1#2) := by
    cases (s.chan e).validated <;> decide
  have hlate : (decide ((s.chan e).dp = 2#2) || decide ((s.chan e).dp = 1#2)) = true := by
    obtain h | h := hd <;> simp [h]
  have hne : (if (s.chan e).validated then 3#2 else 0#2) ≠ (s.chan e).dp := by
    obtain h | h := hd <;> rw [h] <;> cases (s.chan e).validated <;> decide
  refine ⟨fun ht => ⟨{ tai := left, source := e, kind := 6, quality := q, flags := fl
                       data := w32 ((if (s.chan e).validated then 3#2 else 0#2).toNat + 256 * 1) }, ?_⟩, fun ht => ?_⟩
  · unfold dpStep
    dsimp only
    rw [hraw, if_neg hmid, hlate, hl]
    simp [hne, ht]
    rfl
  · unfold dpStep
    dsimp only
    rw [hraw, if_neg hmid, hlate, hl]
    simp [Nat.not_le.mpr ht]

end Sys2Proof.Machine

open Sys2Proof Sys2Proof.Machine

/-- Settles O46: an edge and a sample change their channel alone (`sentinelEdge_edge`, `burdenSample_eq`), a transition that is
validated raises its record (`validated_single`), and a double point takes one step (`dpStep_end`, `dpStep_between`). -/
theorem inputsAreValidatedAndReported : Obligations.InputsAreValidatedAndReported := by
  intro s t ch u c e b rise fall reaches at1 seen
  have hchan : ∀ k, u.chan k = s.chan k := fun k => by simp [u]
  have hevu : u.ev = s.ev := by simp [u]
  have himgu : u.img = s.img := by simp [u]
  have hdpu : dpEven u ch = dpEven s ch := by simp [u]
  have hduu : dualOf u ch = dualOf s ch := by simp [u]
  have htick : ∀ {left}, dieFirmware s ch = true → dpEven s ch = some ch.val → c.dpLeft = some left →
      exec (.dpDiscrepancyTimeout t ch) s = .next (dpStep ch left (s.chan ch).candFlags (s.chan ch).candQ u) := fun hd he hl => by
    show execDpDiscrepancyTimeout t ch s = _
    unfold execDpDiscrepancyTimeout
    dsimp only
    rw [dpEven_advance, he, dieFirmware_advance, hd]
    dsimp only
    rw [State.chan_advance, show (s.chan ch).dpLeft = some _ from hl]
    rfl
  have hlatch : latches u = latches s := latches_of fun k => by rw [hchan]
  have hpow : s.power.state ≠ .slumber → u.power.state ≠ .slumber := fun h => by simpa [u] using h
  have hrise : ∀ g, rise g = riseLevel g := fun g => by simp [rise, riseLevel, offsetOf, isInput]
  have hfall : ∀ g, fall g = fallLevel g := fun g => by simp [fall, fallLevel, hrise]
  obtain ⟨hesent, heval, hecand, hecount, hecnt, heedge, helatch, -⟩ : e.sentinel = c.sentinel ∧ e.validated = c.validated
      ∧ e.cand = c.cand ∧ e.count = c.count ∧ e.cntLevel = c.cntLevel ∧ e.lastEdge = c.lastEdge ∧ e.latch = c.latch ∧ True := by
    have := settleCfg_keeps u.now 62500 (u.chan ch)
    rw [hchan] at this
    obtain ⟨h1, h2, h3, h4, h5, h6, h7, -⟩ := this
    have he : e = settleCfg u.now 62500 (s.chan ch) := by rw [← hchan]; rfl
    rw [he]
    exact ⟨h1, h2, h3, h4, h5, h6, h7, trivial⟩
  have hat : ∀ mv dev, sentinelLevel e.cfg e.sentinel mv dev = at1 mv dev := fun mv dev => by
    simp only [at1, hrise, hfall]
    rw [hesent]
    rfl
  have hb : u.chanAt ch = b := by
    unfold State.chanAt
    rw [hchan]
  obtain ⟨hbsent, hbval, hbcand, -, -, hbedge, hblatch, hbrun, hbrej, hbq, hbfl⟩ := settleCfg_keeps u.now (if continuous c.cfg then 0 else 3500) c
  have hseen : ∀ mv dev, seen mv dev = sampleLevel (u.chanAt ch).cfg (u.chan ch).validated mv dev := fun mv dev => by
    rw [hb, hchan]
    simp only [seen, hrise, hfall]
    unfold sampleLevel sentinelLevel
    by_cases hf : b.cfg.function = 1
    · simp [hf, isInput]
      rfl
    · simp [hf, isInput]
      rfl
  refine ⟨?_, ?_, ?_, ?_, ?_, ?_, ?_, ?_, ?_, ?_, ?_, ?_⟩
  · intro mv dev hd hf
    have hd' : dieLive u ch = true := by simpa [u] using hd
    refine ⟨fun h => ?_, fun h hc hp => ?_, fun h hc hl he hpass hp => ?_⟩
    · exact congrArg Host.Outcome.next (sentinelEdge_same hd' hf (by rw [hat]; exact h))
    · obtain ⟨st, hv, hst⟩ := sentinelEdge_edge hd' hf (by rw [hat]; exact h) (hpow hp)
      rw [hat] at hv hst
      obtain ⟨h1, h2, h3, h4, h5, h6, -, h8⟩ := edged_shows u.now mv (at1 mv dev) st e
      have hvc : (u.setChan ch (edged u.now mv (at1 mv dev) st e)).chan ch = edged u.now mv (at1 mv dev) st e :=
        (chan_setChan ..).trans (if_pos rfl)
      refine ⟨_, congrArg Host.Outcome.next hv, ?_⟩
      rw [hvc, h1, h2, h3, h4, h6, h8, settleCount_of_not_counts hc, hecand]
      refine ⟨rfl, rfl, heval, rfl, hecount, fun hne => ?_, fun a ha => ?_, ?_, himgu, hevu⟩
      · rw [hchan] at hst
        cases hc : c.cand with
        | some a => cases st <;> simp
        | none =>
          have : st.isSome = true := by
            rw [hst, show (s.chan ch).cand = none from hc]
            simpa using hne
          obtain ⟨x, hx⟩ := Option.isSome_iff_exists.mp this
          rw [hx]
          rfl
      · have : st.isSome = false := by
          rw [hst, hchan, show (s.chan ch).cand = some a from ha]
          simp
        rw [Option.isSome_eq_false_iff.mp this |> Option.isNone_iff_eq_none.mp]
        exact ha
      · exact (latches_setChan (h5.trans (helatch.trans (by rw [hchan])))).trans hlatch
    · obtain ⟨st, hv, -⟩ := sentinelEdge_edge hd' hf (by rw [hat]; exact h) (hpow hp)
      rw [hat] at hv
      obtain ⟨-, -, -, -, -, h6, h7, -⟩ := edged_shows u.now mv (at1 mv dev) st e
      refine ⟨_, congrArg Host.Outcome.next hv, ?_⟩
      rw [chan_setChan, if_pos rfl]
      have hcount : settleCount u.now e = { e with cntLevel := e.sentinel, count := e.count + 1 } :=
        settleCount_counts hc (by rw [hecnt, hesent]; exact hl) he (by rw [heedge]; exact hpass)
      exact ⟨h6.trans (by rw [hcount, hecount]), h7.trans (by rw [hcount, hesent])⟩
  · intro mv dev a hd hf hne hc hp he hu
    have hv := burdenSample_eq (s := u) (ch := ch) (by simpa [u] using hd) (by rw [hb]; exact hf) (hseen mv dev)
    obtain ⟨x, hx⟩ : ∃ x, x = { sampled1 u.now mv (seen mv dev) b with run := some (c.run.getD u.now) } := ⟨_, rfl⟩
    obtain ⟨w, hw⟩ : ∃ w, w = u.setChan ch x := ⟨_, rfl⟩
    have hwc : w.chan ch = x := by rw [hw, chan_setChan, if_pos rfl]
    have hval := validated_single (s := w) (ch := ch) (a := a) (level := seen mv dev)
      (by rw [hwc, hx]; exact hbcand.trans hc) (by rw [hw]; exact hdpu.trans he) (by rw [hw]; exact hduu.trans hu)
    have hout : burdenSample ch mv dev u = validated ch (seen mv dev) w := by
      rw [hv, hb]
      dsimp only
      rw [if_neg (fun h => hne (h.trans hbval)), show (sampled1 u.now mv (seen mv dev) b).run = c.run from hbrun, ← hx, ← hw]
      exact if_pos (decide_eq_true hp)
    obtain ⟨h1, h2, h3, h4, h5, h6, h7, h8, h9⟩ := transited_shows w.now (seen mv dev) a (w.chan ch)
    refine ⟨_, congrArg Host.Outcome.next (hout.trans hval), ?_⟩
    have hvc : ∀ r, (raise r (w.setChan ch (transited w.now (seen mv dev) a (w.chan ch)))).chan ch
        = transited w.now (seen mv dev) a (w.chan ch) := fun r => (chan_setChan ..).trans (if_pos rfl)
    rw [hvc, h1, h2, h3, h4, h5, h6]
    refine ⟨rfl, rfl, rfl, rfl, ?_, ?_, h7, h8, ⟨transitRec ch a (seen mv dev) (w.chan ch),
      ?_, rfl, rfl, ?_, ?_, ?_⟩, ?_, ?_⟩
    · rw [hwc, hx]
      exact hbrej
    · rw [hwc, hx]
      rfl
    · exact congrArg (· ++ _) (by rw [hw, ← hevu]; rfl)
    · cases seen mv dev <;> rfl
    · rw [hwc, hx]
      exact hbq
    · rw [hwc, hx]
      exact hbfl
    · refine Eq.trans (latches_setChan h9) ?_
      rw [hw]
      exact (latches_setChan (by rw [hx, hchan]; exact hblatch)).trans hlatch
    · rw [raise_img, State.setChan_img, hw, State.setChan_img, himgu]
  · intro mv dev hd hf hne hr hpos
    have hv := burdenSample_eq (s := u) (ch := ch) (by simpa [u] using hd) (by rw [hb]; exact hf) (hseen mv dev)
    have hout : burdenSample ch mv dev u = u.setChan ch { sampled1 u.now mv (seen mv dev) b with run := some u.now } := by
      rw [hv, hb]
      dsimp only
      rw [if_neg (fun h => hne (h.trans hbval)), show (sampled1 u.now mv (seen mv dev) b).run = none from hbrun.trans hr]
      refine if_neg fun h => absurd (of_decide_eq_true h) (not_le.mpr ?_)
      exact Nat.lt_add_of_pos_right hpos
    refine ⟨_, congrArg Host.Outcome.next hout, ?_⟩
    rw [chan_setChan, if_pos rfl]
    exact ⟨hbval, rfl, hevu⟩
  · intro mv dev hd hf heq hc hs hp
    have hv := burdenSample_eq (s := u) (ch := ch) (by simpa [u] using hd) (by rw [hb]; exact hf) (hseen mv dev)
    obtain ⟨x, hx⟩ : ∃ x, x = sampled1 u.now mv (seen mv dev) b := ⟨_, rfl⟩
    have hxs : x.sentinel = c.sentinel ∧ x.validated = c.validated ∧ x.cand = c.cand ∧ x.lastEdge = c.lastEdge ∧ x.cfg = b.cfg
        ∧ x.rejects = c.rejects := by
      rw [hx]
      exact ⟨hbsent, hbval, hbcand, hbedge, rfl, hbrej⟩
    obtain ⟨x1, x2, x3, x4, x5, x6⟩ := hxs
    have hrest : (x.cand.isSome && decide (x.sentinel = x.validated) && passed u.now x.lastEdge (max (filterNs x.cfg) 62500)) = true := by
      rw [x1, x2, x3, x4, x5, hc, hs]
      simpa [passed] using hp
    have hout : burdenSample ch mv dev u = u.setChan ch { x with run := none, cand := none, rejects := min (x.rejects + 1) 65535 } := by
      rw [hv, hb]
      dsimp only
      rw [← hx, if_pos (heq.trans x2.symm)]
      exact congrArg (u.setChan ch) (if_pos hrest)
    refine ⟨_, congrArg Host.Outcome.next hout, ?_⟩
    rw [chan_setChan, if_pos rfl]
    exact ⟨rfl, by rw [x6], x2, hevu⟩
  · intro a ha hd hf hb7 hp
    have hout : exec (.induced t ch) s = .next (chanFault ch 7 u) := by
      have hat1 : ((advance t s).chan ch).disagreeAt = some a := by rw [State.chan_advance]; exact ha
      have hcond : (dieFirmware (advance t s) ch && isInput ((advance t s).chan ch).cfg && !((advance t s).chan ch).faults.getLsbD 7
          && passed (advance t s).now a (10 ^ 8)) = true := by
        rw [State.chan_advance, dieFirmware_advance, hd, show isInput (s.chan ch).cfg = true from decide_eq_true hf,
          show (s.chan ch).faults.getLsbD 7 = false from hb7, show 10 ^ 8 = 100000000 by norm_num, Bool.not_false, Bool.and_true,
          Bool.and_true, Bool.true_and]
        exact decide_eq_true hp
      show execInduced t ch s = _
      unfold execInduced
      dsimp only
      rw [hat1]
      exact congrArg Host.Outcome.next (if_pos hcond)
    refine ⟨_, hout, ?_⟩
    rw [(chanFault_shows ch 7 u).1, hchan]
    exact ⟨rfl, rfl⟩
  · intro hd hl hdl hs hf hc hm he hu
    have hout := statusFrame_good (s := u) (ch := ch) (by simpa [u] using hd) (by rw [hchan]; exact hl) (by simpa [u] using hdl)
      (by simpa [u] using hs) (by rw [hchan]; exact hf) (by rw [hchan]; exact hc) (by rw [hchan]; exact hm) (by simpa [u] using he)
      (by simpa [u] using hu)
    rw [hchan] at hout
    have hvc : ∀ k, (markIx ch (setImg (imgAddr 1 ch) (b32 (s.chan ch).validated) (u.setChan ch (framed u.now (s.chan ch))))).chan k
        = (u.setChan ch (framed u.now (s.chan ch))).chan k := fun k => by
      rw [State.chan, (markIx_frame ..).2.2.2.1]
      rfl
    refine ⟨_, congrArg Host.Outcome.next hout, ?_⟩
    rw [markIx_val, hvc, chan_setChan, if_pos rfl]
    refine ⟨?_, rfl, rfl, rfl, rfl, rfl, ?_⟩
    · rw [← himgu]
      rfl
    · refine (latches_of fun k => by rw [hvc]).trans ((latches_setChan ?_).trans hlatch)
      rw [hchan]
      rfl
  · intro hd hl hdl hs hf
    have hout := statusFrame_live (s := u) (ch := ch) (by simpa [u] using hd) (by rw [hchan]; exact hl) (by simpa [u] using hdl)
      (by simpa [u] using hs) (by rw [hchan]; exact hf) false
    obtain ⟨h1, h2, h3, h4⟩ := couplerFinding_shows ch u
    refine ⟨couplerFinding ch u, congrArg Host.Outcome.next hout, ?_⟩
    rw [h1, h2, h3, h4, hchan]
    exact ⟨rfl, himgu, hlatch, by simp only [u, advance_sup]⟩
  · intro ok h
    exact congrArg Host.Outcome.next (statusFrame_dead (s := u) (by simpa [u] using h))
  · intro hs hp
    obtain ⟨h1, h2, h3⟩ := staleMarked_shows ch u
    exact ⟨_, staleTimeout_marks rfl hs hp, h1, h2.trans (by rw [himgu]), h3.trans hlatch⟩
  · intro hl he
    show execDpDiscrepancyTimeout t ch s = _
    unfold execDpDiscrepancyTimeout
    dsimp only
    rw [dpEven_advance, he]
    dsimp only
    rw [State.chan_advance, show (s.chan ch).dpLeft = none from hl]
    split <;> rfl
  · intro hd he hl d hdd hv hne
    obtain ⟨left, hl⟩ := Option.isSome_iff_exists.mp hl
    rw [hdd] at hv hne ⊢
    obtain ⟨r, hr⟩ := dpStep_end (s := u) (e := ch) (stamp := left) (fl := (u.chan ch).candFlags) (q := (u.chan ch).candQ)
      (by rw [hchan, hchan]; exact hv) (by rw [hchan, hchan]; exact hne)
    rw [hchan, hchan] at hr
    have hvc : ∀ (r : EvRec) (x : Channel), (raise r (u.setChan ch x)).chan ch = x := fun r x => (chan_setChan ..).trans (if_pos rfl)
    refine ⟨_, (htick hd he hl).trans (congrArg Host.Outcome.next hr), ?_⟩
    rw [hvc]
    refine ⟨rfl, rfl, rfl, ?_⟩
    rw [← hevu]
    exact List.length_append
  · intro hd he hv hdp left hl
    obtain ⟨hlate, hearly⟩ := dpStep_between (s := u) (e := ch) (left := left) (fl := (u.chan ch).candFlags) (q := (u.chan ch).candQ)
      (by rw [hchan, hchan]; exact hv) (by rw [hchan]; exact hdp) (by rw [hchan]; exact hl)
    rw [hchan] at hlate hearly
    refine ⟨fun ht => ?_, fun ht => ?_⟩
    · obtain ⟨r, hr⟩ := hlate ht
      generalize hx : u.setChan ch _ = x at hr
      obtain ⟨hf, hfe⟩ := chanFault_shows ch 11 x
      have hxc := congrArg (fun v => State.chan v ch) hx
      dsimp only at hxc
      rw [chan_setChan, if_pos rfl] at hxc
      refine ⟨_, (htick hd he hl).trans (congrArg Host.Outcome.next hr), ?_⟩
      rw [show (raise r (chanFault ch 11 x)).chan ch = (chanFault ch 11 x).chan ch from rfl, hf, ← hxc]
      refine ⟨rfl, rfl, rfl, ?_, ?_⟩
      · simp
      · rw [← hevu]
        refine List.length_append.trans ?_
        rw [hfe, ← hx]
        rfl
    · refine ⟨_, (htick hd he hl).trans (congrArg Host.Outcome.next (hearly ht)), ?_, hevu⟩
      rw [chan_setChan, if_pos rfl]
end

section
/-! PROOFS. Claims, command frames, trips and timers of the outputs (R310-R318, R325, R408, R580). -/

namespace Sys2Proof.Machine

/-! ### Command frames -/

/-- The die after it has heard the own logic side's claim (R316). -/
def ownHeard (s : State) (f : CmdFrame) (d : FieldDie) : FieldDie :=
  { d with claims := d.claims.set {} 0 { claim := f.claim, last := s.now, leaseQ := s.pair.leaseQ, heard := true } }

/-- The only valid claim is obeyed. -/
theorem bestSource_own {s : State} {f : CmdFrame} {d : FieldDie} (hc : f.claim.getLsbD 15 = true) (hl : 0 < s.pair.leaseQ)
    (h1 : claimValid s (d.claims.get {} 1) = false) (h2 : claimValid s (d.claims.get {} 2) = false) :
    bestSource s (ownHeard s f d) = some 0 := by
  have h0 : claimValid s ((ownHeard s f d).claims.get {} 0) = true := by
    simp [claimValid, ownHeard, hc, hl]
  have h1' : claimValid s ((ownHeard s f d).claims.get {} 1) = false := by simpa [ownHeard] using h1
  have h2' : claimValid s ((ownHeard s f d).claims.get {} 2) = false := by simpa [ownHeard] using h2
  simp [bestSource, h0, h1', h2']

/-- A command to a LEVEL channel that the image owns and that nothing holds off is applied (R313, R317). -/
theorem applyFrame_level {now : Nat} {f : CmdFrame} {c : Channel} {b : Bool} (hf : (settleCfg now 62500 c).cfg.function = 2)
    (hs : isSaf (settleCfg now 62500 c).cfg = false) (ht : c.tripped = false) (ho : c.safOff = false) (hm : ownMode c.owner = 0)
    (hq : f.qx = some b) : (applyFrame now f c).latch = b ∧ (applyFrame now f c).applied = b := by
  obtain ⟨x, hx⟩ : ∃ x, x = settleCfg now 62500 c := ⟨_, rfl⟩
  have hkeep : x.tripped = false ∧ x.safOff = false ∧ ownMode x.owner = 0 := by
    rw [hx]
    unfold settleCfg
    (repeat' split) <;> exact ⟨ht, ho, hm⟩
  obtain ⟨hxt, hxo, hxm⟩ := hkeep
  rw [← hx] at hf hs
  have htrip : settleTrip now x = x := by
    unfold settleTrip
    split
    · rw [if_neg (by simp [hxt])]
    · rfl
  have hcmd : mergedCmd x.owner f = some b := by
    unfold mergedCmd
    rw [hxm]
    exact hq
  unfold applyFrame
  dsimp only
  rw [← hx, htrip, if_neg (by simp [isOutput, hf]), hcmd]
  simp [safFrame, hs, applyLatch, hf, hxt, hxo]

theorem commandFrame_applied {s : State} {ch : Nat} {f : CmdFrame} (hok : f.crcOk = true) (hp : (s.die (dieOf ch)).powered = true)
    (hh : (s.die (dieOf ch)).hold = false) (hl : (s.die (dieOf ch)).lost = false) (hcl : (s.chan ch).lost = false) (hsrc : f.src = 0)
    (hb : bestSource s (ownHeard s f (s.die (dieOf ch))) = some 0) :
    ∃ c, ((c.latch = (applyFrame s.now f (s.chan ch)).latch ∧ c.applied = (applyFrame s.now f (s.chan ch)).applied)
      ∧ (∀ k, (commandFrame ch f s).chan k = if k = ch then c else s.chan k)
      ∧ ((commandFrame ch f s).die (dieOf ch)).obeyed = some 0 ∧ ((commandFrame ch f s).die (dieOf ch)).holding = false
      ∧ (commandFrame ch f s).img = s.img) := by
  obtain ⟨d, hd⟩ : ∃ d, d = { ownHeard s f (s.die (dieOf ch)) with obeyed := some 0, holding := false } := ⟨_, rfl⟩
  obtain ⟨x, hx⟩ : ∃ x, x = s.setDie (dieOf ch) { ownHeard s f (s.die (dieOf ch)) with
    obeyed := some 0, holding := (ownHeard s f (s.die (dieOf ch))).holding || false } := ⟨_, rfl⟩
  obtain ⟨y, hy⟩ : ∃ y, y = x.setDie (dieOf ch) d := ⟨_, rfl⟩
  obtain ⟨z, hz⟩ : ∃ z, z = y.setChan ch (applyFrame s.now f (y.chan ch)) := ⟨_, rfl⟩
  have hyc : ∀ k, y.chan k = s.chan k := fun k => by rw [hy, hx, State.chan_setDie, State.chan_setDie]
  have hzc : ∀ k, z.chan k = if k = ch then applyFrame s.now f (s.chan ch) else s.chan k := fun k => by
    rw [hz, chan_setChan, hyc, hyc]
  have hzd : z.die (dieOf ch) = d := by rw [hz, State.die_setChan, hy, State.die_setDie, if_pos rfl]
  have hout : commandFrame ch f s = if driverOn z ch = driverOn y ch then z else z.setChan ch { z.chan ch with expectAt := s.now } := by
    unfold commandFrame
    dsimp only
    rw [if_neg (by simp [hp, hl, hcl]), if_neg (by simp [hok]), if_pos hsrc]
    rw [hsrc]
    rw [show bestSource s { s.die (dieOf ch) with claims := (s.die (dieOf ch)).claims.set {} (0 : Fin 3).val { claim := f.claim, last := s.now, leaseQ := s.pair.leaseQ, heard := true } } = some 0 from hb]
    rw [if_neg (by simp [hh])]
    rw [hz, hy, hd, hx]
    rfl
  have himg : z.img = s.img := by
    rw [hz, hy, hx]
    rfl
  rw [hout]
  split
  · exact ⟨applyFrame s.now f (s.chan ch), ⟨rfl, rfl⟩, hzc, by rw [hzd, hd], by rw [hzd, hd], himg⟩
  · refine ⟨{ z.chan ch with expectAt := s.now }, ⟨?_, ?_⟩, fun k => ?_, ?_, ?_, himg⟩
    · rw [hzc, if_pos rfl]
    · rw [hzc, if_pos rfl]
    · rw [chan_setChan]
      split
      · rfl
      next h => rw [hzc, if_neg h]
    · rw [State.die_setChan, hzd, hd]
    · rw [State.die_setChan, hzd, hd]

theorem commandFrame_deaf {s : State} {ch : Nat} (f : CmdFrame)
    (h : (s.chan ch).lost = true ∨ (s.die (dieOf ch)).lost = true ∨ (s.die (dieOf ch)).powered = false) : commandFrame ch f s = s := by
  unfold commandFrame
  dsimp only
  refine if_pos ?_
  obtain h | h | h := h <;> simp [h]

theorem couplerFinding_dies (ch : Nat) (s : State) : (couplerFinding ch s).fld.dies = s.fld.dies := rfl

/-- A frame with a bad CRC is a finding of its channel and nothing else at the die (R312). -/
theorem commandFrame_garbled {s : State} {ch : Nat} {f : CmdFrame} (hok : f.crcOk = false) (hp : (s.die (dieOf ch)).powered = true)
    (hl : (s.die (dieOf ch)).lost = false) (hcl : (s.chan ch).lost = false) :
    ((commandFrame ch f s).chan ch).faults = (s.chan ch).faults ||| 0x40#16 ∧ ((commandFrame ch f s).chan ch).cmdAt = s.now
      ∧ latches (commandFrame ch f s) = latches s ∧ (commandFrame ch f s).fld.dies = s.fld.dies := by
  obtain ⟨x, hx⟩ : ∃ x, x = couplerFinding ch s := ⟨_, rfl⟩
  have hout : commandFrame ch f s = x.setChan ch { x.chan ch with cmdAt := s.now } := by
    unfold commandFrame
    dsimp only
    rw [if_neg (by simp [hp, hl, hcl]), if_pos (by simp [hok]), hx]
  obtain ⟨hf, -, hla, -⟩ := couplerFinding_shows ch s
  have hd := couplerFinding_dies ch s
  rw [← hx] at hf hla hd
  rw [hout, chan_setChan, if_pos rfl]
  exact ⟨hf, rfl, (latches_setChan (c := { x.chan ch with cmdAt := s.now }) rfl).trans hla, hd⟩

/-- A frame of a source whose claim is not the best changes no channel. -/
theorem commandFrame_other {s : State} {ch : Nat} {f : CmdFrame} (hok : f.crcOk = true) (hs : f.src ≠ 0)
    (hb : bestSource s (s.die (dieOf ch)) ≠ some f.src.val) (k : Nat) : (commandFrame ch f s).chan k = s.chan k := by
  unfold commandFrame
  dsimp only
  split
  · rfl
  rw [if_neg (by simp [hok]), if_pos (.inl hb), State.chan_setDie]

/-! ### Protection -/

/-- Whether a driver is on depends on its die and on its channel's latch and trip. -/
theorem driverOn_congr {s v : State} {ch : Nat} (hl : (v.chan ch).latch = (s.chan ch).latch) (ht : (v.chan ch).tripped = (s.chan ch).tripped)
    (hp : (v.die (dieOf ch)).powered = (s.die (dieOf ch)).powered) (hf : (v.die (dieOf ch)).vfldLow = (s.die (dieOf ch)).vfldLow) :
    driverOn v ch = driverOn s ch := by
  simp only [driverOn, dieLive, hl, ht, hp, hf]

theorem not_tripped_of_driving {s : State} {ch : Nat} (h : driving s ch = true) : (s.chan ch).tripped = false := by
  simp only [driving, driverOn, Bool.and_eq_true, Bool.not_eq_true'] at h
  exact h.2.1.1.2

/-- A trip latches its channel off with its finding, and leaves the others (R310, R325). -/
theorem trip_trips {s : State} {ch : Nat} (h : (s.chan ch).tripped = false) (n : Nat) :
    ((trip ch n s).chan ch).tripped = true ∧ ((trip ch n s).chan ch).latch = false ∧ ((trip ch n s).chan ch).pulseEnd = none
      ∧ ((trip ch n s).chan ch).faults = (s.chan ch).faults ||| (1#16 <<< n)
      ∧ ∀ k, k ≠ ch → (trip ch n s).chan k = s.chan k := by
  obtain ⟨c, hc⟩ : ∃ c, c = { s.chan ch with
    tripped := true, latch := false, pulseEnd := none, pulseArmed := !(s.chan ch).applied, expectAt := s.now
    zeroAt := if (s.chan ch).applied then none else (s.chan ch).zeroAt.orElse fun _ => some s.now } := ⟨_, rfl⟩
  have hout : trip ch n s = chanFault ch n (s.setChan ch c) := by
    unfold trip
    dsimp only
    rw [if_neg (by simp [h]), hc]
  have hch : (trip ch n s).chan ch = { c with faults := c.faults ||| (1#16 <<< n) } := by
    rw [hout, (chanFault_shows ..).1, chan_setChan, if_pos rfl]
  rw [hch, hc]
  refine ⟨rfl, rfl, rfl, rfl, fun k hk => ?_⟩
  rw [hout]
  refine Eq.trans (chan_setChan ..) ?_
  rw [if_neg hk, chan_setChan, if_neg hk]

theorem chan_chanFault_other {ch k : Nat} (h : k ≠ ch) (n : Nat) (s : State) : (chanFault ch n s).chan k = s.chan k :=
  (chan_setChan ..).trans (if_neg h)

theorem chan_setLoad (ch ma : Nat) (s : State) (k : Nat) :
    (setLoad ch ma s).chan k = if k = ch then { s.chan ch with loadMa := ma } else s.chan k := chan_setChan ..

theorem settleTrip_clears {now a : Nat} {c : Channel} (ha : c.zeroAt = some a) (ht : c.tripped = true) (hp : c.applied = false)
    (h : a + 10000000 ≤ now) : settleTrip now c = { c with tripped := false } := by
  unfold settleTrip
  rw [ha]
  refine if_pos ?_
  rw [ht, hp, Bool.not_false, Bool.and_true, Bool.true_and, show 10 ^ 7 = 10000000 by norm_num]
  exact decide_eq_true h

theorem settleTrip_waits {now a : Nat} {c : Channel} (ha : c.zeroAt = some a) (h : now < a + 10000000) : settleTrip now c = c := by
  unfold settleTrip
  rw [ha]
  refine if_neg ?_
  rw [show 10 ^ 7 = 10000000 by norm_num, passed, decide_eq_false (Nat.not_le.mpr h), Bool.and_false]
  exact Bool.false_ne_true

/-! ### The die's overload -/

/-- The highest current of channels that all drive, the lower number first (R310). -/
theorem highest_eq {s : State} {base j : Nat} {m : Nat → Nat} (hd : ∀ k, k < 16 → driving s (base + k) = true)
    (hm : ∀ k, k < 16 → (s.chan (base + k)).loadMa = m k) (hj : j < 16) (hle : ∀ k, k < 16 → m k ≤ m j) (hlt : ∀ k, k < j → m k < m j) :
    highest base (List.range 16) s = some (base + j) := by
  obtain ⟨f, hf⟩ : ∃ f : Option Nat → Nat → Option Nat, f = fun best k =>
    if !driving s (base + k) then best
    else match best with
      | none => some (base + k)
      | some b => if (s.chan b).loadMa < (s.chan (base + k)).loadMa then some (base + k) else some b := ⟨_, rfl⟩
  have hnone : ∀ k, k < 16 → f none k = some (base + k) := fun k hk => by
    rw [hf]
    simp [hd k hk]
  have hsome : ∀ i k, i < 16 → k < 16 → f (some (base + i)) k = if m i < m k then some (base + k) else some (base + i) := fun i k hi hk => by
    rw [hf]
    simp [hd k hk, hm i hi, hm k hk]
  have hrun : ∀ n, n ≤ 16 → (n = 0 ∧ (List.range n).foldl f none = none
      ∨ ∃ i, i < n ∧ i ≤ j ∧ (List.range n).foldl f none = some (base + i) ∧ (j < n → i = j)) := by
    intro n
    induction n with
    | zero => exact fun _ => .inl ⟨rfl, rfl⟩
    | succ n ih =>
      intro hn
      rw [List.range_succ, List.foldl_append, List.foldl_cons, List.foldl_nil]
      obtain ⟨h0, h⟩ | ⟨i, hi, hij, h, hjn⟩ := ih (by omega)
      · rw [h, hnone n (by omega)]
        exact .inr ⟨n, by omega, by omega, rfl, by omega⟩
      · rw [h, hsome i n (by omega) (by omega)]
        by_cases hlarge : m i < m n
        · rw [if_pos hlarge]
          have hnj : n ≤ j := by
            by_contra hcon
            rw [hjn (by omega)] at hlarge
            exact absurd (hle n (by omega)) (by omega)
          exact .inr ⟨n, by omega, hnj, rfl, by omega⟩
        · rw [if_neg hlarge]
          refine .inr ⟨i, by omega, hij, rfl, fun hjn' => ?_⟩
          by_cases hn' : j < n
          · exact hjn hn'
          · have hjeq : j = n := by omega
            by_contra hne
            exact hlarge (hjeq ▸ hlt i (by omega))
  obtain ⟨h0, -⟩ | ⟨i, -, -, h, hi⟩ := hrun 16 (le_refl _)
  · omega
  · have heq : highest base (List.range 16) s = (List.range 16).foldl f none := by
      rw [hf]
      rfl
    rw [heq, h, hi hj]

theorem chanStep_setLoad (n : Nat) (cs : List Nat) : ChanStep n (fun _ => True)
    (fun c x => { x with loadMa := cs.getD (c - 16 * n) 0 }) fun s k => setLoad (16 * n + k) (cs.getD k 0) s where
  keeps _ _ h := h
  chan s k c _ := by
    rw [chan_setLoad]
    split
    next h => rw [h, Nat.add_sub_cancel_left]
    next => rfl

/-- A lapsed claim is no longer heard or obeyed, and with no other the die is HOLDING (R318). -/
theorem claimLeaseExpiry_lapses {s : State} {n k : Nat} (hp : (s.die n).powered = true)
    (hh : ((s.die n).claims.get {} k).heard = true)
    (hl : ((s.die n).claims.get {} k).last + 250000 * ((s.die n).claims.get {} k).leaseQ ≤ s.now) :
    (((claimLeaseExpiry n k s).die n).claims.get {} k).heard = false ∧ ((claimLeaseExpiry n k s).die n).obeyed ≠ some k
      ∧ (((claimLeaseExpiry n k s).die n).obeyed = none → ((claimLeaseExpiry n k s).die n).holding = true) := by
  obtain ⟨d, hd⟩ : ∃ d, d = { s.die n with claims := (s.die n).claims.set {} k { (s.die n).claims.get {} k with heard := false } } :=
    ⟨_, rfl⟩
  have heq : claimLeaseExpiry n k s
      = s.setDie n { d with obeyed := bestSource s d, holding := d.holding || (bestSource s d).isNone } := by
    rw [hd]
    exact if_neg (by simp [hp, hh, passed, hl])
  have hheard : (d.claims.get {} k).heard = false := by simp [hd]
  rw [heq, State.die_setDie, if_pos rfl]
  refine ⟨hheard, fun h => ?_, fun h => ?_⟩
  · simpa [claimValid, hheard] using bestSource_valid h
  · show (d.holding || (bestSource s d).isNone) = true
    rw [show bestSource s d = none from h]
    simp

theorem trip_setLoad {s : State} {ch : Nat} (h : driving s ch = true) (n ma : Nat) :
    ((trip ch n (setLoad ch ma s)).chan ch).tripped = true ∧ ((trip ch n (setLoad ch ma s)).chan ch).latch = false
      ∧ ((trip ch n (setLoad ch ma s)).chan ch).pulseEnd = none
      ∧ ((trip ch n (setLoad ch ma s)).chan ch).faults = (s.chan ch).faults ||| (1#16 <<< n)
      ∧ ∀ k, k ≠ ch → (trip ch n (setLoad ch ma s)).chan k = s.chan k := by
  have hch : (setLoad ch ma s).chan ch = { s.chan ch with loadMa := ma } := (chan_setLoad ..).trans (if_pos rfl)
  obtain ⟨htr, hla, hpe, hfa, hot⟩ := trip_trips (s := setLoad ch ma s) (ch := ch) (by rw [hch]; exact not_tripped_of_driving h) n
  exact ⟨htr, hla, hpe, by rw [hfa, hch], fun k hk => (hot k hk).trans ((chan_setLoad ..).trans (if_neg hk))⟩

theorem readback_readsBack {s : State} {ch n : Nat} (x : Channel) (hf : x.faults = (s.chan ch).faults) :
    ((chanFault ch n (s.setChan ch x)).chan ch).faults = (s.chan ch).faults ||| (1#16 <<< n)
      ∧ ((chanFault ch n (s.setChan ch x)).chan ch).latch = x.latch
      ∧ ((chanFault ch n (s.setChan ch x)).chan ch).safOff = x.safOff
      ∧ ((chanFault ch n (s.setChan ch x)).chan ch).safSeen0 = x.safSeen0
      ∧ ((chanFault ch n (s.setChan ch x)).chan ch).pulseEnd = x.pulseEnd
      ∧ ∀ k, k ≠ ch → (chanFault ch n (s.setChan ch x)).chan k = s.chan k := by
  have hch : (s.setChan ch x).chan ch = x := (chan_setChan ..).trans (if_pos rfl)
  rw [(chanFault_shows ..).1, hch]
  exact ⟨by rw [hf], rfl, rfl, rfl, rfl, fun k hk => (chan_chanFault_other hk ..).trans ((chan_setChan ..).trans (if_neg hk))⟩

/-- The die whose total current is beyond the threshold switches its highest channel off (R310). -/
theorem dieOverload_trips {s : State} {d j th : Nat} {ma : List Nat} (hp : (s.die d).powered = true)
    (hdr : ∀ k, k < 16 → driving s (16 * d + k) = true) (hsum : max 2000 (min 2200 th) < (ma.take 16).sum) (hj : j < 16)
    (hle : ∀ k, k < 16 → ma.getD k 0 ≤ ma.getD j 0) (hlt : ∀ k, k < j → ma.getD k 0 < ma.getD j 0) :
    ((dieOverload d ma th s).chan (16 * d + j)).tripped = true ∧ ((dieOverload d ma th s).chan (16 * d + j)).latch = false
      ∧ ((dieOverload d ma th s).chan (16 * d + j)).faults.getLsbD 3 = true
      ∧ ∀ k, k < 16 → k ≠ j → ((dieOverload d ma th s).chan (16 * d + k)).latch = (s.chan (16 * d + k)).latch := by
  obtain ⟨x, hx⟩ : ∃ x, x = s.setDie d { s.die d with currentMa := (ma.take 16).sum, overload := true } := ⟨_, rfl⟩
  obtain ⟨y, hy⟩ : ∃ y, y = (List.range 16).foldl (fun s k => setLoad (16 * d + k) ((ma.take 16).getD k 0) s) x := ⟨_, rfl⟩
  have hxc : ∀ k, x.chan k = s.chan k := fun k => by rw [hx, State.chan_setDie]
  have hyc : ∀ k, k < 16 → y.chan (16 * d + k) = { s.chan (16 * d + k) with loadMa := ma.getD k 0 } := by
    intro k hk
    obtain ⟨-, h⟩ := (chanStep_setLoad d (ma.take 16)).foldl (l := List.range 16) List.nodup_range (s := x) trivial
    rw [hy, h, if_pos ⟨k, List.mem_range.mpr hk, rfl⟩, hxc, Nat.add_sub_cancel_left, List.getD_eq_getElem?_getD,
      List.getElem?_take_of_lt hk, ← List.getD_eq_getElem?_getD]
  have hyd : y.fld.dies = x.fld.dies := by
    rw [hy]
    exact foldl_keeps (fun s => s.fld.dies) (by intros; rfl) _ x
  have hdie : ∀ k, k < 16 → (y.die (dieOf (16 * d + k))).powered = (s.die (dieOf (16 * d + k))).powered
      ∧ (y.die (dieOf (16 * d + k))).vfldLow = (s.die (dieOf (16 * d + k))).vfldLow := fun k _ => by
    have h : y.die (dieOf (16 * d + k)) = x.die (dieOf (16 * d + k)) := by simp only [State.die, hyd]
    rw [h, hx, State.die_setDie]
    split
    next hn => rw [hn]; exact ⟨rfl, rfl⟩
    next => exact ⟨rfl, rfl⟩
  have hydr : ∀ k, k < 16 → driving y (16 * d + k) = true := fun k hk => by
    have hon := driverOn_congr (s := s) (v := y) (ch := 16 * d + k) (by rw [hyc k hk]) (by rw [hyc k hk]) (hdie k hk).1 (hdie k hk).2
    have h := hdr k hk
    unfold driving at h ⊢
    rw [hon, hyc k hk]
    exact h
  have hhigh := highest_eq (m := fun k => ma.getD k 0) hydr (fun k hk => by rw [hyc k hk]) hj hle hlt
  have hout : dieOverload d ma th s = trip (16 * d + j) 3 y := by
    have hcl : decide (clamp 2000 2200 th < (ma.take 16).sum) = true := decide_eq_true hsum
    unfold dieOverload
    dsimp only
    rw [if_neg (by simp [hp]), hcl, if_pos rfl, ← hx, ← hy, hhigh]
  obtain ⟨htr, hla, -, hfa, hot⟩ := trip_trips (not_tripped_of_driving (hydr j hj)) 3
  rw [hout]
  refine ⟨htr, hla, by rw [hfa]; simp, fun k hk hne => ?_⟩
  rw [hot _ (by omega), hyc k hk]

/-- A refresh sends the frame of the source that the module has now (R312). -/
theorem sendCmd_sends {s : State} {ch : Nat} {p : Fin 3 × Half} (hsv : serving s = true) (hp : cmdSource s = some p)
    (ho : ownMode (s.chan ch).owner = 0 ∨ rimeSends s = true) :
    sendCmd ch s = s.setChan ch { s.chan ch with lastCmd := some (cmdFrame p.1 p.2 s ch), cmdAt := s.now, freshOwed := false } := by
  unfold sendCmd
  rw [hp]
  refine if_pos ?_
  obtain ho | ho := ho <;> simp [hsv, ho]

theorem sendCmd_silent {s : State} {ch : Nat} (ho : ownMode (s.chan ch).owner ≠ 0) (hr : rimeSends s = false) : sendCmd ch s = s := by
  unfold sendCmd
  split
  · exact if_neg (by simp [ho, hr])
  · rfl

end Sys2Proof.Machine

open Sys2Proof Sys2Proof.Machine

/-- Settles O47: a frame of the only valid claim sets the latch of a LEVEL channel; a garbled, lost or foreign frame, a
lapsed claim and a silent Rime leave the latches; every protection goes through `trip` or `safDrop`. -/
theorem outputsFollowTheClaimAndProtectThemselves : Obligations.OutputsFollowTheClaimAndProtectThemselves := by
  unfold Obligations.OutputsFollowTheClaimAndProtectThemselves
  intro s t ch d u c
  have hchan : ∀ k, u.chan k = s.chan k := fun k => by simp [u]
  have hdie : ∀ k, u.die k = s.die k := fun k => by simp [u]
  have hdriv : ∀ k, driving u k = driving s k := fun k => by simp [u, driving, driverOn, dieLive]
  have hlat : latches u = latches s := latches_of fun k => by rw [hchan]
  have hc : c = u.chan ch := (hchan ch).symm
  refine ⟨?_, ?_, ?_, ?_, ?_, ?_, ?_, ?_, ?_, ?_, ?_, ?_, ?_, ?_, ?_, ?_⟩
  · intro f hok hp hh hl hsrc hcl hlq h1 h2 hcd hfn hsaf htr hso hown b hqx
    rw [← hdie] at hp hh hl h1 h2
    have hlq' : 0 < u.pair.leaseQ := by simpa [u] using hlq
    rw [hc] at hcd htr hso hown
    obtain ⟨x, ⟨hxl, hxa⟩, hxc, hob, hho, himg⟩ :=
      commandFrame_applied (s := u) hok hp hh hl hcd hsrc (bestSource_own hcl hlq' h1 h2)
    obtain ⟨hal, haa⟩ := applyFrame_level (now := u.now) (c := u.chan ch) hfn hsaf htr hso hown hqx
    refine ⟨_, rfl, ?_, ?_, hob, hho, fun k _ hne => ?_, himg.trans (by simp [u])⟩
    · rw [hxc, if_pos rfl, hxl, hal]
    · rw [hxc, if_pos rfl, hxa, haa]
    · rw [hxc, if_neg hne, hchan]
  · intro f hok hp hl hcd
    rw [← hdie] at hp hl
    rw [hc] at hcd
    obtain ⟨hf, hca, hla, hd⟩ := commandFrame_garbled (s := u) (ch := ch) (f := f) hok hp hl hcd
    exact ⟨_, rfl, by rw [hc]; exact hf, hca, hla.trans hlat, hd.trans (by simp [u])⟩
  · intro f h
    rw [← hdie, hc] at h
    exact congrArg Host.Outcome.next (commandFrame_deaf f h)
  · intro f hok _ hs hb
    rw [← hdie] at hb
    exact ⟨_, rfl, fun k => (commandFrame_other hok hs hb k).trans (hchan k)⟩
  · intro p hp hsv hcs ho
    rw [hc] at hp ho ⊢
    have hs' : serving u = true := by simpa [u] using hsv
    have hr : rimeSends u = rimeSends s := by simp [u, rimeSends]
    exact congrArg Host.Outcome.next ((if_pos (decide_eq_true hp)).trans (sendCmd_sends hs' hcs (by rw [hr]; exact ho)))
  · intro ho hr
    have hr' : rimeSends u = false := by simpa [u, rimeSends] using hr
    rw [hc] at ho
    refine congrArg Host.Outcome.next ?_
    split
    · exact sendCmd_silent ho hr'
    · rfl
  · intro k q hq hp hh hl
    rw [hq] at hh hl
    rw [← hdie] at hp hh hl
    obtain ⟨h1, h2, h3⟩ := claimLeaseExpiry_lapses hp hh hl
    exact ⟨_, rfl, h1, h2, h3, (claimLeaseExpiry_latches ..).trans hlat⟩
  · intro hfw hout hne hex
    have hfw' : dieFirmware u ch = true := by simpa [u] using hfw
    have hdo : driverOn u ch = driverOn s ch := by simp [u, driverOn, dieLive]
    rw [← hdo] at hne
    rw [hc] at hout hne hex ⊢
    have hall : (dieFirmware u ch && isOutput (u.chan ch).cfg && (u.chan ch).validated != driverOn u ch
        && passed u.now (u.chan ch).expectAt 2000001) = true := by
      have hp : passed u.now (u.chan ch).expectAt 2000001 = true := decide_eq_true hex
      simp only [hfw', hout, hp, Bool.true_and, Bool.and_true]
      exact bne_iff_ne.mpr hne
    refine ⟨_, congrArg Host.Outcome.next (if_pos hall), ?_, fun hs => ?_, fun hs => ?_⟩
    · split
      · exact (readback_readsBack (s := u) (ch := ch) (n := 5) (safDrop u.now (u.chan ch)) rfl).1
      · rw [(chanFault_shows ..).1]
        rfl
    · rw [if_pos hs]
      obtain ⟨-, hla, hso, -⟩ := readback_readsBack (s := u) (ch := ch) (n := 5) (safDrop u.now (u.chan ch)) rfl
      exact ⟨hla, hso⟩
    · rw [if_neg (ne_true_of_eq_false hs), (chanFault_shows ..).1]
  · intro ua th hfw hout hm hon hlt
    have hfw' : dieFirmware u ch = true := by simpa [u] using hfw
    have hdo : driverOn u ch = true := by simpa [u, driverOn, dieLive] using hon
    rw [hc] at hout hm ⊢
    have hcl : decide (ua < clamp 1000 3000 th) = true := decide_eq_true hlt
    obtain ⟨hf, hla, -⟩ := readback_readsBack (s := u) (ch := ch) (n := 4) { u.chan ch with loadMa := ua / 1000 } rfl
    have hall : (dieFirmware u ch && isOutput (u.chan ch).cfg && modeBit (u.chan ch).cfg 4 && driverOn u ch
        && decide (ua < clamp 1000 3000 th)) = true := by
      simp only [hfw', hout, hm, hdo, hcl, Bool.and_self]
    exact ⟨_, congrArg Host.Outcome.next (if_pos hall), hf, hla⟩
  · intro ma lim hdr hma
    rw [← hdriv] at hdr
    obtain ⟨htr, hla, hpe, hfa, hot⟩ := trip_setLoad hdr (bit lim) ma
    refine ⟨_, congrArg Host.Outcome.next (if_pos (Bool.and_eq_true_iff.mpr ⟨hdr, decide_eq_true hma⟩)), htr, hla, hpe, ?_, fun k hk => by rw [hot k hk, hchan]⟩
    rw [hfa, hc]
    cases lim <;> rfl
  · intro ma hdr
    rw [← hdriv] at hdr
    obtain ⟨htr, hla, hpe, hfa, -⟩ := trip_setLoad hdr 1 ma
    exact ⟨_, congrArg Host.Outcome.next (if_pos hdr), htr, hla, hpe, by rw [hfa, hc]; rfl⟩
  · intro hlv hout htr
    have hlv' : dieLive u ch = true := by simpa [u] using hlv
    rw [hc] at hout htr ⊢
    obtain ⟨x, hx⟩ : ∃ x, x = u.setChan ch { u.chan ch with hot := true } := ⟨_, rfl⟩
    have hxc : x.chan ch = { u.chan ch with hot := true } := by rw [hx, chan_setChan, if_pos rfl]
    obtain ⟨h1, h2, h3, h4, -⟩ := trip_trips (s := x) (ch := ch) (by rw [hxc]; exact htr) 2
    refine ⟨_, congrArg Host.Outcome.next ((if_pos (Bool.and_eq_true_iff.mpr ⟨hlv', hout⟩)).trans (by rw [← hx])), h1, h2, h3, ?_⟩
    rw [h4, hxc]
    rfl
  · intro ma th hp hdr hsum j hj hle hlt
    rw [← hdie] at hp
    obtain ⟨h1, h2, h3, h4⟩ := dieOverload_trips (s := u) hp (fun k hk => (hdriv _).trans (hdr k hk)) hsum hj hle hlt
    exact ⟨_, rfl, h1, h2, h3, fun k hk hne => by rw [h4 k hk hne, hchan]⟩
  · intro a ha htr hap
    rw [hc] at ha htr hap ⊢
    exact ⟨fun h => congrArg (fun x => Host.Outcome.next (u.setChan ch x)) (settleTrip_clears ha htr hap h),
      fun h => congrArg (fun x => Host.Outcome.next (u.setChan ch x)) (settleTrip_waits ha h)⟩
  · intro e he hle
    rw [hc] at he ⊢
    show execPulseEnd t ch s = _
    unfold execPulseEnd
    dsimp only
    rw [he]
    exact congrArg Host.Outcome.next (if_pos hle)
  · intro e he hle hs
    rw [hc] at he hs ⊢
    obtain ⟨h1, h2, h3, h4, h5, h6⟩ := readback_readsBack (s := u) (ch := ch) (n := 9) { safDrop u.now (u.chan ch) with safAt := none } rfl
    refine ⟨_, ?_, h2, h3, h4, h5, h1, fun k hk => by rw [h6 k hk, hchan]⟩
    show execSafTimeout t ch s = _
    unfold execSafTimeout
    dsimp only
    rw [he]
    exact congrArg Host.Outcome.next (if_pos ⟨hle, hs⟩)
end

section
/-! PROOFS. Start-up, early service and full service (R97, R266, R522, R526-R528). -/

namespace Sys2Proof.Machine

/-! ### What the steps of a start leave alone -/

@[simp] theorem sendCmd_clk_ldg (ch : Nat) (s : State) :
    (sendCmd ch s).clk = s.clk ∧ (sendCmd ch s).ldg = s.ldg := by
  unfold sendCmd
  and_intros <;> (repeat' split) <;> simp

@[simp] theorem sendAllCmds_clk_ps_ldg (s : State) :
    (sendAllCmds s).clk = s.clk ∧ (sendAllCmds s).ps = s.ps ∧ (sendAllCmds s).ldg = s.ldg := by
  unfold sendAllCmds
  and_intros <;> exact foldl_keeps _ (by intro s a; simp) _ _

@[simp] theorem raiseNow_ps_ldg (src kind : Nat) (data : Word) (s : State) :
    (raiseNow src kind data s).ps = s.ps ∧ (raiseNow src kind data s).ldg = s.ldg := by simp [raiseNow]

@[simp] theorem claimChanged_clk_ps_ldg (s : State) :
    (claimChanged s).clk = s.clk ∧ (claimChanged s).ps = s.ps ∧ (claimChanged s).ldg = s.ldg := by simp [claimChanged]

@[simp] theorem soeAppend_clk_ps_ldg (r : EvRec) (s : State) :
    (soeAppend r s).clk = s.clk ∧ (soeAppend r s).ps = s.ps ∧ (soeAppend r s).ldg = s.ldg := by
  and_intros <;> rfl

@[simp] theorem soeDrain_clk_ps_ldg (s : State) :
    (soeDrain s).clk = s.clk ∧ (soeDrain s).ps = s.ps ∧ (soeDrain s).ldg = s.ldg := 
  ⟨foldl_keeps State.clk (by simp) .., foldl_keeps State.ps (by simp) .., foldl_keeps State.ldg (by simp) ..⟩

@[simp] theorem enableClocks_power_ps_ldg_host (ns : List Nat) (s : State) :
    (enableClocks ns s).power = s.power ∧ (enableClocks ns s).ps = s.ps ∧ (enableClocks ns s).ldg = s.ldg
      ∧ (enableClocks ns s).host = s.host := by simp [enableClocks]

theorem firnRoom_keeps {α : Type} {p : State → α} (hl : ∀ v l, p { v with ldg := l } = p v) (n : Nat) (s : State) :
    p (firnRoom n s) = p s := by
  unfold firnRoom
  split
  · rfl
  · exact hl ..

theorem firnPlace_keeps {α : Type} {p : State → α} (hl : ∀ v l, p { v with ldg := l } = p v) (k n : Nat) (s : State) :
    p (firnPlace k n s) = p s :=
  (hl ..).trans (firnRoom_keeps hl ..)

theorem firnAppendRec_keeps {α : Type} {p : State → α} (hl : ∀ v l, p { v with ldg := l } = p v) (k : Nat) (r : LdgRec) (s : State) :
    p (firnAppendRec k r s) = p s :=
  (firnPlace_keeps hl ..).trans (hl ..)

/-- A key's reconciliation reaches the Ledger and the fault log alone (R439). -/
theorem reconcileKey_keeps {α : Type} {p : State → α} (hl : ∀ v l, p { v with ldg := l } = p v)
    (hf : ∀ code cls w d0 d1 v, p (logFault code cls w d0 d1 v) = p v) (k : Nat) (s : State) : p (reconcileKey k s) = p s := by
  unfold reconcileKey
  extract_lets m f putM
  have hput (r : LdgRec) (v : State) : p (putM r v) = p v := by
    dsimp only [putM]
    (repeat' split) <;> simp only [hl]
  clear_value m f putM
  dsimp only
  (repeat' split) <;> simp only [hl, hf, hput, firnAppendRec_keeps hl]

@[simp] theorem reconcileKey_frame (k : Nat) (s : State) :
    (reconcileKey k s).power = s.power ∧ (reconcileKey k s).clk = s.clk ∧ (reconcileKey k s).time = s.time
      ∧ (reconcileKey k s).ps = s.ps ∧ (reconcileKey k s).eng = s.eng ∧ (reconcileKey k s).rime = s.rime
      ∧ (reconcileKey k s).fld = s.fld ∧ (reconcileKey k s).pair = s.pair ∧ (reconcileKey k s).sec = s.sec
      ∧ (reconcileKey k s).host = s.host := by
  and_intros <;> exact reconcileKey_keeps (fun _ _ => rfl) (by intros; rfl) k s

@[simp] theorem openLedger_frame (s : State) :
    (openLedger s).power = s.power ∧ (openLedger s).clk = s.clk ∧ (openLedger s).time = s.time ∧ (openLedger s).ps = s.ps
      ∧ (openLedger s).eng = s.eng ∧ (openLedger s).rime = s.rime ∧ (openLedger s).fld = s.fld ∧ (openLedger s).pair = s.pair
      ∧ (openLedger s).sec = s.sec ∧ (openLedger s).host = s.host := by
  unfold openLedger
  dsimp only
  and_intros <;> refine (foldl_keeps _ (by intro s a; simp) _ _).trans ?_ <;> split <;> simp

theorem placeRec_keeps {α : Type} {p : State → α} (hl : ∀ v l, p { v with ldg := l } = p v) (k : Nat) (r : LdgRec) (s : State) :
    p (placeRec k r s) = p s := by
  unfold placeRec
  dsimp only
  (repeat' split) <;> simp only [hl]

@[simp] theorem placeRec_face (k : Nat) (r : LdgRec) (s : State) :
    (placeRec k r s).power = s.power ∧ (placeRec k r s).clk = s.clk ∧ (placeRec k r s).rime = s.rime
      ∧ (placeRec k r s).pair = s.pair := by
  and_intros <;> exact placeRec_keeps (fun _ _ => rfl) ..

@[simp] theorem setSlow_frame (rc : Bool) (s : State) :
    (setSlow rc s).power = s.power ∧ (setSlow rc s).time = s.time ∧ (setSlow rc s).ps = s.ps ∧ (setSlow rc s).eng = s.eng
      ∧ (setSlow rc s).rime = s.rime ∧ (setSlow rc s).fld = s.fld ∧ (setSlow rc s).pair = s.pair ∧ (setSlow rc s).ldg = s.ldg
      ∧ (setSlow rc s).sec = s.sec ∧ (setSlow rc s).host = s.host := by
  unfold setSlow
  and_intros <;> (repeat' split) <;> simp

@[simp] theorem dropToken_ps_ldg (s : State) :
    (dropToken s).ps = s.ps ∧ (dropToken s).ldg = s.ldg := by
  and_intros <;> rfl

@[simp] theorem checkToken_ps_ldg (s : State) :
    (checkToken s).ps = s.ps ∧ (checkToken s).ldg = s.ldg := by
  unfold checkToken
  and_intros <;> (repeat' split) <;> simp

@[simp] theorem latchTimeLost_ps_ldg (cause : Nat) (s : State) :
    (latchTimeLost cause s).ps = s.ps ∧ (latchTimeLost cause s).ldg = s.ldg := by simp [latchTimeLost]

@[simp] theorem trackPresence_face (at1 : Nat) (s : State) :
    (trackPresence at1 s).power = s.power ∧ (trackPresence at1 s).time = s.time ∧ (trackPresence at1 s).rime = s.rime
      ∧ (trackPresence at1 s).fld = s.fld ∧ (trackPresence at1 s).pair = s.pair := by
  unfold trackPresence
  dsimp only
  and_intros <;> (repeat' split) <;> simp

@[simp] theorem chanFault_frame (ch n : Nat) (s : State) :
    (chanFault ch n s).power = s.power ∧ (chanFault ch n s).clk = s.clk ∧ (chanFault ch n s).time = s.time
      ∧ (chanFault ch n s).ps = s.ps ∧ (chanFault ch n s).eng = s.eng ∧ (chanFault ch n s).rime = s.rime
      ∧ (chanFault ch n s).pair = s.pair ∧ (chanFault ch n s).ldg = s.ldg ∧ (chanFault ch n s).sec = s.sec
      ∧ (chanFault ch n s).host = s.host := by simp [chanFault]

@[simp] theorem configureDie_frame (n : Nat) (s : State) :
    (configureDie n s).power = s.power ∧ (configureDie n s).clk = s.clk ∧ (configureDie n s).time = s.time
      ∧ (configureDie n s).ps = s.ps ∧ (configureDie n s).eng = s.eng ∧ (configureDie n s).rime = s.rime
      ∧ (configureDie n s).pair = s.pair ∧ (configureDie n s).ldg = s.ldg ∧ (configureDie n s).sec = s.sec
      ∧ (configureDie n s).host = s.host := by
  unfold configureDie
  and_intros <;> exact foldl_keeps _ (by intro s a; simp) _ _

@[simp] theorem loadConfirm_frame (s : State) :
    (loadConfirm s).power = s.power ∧ (loadConfirm s).clk = s.clk ∧ (loadConfirm s).time = s.time ∧ (loadConfirm s).ps = s.ps
      ∧ (loadConfirm s).eng = s.eng ∧ (loadConfirm s).rime = s.rime ∧ (loadConfirm s).fld = s.fld
      ∧ (loadConfirm s).pair = s.pair ∧ (loadConfirm s).ldg = s.ldg ∧ (loadConfirm s).sec = s.sec
      ∧ (loadConfirm s).host = s.host := by
  unfold loadConfirm
  and_intros <;> split <;> simp

theorem forcePoint_keeps {α : Type} {p : State → α} (hs : ∀ v x, p { v with scan := x } = p v)
    (hf : ∀ code cls w d0 d1 v, p (logFault code cls w d0 d1 v) = p v) (op addr : Nat) (w : Word) (s : State) :
    p (forcePoint op addr w s) = p s := by
  unfold forcePoint
  split
  · rw [hf, hs]
  · split
    · rw [hf, hs]
    · rfl
  · refine (foldl_keeps p (fun v e => ?_) _ _).trans (hs ..)
    split
    · exact hf ..
    · rfl

@[simp] theorem forcePoint_frame (op addr : Nat) (v : Word) (s : State) :
    (forcePoint op addr v s).power = s.power ∧ (forcePoint op addr v s).time = s.time := by
  and_intros <;> exact forcePoint_keeps (fun _ _ => rfl) (by intros; rfl) ..

@[simp] theorem releaseForces_frame (s : State) :
    (releaseForces s).power = s.power ∧ (releaseForces s).time = s.time := by simp [releaseForces]

@[simp] theorem takeTarget_face (s : State) :
    (takeTarget s).power = s.power ∧ (takeTarget s).ps = s.ps ∧ (takeTarget s).rime = s.rime := by
  unfold takeTarget
  dsimp only
  and_intros <;> (repeat' split) <;> simp

@[simp] theorem audit_frame (event port result : Nat) (detail : Bytes) (s : State) :
    (audit event port result detail s).power = s.power ∧ (audit event port result detail s).clk = s.clk
      ∧ (audit event port result detail s).time = s.time ∧ (audit event port result detail s).ps = s.ps
      ∧ (audit event port result detail s).rime = s.rime ∧ (audit event port result detail s).fld = s.fld
      ∧ (audit event port result detail s).pair = s.pair := by
  unfold audit
  dsimp only
  and_intros <;> exact placeRec_keeps (fun _ _ => rfl) ..

@[simp] theorem openDebug_frame (port : Nat) (s : State) :
    (openDebug port s).power = s.power ∧ (openDebug port s).time = s.time ∧ (openDebug port s).rime = s.rime
      ∧ (openDebug port s).fld = s.fld ∧ (openDebug port s).pair = s.pair := by simp [openDebug]

@[simp] theorem attachWaiting_frame (s : State) :
    (attachWaiting s).power = s.power ∧ (attachWaiting s).time = s.time ∧ (attachWaiting s).rime = s.rime
      ∧ (attachWaiting s).fld = s.fld ∧ (attachWaiting s).pair = s.pair := by
  unfold attachWaiting
  dsimp only [List.foldl]
  and_intros <;> (repeat' split) <;> simp

/-- The defaults of the board configuration record reach the holdup settings, the charger's mode and the panel alone (R524). -/
theorem bcrDefaults_keeps {α : Type} {p : State → α} (hh : ∀ v a b c, p { v with power.vholdSet := a, power.chargeMa := b, power.cBoardUf := c } = p v)
    (hc : ∀ v x, p { v with cal := x } = p v) (hp : ∀ v x, p { v with panel := x } = p v) (b : Bytes) (s : State) :
    p (bcrDefaults b s) = p s := by
  unfold bcrDefaults
  extract_lets power s1 cal s2 panel
  have h1 : p s1 = p s := by
    unfold s1
    split
    · rfl
    · exact hh ..
  have h2 : p s2 = p s1 := by
    unfold s2
    split
    · rfl
    · exact hc ..
  rw [← h1, ← h2]
  split
  · rfl
  · exact hp ..

@[simp] theorem bcrDefaults_frame (b : Bytes) (s : State) :
    (bcrDefaults b s).clk = s.clk ∧ (bcrDefaults b s).time = s.time ∧ (bcrDefaults b s).ps = s.ps
      ∧ (bcrDefaults b s).eng = s.eng ∧ (bcrDefaults b s).rime = s.rime ∧ (bcrDefaults b s).fld = s.fld
      ∧ (bcrDefaults b s).pair = s.pair ∧ (bcrDefaults b s).ldg = s.ldg ∧ (bcrDefaults b s).sec = s.sec
      ∧ (bcrDefaults b s).host = s.host := by
  and_intros <;> exact bcrDefaults_keeps (by intros; rfl) (by intros; rfl) (by intros; rfl) b s

@[simp] theorem readBcr_frame (env : StartEnv) (s : State) :
    (readBcr env s).clk = s.clk ∧ (readBcr env s).time = s.time ∧ (readBcr env s).ps = s.ps ∧ (readBcr env s).eng = s.eng
      ∧ (readBcr env s).rime = s.rime ∧ (readBcr env s).fld = s.fld ∧ (readBcr env s).pair = s.pair
      ∧ (readBcr env s).ldg = s.ldg ∧ (readBcr env s).sec = s.sec ∧ (readBcr env s).host = s.host := by
  unfold readBcr
  dsimp only
  and_intros <;> (repeat' split) <;> simp

@[simp] theorem startRole_frame (s : State) :
    (startRole s).power = s.power ∧ (startRole s).clk = s.clk ∧ (startRole s).time = s.time ∧ (startRole s).ps = s.ps
      ∧ (startRole s).eng = s.eng ∧ (startRole s).fld = s.fld ∧ (startRole s).ldg = s.ldg ∧ (startRole s).sec = s.sec
      ∧ (startRole s).host = s.host := by
  unfold startRole
  and_intros <;> (repeat' split) <;> simp

@[simp] theorem startClocks_frame (s : State) :
    (startClocks s).power = s.power ∧ (startClocks s).time = s.time ∧ (startClocks s).ps = s.ps ∧ (startClocks s).eng = s.eng
      ∧ (startClocks s).rime = s.rime ∧ (startClocks s).fld = s.fld ∧ (startClocks s).pair = s.pair
      ∧ (startClocks s).ldg = s.ldg ∧ (startClocks s).sec = s.sec ∧ (startClocks s).host = s.host := by simp [startClocks]

@[simp] theorem settleClocks_frame (s : State) :
    (settleClocks s).power = s.power ∧ (settleClocks s).ps = s.ps ∧ (settleClocks s).pair = s.pair := by
  and_intros <;> rfl

@[simp] theorem loadDieFw_frame (s : State) :
    (loadDieFw s).power = s.power ∧ (loadDieFw s).clk = s.clk ∧ (loadDieFw s).time = s.time ∧ (loadDieFw s).ps = s.ps
      ∧ (loadDieFw s).eng = s.eng ∧ (loadDieFw s).rime = s.rime ∧ (loadDieFw s).pair = s.pair ∧ (loadDieFw s).ldg = s.ldg
      ∧ (loadDieFw s).sec = s.sec ∧ (loadDieFw s).host = s.host := by
  unfold loadDieFw
  and_intros <;> rfl

@[simp] theorem loadCount_frame (ch : Nat) (s : State) :
    (loadCount ch s).power = s.power ∧ (loadCount ch s).clk = s.clk ∧ (loadCount ch s).time = s.time
      ∧ (loadCount ch s).ps = s.ps ∧ (loadCount ch s).eng = s.eng ∧ (loadCount ch s).rime = s.rime
      ∧ (loadCount ch s).pair = s.pair ∧ (loadCount ch s).ldg = s.ldg ∧ (loadCount ch s).sec = s.sec
      ∧ (loadCount ch s).host = s.host := by
  unfold loadCount
  dsimp only
  and_intros <;> (repeat' split) <;> simp

@[simp] theorem startDie_frame (s : State) (n : Nat) :
    (startDie s n).power = s.power ∧ (startDie s n).clk = s.clk ∧ (startDie s n).time = s.time ∧ (startDie s n).ps = s.ps
      ∧ (startDie s n).eng = s.eng ∧ (startDie s n).rime = s.rime ∧ (startDie s n).pair = s.pair ∧ (startDie s n).ldg = s.ldg
      ∧ (startDie s n).sec = s.sec ∧ (startDie s n).host = s.host := by
  have hfold : ∀ v : State, ∀ {α : Type} (p : State → α), (∀ c w, p (loadCount c w) = p w) →
      p ((List.range 16).foldl (fun s i => loadCount (16 * n + i) s) v) = p v := fun v _ p h => foldl_keeps p (fun w i => h _ w) _ v
  unfold startDie
  dsimp only
  and_intros <;> (repeat' split) <;> simp [hfold _ State.power, hfold _ State.clk, hfold _ State.time, hfold _ State.ps, hfold _ State.eng,
    hfold _ State.rime, hfold _ State.pair, hfold _ State.ldg, hfold _ State.sec, hfold _ State.host]

@[simp] theorem noteNoProgram_frame (env : StartEnv) (s : State) :
    (noteNoProgram env s).power = s.power ∧ (noteNoProgram env s).clk = s.clk ∧ (noteNoProgram env s).time = s.time
      ∧ (noteNoProgram env s).ps = s.ps ∧ (noteNoProgram env s).eng = s.eng ∧ (noteNoProgram env s).rime = s.rime
      ∧ (noteNoProgram env s).fld = s.fld ∧ (noteNoProgram env s).pair = s.pair ∧ (noteNoProgram env s).ldg = s.ldg
      ∧ (noteNoProgram env s).sec = s.sec ∧ (noteNoProgram env s).host = s.host := by
  unfold noteNoProgram
  and_intros <;> (repeat' split) <;> simp

@[simp] theorem logTrip_frame (was : Option (Word × Nat)) (s : State) :
    (logTrip was s).power = s.power ∧ (logTrip was s).clk = s.clk ∧ (logTrip was s).time = s.time ∧ (logTrip was s).ps = s.ps
      ∧ (logTrip was s).eng = s.eng ∧ (logTrip was s).rime = s.rime ∧ (logTrip was s).fld = s.fld
      ∧ (logTrip was s).pair = s.pair ∧ (logTrip was s).ldg = s.ldg ∧ (logTrip was s).sec = s.sec
      ∧ (logTrip was s).host = s.host := by
  unfold logTrip
  and_intros <;> split <;> simp

@[simp] theorem loadFlags_frame (s : State) :
    (loadFlags s).power = s.power ∧ (loadFlags s).clk = s.clk ∧ (loadFlags s).time = s.time ∧ (loadFlags s).ps = s.ps
      ∧ (loadFlags s).eng = s.eng ∧ (loadFlags s).rime = s.rime ∧ (loadFlags s).fld = s.fld ∧ (loadFlags s).pair = s.pair
      ∧ (loadFlags s).ldg = s.ldg ∧ (loadFlags s).sec = s.sec ∧ (loadFlags s).host = s.host := by
  and_intros <;> rfl

@[simp] theorem fullTrial_frame (s : State) :
    (fullTrial s).power = s.power ∧ (fullTrial s).time = s.time ∧ (fullTrial s).rime = s.rime
      ∧ (fullTrial s).fld = s.fld ∧ (fullTrial s).pair = s.pair := by
  unfold fullTrial
  and_intros <;> (repeat' split) <;> simp

@[simp] theorem enableClocks_upd (ns : List Nat) (s : State) :
    (enableClocks ns s).upd = s.upd := by simp [enableClocks]

@[simp] theorem setSlow_upd (rc : Bool) (s : State) :
    (setSlow rc s).upd = s.upd := by
  unfold setSlow
  (repeat' split) <;> simp

@[simp] theorem dropToken_upd (s : State) :
    (dropToken s).upd = s.upd := by
  rfl

@[simp] theorem checkToken_upd (s : State) :
    (checkToken s).upd = s.upd := by
  unfold checkToken
  (repeat' split) <;> simp

@[simp] theorem latchTimeLost_upd (cause : Nat) (s : State) :
    (latchTimeLost cause s).upd = s.upd := by simp [latchTimeLost]

@[simp] theorem bcrDefaults_upd (b : Bytes) (s : State) :
    (bcrDefaults b s).upd = s.upd := by
  exact bcrDefaults_keeps (p := State.upd) (by intros; rfl) (by intros; rfl) (by intros; rfl) b s

@[simp] theorem readBcr_upd (env : StartEnv) (s : State) :
    (readBcr env s).upd = s.upd := by
  unfold readBcr
  dsimp only
  (repeat' split) <;> simp

@[simp] theorem startRole_upd (s : State) :
    (startRole s).upd = s.upd := by
  unfold startRole
  (repeat' split) <;> simp

@[simp] theorem startClocks_upd (s : State) :
    (startClocks s).upd = s.upd := by simp [startClocks]

@[simp] theorem logTrip_upd (was : Option (Word × Nat)) (s : State) :
    (logTrip was s).upd = s.upd := by
  unfold logTrip
  split <;> simp

@[simp] theorem startRelease_time (n : Nat) (c : Cause) (s : State) :
    (startRelease n c s).time = s.time := by simp [startRelease]

@[simp] theorem release_time (n : Nat) (c : Cause) (s : State) :
    (release n c s).time = s.time := by
  unfold release
  dsimp only
  (repeat' split) <;> simp

@[simp] theorem releaseOwn_time (n : Nat) (c : Cause) (s : State) :
    (releaseOwn n c s).time = s.time := by
  unfold releaseOwn
  split <;> simp

@[simp] theorem startStripe_time (n phase l : Nat) (entry : Word) (s : State) :
    (startStripe n phase l entry s).time = s.time := by
  unfold startStripe
  dsimp only
  (repeat' split) <;> simp

@[simp] theorem dispatch1_time (l c : Nat) (s : State) :
    (dispatch1 l c s).time = s.time := by
  unfold dispatch1
  (repeat' split) <;> simp

@[simp] theorem dispatch_time (s : State) :
    (dispatch s).time = s.time := by
  unfold dispatch
  exact foldl_keeps _ (by intro s a; simp) _ _

@[simp] theorem setMirrorWord_time (region addr : Nat) (v : Word) (s : State) :
    (setMirrorWord region addr v s).time = s.time := by simp [setMirrorWord]

@[simp] theorem gooseStart_frame (s : State) :
    (gooseStart s).power = s.power ∧ (gooseStart s).time = s.time := by simp [gooseStart]

@[simp] theorem resetSlot_frame (s : State) :
    (resetSlot s).power = s.power ∧ (resetSlot s).time = s.time := by simp [resetSlot]

theorem panelInitial_keeps {α : Type} {p : State → α} (h : ∀ r v, p (raise r v) = p v) (s : State) : p (panelInitial s) = p s := by
  unfold panelInitial
  dsimp only
  refine (h ..).trans ((h ..).trans ((foldl_keeps p (fun w i => h ..) _ _).trans (foldl_keeps p (fun w n => ?_) _ _)))
  split
  · exact h ..
  · rfl

@[simp] theorem panelInitial_frame (s : State) :
    (panelInitial s).power = s.power ∧ (panelInitial s).time = s.time := by
  and_intros <;> exact panelInitial_keeps (by simp) s

@[simp] theorem dualStart_frame (s : State) :
    (dualStart s).power = s.power ∧ (dualStart s).time = s.time := by simp [dualStart]

@[simp] theorem setFlags_frame (a : Nat) (w : Word) (s : State) :
    (setFlags a w s).power = s.power ∧ (setFlags a w s).time = s.time := by
  unfold setFlags
  and_intros <;> exact foldl_keeps _ (by intro s a; simp) _ _

@[simp] theorem settleHome_frame (s : State) :
    (settleHome s).power = s.power ∧ (settleHome s).time = s.time := by simp [settleHome]

theorem elim_keeps {α : Type} {p : State → α} {o : Option Word} {f : Word → State} {s : State} (h : ∀ w, p (f w) = p s) :
    p (o.elim s f) = p s := by
  cases o
  · rfl
  · exact h _

@[simp] theorem restoreRetentive_frame (s : State) :
    (restoreRetentive s).power = s.power ∧ (restoreRetentive s).time = s.time := by
  unfold restoreRetentive
  and_intros <;> exact (foldl_keeps _ (fun v e => elim_keeps (by simp)) _ _).trans ((foldl_keeps _ (fun v a => elim_keeps (by simp)) _ _).trans (by simp))

@[simp] theorem resetHome_frame (s : State) :
    (resetHome s).power = s.power ∧ (resetHome s).time = s.time := by simp [resetHome]

@[simp] theorem loadRegion_time (s : State) (l : Nat) :
    (loadRegion s l).time = s.time := by simp [loadRegion]

@[simp] theorem loadRegions_time (s : State) :
    (loadRegions s).time = s.time := by
  unfold loadRegions
  exact foldl_keeps _ (by intro s a; simp) _ _

@[simp] theorem initImage_frame (s : State) :
    (initImage s).power = s.power ∧ (initImage s).time = s.time := by
  unfold initImage
  dsimp only
  and_intros <;> simp

@[simp] theorem startTasks_frame (k : StartKind) (s : State) :
    (startTasks k s).power = s.power ∧ (startTasks k s).time = s.time := by
  and_intros <;> rfl

@[simp] theorem startProgram_frame (k : StartKind) (s : State) :
    (startProgram k s).power = s.power ∧ (startProgram k s).time = s.time := by
  unfold startProgram
  dsimp only
  and_intros <;> cases k <;> simp

@[simp] theorem stopProgram_frame (s : State) :
    (stopProgram s).power = s.power ∧ (stopProgram s).time = s.time := by
  unfold stopProgram
  dsimp only
  and_intros <;> simp

@[simp] theorem firstProgram_frame (s : State) :
    (firstProgram s).power = s.power ∧ (firstProgram s).time = s.time := by
  unfold firstProgram
  and_intros <;> split <;> simp

@[simp] theorem fullProgram_frame (s : State) :
    (fullProgram s).power = s.power ∧ (fullProgram s).time = s.time := by
  unfold fullProgram
  dsimp only
  and_intros <;> (repeat' split) <;> simp

@[simp] theorem audit_sup (event port result : Nat) (detail : Bytes) (s : State) :
    (audit event port result detail s).sup = s.sup := by
  exact placeRec_keeps (p := State.sup) (by intros; rfl) ..

@[simp] theorem openDebug_sup (port : Nat) (s : State) :
    (openDebug port s).sup = s.sup := by simp [openDebug]

@[simp] theorem attachWaiting_sup (s : State) :
    (attachWaiting s).sup = s.sup := by
  unfold attachWaiting
  dsimp only [List.foldl]
  (repeat' split) <;> simp

@[simp] theorem newPeriod_time_ps_rime_pair (s : State) :
    (newPeriod s).time = s.time ∧ (newPeriod s).ps = s.ps ∧ (newPeriod s).rime = s.rime ∧ (newPeriod s).pair = s.pair := by
  unfold newPeriod
  dsimp only
  and_intros <;> (repeat' split) <;> simp

/-! ### Sessions, clocks, banks, regions -/

theorem audit_boot (event port result : Nat) (detail : Bytes) (s : State) : (audit event port result detail s).ldg.boot = s.ldg.boot := by
  unfold audit placeRec
  dsimp only
  (repeat' split) <;> rfl

theorem sessionsEnd_keeps {α : Type} {p : State → α} (hc : ∀ v x, p { v with sec := x } = p v)
    (ha : ∀ event port result detail v, p (audit event port result detail v) = p v) (k : Restart) (s : State) :
    p (sessionsEnd k s) = p s := by
  unfold sessionsEnd
  split
  · rfl
  · refine foldl_keeps p (fun v x => ?_) _ _
    unfold endSession
    dsimp only
    split
    · exact hc ..
    · exact (ha ..).trans (hc ..)

theorem releaseForces_keeps {α : Type} {p : State → α} (hs : ∀ v x, p { v with scan := x } = p v)
    (hf : ∀ code cls w d0 d1 v, p (logFault code cls w d0 d1 v) = p v) (s : State) : p (releaseForces s) = p s :=
  forcePoint_keeps hs hf ..

/-- What a start reads of the state before it, the sessions ended and the forces released. -/
theorem startsFrom (k : Restart) (s : State) : (releaseForces (sessionsEnd k s)).ps = s.ps
    ∧ calTai (releaseForces (sessionsEnd k s)) = calTai s ∧ (releaseForces (sessionsEnd k s)).clk = s.clk
    ∧ (releaseForces (sessionsEnd k s)).ldg.boot = s.ldg.boot ∧ (releaseForces (sessionsEnd k s)).upd = s.upd := by
  refine ⟨?_, ?_, ?_, ?_, ?_⟩
  · exact (releaseForces_keeps (p := State.ps) (by intros; rfl) (by intros; rfl) _).trans
      (sessionsEnd_keeps (p := State.ps) (by intros; rfl) (by intros; simp) k s)
  · exact (releaseForces_keeps (p := calTai) (by intros; rfl) (by intros; rfl) _).trans
      (sessionsEnd_keeps (p := calTai) (by intros; rfl) (by intros; exact placeRec_keeps (p := calTai) (by intros; rfl) ..) k s)
  · exact (releaseForces_keeps (p := State.clk) (by intros; rfl) (by intros; rfl) _).trans
      (sessionsEnd_keeps (p := State.clk) (by intros; rfl) (by intros; simp) k s)
  · exact (releaseForces_keeps (p := fun s => s.ldg.boot) (by intros; rfl) (by intros; rfl) _).trans
      (sessionsEnd_keeps (p := fun s => s.ldg.boot) (by intros; rfl) audit_boot k s)
  · exact (releaseForces_keeps (p := State.upd) (by intros; rfl) (by intros; rfl) _).trans
      (sessionsEnd_keeps (p := State.upd) (by intros; rfl) (by intros; exact placeRec_keeps (p := State.upd) (by intros; rfl) ..) k s)

theorem startClocks_clk (s : State) :
    (startClocks s).clk.ready = (s.clk.ready &&& 5#6) ||| 2#6 ∧ (startClocks s).clk.xmFail = false := by
  unfold startClocks setSlow
  split <;> exact ⟨rfl, rfl⟩

/-- The selected bank starts as it is where it verifies and no trial runs (R522, R539). -/
theorem startBanks_good {k : Restart} {env : StartEnv} {s : State} (ha : env.bankABad = false) (hb : env.bankBBad = false)
    (hs : env.selectorBad = false) (ht : s.upd.trial = false) : startBanks k env s = loadDieFw s := by
  have hbank : ∀ n, bankBad env n = false := fun n => by simp [bankBad, ha, hb]
  have htrial : trialImage s = s := by
    unfold trialImage
    split
    · exact if_neg (by simp [ht])
    · rfl
  unfold startBanks badSelector bothBad trialStart selectBank
  simp [ha, hs, ht, hbank, htrial]

/-- Regions that all pass run the 4-region partition that the image has (R22, R527). -/
theorem startRegions_good {env : StartEnv} {s : State} (hf : env.regionFail = 0#4) (hr : s.power.retired = 0#4)
    (h4 : (prog s).has4 = true) : startRegions env s = { s with power.threeRegion := false } := by
  have hnone : ((List.range 4).filter fun p => env.regionFail.getLsbD p) = [] := by
    rw [hf]
    rfl
  unfold startRegions
  dsimp only
  rw [hnone, List.foldl_nil, hr, h4, if_neg, if_neg]
  · rfl
  · simp
  · simp [twoRetired]

theorem startStorm_other {k : Restart} (h : k ≠ .trip) (s : State) : startStorm k s = s := if_neg (by simp [h])

/-! ### The Ledger and the dies -/

theorem firnRoom_boot (n : Nat) (s : State) : (firnRoom n s).ldg.boot = s.ldg.boot := by
  unfold firnRoom
  split <;> rfl

theorem firnPlace_boot (k n : Nat) (s : State) : (firnPlace k n s).ldg.boot = s.ldg.boot := by
  simp only [firnPlace, firnRoom_boot]

theorem firnAppendRec_boot (k : Nat) (r : LdgRec) (s : State) : (firnAppendRec k r s).ldg.boot = s.ldg.boot := by
  simp only [firnAppendRec, firnPlace_boot]

theorem reconcileKey_boot (k : Nat) (s : State) : (reconcileKey k s).ldg.boot = s.ldg.boot := by
  unfold reconcileKey
  extract_lets m f putM l
  have hput (r : LdgRec) (v : State) : (putM r v).ldg.boot = v.ldg.boot := by
    dsimp only [putM]
    (repeat' split) <;> rfl
  clear_value m f putM
  dsimp only
  (repeat' split) <;> simp [hput, firnAppendRec_boot, l]

theorem openLedger_boot (s : State) : (openLedger s).ldg.boot = (s.ldg.boot + 1) % 2 ^ 32 := by
  unfold openLedger
  dsimp only
  refine (foldl_keeps (fun s => s.ldg.boot) (fun v k => reconcileKey_boot k v) _ _).trans ?_
  split <;> rfl

theorem startLedger_good {env : StartEnv} {s : State} (hm : env.mramBad = false) (hf : env.flashBad = false) :
    startLedger env s = loadConfirm (openLedger { s with ldg.flashFailed := false }) := by
  unfold startLedger
  rw [hm, hf]
  rfl

theorem startDie_hold (s : State) (n d : Nat) : ((startDie s n).die d).hold = (s.die d).hold := by
  have hconf : ((configureDie n s).die d).hold = (s.die d).hold := by
    have h : (configureDie n s).fld.dies = (s.setDie n { s.die n with configured := true }).fld.dies :=
      foldl_keeps (fun s => s.fld.dies) (by intros; rfl) _ _
    rw [State.die, h, ← State.die, State.die_setDie]
    split
    next hd => rw [hd]
    next => rfl
  have hcount : ∀ c v, (loadCount c v).fld.dies = v.fld.dies := fun c v => by
    unfold loadCount
    dsimp only
    split <;> rfl
  unfold startDie
  dsimp only
  split
  · rfl
  · split
    · rfl
    · split
      · exact hconf
      · rw [State.die, foldl_keeps (fun s => s.fld.dies) (fun v i => hcount _ v), ← State.die, hconf]

theorem loadDieFw_hold (s : State) (d : Nat) : ((loadDieFw s).die d).hold = (s.die d).hold := by
  unfold loadDieFw State.die
  dsimp only
  rw [Tbl.get_over _ _ (by decide)]
  split
  · split <;> rfl
  · rfl

theorem readBcr_power (env : StartEnv) (s : State) : (readBcr env s).power.service = s.power.service
    ∧ (readBcr env s).power.restart = s.power.restart ∧ (readBcr env s).power.retired = s.power.retired := by
  have hdef : ∀ b v, (bcrDefaults b v).power.service = v.power.service ∧ (bcrDefaults b v).power.restart = v.power.restart
      ∧ (bcrDefaults b v).power.retired = v.power.retired := fun b v =>
    ⟨bcrDefaults_keeps (p := fun s => s.power.service) (by intros; rfl) (by intros; rfl) (by intros; rfl) b v,
      bcrDefaults_keeps (p := fun s => s.power.restart) (by intros; rfl) (by intros; rfl) (by intros; rfl) b v,
      bcrDefaults_keeps (p := fun s => s.power.retired) (by intros; rfl) (by intros; rfl) (by intros; rfl) b v⟩
  unfold readBcr
  split
  · exact hdef ..
  · exact hdef ..

/-! ### A start where nothing fails -/

theorem checkToken_sessions (s : State) : (checkToken s).sec.sessions = s.sec.sessions := by
  unfold checkToken
  (repeat' split) <;> rfl

/-- The logic side that begins anew: what the first steps of a start leave (R97, R522). -/
structure Anew (k : Restart) (s u : State) : Prop where
  service : u.power.service = .booting
  restart : u.power.restart = none
  retired : u.power.retired = 0#4
  mono : u.time.mono = 0
  running : u.time.running = true
  tai : u.time.tai = calTai s
  prog : u.ps.prog = s.ps.prog
  sessions : u.sec.sessions = []
  mb : u.host.mb = []
  banks : u.eng.banks = []
  mode : u.rime.mode = 0
  valid : u.pair.valid = false
  boot : u.ldg.boot = s.ldg.boot
  hold : ∀ d, d < 4 → (u.die d).hold = false

theorem clearLogic_anew {k : Restart} {env : StartEnv} {s : State} (hk : keepsRetired k = false) (hp : env.programBad = false) :
    Anew k s (clearLogic k env s) where
  service := rfl
  restart := rfl
  retired := by simp [clearLogic, startPower, hk]
  mono := rfl
  running := rfl
  tai := rfl
  prog := by simp [clearLogic, hp]
  sessions := rfl
  mb := rfl
  banks := rfl
  mode := rfl
  valid := rfl
  boot := rfl
  hold d hd := by
    show ((s.fld.dies.over {} (fun d x => { x with hold := false, lost := env.dieLost.getLsbD d || x.txLost }) [0, 1, 2, 3]).get {} d).hold = false
    rw [Tbl.get_over _ _ (by decide), if_pos (by simp; omega)]

/-- A step of a start that keeps all this. -/
theorem Anew.step {k : Restart} {s u v : State} (h : Anew k s u) (hpw : v.power.service = u.power.service
    ∧ v.power.restart = u.power.restart ∧ v.power.retired = u.power.retired) (ht : v.time.mono = u.time.mono
    ∧ v.time.running = u.time.running ∧ v.time.tai = u.time.tai) (hps : v.ps = u.ps) (hsec : v.sec.sessions = u.sec.sessions)
    (hh : v.host = u.host) (he : v.eng = u.eng) (hr : v.rime.mode = u.rime.mode) (hpr : v.pair.valid = u.pair.valid)
    (hl : v.ldg.boot = u.ldg.boot) (hd : ∀ d, (v.die d).hold = (u.die d).hold) : Anew k s v where
  service := hpw.1.trans h.service
  restart := hpw.2.1.trans h.restart
  retired := hpw.2.2.trans h.retired
  mono := ht.1.trans h.mono
  running := ht.2.1.trans h.running
  tai := ht.2.2.trans h.tai
  prog := by rw [hps, h.prog]
  sessions := hsec.trans h.sessions
  mb := by rw [hh, h.mb]
  banks := by rw [he, h.banks]
  mode := hr.trans h.mode
  valid := hpr.trans h.valid
  boot := hl.trans h.boot
  hold d hlt := (hd d).trans (h.hold d hlt)

theorem Anew.readBcr {k : Restart} {s u : State} (h : Anew k s u) (env : StartEnv) : Anew k s (readBcr env u) :=
  h.step (readBcr_power ..) (by simp) (by simp) (by simp) (by simp) (by simp) (by simp) (by simp) (by simp) (by simp [State.die])

theorem startRole_mode (s : State) : (startRole s).rime.mode = 0 ∧ (startRole s).pair.valid = s.pair.valid := by
  unfold startRole
  split <;> exact ⟨rfl, rfl⟩

theorem Anew.startRole {k : Restart} {s u : State} (h : Anew k s u) : Anew k s (startRole u) :=
  h.step (by simp) (by simp) (by simp) (by simp) (by simp) (by simp) ((startRole_mode u).1.trans h.mode.symm) (startRole_mode u).2
    (by simp) (by simp [State.die])

theorem Anew.latchTimeLost {k : Restart} {s u : State} (h : Anew k s u) (n : Nat) : Anew k s (latchTimeLost n u) :=
  h.step (by simp) (by simp [Machine.latchTimeLost]) (by simp) ((checkToken_sessions _).trans rfl) (by simp) (by simp) (by simp) (by simp) (by simp)
    (by simp [State.die])

theorem Anew.logTrip {k : Restart} {s u : State} (h : Anew k s u) (was : Option (Word × Nat)) : Anew k s (logTrip was u) :=
  h.step (by simp) (by simp) (by simp) (by simp) (by simp) (by simp) (by simp) (by simp) (by simp) (by simp [State.die])

theorem Anew.startClocks {k : Restart} {s u : State} (h : Anew k s u) : Anew k s (startClocks u) :=
  h.step (by simp) (by simp) (by simp) (by simp) (by simp) (by simp) (by simp) (by simp) (by simp) (by simp [State.die])

theorem Anew.loadDieFw {k : Restart} {s u : State} (h : Anew k s u) : Anew k s (loadDieFw u) :=
  h.step (by simp) (by simp) (by simp) (by simp) (by simp) (by simp) (by simp) (by simp) (by simp) (loadDieFw_hold u)

theorem Anew.threeRegion {k : Restart} {s u : State} (h : Anew k s u) : Anew k s { u with power.threeRegion := false } :=
  h.step ⟨rfl, rfl, rfl⟩ ⟨rfl, rfl, rfl⟩ rfl rfl rfl rfl rfl rfl rfl fun _ => rfl

theorem Anew.loadFlags {k : Restart} {s u : State} (h : Anew k s u) : Anew k s (loadFlags u) :=
  h.step (by simp) (by simp) (by simp) (by simp) (by simp) (by simp) (by simp) (by simp) (by simp) (by simp [State.die])

theorem Anew.startDie {k : Restart} {s u : State} (h : Anew k s u) (n : Nat) : Anew k s (startDie u n) :=
  h.step (by simp) (by simp) (by simp) (by simp) (by simp) (by simp) (by simp) (by simp) (by simp) (startDie_hold u n)

theorem Anew.startDies {k : Restart} {s u : State} (h : Anew k s u) (l : List Nat) : Anew k s (l.foldl Machine.startDie u)
    ∧ (l.foldl Machine.startDie u).power = u.power ∧ (l.foldl Machine.startDie u).clk = u.clk := by
  induction l generalizing u with
  | nil => exact ⟨h, rfl, rfl⟩
  | cons n l ih =>
    obtain ⟨h1, h2, h3⟩ := ih (h.startDie n)
    exact ⟨h1, h2.trans (by simp), h3.trans (by simp)⟩

theorem startUpd_trial (s : State) : (startUpd s).trial = s.upd.trial := by
  unfold startUpd
  dsimp only
  split <;> rfl

/-- Where nothing failed and nothing waits, early service is next (R522, R528). -/
theorem chooseService_early {k : Restart} {env : StartEnv} {s : State} (hr : s.power.restart = none) (hk : k ≠ .recovery)
    (ha : env.bankABad = false) (hrec : env.recoveryLow = false) :
    chooseService k env s = { s with power.startReady := true, power.recoveryWait := false } := by
  unfold chooseService
  simp [hr, hk, bothBad, ha, hrec]

theorem startTable_starts {k : Restart} {env : StartEnv} {s : State} (hk : k = .power ∨ k = .holdup ∨ k = .warm ∨ k = .cold)
    (hf : env.regionFail = 0#4) (ha : env.bankABad = false) (hb : env.bankBBad = false) (hsel : env.selectorBad = false)
    (hm : env.mramBad = false) (hfl : env.flashBad = false) (hp : env.programBad = false) (hrec : env.recoveryLow = false)
    (ht : s.upd.trial = false) (h4 : (prog s).has4 = true) : ∃ u, (startTable k env s = u ∧ u.power.service = .booting
      ∧ u.power.startReady = true ∧ u.power.restart = none ∧ u.power.retired = 0#4 ∧ u.power.threeRegion = false ∧ u.time.mono = 0
      ∧ u.time.running = true ∧ u.time.tai = calTai s ∧ u.ps.prog = s.ps.prog ∧ u.sec.sessions = [] ∧ u.host.mb = [] ∧ u.eng.banks = []
      ∧ u.rime.mode = 0 ∧ u.pair.valid = false ∧ u.clk.ready = (s.clk.ready &&& 5#6) ||| 2#6 ∧ u.clk.xmFail = false
      ∧ u.ldg.boot = (s.ldg.boot + 1) % 2 ^ 32 ∧ ∀ d, d < 4 → (u.die d).hold = false) := by
  have hkt : k ≠ .trip ∧ k ≠ .recovery ∧ keepsRetired k = false := by
    obtain rfl | rfl | rfl | rfl := hk <;> exact ⟨by decide, by decide, rfl⟩
  obtain ⟨hnt, hnr, hkeep⟩ := hkt
  obtain ⟨hps, htai, hclk, hboot, hupd⟩ := startsFrom k s
  obtain ⟨s0, hs0⟩ : ∃ s0, s0 = releaseForces (sessionsEnd k s) := ⟨_, rfl⟩
  rw [← hs0] at hps htai hclk hboot hupd
  obtain ⟨first, hfirst⟩ : ∃ first : Bool, first = (decide (s.ldg.boot = 0) && s.time.timeLost) := ⟨_, rfl⟩
  obtain ⟨x1, hx1⟩ : ∃ x1, x1 = startRole (readBcr env (clearLogic k env s0)) := ⟨_, rfl⟩
  obtain ⟨x, hx⟩ : ∃ x, x = startClocks (logTrip s.sup.tripLatched (if first = true then latchTimeLost 1 x1 else x1)) := ⟨_, rfl⟩
  have hanew : Anew k s0 x := by
    have h1 : Anew k s0 x1 := hx1 ▸ ((clearLogic_anew hkeep hp).readBcr env).startRole
    have h2 : Anew k s0 (if first = true then latchTimeLost 1 x1 else x1) := by
      split
      · exact h1.latchTimeLost 1
      · exact h1
    exact hx ▸ (h2.logTrip _).startClocks
  have hxu : x.upd.trial = false := by
    have h : x.upd = startUpd s0 := by
      rw [hx, startClocks_upd, logTrip_upd, apply_ite State.upd, latchTimeLost_upd, ite_self, hx1, startRole_upd, readBcr_upd]
      rfl
    rw [h, startUpd_trial, hupd, ht]
  have hxc : x.clk.ready = (s.clk.ready &&& 5#6) ||| 2#6 ∧ x.clk.xmFail = false := by
    obtain ⟨hr, hxm⟩ := startClocks_clk (logTrip s.sup.tripLatched (if first = true then latchTimeLost 1 x1 else x1))
    have h : (logTrip s.sup.tripLatched (if first = true then latchTimeLost 1 x1 else x1)).clk = s.clk := by
      rw [(logTrip_frame ..).2.1, ← hclk]
      split <;> (rw [hx1]; simp) <;> rfl
    rw [h] at hr
    exact ⟨hx ▸ hr, hx ▸ hxm⟩
  obtain ⟨z, hz⟩ : ∃ z, z = (List.range 4).foldl startDie (loadFlags { loadDieFw x with power.threeRegion := false }) := ⟨_, rfl⟩
  obtain ⟨hza, hzp, hzc⟩ := (hanew.loadDieFw.threeRegion.loadFlags).startDies (List.range 4)
  rw [← hz] at hza hzp hzc
  obtain ⟨y, hy⟩ : ∃ y, y = noteNoProgram env (loadConfirm (openLedger { z with ldg.flashFailed := false })) := ⟨_, rfl⟩
  have hrun : startTable k env s = { y with power.startReady := true, power.recoveryWait := false } := by
    have h4' : (prog (loadDieFw x)).has4 = true := by
      rw [prog, (loadDieFw_frame x).2.2.2.1, hanew.prog, hps]
      exact h4
    have hret : (loadDieFw x).power.retired = 0#4 := hanew.loadDieFw.retired
    have hrest : y.power.restart = none := by
      rw [hy]
      simp [hzp, hanew.restart]
    rw [← chooseService_early (k := k) hrest hnr ha hrec, hy]
    unfold startTable
    dsimp only
    rw [← hs0, ← hx1, ← hfirst, ← hx, startBanks_good ha hb hsel hxu, startRegions_good hf hret h4', startStorm_other hnt, ← hz,
      startLedger_good hm hfl]
  refine ⟨_, hrun, ?_, rfl, ?_, ?_, ?_, ?_, ?_, ?_, ?_, ?_, ?_, ?_, ?_, ?_, ?_, ?_, ?_, fun d hd => ?_⟩
  · simp [hy, hza.service]
  · simp [hy, hza.restart]
  · simp [hy, hza.retired]
  · simp [hy, hzp]
  · simp [hy, hza.mono]
  · simp [hy, hza.running]
  · simp [hy, hza.tai, htai]
  · simp [hy, hza.prog, hps]
  · simp [hy, hza.sessions]
  · simp [hy, hza.mb]
  · simp [hy, hza.banks]
  · simp [hy, hza.mode]
  · simp [hy, hza.valid]
  · simp [hy, hzc, hxc.1]
  · simp [hy, hzc, hxc.2]
  · simp only [hy, (noteNoProgram_frame ..).2.2.2.2.2.2.2.2.1, (loadConfirm_frame _).2.2.2.2.2.2.2.2.1, openLedger_boot]
    rw [hza.boot, hboot]
  · have h : ({ y with power.startReady := true, power.recoveryWait := false } : State).die d = z.die d := by
      simp [State.die, hy]
    rw [h, hza.hold d hd]

/-! ### Early and full service -/

theorem takeTarget_valid (s : State) : (takeTarget s).pair.valid = s.pair.valid ∧ (takeTarget s).pair.role = s.pair.role
    ∧ (takeTarget s).sup = s.sup := by
  unfold takeTarget
  dsimp only
  split
  · exact ⟨rfl, rfl, rfl⟩
  · simp

theorem beginEarly_begins (s : State) : (beginEarly s).power.service = .early ∧ (beginEarly s).power.pwrGood = true
    ∧ (beginEarly s).rime.mode = 1 ∧ (beginEarly s).sup.tallyOn = true
    ∧ (beginEarly s).pair.valid = (s.pair.valid || decide (s.pair.role = .solo)) ∧ (beginEarly s).ps = s.ps := by
  obtain ⟨x, hx⟩ : ∃ x : State, x = { s with
    power.service := .early, power.pwrGood := true, rime.mode := 1, rime.sweepAt := s.now, panel.lrSameAt := some s.now
    sup.tallyOn := true } := ⟨_, rfl⟩
  obtain ⟨y, hy⟩ : ∃ y, y = if isSolo (takeTarget x) then claimChanged { takeTarget x with pair.valid := true } else takeTarget x :=
    ⟨_, rfl⟩
  have hrun : beginEarly s = noteState s (newPeriod y) := by
    rw [hy, hx]
    rfl
  obtain ⟨hv, hrole, hsup⟩ := takeTarget_valid x
  have hpower : y.power = x.power := by
    rw [hy]
    split <;> simp
  have hrime : y.rime = x.rime := by
    rw [hy]
    split <;> simp
  have hysup : y.sup = x.sup := by
    rw [hy]
    split <;> simp [hsup]
  have hps : y.ps = x.ps := by
    rw [hy]
    split <;> simp
  have hvalid : y.pair.valid = (s.pair.valid || decide (s.pair.role = .solo)) := by
    have hr : (takeTarget x).pair.role = s.pair.role := by rw [hrole, hx]
    have hv' : (takeTarget x).pair.valid = s.pair.valid := by rw [hv, hx]
    rw [hy, isSolo, hr]
    split
    next h => simp [h]
    next h => simp [hv', h]
  obtain ⟨-, htally, -⟩ := newPeriod_keeps y
  rw [hrun]
  refine ⟨?_, ?_, ?_, ?_, ?_, ?_⟩
  · simp [hpower, hx]
  · simp [hpower, hx]
  · simp [hrime, hx]
  · simp [htally, hysup, hx]
  · simp [hvalid]
  · simp [hps, hx]

/-- Full service, once XM is READY or has failed (R97, R522, R527). -/
theorem fullServiceStart_serves {s : State} (hst : s.power.state = .run) (hsv : s.power.service = .early)
    (hxm : s.clk.xmFail = true ∨ xmUp s = true) : (fullServiceStart s).power.service = .full
    ∧ (fullServiceStart s).power.startReady = false ∧ (fullServiceStart s).time.taiLoaded = true
    ∧ (fullServiceStart s).sup.tallyOn = true ∧ (s.pair.role = .station → (fullServiceStart s).rime.mode = 2)
    ∧ (s.pair.role = .apprentice → s.power.startStopped = false → s.ps.prog = none → (fullServiceStart s).pair.state = 1)
    ∧ (s.pair.role = .solo → s.ps.prog = none → ∀ d, d < 4 → ((fullServiceStart s).die d).hold = true) := by
  obtain ⟨x, hx⟩ : ∃ x, x = soeDrain { settleClocks s with
    power.service := .full, power.startReady := false, time.tai := calTai s, time.taiLoaded := true } := ⟨_, rfl⟩
  obtain ⟨y, hy⟩ : ∃ y, y = fullProgram x := ⟨_, rfl⟩
  have hpower : x.power = { s.power with service := .full, startReady := false } := by
    rw [hx]
    simp
  have hpair : x.pair = s.pair := by
    rw [hx]
    simp
  have hps : x.ps = s.ps := by
    rw [hx]
    simp
  have htime : x.time.taiLoaded = true := by
    rw [hx]
    simp
  obtain ⟨hyp, hyt⟩ := fullProgram_frame x
  rw [← hy] at hyp hyt
  obtain ⟨w, hw⟩ : ∃ w : State, w = { fullTrial (trackPresence s.now y) with sup.tallyOn := true } := ⟨_, rfl⟩
  have hwk : w.power = y.power ∧ w.time = y.time ∧ w.rime = y.rime ∧ w.pair = y.pair ∧ w.fld = y.fld ∧ w.sup.tallyOn = true := by
    rw [hw]
    simp
  obtain ⟨hwp, hwt, hwr, hwpr, hwf, hwn⟩ := hwk
  have hrun : fullServiceStart s = noteState s (attachWaiting (newPeriod w)) := by
    have hif : (decide (s.power.state ≠ .run) || decide (s.power.service ≠ .early) || !(xmUp s || s.clk.xmFail)) = false := by
      obtain h | h := hxm <;> simp [hst, hsv, h]
    unfold fullServiceStart
    dsimp only
    rw [if_neg (by rw [hif]; exact Bool.false_ne_true), hw, hy, hx]
  obtain ⟨-, htally, -⟩ := newPeriod_keeps w
  rw [hrun]
  refine ⟨?_, ?_, ?_, ?_, fun hr => ?_, fun hr hss hn => ?_, fun hr hn d hd => ?_⟩
  · simp [hwp, hyp, hpower]
  · simp [hwp, hyp, hpower]
  · simp [hwt, hyt, htime]
  · simp [htally, hwn]
  · have hst' : isStation x = true := by simp [isStation, hpair, hr]
    have hmode : y.rime.mode = 2 := by
      rw [hy, fullProgram]
      simp [hst']
    simp [hwr, hmode]
  · have ha : isApprentice x = true := by simp [isApprentice, hpair, hr]
    have hns : isStation x = false := by simp [isStation, hpair, hr]
    have hstate : y.pair.state = 1 := by
      rw [hy, fullProgram]
      simp [ha, hns, hps, hn, hpower, hss]
    simp [hwpr, hstate]
  · have hns : isStation x = false := by simp [isStation, hpair, hr]
    have hna : isApprentice x = false := by simp [isApprentice, hpair, hr]
    have hfld : y = holdAll { x with rime.mode := 0, scan.mode := 0 } := by
      rw [hy, fullProgram]
      simp [hns, hna, hps, hn]
    have hdie : (noteState s (attachWaiting (newPeriod w))).die d = y.die d := by
      simp [State.die, (newPeriod_begins w).2.2.2.2.1, hwf]
    rw [hdie, hfld]
    exact (die_holdAll _ hd).1

end Sys2Proof.Machine

open Sys2Proof Sys2Proof.Machine

/-- Settles O40: a start clears the logic side and every later step of the table keeps it (`Anew`); early and full service by
what their steps leave alone. -/
theorem startUpReachesService : Obligations.StartUpReachesService := by
  unfold Obligations.StartUpReachesService
  intro s t
  obtain ⟨u, hu⟩ : ∃ u, u = advance t s := ⟨_, rfl⟩
  refine ⟨?_, ?_, ?_, ?_, ?_⟩
  · intro k env hst hlow hrc htrip hrest hk hf ha hb hsel hm hfl hp hrec ht h4
    have h4' : (prog u).has4 = true := by simpa [hu, prog] using h4
    have hgo : startUp env u = startTable k env u := by
      have hp' : u.power = s.power := by simp [hu]
      have hc' : u.clk = s.clk := by simp [hu]
      unfold startUp
      rw [hp', hc', hst, hlow, hrc, htrip, hrest]
      rfl
    obtain ⟨v, hv, h⟩ := startTable_starts (env := env) (s := u) hk hf ha hb hsel hm hfl hp hrec (by simpa [hu] using ht) h4'
    refine ⟨v, congrArg Host.Outcome.next ((congrArg (startUp env) hu.symm).trans (hgo.trans hv)), ?_⟩
    simpa [hu] using h
  · intro hst hsv hready hwait
    have hif : (decide (u.power.state = .run) && decide (u.power.service = .booting) && u.power.startReady && !u.power.recoveryWait) = true := by
      simp [hu, hst, hsv, hready, hwait]
    refine ⟨_, congrArg Host.Outcome.next (if_pos (hu ▸ hif)), ?_⟩
    simpa using beginEarly_begins (advance t s)
  · intro hxm hup
    refine congrArg Host.Outcome.next (if_pos ?_)
    simp [hxm, hup]
  · intro hst hsv hxm
    have h := fullServiceStart_serves (s := u) (by simpa [hu] using hst) (by simpa [hu] using hsv) (by simpa [hu] using hxm)
    exact ⟨_, rfl, by simpa [hu] using h⟩
  · intro hw hb
    refine congrArg Host.Outcome.next (if_pos ?_)
    have hp : passed (advance t s).now (advance t s).power.bootAt (60 * 10 ^ 9) = true := by
      rw [show 60 * 10 ^ 9 = 60000000000 by norm_num]
      exact decide_eq_true (by simpa using hb)
    rw [hp, Bool.and_true]
    simpa using hw
end

section
/-! PROOFS. Updates: download, activation, trial, revert, confirmation (R531, R538, R540, R544-R549). -/

namespace Sys2Proof.Machine

/-! ### What a restart and a reverted image leave alone -/

@[simp] theorem sendCmd_upd (ch : Nat) (s : State) :
    (sendCmd ch s).upd = s.upd := by
  unfold sendCmd
  (repeat' split) <;> simp

@[simp] theorem sendAllCmds_upd (s : State) :
    (sendAllCmds s).upd = s.upd := by
  unfold sendAllCmds
  exact foldl_keeps _ (by intro s a; simp) _ _

@[simp] theorem raiseNow_upd (src kind : Nat) (data : Word) (s : State) :
    (raiseNow src kind data s).upd = s.upd := by simp [raiseNow]

@[simp] theorem claimChanged_upd (s : State) :
    (claimChanged s).upd = s.upd := by simp [claimChanged]

@[simp] theorem clearValid_upd (s : State) :
    (clearValid s).upd = s.upd := by
  unfold clearValid
  split <;> simp

@[simp] theorem soeAppend_upd (r : EvRec) (s : State) :
    (soeAppend r s).upd = s.upd := by
  rfl

@[simp] theorem soeDrain_upd (s : State) :
    (soeDrain s).upd = s.upd :=
  foldl_keeps State.upd (by simp) ..

@[simp] theorem freeBanks_upd (n : Nat) (s : State) :
    (freeBanks n s).upd = s.upd := by
  rfl

@[simp] theorem setDataWord_upd (region addr : Nat) (v : Word) (s : State) :
    (setDataWord region addr v s).upd = s.upd := by simp [setDataWord]

@[simp] theorem restoreData_upd (keys : List Nat) (s : State) :
    (restoreData keys s).upd = s.upd := by
  unfold restoreData
  exact foldl_keeps _ (by intro s a; simp) _ _

@[simp] theorem dropCycle_upd (n : Nat) (s : State) :
    (dropCycle n s).upd = s.upd := by
  unfold dropCycle
  dsimp only
  (repeat' split) <;> simp

@[simp] theorem abandonAll_upd (s : State) :
    (abandonAll s).upd = s.upd := by
  unfold abandonAll
  exact foldl_keeps _ (by intro s a; simp) _ _

@[simp] theorem renewStation_frame (old : State) (n : Nat) (s : State) :
    (renewStation old n s).power = s.power ∧ (renewStation old n s).upd = s.upd ∧ (renewStation old n s).host = s.host := by
  unfold renewStation
  dsimp only
  and_intros <;> (repeat' split) <;> simp

@[simp] theorem renewStations_frame (old s : State) :
    (renewStations old s).power = s.power ∧ (renewStations old s).upd = s.upd ∧ (renewStations old s).host = s.host := by
  unfold renewStations
  and_intros <;> exact foldl_keeps _ (by intro s a; split <;> simp) _ _

@[simp] theorem writeDump_upd (atSlumber valid : Bool) (s : State) :
    (writeDump atSlumber valid s).upd = s.upd := by
  unfold writeDump
  dsimp only
  (repeat' split) <;> simp

@[simp] theorem slumberDelta_upd (valid : Bool) (s : State) :
    (slumberDelta valid s).upd = s.upd := by
  unfold slumberDelta
  dsimp only
  (repeat' split) <;> simp

@[simp] theorem foldAll_upd (s : State) :
    (foldAll s).upd = s.upd := by simp [foldAll]

@[simp] theorem homeWrite_upd (s : State) :
    (homeWrite s).upd = s.upd := by simp [homeWrite]

@[simp] theorem powerDump_upd (fromSlumber : Bool) (s : State) :
    (powerDump fromSlumber s).upd = s.upd := by
  unfold powerDump
  dsimp only
  (repeat' split) <;> simp

@[simp] theorem stopEngines_upd (s : State) :
    (stopEngines s).upd = s.upd := by simp [stopEngines]

@[simp] theorem saveCounts_upd (s : State) :
    (saveCounts s).upd = s.upd := by simp [saveCounts]

@[simp] theorem goDown_upd (kind : Restart) (s : State) :
    (goDown kind s).upd = s.upd := by simp [goDown]

@[simp] theorem configureDie_upd (n : Nat) (s : State) :
    (configureDie n s).upd = s.upd := by
  unfold configureDie
  exact foldl_keeps _ (by intro s a; simp) _ _

@[simp] theorem startCompare_power_upd_host (old new : Tbl Rule) (s : State) :
    (startCompare old new s).power = s.power ∧ (startCompare old new s).upd = s.upd ∧ (startCompare old new s).host = s.host := by
  unfold startCompare
  and_intros <;> exact foldl_keeps _ (by intro s a; dsimp only; (repeat' split) <;> simp) _ _

@[simp] theorem setRules_frame (new : Tbl Rule) (map : Tbl Half) (s : State) :
    (setRules new map s).power = s.power ∧ (setRules new map s).upd = s.upd ∧ (setRules new map s).host = s.host := by
  simp [setRules]

theorem configured_keeps {α : Type} {p : State → α} (h : ∀ n v, p (configureDie n v) = p v) (v : State) :
    p ((List.range 4).foldl (fun w n => if (w.die n).powered then configureDie n w else w) v) = p v :=
  foldl_keeps p (fun w n => by split <;> simp [h]) _ _

@[simp] theorem installImage_frame (p : Prog) (s : State) :
    (installImage p s).power = s.power ∧ (installImage p s).upd = s.upd ∧ (installImage p s).host = s.host := by
  unfold installImage
  dsimp only
  refine ⟨?_, ?_, ?_⟩
  · exact (renewStations_frame ..).1.trans ((configured_keeps (p := State.power) (by simp) _).trans (setRules_frame ..).1)
  · exact (renewStations_frame ..).2.1.trans ((configured_keeps (p := State.upd) (by simp) _).trans (setRules_frame ..).2.1)
  · exact (renewStations_frame ..).2.2.trans ((configured_keeps (p := State.host) (by simp) _).trans (setRules_frame ..).2.2)

@[simp] theorem revertState_frame (cause : Nat) (s : State) :
    (revertState cause s).power = s.power ∧ (revertState cause s).host = s.host := by
  unfold revertState
  dsimp only
  and_intros <;> (repeat' split) <;> simp

theorem revertState_reverts (cause : Nat) (s : State) : (revertState cause s).upd.state = 6 ∧ (revertState cause s).upd.cause = cause
    ∧ (revertState cause s).upd.active = 1 - s.upd.active ∧ (revertState cause s).upd.trial = false := by
  unfold revertState
  dsimp only
  split
  · simp
  · exact ⟨rfl, rfl, rfl, rfl⟩

/-- A revert goes back to the other bank, by a restart (R540). -/
theorem revertUpdate_reverts (cause : Nat) (s : State) : (revertUpdate cause s).upd.state = 6 ∧ (revertUpdate cause s).upd.cause = cause
    ∧ (revertUpdate cause s).upd.active = 1 - s.upd.active ∧ (revertUpdate cause s).upd.trial = false
    ∧ (revertUpdate cause s).power.restart = some .update ∧ (revertUpdate cause s).host = s.host := by
  obtain ⟨h1, h2, h3, h4⟩ := revertState_reverts cause (goDown .update s)
  obtain ⟨hr, -, -, -, hh, -⟩ := goDown_down .update s
  exact ⟨h1, h2, h3.trans (by rw [goDown_upd]), h4, by rw [revertUpdate, (revertState_frame ..).1, hr],
    by rw [revertUpdate, (revertState_frame ..).2, hh]⟩

/-! ### Banks -/

theorem bankFw_setArchive (b n : Nat) (v : Option (Prog × Nat × List EpochRec)) (s : State) :
    bankFw (setArchive n v s) b = bankFw s b := by
  unfold setArchive
  split <;> rfl

theorem bankFw_setBankFw (n : Nat) (v : List Word) (s : State) : bankFw (setBankFw (1 - n) v s) (1 - n) = v
    ∧ bankFw (setBankFw (1 - n) v s) n = bankFw s n := by
  unfold setBankFw bankFw
  obtain rfl | h : n = 0 ∨ n ≠ 0 := Nat.eq_zero_or_pos n |>.imp id Nat.pos_iff_ne_zero.mp
  · exact ⟨rfl, rfl⟩
  · have h1 : 1 - n = 0 := by omega
    simp [h, h1]

theorem setArchive_keeps (n : Nat) (v : Option (Prog × Nat × List EpochRec)) (s : State) :
    (setArchive n v s).ps = s.ps ∧ (setArchive n v s).host = s.host ∧ (setArchive n v s).upd.active = s.upd.active
      ∧ (setArchive n v s).upd.state = s.upd.state := by
  unfold setArchive
  split <;> exact ⟨rfl, rfl, rfl, rfl⟩

theorem setBankFw_keeps (n : Nat) (v : List Word) (s : State) :
    (setBankFw n v s).ps = s.ps ∧ (setBankFw n v s).host = s.host ∧ (setBankFw n v s).upd.active = s.upd.active
      ∧ (setBankFw n v s).upd.state = s.upd.state := by
  unfold setBankFw
  split <;> exact ⟨rfl, rfl, rfl, rfl⟩

/-- A verified update stands in the inactive bank; the active one keeps its versions (R538, R546). -/
theorem updAccept_accepts (s : State) : (updAccept s).upd.state = 2 ∧ bankFw (updAccept s) s.upd.active = bankFw s s.upd.active
    ∧ (updAccept s).ps = s.ps ∧ (updAccept s).upd.active = s.upd.active ∧ (updAccept s).host = s.host := by
  unfold updAccept
  dsimp only
  obtain ⟨x, hx⟩ : ∃ x : State, x = { s with
    upd.state := 2, upd.parts := manifestParts (payloadOf s.upd.header s.upd.blocks)
    upd.image := updImage s (payloadOf s.upd.header s.upd.blocks) (manifestParts (payloadOf s.upd.header s.upd.blocks))
    upd.manifestTrial := hdrF (payloadOf s.upd.header s.upd.blocks) 2 2, upd.lastCmd := s.now
    upd.partnerState := if isKeeper s then 2 else 0 } := ⟨_, rfl⟩
  rw [← hx]
  obtain ⟨hp, hh, ha, hst⟩ := setBankFw_keeps (1 - s.upd.active) (newFw s (manifestParts (payloadOf s.upd.header s.upd.blocks))) x
  obtain ⟨gp, gh, ga, gst⟩ := setArchive_keeps (1 - s.upd.active) (((updImage s (payloadOf s.upd.header s.upd.blocks)
    (manifestParts (payloadOf s.upd.header s.upd.blocks))).map fun p => (p, 0, [])).orElse
      fun _ => s.ps.prog.map fun p => (p, s.ps.epoch, s.edit.applied))
    (setBankFw (1 - s.upd.active) (newFw s (manifestParts (payloadOf s.upd.header s.upd.blocks))) x)
  refine ⟨gst.trans (hst.trans (by rw [hx])), ?_, gp.trans (hp.trans (by rw [hx])), ga.trans (ha.trans (by rw [hx])),
    gh.trans (hh.trans (by rw [hx]))⟩
  rw [bankFw_setArchive, (bankFw_setBankFw ..).2, hx]
  rfl

/-! ### The commands -/

theorem bankFw_forward (code : Nat) (p : Bytes) (s : State) (b : Nat) : bankFw (forward code p s) b = bankFw s b := by
  simp [bankFw]

/-- A header that passes begins a download and erases the inactive bank (R544). -/
theorem updBegin_begins {w : Work} {s : State} (hh : headerOk 3 (field w.payload 0 4 0) (w.payload.drop 8) s = true)
    (hlen : field w.payload 0 4 0 ≤ bankBytes) (hl : loading s = false) (he : editBusy s = false) (hu : updBusy s = false)
    (hb : ∀ pr wid, Bnd.profile pr wid ∉ s.scan.bnd) (hr : updRefused s = false) : ∃ st p v, (updBegin w s = (.done st p, v)
      ∧ v.upd.state = 1 ∧ v.upd.id = (s.upd.id + 1) % 65536 ∧ v.upd.blocks = [] ∧ v.upd.header = w.payload.drop 8
      ∧ v.upd.lastCmd = s.now ∧ bankFw v (1 - s.upd.active) = [] ∧ bankFw v s.upd.active = bankFw s s.upd.active ∧ v.ps = s.ps
      ∧ v.host = s.host) := by
  have hprof : ∀ f : Bnd → Bool, (∀ b, f b = true → ∃ pr wid, b = Bnd.profile pr wid) → s.scan.bnd.any f = false := fun f hf => by
    rw [List.any_eq_false]
    intro b hmem h
    obtain ⟨pr, wid, rfl⟩ := hf b h
    exact hb pr wid hmem
  obtain ⟨x, hx⟩ : ∃ x, x = setArchive (1 - s.upd.active) none (setBankFw (1 - s.upd.active) [] s) := ⟨_, rfl⟩
  have hxp : x.ps = s.ps ∧ x.host = s.host := by
    rw [hx, (setArchive_keeps ..).1, (setArchive_keeps ..).2.1]
    exact ⟨(setBankFw_keeps ..).1, (setBankFw_keeps ..).2.1⟩
  have hxb : bankFw x (1 - s.upd.active) = [] ∧ bankFw x s.upd.active = bankFw s s.upd.active := by
    rw [hx, bankFw_setArchive, bankFw_setArchive]
    exact bankFw_setBankFw ..
  unfold updBegin
  dsimp only
  rw [← hx, hh, decide_eq_false (Nat.not_lt.mpr hlen), hl, he, hu, hr, hprof]
  · refine ⟨_, _, _, rfl, ?_⟩
    simp only [bankFw_forward, forward_frame, hxp, and_self, and_true, true_and]
    exact hxb
  · intro b h
    split at h
    · exact ⟨_, _, rfl⟩
    · exact absurd h Bool.false_ne_true

theorem updBlock_refused {w : Work} {s : State} (ha : s.pair.role ≠ .apprentice) (hk : updKnown s (field w.payload 0 2 0) = true)
    (hb : s.upd.blocks.get [] (min (field w.payload 4 4 0) (hdrBlocks s.upd.header - 1)) = [])
    (hh : blockHashOk s.upd.header s.upd.blocks (min (field w.payload 4 4 0) (hdrBlocks s.upd.header - 1)) (w.payload.drop 8) = false) :
    updBlock w s = (.done CHECK_FAILED [], { s with upd.lastCmd := s.now }) := by
  unfold updBlock
  dsimp only
  rw [if_neg (by simp [isApprentice, ha]), hk]
  simp only [takeBlock, hb, hh]
  exact checked_fail (by simp [firstStatus])

theorem updBlock_stored {w : Work} {s : State} (ha : s.pair.role ≠ .apprentice) (hk : updKnown s (field w.payload 0 2 0) = true)
    (hb : s.upd.blocks.get [] (min (field w.payload 4 4 0) (hdrBlocks s.upd.header - 1)) = [])
    (hl : blockLenOk s.upd.header (min (field w.payload 4 4 0) (hdrBlocks s.upd.header - 1)) (w.payload.drop 8).length = true)
    (hh : blockHashOk s.upd.header s.upd.blocks (min (field w.payload 4 4 0) (hdrBlocks s.upd.header - 1)) (w.payload.drop 8) = true) :
    ∃ st p, updBlock w s = (.done st p, forward 0x0E02 w.payload { s with
      upd.lastCmd := s.now, upd.blocks := s.upd.blocks.set [] (min (field w.payload 4 4 0) (hdrBlocks s.upd.header - 1)) (w.payload.drop 8) }) := by
  unfold updBlock
  dsimp only
  rw [if_neg (by simp [isApprentice, ha]), takeBlock_new hk hb hl hh]
  exact ⟨_, _, rfl⟩

/-- The module whose activation waits for the BASE boundary (R540). -/
def activates (s : State) (trialS : Nat) : State :=
  { s with upd.lastCmd := s.now, upd.state := 3, scan.bnd := s.scan.bnd ++ [.updActivate trialS] }

theorem updActivate_waits {w : Work} {s : State} (hr : updRefused s = false) (he : s.edit.state ≠ 2) (hh : s.pair.handover = none)
    (hs : s.pair.role = .solo) (hop : field w.payload 0 1 0 = 0) (hst : s.upd.state = 2) (hm : s.scan.mode = 2) :
    ∃ st p, updActivate w s = (.done st p, activates s (trialWindow s (field w.payload 2 2 0))) := by
  have hk : ∀ b, isKeeper { s with upd.lastCmd := b } = false := fun b => isKeeper_solo hs
  have hact : beginActivate (trialWindow s (field w.payload 2 2 0)) { s with upd.lastCmd := s.now } = activates s (trialWindow s (field w.payload 2 2 0)) := by
    unfold beginActivate
    rw [hk, if_neg Bool.false_ne_true]
    exact applyIfStopped_running hm
  have hop' : (if 2 < field w.payload 0 1 0 then 1 else field w.payload 0 1 0) = 0 := by rw [hop]; rfl
  unfold updActivate
  simp only [hop', hact]
  exact ⟨_, _, checked_pass (by simp [firstStatus, hst, isKeeper_solo hs, hr, he, hh])⟩

theorem updActivate_reverts {w : Work} {s : State} (hr : updRefused s = false) (he : s.edit.state ≠ 2) (hh : s.pair.handover = none)
    (hs : s.pair.role = .solo) (hop : field w.payload 0 1 0 = 1) (hst : s.upd.state = 4) :
    ∃ st p v, (updActivate w s = (.done st p, v) ∧ v.upd.state = 6 ∧ v.upd.cause = 7 ∧ v.upd.active = 1 - s.upd.active
      ∧ v.upd.trial = false ∧ v.power.restart = some .update ∧ v.host = s.host) := by
  have hk : ∀ b, isKeeper { s with upd.lastCmd := b } = false := fun b => isKeeper_solo hs
  have hact : beginRevert 7 { s with upd.lastCmd := s.now } = revertUpdate 7 { s with upd.lastCmd := s.now } := by
    unfold beginRevert
    rw [hk]
    rfl
  have hop' : (if 2 < field w.payload 0 1 0 then 1 else field w.payload 0 1 0) = 1 := by rw [hop]; rfl
  unfold updActivate
  simp only [hop', hact]
  exact ⟨_, _, _, checked_pass (by simp [firstStatus, hst, hr, he, hh]), revertUpdate_reverts 7 { s with upd.lastCmd := s.now }⟩

theorem updConfirm_confirms {w : Work} {s : State} (hst : s.upd.state = 4) (hid : s.upd.id = field w.payload 0 2 0)
    (hs : s.pair.role = .solo) (hr : updRefused s = false) :
    ∃ st p, updConfirm w s = (.done st p, confirmUpdate { s with upd.lastCmd := s.now }) := by
  unfold updConfirm
  dsimp only
  rw [forward_solo (s := confirmUpdate { s with upd.lastCmd := s.now }) hs]
  exact ⟨_, _, checked_pass (by simp [firstStatus, hst, hid, isKeeper_solo hs, hr])⟩

theorem trialExpiry_reverts {s : State} {e : Nat} (he : s.upd.trialEnd = some e) (hs : s.pair.role = .solo) (hst : s.upd.state = 4) :
    trialExpiry s = if e ≤ s.time.mono then revertUpdate 4 s else s := by
  unfold trialExpiry trialOver
  rw [he, isKeeper_solo hs]
  by_cases h : e ≤ s.time.mono <;> simp [h, hst]

end Sys2Proof.Machine

open Sys2Proof Sys2Proof.Machine

/-- Settles O57: a card per command, and the revert through `goDown` for the trial's two ends. -/
theorem updatesLoadActivateAndRevert : Obligations.UpdatesLoadActivateAndRevert := by
  unfold Obligations.UpdatesLoadActivateAndRevert
  intro s t mb w u p
  have hrole : ∀ {r : Role}, s.pair.role = r → u.pair.role = r := fun h => by simpa [u] using h
  have hupd : u.upd = s.upd := by simp [u]
  refine ⟨?_, ?_, ?_, ?_, ?_, ?_, ?_, ?_, ?_⟩
  · intro ha hh hlen hl he hub hb hr _
    obtain ⟨st, q, v, hv, h1, h2, h3, h4, h5, h6, h7, h8, h9⟩ := updBegin_begins (w := w) (s := u) (by simpa [u] using hh) hlen
      (by simpa [u] using hl) (by simpa [u] using he) (by simpa [u] using hub) (by simpa [u] using hb) (by simpa [u] using hr)
    refine ⟨_, runCommand_answers ha hv (by rw [h9]), ?_, ?_, ?_, ?_, ?_, ?_, ?_, ?_⟩
    · simp [h1]
    · simp [h2, hupd]
    · simp [h3]
    · simp [h4, p]
    · simp [h5, u]
    · simpa [bankFw, hupd] using h6
    · simpa [bankFw, hupd] using h7
    · simp [h8, u]
  · intro ha hh
    exact runCommand_answers ha (checked_fail (by simp [firstStatus, show headerOk 3 (field w.payload 0 4 0) (w.payload.drop 8) s = false from hh])) rfl
  · intro ha hap hk i hi hne
    have hap' : u.pair.role ≠ .apprentice := by simpa [u] using hap
    have hk' : updKnown u (field w.payload 0 2 0) = true := by simpa [u] using hk
    rw [hi, ← hupd]
    refine ⟨fun hb hl hh => ?_, fun hb hh => ?_⟩
    · obtain ⟨st, q, hv⟩ := updBlock_stored hap' hk' hb hl hh
      refine ⟨_, runCommand_answers ha hv (by simp [u]), ?_, ?_, ?_, fun j hj => ?_⟩
      · simp [p]
      · simp [u]
      · have hst : s.upd.id = field w.payload 0 2 0 ∧ s.upd.state = 1 := of_decide_eq_true hk
        simp [hupd, hst.2]
      · have hget := Tbl.get_set u.upd.blocks [] (p.drop 8) (min (field p 4 4 0) (hdrBlocks u.upd.header - 1)) j
        rw [if_neg hj] at hget
        simpa [p] using hget
    · exact runCommand_answers ha (updBlock_refused hap' hk' hb hh) rfl
  · intro ha hap hk
    have hap' : isApprentice u = false := by simpa [isApprentice, u] using hap
    have hk' : updKnown u (field w.payload 0 2 0) = true := by simpa [u] using hk
    have hif : ¬(isApprentice u = true ∨ (!updKnown u (field w.payload 0 2 0)) = true) := by simp [hap', hk']
    refine ⟨fun h0 => ?_, fun h0 => ?_⟩
    · obtain ⟨h1, h2, h3, h4, h5⟩ := updAccept_accepts u
      refine ⟨_, runCommand_answers ha ((if_neg hif).trans (if_pos h0)) (by rw [(forward_frame ..).2.2.2.2.2.2.2.2.2.2.2.2.2.2.2.2.2.2.2.2.2.2.2.1, h5]), ?_, ?_, ?_, ?_⟩
      · simpa using h1
      · simpa [bankFw, hupd] using h2
      · simpa [u] using h3
      · simpa [hupd] using h4
    · refine ⟨_, runCommand_answers ha ((if_neg hif).trans (if_neg h0)) (by simp [updFail]), ?_, ?_, ?_⟩
      · simp [updFail]
      · simp [updFail]
      · simp [updFail]
  · intro ha hr he hh hs
    have hr' : updRefused u = false := by simpa [u] using hr
    have he' : u.edit.state ≠ 2 := by simpa [u] using he
    have hh' : u.pair.handover = none := by simpa [u] using hh
    refine ⟨fun hop hst hm => ?_, fun hop hst => ?_⟩
    · obtain ⟨st, q, hv⟩ := updActivate_waits (w := w) hr' he' hh' (hrole hs) hop (by rw [hupd, hst]) (by simpa [u] using hm)
      refine ⟨_, runCommand_answers ha hv rfl, ?_, ?_, ?_⟩
      · simp [activates]
      · simp [activates, hupd]
      · simp [activates, trialWindow, u, p]
    · obtain ⟨st, q, v, hv, h1, h2, h3, h4, h5, h6⟩ := updActivate_reverts (w := w) hr' he' hh' (hrole hs) hop (by rw [hupd, hst])
      refine ⟨_, runCommand_answers ha hv (by rw [h6]), ?_, ?_, ?_, ?_, ?_⟩
      · simp [h1]
      · simp [h2]
      · simp [h3, hupd]
      · simp [h4]
      · simp [h5]
  · intro e he hs hst
    have hv := trialExpiry_reverts (s := u) (e := e) (by rw [hupd, he]) (hrole hs) (by rw [hupd, hst])
    refine ⟨fun h => ?_, fun h => ?_⟩
    · obtain ⟨h1, h2, h3, h4, h5, -⟩ := revertUpdate_reverts 4 u
      exact ⟨_, congrArg Host.Outcome.next (hv.trans (if_pos h)), h1, h2, h4, by rw [h3, hupd], h5⟩
    · exact congrArg Host.Outcome.next (hv.trans (if_neg (Nat.not_le.mpr h)))
  · intro ha hst hid hs hr
    obtain ⟨st, q, hv⟩ := updConfirm_confirms (w := w) (s := u) (by rw [hupd, hst]) (by rw [hupd, hid]) (hrole hs) (by simpa [u] using hr)
    refine ⟨_, runCommand_answers ha hv rfl, ?_, ?_, ?_, ?_, ?_, ?_⟩
    · simp [confirmUpdate]
    · simp [confirmUpdate]
    · simp [confirmUpdate]
    · simp [confirmUpdate]
    · simp [confirmUpdate, hupd]
    · simp [confirmUpdate, hupd]
  · intro hr hf hl
    have hall : (u.upd.refresh && fullService u && !u.ldg.flashFailed) = true := by simp [u, hr, hf, hl]
    have hb : bankFw s s.upd.active = bankFw u u.upd.active := by simp [bankFw, u]
    rw [hb]
    exact congrArg Host.Outcome.next (if_pos hall)
  · intro hst
    have hlim : passed u.now u.upd.lastCmd (60 * 10 ^ 9) = decide (s.upd.lastCmd + 60000000000 ≤ u.now) := by
      rw [hupd, show 60 * 10 ^ 9 = 60000000000 by norm_num]
      rfl
    refine ⟨fun h => ?_, fun h => ?_⟩
    · refine ⟨updFail 2 u, congrArg Host.Outcome.next (if_pos ⟨?_, ?_⟩), rfl, rfl, rfl, by simp [updFail, u]⟩
      · exact (congrArg Update.state hupd).trans hst
      · exact hlim.trans (decide_eq_true h)
    · refine congrArg Host.Outcome.next (if_neg fun hc => ?_)
      exact absurd (of_decide_eq_true (hlim.symm.trans hc.2)) (Nat.not_le.mpr h)
end

section
/-! PROOFS. The reflex plane: evaluation, delay, outputs and its stop (R255-R257, R259, R261, R267). -/

namespace Sys2Proof.Machine

/-! ### The delay stage -/

/-- The delay stage takes the result as pending, and as its output where its delay has passed (R257). -/
theorem delayStage_takes (r : Rule) (mono : Nat) (res : Bool) (q : RuleSt) :
    (delayStage r mono res q).pend = res ∧ (delayStage r mono res q).out
      = if res ≠ q.out ∧ delayDue (if res = q.pend then q.since else mono) (if res then r.onDelayUs else r.offDelayUs) ≤ mono
        then res else q.out := by
  obtain ⟨q1, hq1⟩ : ∃ q1, q1 = if res != q.pend then { q with pend := res, since := mono } else q := ⟨_, rfl⟩
  have hout : q1.out = q.out := by
    rw [hq1]
    split <;> rfl
  have hpend : q1.pend = res := by
    rw [hq1]
    split
    · rfl
    next h => exact (by simpa using h : res = q.pend).symm
  have hsince : q1.since = if res = q.pend then q.since else mono := by
    rw [hq1]
    by_cases h : res = q.pend <;> simp [h]
  unfold delayStage
  dsimp only
  rw [← hq1, ← hsince, hout]
  cases res
  · cases ho : q.out
    · simp [hpend, hout, ho]
    · by_cases hd : delayDue q1.since r.offDelayUs ≤ mono <;> simp [hpend, hout, ho, hd]
  · cases ho : q.out
    · by_cases hd : delayDue q1.since r.onDelayUs ≤ mono <;> simp [hpend, hout, ho, hd]
    · simp [hpend, hout, ho]

/-! ### A pass over one rule -/

theorem ruleOf_single {s : State} {n : Nat} {r : Rule} (h : s.rime.set = [(n, r)]) : ruleOf s n = r := by
  rw [ruleOf, h]
  simp [Tbl.get]

/-- A set of one rule without sources is evaluated by its rule alone (R258). -/
theorem evalPass_single {s : State} {n : Nat} {r : Rule} (hset : s.rime.set = [(n, r)]) (hsrc : ruleSources s n = []) :
    evalPass [n] s = evalRule n s := by
  have hdep : dependents s 16 [n] = [n] := by
    rw [dependents, hset]
    exact if_pos (by simp [Tbl.keys])
  have hord : passOrder s 17 [n] = [n] := by
    rw [passOrder]
    simp [hsrc, passOrder]
  unfold evalPass
  rw [hdep, hord]
  rfl

/-! ### What a rule's output reaches -/

theorem flagEvents_keeps {α : Type} {p : State → α} (h : ∀ r v, p (raise r v) = p v) (f : EvRec → EvRec) (changed : Nat → Option Bool)
    (s : State) : p (flagEvents f changed s) = p s := by
  refine foldl_keeps p (fun v k => ?_) _ _
  split
  · split
    · split
      · exact h ..
      · rfl
    · rfl
  · rfl

theorem flagEvent_frame (f : EvRec → EvRec) (rf : Nat) (new : Bool) (s : State) : (flagEvent f rf new s).rime = s.rime
    ∧ (flagEvent f rf new s).img = s.img ∧ (flagEvent f rf new s).fld = s.fld :=
  ⟨flagEvents_keeps (p := State.rime) (by intros; rfl) f _ s, flagEvents_keeps (p := State.img) (by intros; rfl) f _ s,
    flagEvents_keeps (p := State.fld) (by intros; rfl) f _ s⟩

theorem writeTarget_flag {s : State} {r : Rule} {i : Nat} (hi : i < 256) (ht : r.target % 4096 = 0x40 + i) (v changed : Bool) :
    (writeTarget r v changed s).rime.rules = s.rime.rules ∧ imgVal (writeTarget r v changed s) (imgAddr 6 i) = b32 v
      ∧ (writeTarget r v changed s).fld = s.fld := by
  obtain ⟨x, hx⟩ : ∃ x, x = setImg (imgAddr 6 i) (b32 v)
      { s with rime.rf := if v then s.rime.rf ||| (1#256 <<< i) else s.rime.rf &&& ~~~(1#256 <<< i) } := ⟨_, rfl⟩
  have hout : writeTarget r v changed s = if decide (imgVal s (imgAddr 6 i) ≠ 0#32) = v then x else flagEvent rimeStamp i v x := by
    have hsub : 0x40 + i - 0x40 = i := Nat.add_sub_cancel_left ..
    unfold writeTarget
    dsimp only
    rw [ht, if_neg (by omega), if_pos (by omega), hsub, hx]
  have hval : imgVal x (imgAddr 6 i) = b32 v := by
    rw [hx]
    exact (Tbl.get_set ..).trans (if_pos rfl)
  have hrules : x.rime.rules = s.rime.rules := by
    rw [hx]
    rfl
  have hfld : x.fld = s.fld := by
    rw [hx]
    rfl
  rw [hout]
  split
  · exact ⟨hrules, hval, hfld⟩
  · obtain ⟨h1, h2, h3⟩ := flagEvent_frame rimeStamp i v x
    exact ⟨by rw [h1, hrules], by rw [imgVal, h2]; exact hval, h3.trans hfld⟩

theorem sendCmd_chan (ch : Nat) (s : State) :
    ((sendCmd ch s).chan ch).ruleCmd = (s.chan ch).ruleCmd ∧ (sendCmd ch s).img = s.img ∧ ∀ k, k ≠ ch → (sendCmd ch s).chan k = s.chan k := by
  unfold sendCmd
  split
  · split
    · refine ⟨?_, rfl, fun k hk => ?_⟩
      · rw [chan_setChan, if_pos rfl]
      · rw [chan_setChan, if_neg hk]
    · exact ⟨rfl, rfl, fun _ _ => rfl⟩
  · exact ⟨rfl, rfl, fun _ _ => rfl⟩

theorem writeTarget_channel {s : State} {r : Rule} {i : Nat} (hi : i < 64) (ht : r.target % 4096 = i) (ho : ownMode (s.chan i).owner ≠ 0)
    (hm : s.rime.mode = 2) (v changed : Bool) : ((writeTarget r v changed s).chan i).ruleCmd = some v
      ∧ (writeTarget r v changed s).img = s.img ∧ ∀ k, k ≠ i → (writeTarget r v changed s).chan k = s.chan k := by
  obtain ⟨x, hx⟩ : ∃ x, x = s.setChan i { s.chan i with ruleCmd := some v } := ⟨_, rfl⟩
  have hout : writeTarget r v changed s = if (changed || decide ((s.chan i).ruleCmd ≠ some v)) = true then sendCmd i x else x := by
    unfold writeTarget
    dsimp only
    rw [ht, if_pos (by omega), if_neg (by simp [ho, hm]), hx]
  have hcmd : (x.chan i).ruleCmd = some v := by rw [hx, chan_setChan, if_pos rfl]
  have himg : x.img = s.img := by
    rw [hx]
    rfl
  have hother : ∀ k, k ≠ i → x.chan k = s.chan k := fun k hk => by rw [hx, chan_setChan, if_neg hk]
  rw [hout]
  split
  · obtain ⟨h1, h2, h3⟩ := sendCmd_chan i x
    exact ⟨h1.trans hcmd, h2.trans himg, fun k hk => (h3 k hk).trans (hother k hk)⟩
  · exact ⟨hcmd, himg, hother⟩

/-- The output of a rule whose result is known (R257). -/
def ruleGives (s : State) (r : Rule) (q : RuleSt) : Bool := (delayStage r s.time.mono (ruleResult s r) q).out

/-- What an evaluated rule leaves in its own state and at its target (R256, R257, R261). -/
theorem evalRule_gives {s : State} {n : Nat} {r : Rule} (hset : s.rime.set = [(n, r)]) (hm : s.rime.mode = 2) (hs : s.rime.stopped = false) :
    (∀ i, i < 256 → r.target % 4096 = 0x40 + i →
      ((evalRule n s).rime.rules.get {} n).out = ruleGives s r (s.rime.rules.get {} n)
        ∧ ((evalRule n s).rime.rules.get {} n).pend = ruleResult s r
        ∧ imgVal (evalRule n s) (imgAddr 6 i) = b32 (ruleGives s r (s.rime.rules.get {} n)) ∧ (evalRule n s).fld = s.fld)
    ∧ ∀ i, i < 64 → r.target % 4096 = i → ownMode (s.chan i).owner ≠ 0 →
      ((evalRule n s).chan i).ruleCmd = some (ruleGives s r (s.rime.rules.get {} n)) ∧ (evalRule n s).img = s.img
        ∧ ∀ k, k ≠ i → (evalRule n s).chan k = s.chan k := by
  obtain ⟨q1, hq1⟩ : ∃ q1, q1 = delayStage r s.time.mono (ruleResult s r) (s.rime.rules.get {} n) := ⟨_, rfl⟩
  obtain ⟨x, hx⟩ : ∃ x : State, x = { s with rime.rules := s.rime.rules.set {} n q1 } := ⟨_, rfl⟩
  have hruns : ruleRuns s r = true := by simp [ruleRuns, hm, hs]
  have hout : evalRule n s = writeTarget r q1.out (q1.out != (s.rime.rules.get {} n).out) x := by
    unfold evalRule
    dsimp only
    rw [ruleOf_single hset, if_neg (by simp [hruns]), hx, hq1]
  have hget : x.rime.rules.get {} n = q1 := by
    rw [hx]
    exact (Tbl.get_set ..).trans (if_pos rfl)
  have hpend : q1.pend = ruleResult s r := hq1 ▸ (delayStage_takes ..).1
  have hgives : ruleGives s r (s.rime.rules.get {} n) = q1.out := hq1 ▸ rfl
  rw [hout, hgives]
  refine ⟨fun i hi ht => ?_, fun i hi ht ho => ?_⟩
  · obtain ⟨h1, h2, h3⟩ := writeTarget_flag (s := x) hi ht q1.out (q1.out != (s.rime.rules.get {} n).out)
    exact ⟨by rw [h1, hget], by rw [h1, hget, hpend], h2, h3.trans (by rw [hx])⟩
  · have hxc : ∀ k, x.chan k = s.chan k := fun k => by rw [hx]; rfl
    obtain ⟨h1, h2, h3⟩ := writeTarget_channel (s := x) hi ht (by rw [hxc]; exact ho) (by rw [hx]; exact hm) q1.out
      (q1.out != (s.rime.rules.get {} n).out)
    exact ⟨h1, h2.trans (by rw [hx]), fun k hk => (h3 k hk).trans (hxc k)⟩

/-! ### The stop -/

theorem rimeStop_stops (cause : Nat) (s : State) : (rimeStop cause s).rime.stopped = true ∧ (rimeStop cause s).rime.mode = 0
    ∧ (rimeStop cause s).pair.valid = false ∧ (rimeStop cause s).power.failed = true := by
  have hrime : ∀ c v, (moduleFailure c v).rime = v.rime := fun c v => by
    unfold moduleFailure
    dsimp only
    split <;> simp
  unfold rimeStop
  rw [hrime]
  exact ⟨rfl, rfl, moduleFailure_failed ..⟩

theorem ruleEvaluation_stops {s : State} {a b : Bool} (hm : s.rime.mode ≠ 0) (hs : s.rime.stopped = false) (hv : serving s = true)
    (hab : a = false ∨ b = false) (n : Nat) : ∃ c, ruleEvaluation n a b s = rimeStop c s := by
  unfold ruleEvaluation
  rw [if_neg (by simp [hm, hs, hv])]
  cases b
  · exact ⟨1, rfl⟩
  · obtain rfl | h := hab
    · exact ⟨0, rfl⟩
    · cases h

theorem rimeSweep_stops {s : State} {a b : Bool} (hm : s.rime.mode ≠ 0) (hs : s.rime.stopped = false) (hv : serving s = true)
    (hab : a = false ∨ b = false) (hdue : s.rime.sweepAt ≤ s.now) : ∃ c, rimeSweep a b s = rimeStop c s := by
  unfold rimeSweep
  rw [if_neg (by simp [hm, hs, hv, Nat.not_lt.mpr hdue])]
  cases b
  · exact ⟨1, rfl⟩
  · obtain rfl | h := hab
    · exact ⟨0, rfl⟩
    · cases h

theorem ruleEvaluation_evaluates {s : State} (hm : s.rime.mode = 2) (hs : s.rime.stopped = false) (hv : serving s = true) (n : Nat) :
    ruleEvaluation n true true s = evalPass [n] s := by
  unfold ruleEvaluation
  rw [if_neg (by simp [hm, hs, hv])]
  rfl

theorem rimeSweep_evaluates {s : State} (hm : s.rime.mode = 2) (hs : s.rime.stopped = false) (hv : serving s = true)
    (hdue : s.rime.sweepAt ≤ s.now) : rimeSweep true true s = evalPass s.rime.set.keys { s with rime.sweepAt := nextSweep s } := by
  unfold rimeSweep
  rw [if_neg (by simp [hm, hs, hv, Nat.not_lt.mpr hdue])]
  rfl

end Sys2Proof.Machine

open Sys2Proof Sys2Proof.Machine

/-- Settles O38: evaluation, sweep and expiry are one pass over the single rule (`evalPass_single`), whose delay stage and
target give the output; an error is a module-level failure. -/
theorem reflexRulesAndTheirStop : Obligations.ReflexRulesAndTheirStop := by
  unfold Obligations.ReflexRulesAndTheirStop
  intro s t n r u q res delay since due out runs flag channel
  have hrime : u.rime = s.rime := by simp [u]
  have hgives : ruleGives u r (u.rime.rules.get {} n) = out := by
    have h := (delayStage_takes r u.time.mono (ruleResult u r) (u.rime.rules.get {} n)).2
    rw [hrime] at h ⊢
    exact h
  have hone : ∀ x : State, runs → x.rime.set = u.rime.set → x.rime.mode = u.rime.mode → x.rime.stopped = u.rime.stopped →
      ruleSources x n = ruleSources u n → x.rime.rules = u.rime.rules → ruleResult x r = ruleResult u r → x.time = u.time →
      x.fld = u.fld → x.img = u.img → ∀ c, exec c s = .next (evalPass [n.val] x) → flag c ∧ channel c := by
    rintro x ⟨hm, hst, -, hset, hsrc⟩ h1 h2 h3 h4 h5 h6 h7 h8 h9 c hc
    have hset' : x.rime.set = [(n.val, r)] := by rw [h1, hrime, hset]
    have hsrc' : ruleSources x n = [] := by rw [h4]; simpa [u] using hsrc
    have hchan : ∀ k, x.chan k = s.chan k := fun k => by simp [State.chan, h8, u]
    obtain ⟨hf, hch⟩ := evalRule_gives hset' (by rw [h2, hrime, hm]) (by rw [h3, hrime, hst])
    have hg : ruleGives x r (x.rime.rules.get {} n) = out := by
      rw [← hgives, ruleGives, ruleGives, h5, h6, h7]
    rw [evalPass_single hset' hsrc'] at hc
    rw [hg] at hf hch
    refine ⟨fun i hi ht => ?_, fun i hi ht ho => ?_⟩
    · obtain ⟨g1, g2, g3, g4⟩ := hf i hi ht
      exact ⟨_, hc, g1, g2.trans h6, g3, g4.trans (h8.trans (by simp [u]))⟩
    · obtain ⟨g1, g2, g3⟩ := hch i hi ht (by rw [hchan]; exact ho)
      exact ⟨_, hc, g1, g2.trans (h9.trans (by simp [u])), fun k hk => (g3 k hk).trans (hchan k)⟩
  have hserve : serving s = true → serving u = true := fun h => by simpa [u] using h
  refine ⟨fun hr => ?_, fun hr => ?_, fun hr hd => ?_, fun a b hlt => ?_, ?_, ?_⟩
  · obtain ⟨hm, hst, hv, -⟩ := id hr
    exact hone u hr rfl rfl rfl rfl rfl rfl rfl rfl rfl _
      (congrArg Host.Outcome.next (ruleEvaluation_evaluates (by rw [hrime, hm]) (by rw [hrime, hst]) (hserve hv) n))
  · obtain ⟨hm, hst, hv, -⟩ := id hr
    exact hone u hr rfl rfl rfl rfl rfl rfl rfl rfl rfl _
      (congrArg Host.Outcome.next (ruleEvaluation_evaluates (by rw [hrime, hm]) (by rw [hrime, hst]) (hserve hv) n))
  · obtain ⟨hm, hst, hv, hset, -⟩ := id hr
    have hsw := rimeSweep_evaluates (s := u) (by rw [hrime, hm]) (by rw [hrime, hst]) (hserve hv) (by rw [hrime]; exact hd)
    have hkeys : u.rime.set.keys = [n.val] := by rw [hrime, hset]; rfl
    rw [hkeys] at hsw
    exact hone { u with rime.sweepAt := nextSweep u } hr rfl rfl rfl rfl rfl rfl rfl rfl rfl _ (congrArg Host.Outcome.next hsw)
  · refine congrArg Host.Outcome.next (if_pos ?_)
    have h : u.now < u.rime.sweepAt := by rw [hrime]; exact hlt
    exact .inr (.inr (.inr h))
  · rintro a b hm hst hv hab c (rfl | rfl | ⟨rfl, hd⟩)
    · obtain ⟨k, hk⟩ := ruleEvaluation_stops (s := u) (by rw [hrime]; exact hm) (by rw [hrime, hst]) (hserve hv) hab n
      exact ⟨_, congrArg Host.Outcome.next hk, rimeStop_stops ..⟩
    · obtain ⟨k, hk⟩ := ruleEvaluation_stops (s := u) (by rw [hrime]; exact hm) (by rw [hrime, hst]) (hserve hv) hab n
      exact ⟨_, congrArg Host.Outcome.next hk, rimeStop_stops ..⟩
    · obtain ⟨k, hk⟩ := rimeSweep_stops (s := u) (by rw [hrime]; exact hm) (by rw [hrime, hst]) (hserve hv) hab (by rw [hrime]; exact hd)
      exact ⟨_, congrArg Host.Outcome.next hk, rimeStop_stops ..⟩
  · intro ch a c hc hat hin hreads hf hle
    have hc' : c = settleReflex u.now (u.chan ch) := by rw [hc]; simp [u]
    have hall : (isInput c.cfg && ruleReads u ch && !c.faults.getLsbD 8 && passed u.now a (filterNs c.cfg + 1000001)) = true := by
      have hp : passed u.now a (filterNs c.cfg + 1000001) = true := decide_eq_true hle
      have hr : ruleReads u ch = true := by simpa [u] using hreads
      rw [hin, hr, hf, hp]
      rfl
    refine congrArg Host.Outcome.next ?_
    show reflexDisagree ch u = _
    unfold reflexDisagree
    dsimp only
    rw [← hc', hat]
    exact if_pos hall
end

section
/-! PROOFS. Sessions, lifecycle, keys and tokens (R338, R495-R507, R513-R521). -/

namespace Sys2Proof.Machine

/-! ### What a restart and the outputs' zero leave alone -/

@[simp] theorem outOfStep_frame (cause : Nat) (s : State) :
    (outOfStep cause s).panel = s.panel ∧ (outOfStep cause s).sec = s.sec ∧ (outOfStep cause s).host = s.host := by
  unfold outOfStep
  and_intros <;> split <;> simp

@[simp] theorem couplerFinding_panel_sec (ch : Nat) (s : State) :
    (couplerFinding ch s).panel = s.panel ∧ (couplerFinding ch s).sec = s.sec := by simp [couplerFinding]

@[simp] theorem stopEngines_frame (s : State) :
    (stopEngines s).panel = s.panel ∧ (stopEngines s).sec = s.sec := by simp [stopEngines]

@[simp] theorem saveCounts_frame (s : State) :
    (saveCounts s).panel = s.panel ∧ (saveCounts s).sec = s.sec := by simp [saveCounts]

@[simp] theorem goDown_frame (kind : Restart) (s : State) :
    (goDown kind s).panel = s.panel ∧ (goDown kind s).sec = s.sec := by simp [goDown]

@[simp] theorem commandFrame_frame (ch : Nat) (f : CmdFrame) (s : State) :
    (commandFrame ch f s).panel = s.panel ∧ (commandFrame ch f s).sec = s.sec ∧ (commandFrame ch f s).host = s.host := by
  unfold commandFrame
  dsimp only
  and_intros <;> (repeat' split) <;> simp

@[simp] theorem debugRestart_frame (s : State) :
    (debugRestart s).panel = s.panel ∧ (debugRestart s).host = s.host := by
  simp [debugRestart, (goDown_down ..).2.2.2.2.1]

@[simp] theorem commandZero_frame (s : State) :
    (commandZero s).panel = s.panel ∧ (commandZero s).sec = s.sec ∧ (commandZero s).host = s.host := by
  unfold commandZero
  split
  · and_intros <;> exact foldl_keeps _ (by intro s a; simp) _ _
  · exact ⟨rfl, rfl, rfl⟩

/-! ### The audit log and the end of sessions -/

theorem audit_keeps {α : Type} {p : State → α} (hl : ∀ v l, p { v with ldg := l } = p v) (hc : ∀ v x, p { v with sec := x } = p v)
    (event port result : Nat) (detail : Bytes) (s : State) : p (audit event port result detail s) = p s :=
  (hc ..).trans (placeRec_keeps hl ..)

/-- An audit entry is the newest of the log, and nothing else of the security state changes (R515). -/
theorem audit_sec (event port result : Nat) (detail : Bytes) (s : State) : (audit event port result detail s).sec = { s.sec with
    audit := ({ tai := s.time.tai, seq := s.sec.auditSeq, event := event, port := port, result := result, detail := detail }
      :: s.sec.audit).take 1024, auditSeq := (s.sec.auditSeq + 1) % 2 ^ 32 } := by
  unfold audit
  dsimp only
  rw [placeRec_keeps (p := State.sec) (by intros; rfl)]

theorem endSession_keeps {α : Type} {p : State → α} (hl : ∀ v l, p { v with ldg := l } = p v) (hc : ∀ v x, p { v with sec := x } = p v)
    (x : Session) (s : State) : p (endSession x s) = p s := by
  unfold endSession
  dsimp only
  split
  · exact hc ..
  · exact (audit_keeps hl hc ..).trans (hc ..)

theorem endSessions_keeps {α : Type} {p : State → α} (hl : ∀ v l, p { v with ldg := l } = p v) (hc : ∀ v x, p { v with sec := x } = p v)
    (xs : List Session) (s : State) : p (endSessions xs s) = p s :=
  foldl_keeps p (fun v x => endSession_keeps hl hc x v) xs s

/-- A session's end reaches the sessions and the audit log alone (R505, R515). -/
theorem endSession_sec {α : Type} {p : Secure → α} (hs : ∀ v x, p { v with sessions := x } = p v)
    (ha : ∀ v a n, p { v with audit := a, auditSeq := n } = p v) (x : Session) (s : State) : p (endSession x s).sec = p s.sec := by
  unfold endSession
  dsimp only
  split
  · exact hs ..
  · rw [audit_sec, ha, hs]

theorem endSessions_sec {α : Type} {p : Secure → α} (hs : ∀ v x, p { v with sessions := x } = p v)
    (ha : ∀ v a n, p { v with audit := a, auditSeq := n } = p v) (xs : List Session) (s : State) : p (endSessions xs s).sec = p s.sec :=
  foldl_keeps (fun s => p s.sec) (fun v x => endSession_sec hs ha x v) xs s

theorem endSession_sessions (x : Session) (s : State) : (endSession x s).sec.sessions = s.sec.sessions.filter fun y => y.id ≠ x.id := by
  unfold endSession
  dsimp only
  split
  · rfl
  · rw [audit_sec]

theorem endSessions_sessions (xs : List Session) (s : State) :
    (endSessions xs s).sec.sessions = s.sec.sessions.filter fun y => decide (∀ x ∈ xs, y.id ≠ x.id) := by
  unfold endSessions
  induction xs generalizing s with
  | nil => simp
  | cons x xs ih =>
    rw [List.foldl_cons, ih, endSession_sessions, List.filter_filter]
    refine List.filter_congr fun y _ => ?_
    simp [Bool.and_comm]

theorem endSession_granted {x : Session} (h : x.pending = false) (s : State) :
    ∃ e, (endSession x s).sec.audit.head? = some e ∧ e.event = 3 ∧ e.port = bit x.usb := by
  unfold endSession
  dsimp only
  rw [if_neg (by simp [h]), audit_sec]
  exact ⟨_, rfl, rfl, rfl⟩

theorem endSession_pending {x : Session} (h : x.pending = true) (s : State) :
    endSession x s = { s with sec.sessions := s.sec.sessions.filter fun y => y.id ≠ x.id } := if_pos h

/-! ### Tokens -/

/-- A token outside its window goes, and with it the sessions of level 1 of a SEALED module (R514). -/
theorem checkToken_expires {s : State} {k : Token} (hk : s.sec.token = some k) (hl : s.time.timeLost = false)
    (hn : k.notBefore ≤ s.time.tai) : checkToken s = if k.notAfter < s.time.tai then dropToken s else s := by
  unfold checkToken
  rw [hk]
  by_cases h : k.notAfter < s.time.tai <;> simp [hl, h, hn]

theorem dropToken_dbg {s : State} (h : s.sec.life = .sealed) (p : Nat) : (dropToken s).sec.dbg.get 0 p ≠ 1 :=
  Tbl.get_mapVal (d := 0) (f := fun _ v => if v = 1 ∧ s.sec.life = .sealed then 0 else v) (P := fun v => v ≠ 1) (by simp)
    (fun _ v => by by_cases hv : v = 1 <;> simp [hv, h]) s.sec.dbg p

theorem loadToken_armed {s : State} {k : Bytes} (hl : s.sec.life = .sealed) (ht : s.time.timeLost = false) (hh : inHoldup s = false)
    (hp : presenceValid s = true) (hk : tokenOk s k = true) (port : Nat) : ∃ v x, (loadToken k port s = (DONE, v)
      ∧ v.sec.token = some x ∧ x.ports = BitVec.ofNat 8 (hdrF k 7 1) ∧ x.notBefore = hdrF k 0x38 8 ∧ x.notAfter = hdrF k 0x40 8
      ∧ v.panel.presence = none ∧ v.host = s.host) := by
  unfold loadToken
  dsimp only
  rw [hl, ht, hh, hp, hk]
  refine ⟨_, { ports := BitVec.ofNat 8 (hdrF k 7 1), notBefore := hdrF k 0x38 8, notAfter := hdrF k 0x40 8, serial := w32 (hdrF k 0x48 4) },
    rfl, ?_, rfl, rfl, rfl, ?_, ?_⟩
  · rw [audit_sec]
  · rw [audit_keeps (p := State.panel) (by intros; rfl) (by intros; rfl)]
    rfl
  · rw [audit_keeps (p := State.host) (by intros; rfl) (by intros; rfl)]
    rfl

theorem loadToken_refused {s : State} {k : Bytes} (hl : s.sec.life = .sealed) (ht : s.time.timeLost = false) (hh : inHoldup s = false)
    (hp : presenceValid s = true) (hk : tokenOk s k = false) (port : Nat) : ∃ v, (loadToken k port s = (CHECK_FAILED, v)
      ∧ v.sec.token = s.sec.token ∧ v.panel.presence = none ∧ v.host = s.host) := by
  unfold loadToken
  dsimp only
  rw [hl, ht, hh, hp, hk]
  refine ⟨_, rfl, ?_, ?_, ?_⟩
  · rw [audit_sec]
    rfl
  · rw [audit_keeps (p := State.panel) (by intros; rfl) (by intros; rfl)]
    rfl
  · rw [audit_keeps (p := State.host) (by intros; rfl) (by intros; rfl)]
    rfl

/-! ### Opening and authenticating -/

theorem finish_sec (w : Work) (st : Nat) (p : Bytes) (s : State) : (finish w st p s).sec = s.sec := by simp


/-- A command that answers, whatever it did to the queue. -/
theorem runCommand_ends {s s1 : State} {t mb code st : Nat} {w : Work} {p : Bytes} {f : Work → State → Reply × State}
    (h : Asks s mb code w) (hf : f w (advance t s) = (.done st p, s1)) : ∃ w', runCommand t mb code f s = finish w' st p s1 := by
  simp only [runCommand, findRequest_advance, h.1, hf]
  exact ⟨_, rfl⟩

theorem drawBytes_keeps {α : Type} {p : State → α} (h : ∀ v x, p { v with eng := x } = p v) (n : Nat) (s : State) :
    p (drawBytes n s).2 = p s := by
  induction n generalizing s with
  | zero => rfl
  | succ n ih => exact (ih _).trans (h ..)

theorem identitySig_keeps {α : Type} {p : State → α} (h : ∀ v x, p { v with eng := x } = p v) (m : Bytes) (s : State) :
    p (identitySig m s).2 = p s := by
  unfold identitySig
  split
  · exact drawBytes_keeps h ..
  · rfl

theorem w32_ne_zero {n : Nat} (h : n % 2 ^ 32 ≠ 0) : w32 n ≠ 0#32 := by
  intro hz
  have := congrArg BitVec.toNat hz
  simp only [w32, BitVec.toNat_ofNat] at this
  exact h (by simpa using this)

theorem sesOpen_opens {w : Work} {s : State} {role cred : Nat} (hr : role = if 3 < field w.payload 0 1 0 then 0 else field w.payload 0 1 0)
    (hcr : cred = field w.payload 1 1 4) (hc : credentialOk s cred role = true) (hn : s.sec.sessions.length < 8)
    (hl : lockedOut (isUsbMb w.mb) s = false) : ∃ st p v x, (sesOpen w s = (.done st p, v) ∧ v.sec.sessions = s.sec.sessions ++ [x]
      ∧ x.id ≠ 0#32 ∧ x.role = role ∧ x.cred = cred ∧ x.idleS = clamp 60 3600 (field w.payload 2 2 600) ∧ x.usb = isUsbMb w.mb
      ∧ x.last = s.now ∧ (x.pending = true ↔ s.sec.life ≠ .blank ∧ s.sec.life ≠ .retired)) := by
  obtain ⟨id, hid⟩ : ∃ id, id = w32 (if s.sec.nextSession % 2 ^ 32 = 0 then 1 else s.sec.nextSession) := ⟨_, rfl⟩
  have hid0 : id ≠ 0#32 := by
    rw [hid]
    split
    · exact w32_ne_zero (by decide)
    · exact w32_ne_zero ‹_›
  obtain ⟨x, hx⟩ : ∃ x : Session, x = { id := id, role := role, cred := cred, idleS := clamp 60 3600 (field w.payload 2 2 600)
                                        usb := isUsbMb w.mb, pending := !freeSessions s, hostNonce := fieldB w.payload 4 32
                                        devNonce := slice (Config.nonce s.sec.draws) 0 32, last := s.now } := ⟨_, rfl⟩
  have hpend : x.pending = true ↔ s.sec.life ≠ .blank ∧ s.sec.life ≠ .retired := by
    rw [hx]
    simp [freeSessions]
  unfold sesOpen
  dsimp only
  rw [← hr, ← hcr, ← hid, ← hx]
  refine ⟨_, _, _, x, checked_pass (by simp [firstStatus, hc, Nat.not_le.mpr hn, hl]), ?_, by rw [hx]; exact hid0, by rw [hx], by rw [hx],
    by rw [hx], by rw [hx], by rw [hx], hpend⟩
  split
  · rw [audit_sec]
    rfl
  · rfl

/-- A failed authentication ends its session, and the fifth failure locks its port out (R507, R517). -/
theorem authFailed_ends (x : Session) (s : State) : (∀ y, y ∈ (authFailed x s).sec.sessions → y.id ≠ x.id ∧ y ∈ s.sec.sessions)
    ∧ (4 ≤ (failuresOf x.usb s).length → (authFailed x s).sec.lockout.get 0 (portOf x.usb) = s.now + 60 * 10 ^ 9) := by
  obtain ⟨s1, hs1⟩ : ∃ s1, s1 = audit 2 (portOf x.usb) CHECK_FAILED ((sha384 (keySlot s x.cred).key).take 16) (endSession x s) := ⟨_, rfl⟩
  obtain ⟨s2, hs2⟩ : ∃ s2 : State, s2 = { s1 with
    sec.failures := s1.sec.failures.set [] (portOf x.usb) (s.now :: failuresOf x.usb s) } := ⟨_, rfl⟩
  obtain ⟨s3, hs3⟩ : ∃ s3 : State, s3 = { s2 with
    sec.failures := s2.sec.failures.set [] (portOf x.usb) [], sec.lockout := s2.sec.lockout.set 0 (portOf x.usb) (s.now + 60 * 10 ^ 9) } :=
    ⟨_, rfl⟩
  have hout : authFailed x s = if (s.now :: failuresOf x.usb s).length < 5 then s2
      else audit 11 (portOf x.usb) 0 [] (endSessions (s2.sec.sessions.filter fun y => y.pending && y.usb == x.usb) s3) := by
    rw [hs3, hs2, hs1]
    rfl
  have hsess : s2.sec.sessions = s.sec.sessions.filter fun y => y.id ≠ x.id := by
    rw [hs2, hs1]
    simp only [audit_sec, endSession_sessions]
  have hsub : ∀ y, y ∈ s2.sec.sessions → y.id ≠ x.id ∧ y ∈ s.sec.sessions := fun y hy => by
    rw [hsess, List.mem_filter] at hy
    exact ⟨of_decide_eq_true hy.2, hy.1⟩
  rw [hout]
  refine ⟨fun y hy => ?_, fun h => ?_⟩
  · split at hy
    · exact hsub y hy
    · rw [audit_sec, endSessions_sessions] at hy
      exact hsub y (by rw [hs3] at hy; exact (List.mem_filter.mp hy).1)
  · rw [if_neg (by rw [List.length_cons]; omega), audit_sec]
    show (endSessions _ s3).sec.lockout.get 0 (portOf x.usb) = _
    rw [endSessions_sec (p := fun v => v.lockout.get 0 (portOf x.usb)) (by intros; rfl) (by intros; rfl)]
    have hlock : s3.sec.lockout = s2.sec.lockout.set 0 (portOf x.usb) (s.now + 60 * 10 ^ 9) := by rw [hs3]
    rw [hlock, Tbl.get_set, if_pos rfl]

/-! ### The lifecycle -/

theorem endAllDebug_keeps (s : State) : (endAllDebug s).sec.life = s.sec.life ∧ (endAllDebug s).sec.sessions = s.sec.sessions
    ∧ (endAllDebug s).panel = s.panel := by
  have hd : (debugRestart s).sec.life = s.sec.life ∧ (debugRestart s).sec.sessions = s.sec.sessions := by
    rw [debugRestart, (goDown_frame ..).2]
    exact ⟨rfl, rfl⟩
  unfold endAllDebug
  split
  · exact ⟨hd.1, hd.2, (debugRestart_frame s).1⟩
  · exact ⟨rfl, rfl, rfl⟩

/-- The state advances, no session is left, and RETIRED begins its erase (R495, R498, R505). -/
theorem advanceTo_advances (target usb : Nat) (s : State) : (advanceTo target usb s).sec.life = lifeOf target
    ∧ (advanceTo target usb s).sec.sessions = [] ∧ (advanceTo target usb s).panel.presence = none
    ∧ (target = 4 → (advanceTo target usb s).sec.erasing = true ∧ (advanceTo target usb s).sec.identityOff = true) := by
  obtain ⟨s0, hs0⟩ : ∃ s0 : State, s0 = { consumePresence s with sec.life := lifeOf target } := ⟨_, rfl⟩
  obtain ⟨s2, hs2⟩ : ∃ s2, s2 = outOfStep 3 (audit 4 usb DONE (leBytes 1 target) (endSessions s.sec.sessions s0)) := ⟨_, rfl⟩
  obtain ⟨s3, hs3⟩ : ∃ s3, s3 = if 2 ≤ target then dropToken (endAllDebug s2) else s2 := ⟨_, rfl⟩
  have hout : advanceTo target usb s = if target = 4 then enterRetired s3 else s3 := by
    rw [hs3, hs2, hs0]
    rfl
  have h2 : s2.sec.life = lifeOf target ∧ s2.sec.sessions = [] ∧ s2.panel.presence = none := by
    rw [hs2]
    simp only [outOfStep_frame, audit_sec]
    refine ⟨?_, ?_, ?_⟩
    · rw [endSessions_sec (p := Secure.life) (by intros; rfl) (by intros; rfl), hs0]
    · rw [endSessions_sessions, hs0]
      exact List.filter_eq_nil_iff.mpr fun y hy h => (of_decide_eq_true h) y hy rfl
    · rw [audit_keeps (p := State.panel) (by intros; rfl) (by intros; rfl),
        endSessions_keeps (p := State.panel) (by intros; rfl) (by intros; rfl), hs0]
      rfl
  have h3 : s3.sec.life = lifeOf target ∧ s3.sec.sessions = [] ∧ s3.panel.presence = none := by
    obtain ⟨e1, e2, e3⟩ := endAllDebug_keeps s2
    rw [hs3]
    split
    · exact ⟨e1.trans h2.1, e2.trans h2.2.1, (congrArg Panel.presence e3).trans h2.2.2⟩
    · exact h2
  have hret : (enterRetired s3).sec = { s3.sec with identityOff := true, erasing := true } ∧ (enterRetired s3).panel = s3.panel := by
    simp [enterRetired]
  rw [hout]
  split
  · rw [hret.1, hret.2]
    exact ⟨h3.1, h3.2.1, h3.2.2, fun _ => ⟨rfl, rfl⟩⟩
  next h => exact ⟨h3.1, h3.2.1, h3.2.2, fun h4 => absurd h4 h⟩

theorem lifecycleAdvance_advances {w : Work} {s : State} (hc : fieldB w.payload 4 16 = ident.take 16) (hp : presenceValid s = true)
    (ht : targetOk s (field w.payload 0 1 0) = true) (ha : advanceOk s (field w.payload 0 1 0) = true) (hl : s.power.reserveLow = false)
    (hv : 16000 ≤ s.power.vinMv) (hh : s.power.state ≠ .holdup) : ∃ st p, lifecycleAdvance w s
      = (.done st p, advanceTo (field w.payload 0 1 0) (portOf (isUsbMb w.mb)) s) := by
  unfold lifecycleAdvance
  dsimp only
  rw [if_neg (not_not_intro hc), hp, ht, ha, hl, decide_eq_false (Nat.not_lt.mpr hv), inHoldup_eq_false hh]
  exact ⟨_, _, rfl⟩

/-! ### Keys -/

/-- The slot that a key of a kind enters (R501, R520). -/
def enrolled (kind maxRole : Nat) (key : Bytes) : KeySlot :=
  { kind := kind, key := key, maxRole := if kind = 3 then maxRole else 0 }

theorem keyEnroll_enrolls {w : Work} {s : State} (hl : s.sec.life = .blank) (hh : s.power.state ≠ .holdup) {slot kind : Nat}
    (hs : slot = min 31 (field w.payload 0 1 0)) (hk : kind = field w.payload 1 1 0) (h1 : 1 ≤ kind) (h3 : kind ≤ 3)
    (hsk : kind = slotKind slot) (hc : keyOnCurve (fieldB w.payload 8 96) = true) : ∃ st p v, (keyEnroll w s = (.done st p, v)
      ∧ (keySlot v slot).kind = kind ∧ (keySlot v slot).key = fieldB w.payload 8 96
      ∧ (keySlot v slot).maxRole = (if kind = 3 then min 3 (field w.payload 2 1 0) else 0)
      ∧ (∀ j, j ≠ slot → keySlot v j = keySlot s j) ∧ v.sec.keySeq = s.sec.keySeq) := by
  obtain ⟨new, hnew⟩ : ∃ new, new = enrolled kind (min 3 (field w.payload 2 1 0)) (fieldB w.payload 8 96) := ⟨_, rfl⟩
  obtain ⟨fp, hfp⟩ : ∃ fp, fp = (sha384 (fieldB w.payload 8 96)).take 16 := ⟨_, rfl⟩
  obtain ⟨v, hv⟩ : ∃ v, v = audit 5 (portOf (isUsbMb w.mb)) DONE fp { s with sec.keys := s.sec.keys.set {} slot new } := ⟨_, rfl⟩
  have hslot : ∀ j, keySlot v j = if j = slot then new else keySlot s j := fun j => by
    rw [hv, keySlot, audit_sec]
    exact Tbl.get_set s.sec.keys {} new slot j
  have hneed : authNeeded s slot = false := by simp [authNeeded, hl]
  have hallow : enrollAllowed s slot kind = true := by simp [enrollAllowed, hl]
  have hanswer : enrollAnswer slot v = (.done DONE (leBytes 1 slot ++ leBytes 1 new.kind ++ leBytes 1 new.maxRole ++ zeros 1
      ++ leBytes 4 v.sec.keySeq ++ (sha384 new.key).take 16), v) := by
    have hk0 : new.kind ≠ 0 := by rw [hnew]; exact Nat.one_le_iff_ne_zero.mp h1
    have hks : keySlot v slot = new := (hslot slot).trans (if_pos rfl)
    unfold enrollAnswer fingerprint
    dsimp only
    rw [hks, if_neg hk0]
  have hrun : ∃ st p, keyEnroll w s = (.done st p, v) := by
    have hnh := inHoldup_eq_false hh
    unfold keyEnroll
    dsimp only
    rw [← hs, ← hk, hneed, hallow, hnh, ← hsk]
    obtain rfl | rfl | rfl : kind = 1 ∨ kind = 2 ∨ kind = 3 := by omega
    all_goals
      refine ⟨_, _, (checked_pass (by simp [firstStatus, hc, hl])).trans (Eq.trans ?_ hanswer)⟩
      rw [hv, hfp, hnew]
      rfl
  obtain ⟨st, p, hrun⟩ := hrun
  refine ⟨st, p, v, hrun, ?_, ?_, ?_, fun j hj => (hslot j).trans (if_neg hj), by rw [hv, audit_sec]⟩
  · rw [hslot, if_pos rfl, hnew, enrolled]
  · rw [hslot, if_pos rfl, hnew, enrolled]
  · rw [hslot, if_pos rfl, hnew, enrolled]

end Sys2Proof.Machine

open Sys2Proof Sys2Proof.Machine

/-- Settles O54: the end of a session and an audit entry reach the sessions, the log and the Ledger alone (`endSession_keeps`,
`audit_sec`); the commands by their cards. -/
theorem sessionsKeysAndLifecycle : Obligations.SessionsKeysAndLifecycle := by
  unfold Obligations.SessionsKeysAndLifecycle
  intro s t mb w u
  have hsec : u.sec = s.sec := by simp [u]
  have himg : ∀ x, (endSession x u).img = s.img := fun x =>
    (endSession_keeps (p := State.img) (by intros; rfl) (by intros; rfl) x u).trans (by simp [u])
  refine ⟨?_, ?_, ?_, ?_, ?_, ?_, ?_, ?_, ?_, ?_, ?_, ?_, ?_⟩
  · intro id x hx
    have hid : x.id = id ∧ x.pending = false := by simpa using List.find?_some hx
    have hrun : exec (.sessionIdleTimeout t id) s
        = .next (if passed u.now x.last (10 ^ 9 * x.idleS) then endSession x u else u) := by
      show execSessionIdleTimeout t id s = _
      unfold execSessionIdleTimeout
      dsimp only
      rw [show (advance t s).sec = s.sec from hsec, hx]
    have hlim : passed u.now x.last (10 ^ 9 * x.idleS) = decide (x.last + 1000000000 * x.idleS ≤ u.now) := by
      rw [show 10 ^ 9 = 1000000000 by norm_num]
      rfl
    rw [hrun, hlim]
    refine ⟨fun h => ?_, fun h => ?_⟩
    · obtain ⟨e, he, h1, h2⟩ := endSession_granted hid.2 u
      rw [if_pos (decide_eq_true h)]
      exact ⟨_, e, rfl, by rw [endSession_sessions, hsec, hid.1], he, h1, h2, himg x⟩
    · rw [if_neg (by rw [decide_eq_false (Nat.not_le.mpr h)]; exact Bool.false_ne_true)]
  · intro id x hx hle
    have hid : x.id = id ∧ x.pending = true := by simpa using List.find?_some hx
    show execSessionAuthTimeout t id s = _
    unfold execSessionAuthTimeout
    dsimp only
    rw [show (advance t s).sec = s.sec from hsec, hx]
    have hp : passed (advance t s).now x.last (10 ^ 10) = true := by
      rw [show 10 ^ 10 = 10000000000 by norm_num]
      exact decide_eq_true hle
    dsimp only
    rw [hp, if_pos rfl, endSession_pending hid.2, show (advance t s).sec = s.sec from hsec, hid.1]
  · intro usb hle
    have hl : lockedOut usb u = false := by
      rw [lockedOut, hsec]
      exact decide_eq_false (Nat.not_lt.mpr hle)
    refine ⟨{ u with sec.lockout := u.sec.lockout.set 0 (portOf usb) 0 },
      congrArg Host.Outcome.next (if_neg (by rw [hl]; exact Bool.false_ne_true)), ?_, ?_, ?_⟩
    · simp [portOf]
    · show u.sec.failures = _
      rw [hsec]
    · show u.sec.sessions = _
      rw [hsec]
  · intro k hk hl hn
    have h := checkToken_expires (s := u) (k := k) (by rw [hsec, hk]) (by simpa [u] using hl) hn
    refine ⟨fun hlt => ?_, fun hle => congrArg Host.Outcome.next (h.trans (if_neg (Nat.not_lt.mpr hle)))⟩
    exact ⟨_, congrArg Host.Outcome.next (h.trans (if_pos hlt)), rfl, fun hlife p => dropToken_dbg (by rw [hsec, hlife]) p⟩
  · intro ha role cred hr hcr
    have hcred : credentialOk u cred role = credentialOk s cred role := by simp [u]
    refine ⟨fun hc hn hl => ?_, fun hc => ?_, fun hc hl => ?_⟩
    · obtain ⟨st, p, v, x, hv, h1, h2, h3, h4, h5, h6, h7, h8⟩ := sesOpen_opens (s := u) hr hcr (hcred.trans hc) (by rw [hsec]; exact hn) hl
      obtain ⟨w', hw⟩ := runCommand_ends ha hv
      exact ⟨_, x, congrArg Host.Outcome.next hw, by simp [h1, hsec], h2, h3, h4, h5, h6, h7, by rw [h8, hsec]⟩
    · refine runCommand_answers ha (s1 := u) ?_ rfl
      unfold sesOpen
      dsimp only
      rw [← hr, ← hcr]
      exact checked_fail (by simp [firstStatus, show credentialOk (advance t s) cred role = false from hcred.trans hc])
    · refine runCommand_answers ha (s1 := u) ?_ rfl
      unfold sesOpen
      dsimp only
      rw [← hr, ← hcr]
      exact checked_fail (by simp [firstStatus, show credentialOk (advance t s) cred role = true from hcred.trans hc,
        show lockedOut (isUsbMb w.mb) (advance t s) = true from hl])
  · intro ha x hx
    have husb : x.usb = isUsbMb w.mb := by
      have := List.find?_some hx
      simp only [Bool.and_eq_true, decide_eq_true_eq] at this
      exact this.1.2
    have hcard : sesAuth w u = if ecdsaVerify (keySlot s x.cred).key (x.devNonce ++ x.hostNonce ++ leBytes 4 x.id.toNat ++ leBytes 1 x.role ++ ident)
        (fieldB w.payload 0 96) = true then (.done DONE (leBytes 1 x.role ++ leBytes 1 (5 - (failuresOf (isUsbMb w.mb) u).length)
          ++ leBytes 2 x.idleS ++ zeros 4), audit 1 (portOf (isUsbMb w.mb)) DONE (leBytes 1 x.role) { u with sec.sessions := u.sec.sessions.map fun y =>
            if y.id = x.id then { y with pending := false, last := u.now } else y }) else (.done CHECK_FAILED [], authFailed x u) := by
      unfold sesAuth
      dsimp only
      rw [hsec, hx]
      have hslot : keySlot u x.cred = keySlot s x.cred := by simp [keySlot, hsec]
      dsimp only
      rw [hslot]
    refine ⟨fun h => ?_, fun h => ?_⟩
    · obtain ⟨w', hw⟩ := runCommand_ends ha (hcard.trans (if_pos h))
      exact ⟨_, congrArg Host.Outcome.next hw, by simp [audit_sec, u]⟩
    · obtain ⟨w', hw⟩ := runCommand_ends ha (hcard.trans (if_neg (by rw [h]; exact Bool.false_ne_true)))
      obtain ⟨h1, h2⟩ := authFailed_ends x u
      rw [husb, show 60 * 10 ^ 9 = 60000000000 by norm_num] at h2
      refine ⟨_, congrArg Host.Outcome.next hw, fun y hy => ?_, fun h4 => ?_⟩
      · rw [(finish_sec ..)] at hy
        exact (h1 y hy).imp id fun hm => hsec ▸ hm
      · rw [finish_sec]
        exact h2 h4
  · intro ha hop
    refine ⟨_, runCommand_answers ha (s1 := endSessions _ u) rfl (congrArg HostPort.works (endSessions_keeps (p := State.host)
      (by intros; rfl) (by intros; rfl) _ _)), ?_⟩
    rw [finish_sec, endSessions_sessions, hsec, if_neg hop]
    refine List.filter_congr fun y hy => decide_eq_decide.mpr ⟨fun h hy' => ?_, fun h x hx hyx => ?_⟩
    · exact h y (List.mem_filter.mpr ⟨hy, by simpa using hy'⟩) rfl
    · have hx' := (List.mem_filter.mp hx).2
      exact h (hyx.trans (by simpa using hx'))
  · intro ha hop
    refine ⟨_, runCommand_answers ha (s1 := endSessions _ u) rfl (congrArg HostPort.works (endSessions_keeps (p := State.host)
      (by intros; rfl) (by intros; rfl) _ _)), ?_⟩
    rw [finish_sec, endSessions_sessions, hsec, if_pos hop]
    refine List.filter_congr fun y hy => decide_eq_decide.mpr ⟨fun h => ?_, fun h x hx hyx => ?_⟩
    · by_contra hne
      exact h y (List.mem_filter.mpr ⟨hy, by simpa using hne⟩) rfl
    · have hx' := (List.mem_filter.mp hx).2
      exact (by simpa using hx' : x.id ≠ w.session) (hyx.symm.trans h)
  · intro ha target htarget
    rw [htarget]
    refine ⟨fun hc hp ht hok hl hv hh => ?_, fun hc => ?_, fun hc hp => ?_⟩
    · obtain ⟨st, p, hrun⟩ := lifecycleAdvance_advances (w := w) (s := u) hc hp (by simpa [u] using ht) (by simpa [u] using hok)
        (by simpa [u] using hl) (by simpa [u] using hv) (by simpa [u] using hh)
      obtain ⟨w', hw⟩ := runCommand_ends ha hrun
      obtain ⟨h1, h2, h3, h4⟩ := advanceTo_advances (field w.payload 0 1 0) (portOf (isUsbMb w.mb)) u
      exact ⟨_, congrArg Host.Outcome.next hw, by simp [h1], by simp [h2], by simp [h3], fun h => by simp [h4 h]⟩
    · exact runCommand_answers ha (s1 := consumePresence u) (if_pos hc) rfl
    · refine runCommand_answers ha (s1 := u) ((if_neg (not_not_intro hc)).trans (checked_fail ?_)) rfl
      simp [firstStatus, show presenceValid (advance t s) = false from hp]
  · intro ha hl hh slot kind hs hk h1 h3 hsk hc
    obtain ⟨st, p, v, hrun, g1, g2, g3, g4, g5⟩ := keyEnroll_enrolls (s := u) (by rw [hsec, hl]) (by simpa [u] using hh) hs hk h1 h3 hsk hc
    obtain ⟨w', hw⟩ := runCommand_ends ha hrun
    have hks : ∀ j, keySlot (finish w' st p v) j = keySlot v j := fun j => by simp [keySlot]
    refine ⟨_, congrArg Host.Outcome.next hw, by rw [hks, g1], by rw [hks, g2], by rw [hks, g3], fun j hj => ?_, ?_⟩
    · rw [hks, g4 j hj, keySlot, hsec, keySlot]
    · rw [finish_sec, g5, hsec]
  · intro ha hop hl ht hh hp k hk
    have hl' : u.sec.life = .sealed := by rw [hsec, hl]
    have ht' : u.time.timeLost = false := by simpa [u] using ht
    have hh' : inHoldup u = false := inHoldup_eq_false (by simpa [u] using hh)
    rw [hk]
    refine ⟨fun hok => ?_, fun hok => ?_⟩
    · obtain ⟨v, x, hv, g1, g2, g3, g4, g5, g6⟩ := loadToken_armed hl' ht' hh' hp hok (portOf (isUsbMb w.mb))
      have hrun : dbgToken w u = (.done DONE (tokenAnswer v), v) := by
        unfold dbgToken
        rw [if_pos hop, hv]
        rfl
      obtain ⟨w', hw⟩ := runCommand_ends ha hrun
      exact ⟨_, x, congrArg Host.Outcome.next hw, by rw [finish_sec, g1], g2, g3, g4, by simp [g5]⟩
    · obtain ⟨v, hv, g1, g2, g3⟩ := loadToken_refused hl' ht' hh' hp hok (portOf (isUsbMb w.mb))
      have hrun : dbgToken w u = (.done CHECK_FAILED [], v) := by
        unfold dbgToken
        rw [if_pos hop, hv]
        rfl
      obtain ⟨w', hw⟩ := runCommand_ends ha hrun
      exact ⟨_, congrArg Host.Outcome.next hw, by rw [finish_sec, g1, hsec], by simp [g2]⟩
  · intro he
    exact ⟨retiredErase u, congrArg Host.Outcome.next (if_pos (by rw [hsec]; exact he)), rfl, rfl, rfl, rfl, rfl, rfl, rfl, rfl,
      by simp [retiredErase, u], by simp [retiredErase, u], by simp [retiredErase, u]⟩
  · intro he
    exact congrArg Host.Outcome.next (if_neg (by rw [hsec, he]; exact Bool.false_ne_true))
end

section
/-! PROOFS. The TAP and the debug interface (R509-R514, R574, R575). -/

namespace Sys2Proof.Machine

/-! ### What a stop of the outputs leaves alone -/

@[simp] theorem usbDiscard_frame (s : State) :
    (usbDiscard s).power = s.power ∧ (usbDiscard s).img = s.img ∧ (usbDiscard s).sec = s.sec := by simp [usbDiscard]

@[simp] theorem usbVbusRemoval_frame (s : State) :
    (usbVbusRemoval s).power = s.power ∧ (usbVbusRemoval s).img = s.img ∧ (usbVbusRemoval s).sec = s.sec := by
  unfold usbVbusRemoval
  and_intros <;> split <;> simp

@[simp] theorem debugStop_frame (s : State) :
    (debugStop s).power = s.power ∧ (debugStop s).img = s.img ∧ (debugStop s).sec = s.sec ∧ (debugStop s).host = s.host := by simp [debugStop]

theorem sendCmd_latches (ch : Nat) (s : State) : latches (sendCmd ch s) = latches s := by
  unfold sendCmd
  split
  · split
    · exact latches_setChan rfl
    · rfl
  · rfl

theorem sendAllCmds_latches (s : State) : latches (sendAllCmds s) = latches s := foldl_keeps latches (fun v ch => sendCmd_latches ch v) _ s

theorem clearValid_latches (s : State) : latches (clearValid s) = latches s := by
  unfold clearValid
  split
  · exact sendAllCmds_latches _
  · rfl

theorem latches_of_fld {s v : State} (h : v.fld = s.fld) : latches v = latches s :=
  latches_of fun c => by rw [State.chan, h, State.chan]

theorem abandonAll_latches (s : State) : latches (abandonAll s) = latches s := latches_of_fld (by simp)

/-- A restart goes down with every latch held (R71, R512). -/
theorem goDown_latches (kind : Restart) (s : State) : latches (goDown kind s) = latches s := by
  have hdump : ∀ v, latches (powerDump false v) = latches v := fun v => latches_of_fld (by simp)
  have hstop : ∀ v, latches (stopEngines v) = latches v := abandonAll_latches
  exact (hdump _).trans ((hstop _).trans (clearValid_latches _))

theorem abandonAll_halted (s : State) : (abandonAll s).eng.halted = s.eng.halted := by
  have hdata : ∀ ks v, (restoreData ks v).eng.halted = v.eng.halted := fun ks v =>
    foldl_keeps (fun s => s.eng.halted) (by intros; rfl) ks v
  refine foldl_keeps (fun s => s.eng.halted) (fun v n => ?_) _ s
  show (dropCycle n v).eng.halted = v.eng.halted
  unfold dropCycle
  dsimp only
  split
  · exact hdata ..
  · split <;> rfl

theorem clearValid_halted (s : State) : (clearValid s).eng.halted = s.eng.halted := by
  rw [show (clearValid s).eng = s.eng by simp]

/-- Control debug stops the outputs with every latch held (R512). -/
theorem debugStop_stops (s : State) : (debugStop s).pair.valid = false ∧ (debugStop s).sup.tallyOn = false
    ∧ (∀ d, d < 4 → ((debugStop s).die d).hold = true) ∧ latches (debugStop s) = latches s ∧ (debugStop s).eng.halted = s.eng.halted := by
  obtain ⟨y, hy⟩ : ∃ y, y = clearValid (abandonAll s) := ⟨_, rfl⟩
  have hv : y.pair.valid = false := hy ▸ clearValid_valid _
  have hl : latches y = latches s := hy ▸ (clearValid_latches _).trans (abandonAll_latches s)
  have hh : y.eng.halted = s.eng.halted := hy ▸ (clearValid_halted _).trans (abandonAll_halted s)
  have hout : debugStop s = { holdAll y with sup.tallyOn := false } := by rw [debugStop, hy]
  rw [hout]
  exact ⟨hv, rfl, fun _ hd => (die_holdAll y hd).1, hl, hh⟩

theorem powerDump_halted (b : Bool) (s : State) : (powerDump b s).eng.halted = s.eng.halted := by
  rw [show (powerDump b s).eng = s.eng by simp]

theorem stopEngines_halted (s : State) : (stopEngines s).eng.halted = s.eng.halted := abandonAll_halted s

theorem saveCounts_halted (s : State) : (saveCounts s).eng.halted = s.eng.halted := rfl

theorem holdAll_halted (s : State) : (holdAll s).eng.halted = s.eng.halted := rfl

theorem goDown_halted (kind : Restart) (s : State) : (goDown kind s).eng.halted = s.eng.halted := by
  rw [goDown, powerDump_halted, saveCounts_halted, stopEngines_halted, holdAll_halted, clearValid_halted]

theorem debugRestart_restarts (s : State) : (debugRestart s).eng.halted = 0#16 ∧ (debugRestart s).sec.stewardHalted = false
    ∧ (debugRestart s).power.restart = some .warm ∧ latches (debugRestart s) = latches s
    ∧ (debugRestart s).sec.dbg = s.sec.dbg ∧ (debugRestart s).sec.sessions = s.sec.sessions ∧ (debugRestart s).host = s.host := by
  obtain ⟨hr, -, -, -, hh, -⟩ := goDown_down .warm
    { s with sec.extest := false, sec.stewardHalted := false, eng.halted := 0#16, eng.step := 0#16 }
  refine ⟨goDown_halted .., ?_, hr, goDown_latches .., ?_, ?_, hh⟩
  · rw [debugRestart, (goDown_frame ..).2]
  · rw [debugRestart, (goDown_frame ..).2]
  · rw [debugRestart, (goDown_frame ..).2]

/-! ### Sessions of a port -/

/-- A port's session is closed, and no other (R512). -/
theorem detach_closes (port : Nat) (s : State) : (detach port s).sec.dbg = s.sec.dbg.set 0 port 0
    ∧ (detach port s).sec.sessions = s.sec.sessions ∧ (detach port s).host = s.host ∧ latches (detach port s) = latches s := by
  obtain ⟨x, hx⟩ : ∃ x : State, x = { s with sec.dbg := s.sec.dbg.set 0 port 0, sec.dbgWait := s.sec.dbgWait &&& ~~~(1#2 <<< port) } :=
    ⟨_, rfl⟩
  have hout : detach port s = if (decide (s.sec.dbg.get 0 port = 2) && anyHalted s) = true then debugRestart x else x := by
    rw [hx]
    rfl
  have hself : x.sec.dbg = s.sec.dbg.set 0 port 0 ∧ x.sec.sessions = s.sec.sessions ∧ x.host = s.host ∧ latches x = latches s := by
    rw [hx]
    exact ⟨rfl, rfl, rfl, rfl⟩
  obtain ⟨h1, h2, h3, h4⟩ := hself
  rw [hout]
  split
  · obtain ⟨-, -, -, hl, hd, hs, hh⟩ := debugRestart_restarts x
    exact ⟨hd.trans h1, hs.trans h2, hh.trans h3, hl.trans h4⟩
  · exact ⟨h1, h2, h3, h4⟩

theorem detach_quiet {s : State} (h : anyHalted s = false) (port : Nat) : detach port s
    = { s with sec.dbg := s.sec.dbg.set 0 port 0, sec.dbgWait := s.sec.dbgWait &&& ~~~(1#2 <<< port) } :=
  if_neg (by simp [h])

/-- With nothing halted a detach ends its port's session and touches no other (R511). -/
theorem detach_ends {s : State} (h : anyHalted s = false) (port : Nat) : (detach port s).sec.dbg.get 0 port = 0
    ∧ (∀ q, q ≠ port → (detach port s).sec.dbg.get 0 q = s.sec.dbg.get 0 q)
    ∧ (detach port s).fld = s.fld ∧ (detach port s).power = s.power := by
  rw [(detach_closes port s).1, detach_quiet h]
  exact ⟨(Tbl.get_set ..).trans (if_pos rfl), fun q hq => (Tbl.get_set ..).trans (if_neg hq), rfl, rfl⟩

theorem usbDiscard_latches (s : State) : latches (usbDiscard s) = latches s := rfl

/-- The plug's removal ends the USB port's part of the host side (R571). -/
theorem usbVbusRemoval_removes {s : State} (h : s.host.usb = true) : (usbVbusRemoval s).host.usb = false
    ∧ latches (usbVbusRemoval s) = latches s := by
  rw [usbVbusRemoval, if_neg (by simp [h])]
  exact ⟨rfl, usbDiscard_latches s⟩

/-- An attach in full service opens a session at the lifecycle's level (R511). -/
theorem attach_opens {s : State} {port : Nat} (hr : s.power.state = .run) (hs : s.power.service = .full) (hl : attachLevel port s ≠ 0) :
    (attach port s).sec.dbg = s.sec.dbg.set 0 port (attachLevel port s) ∧ (attach port s).sec.tapIr = s.sec.tapIr
      ∧ (attach port s).img = s.img := by
  obtain ⟨x, hx⟩ : ∃ x, x = if (enteringSlumber s && decide (s.sec.life = .commission)) = true then wakeBy .debug s else s := ⟨_, rfl⟩
  have hwake : (wakeBy .debug s).sec = s.sec ∧ (wakeBy .debug s).img = s.img ∧ (wakeBy .debug s).power.service = .full := by
    rw [wakeBy, if_neg (by simp [hr])]
    split <;> exact ⟨rfl, rfl, hs⟩
  have hxs : x.sec = s.sec ∧ x.img = s.img ∧ x.power.service = .full := by
    rw [hx]
    split
    · exact hwake
    · exact ⟨rfl, rfl, hs⟩
  obtain ⟨hsec, himg, hsv⟩ := hxs
  have hlev : attachLevel port x = attachLevel port s := by simp [attachLevel, hsec]
  have hout : attach port s = openDebug port x := by
    have hrun : attachRun port x = openDebug port x := if_pos (by simp [hsv])
    rw [← hrun, hx]
    unfold attach
    rw [if_neg (by simp [hr]), if_pos (by simp [hr, hl])]
  rw [hout, openDebug, audit_sec, hlev, hsec]
  exact ⟨rfl, rfl, (audit_keeps (p := State.img) (by intros; rfl) (by intros; rfl) ..).trans himg⟩

theorem loadToken_tapIr (k : Bytes) (port : Nat) (s : State) : (loadToken k port s).2.sec.tapIr = s.sec.tapIr := by
  unfold loadToken
  dsimp only
  (repeat' split) <;> simp only [audit_sec] <;> rfl

/-! ### Instructions and packets -/

theorem tapInstr_taken {s : State} {ir : Nat} (hu : tapUp s = true) (he : s.sec.extest = false) (ha : tapAllowed s ir = true) (f : State → State) :
    tapInstr ir f s = f { s with sec.tapIr := ir } := by
  have hl : leaveExtest s = s := if_neg (by simp [he])
  unfold tapInstr
  dsimp only
  rw [if_neg (by simp [hu]), hl, if_pos ha]

theorem debugRun_runs {s : State} {t l op need : Nat} {r : DbgReq} (hl : debugLevel s r = some l) (hn : need ≤ l) (f : State → State) :
    debugRun op need r f t s = .next (f (advance t s)) := by
  unfold debugRun
  dsimp only
  rw [debugLevel_advance, hl]
  exact congrArg Host.Outcome.next (if_neg (Nat.not_lt.mpr hn))

theorem debugRun_refused {s : State} {t l op need : Nat} {r : DbgReq} (hl : debugLevel s r = some l) (hn : l < need) (f : State → State) :
    debugRun op need r f t s = .next (dbgAnswer op NOT_PERMITTED [] (advance t s)) := by
  unfold debugRun
  dsimp only
  rw [debugLevel_advance, hl]
  exact congrArg Host.Outcome.next (if_pos hn)

theorem length_slice_data (p : Bytes) (n : Nat) : (slice p 0 n).length = n := length_slice ..

theorem getD_slice {p : Bytes} {n i : Nat} (hi : i < n) (hp : i < p.length) : some ((slice p 0 n).getD i 0#8) = p[i]? := by
  have h : i < ((List.drop 0 p).take n).length := by simp; omega
  rw [slice, List.getD_eq_getElem?_getD, List.getElem?_append_left h, List.drop_zero, List.getElem?_take_of_lt hi,
    List.getElem?_eq_getElem hp]
  rfl

/-- A write to a region's data SRAM stores the request's bytes and no other (R575). -/
theorem debugStore_data {s : State} {r : DbgReq} (h1 : 0x10 ≤ r.space.toNat) (h2 : r.space.toNat < 0x14) :
    ((debugStore s r).region (r.space.toNat - 0x10)).data
        = Memory.writeBytes (s.region (r.space.toNat - 0x10)).data r.addr (slice r.data 0 r.count)
      ∧ ((debugStore s r).region (r.space.toNat - 0x10)).code = (s.region (r.space.toNat - 0x10)).code ∧ (debugStore s r).img = s.img := by
  have hout : debugStore s r = s.setRegion (r.space.toNat - 0x10) { s.region (r.space.toNat - 0x10) with
      data := Memory.writeBytes (s.region (r.space.toNat - 0x10)).data r.addr (slice r.data 0 r.count) } := by
    unfold debugStore
    dsimp only
    rw [if_neg (by omega), if_pos h2]
  have hreg : ∀ n v, (s.setRegion n v).region n = v := fun n v => (Tbl.get_set ..).trans (if_pos rfl)
  rw [hout, hreg]
  exact ⟨rfl, rfl, rfl⟩

theorem debugData_data {s : State} {r : DbgReq} (h1 : 0x10 ≤ r.space.toNat) (h2 : r.space.toNat < 0x14) :
    debugData s r = (Memory.readBytes (s.region (r.space.toNat - 0x10)).data r.addr r.count, s) := by
  unfold debugData
  dsimp only
  rw [if_neg (by omega), if_pos h2]

/-! ### The cards -/

section

variable {s u : State} {t : Nat} {r : DbgReq}

theorem execExtest_stops (hu : u = advance t s) (hr : u.power.state = .run) (he : u.sec.extest = false) (ha : tapAllowed u 0 = true) :
    ∃ v, execExtest t s = .next v ∧ v.sec.extest = true ∧ v.sec.tapIr = 0 ∧ v.pair.valid = false ∧ v.sup.tallyOn = false
      ∧ (∀ d, d < 4 → (v.die d).hold = true) ∧ latches v = latches u ∧ v.img.val = u.img.val := by
  obtain ⟨x, hx⟩ : ∃ x : State, x = { u with sec.tapIr := 0, sec.extest := true } := ⟨_, rfl⟩
  have hxs : x.sec.extest = true ∧ x.sec.tapIr = 0 ∧ x.img = u.img ∧ latches x = latches u := by
    rw [hx]
    exact ⟨rfl, rfl, rfl, rfl⟩
  obtain ⟨h1, h2, h3, h4, -⟩ := debugStop_stops x
  obtain ⟨-, himg, hsec, -⟩ := debugStop_frame x
  have hif : execExtest t s = .next (debugStop x) := by
    rw [hx, hu]
    rw [hu] at hr he ha
    exact congrArg Host.Outcome.next ((if_neg (by rw [hr, he]; decide)).trans (if_pos ha))
  exact ⟨_, hif, by rw [hsec, hxs.1], by rw [hsec, hxs.2.1], h1, h2, h3, h4.trans hxs.2.2.2, by rw [himg, hxs.2.2.1]⟩

theorem execDbgSelect_attaches (hu : u = advance t s) (hr : u.power.state = .run) (hs : u.power.service = .full)
    (he : u.sec.extest = false) (ha : tapAllowed u 0x20 = true) (hd : u.sec.dbg.get 0 0 = 0) (hl : attachLevel 0 u ≠ 0) :
    ∃ v, execDbgSelect t s = .next v ∧ v.sec.tapIr = 0x20 ∧ v.sec.dbg.get 0 0 = attachLevel 0 u ∧ v.img = u.img := by
  obtain ⟨x, hx⟩ : ∃ x : State, x = { u with sec.tapIr := 0x20 } := ⟨_, rfl⟩
  have hxs : attachLevel 0 x = attachLevel 0 u ∧ x.power = u.power ∧ x.sec.dbg = u.sec.dbg ∧ x.sec.tapIr = 0x20 ∧ x.img = u.img := by
    rw [hx]
    exact ⟨rfl, rfl, rfl, rfl, rfl⟩
  obtain ⟨hxl, hxp, hxd, hxi, hxm⟩ := hxs
  obtain ⟨h1, h2, h3⟩ := attach_opens (s := x) (port := 0) (by rw [hxp, hr]) (by rw [hxp, hs]) (by rw [hxl]; exact hl)
  have htap : tapUp u = true := by simp [tapUp, hr]
  have hcard : execDbgSelect t s = .next (attach 0 x) := by
    have hif : (if x.sec.dbg.get 0 0 = 0 then attach 0 x else x) = attach 0 x := if_pos (by rw [hxd, hd])
    have hin := tapInstr_taken htap he ha fun s => if s.sec.dbg.get 0 0 = 0 then attach 0 s else s
    rw [← hx, hif] at hin
    rw [hu] at hr hin
    exact congrArg Host.Outcome.next ((if_neg (by rw [hr]; decide)).trans hin)
  refine ⟨_, hcard, by rw [h2, hxi], ?_, by rw [h3, hxm]⟩
  rw [h1, hxl]
  exact (Tbl.get_set ..).trans (if_pos rfl)

theorem execDbgTokenLoad_arms {k : Bytes} (hu : u = advance t s) (htap : tapUp u = true) (he : u.sec.extest = false)
    (hl : u.sec.life = .sealed) (ht : u.time.timeLost = false) (hh : u.power.state ≠ .holdup) (hp : presenceValid u = true)
    (hk : tokenOk u (slice k 0 176) = true) :
    ∃ v x, execDbgTokenLoad t k s = .next v ∧ v.sec.token = some x ∧ x.notAfter = hdrF (slice k 0 176) 0x40 8 ∧ v.sec.tapIr = 0x21 := by
  obtain ⟨x, hx⟩ : ∃ x : State, x = { u with sec.tapIr := 0x21 } := ⟨_, rfl⟩
  have hxs : x.sec = { u.sec with tapIr := 0x21 } ∧ x.time = u.time ∧ x.power = u.power ∧ presenceValid x = true
      ∧ tokenOk x (slice k 0 176) = true := by
    rw [hx]
    exact ⟨rfl, rfl, rfl, hp, hk⟩
  obtain ⟨h1, h2, h3, h4, h5⟩ := hxs
  have ha : tapAllowed u 0x21 = true := by simp [tapAllowed, hl]
  obtain ⟨v, tok, hv, g1, -, -, g4, -⟩ := loadToken_armed (s := x) (by rw [h1]; exact hl) (by rw [h2, ht])
    (inHoldup_eq_false (by rw [h3]; exact hh)) h4 h5 2
  have htap' : v.sec.tapIr = 0x21 := by
    have hv2 : v = (loadToken (slice k 0 176) 2 x).2 := by rw [hv]
    rw [hv2, loadToken_tapIr, h1]
  refine ⟨v, tok, ?_, g1, g4, htap'⟩
  have hin := tapInstr_taken htap he ha fun s => (loadToken (slice k 0 176) 2 s).2
  rw [← hx, hv] at hin
  rw [hu] at hin
  exact congrArg Host.Outcome.next hin

theorem execDebugHalt_halts {e : Fin 16} (hu : u = advance t s) (hl : debugLevel s r = some 2) (hp : haltPart u r = some (some e)) :
    ∃ v, execDebugHalt t r s = .next v ∧ v.eng.halted.getLsbD e = true ∧ v.sec.dbgResp = some (3, DONE, [])
      ∧ v.pair.valid = false ∧ (∀ d, d < 4 → (v.die d).hold = true) ∧ latches v = latches u := by
  obtain ⟨x, hx⟩ : ∃ x : State, x = { u with eng.halted := u.eng.halted ||| (1#16 <<< e.val) } := ⟨_, rfl⟩
  have hxs : x.eng.halted.getLsbD e = true ∧ latches x = latches u := by
    rw [hx]
    exact ⟨by simp, rfl⟩
  obtain ⟨h1, -, h3, h4, h5⟩ := debugStop_stops x
  have hcard : execDebugHalt t r s = .next (dbgAnswer 3 DONE [] (debugStop x)) := by
    rw [hx, hu]
    rw [hu] at hp
    unfold execDebugHalt
    rw [debugRun_runs hl (le_refl 2)]
    dsimp only
    rw [hp]
  obtain ⟨y, hy⟩ : ∃ y, y = debugStop x := ⟨_, rfl⟩
  rw [← hy] at h1 h3 h4 h5 hcard
  exact ⟨_, hcard, (congrArg (fun h => h.getLsbD e.val) h5).trans hxs.1, rfl, h1, h3, h4.trans hxs.2⟩

theorem execDebugResume_restarts {e : Fin 16} (hu : u = advance t s) (hl : debugLevel s r = some 2) (hp : haltPart u r = some (some e))
    (hh : u.eng.halted.getLsbD e = true) :
    ∃ v, execDebugResume t r s = .next v ∧ v.eng.halted = 0#16 ∧ v.sec.stewardHalted = false ∧ v.power.restart = some .warm
      ∧ v.sec.dbgResp = some (4, DONE, []) ∧ latches v = latches u := by
  obtain ⟨h1, h2, h3, h4, -⟩ := debugRestart_restarts u
  have hcard : execDebugResume t r s = .next (dbgAnswer 4 DONE [] (debugRestart u)) := by
    rw [hu]
    rw [hu] at hp hh
    unfold execDebugResume
    rw [debugRun_runs hl (le_refl 2), hp]
    exact congrArg Host.Outcome.next <| if_pos hh
  obtain ⟨z, hz⟩ : ∃ z, z = debugRestart u := ⟨_, rfl⟩
  rw [← hz] at h1 h2 h3 h4 hcard
  exact ⟨_, hcard, h1, h2, h3, rfl, h4⟩

theorem execDebugDetach_detaches {l : Nat} (hu : u = advance t s) (hl : debugLevel s r = some l) (hh : anyHalted u = false) :
    ∃ v, execDebugDetach t r s = .next v ∧ v.sec.dbg.get 0 (bit r.usb) = 0 ∧ v.sec.dbgResp = some (6, DONE, [])
      ∧ v.sec.dbg.get 0 (1 - bit r.usb) = u.sec.dbg.get 0 (1 - bit r.usb) ∧ v.fld = u.fld ∧ v.power = u.power := by
  obtain ⟨h1, h2, h3, h4⟩ := detach_ends hh (bit r.usb)
  have hcard : execDebugDetach t r s = .next (dbgAnswer 6 DONE [] (detach (bit r.usb) u)) := by
    rw [hu]
    unfold execDebugDetach
    rw [debugRun_runs hl (Nat.zero_le l)]
  have hother : 1 - bit r.usb ≠ bit r.usb := by cases r.usb <;> decide
  obtain ⟨z, hz⟩ : ∃ z, z = detach (bit r.usb) u := ⟨_, rfl⟩
  rw [← hz] at h1 h2 h3 h4 hcard
  exact ⟨_, hcard, h1, rfl, h2 _ hother, h3, h4⟩

theorem execUsbVbusRemoval_closes (hu : u = advance t s) (hh : u.host.usb = true) :
    ∃ v, execUsbVbusRemoval t s = .next v ∧ v.host.usb = false ∧ v.sec.dbg.get 0 1 = 0
      ∧ (∀ x, x ∈ v.sec.sessions → x.usb = false) ∧ latches v = latches u := by
  obtain ⟨x, hx⟩ : ∃ x, x = endSessions (u.sec.sessions.filter fun x => x.usb) u := ⟨_, rfl⟩
  obtain ⟨y, hy⟩ : ∃ y, y = usbVbusRemoval x := ⟨_, rfl⟩
  have hxh : x.host = u.host := hx ▸ endSessions_keeps (p := State.host) (by intros; rfl) (by intros; rfl) _ u
  have hxl : latches x = latches u := hx ▸ endSessions_keeps (p := latches) (by intros; rfl) (by intros; rfl) _ u
  obtain ⟨hyu, hyl⟩ := usbVbusRemoval_removes (s := x) (by rw [hxh, hh])
  have hys : y.sec = x.sec := hy ▸ (usbVbusRemoval_frame x).2.2
  rw [← hy] at hyu hyl
  have hcard : execUsbVbusRemoval t s = .next (detach 1 y) := by
    rw [hy, hx, hu]
    rw [hu] at hh
    exact congrArg Host.Outcome.next (if_pos hh)
  obtain ⟨h1, h2, h3, h4⟩ := detach_closes 1 y
  refine ⟨_, hcard, by rw [h3]; exact hyu, ?_, fun z hz => ?_, by rw [h4, hyl, hxl]⟩
  · rw [h1]
    exact (Tbl.get_set y.sec.dbg 0 _ _ _).trans (if_pos rfl)
  · rw [h2, hys, hx, endSessions_sessions, List.mem_filter] at hz
    by_contra hne
    exact of_decide_eq_true hz.2 z (List.mem_filter.mpr ⟨hz.1, by simpa using hne⟩) rfl

theorem execTapReset_resets (hu : u = advance t s) (htap : tapUp u = true) (he : u.sec.extest = false) (hh : anyHalted u = false) :
    ∃ v, execTapReset t s = .next v ∧ v.sec.tapIr = 0xFF ∧ v.sec.tapRefused = false ∧ v.sec.dbg.get 0 0 = 0
      ∧ v.sec.dbg.get 0 1 = u.sec.dbg.get 0 1 ∧ v.power = u.power ∧ v.fld = u.fld := by
  have hle : leaveExtest u = u := if_neg (by simp [he])
  obtain ⟨h1, h2, h3, h4⟩ := detach_ends hh 0
  obtain ⟨z, hz⟩ : ∃ z, z = detach 0 u := ⟨_, rfl⟩
  have hcard : execTapReset t s = .next { z with sec.tapIr := 0xFF, sec.tapRefused := false } := by
    rw [hz, ← hle, hu]
    rw [hu] at htap
    exact congrArg Host.Outcome.next (if_pos htap)
  rw [← hz] at h1 h2 h3 h4
  exact ⟨_, hcard, rfl, rfl, h1, h2 1 Nat.one_ne_zero, h4, h3⟩

end

end Sys2Proof.Machine

open Sys2Proof Sys2Proof.Machine

/-- Settles O55: instructions by `tapInstr_taken`, packets by `debugRun_runs`; the stops keep every latch (`debugStop_stops`,
`debugRestart_restarts`). -/
theorem tapAndDebugInterface : Obligations.TapAndDebugInterface := by
  unfold Obligations.TapAndDebugInterface
  intro s t r u
  have hsec : u.sec = s.sec := by simp [u]
  have heng : u.eng = s.eng := by simp [u]
  have hlat : latches u = latches s := latches_of fun c => by simp [u]
  have htap : tapUp u = tapUp s := by simp [u]
  have hallow : ∀ ir, tapAllowed u ir = tapAllowed s ir := fun ir => by simp [u]
  have hlev : ∀ p, attachLevel p u = attachLevel p s := fun p => by simp [u]
  have hpart : haltPart u r = haltPart s r := by simp [u]
  have hrange : debugRange u r = debugRange s r := by simp [u]
  have hreg : ∀ n, u.region n = s.region n := fun n => by simp [u]
  have himg : u.img = s.img := by simp [u]
  have hrun : u.power.state = s.power.state ∧ u.power.service = s.power.service := by simp [u]
  have hext : s.sec.extest = false → u.sec.extest = false := fun h => by rw [hsec, h]
  have hgo : s.power.state = .run → s.sec.extest = false → ¬(decide (u.power.state ≠ .run) || u.sec.extest) = true := fun hr he => by
    rw [hrun.1, hr, hsec, he]
    decide
  refine ⟨?_, ?_, ?_, ?_, ?_, ?_, ?_, ?_, ?_, ?_, ?_, ?_, ?_, ?_, ?_, ?_, ?_, ?_⟩
  · intro hr he ha
    obtain ⟨v, h1, h2, h3, h4, h5, h6, h7, h8⟩ := execExtest_stops rfl (hrun.1.trans hr) (hext he) ((hallow 0).trans ha)
    exact ⟨v, h1, h2, h3, h4, h5, h6, h7.trans hlat, h8.trans (congrArg Image.val himg)⟩
  · intro hr he ha hre
    have hif : execExtest t s = .next (tapRefuse u) :=
      congrArg Host.Outcome.next ((if_neg (hgo hr he)).trans (if_neg (by rw [hallow, ha]; exact Bool.false_ne_true)))
    exact hif.trans (congrArg Host.Outcome.next (if_pos (by rw [hsec]; exact hre)))
  · intro hu he ha
    exact congrArg Host.Outcome.next (tapInstr_taken (htap.trans hu) (hext he) ((hallow _).trans ha) id)
  · intro bits hu he ha
    exact congrArg Host.Outcome.next (tapInstr_taken (htap.trans hu) (hext he) ((hallow _).trans ha) _)
  · intro hu he
    have ha : tapAllowed u 0xFF = true := by
      unfold tapAllowed
      split <;> rfl
    exact congrArg Host.Outcome.next (tapInstr_taken (htap.trans hu) (hext he) ha id)
  · intro hr hs he ha hd hl
    obtain ⟨v, h1, h2, h3, h4⟩ := execDbgSelect_attaches rfl (hrun.1.trans hr) (hrun.2.trans hs) (hext he) ((hallow _).trans ha)
      (by rw [show (advance t s).sec = s.sec from hsec, hd]) (by rw [show attachLevel 0 (advance t s) = _ from hlev 0]; exact hl)
    exact ⟨v, h1, h2, h3.trans (hlev 0), h4.trans himg⟩
  · intro k hu he hl ht hh hp hk
    exact execDbgTokenLoad_arms rfl (htap.trans hu) (hext he) ((congrArg Secure.life hsec).trans hl) (by simpa using ht)
      (by rw [show (advance t s).power.state = _ from hrun.1]; exact hh) hp hk
  · intro hu hd hr hs hl
    obtain ⟨h1, -, -⟩ := attach_opens (s := u) (port := 1) (hrun.1.trans hr) (hrun.2.trans hs) (by rw [hlev]; exact hl)
    have hcard : execUsbDebugOpen t s = .next (attach 1 u) := by
      refine congrArg Host.Outcome.next (if_pos ?_)
      have hh : u.host.usb = true := by simpa [u] using hu
      rw [hh, hsec, hd]
      rfl
    refine ⟨_, hcard, ?_, ?_⟩
    · rw [h1, hlev]
      exact (Tbl.get_set u.sec.dbg 0 _ _ _).trans (if_pos rfl)
    · rw [h1, hsec]
      exact (Tbl.get_set s.sec.dbg 0 _ _ _).trans (if_neg Nat.zero_ne_one)
  · intro l n hl h1 hrg hn h10 h14
    show execDebugRead t r s = _
    unfold execDebugRead
    rw [debugRun_runs hl h1, hn, ← hreg]
    dsimp only
    rw [if_neg (not_not_intro (hrange.trans hrg)), debugData_data h10 h14]
    rfl
  · intro hl
    show execDebugRead t r s = _
    unfold execDebugRead
    exact debugRun_refused hl Nat.zero_lt_one _
  · intro n hl hrg hn h10 h14
    obtain ⟨h1, h2, h3⟩ := debugStore_data (s := u) h10 h14
    have hlen := length_slice_data r.data r.count
    have hcard : execDebugWrite t r s = .next (dbgAnswer 2 DONE [] (debugStore u r)) := by
      unfold execDebugWrite
      rw [debugRun_runs hl (le_refl 2), if_neg (not_not_intro (hrange.trans hrg))]
    rw [hn]
    refine ⟨_, hcard, rfl,
      fun i hi hd => ?_, fun a ha => ?_, ?_, h3.trans himg⟩
    · show some (Memory.readByte ((debugStore u r).region _).data _) = _
      rw [h1, Memory.readByte_writeBytes_at _ _ _ _ (by rw [hlen]; exact hi), getD_slice hi hd]
    · show Memory.readByte ((debugStore u r).region _).data _ = _
      rw [h1, Memory.readByte_writeBytes_other _ _ _ _ (by rw [hlen]; exact ha), hreg]
    · show ((debugStore u r).region _).code = _
      rw [h2, hreg]
  · intro hl
    show execDebugWrite t r s = _
    unfold execDebugWrite
    exact debugRun_refused hl Nat.one_lt_two _
  · intro e hl hp
    obtain ⟨v, h1, h2, h3, h4, h5, h6⟩ := execDebugHalt_halts rfl hl (hpart.trans hp)
    exact ⟨v, h1, h2, h3, h4, h5, h6.trans hlat⟩
  · intro e hl hp hh
    obtain ⟨v, h1, h2, h3, h4, h5, h6⟩ := execDebugResume_restarts rfl hl (hpart.trans hp)
      (by rw [show (advance t s).eng = s.eng from heng]; exact hh)
    exact ⟨v, h1, h2, h3, h4, h5, h6.trans hlat⟩
  · intro e hl hp
    have hcard : execDebugStep t r s = .next (if isHalted u (some e) then
        dbgAnswer 5 DONE [] { u with eng.step := u.eng.step ||| (1#16 <<< e.val) } else dbgAnswer 5 WRONG_STATE [] u) := by
      unfold execDebugStep
      rw [debugRun_runs hl (le_refl 2)]
      dsimp only
      rw [show haltPart (advance t s) r = some (some e) from hpart.trans hp]
    have hhalt : isHalted u (some e) = s.eng.halted.getLsbD e := by rw [isHalted, heng]
    refine ⟨fun h => hcard.trans ?_, fun h => hcard.trans ?_⟩
    · rw [hhalt, h, ← heng]
      rfl
    · rw [hhalt, h]
      rfl
  · intro l hl hh
    obtain ⟨v, h1, h2, h3, h4, h5, h6⟩ := execDebugDetach_detaches rfl hl (by simpa using hh)
    exact ⟨v, h1, h2, h3, h4.trans (by rw [show (advance t s).sec = s.sec from hsec]), h5.trans (by simp), h6.trans (by simp)⟩
  · intro hu
    obtain ⟨v, h1, h2, h3, h4, h5⟩ := execUsbVbusRemoval_closes rfl (by simpa using hu)
    exact ⟨v, h1, h2, h3, h4, h5.trans hlat⟩
  · intro hu he hh
    obtain ⟨v, h1, h2, h3, h4, h5, h6, h7⟩ := execTapReset_resets rfl (htap.trans hu) (hext he) (by simpa using hh)
    exact ⟨v, h1, h2, h3, h4, h5.trans (by rw [show (advance t s).sec = s.sec from hsec]), h6.trans (by simp), h7.trans (by simp)⟩
end

section
/-! PROOFS. The ring at a station (R365-R386, R508). -/

namespace Sys2Proof.Machine

/-! ### What the handling of a header leaves alone -/

section

variable {α : Type} {p : State → α}

theorem missRecord_keeps (h : ∀ (v : State) e g, p { v with ev := e, eng := g } = p v) (consumer : Nat) (lost : EvRec) (s : State) :
    p (missRecord consumer lost s) = p s := by
  unfold missRecord
  split
  · exact h s _ _
  · exact h s _ _

theorem consumersMiss_keeps (h : ∀ (v : State) e g, p { v with ev := e, eng := g } = p v) (lost : EvRec) (s : State) :
    p (consumersMiss lost s) = p s := by
  have hmiss := missRecord_keeps h
  obtain ⟨x, hx⟩ : ∃ x, x = if streamOn s ∧ s.ev.hostPos ≤ s.ev.written - s.ev.fifo.length then
      missRecord 1 lost { s with ev.hostPos := s.ev.written - s.ev.fifo.length + 1 } else s := ⟨_, rfl⟩
  have hxs : p x = p s := by
    rw [hx]
    split
    · exact (hmiss ..).trans (h s _ _)
    · rfl
  unfold consumersMiss
  dsimp only
  rw [← hx]
  refine (foldl_keeps p (fun v c => ?_) _ _).trans (Eq.trans ?_ hxs)
  · split
    · exact (hmiss ..).trans (h v _ _)
    · rfl
  · split
    · split
      · exact (hmiss ..).trans (h x _ _)
      · rfl
    · rfl

theorem soeDrain_keeps (h : ∀ (v : State) e g, p { v with ev := e, eng := g } = p v) (s : State) : p (soeDrain s) = p s :=
  (h _ _ _).trans (foldl_keeps p (fun v _ => h v _ _) _ s)

/-- A record that enters the FIFO changes the records alone (R107-R111). -/
theorem enterRecord_keeps (h : ∀ (v : State) e g, p { v with ev := e, eng := g } = p v) (r : EvRec) (s : State) :
    p (enterRecord r s) = p s := by
  have hout : ∃ x, p x = p s ∧ ∃ y, p y = p x ∧ enterRecord r s
      = if fullService y || decide (y.power.service = .retiredHold) then soeDrain y else y := by
    refine ⟨_, ?_, _, h _ _ _, rfl⟩
    split
    · rfl
    · split
      · rfl
      · rename_i o rest _
        obtain ⟨z, hz⟩ : ∃ z, z = consumersMiss o s := ⟨_, rfl⟩
        dsimp only
        rw [← hz]
        refine (h _ _ _).trans (Eq.trans ?_ (hz ▸ consumersMiss_keeps h o s))
        split
        · exact (missRecord_keeps h ..).trans (h z _ _)
        · rfl
  obtain ⟨x, hx, y, hy, hout⟩ := hout
  rw [hout, ← hx, ← hy]
  split
  · exact soeDrain_keeps h y
  · rfl

theorem checkToken_keeps (hc : ∀ (v : State) x, p { v with sec := x } = p v) (s : State) : p (checkToken s) = p s := by
  unfold checkToken
  split
  · split
    · exact hc s _
    · rfl
  · rfl

end

@[simp] theorem stepBy_frame (delta : Int) (s : State) :
    (stepBy delta s).bcr = s.bcr ∧ (stepBy delta s).ring = s.ring ∧ (stepBy delta s).fld = s.fld :=
  ⟨(checkToken_keeps (p := State.bcr) (by intros; rfl) _).trans (enterRecord_keeps (p := State.bcr) (by intros; rfl) _ _),
    (checkToken_keeps (p := State.ring) (by intros; rfl) _).trans (enterRecord_keeps (p := State.ring) (by intros; rfl) _ _),
    (checkToken_keeps (p := State.fld) (by intros; rfl) _).trans (enterRecord_keeps (p := State.fld) (by intros; rfl) _ _)⟩

@[simp] theorem setTimeState_bcr_ring (st active : Nat) (s : State) :
    (setTimeState st active s).bcr = s.bcr ∧ (setTimeState st active s).ring = s.ring := by
  unfold setTimeState
  dsimp only
  split
  · exact ⟨rfl, rfl⟩
  · split <;> exact ⟨rfl, rfl⟩

theorem slice_congr {a b : Bytes} {o n : Nat} (h : ∀ i, i < n → a[o + i]? = b[o + i]?) : slice a o n = slice b o n := by
  have hq : (a.drop o).take n = (b.drop o).take n := by
    refine List.ext_getElem? fun i => ?_
    rw [List.getElem?_take, List.getElem?_take, List.getElem?_drop, List.getElem?_drop]
    split
    · exact h i ‹_›
    · rfl
  rw [slice, slice, hq]

theorem getElem?_putField_outside {b v : Bytes} {off j : Nat} (hb : off ≤ b.length) (h : j < off ∨ off + v.length ≤ j) :
    (putField b off v)[j]? = b[j]? := by
  have hl : (b.take off).length = off := by simp [hb]
  unfold putField
  rcases h with h | h
  · rw [List.append_assoc, List.getElem?_append_left (by omega), List.getElem?_take_of_lt h]
  · rw [List.getElem?_append_right (by simp; omega), List.getElem?_drop]
    congr 1
    simp
    omega

theorem length_putField {b v : Bytes} {off : Nat} (hb : off + v.length ≤ b.length) : (putField b off v).length = b.length := by
  simp [putField]
  omega

/-- A field written leaves every field apart from it (R367). -/
theorem hdrF_putField_outside {b v : Bytes} {off o n : Nat} (hb : off ≤ b.length) (h : o + n ≤ off ∨ off + v.length ≤ o) :
    hdrF (putField b off v) o n = hdrF b o n := by
  rw [hdrF, slice_congr fun i hi => getElem?_putField_outside hb (by omega), hdrF]

theorem hdrF_putField_same {b v : Bytes} {off n : Nat} (hb : off ≤ b.length) (hv : v.length = n) :
    hdrF (putField b off v) off n = leNat v := by
  rw [hdrF, putField, List.append_assoc, slice_append (by simp [hb]) hv]

theorem hdrF_append {a r : Bytes} {o n : Nat} (h : o + n ≤ a.length) : hdrF (a ++ r) o n = hdrF a o n := by
  rw [hdrF, slice_congr fun i hi => List.getElem?_append_left (by omega), hdrF]

theorem hdrF_take {b : Bytes} {m o n : Nat} (h : o + n ≤ m) : hdrF (b.take m) o n = hdrF b o n := by
  rw [hdrF, slice_congr fun i hi => List.getElem?_take_of_lt (by omega), hdrF]

theorem leNat_leBytes (n v : Nat) : leNat (leBytes n v) = v % 256 ^ n := by
  induction n generalizing v with
  | zero => simp [leBytes, leNat, Nat.mod_one]
  | succ n ih =>
    rw [leBytes, leNat, ih, BitVec.toNat_ofNat, pow_succ' 256]
    exact (Nat.mod_mul ..).symm

/-- A header written anew carries its own check value (R370). -/
theorem hdrGood_rehash {b : Bytes} (hl : 68 ≤ b.length) : hdrGood (rehash b) = true := by
  have hlen : (leBytes 4 (crc32c (b.take 64)).toNat).length = 4 := length_leBytes ..
  have hsame := hdrF_putField_same (show 0x40 ≤ b.length by omega) hlen
  have htake : (rehash b).take 64 = b.take 64 := by
    rw [rehash, putField, List.append_assoc, List.take_left' (by simp; omega)]
  rw [leNat_leBytes, Nat.mod_eq_of_lt (by simpa using (crc32c (b.take 64)).isLt)] at hsame
  rw [hdrGood, htake]
  exact Bool.and_eq_true_iff.mpr ⟨decide_eq_true (by rw [rehash, length_putField (by omega)]; exact hl), decide_eq_true hsame⟩

theorem length_of_hdrGood {b : Bytes} (h : hdrGood b = true) : 68 ≤ b.length := by
  simp only [hdrGood, Bool.and_eq_true, decide_eq_true_eq] at h
  exact h.1

theorem length_of_msgGood {b : Bytes} (h : msgGood b = true) : 28 ≤ b.length := by
  simp only [msgGood, Bool.and_eq_true, decide_eq_true_eq] at h
  omega

/-- A frame that goes on has HOPS one up and a good header (R367, R370). -/
theorem forwardFrame_sends {port res : Nat} {b : Bytes} (s : State) (hh : frHops b ≤ 127) (hl : 68 ≤ b.length) :
    ∃ f, forwardFrame port res b s = ringSend (if turnsAt s port then port else 1 - port) f s ∧ frHops f = frHops b + 1
      ∧ hdrGood f = true := by
  obtain ⟨b1, h1⟩ : ∃ x, x = putField b 0x19 (leBytes 1 (frHops b + 1)) := ⟨_, rfl⟩
  obtain ⟨b2, h2⟩ : ∃ x, x = putField b1 0x10 (leBytes 4 ((frCorr b + linkDelay s port + res) % 2 ^ 32)) := ⟨_, rfl⟩
  obtain ⟨b3, h3⟩ : ∃ x, x = if turnsAt s port then putField b2 1 (leBytes 1 (hdrF b 1 1 ||| 2)) else b2 := ⟨_, rfl⟩
  have l1 : b1.length = b.length := by rw [h1, length_putField (by simp; omega)]
  have l2 : b2.length = b.length := by rw [h2, length_putField (by simp; omega), l1]
  have l3 : b3.length = b.length := by
    rw [h3]
    split
    · rw [length_putField (by simp; omega), l2]
    · exact l2
  have e1 : frHops b1 = frHops b + 1 := by
    rw [frHops, h1, hdrF_putField_same (by omega) (length_leBytes ..), leNat_leBytes]
    exact Nat.mod_eq_of_lt (by omega)
  have e2 : frHops b2 = frHops b1 := by rw [frHops, h2, hdrF_putField_outside (by omega) (by simp), frHops]
  have e3 : frHops b3 = frHops b2 := by
    rw [h3]
    split
    · rw [frHops, hdrF_putField_outside (by omega) (by simp), frHops]
    · rfl
  have e4 : frHops (rehash b3) = frHops b3 := by rw [frHops, rehash, hdrF_putField_outside (by omega) (by simp), frHops]
  refine ⟨rehash b3, ?_, by rw [e4, e3, e2, e1], hdrGood_rehash (by omega)⟩
  rw [forwardFrame, if_neg (by omega), h3, h2, h1]

/-! ### A controller's entry and the header of a frame -/

/-- What the handling of a frame leaves as it is until the frame goes on. -/
structure RingKept (s v : State) : Prop where
  link : v.ring.link = s.ring.link
  sent : v.ring.sent = s.ring.sent
  active : v.ring.active = s.ring.active
  committed : v.ring.committed = s.ring.committed
  ringId : v.ring.ringId = s.ring.ringId
  bcr : v.bcr = s.bcr

theorem RingKept.trans {s v w : State} (h : RingKept s v) (h' : RingKept v w) : RingKept s w :=
  ⟨h'.link.trans h.link, h'.sent.trans h.sent, h'.active.trans h.active, h'.committed.trans h.committed,
    h'.ringId.trans h.ringId, h'.bcr.trans h.bcr⟩

theorem RingKept.of_ring {s v : State} (hr : v.ring = s.ring) (hb : v.bcr = s.bcr) : RingKept s v :=
  ⟨by rw [hr], by rw [hr], by rw [hr], by rw [hr], by rw [hr], hb⟩

theorem ctl_setCtl (k : Nat) (c : CtlRt) (s : State) (j : Nat) : ctl (setCtl k c s) j = if j = k then c else ctl s j := Tbl.get_set ..

theorem ctl_setCtl_same (k : Nat) (c : CtlRt) (s : State) : ctl (setCtl k c s) k = c := (ctl_setCtl ..).trans (if_pos rfl)

theorem ctl_of_ring {s v : State} (h : v.ring = s.ring) (k : Nat) : ctl v k = ctl s k := by rw [ctl, h, ctl]

theorem sendCmd_keeps {α : Type} {p : State → α} (hc : ∀ (v : State) n c, p (v.setChan n c) = p v) (ch : Nat) (s : State) :
    p (sendCmd ch s) = p s := by
  unfold sendCmd
  split
  · split
    · exact hc ..
    · rfl
  · rfl

/-- Outputs taken change channels, the image, the panel and the records alone (R378, R385). -/
theorem applyOut_keeps {α : Type} {p : State → α} (hc : ∀ (v : State) n c, p (v.setChan n c) = p v)
    (hi : ∀ v a x, p (setImg a x v) = p v) (hr : ∀ r v, p (raise r v) = p v)
    (hp : ∀ (v : State) x, p { v with panel := x } = p v) (out : Bytes) (s : State) : p (applyOut out s) = p s := by
  have hflag : ∀ i x v, p (takeFlag i x v) = p v := fun i x v => by
    unfold takeFlag
    dsimp only
    split
    · exact hi ..
    · exact (flagEvents_keeps hr ..).trans (hi ..)
  unfold applyOut
  dsimp only
  refine ((foldl_keeps p (fun v i => ?_) _ _).trans (foldl_keeps p (fun v i => ?_) _ _)).trans (foldl_keeps p (fun v i => ?_) _ _)
  · split
    · exact hp ..
    · rfl
  · split
    · exact hflag ..
    · rfl
  · exact (sendCmd_keeps hc ..).trans ((hi ..).trans (hc ..))

theorem followClaim_keeps {α : Type} {p : State → α} (hc : ∀ (v : State) n c, p (v.setChan n c) = p v)
    (hi : ∀ v a x, p (setImg a x v) = p v) (hr : ∀ r v, p (raise r v) = p v)
    (hp : ∀ (v : State) x, p { v with panel := x } = p v) (old : Option (Fin 3)) (s : State) : p (followClaim old s) = p s := by
  have hall : ∀ v, p (sendAllCmds v) = p v := foldl_keeps p (fun v ch => sendCmd_keeps hc ch v) _
  unfold followClaim
  split
  · rfl
  · split
    · refine (hall _).trans ?_
      split
      · rfl
      · exact applyOut_keeps hc hi hr hp ..
    · rfl

@[simp] theorem followClaim_frame (old : Option (Fin 3)) (s : State) : (followClaim old s).bcr = s.bcr
    ∧ (followClaim old s).ring = s.ring ∧ (followClaim old s).fld.dies = s.fld.dies :=
  ⟨followClaim_keeps (p := State.bcr) (by intros; rfl) (by intros; rfl) (by intros; rfl) (by intros; rfl) ..,
    followClaim_keeps (p := State.ring) (by intros; rfl) (by intros; rfl) (by intros; rfl) (by intros; rfl) ..,
    followClaim_keeps (p := fun s => s.fld.dies) (by intros; rfl) (by intros; rfl) (by intros; rfl) (by intros; rfl) ..⟩

/-- Outputs taken are kept in the controller's entry (R378). -/
theorem takeOut_ring (k : Nat) (out : Bytes) (s : State) : (takeOut k out s).ring = (setCtl k { ctl s k with out := out } s).ring
    ∧ (takeOut k out s).bcr = s.bcr := by
  unfold takeOut
  dsimp only
  split
  · exact ⟨applyOut_keeps (p := State.ring) (by intros; rfl) (by intros; rfl) (by intros; rfl) (by intros; rfl) ..,
      applyOut_keeps (p := State.bcr) (by intros; rfl) (by intros; rfl) (by intros; rfl) (by intros; rfl) ..⟩
  · exact ⟨rfl, rfl⟩

theorem ctl_takeOut (k : Nat) (out : Bytes) (s : State) (j : Nat) :
    ctl (takeOut k out s) j = if j = k then { ctl s k with out := out } else ctl s j := by
  rw [ctl_of_ring (takeOut_ring ..).1, ctl_setCtl]

/-! ### A header's claim and time -/

/-- The claim as one die hears it (R380). -/
def claimHeard (k : Nat) (claim : Half) (leaseQ n : Nat) (s : State) : State :=
  if (s.die n).powered then
    s.setDie n { s.die n with claims := (s.die n).claims.set {} k { claim := claim, last := s.now, leaseQ := leaseQ, heard := true } }
  else s

theorem refreshClaims_eq (k : Nat) (claim : Half) (leaseQ : Nat) (s : State) :
    refreshClaims k claim leaseQ s = [0, 1, 2, 3].foldl (fun s n => claimHeard k claim leaseQ n s) s := rfl

theorem claimHeard_keeps (k : Nat) (claim : Half) (leaseQ n d : Nat) (s : State) :
    (claimHeard k claim leaseQ n s).now = s.now ∧ ((claimHeard k claim leaseQ n s).die d).powered = (s.die d).powered
      ∧ (claimHeard k claim leaseQ n s).ring = s.ring ∧ (claimHeard k claim leaseQ n s).bcr = s.bcr := by
  unfold claimHeard
  split
  · refine ⟨rfl, ?_, rfl, rfl⟩
    rw [State.die_setDie]
    split
    · rename_i h
      rw [h]
    · rfl
  · exact ⟨rfl, rfl, rfl, rfl⟩

/-- Each powered die hears the claim with the sender's lease, whatever the others' order (R380). -/
theorem claims_heard {k d : Nat} {claim : Half} {leaseQ : Nat} (l : List Nat) (s : State) (hp : (s.die d).powered = true)
    (h : d ∈ l ∨ (s.die d).claims.get {} k = { claim := claim, last := s.now, leaseQ := leaseQ, heard := true }) :
    ((l.foldl (fun s n => claimHeard k claim leaseQ n s) s).die d).claims.get {} k
      = { claim := claim, last := s.now, leaseQ := leaseQ, heard := true } := by
  induction l generalizing s with
  | nil => exact h.resolve_left (List.not_mem_nil)
  | cons n l ih =>
    obtain ⟨hnow, hpow, -, -⟩ := claimHeard_keeps k claim leaseQ n d s
    rw [List.foldl_cons, ih _ (hpow.trans hp), hnow]
    by_cases hn : d = n
    · right
      subst hn
      rw [claimHeard, if_pos hp, State.die_setDie, if_pos rfl]
      exact (Tbl.get_set ..).trans (if_pos rfl)
    · rcases h with h | h
      · exact .inl ((List.mem_cons.mp h).resolve_left hn)
      · right
        rw [hnow]
        refine Eq.trans ?_ h
        unfold claimHeard
        split
        · rw [State.die_setDie, if_neg hn]
        · rfl

theorem refreshClaims_frame (k : Nat) (claim : Half) (leaseQ : Nat) (s : State) :
    (refreshClaims k claim leaseQ s).ring = s.ring ∧ (refreshClaims k claim leaseQ s).bcr = s.bcr :=
  ⟨foldl_keeps State.ring (fun v n => (claimHeard_keeps k claim leaseQ n 0 v).2.2.1) [0, 1, 2, 3] s,
    foldl_keeps State.bcr (fun v n => (claimHeard_keeps k claim leaseQ n 0 v).2.2.2) [0, 1, 2, 3] s⟩

/-- The time of a header moves the timebase and the quality of the ring's time alone (R381). -/
theorem takeTime_frame (port : Nat) (b : Bytes) (s : State) : (takeTime port b s).ring = { s.ring with ctlQuality := frQuality b }
    ∧ (takeTime port b s).bcr = s.bcr ∧ (takeTime port b s).fld = s.fld := by
  have hout : ∃ x : State, (x.ring = s.ring ∧ x.bcr = s.bcr ∧ x.fld = s.fld) ∧ ∃ tm, takeTime port b s
      = setTimeState 2 4 { x with ring.ctlQuality := frQuality b, time := tm } := by
    refine ⟨_, ?_, _, rfl⟩
    obtain ⟨h1, h2, h3⟩ := stepBy_frame ((frTxTai b + frCorr b + linkDelay s port : Nat) - s.time.tai) s
    split
    · exact ⟨h2, h1, h3⟩
    · exact ⟨rfl, rfl, rfl⟩
  obtain ⟨x, ⟨h1, h2, h3⟩, tm, hout⟩ := hout
  rw [hout, (setTimeState_bcr_ring ..).1, (setTimeState_bcr_ring ..).2, (setTimeState_frame ..).2.2.2.2.1]
  exact ⟨by rw [h1], h2, h3⟩

/-- What an admitted controller's header leaves in its entry (R380). -/
def heardEntry (b : Bytes) (now : Nat) (c : CtlRt) : CtlRt :=
  { c with lastHeard := now, claim := frClaim b, leaseQ := frLease b, toBits := frTo b }

/-- A header of an admitted controller: its entry, and every powered die's claim; a new cycle follows a SUM (R380, R381). -/
theorem takeHeader_hears {port : Nat} {b : Bytes} {s : State} (ha : (ctl s (ctlOf (frClaim b))).admission = 2) :
    ∃ v, takeHeader port b s = (if frType b = 1 ∧ (ctl v (ctlOf (frClaim b))).cycle ≠ some (frCycle b)
        then newCycle (ctlOf (frClaim b)) b v else v)
      ∧ RingKept s v ∧ ctl v (ctlOf (frClaim b)) = heardEntry b s.now (ctl s (ctlOf (frClaim b)))
      ∧ ∀ d, d < 4 → (s.die d).powered = true →
        (v.die d).claims.get {} (ctlOf (frClaim b)) = { claim := frClaim b, last := s.now, leaseQ := frLease b, heard := true } := by
  obtain ⟨k, hk⟩ : ∃ k, k = ctlOf (frClaim b) := ⟨_, rfl⟩
  rw [← hk] at ha ⊢
  obtain ⟨x, hx⟩ : ∃ x, x = setCtl k (heardEntry b s.now (ctl s k)) (noteCopy port b s) := ⟨_, rfl⟩
  obtain ⟨old, hold⟩ : ∃ old, old = obeyedCtl (noteCopy port b s) := ⟨_, rfl⟩
  obtain ⟨y, hy⟩ : ∃ y, y = followClaim old (refreshClaims k (frClaim b) (frLease b) x) := ⟨_, rfl⟩
  obtain ⟨z, hz⟩ : ∃ z, z = if (obeyedCtl y).map Fin.val = some k then takeTime port b y else y := ⟨_, rfl⟩
  have hkx : RingKept s x := by
    rw [hx]
    exact ⟨rfl, rfl, rfl, rfl, rfl, rfl⟩
  have hyx : y.ring = x.ring ∧ y.bcr = x.bcr := by
    rw [hy, (followClaim_frame ..).1, (followClaim_frame ..).2.1]
    exact refreshClaims_frame ..
  have hzy : RingKept y z ∧ z.ring.ctl = y.ring.ctl ∧ z.fld.dies = y.fld.dies := by
    obtain ⟨h1, h2, h3⟩ := takeTime_frame port b y
    rw [hz]
    split
    · exact ⟨⟨by rw [h1], by rw [h1], by rw [h1], by rw [h1], by rw [h1], h2⟩, by rw [h1], by rw [h3]⟩
    · exact ⟨.of_ring rfl rfl, rfl, rfl⟩
  refine ⟨z, ?_, (hkx.trans (.of_ring hyx.1 hyx.2)).trans hzy.1, ?_, fun d hd hp => ?_⟩
  · rw [hz, hy, hx, hold]
    unfold takeHeader
    dsimp only
    rw [← hk]
    exact if_neg (not_not_intro ha)
  · have hzx : ctl z k = ctl x k := by rw [ctl, hzy.2.1, hyx.1, ctl]
    rw [hzx, hx, ctl_setCtl_same]
  · have hdie : z.die d = (refreshClaims k (frClaim b) (frLease b) x).die d := by
      rw [State.die, hzy.2.2, hy, (followClaim_frame ..).2.2, State.die]
    have hxd : x.die d = s.die d ∧ x.now = s.now := by
      rw [hx]
      exact ⟨rfl, rfl⟩
    rw [hdie, refreshClaims_eq, claims_heard _ _ (by rw [hxd.1, hp]) (.inl (by simp; omega)), hxd.2]

/-- A header of a controller that is not admitted begins its admission (R386). -/
theorem takeHeader_admits {port : Nat} {b : Bytes} {s : State} (ha : (ctl s (ctlOf (frClaim b))).admission ≠ 2) :
    RingKept s (takeHeader port b s) ∧ (ctl (takeHeader port b s) (ctlOf (frClaim b))).admission = 1
      ∧ (takeHeader port b s).img = s.img := by
  have hout : takeHeader port b s = setCtl (ctlOf (frClaim b)) { ctl s (ctlOf (frClaim b)) with admission := 1, lastHeard := s.now }
      { noteCopy port b s with ring.stState := max 1 s.ring.stState } := if_pos ha
  rw [hout, ctl_setCtl_same]
  exact ⟨⟨rfl, rfl, rfl, rfl, rfl, rfl⟩, rfl, rfl⟩

theorem takeRecords_frame (k n : Nat) (s : State) :
    (takeRecords k n s).2.2.bcr = s.bcr ∧ (takeRecords k n s).2.2.ring = s.ring := by
  unfold takeRecords
  cases s.ev.markers.get none (2 + k) with
  | none => exact ⟨rfl, rfl⟩
  | some m =>
    by_cases hn : n = 0 <;> simp [hn]

/-- A new cycle without a committed block: the IN data is latched and the outputs are owed (R378). -/
theorem newCycle_latches {k : Nat} {b : Bytes} {s : State} (hc : s.ring.committed = none) : RingKept s (newCycle k b s)
    ∧ ∃ inp at' ns, ctl (newCycle k b s) k
      = { ctl s k with cycle := some (frCycle b), inData := inp, taken := false, sumAt := at', cycleNs := ns } := by
  have hact : activateBlock k s = s := by rw [activateBlock, hc]
  obtain ⟨r, hr⟩ : ∃ r : Bytes × State,
      r = if (ownSlots s b).any fun sl => !tagDiffers s sl then inSection k s else ([], s) := ⟨_, rfl⟩
  have hr2 : r.2.bcr = s.bcr ∧ r.2.ring = s.ring := by
    rw [hr]
    split
    · exact takeRecords_frame ..
    · exact ⟨rfl, rfl⟩
  unfold newCycle
  dsimp only
  rw [hact, ← hr, ctl_of_ring hr2.2]
  exact ⟨.trans (.of_ring hr2.2 hr2.1) ⟨rfl, rfl, rfl, rfl, rfl, rfl⟩, _, _, _, ctl_setCtl_same ..⟩

/-! ### The station's own slot -/

/-- A good slot with OUT_VALID alone and the tag in force: its outputs are taken (R378). -/
theorem passSlot_takes {k port : Nat} {b sl : Bytes} {s : State} (hg : slotGood sl = true) (hm : tagDiffers s sl = false)
    (ht : (ctl s k).taken = false) (hf : hdrF sl 1 1 = 1) : RingKept s (passSlot k port b sl s).2
      ∧ (passSlot k port b sl s).2.ring.stState = 3
      ∧ ctl (passSlot k port b sl s).2 k = { ctl s k with taken := true, out := slice sl 8 (hdrF sl 4 2) } := by
  obtain ⟨x, hx⟩ : ∃ x : State, x = ({ s with ring.stState := 3 } : State).setStation 0 { s.station 0 with
      diag := statDiag (BitVec.ofNat 8 (statOf s port false)) ||| 1#8, lastSeen := frCycle b } := ⟨_, rfl⟩
  have hxs : RingKept s x ∧ x.ring.stState = 3 ∧ ctl x k = ctl s k := by
    rw [hx]
    exact ⟨⟨rfl, rfl, rfl, rfl, rfl, rfl⟩, rfl, rfl⟩
  have hpass : (passSlot k port b sl s).2 = slotOutputs k b sl x := by
    rw [hx]
    unfold passSlot
    dsimp only
    rw [hm, hg]
    rfl
  have hslot : slotOutputs k b sl x = takeOut k (slice sl 8 (hdrF sl 4 2)) (setCtl k { ctl x k with taken := true } x) := by
    unfold slotOutputs
    dsimp only
    rw [hf, hxs.2.2, ht]
    rfl
  obtain ⟨h1, h2⟩ := takeOut_ring k (slice sl 8 (hdrF sl 4 2)) (setCtl k { ctl x k with taken := true } x)
  rw [hpass, hslot, ctl_takeOut, if_pos rfl, ctl_setCtl_same]
  refine ⟨hxs.1.trans ?_, by rw [h1]; exact hxs.2.1, by rw [hxs.2.2]⟩
  exact ⟨by rw [h1]; rfl, by rw [h1]; rfl, by rw [h1]; rfl, by rw [h1]; rfl, by rw [h1]; rfl, h2⟩

theorem passSlots_single {k port : Nat} {b sl : Bytes} {s : State} (h : hdrF sl 0 1 = s.bcr.stationNo) :
    passSlots k port b [sl] s = ((passSlot k port b sl s).1 ++ [], (passSlot k port b sl s).2) := by
  unfold passSlots
  rw [if_pos h]
  rfl

/-! ### The frames themselves -/

/-- A SUM copy of this ring that goes on: header, slots and frame in this order (R378, R380). -/
theorem sumRxStation_passes {port : Nat} {b : Bytes} {s : State} (hs : stationRuns s = true) (hp : s.ring.link.getLsbD port = true)
    (ht : frType b = 1) (hg : hdrGood b = true) (hf : ringIdFits s (frRingId b) = true) (hh : frHops b ≤ 127) :
    ∃ res s0, RingKept s s0 ∧ ctl s0 = ctl s ∧ s0.now = s.now ∧ s0.img = s.img
      ∧ ∀ s1, s1 = takeHeader port b s0 → sumRxStation port b s =
        if (ctl s1 (ctlOf (frClaim b))).admission ≠ 2 ∨ frReturn b then forwardFrame port res b s1
        else forwardFrame port res (b.take 68 ++ (passSlots (ctlOf (frClaim b)) port b (slotsOf b) s1).1)
          (passSlots (ctlOf (frClaim b)) port b (slotsOf b) s1).2 := by
  refine ⟨(residence (turnsAt s port) s).1, (residence (turnsAt s port) s).2, ⟨rfl, rfl, rfl, rfl, rfl, rfl⟩, rfl, rfl, rfl, fun s1 h1 => ?_⟩
  rw [h1]
  unfold sumRxStation
  dsimp only
  rw [if_neg (by simp [hs, hp, ht]), if_neg (by simp [hg]), if_neg (by omega), if_neg (by simp [hf])]

/-- A BEACON of this ring: its header is taken and it goes on (R367, R380). -/
theorem beaconRx_passes {port : Nat} {b : Bytes} {s : State} (hs : stationRuns s = true) (hp : s.ring.link.getLsbD port = true)
    (ht : frType b = 2) (hg : hdrGood b = true) (hf : ringIdFits s (frRingId b) = true) (hh : frHops b ≤ 127) :
    ∃ res s0, RingKept s s0 ∧ ctl s0 = ctl s ∧ s0.now = s.now ∧ s0.fld = s.fld
      ∧ beaconRx port b s = forwardFrame port res b (takeHeader port b s0) := by
  refine ⟨(residence (turnsAt s port) s).1, (residence (turnsAt s port) s).2, ⟨rfl, rfl, rfl, rfl, rfl, rfl⟩, rfl, rfl, rfl, ?_⟩
  unfold beaconRx
  dsimp only
  rw [if_neg (by simp [hs, hp, ht]), if_neg (by simp [hg]), if_neg (by omega), if_pos hf]

theorem turnsAt_kept {s v : State} (h : RingKept s v) (port : Nat) : turnsAt v port = turnsAt s port := by
  rw [turnsAt, h.link, turnsAt]

theorem sent_head (p : Nat) (f : Bytes) (s : State) : (ringSend p f s).ring.sent.head? = some (p, f) := rfl

theorem sent_length (p : Nat) (f : Bytes) (s : State) : (ringSend p f s).ring.sent.length = min 64 (s.ring.sent.length + 1) :=
  List.length_take

/-- The port by which a MSG frame leaves: the one that has a link, or both (R367). -/
def wayOf (s : State) : Nat := if s.ring.link = 1#2 then 0 else if s.ring.link = 2#2 then 1 else 2

theorem forwardMsg_turns {port : Nat} {b : Bytes} {s : State} (h : turnsAt s port = true) (hl : 28 ≤ b.length) :
    ∃ f, forwardMsg port b s = ringSend port f s ∧ hdrF f 9 1 = hdrF b 9 1 := by
  refine ⟨_, if_pos h, ?_⟩
  have hlen : (putField b 1 (leBytes 1 (hdrF b 1 1 ||| 2))).length = b.length := length_putField (by simp; omega)
  rw [closeSlot, hdrF_append (by simp [hlen]; omega), hdrF_take (by omega), hdrF_putField_outside (by omega) (by simp)]

theorem msgGoesOn_sends {b : Bytes} (s : State) (hl : 28 ≤ b.length) :
    ∃ f, msgGoesOn b s = ringSend (wayOf s) f s ∧ hdrF f 9 1 = hdrF b 9 1 := by
  unfold msgGoesOn wayOf
  split
  · rename_i h
    exact forwardMsg_turns (by rw [turnsAt, h]; decide) hl
  · split
    · rename_i h
      exact forwardMsg_turns (by rw [turnsAt, h]; decide) hl
    · exact ⟨b, rfl, rfl⟩

/-- A MSG frame goes on with its reply, OP[7] set (R374). -/
theorem msgAnswer_sends {b : Bytes} (data : Bytes) (s : State) (hl : 28 ≤ b.length) :
    ∃ f, msgAnswer b data s = ringSend (wayOf s) f s ∧ hdrF f 9 1 = (hdrF b 9 1 + 128) % 256 := by
  obtain ⟨f, h1, h2⟩ := msgGoesOn_sends (b := closeSlot (putField (b.take 24) 9 (leBytes 1 (hdrF b 9 1 + 128))
    ++ slice data 0 (hdrF b 10 2))) s (by
      simp only [closeSlot, List.length_append, length_leBytes, length_slice]
      rw [length_putField (by simp; omega)]
      simp
      omega)
  refine ⟨f, h1, h2.trans ?_⟩
  have hlen : (putField (b.take 24) 9 (leBytes 1 (hdrF b 9 1 + 128))).length = 24 := by
    rw [length_putField (by simp; omega)]
    simp
    omega
  rw [closeSlot, List.append_assoc, hdrF_append (by omega), hdrF_putField_same (by simp; omega) (length_leBytes ..), leNat_leBytes, pow_one]

theorem msgForMe_iff {s : State} {op : Nat} {b : Bytes} (h : msgForMe s op b = true) : msgGood b = true ∧ hdrF b 9 1 = op := by
  simp only [msgForMe, Bool.and_eq_true, decide_eq_true_eq] at h
  obtain ⟨⟨⟨⟨⟨-, hg⟩, -⟩, -⟩, ho⟩, -⟩ := h
  exact ⟨hg, ho⟩

theorem freeAnswer_sends {b : Bytes} (s : State) (hl : 28 ≤ b.length) :
    ∃ f, (freeAnswer b s).ring = (ringSend (wayOf s) f s).ring ∧ (freeAnswer b s).img = s.img := by
  obtain ⟨f, h1, -⟩ := msgAnswer_sends (drawBytes (hdrF b 10 2 / 4 + 1) s).1 (drawBytes (hdrF b 10 2 / 4 + 1) s).2 hl
  have hr : (drawBytes (hdrF b 10 2 / 4 + 1) s).2.ring = s.ring := drawBytes_keeps (p := State.ring) (by intros; rfl) ..
  have hi : (drawBytes (hdrF b 10 2 / 4 + 1) s).2.img = s.img := drawBytes_keeps (p := State.img) (by intros; rfl) ..
  have hout : freeAnswer b s = ringSend (wayOf (drawBytes (hdrF b 10 2 / 4 + 1) s).2) f (drawBytes (hdrF b 10 2 / 4 + 1) s).2 := h1
  refine ⟨f, ?_, ?_⟩
  · rw [hout, wayOf, hr, ← wayOf, ringSend, hr, ringSend]
  · rw [hout]
    exact hi

/-! ### The cards -/

section

variable {s : State} {port : Nat} {b : Bytes}

/-- The first good copy of a cycle with outputs for this station (R378, R380). -/
theorem sumRxStation_takes {sl : Bytes} {blk : StationBlock} (hs : stationRuns s = true) (hp : s.ring.link.getLsbD port = true)
    (ht : frType b = 1) (hg : hdrGood b = true) (hf : ringIdFits s (frRingId b) = true)
    (ha : (ctl s (ctlOf (frClaim b))).admission = 2) (hret : frReturn b = false) (hh : frHops b ≤ 127) (hsl : slotsOf b = [sl])
    (hno : hdrF sl 0 1 = s.bcr.stationNo) (hgood : slotGood sl = true) (hact : s.ring.active = some blk)
    (htag : cfgTagOf blk = hdrF sl 6 2) (hcom : s.ring.committed = none) (hcy : (ctl s (ctlOf (frClaim b))).cycle ≠ some (frCycle b))
    (hctrl : hdrF sl 1 1 = 1) :
    ∃ v f, sumRxStation port b s = v ∧ (ctl v (ctlOf (frClaim b))).lastHeard = s.now
      ∧ (ctl v (ctlOf (frClaim b))).claim = frClaim b ∧ (ctl v (ctlOf (frClaim b))).cycle = some (frCycle b)
      ∧ (ctl v (ctlOf (frClaim b))).taken = true ∧ (ctl v (ctlOf (frClaim b))).out = slice sl 8 (hdrF sl 4 2)
      ∧ v.ring.stState = 3 ∧ v.ring.sent.head? = some ((if turnsAt s port then port else 1 - port), f)
      ∧ frHops f = frHops b + 1 ∧ hdrGood f = true := by
  obtain ⟨k, hk⟩ : ∃ k, k = ctlOf (frClaim b) := ⟨_, rfl⟩
  obtain ⟨res, s0, hk0, hc0, hn0, -, hout⟩ := sumRxStation_passes hs hp ht hg hf hh
  obtain ⟨v1, hv1, hk1, hctl1, -⟩ := takeHeader_hears (port := port) (s := s0) (by rw [hc0]; exact ha)
  rw [← hk] at ha hcy hv1 hctl1 hout ⊢
  have hcyc1 : (ctl v1 k).cycle ≠ some (frCycle b) := by
    rw [hctl1, heardEntry, hc0]
    exact hcy
  rw [if_pos ⟨ht, hcyc1⟩] at hv1
  have hk01 := hk0.trans hk1
  obtain ⟨hk2, inp, at', ns, hctl2⟩ := newCycle_latches (k := k) (b := b) (hk01.committed.trans hcom)
  obtain ⟨v2, hv2⟩ : ∃ v2, v2 = newCycle k b v1 := ⟨_, rfl⟩
  rw [← hv2] at hv1 hk2 hctl2
  have hk02 := hk01.trans hk2
  have hm : tagDiffers v2 sl = false := by
    rw [tagDiffers, hk02.active, hact]
    exact decide_eq_false (not_not_intro htag)
  obtain ⟨hk3, hst3, hctl3⟩ := passSlot_takes (k := k) (port := port) (b := b) hgood hm (by rw [hctl2]) hctrl
  have hpass := hout v2 hv1.symm
  rw [if_neg (by rw [hctl2, hctl1, heardEntry, hc0, ha, hret]; decide), hsl, passSlots_single (by rw [hk02.bcr]; exact hno)] at hpass
  have hlen := length_of_hdrGood hg
  have hhops : frHops (b.take 68 ++ ((passSlot k port b sl v2).1 ++ [])) = frHops b := by
    rw [frHops, hdrF_append (by simp; omega), hdrF_take (by omega), frHops]
  obtain ⟨f, hf1, hf2, hf3⟩ := forwardFrame_sends (port := port) (res := res) (b := b.take 68 ++ ((passSlot k port b sl v2).1 ++ []))
    (passSlot k port b sl v2).2 (by rw [hhops]; exact hh) (by simp; omega)
  rw [turnsAt_kept (hk02.trans hk3)] at hf1
  refine ⟨_, f, hpass.trans hf1, ?_⟩
  have hctl : ctl (ringSend (if turnsAt s port then port else 1 - port) f (passSlot k port b sl v2).2) k
      = ctl (passSlot k port b sl v2).2 k := rfl
  rw [hctl, hctl3, hctl2, hctl1]
  exact ⟨hn0, rfl, rfl, rfl, rfl, hst3, sent_head .., by rw [hf2, hhops], hf3⟩

/-- A copy from a controller that is not admitted is forwarded as it is (R367, R386). -/
theorem sumRxStation_admits (hs : stationRuns s = true) (hp : s.ring.link.getLsbD port = true) (ht : frType b = 1)
    (hg : hdrGood b = true) (hf : ringIdFits s (frRingId b) = true) (ha : (ctl s (ctlOf (frClaim b))).admission ≠ 2)
    (hh : frHops b ≤ 127) :
    ∃ v, sumRxStation port b s = v ∧ (ctl v (ctlOf (frClaim b))).admission = 1 ∧ v.img = s.img ∧ v.ring.ringId = s.ring.ringId
      ∧ v.ring.sent.length = min 64 (s.ring.sent.length + 1) := by
  obtain ⟨res, s0, hk0, hc0, -, hi0, hout⟩ := sumRxStation_passes hs hp ht hg hf hh
  obtain ⟨hk1, hadm, himg⟩ := takeHeader_admits (port := port) (b := b) (s := s0) (by rw [hc0]; exact ha)
  have hpass := hout _ rfl
  obtain ⟨v1, hv1⟩ : ∃ v1, v1 = takeHeader port b s0 := ⟨_, rfl⟩
  rw [← hv1] at hk1 hadm himg hpass
  obtain ⟨f, hf1, -⟩ := forwardFrame_sends (port := port) (res := res) v1 hh (length_of_hdrGood hg)
  rw [if_pos (.inl (by rw [hadm]; decide)), hf1] at hpass
  exact ⟨_, hpass, hadm, himg.trans hi0, (hk0.trans hk1).ringId, by rw [sent_length, (hk0.trans hk1).sent]⟩

/-- A BEACON of an admitted controller refreshes its claim and goes on (R367, R380). -/
theorem beaconRx_refreshes (hs : stationRuns s = true) (hp : s.ring.link.getLsbD port = true) (ht : frType b = 2)
    (hg : hdrGood b = true) (hf : ringIdFits s (frRingId b) = true) (ha : (ctl s (ctlOf (frClaim b))).admission = 2)
    (hh : frHops b ≤ 127) :
    ∃ v f, beaconRx port b s = v ∧ ctl v (ctlOf (frClaim b)) = heardEntry b s.now (ctl s (ctlOf (frClaim b)))
      ∧ frHops f = frHops b + 1 ∧ v.ring.sent.head? = some ((if turnsAt s port then port else 1 - port), f)
      ∧ ∀ d, d < 4 → (s.die d).powered = true →
        (v.die d).claims.get {} (ctlOf (frClaim b)) = { claim := frClaim b, last := s.now, leaseQ := frLease b, heard := true } := by
  obtain ⟨res, s0, hk0, hc0, hn0, hd0, hout⟩ := beaconRx_passes hs hp ht hg hf hh
  obtain ⟨v1, hv1, hk1, hctl1, hcl⟩ := takeHeader_hears (port := port) (s := s0) (by rw [hc0]; exact ha)
  rw [if_neg (by rw [ht]; omega)] at hv1
  obtain ⟨f, hf1, hf2, -⟩ := forwardFrame_sends (port := port) (res := res) v1 hh (length_of_hdrGood hg)
  rw [hv1, hf1, turnsAt_kept (hk0.trans hk1)] at hout
  refine ⟨_, f, hout, ?_, hf2, sent_head .., fun d hd hpw => ?_⟩
  · rw [hn0, hc0] at hctl1
    exact hctl1
  · rw [hn0] at hcl
    exact hcl d hd (by rw [State.die, hd0]; exact hpw)

/-- The second step of the exchange with a good signature (R508). -/
theorem admitStep_admits (hm : msgForMe s 1 b = true) (hl : hdrF b 10 2 < 229) (hk : (ctl s (msgCtl b)).key ≠ [])
    (hv : ecdsaVerify (ctl s (msgCtl b)).key ((ctl s (msgCtl b)).nonce ++ (ctl s (msgCtl b)).cNonce ++ leBytes 4 (hdrF b 4 4))
      (slice (msgData b) 0 96) = true) :
    ∃ v, admitStep b s = v ∧ (ctl v (msgCtl b)).admission = 2 ∧ 2 ≤ v.ring.stState ∧ v.img = s.img ∧ latches v = latches s
      ∧ v.ring.ringId = w32 (hdrF b 4 4) ∧ v.ring.sent.length = min 64 (s.ring.sent.length + 1) := by
  obtain ⟨x, hx⟩ : ∃ x : State, x = { setCtl (msgCtl b) { admission := 2, lastHeard := s.now } s with
    ring.ringId := w32 (hdrF b 4 4), ring.stState := max 2 s.ring.stState
    ev.ringPos := s.ev.ringPos.set 0 (msgCtl b) (s.ev.written - s.ev.fifo.length)
    ev.markers := s.ev.markers.set none (2 + msgCtl b) none } := ⟨_, rfl⟩
  obtain ⟨f, hf, -⟩ := msgAnswer_sends [1#8] x (length_of_msgGood (msgForMe_iff hm).1)
  have hout : admitStep b s = msgAnswer b [1#8] x := by
    rw [hx]
    unfold admitStep admit2
    rw [if_neg (by simp [hm]), if_neg (by omega)]
    exact if_pos ⟨hk, hv⟩
  refine ⟨_, hout.trans hf, ?_⟩
  rw [sent_length, hx]
  exact ⟨congrArg CtlRt.admission (ctl_setCtl_same (msgCtl b) { admission := 2, lastHeard := s.now } s), le_max_left .., rfl, rfl, rfl, rfl⟩

/-- The first step of the exchange with a good identity (R508). -/
theorem admitStep_answers (hm : msgForMe s 1 b = true) (hl : 229 ≤ hdrF b 10 2) (hp : peerOk s (msgData b) = true) :
    ∃ v, admitStep b s = v ∧ (ctl v (msgCtl b)).admission = 1 ∧ (ctl v (msgCtl b)).key = slice (msgData b) 32 96
      ∧ (ctl v (msgCtl b)).cNonce = slice (msgData b) 0 32 ∧ v.ring.ringId = s.ring.ringId ∧ v.img = s.img := by
  obtain ⟨nonce, hnonce⟩ : ∃ n, n = slice (Config.nonce s.sec.draws) 0 32 := ⟨_, rfl⟩
  obtain ⟨c, hc⟩ : ∃ c : CtlRt, c = { admission := 1, nonce := nonce, cNonce := slice (msgData b) 0 32, key := slice (msgData b) 32 96, lastHeard := s.now } := ⟨_, rfl⟩
  obtain ⟨r, hr⟩ : ∃ r, r = identitySig (slice (msgData b) 0 32 ++ nonce ++ leBytes 4 (hdrF b 4 4)) { s with sec.draws := s.sec.draws + 1 } :=
    ⟨_, rfl⟩
  have hring : r.2.ring = s.ring := by
    rw [hr]
    exact identitySig_keeps (p := State.ring) (by intros; rfl) ..
  have himg : r.2.img = s.img := by
    rw [hr]
    exact identitySig_keeps (p := State.img) (by intros; rfl) ..
  obtain ⟨x, hx⟩ : ∃ x : State, x = setCtl (msgCtl b) c { r.2 with ring.stState := max 1 r.2.ring.stState } := ⟨_, rfl⟩
  have hout : admitStep b s = msgAnswer b (idBlock r.2 nonce ++ r.1) x := by
    rw [hx, hc, hr, hnonce]
    unfold admitStep admit1
    dsimp only
    rw [if_neg (by simp [hm]), if_pos hl, if_neg (by simp [hp])]
  obtain ⟨f, hf, -⟩ := msgAnswer_sends (idBlock r.2 nonce ++ r.1) x (length_of_msgGood (msgForMe_iff hm).1)
  have hctl : ctl (ringSend (wayOf x) f x) (msgCtl b) = c := by
    rw [hx]
    exact ctl_setCtl_same ..
  refine ⟨_, hout.trans hf, by rw [hctl, hc], by rw [hctl, hc], by rw [hctl, hc], ?_, ?_⟩
  · rw [hx]
    show r.2.ring.ringId = _
    rw [hring]
  · rw [hx]
    exact himg

/-- An identity that does not verify: the controller is unknown again (R508, R515). -/
theorem admitStep_refuses (hm : msgForMe s 1 b = true) (hl : 229 ≤ hdrF b 10 2) (hp : peerOk s (msgData b) = false) :
    ∃ v, admitStep b s = v ∧ (ctl v (msgCtl b)).admission = 0 ∧ v.img = s.img := by
  obtain ⟨x, hx⟩ : ∃ x, x = refuseCtl (msgCtl b) s := ⟨_, rfl⟩
  have hring : x.ring = (setCtl (msgCtl b) {} s).ring := hx ▸ audit_keeps (p := State.ring) (by intros; rfl) (by intros; rfl) ..
  have himg : x.img = s.img := hx ▸ audit_keeps (p := State.img) (by intros; rfl) (by intros; rfl) ..
  obtain ⟨f, hf, -⟩ := msgGoesOn_sends x (length_of_msgGood (msgForMe_iff hm).1)
  have hout : admitStep b s = msgGoesOn b x := by
    rw [hx]
    unfold admitStep admit1
    dsimp only
    rw [if_neg (by simp [hm]), if_pos hl, if_pos (by simp [hp])]
  have hctl : ctl (ringSend (wayOf x) f x) (msgCtl b) = {} := (ctl_of_ring (s := setCtl (msgCtl b) {} s) hring _).trans (ctl_setCtl_same ..)
  exact ⟨_, hout.trans hf, by rw [hctl], himg⟩

end

/-- Outputs of one controller whose instant has come (R378). -/
def syncDue (k : Nat) (s : State) : State :=
  match (ctl s k).syncAt with
  | some a => if a ≤ s.time.tai then takeOut k (ctl s k).syncOut (setCtl k { ctl s k with syncAt := none, syncOut := [] } s) else s
  | none => s

theorem syncOutputApply_eq (s : State) : syncOutputApply s = syncDue 2 (syncDue 1 s) := rfl

theorem syncDue_takes {k a : Nat} {s : State} (h : (ctl s k).syncAt = some a) (ha : a ≤ s.time.tai) :
    ctl (syncDue k s) k = { ctl s k with syncAt := none, syncOut := [], out := (ctl s k).syncOut } := by
  rw [syncDue, h]
  dsimp only
  rw [if_pos ha, ctl_takeOut, if_pos rfl, ctl_setCtl_same]

theorem syncDue_other {k j : Nat} (h : j ≠ k) (s : State) : ctl (syncDue k s) j = ctl s j := by
  unfold syncDue
  split
  · split
    · rw [ctl_takeOut, if_neg h, ctl_setCtl, if_neg h]
    · rfl
  · rfl

end Sys2Proof.Machine

open Sys2Proof Sys2Proof.Machine

/-- Settles O56: headers by `takeHeader_hears`, the own slot by `passSlot_takes`, admission by `admitStep_admits` and its
fellows; what leaves the station by `forwardFrame_sends` and `msgAnswer_sends`. -/
theorem stationAnswersItsControllers : Obligations.StationAnswersItsControllers := by
  unfold Obligations.StationAnswersItsControllers
  intro s t port b u k m
  have hring : u.ring = s.ring := by simp [u]
  have hruns : stationRuns u = stationRuns s := by simp [u]
  have hfits : ∀ id, ringIdFits u id = ringIdFits s id := fun id => by simp [u]
  have hctl : ∀ k, ctl u k = ctl s k := fun k => by simp [u]
  have hbcr : u.bcr = s.bcr := by simp [u]
  have hturn : turnsAt u port = turnsAt s port := by simp [u]
  have himg : u.img = s.img := by simp [u]
  have hmine : ∀ op, msgForMe u op b = msgForMe s op b := fun op => by simp [u]
  have hpeer : ∀ d, peerOk u d = peerOk s d := fun d => by simp [u]
  have hlink : ∀ i, s.ring.link.getLsbD i = true → u.ring.link.getLsbD i = true := fun i h => by rw [hring]; exact h
  have hlat : latches u = latches s := latches_of fun c => by simp [u]
  refine ⟨?_, ?_, ?_, ?_, ?_, ?_, ?_, ?_, ?_, ?_, ?_, ?_, ?_, ?_⟩
  · intro sl blk hs hp ht hg hf ha hret hh hsl hno hgood hact htag hcom hcy hctrl
    obtain ⟨v, f, h1, h2⟩ := sumRxStation_takes (s := u) (hruns.trans hs) (hlink _ hp) ht hg ((hfits _).trans hf) (by rw [hctl]; exact ha)
      hret hh hsl (by rw [hbcr]; exact hno) hgood (by rw [hring]; exact hact) htag (by rw [hring]; exact hcom) (by rw [hctl]; exact hcy) hctrl
    rw [hturn] at h2
    exact ⟨v, f, congrArg Host.Outcome.next h1, h2⟩
  · intro hs hp ht hg hf ha hh
    obtain ⟨v, h1, h2, h3, h4, h5⟩ := sumRxStation_admits (s := u) (hruns.trans hs) (hlink _ hp) ht hg ((hfits _).trans hf)
      (by rw [hctl]; exact ha) hh
    exact ⟨v, congrArg Host.Outcome.next h1, h2, h3.trans himg, by rw [h4, hring], by rw [h5, hring]⟩
  · intro hs hp ht hg hf ha hh
    obtain ⟨v, f, h1, h2, h3, h4, h5⟩ := beaconRx_refreshes (s := u) (hruns.trans hs) (hlink _ hp) ht hg ((hfits _).trans hf)
      (by rw [hctl]; exact ha) hh
    have hdie : ∀ d, u.die d = s.die d := fun d => by simp [u]
    refine ⟨v, f, congrArg Host.Outcome.next h1, by rw [h2]; rfl, by rw [h2]; rfl, by rw [h2]; rfl, by rw [h2, hctl]; rfl, h3,
      by rw [h4, hturn], fun d hd hpw => ?_⟩
    rw [h5 d hd (by rw [hdie]; exact hpw)]
    exact ⟨rfl, rfl, rfl⟩
  · intro hs hp hg ht
    have hout : beaconRx port b u = ringCrcError u := by
      unfold beaconRx
      rw [if_neg (by simp [hruns.trans hs, hlink _ hp, ht]), if_pos (by simp [hg])]
    exact congrArg Host.Outcome.next (hout.trans (by rw [ringCrcError, hring]))
  · intro r hs hp hp' ht hg
    have hst : isStation u = true := by
      have h := hruns.trans hs
      simp only [stationRuns, Bool.and_eq_true] at h
      exact h.1.1
    have hno : turnsAt u port = false := by
      rw [turnsAt, hlink _ hp']
      rfl
    have hout : ringFrameForward port r b u = ringSend (1 - port) b u := by
      unfold ringFrameForward
      dsimp only
      rw [if_neg (by simp [hruns.trans hs, hlink _ hp]), ht]
      rw [if_neg (by simp [hg]), if_neg (by simp [hst]), forwardMsg, if_neg (by simp [hno])]
      rfl
    exact congrArg Host.Outcome.next (hout.trans (by rw [ringSend, hring]))
  · intro hm hl hk hv
    obtain ⟨v, h1, h2, h3, h4, h5, h6, h7⟩ := admitStep_admits (s := u) ((hmine _).trans hm) hl (by rw [hctl]; exact hk)
      (by rw [hctl]; exact hv)
    exact ⟨v, congrArg Host.Outcome.next h1, h2, h3, h4.trans himg, h5.trans hlat, h6, by rw [h7, hring]⟩
  · intro hm hl hp
    obtain ⟨v, h1, h2, h3, h4, h5, h6⟩ := admitStep_answers (s := u) ((hmine _).trans hm) hl ((hpeer _).trans hp)
    exact ⟨v, congrArg Host.Outcome.next h1, h2, h3, h4, by rw [h5, hring], h6.trans himg⟩
  · intro hm hl hp
    obtain ⟨v, h1, h2, h3⟩ := admitStep_refuses (s := u) ((hmine _).trans hm) hl ((hpeer _).trans hp)
    exact ⟨v, congrArg Host.Outcome.next h1, h2, h3.trans himg⟩
  · intro hm ha
    obtain ⟨x, hx⟩ : ∃ x : State, x = { u with ring.block := Tbl.set (if hdrF b 0x10 4 = 0 then [] else u.ring.block) [] (hdrF b 0x10 4) (msgData b) } := ⟨_, rfl⟩
    obtain ⟨f, h1, -⟩ := freeAnswer_sends x (length_of_msgGood (msgForMe_iff hm).1)
    have hout : cfgBlock b u = freeAnswer b x := by
      rw [hx]
      unfold cfgBlock
      exact if_neg (by simp [hmine, hm, hctl, show (ctl s (msgCtl b)).admission = 2 from ha])
    refine ⟨_, congrArg Host.Outcome.next hout, ?_, ?_, ?_⟩
    · rw [h1, hx]
      exact (Tbl.get_set ..).trans (if_pos rfl)
    · rw [h1, hx]
      show u.ring.active = _
      rw [hring]
    · rw [h1, hx]
      show u.ring.committed = _
      rw [hring]
  · intro hm ha blk hblk
    have hlen := length_of_msgGood (msgForMe_iff hm).1
    have hgo : ¬(!msgForMe u 3 b || decide ((ctl u (msgCtl b)).admission ≠ 2)) = true := by
      simp [hmine, hm, hctl, show (ctl s (msgCtl b)).admission = 2 from ha]
    have hkey : keySlot u 0 = keySlot s 0 := by simp [u]
    have hlife : u.sec.life = s.sec.life := by simp [u]
    refine ⟨fun hsha hsig => ?_, fun hsha => ?_⟩
    · obtain ⟨x, hx⟩ : ∃ x : State, x = { u with ring.committed := some { readBlock (Config.stationBlockOf blk) with bytes := blk }, ring.committedBy := msgCtl b, ring.block := [] } := ⟨_, rfl⟩
      obtain ⟨f, h1, -⟩ := freeAnswer_sends x hlen
      have hout : cfgCommit b u = freeAnswer b x := by
        rw [hx, hblk]
        unfold cfgCommit
        dsimp only
        rw [if_neg hgo, if_pos (by rw [hring, ← hblk, hkey, hlife]; exact ⟨hsha, by simpa using hsig⟩), hring]
      refine ⟨_, congrArg Host.Outcome.next hout, ?_, ?_, ?_⟩
      · rw [h1, hx]
        rfl
      · rw [h1, hx]
        rfl
      · rw [h1, hx]
        show u.ring.active = _
        rw [hring]
    · obtain ⟨x, hx⟩ : ∃ x : State, x = { u with ring.block := [] } := ⟨_, rfl⟩
      obtain ⟨f, h1, -⟩ := freeAnswer_sends x hlen
      have hout : cfgCommit b u = freeAnswer b x := by
        rw [hx]
        unfold cfgCommit
        dsimp only
        rw [if_neg hgo, if_neg (by rw [hring, ← hblk]; exact fun h => hsha h.1)]
      refine ⟨_, congrArg Host.Outcome.next hout, ?_, ?_⟩
      · rw [h1, hx]
        show u.ring.committed = _
        rw [hring]
      · rw [h1, hx]
        rfl
  · intro hm
    obtain ⟨hg, hop⟩ := msgForMe_iff hm
    obtain ⟨data, hdata⟩ : ∃ data, msgStatus b u = msgAnswer b data u := ⟨_, if_neg (by simp [hmine, hm])⟩
    obtain ⟨f, h1, h2⟩ := msgAnswer_sends data u (length_of_msgGood hg)
    refine ⟨_, f, congrArg Host.Outcome.next (hdata.trans h1), by rw [h2, hop], himg, ?_⟩
    rw [sent_head, wayOf, hring]
  · intro hs ht hg hno hl
    have hmine' : msgForMe u 4 b = false := by
      rw [hmine]
      simp [msgForMe, hno]
    have hout : msgStatus b u = ringSend 2 b u := by
      unfold msgStatus msgPasses msgGoesOn
      rw [if_pos (by simp [hmine']), if_neg (by simp [hruns.trans hs, ht]), if_neg (by simp [hg]), hring, hl, if_neg (by decide),
        if_neg (by decide)]
    exact congrArg Host.Outcome.next (hout.trans (by rw [ringSend, hring]))
  · intro a hs ha hdue
    have hcard : execSyncOutputApply t s = .next (syncOutputApply u) := congrArg Host.Outcome.next (if_pos (hruns.trans hs))
    rw [syncOutputApply_eq] at hcard
    refine ⟨_, hcard, ?_⟩
    rw [syncDue_other (by decide), syncDue_takes (by rw [hctl]; exact ha) hdue, hctl]
    exact ⟨rfl, rfl⟩
  · intro hr hst hq
    have hheard : ∀ f : Nat × CtlRt → Bool, (∀ e, f e = true → (e.2.admission = 2 ∨ u.ring.stState < 2) ∧ u.now < e.2.lastHeard + 10 ^ 9) →
        u.ring.ctl.any f = false := fun f hf => by
      rw [hring]
      refine Bool.eq_false_iff.mpr fun h => ?_
      obtain ⟨e, he, hfe⟩ := List.any_eq_true.mp h
      obtain ⟨h1, h2⟩ := hf e hfe
      have hadm : e.2.admission = 2 := h1.resolve_right (by rw [hring]; omega)
      exact absurd h2 (Nat.not_lt.mpr (hq e he hadm))
    have hout : stationDownTimeout u = { u with ring.stState := 0, ring.ctl := [], ring.ringId := 0#32 } := by
      unfold stationDownTimeout
      dsimp only
      rw [hheard _ (fun e he => by simpa using he)]
      exact if_neg (by simp [u, isStation, hr]; omega)
    exact congrArg Host.Outcome.next hout
end

section
/-! PROOFS. The ring at a controller (R379): what SUM_SEND does to a table of stations that is not in its canonical form. -/

namespace Sys2Proof.Machine

/-- A controller in full service whose ring is due, with station 5 written twice in the table of stations: a form that no `Tbl.set`
gives (log entry 7). The first entry counts one copy, the second one, which is not seen, seven missed cycles. -/
def doubledStation : State :=
  { power := { state := .run, service := .full }, clk := { ready := 0x3F }
    ring := { topology := 1, st := [(5, { copies := 1 }), (5, { missed := 7 })] } }

theorem doubledStation_runs : ringRuns doubledStation = true ∧ doubledStation.ring.next = [] ∧ doubledStation.ring.running = false
    ∧ sumDue (advance 0 doubledStation) = true := ⟨rfl, rfl, rfl, rfl⟩

/-- The first entry has missed nothing, so the second one is not seen. -/
theorem doubledStation_missed : (doubledStation.station 5).missed = 0 := rfl

/-- The new cycle sets the copies back and drops the entry that then holds the reset value: the second one comes to light. -/
theorem doubledStation_sends : ∃ v, exec (.sumSend 0) doubledStation = .next v ∧ (v.station 5).missed = 7 := ⟨_, rfl, rfl⟩

end Sys2Proof.Machine

open Sys2Proof Sys2Proof.Machine

/-- Refutes O52: the statement is over every state, with no premise that its tables are in the canonical form of log entry 7. With
an entry of station 5 that is the reset value but for its copies in front of a second one, SUM_SEND maps the table entry by entry and
drops the first, so the station reads another count of missed cycles than before. -/
theorem not_ringCyclesAndStations : ¬ Obligations.RingCyclesAndStations := by
  intro h
  obtain ⟨hsum, -⟩ := h doubledStation 0 0 0 default
  obtain ⟨hruns, hnext, hrunning, hdue⟩ := doubledStation_runs
  obtain ⟨v, hv, -, -, -, -, -, hst, -⟩ := hsum hruns hnext (fun hr => absurd (hrunning.symm.trans hr) Bool.false_ne_true) hdue
  obtain ⟨w, hw, hmissed⟩ := doubledStation_sends
  obtain rfl := Host.Outcome.next.inj (hv.symm.trans hw)
  obtain ⟨-, -, hsame⟩ := hst 5
  rw [hmissed, doubledStation_missed] at hsame
  exact absurd hsame (by decide)
end

section
/-! PROOFS. The host port (R111, R183, R550-R559, R563-R568, R571-R574). -/

namespace Sys2Proof.Machine

/-! ### Bytes and words -/

theorem readBytes_eq {m : Memory} (bs : Bytes) (a : Nat) (h : ∀ i, i < bs.length → Memory.readByte m (a + i) = bs.getD i 0#8) :
    Memory.readBytes m a bs.length = bs := by
  induction bs generalizing a with
  | nil => rfl
  | cons x r ih =>
    have hx : Memory.readByte m a = x := h 0 (Nat.succ_pos _)
    have hr := ih (a + 1) fun i hi => by
      rw [Nat.add_assoc, Nat.add_comm 1]
      exact h (i + 1) (Nat.succ_lt_succ hi)
    rw [List.length_cons, Memory.readBytes, hx, hr]

/-- Bytes written read back. -/
theorem readBytes_writeBytes {bs : Bytes} {n : Nat} (hn : bs.length = n) (m : Memory) (a : Nat) :
    Memory.readBytes (Memory.writeBytes m a bs) a n = bs := by
  subst hn
  exact readBytes_eq bs a fun i hi => Memory.readByte_writeBytes_at bs m a i hi

theorem w32_leBytes (v : Word) : w32 (leNat (leBytes 4 v.toNat)) = v := by
  rw [leNat_leBytes, Nat.mod_eq_of_lt (lt_of_lt_of_eq v.isLt (by norm_num)), w32, BitVec.ofNat_toNat, BitVec.setWidth_eq]

theorem readWord_writeWord (m : Memory) (a : Nat) (v : Word) : Memory.readWord (Memory.writeWord m a v) a = v := by
  rw [Memory.readWord, Memory.writeWord, readBytes_writeBytes (length_leBytes ..)]
  exact w32_leBytes v

/-! ### Mailboxes -/

theorem mbox_setMbox (s : State) (n : Nat) (v : Mailbox) (k : Nat) : (s.setMbox n v).mbox k = if k = n then v else s.mbox k :=
  Tbl.get_set ..

theorem mbox_setMbox_same (s : State) (n : Nat) (v : Mailbox) : (s.setMbox n v).mbox n = v := (mbox_setMbox ..).trans (if_pos rfl)

theorem setIrq_mbox (n : Nat) (s : State) (k : Nat) : (setIrq n s).mbox k = s.mbox k := by rw [State.mbox, (setIrq_host n s).2, State.mbox]

theorem setIrq_stream (n : Nat) (s : State) : (setIrq n s).host.stream = s.host.stream := by
  unfold setIrq
  split <;> rfl

/-- A response stands in its mailbox, and the requests are as they were (R564). -/
theorem writeResponse_responds (w : Work) (st : Nat) (p : Bytes) (d : Bool) (s : State) :
    ((writeResponse w st p d s).mbox w.mb).state = 2 ∧ ((writeResponse w st p d s).mbox w.mb).deferredResult = d
      ∧ ((writeResponse w st p d s).mbox w.mb).tag = w.tag ∧ (writeResponse w st p d s).host.works = s.host.works
      ∧ (writeResponse w st p d s).host.stream = s.host.stream := by
  unfold writeResponse
  dsimp only
  split
  · rw [mbox_setMbox_same]
    exact ⟨rfl, rfl, rfl, rfl, rfl⟩
  · rw [setIrq_mbox, mbox_setMbox_same, (setIrq_host ..).1, setIrq_stream]
    exact ⟨rfl, rfl, rfl, rfl, rfl⟩

/-- A deferred result sets its mailbox's interrupt bit whatever the request asked for (R560). -/
theorem writeResponse_irq {w : Work} {n : Fin 8} (hn : w.mb = n.val) (st : Nat) (p : Bytes) (s : State) :
    (writeResponse w st p true s).host.irq.getLsbD n = true := by
  unfold writeResponse
  dsimp only
  rw [if_neg (by simp), hn]
  exact setIrq_irq ⟨n.val, by omega⟩ _

theorem finish_stream (w : Work) (st : Nat) (p : Bytes) (s : State) : (finish w st p s).host.stream = s.host.stream := by
  unfold finish
  split
  · rfl
  · exact (writeResponse_responds ..).2.2.2.2

/-- An idle mailbox takes the request in its buffer (R564, R568). -/
theorem ring1_rings {n : Nat} {s : State} (h0 : (s.mbox n).state = 0) (hw : waitingResult s n = none) (hd : deferredRunning s n < 8) :
    ((ring1 n s).mbox n).state = 1 ∧ (ring1 n s).host.works
        = s.host.works ++ [parseRequest s.host.nextWid n s.now (Memory.readBytes (s.mbox n).req 0 4096)]
      ∧ ∀ k, k ≠ n → (ring1 n s).mbox k = s.mbox k := by
  obtain ⟨r, hr⟩ : ∃ r, r = parseRequest s.host.nextWid n s.now (Memory.readBytes (s.mbox n).req 0 4096) := ⟨_, rfl⟩
  obtain ⟨x, hx⟩ : ∃ x : State, x = ({ s with host.nextWid := s.host.nextWid + 1 } : State).setMbox n
      { s.mbox n with state := 1, deferredResult := false, leaseAt := s.now } := ⟨_, rfl⟩
  have hout : ring1 n s = { x with host.works := s.host.works ++ [r] } := by
    unfold ring1
    dsimp only
    rw [if_neg (by simp [h0, hw]), if_neg (by omega), hx, hr]
  have hmb : ∀ k, (ring1 n s).mbox k = x.mbox k := fun k => by
    rw [hout]
    rfl
  rw [hmb, hx, mbox_setMbox_same]
  refine ⟨rfl, by rw [hout, hr], fun k hk => ?_⟩
  rw [hmb, hx, mbox_setMbox, if_neg hk, State.mbox, State.mbox]

theorem ring1_ignores {n : Nat} {s : State} (h : (s.mbox n).state ≠ 0) :
    ring1 n s = s.setMbox n { s.mbox n with ignored := min ((s.mbox n).ignored + 1) 65535 } := if_pos (.inl h)

theorem bitsOf_one (n : Fin 6) : bitsOf (1#32 <<< n.val) (List.range 6) = [n.val] := by
  revert n
  decide

/-! ### Accesses -/

theorem hostAccess_awake {s : State} (h1 : inSlumber s = false) (h2 : enteringSlumber s = false) (bells : List Nat) (f : State → State) :
    hostAccess bells f s = f s := by
  rw [hostAccess, if_neg (by simp [h1]), if_neg (by simp [h2])]

theorem wakeUp_works (c : WakeCause) (s : State) : (wakeUp c s).host.works = s.host.works := by
  unfold wakeUp
  split
  · rfl
  · unfold noteState
    split
    · rfl
    · exact (setIrq_host ..).1

/-! ### The register window (R6, R8, R556, R557) -/

theorem requestWord_header (m : Memory) {off : Nat} (h : off + 4 ≤ 16) : requestWord m off = 0#32 := by
  have hb : ∀ code i, i < 4 → hiddenByte code (off + i) = true := fun code i hi => by
    rw [hiddenByte, decide_eq_true (by omega), Bool.true_or]
  unfold requestWord
  dsimp only
  rw [show List.range 4 = [0, 1, 2, 3] from rfl]
  simp only [List.flatMap_cons, List.flatMap_nil, hb _ 0 (by omega), hb _ 1 (by omega), hb _ 2 (by omega), hb _ 3 (by omega)]
  rfl

theorem requestWord_plain {m : Memory} {off : Nat}
    (h : ∀ i, i < 4 → hiddenByte (leNat (Memory.readBytes m 0 2)) (off + i) = false) : requestWord m off = Memory.readWord m off := by
  unfold requestWord
  dsimp only
  rw [show List.range 4 = [0, 1, 2, 3] from rfl]
  simp only [List.flatMap_cons, List.flatMap_nil, h 0 (by omega), h 1 (by omega), h 2 (by omega), h 3 (by omega)]
  rfl

theorem windowWord_request {n k : Nat} (hn : n < 8) (hk : k < 1024) (s : State) :
    windowWord s (0x10000 + 4096 * n + 4 * k) = requestWord (s.mbox n).req (4 * k) := by
  have h1 : (0x10000 + 4096 * n + 4 * k - 0x10000) / 4096 = n := by omega
  have h2 : (0x10000 + 4096 * n + 4 * k - 0x10000) % 4096 = 4 * k := by omega
  unfold windowWord
  rw [if_neg (by omega), if_neg (by omega), if_neg (by omega), if_neg (by omega), if_neg (by omega), if_neg (by omega), if_neg (by omega),
    if_pos (by omega), h1, h2]

theorem windowWord_readout (s : State) (b : Bytes) (a : Nat) : windowWord { s with host.readout := b } a = windowWord s a := by
  have hmb : ∀ n off, mbWord { s with host.readout := b } n off = mbWord s n off := fun n off => rfl
  unfold windowWord
  rw [hmb]
  rfl

/-- A word written to an idle request buffer (R556, R564). -/
theorem writeWord_request {n k : Nat} {s : State} (hn : n < 6) (hk : k < 1024) (h0 : (s.mbox n).state = 0) (v : Word) :
    writeWord (0x10000 + 4096 * n + 4 * k) v s
      = s.setMbox n { s.mbox n with req := Memory.writeWord (s.mbox n).req (4 * k) v } := by
  have h1 : (0x10000 + 4096 * n + 4 * k - 0x10000) / 4096 = n := by omega
  have h2 : (0x10000 + 4096 * n + 4 * k - 0x10000) % 4096 = 4 * k := by omega
  unfold writeWord
  dsimp only
  rw [if_neg (by omega), if_neg (by omega), if_neg (by omega), if_neg (by omega), if_neg (by omega), if_pos (by omega), h1, h2, if_pos h0]

theorem latchFor_frame (off : Nat) (s : State) :
    (latchFor off s).host.readout = s.host.readout ∧ (latchFor off s).host.works = s.host.works := by
  unfold latchFor
  split <;> exact ⟨rfl, rfl⟩

/-! ### The event stream (R183, R571-R573) -/

theorem streamPut_frame (r : EvRec) (s : State) : (streamPut r s).host.stream.wrIndex = s.host.stream.wrIndex + 1
    ∧ (streamPut r s).host.stream.rdptrAddr = s.host.stream.rdptrAddr ∧ (streamPut r s).ev = s.ev := by
  unfold streamPut
  dsimp only
  split
  · rw [setIrq_stream, setIrq_ev]
    exact ⟨rfl, rfl, rfl⟩
  · exact ⟨rfl, rfl, rfl⟩

/-- The one record that waits goes out, and the index block follows (R553, R572). -/
theorem eventStreamWrite_writes {s : State} {r : EvRec} (hf : fullService s = true) (hq : s.power.hostQspi = false)
    (hon : streamOn s = true) (hp : s.host.perst = false) (hm : s.ev.markers.get none 1 = none) (hr : s.ev.fifo.getLast? = some r)
    (hw : s.ev.written = s.ev.hostPos + 1) (hfull : ringFull s = false) (hsrc : s.host.stream.sources.getLsbD r.source = true) :
    (eventStreamWrite s).host.stream.wrIndex = s.host.stream.wrIndex + 1 ∧ (eventStreamWrite s).ev.hostPos = s.ev.written
      ∧ Memory.readBytes (eventStreamWrite s).host.hostMem (s.host.stream.rdptrAddr + 8) 8 = leBytes 8 (s.host.stream.wrIndex + 1)
      ∧ (eventStreamWrite s).ev.fifo = s.ev.fifo := by
  obtain ⟨x, hx⟩ : ∃ x, x = streamPut r { s with ev.hostPos := s.ev.hostPos + 1 } := ⟨_, rfl⟩
  obtain ⟨h1, h2, h3⟩ := streamPut_frame r { s with ev.hostPos := s.ev.hostPos + 1 }
  rw [← hx] at h1 h2 h3
  have hmark : streamMarker s = s := by rw [streamMarker, hm]
  have hdrop : s.ev.fifo.drop (s.ev.fifo.length - (s.ev.written - s.ev.hostPos)) = [r] := by
    obtain ⟨l, hl⟩ := List.getLast?_eq_some_iff.mp hr
    rw [hl, hw, Nat.add_sub_cancel_left, List.length_append, List.length_singleton, Nat.add_sub_cancel, List.drop_left]
  have hrec : streamRecords [r] s = x := by
    rw [streamRecords, if_neg (by simp [hfull])]
    dsimp only
    rw [if_neg (by simp [hsrc]), streamRecords, hx]
  obtain ⟨hm', hmem⟩ : ∃ m, m = Memory.writeBytes x.host.hostMem (x.host.stream.rdptrAddr + 8) (leBytes 8 x.host.stream.wrIndex) := ⟨_, rfl⟩
  have hout : eventStreamWrite s = { x with host.hostMem := hm' } := by
    unfold eventStreamWrite
    dsimp only
    rw [if_neg (by simp [hf, hq, hon, hp]), hmark, hm, hdrop, hmem, ← hrec]
    rfl
  rw [hout]
  have hpos : x.ev.hostPos = s.ev.written := by rw [h3, hw]
  have hfifo : x.ev.fifo = s.ev.fifo := by rw [h3]
  refine ⟨h1, hpos, ?_, hfifo⟩
  rw [h1, h2] at hmem
  rw [hmem]
  exact readBytes_writeBytes (length_leBytes ..) ..

/-- EVT_STREAM_CFG takes the clamped settings; another ring begins at index 0 (R183, R571). -/
theorem evtStreamCfg_takes {s : State} (w : Work) (hq : s.power.hostQspi = false) (hh : s.power.state ≠ .holdup) :
    ∃ p x, evtStreamCfg w s = (.done DONE p, x) ∧ x.host.stream.ringAddr = field w.payload 0 8 0 / 4096 * 4096
      ∧ x.host.stream.rdptrAddr = field w.payload 8 8 0 / 16 * 16 ∧ x.host.stream.records = roundRecords (field w.payload 0x10 4 4096)
      ∧ x.host.stream.irqUs = clamp 10 100000 (field w.payload 0x18 4 1000)
      ∧ (x.host.stream.ringAddr ≠ s.host.stream.ringAddr → x.host.stream.wrIndex = 0 ∧ x.host.stream.rdIndex = 0) := by
  refine ⟨_, _, checked_pass (by simp [firstStatus, hq, inHoldup_eq_false hh]), ?_⟩
  obtain ⟨a, ha⟩ : ∃ a, a = field w.payload 0 8 0 / 4096 * 4096 := ⟨_, rfl⟩
  rw [← ha]
  by_cases hsame : a = s.host.stream.ringAddr
  · simp only [if_pos hsame]
    exact ⟨trivial, trivial, trivial, trivial, fun h => absurd hsame h⟩
  · simp only [if_neg hsame]
    by_cases hzero : a = 0
    · simp only [if_pos hzero]
      exact ⟨trivial, trivial, trivial, trivial, fun _ => ⟨trivial, trivial⟩⟩
    · simp only [if_neg hzero]
      exact ⟨trivial, trivial, trivial, trivial, fun _ => ⟨trivial, trivial⟩⟩

/-- A packet of the USB record interface: 16 records from where the consumer stands (R574). -/
theorem usbRecords_reads {s : State} {p : Nat} (hp : s.ev.usbPos = some p) (hm : s.ev.markers.get none 2 = none)
    (hn : s.ev.fifo.length - (s.ev.written - p) + 16 ≤ s.ev.fifo.length) :
    (usbRecords s).ev.usbPos = some (p + 16) ∧ (usbRecords s).ev.fifo = s.ev.fifo ∧ (usbRecords s).host.readout
      = ((s.ev.fifo.drop (s.ev.fifo.length - (s.ev.written - p))).take 16).flatMap recBytes := by
  obtain ⟨d, hd⟩ : ∃ d, d = s.ev.fifo.length - (s.ev.written - p) := ⟨_, rfl⟩
  have hlen : ((s.ev.fifo.drop d).take 16).length = 16 := by
    rw [List.length_take, List.length_drop]
    omega
  have hout : usbRecords s = { s with
      ev.usbPos := some (p + 16), ev.markers := s.ev.markers.set none 2 none
      host.readout := ((s.ev.fifo.drop d).take 16).flatMap recBytes } := by
    unfold usbRecords
    rw [hp]
    dsimp only
    rw [hm, ← hd]
    dsimp only [Option.toList, List.length_nil, List.nil_append, Nat.sub_zero]
    rw [hlen]
  rw [hout, hd]
  exact ⟨rfl, rfl, rfl⟩

end Sys2Proof.Machine

open Sys2Proof Sys2Proof.Machine

/-- Settles O48: mailboxes by `ring1_rings` and `writeResponse_responds`, the window by `writeWord_request` and
`windowWord_request`, the stream by `eventStreamWrite_writes`. -/
theorem hostPortAndMailboxes : Obligations.HostPortAndMailboxes := by
  unfold Obligations.HostPortAndMailboxes
  intro s t mb w u awake
  have hhost : u.host = s.host := by simp [u]
  have hpower : u.power.wakeFlags = s.power.wakeFlags ∧ u.power.hostQspi = s.power.hostQspi ∧ u.power.state = s.power.state
      ∧ u.power.slumberReq = s.power.slumberReq ∧ u.power.keptWake = s.power.keptWake := by simp [u]
  have hev : u.ev = s.ev := by simp [u]
  have hmb : ∀ n, u.mbox n = s.mbox n := fun n => by simp [u]
  have hup : portsUp u = portsUp s := by simp [u]
  have hwait : ∀ n, waitingResult u n = waitingResult s n := fun n => by simp [u]
  have hsl : inSlumber u = inSlumber s := by simp [u]
  have hent : enteringSlumber u = enteringSlumber s := by simp [u]
  have hon : streamOn u = streamOn s := by simp [u]
  have hfull : ringFull u = ringFull s := by simp [u]
  have hacc : awake → ∀ bells f, hostAccess bells f u = f u := fun ha => hostAccess_awake (hsl.trans ha.1) (hent.trans ha.2)
  refine ⟨?_, ?_, ?_, ?_, ?_, ?_, ?_, ?_, ?_, ?_, ?_, ?_, ?_, ?_, ?_, ?_, ?_, ?_, ?_, ?_, ?_, ?_⟩
  · intro n req ha hp
    have hcard : execDoorbell t (1#32 <<< n.val) false req s = .next (ring1 n.val u) := by
      refine congrArg Host.Outcome.next ?_
      show doorbell _ false req u = _
      unfold doorbell
      rw [if_neg Bool.false_ne_true, hacc ha, if_pos (hup.trans hp), ringHost, bitsOf_one]
      rfl
    refine ⟨fun h0 hw hd => ?_, fun h0 => ?_⟩
    · obtain ⟨h1, h2, h3⟩ := ring1_rings (s := u) (n := n.val) (by rw [hmb]; exact h0) ((hwait _).trans hw) (by simpa [u] using hd)
      rw [hhost, hmb] at h2
      exact ⟨_, _, hcard, h1, h2, rfl, fun k hk => (h3 k hk).trans (hmb k)⟩
    · refine hcard.trans ?_
      rw [ring1_ignores (by rw [hmb]; exact h0), hmb]
  · intro hf hp hst hn
    have hcard : execRequestAccept t mb s = .next (accept1 w u) := by
      refine congrArg Host.Outcome.next ?_
      show requestAccept mb u = _
      unfold requestAccept
      rw [if_neg (by simp [hup, hp, u, hst]), hhost, hf]
      exact if_pos (by simpa [u] using hn)
    refine ⟨fun ha => hcard.trans ?_, fun st ha => hcard.trans ?_⟩
    · rw [accept1, ha, show sessionRole u w = sessionRole s w by simp [u]]
    · rw [accept1, ha]
  · intro n ha hp h2 hw
    have hcard : releaseMb (1#32 <<< n.val) false u = release1 n.val u := by
      unfold releaseMb
      dsimp only
      rw [if_neg Bool.false_ne_true, hacc ha, if_pos (hup.trans hp), bitsOf_one]
      rfl
    refine congrArg Host.Outcome.next (hcard.trans ?_)
    have hno : waitingResult (u.setMbox n { u.mbox n with state := 0, deferredResult := false }) n = none := (hwait _).trans hw
    rw [release1, if_pos (by rw [hmb]; exact h2), deliverDeferred, hno, hmb]
  · intro st p hw hr hn h0
    have hcard : execDeferredResult t mb s = .next (writeResponse w st p true (dropWork w.wid u)) := by
      refine congrArg Host.Outcome.next ((if_pos (by rw [hmb]; exact h0)).trans ?_)
      rw [deliverDeferred, show waitingResult (advance t s) mb = some w from (hwait _).trans hw]
      dsimp only
      rw [hr]
    obtain ⟨h1, h2, h3, h4, -⟩ := writeResponse_responds w st p true (dropWork w.wid u)
    rw [hn] at h1 h2 h3
    exact ⟨_, hcard, h1, h2, h3, by rw [h4, ← hhost]; rfl, writeResponse_irq hn ..⟩
  · intro hf h1 hn
    obtain ⟨x, hx⟩ : ∃ x, x = putWork { w with deferred := true } u := ⟨_, rfl⟩
    have hcard : execMailboxPending t mb s
        = .next (if w.rungAt + 2000000000 ≤ u.now then writeResponse w PENDING [] false x else u) := by
      refine congrArg Host.Outcome.next ?_
      show mailboxPending mb u = _
      unfold mailboxPending
      rw [hhost, hf, hx]
      dsimp only
      rw [hmb, passed, show 2 * 10 ^ 9 = 2000000000 by norm_num]
      simp only [h1, true_and, decide_eq_true_eq]
    refine ⟨fun hd => ?_, fun hd => ?_⟩
    · rw [if_pos hd] at hcard
      obtain ⟨g1, g2, -, g4, -⟩ := writeResponse_responds w PENDING [] false x
      rw [hn] at g1 g2
      refine ⟨_, hcard, g1, g2, ?_⟩
      rw [g4, hx]
      exact List.mem_map.mpr ⟨w, by rw [hhost]; exact List.mem_of_find?_eq_some hf, if_pos rfl⟩
    · exact hcard.trans (congrArg Host.Outcome.next (if_neg (Nat.not_le.mpr hd)))
  · intro m ha
    exact congrArg Host.Outcome.next ((hacc ha _ _).trans (by rw [hhost]))
  · intro m h1 h2 hw hk
    have hwake : wakeBy .host u = { u with power.keptWake := .host } := by
      have hns : u.power.state ≠ .slumber := by simpa [inSlumber, hpower.2.2.1] using h1
      have hreq : u.power.slumberReq = true := by
        rw [hpower.2.2.2.1]
        simp only [enteringSlumber, Bool.and_eq_true] at h2
        exact h2.1
      rw [wakeBy, if_neg hns, if_pos ⟨hreq, hpower.2.2.2.2.trans hk⟩]
    have hout : irqClear m u = { u with power.keptWake := .host, host.irq := s.host.irq &&& ~~~m } := by
      unfold irqClear
      rw [hostAccess, if_neg (by simp [hsl, h1]), if_pos (by simp [hent, h2, hpower.1, hw]), hwake, ← hhost]
    exact congrArg Host.Outcome.next hout
  · intro rd ha h1 h2
    refine congrArg Host.Outcome.next ((hacc ha _ _).trans ((if_pos (by simp [u, h1, h2])).trans ?_))
    rw [takeRdIndex, hhost]
  · intro rd h1 h2 h3 h4 h5
    refine congrArg Host.Outcome.next ((if_pos (by simp [h1, h2, h3])).trans ?_)
    show takeRdIndex rd u = _
    rw [takeRdIndex, hhost, if_neg (by omega)]
  · intro ha hp
    have hval : (windowWord u 0x20).toNat = s.host.stream.wrIndex % 2 ^ 32 := by
      rw [← hhost]
      show (w32 (u.host.stream.wrIndex % 2 ^ 32)).toNat = _
      rw [w32, BitVec.toNat_ofNat, Nat.mod_mod]
    have hread : (if inSlumber u then latchFor 0x20 { u with host.readout := leBytes 4 (windowWord u 0x20).toNat } else u) = u :=
      if_neg (by simp [hsl, ha.1])
    have hcard : execHighWordLatch t 0x20 s = .next (latchFor 0x20 { u with host.readout := leBytes 4 (windowWord u 0x20).toNat }) := by
      unfold execHighWordLatch
      dsimp only
      rw [hread, hacc ha, if_pos (hup.trans hp)]
    refine hcard.trans ?_
    rw [hval, latchFor, if_pos rfl, ← hhost]
  · intro v ha hp
    exact congrArg Host.Outcome.next ((hacc ha _ _).trans (if_pos (by simp [u, hp])))
  · intro n k v ha hp h0 hk
    obtain ⟨x, hx⟩ : ∃ x, x = u.setMbox n { u.mbox n with req := Memory.writeWord (u.mbox n).req (4 * k) v } := ⟨_, rfl⟩
    have hreq : (x.mbox n).req = Memory.writeWord (u.mbox n).req (4 * k) v := by rw [hx, mbox_setMbox_same]
    have hread : Memory.readWord (x.mbox n).req (4 * k) = v := by rw [hreq, readWord_writeWord]
    have hcard : execRegisterWrite t (0x10000 + 4096 * n + 4 * k) v s = .next x := by
      refine congrArg Host.Outcome.next ((hacc ha _ _).trans ((if_pos ?_).trans ?_))
      · rw [hup, hp, Bool.true_and]
        exact decide_eq_true (by omega)
      · rw [hx]
        exact writeWord_request n.isLt hk (by rw [hmb]; exact h0) v
    refine ⟨x, hcard, hread, fun hk4 => ?_, fun hh => ?_, by rw [hx, ← hhost]; rfl⟩
    · rw [windowWord_request (by omega) hk, requestWord_header _ (by omega)]
    · rw [windowWord_request (by omega) hk, requestWord_plain hh, hread]
  · intro a hq ha hp hl
    have hread : windowWord { u with host.readout := [] } a = windowWord u a := windowWord_readout ..
    obtain ⟨h1, h2⟩ := latchFor_frame a { u with host.readout := [] ++ leBytes 4 (windowWord u a).toNat }
    have hcard : execQspiRead t a 4 s = .next (latchFor a { u with host.readout := [] ++ leBytes 4 (windowWord u a).toNat }) := by
      unfold execQspiRead
      dsimp only
      rw [if_neg (by simp [hq]), if_neg (by simp [ha.1])]
      refine congrArg Host.Outcome.next ((hacc ha _ _).trans ((if_pos (hup.trans hp)).trans ?_))
      rw [Nat.mod_eq_of_lt hl, show min 1024 (4 / 4) = 1 from rfl, readWords, readWords, hread]
    exact ⟨_, hcard, h1, h2.trans (by rw [← hhost])⟩
  · intro v hq ha hp
    have hwords : wordsOf (min 1024 ((leBytes 4 v.toNat).length / 4)) (leBytes 4 v.toNat) = [v] := by
      rw [length_leBytes, show min 1024 (4 / 4) = 1 from rfl, wordsOf, wordsOf, take_leBytes (le_refl 4), w32_leBytes]
    show execQspiWrite t 0xC (leBytes 4 v.toNat) s = _
    unfold execQspiWrite
    dsimp only
    rw [if_neg (by simp [hq]), hwords]
    exact congrArg Host.Outcome.next ((hacc ha _ _).trans (if_pos (hup.trans hp)))
  · intro hq ha
    have hno : ∀ f : State → State, hostAccess [] f { u with host.readout := [BitVec.ofNat 8 (bit (portsUp s) + 2 * bit (hostIrqLow s))] }
        = f { u with host.readout := [BitVec.ofNat 8 (bit (portsUp s) + 2 * bit (hostIrqLow s))] } :=
      hostAccess_awake (s := { u with host.readout := [BitVec.ofNat 8 (bit (portsUp s) + 2 * bit (hostIrqLow s))] })
        (hsl.trans ha.1) (hent.trans ha.2) []
    show execQspiStatus t s = _
    unfold execQspiStatus
    dsimp only
    rw [if_neg (by simp [hq]), portsUp_advance, inSlumber_advance, hostIrqLow_advance, ha.1, Bool.or_false]
    exact congrArg Host.Outcome.next (hno _)
  · intro hq
    exact congrArg Host.Outcome.next (if_neg (by simp [hq]))
  · rfl
  · intro off v hs
    have hcard : execWindowAccessInSlumber t true off v s = .next (slumberAccess (if off = 0x10 then bitsOf v (List.range 6) else []) u) :=
      congrArg Host.Outcome.next (if_neg (by simp [hs]))
    refine ⟨fun hw => hcard.trans ?_, fun hw => ?_⟩
    · rw [slumberAccess, if_neg (by rw [hpower.1, hw]; exact Bool.false_ne_true)]
      by_cases hoff : off = 0x10
      · rw [if_pos hoff, if_pos hoff]
      · rw [if_neg hoff, if_neg hoff]
        rfl
    · rw [slumberAccess, if_pos (by rw [hpower.1]; exact hw)] at hcard
      have hst : u.power.state = .slumber := by
        rw [hpower.2.2.1]
        simpa [inSlumber] using hs
      refine ⟨_, hcard, (wakeBy_wakes hst _).1, (wakeBy_wakes hst _).2, ?_⟩
      rw [wakeBy, if_pos hst, wakeUp_works, hhost]
  · intro r hf hq hon' hp hm hr hw hfl _ hsrc
    obtain ⟨h1, h2, h3, h4⟩ := eventStreamWrite_writes (s := u) (by simpa [u] using hf) (hpower.2.1.trans hq) (hon.trans hon')
      (by rw [hhost]; exact hp) (by rw [hev]; exact hm) (by rw [hev]; exact hr) (by rw [hev]; exact hw) (hfull.trans hfl)
      (by rw [hhost]; exact hsrc)
    rw [hhost] at h1 h3
    rw [hev] at h2 h4
    exact ⟨_, rfl, h1, h2, h3, h4⟩
  · intro hon' hs hd
    have hcard : execEventStreamIrqUs t s = .next (setIrq 8 { u with host.stream.sinceIrq := 0 }) :=
      congrArg Host.Outcome.next (if_pos (by simp [hon', hs, passed, hd]))
    refine ⟨_, hcard, setIrq_irq ⟨8, by omega⟩ _, ?_⟩
    rw [setIrq_stream]
  · intro hask hq hh
    obtain ⟨p, x, hx, h1, h2, h3, h4, h5⟩ := evtStreamCfg_takes (s := u) w (hpower.2.1.trans hq) (by rw [hpower.2.2.1]; exact hh)
    obtain ⟨w', hrun⟩ := runCommand_ends hask hx
    refine ⟨_, congrArg Host.Outcome.next hrun, ?_⟩
    rw [finish_stream, ← hhost]
    exact ⟨h1, h2, h3, h4, h5⟩
  · intro hu
    refine ⟨?_, fun p hp hpos hm hn => ?_, ?_⟩
    · exact congrArg Host.Outcome.next ((if_neg (by simp [hu])).trans (by rw [← hev]; rfl))
    · obtain ⟨h1, h2, h3⟩ := usbRecords_reads (s := u) (by rw [hev]; exact hpos) (by rw [hev]; exact hm) (by rw [hev]; exact hn)
      have hfree : (if portsUp u then (bitsOf (1#32 <<< 8) [6, 7]).foldl (fun s n => release1 n s) u else u) = u := by
        rw [if_pos (hup.trans hp), show bitsOf (1#32 <<< 8) [6, 7] = [] by decide]
        rfl
      have hcard : execRelease t (1#32 <<< 8) true s = .next (usbRecords u) := by
        refine congrArg Host.Outcome.next ?_
        show releaseMb (1#32 <<< 8) true u = _
        unfold releaseMb
        dsimp only
        rw [if_pos rfl, hfree]
        exact if_pos (by rw [hup, hp, hhost, hu]; decide)
      rw [hev] at h2 h3
      exact ⟨_, hcard, h1, h2, h3⟩
    · exact congrArg Host.Outcome.next ((if_neg (by simp [hu])).trans (by rw [← hev]; rfl))
end

section
/-! PROOFS. The substation network (R106, R344-R354, R357, R360-R363). -/

namespace Sys2Proof.Machine

/-! ### Ports (R344, R345) -/

/-- Out of PRP and HSR a good frame of a live port passes as it is. -/
theorem netAccept_single {h : NetHdr} {s : State} (hm : s.net.mode = 0) (hp : portLive s h.port = true) (hf : h.fcsOk = true) :
    netAccept h s = (true, s) := by
  rw [netAccept, if_neg (by simp [hp]), if_neg (by simp [hf]), if_pos hm]

/-- A frame without a sequence number passes; at most the count of wrong LANs moves (R344). -/
theorem netAccept_plain {h : NetHdr} {s : State} (hm : s.net.mode ≠ 0) (hp : portLive s h.port = true) (hf : h.fcsOk = true)
    (hq : h.seq = none) : ∃ x, netAccept h s = (true, x) ∧ x.now = s.now ∧ x.img = s.img := by
  refine ⟨if s.net.mode = 1 && h.wrongLan then { s with net.wrongLan := (s.net.wrongLan + 1) % 2 ^ 32 } else s, ?_, ?_⟩
  · rw [netAccept, if_neg (by simp [hp]), if_neg (by simp [hf]), if_neg hm, hq]
  · split <;> exact ⟨rfl, rfl⟩

theorem link_changed (l : BitVec 2) (p : Fin 2) (up : Bool) :
    (if up then l ||| (1#2 <<< p.val) else l &&& ~~~(1#2 <<< p.val)).getLsbD p = up
      ∧ (if up then l ||| (1#2 <<< p.val) else l &&& ~~~(1#2 <<< p.val)).getLsbD (1 - p) = l.getLsbD (1 - p) := by
  revert l p up
  decide

theorem link_cleared (l : BitVec 2) : l &&& ~~~(1#2 <<< 1) &&& ~~~(1#2 <<< 0) = 0#2 := by
  revert l
  decide

theorem link_down_already (l : BitVec 2) (p : Fin 2) (h : l.getLsbD p = false) : l &&& ~~~(1#2 <<< p.val) = l := by
  revert l p
  decide

theorem netLink_down (p : Fin 2) (s : State) : (netLink p false s).net.link = s.net.link &&& ~~~(1#2 <<< p.val) := by
  unfold netLink
  by_cases h : s.net.link.getLsbD p = false
  · rw [if_pos h, link_down_already _ _ h]
  · rw [if_neg h, if_neg (by simp)]
    rfl

/-! ### GOOSE subscriptions (R349-R351) -/

theorem subs_setSub (k : Nat) (g : GooseSub) (s : State) (j : Nat) :
    (setSub k g s).net.subs.get {} j = if j = k then g else s.net.subs.get {} j := Tbl.get_set ..

theorem applyEntry_keeps {α : Type} {p : State → α} (hi : ∀ v a x, p (setImg a x v) = p v) (hq : ∀ v a q, p (setQ a q v) = p v)
    (ms : List GVal) (e : MapEntry) (s : State) : p (applyEntry ms e s) = p s := by
  unfold applyEntry
  dsimp only
  split
  · exact (hq ..).trans (hi ..)
  · exact (hq ..).trans ((hi ..).trans ((hq ..).trans (hi ..)))
  · exact (hq ..).trans (hi ..)
  · exact (hq ..).trans (hi ..)
  · rfl

/-- A mapped Boolean without a quality member enters as it is, VALID (R351). -/
theorem applyEntry_bool {ms : List GVal} {e : MapEntry} {b : Bool} (hb : ms[e.member]? = some (.bool b)) (hq : e.qmember = 0xFF)
    (s : State) : applyEntry ms e s = setQ e.point 1#4 (setImg e.point (b32 b) s) := by
  unfold applyEntry
  dsimp only
  rw [List.getD_eq_getElem?_getD, hb, memberQ, if_pos hq]
  rfl

/-- The subscription after an accepted message (R350, R351). -/
def takenSub (m : GooseMsg) (mono tai : Nat) (g : GooseSub) : GooseSub :=
  { g with
    last := some (m.stNum, m.sqNum), expire := some (mono + m.talMs * 10 ^ 6), stale := false
    talMs := m.talMs, lastTai := tai, accepted := (g.accepted + 1) % 2 ^ 32 }

section

variable {k : Nat} {m : GooseMsg} {g : GooseSub} {s : State}

/-- An accepted message: its mapped points enter and the subscription notes it (R350, R351). -/
theorem gooseTake_takes (hg : s.net.subs.get {} k = g) (halg : g.alg = 0) (hauth : g.requireAuth = false)
    (hds : unpad g.datSet = unpad m.datSet) (hrev : g.confRev = m.confRev) (hnds : m.ndsCom = false) (htest : m.test = false)
    (hlast : ∀ l, g.last = some l → l.1 = m.stNum → newerSeq m.sqNum.toNat l.2.toNat = true)
    (htype : ∀ e, e ∈ (prog s).gooseIn → e.ref = k → typeSuits m.members e = true) (hconn : ∀ c, c ∈ gooseConns s → c.ref ≠ k) :
    ∃ x, x = ((prog s).gooseIn.filter fun e : MapEntry => e.ref = k).foldl (fun s e => applyEntry m.members e s) (setSub k g s)
      ∧ (gooseTake k m s).img = x.img
      ∧ (gooseTake k m s).net.subs = (s.net.subs.set {} k g).set {} k (takenSub m s.time.mono s.time.tai g) := by
  obtain ⟨x, hx⟩ : ∃ x, x = ((prog s).gooseIn.filter fun e : MapEntry => e.ref = k).foldl (fun s e => applyEntry m.members e s) (setSub k g s) :=
    ⟨_, rfl⟩
  have htime : x.time = s.time := by
    rw [hx]
    exact foldl_keeps State.time (fun v e => applyEntry_keeps (p := State.time) (by intros; rfl) (by intros; rfl) m.members e v) _ _
  have hnet : x.net = (setSub k g s).net := by
    rw [hx]
    exact foldl_keeps State.net (fun v e => applyEntry_keeps (p := State.net) (by intros; rfl) (by intros; rfl) m.members e v) _ _
  have hroll : rollKey g m = g := if_neg (by simp [halg])
  have hnone : ((gooseConns s).filter fun c => c.ref = k) = [] :=
    List.filter_eq_nil_iff.mpr fun c hc => by simpa using hconn c hc
  have hall : ((prog s).gooseIn.filter fun e => e.ref = k).all (typeSuits m.members) = true :=
    List.all_eq_true.mpr fun e he => htype e (List.mem_filter.mp he).1 (of_decide_eq_true (List.mem_filter.mp he).2)
  have hold : (g.last.any fun l => l.1 = m.stNum && !newerSeq m.sqNum.toNat l.2.toNat) = false := by
    cases hl : g.last with
    | none => rfl
    | some l =>
      by_cases hst : l.1 = m.stNum
      · simp [hlast l hl hst]
      · simp [hst]
  have hout : gooseTake k m s = if g.last.map Prod.fst = some m.stNum then setSub k (takenSub m s.time.mono s.time.tai g) x
      else (boundTo (setSub k (takenSub m s.time.mono s.time.tai g) x) (.goose k)).foldl (fun s src => raiseNow src 6 m.stNum s)
        (setSub k (takenSub m s.time.mono s.time.tai g) x) := by
    unfold gooseTake
    dsimp only
    rw [hg, hnone, if_neg (by simp [halg, hauth]), hroll, if_neg (by simp [hds, hrev]), if_neg (by simp [hnds]), if_neg (by simp [htest]),
      if_neg (by simp [hold]), if_neg (by simp [hall]), List.foldl_nil, ← hx, htime]
    rfl
  refine ⟨x, hx, ?_, ?_⟩
  · rw [hout]
    split
    · rfl
    · exact foldl_keeps State.img (by intros; rfl) _ _
  · have hsub : (setSub k (takenSub m s.time.mono s.time.tai g) x).net.subs
        = (s.net.subs.set {} k g).set {} k (takenSub m s.time.mono s.time.tai g) := by
      rw [setSub, hnet, setSub]
    rw [hout]
    split
    · exact hsub
    · exact (foldl_keeps (fun s : State => s.net.subs) (by intros; rfl) _ _).trans hsub

/-- A message of another configuration is dropped and counted (R350, R364). -/
theorem gooseTake_otherRev (hg : s.net.subs.get {} k = g) (halg : g.alg = 0) (hauth : g.requireAuth = false)
    (hrev : m.confRev ≠ g.confRev) : (gooseTake k m s).img = s.img ∧ (gooseTake k m s).net.subs.get {} k
      = { g with flags := g.flags ||| 1#8, rejected := (g.rejected + 1) % 2 ^ 32 } := by
  have hroll : rollKey g m = g := if_neg (by simp [halg])
  have hout : gooseTake k m s = dropGoose k 1#8 (setSub k g s) := by
    unfold gooseTake
    dsimp only
    rw [hg, if_neg (by simp [halg, hauth]), hroll, if_pos (by simp [Ne.symm hrev])]
  have hget : (setSub k g s).net.subs.get {} k = g := (subs_setSub ..).trans (if_pos rfl)
  rw [hout, dropGoose, hget, subs_setSub, if_pos rfl]
  exact ⟨rfl, rfl⟩

end

theorem setQ_all {q : BitVec 4} {a : Nat} (l : List Nat) (s : State) (h : a ∈ l ∨ s.img.q.get 2#4 a = q) :
    (l.foldl (fun s a => setQ a q s) s).img.q.get 2#4 a = q := by
  induction l generalizing s with
  | nil => exact h.resolve_left List.not_mem_nil
  | cons b l ih =>
    refine ih _ ?_
    by_cases hab : a = b
    · right
      rw [hab]
      exact (Tbl.get_set ..).trans (if_pos rfl)
    · rcases h with h | h
      · exact .inl ((List.mem_cons.mp h).resolve_left hab)
      · right
        exact (Tbl.get_set ..).trans ((if_neg hab).trans h)

/-- A subscription that becomes STALE takes its points with it (R351). -/
theorem subStale_stales (k : Nat) (s : State) : (subStale k s).net.subs = s.net.subs.set {} k { s.net.subs.get {} k with stale := true }
    ∧ (∀ a, a ∈ subPoints s k → (subStale k s).img.q.get 2#4 a = 2#4) ∧ (subStale k s).img.val = s.img.val :=
  ⟨foldl_keeps (fun s : State => s.net.subs) (by intros; rfl) _ _, fun _ ha => setQ_all _ _ (.inl ha),
    foldl_keeps (fun s : State => s.img.val) (by intros; rfl) _ _⟩

/-- A subscription's configuration: the same identity goes on, another begins STALE (R351, R361). -/
theorem configureSub_configures (k : Nat) (g : GooseSub) (s : State) :
    ((configureSub k g s).net.subs.get {} k).enable = g.enable ∧ ((configureSub k g s).net.subs.get {} k).dst = g.dst
      ∧ (sameSub (s.net.subs.get {} k) g = false → (configureSub k g s).net.subs.get {} k = { g with stale := true })
      ∧ ∀ j, j ≠ k → (configureSub k g s).net.subs.get {} j = s.net.subs.get {} j := by
  have hstale : ∀ j, (subStale k (setSub k g s)).net.subs.get {} j = if j = k then { g with stale := true } else s.net.subs.get {} j :=
    fun j => by
    rw [(subStale_stales k (setSub k g s)).1, Tbl.get_set, subs_setSub, subs_setSub, if_pos rfl]
    split <;> rfl
  unfold configureSub
  dsimp only
  split
  · rename_i hsame
    simp only [Bool.and_eq_true] at hsame
    rw [subs_setSub, if_pos rfl]
    exact ⟨rfl, rfl, fun h => absurd (hsame.1.symm.trans h) Bool.noConfusion, fun j hj => (subs_setSub ..).trans (if_neg hj)⟩
  · rw [hstale, if_pos rfl]
    exact ⟨rfl, rfl, fun _ => rfl, fun j hj => (hstale j).trans (if_neg hj)⟩

/-! ### GOOSE publications (R353, R354, R362) -/

theorem pubs_setPub (k : Nat) (g : GoosePub) (s : State) : (setPub k g s).net.pubs.get {} k = g :=
  (Tbl.get_set ..).trans (if_pos rfl)

/-- A message leaves with the publication's numbers and values, and the next is due after its interval (R354). -/
theorem sendGoose_sends (k : Nat) (g : GoosePub) (s : State) : ∃ m, (sendGoose k (setPub k g s)).net.sent.head? = some m ∧ m.pub = k
    ∧ m.values = g.vals ∧ m.stNum = g.stNum ∧ m.sqNum = g.sqNum ∧ (sendGoose k (setPub k g s)).net.pubs.get {} k = { g with
      nextAt := some (s.time.mono + g.curveMs * 10 ^ 6), lastTai := s.time.tai, sent := (g.sent + 1) % 2 ^ 32 } := by
  unfold sendGoose
  dsimp only
  rw [pairSend_net, pubs_setPub]
  exact ⟨_, rfl, rfl, rfl, rfl, rfl, pubs_setPub ..⟩

/-! ### Sampled values (R357) -/

/-- A frame in sequence leaves out no sample (R357). -/
theorem svTake_takes {k c : Nat} {m : SvMsg} {g : SvStream} {s : State} (hg : s.net.sv.get {} k = g) (halg : g.alg = 0)
    (hauth : g.requireAuth = false) (hrev : m.confRev = g.confRev) (hsim : m.simulation = false) (hspc : g.spc = 0)
    (hlen : m.asdus.map List.length = [8]) (hcnt : m.smpCnt < 80 * freqOf g) (hl : g.lastCnt = some c)
    (hnext : m.smpCnt = (c + 1) % (80 * freqOf g)) :
    ((svTake k m s).net.sv.get {} k).lastCnt = some m.smpCnt ∧ ((svTake k m s).net.sv.get {} k).missing = g.missing % 2 ^ 32
      ∧ ((svTake k m s).net.sv.get {} k).accepted = (g.accepted + 1) % 2 ^ 32
      ∧ ((svTake k m s).net.sv.get {} k).rejected = g.rejected := by
  have hmod : spcOf g * freqOf g = 80 * freqOf g := by simp [spcOf, hspc]
  obtain ⟨a, ha, hal⟩ : ∃ a, m.asdus = [a] ∧ a.length = 8 := by
    obtain ⟨a, l, h1, h2, h3⟩ := List.map_eq_cons_iff.mp hlen
    rw [List.map_eq_nil_iff.mp h3] at h1
    exact ⟨a, h1, h2⟩
  have hgap : (m.smpCnt + 80 * freqOf g - (c + 1) % (80 * freqOf g)) % (80 * freqOf g) = 0 := by
    rw [← hnext, Nat.add_sub_cancel_left, Nat.mod_self]
  have hlast : (m.smpCnt + m.asdus.length - 1) % (80 * freqOf g) = m.smpCnt := by
    rw [ha, List.length_singleton, Nat.add_sub_cancel, Nat.mod_eq_of_lt hcnt]
  have hbad : (m.asdus.any (fun a => a.length ≠ 8) || decide (m.asdus.length ≠ (if g.spc = 1 then 8 else 1))
      || decide (spcOf g * freqOf g ≤ m.smpCnt)) = false := by
    rw [hmod, decide_eq_false (Nat.not_le.mpr hcnt)]
    simp [ha, hal, hspc]
  obtain ⟨samples, hout⟩ : ∃ l, svTake k m s = setSv k { g with
      samples := l, lastCnt := some m.smpCnt, missing := (g.missing + 0) % 2 ^ 32, lastTai := s.time.tai
      accepted := (g.accepted + 1) % 2 ^ 32 } (setSv k g s) := by
    unfold svTake
    dsimp only
    have hroll : (if (decide (g.alg ≠ 0) && !tagGood g.alg g.key m.covered m.tag) = true then
        { g with keyId := g.nextKeyId, key := g.nextKey, nextKeyId := 0#32, nextKey := [] } else g) = g := if_neg (by simp [halg])
    rw [hg, if_neg (by simp [halg, hauth]), hroll, if_neg (by simp [hrev]), if_neg (by simp [hsim]), if_neg (by simpa using hbad), hmod,
      hl, Option.elim_some, hgap, hlast]
    exact ⟨_, rfl⟩
  have hget : (svTake k m s).net.sv.get {} k = { g with
      samples := samples, lastCnt := some m.smpCnt, missing := (g.missing + 0) % 2 ^ 32, lastTai := s.time.tai
      accepted := (g.accepted + 1) % 2 ^ 32 } := by
    rw [hout]
    exact (Tbl.get_set ..).trans (if_pos rfl)
  rw [hget]
  exact ⟨rfl, rfl, rfl, rfl⟩

/-! ### Host frames (R348) -/

/-- A frame goes into the slot that the host has handed over, behind 16 bytes of header (R348). -/
theorem hostFrame_stores {s : State} {f : Bytes} (hl : ringsLive s = true) (hr : s.net.rxRing ≠ 0) (hf : f.length ≤ 2032) (port : Nat)
    (dup : Bool) : (hostFrame port f true dup s).net.rxSlot = (s.net.rxSlot + 1) % s.net.slots
      ∧ (hostFrame port f true dup s).net.hostDropped = s.net.hostDropped
      ∧ ∀ i, i < f.length → some (Memory.readByte (hostFrame port f true dup s).host.hostMem
        (s.net.rxRing + 2048 * s.net.rxSlot + (16 + i))) = f[i]? := by
  obtain ⟨hd, hhd⟩ : ∃ hd, hd = leBytes 2 f.length ++ leBytes 1 (2 * port + 4 * bit (dup && s.net.mode ≠ 0)) ++ zeros 5
      ++ leBytes 8 s.time.tai := ⟨_, rfl⟩
  have hlen : hd.length = 16 := by simp [hhd]
  obtain ⟨mem, hmem⟩ : ∃ mem, mem = Memory.writeBytes s.host.hostMem (s.net.rxRing + 2048 * s.net.rxSlot) (hd ++ f) := ⟨_, rfl⟩
  have hout : hostFrame port f true dup s = { s with host.hostMem := mem, net.rxSlot := (s.net.rxSlot + 1) % s.net.slots } := by
    rw [hmem, hhd]
    unfold hostFrame
    exact if_pos (by simp [hl, hr, hf])
  rw [hout]
  refine ⟨rfl, rfl, fun i hi => ?_⟩
  show some (Memory.readByte mem _) = _
  rw [hmem, Memory.readByte_writeBytes_at _ _ _ _ (by rw [List.length_append]; omega), List.getD_eq_getElem?_getD,
    List.getElem?_append_right (by omega), hlen, Nat.add_sub_cancel_left, List.getElem?_eq_getElem hi]
  rfl

theorem hostFrame_drops (port : Nat) (f : Bytes) (dup : Bool) (s : State) : hostFrame port f false dup s
    = { s with net.hostDropped := (s.net.hostDropped + 1) % 2 ^ 32 } := if_neg (by simp)

/-! ### The commands (R360, R362, R363) -/

/-- NET_PORT_CFG takes the clamped settings; another MODE takes both links down (R345, R360). -/
theorem netPortCfg_takes {s : State} (w : Work) (hs : isStation s = false) (hq : s.power.hostQspi = false) (hh : s.power.state ≠ .holdup) :
    ∃ p x, netPortCfg w s = (.done DONE p, x) ∧ x.net.mode = (if 2 < field w.payload 0 1 1 then 0 else field w.payload 0 1 1)
      ∧ x.net.supS = clamp 1 60 (field w.payload 2 1 2) ∧ x.net.rxRing = field w.payload 4 8 0 / 4096 * 4096
      ∧ x.net.txRing = field w.payload 0xC 8 0 / 4096 * 4096 ∧ (x.net.mode ≠ s.net.mode → x.net.link = 0#2) := by
  have hdown : (netLink (0 : Fin 2).val false (netLink (1 : Fin 2).val false s)).net.link = 0#2 := by
    rw [netLink_down, netLink_down]
    exact link_cleared _
  obtain ⟨x, hx⟩ : ∃ x, x = if (decide ((if 2 < field w.payload 0 1 1 then 0 else field w.payload 0 1 1) ≠ s.net.mode)
      || decide (BitVec.ofNat 8 (field w.payload 1 1 0 % 4) ≠ s.net.speed)) then netLink 0 false (netLink 1 false s) else s := ⟨_, rfl⟩
  unfold netPortCfg
  dsimp only
  rw [← hx]
  refine ⟨_, _, checked_pass (by simp [firstStatus, hs, hq, inHoldup_eq_false hh]), rfl, rfl, rfl, rfl, fun hm => ?_⟩
  show x.net.link = 0#2
  rw [hx, if_pos (by rw [decide_eq_true hm, Bool.true_or])]
  exact hdown

theorem configurePub_configures (k : Nat) (g : GoosePub) (s : State) :
    ((configurePub k g s).net.pubs.get {} k).enable = g.enable ∧ ((configurePub k g s).net.pubs.get {} k).t0Ms = g.t0Ms
      ∧ ((configurePub k g s).net.pubs.get {} k).t1Ms = g.t1Ms
      ∧ ((configurePub k g s).net.pubs.get {} k).stNum = (s.net.pubs.get {} k).stNum
      ∧ (samePub (s.net.pubs.get {} k) g = false → ((configurePub k g s).net.pubs.get {} k).newState = true) := by
  unfold configurePub
  dsimp only
  rw [pubs_setPub]
  exact ⟨rfl, rfl, rfl, rfl, fun h => by rw [h, Bool.not_false, Bool.or_true]⟩

theorem configureSv_configures (k : Nat) (g : SvStream) (s : State) :
    ((configureSv k g s).net.sv.get {} k).enable = g.enable ∧ ((configureSv k g s).net.sv.get {} k).spc = g.spc
      ∧ ((configureSv k g s).net.sv.get {} k).svId = g.svId := by
  have hget : ∀ x, (setSv k x s).net.sv.get {} k = x := fun x => (Tbl.get_set ..).trans (if_pos rfl)
  unfold configureSv
  dsimp only
  split <;> rw [hget] <;> exact ⟨rfl, rfl, rfl⟩

end Sys2Proof.Machine

open Sys2Proof Sys2Proof.Machine

/-- Settles O49: GOOSE by `gooseTake_takes` and `sendGoose_sends`, sampled values by `svTake_takes`, host frames by
`hostFrame_stores`; each command by the lemma on its effect. -/
theorem networkFramesAndPublications : Obligations.NetworkFramesAndPublications := by
  unfold Obligations.NetworkFramesAndPublications
  intro s t mb w u
  have hnet : u.net = s.net := by simp [u]
  have himg : u.img = s.img := by simp [u]
  have hlive : ∀ p, portLive s p = true → portLive u p = true := fun p h => by simpa [u] using h
  have hprog : prog u = prog s := by simp [u]
  have hconns : gooseConns u = gooseConns s := by simp [u]
  have hrings : ringsLive s = true → ringsLive u = true := fun h => by simpa [u] using h
  refine ⟨?_, ?_, ?_, ?_, ?_, ?_, ?_, ?_, ?_, ?_, ?_, ?_, ?_, ?_⟩
  · intro m k g hg hm hp hf hsub halg hauth hds
    have hcard : execGooseRx t m s = .next (gooseTake k m u) := by
      unfold execGooseRx
      dsimp only
      rw [netAccept_single (by rw [advance_net]; exact hm) (hlive _ hp) hf, if_pos rfl,
        show gooseSubFor (advance t s) m = some k from (by simpa using hsub)]
    have hgu : u.net.subs.get {} k = g := by rw [hnet, hg]
    refine ⟨fun hrev hnds htest hlast htype hconn => ?_, fun hrev => ?_⟩
    · obtain ⟨x, hx, hxi, hxn⟩ := gooseTake_takes hgu halg hauth hds hrev.symm hnds htest hlast (by rw [hprog]; exact htype)
        (by rw [hconns]; exact hconn)
      have hk : (gooseTake k m u).net.subs.get {} k = takenSub m u.time.mono u.time.tai g := by
        rw [hxn]
        exact (Tbl.get_set ..).trans (if_pos rfl)
      refine ⟨_, hcard, by rw [hk]; rfl, ?_, by rw [hk]; rfl, by rw [hk]; rfl, by rw [hk]; rfl, fun e b he hb hq => ?_, fun j hj => ?_⟩
      · rw [hk, takenSub, show 10 ^ 6 = 1000000 by norm_num]
      · have hxe : x.img = (setQ e.point 1#4 (setImg e.point (b32 b) (setSub k g u))).img := by
          rw [hx, hprog, he, List.foldl_cons, List.foldl_nil, applyEntry_bool hb hq]
        have hval : ∀ a, imgVal (gooseTake k m u) a = if a = e.point then b32 b else imgVal s a := fun a => by
          rw [imgVal, hxi, hxe, imgVal, ← himg]
          exact Tbl.get_set ..
        refine ⟨(hval _).trans (if_pos rfl), ?_, fun a ha => (hval _).trans (if_neg ha)⟩
        rw [hxi, hxe]
        exact (Tbl.get_set (setImg e.point (b32 b) (setSub k g u)).img.q 2#4 1#4 _ _).trans (if_pos rfl)
      · rw [hxn, Tbl.get_set, if_neg hj, Tbl.get_set, if_neg hj, hnet]
    · obtain ⟨h1, h2⟩ := gooseTake_otherRev (s := u) hgu halg hauth hrev
      exact ⟨_, hcard, by rw [h2], by rw [h2], by rw [h2], h1.trans himg⟩
  · intro k e he hen hst hdue
    have hcard : execGooseExpiry t k s = .next (subStale k u) := by
      unfold execGooseExpiry
      dsimp only
      rw [advance_net, he]
      dsimp only
      rw [if_pos (by rw [hen, hst]; exact decide_eq_true hdue)]
    obtain ⟨h1, h2, h3⟩ := subStale_stales k u
    refine ⟨_, hcard, ?_, fun a ha => h2 a (by simpa [u] using ha), h3.trans (congrArg Image.val himg)⟩
    rw [h1, Tbl.get_set, if_pos rfl]
  · intro m k c g hg hm hp hf hfor halg hauth hrev hsim hspc hlen hcnt hl hnext
    have hcard : execSvRx t m s = .next (svTake k m u) := by
      unfold execSvRx
      dsimp only
      rw [netAccept_single (by rw [advance_net]; exact hm) (hlive _ hp) hf, if_pos rfl,
        show svFor (advance t s) m = some k from (by simpa using hfor)]
    exact ⟨_, hcard, svTake_takes (by rw [hnet, hg]) halg hauth hrev hsim hspc hlen hcnt hl hnext⟩
  · intro h hm hp hf hq
    obtain ⟨x, hx, hnow, hi⟩ := netAccept_plain (s := u) (by rw [hnet]; exact hm) (hlive _ hp) hf hq
    obtain ⟨room, hcard⟩ : ∃ room : Tbl (Nat × List Nat), execSupervisionFrame t h s = .next { x with
        net.nodes := room.set (0, []) h.src.toNat (x.now + 1, (x.net.nodes.get (0, []) h.src.toNat).2) } := by
      unfold execSupervisionFrame
      dsimp only
      rw [show netAccept h (advance t s) = (true, x) from hx, if_pos (by simp [hm])]
      exact ⟨_, rfl⟩
    refine ⟨_, hcard, ?_, hi.trans himg⟩
    refine (congrArg Prod.fst ((Tbl.get_set room (0, []) (x.now + 1, (x.net.nodes.get (0, []) h.src.toNat).2) _ _).trans
      (if_pos rfl))).trans ?_
    rw [hnow]
  · intro hr hs hm hc hd
    have hif : (inRun u && !isStation u && u.net.mode ≠ 0 && clkReady u 5 && passed u.now u.net.supAt (u.net.supS * 10 ^ 9)) = true := by
      have hst : isStation s = false := decide_eq_false hs
      rw [hnet, show 10 ^ 9 = 1000000000 by norm_num, passed, decide_eq_true hd]
      simp [u, hr, hst, hm, hc]
    exact congrArg Host.Outcome.next ((if_pos hif).trans (by rw [← hnet]))
  · intro mac h0 hold
    have hcard : execNodeEntryAge t mac s = .next { u with net.nodes := s.net.nodes.set (0, []) mac.toNat (0, []) } := by
      unfold execNodeEntryAge
      dsimp only
      rw [advance_net, if_pos ⟨h0, by rw [show 60 * 10 ^ 9 = 60000000000 by norm_num]; exact hold⟩]
    exact ⟨_, hcard, (Tbl.get_set s.net.nodes (0, []) (0, []) _ _).trans (if_pos rfl),
      fun k hk => (Tbl.get_set s.net.nodes (0, []) (0, []) _ _).trans (if_neg hk)⟩
  · intro port up hl hr hs hc hm
    have hcard : execNetLinkChange t port up s = .next (raiseNow (82 + port) (bit (!up)) (b32 up) { u with
        net.link := if up then s.net.link ||| (1#2 <<< port.val) else s.net.link &&& ~~~(1#2 <<< port.val) }) := by
      refine congrArg Host.Outcome.next ?_
      show netLink port up u = _
      have hst : isStation u = false := by simpa [u, isStation] using hs
      have hgo : ¬(up && (!inRun u || isStation u || !clkReady u 5 || (decide (u.net.mode = 0) && decide (port.val = 1)))) = true := by
        rw [hst, hnet, decide_eq_false hm]
        simp [u, hr, hc]
      rw [netLink, if_neg (by rw [hnet]; exact hl), if_neg hgo, hnet]
    obtain ⟨h1, h2⟩ := link_changed s.net.link port up
    refine ⟨_, hcard, h1, h2, _, by rw [show s.ev = u.ev by simp [u]]; rfl, rfl, ?_⟩
    show bit (!up) = _
    cases up <;> rfl
  · intro h f owned dup hm hp hf hd hr hx hlen he
    have hcard : execHostFrameRx t h f ⟨owned, dup⟩ s = .next (hostFrame h.port f owned dup u) := by
      unfold execHostFrameRx
      dsimp only
      rw [netAccept_single (by rw [advance_net]; exact hm) (hlive _ hp) hf]
      exact congrArg Host.Outcome.next (if_pos (by simp [hd, he]))
    refine ⟨_, hcard, fun ho => ?_, fun ho => ?_⟩
    · obtain ⟨h1, h2, h3⟩ := hostFrame_stores (hrings hr) (by rw [hnet]; exact hx) hlen h.port dup
      rw [hnet] at h1 h2 h3
      rw [ho]
      exact ⟨h1, h2, h3⟩
    · rw [ho, hostFrame_drops, hnet]
      exact ⟨rfl, by simp [u]⟩
  · intro x hr ht ho h14 h2032 hlen
    have hslice : slice x.frame 0 x.len = x.frame := by
      rw [hlen]
      simp [slice]
    have hcard : execHostTxPoll t [x] s = .next (sendSlots [x] u) :=
      congrArg Host.Outcome.next (if_pos (by simp [hr, ht]))
    refine ⟨_, hcard, ?_⟩
    rw [sendSlots, if_pos ho, sendSlots]
    dsimp only
    rw [if_pos ⟨h14, h2032⟩, hslice, hnet]
    exact ⟨rfl, rfl⟩
  · intro k a g hg ha hdue hen hin hfull hmode hs
    have hgu : u.net.pubs.get {} k = g := by rw [hnet, hg]
    have hgo : (g.enable && decide (a ≤ u.time.mono) && inControl u && fullService u && decide (u.scan.mode = 2) && !isStation u) = true := by
      rw [hen, decide_eq_true hdue, hin]
      simp [u, hfull, hmode, isStation, hs]
    have hcard : execGooseRepeat t k s = .next (if g.newState then newGooseState k u else sendGoose k (setPub k { g with
        sqNum := if g.sqNum = 2 ^ 32 - 1 then 1 else g.sqNum + 1, curveMs := nextCurve g } u)) := by
      refine congrArg Host.Outcome.next ?_
      show gooseRepeat k u = _
      unfold gooseRepeat
      dsimp only
      rw [hgu, ha]
      dsimp only
      rw [if_pos hgo]
    by_cases hnew : g.newState = true
    · obtain ⟨m, h1, h2, h3, h4, h5, h6⟩ := sendGoose_sends k { g with
        stNum := if g.stNum = 2 ^ 32 - 1 then 1 else g.stNum + 1, sqNum := 0, curveMs := g.t1Ms, newState := false } u
      rw [if_pos hnew, newGooseState, hgu] at hcard
      refine ⟨_, m, hcard, h1, h2, h3, ?_, ?_, fun h => absurd (hnew.symm.trans h) Bool.noConfusion, fun _ => ⟨h4, h5, ?_⟩, ?_⟩
      · rw [h6, h4]
      · rw [h6, h5]
      · rw [h6]
      · rw [h6, show 10 ^ 6 = 1000000 by norm_num]
    · obtain ⟨m, h1, h2, h3, h4, h5, h6⟩ := sendGoose_sends k { g with
        sqNum := if g.sqNum = 2 ^ 32 - 1 then 1 else g.sqNum + 1, curveMs := nextCurve g } u
      rw [if_neg hnew] at hcard
      refine ⟨_, m, hcard, h1, h2, h3, ?_, ?_, fun _ => ⟨h4, h5, ?_⟩, fun h => absurd h hnew, ?_⟩
      · rw [h6, h4]
      · rw [h6, h5]
      · rw [h6]
        rfl
      · rw [h6, show 10 ^ 6 = 1000000 by norm_num]
  · intro hask hs hq hh
    obtain ⟨p, x, hx, h1, h2, h3, h4, h5⟩ := netPortCfg_takes (s := u) w (by simpa [u, isStation] using hs)
      (by simpa [u] using hq) (by simpa [u] using hh)
    obtain ⟨w', hrun⟩ := runCommand_ends hask hx
    refine ⟨_, congrArg Host.Outcome.next hrun, ?_⟩
    simp only [finish_fields]
    rw [← hnet]
    exact ⟨h1, h2, h3, h4, h5⟩
  · intro hask hs ha hh hq k g hk hg hname
    have heff : gooseSubCfg w u = (.done DONE (subEcho k false g), forward 0x0702 w.payload (configureSub k g u)) := by
      unfold gooseSubCfg
      dsimp only
      rw [hq, ← hk, ← hg]
      refine checked_pass ?_
      have hst : isStation u = false ∧ isApprentice u = false ∧ inHoldup u = false := by
        simpa [u, isStation, isApprentice, inHoldup] using ⟨hs, ha, hh⟩
      rw [hst.1, hst.2.1, hst.2.2]
      cases hen : g.enable with
      | false => simp [firstStatus]
      | true => simp [firstStatus, hname hen]
    obtain ⟨w', hrun⟩ := runCommand_ends hask heff
    obtain ⟨h1, h2, h3, h4⟩ := configureSub_configures k g u
    refine ⟨_, congrArg Host.Outcome.next hrun, ?_⟩
    simp only [finish_fields, forward_frame]
    rw [← hnet]
    exact ⟨h1, h2, h3, h4⟩
  · intro hask hs ha hh hq k g hk hg
    have heff : goosePubCfg w u = (.done DONE (pubEcho k false g), forward 0x0703 w.payload (configurePub k g u)) := by
      unfold goosePubCfg
      dsimp only
      rw [hq, ← hk, ← hg]
      refine checked_pass ?_
      simpa [firstStatus, u, isStation, isApprentice, inHoldup] using ⟨⟨hs, ha⟩, hh⟩
    obtain ⟨w', hrun⟩ := runCommand_ends hask heff
    obtain ⟨h1, h2, h3, h4, h5⟩ := configurePub_configures k g u
    refine ⟨_, congrArg Host.Outcome.next hrun, ?_⟩
    simp only [finish_fields, forward_frame]
    rw [← hnet]
    exact ⟨h1, h2, h3, h4, h5⟩
  · intro hask hs ha hh hq k g hk hg hsv hsuit
    have heff : svSubCfg w u = (.done DONE (svEcho k false g), forward 0x0704 w.payload (configureSv k g u)) := by
      unfold svSubCfg
      dsimp only
      rw [hq, ← hk, ← hg, hprog]
      refine checked_pass ?_
      have hsu : svSuits u k g = true := by simpa [u] using hsuit
      rw [hsu]
      simpa [firstStatus, hsv, u, isStation, isApprentice, inHoldup] using ⟨⟨hs, ha⟩, hh⟩
    obtain ⟨w', hrun⟩ := runCommand_ends hask heff
    obtain ⟨h1, h2, h3⟩ := configureSv_configures k g u
    refine ⟨_, congrArg Host.Outcome.next hrun, ?_⟩
    simp only [finish_fields, forward_frame]
    exact ⟨h1, h2, h3⟩
end

section
/-! PROOFS. The pair's roles, records and takeover (R390-R418): what the claim, a drop of the link, a takeover and a shipped
release leave of the pair's state. -/

namespace Sys2Proof.Machine

/-! ### What leaves the pair's state alone -/

@[simp] theorem abortEdit_pair (cause : Nat) (s : State) :
    (abortEdit cause s).pair = s.pair := by simp [abortEdit]

@[simp] theorem startCompare_pair (old new : Tbl Rule) (s : State) :
    (startCompare old new s).pair = s.pair := by
  unfold startCompare
  exact foldl_keeps _ (by intro s a; dsimp only; (repeat' split) <;> simp) _ _

@[simp] theorem retarget_pair (s : State) : (retarget s).pair = s.pair := by
  unfold retarget
  split
  · rfl
  · refine foldl_keeps _ (fun v ch => ?_) _ _
    dsimp only
    (repeat' split) <;> simp

@[simp] theorem setRules_pair (new : Tbl Rule) (map : Tbl Half) (s : State) :
    (setRules new map s).pair = s.pair := by
  unfold setRules
  simp

@[simp] theorem changeRules_pair (new : Tbl Rule) (map : Tbl Half) (s : State) :
    (changeRules new map s).pair = s.pair := by simp [changeRules]

@[simp] theorem storeConfirm_pair (v : Option Word) (s : State) :
    (storeConfirm v s).pair = s.pair := by
  unfold storeConfirm
  dsimp only
  (repeat' split) <;> simp

@[simp] theorem safAtSwitch_pair (s : State) :
    (safAtSwitch s).pair = s.pair := by
  unfold safAtSwitch
  dsimp only
  (repeat' split) <;> simp

@[simp] theorem shipForces_pair (ps : List ImgPoint) (s : State) :
    (shipForces ps s).pair = s.pair := by
  rfl

@[simp] theorem release_pair (n : Nat) (c : Cause) (s : State) : (release n c s).pair = s.pair := by
  unfold release
  dsimp only
  (repeat' split) <;> simp

@[simp] theorem issueHeld_pair (n : Nat) (s : State) : (issueHeld n s).pair = s.pair := by
  unfold issueHeld
  dsimp only
  (repeat' split) <;> simp

@[simp] theorem liftTask_pair (n : Nat) (s : State) :
    (liftTask n s).pair = s.pair := by
  unfold liftTask
  dsimp only
  (repeat' split) <;> simp

@[simp] theorem liftHold_pair (s : State) : (liftHold s).pair = s.pair := by
  unfold liftHold
  split
  · rfl
  · split
    · rfl
    · exact foldl_keeps _ (by simp) _ _

@[simp] theorem switchTask_pair (hold : Bool) (n : Nat) (s : State) :
    (switchTask hold n s).pair = s.pair := by
  unfold switchTask
  dsimp only
  (repeat' split) <;> simp

@[simp] theorem flipRoot_pair (l : Nat) (s : State) :
    (flipRoot l s).pair = s.pair := by simp [flipRoot]

@[simp] theorem armRegion_pair (q : Partition) (s : State) (l : Nat) :
    (armRegion q s l).pair = s.pair := by simp [armRegion]

@[simp] theorem commitEpoch_pair (e : Epoch) (S : Nat) (s : State) :
    (commitEpoch e S s).pair = s.pair := by
  unfold commitEpoch
  exact foldl_keeps _ (by intro s a; simp) _ _

@[simp] theorem answerCommit_pair (status : Nat) (payload : Bytes) (s : State) :
    (answerCommit status payload s).pair = s.pair := by
  unfold answerCommit
  split <;> simp

@[simp] theorem regrid_pair (s : State) :
    (regrid s).pair = s.pair := by
  unfold regrid
  exact foldl_keeps _ (by intro s a; dsimp only; (repeat' split) <;> simp) _ _

@[simp] theorem editAtTakeover_pair (s : State) :
    (editAtTakeover s).pair = s.pair := by
  unfold editAtTakeover
  split <;> simp

theorem forward_pair (code : Nat) (p : Bytes) (s : State) : ∃ q, (forward code p s).pair = { s.pair with sent := q } := by
  unfold forward
  split
  · exact ⟨_, rfl⟩
  · exact ⟨s.pair.sent, rfl⟩

/-! ### The claim -/

/-- What a claim that follows its target, or its handover, may change of the pair's state (R407, R413, R414). -/
def Follows (p q : Pair) : Prop :=
  ∃ h f o b l, q = { p with health := h, preference := f, handover := o, noHandoverBefore := b, sent := l }

theorem Follows.refl (p : Pair) : Follows p p := ⟨p.health, p.preference, p.handover, p.noHandoverBefore, p.sent, rfl⟩

theorem takeTarget_pair (s : State) : ∃ h f, (takeTarget s).pair = { s.pair with health := h, preference := f } := by
  refine ⟨s.pair.targetHealth, targetPref s, ?_⟩
  unfold takeTarget
  dsimp only
  split
  · rfl
  · rw [claimChanged_pair]

theorem dropHandover_pair (s : State) : (dropHandover s).pair = { s.pair with handover := none } := by
  unfold dropHandover
  dsimp only
  split <;> simp

theorem scheduleHandover_eq (s : State) : scheduleHandover s = { s with
    pair.handover := some (s.scan.scan + 3)
    pair.sent := if s.pair.shipping then { kind := 7, num := 1, scan := s.scan.scan + 3 } :: s.pair.sent else s.pair.sent } := by
  unfold scheduleHandover pairSend
  dsimp only
  split <;> rfl

theorem claimFollow_pair (s : State) : Follows s.pair (claimFollow s).pair := by
  obtain ⟨h, f, ht⟩ := takeTarget_pair s
  have htake : Follows s.pair (takeTarget s).pair := ⟨h, f, s.pair.handover, s.pair.noHandoverBefore, s.pair.sent, ht⟩
  have hdrop (b : Nat) : Follows s.pair { dropHandover s with pair.noHandoverBefore := b }.pair :=
    ⟨s.pair.health, s.pair.preference, none, b, s.pair.sent, congrArg (fun p : Pair => { p with noHandoverBefore := b }) (dropHandover_pair s)⟩
  have hsched : Follows s.pair (scheduleHandover s).pair := by
    rw [scheduleHandover_eq]
    exact ⟨s.pair.health, s.pair.preference, _, s.pair.noHandoverBefore, _, rfl⟩
  unfold claimFollow
  dsimp only
  split
  · split
    · exact hdrop _
    · exact .refl _
  · split
    · exact htake
    · split
      · split
        · exact hsched
        · exact .refl _
      · split
        · exact .refl _
        · exact htake

theorem healthSettled_none {s : State} (h : healthNow s ≠ s.pair.targetHealth) (hn : s.pair.newHealth = none) :
    healthSettled s = { s with pair.newHealth := some (healthNow s, s.now) } := by
  unfold healthSettled
  dsimp only
  rw [if_neg h, hn]

theorem healthSettled_held {s : State} {a : Nat} (h : healthNow s ≠ s.pair.targetHealth) (hn : s.pair.newHealth = some (healthNow s, a)) :
    healthSettled s = if a + 200000000 ≤ s.now
      then claimFollow { s with pair.targetHealth := healthNow s, pair.newHealth := none } else s := by
  unfold healthSettled passed
  dsimp only
  rw [if_neg h, hn]
  simp

/-! ### The lanes -/

@[simp] theorem pairSend_lanes (r : PairTx) (s : State) : (pairSend r s).pair.lanes = s.pair.lanes := by
  unfold pairSend
  split <;> rfl

@[simp] theorem outOfStep_lanes (cause : Nat) (s : State) : (outOfStep cause s).pair.lanes = s.pair.lanes := by
  unfold outOfStep
  split <;> simp

@[simp] theorem takeShipped_lanes (n : Nat) (s : State) : (takeShipped n s).pair.lanes = s.pair.lanes := by
  unfold takeShipped
  dsimp only
  (repeat' split) <;> simp

@[simp] theorem switchNow_lanes (e : Epoch) (s : State) : (switchNow e s).pair.lanes = s.pair.lanes := by
  unfold switchNow
  dsimp only
  refine (foldl_keeps (fun v => v.pair.lanes) (by simp) _ _).trans ?_
  simp only [liftHold_pair, safAtSwitch_pair, changeRules_pair]
  refine (foldl_keeps (fun v => v.pair.lanes) (by simp) _ _).trans ?_
  exact foldl_keeps (fun v => v.pair.lanes) (by simp) _ _

@[simp] theorem epochSwitch_lanes (s : State) : (epochSwitch s).pair.lanes = s.pair.lanes := by
  unfold epochSwitch
  dsimp only
  (repeat' split) <;> simp

@[simp] theorem commitHere_lanes (id : Nat) (s : State) : (commitHere id s).2.2.pair.lanes = s.pair.lanes := by
  unfold commitHere
  dsimp only
  (repeat' split) <;> simp

@[simp] theorem commitAlone_lanes (s : State) : (commitAlone s).pair.lanes = s.pair.lanes := by
  unfold commitAlone partnerChecked
  dsimp only
  (repeat' split) <;> simp

@[simp] theorem linkSilent_lanes (s : State) : (linkSilent s).pair.lanes = s.pair.lanes := by
  unfold linkSilent
  dsimp only
  (repeat' split) <;> simp [dropHandover_pair]

theorem laneFails_lanes (lane : Fin 2) (s : State) : (laneFails lane 0 s).pair.lanes.getLsbD lane = false
    ∧ (laneFails lane 0 s).pair.lanes.getLsbD (1 - lane) = s.pair.lanes.getLsbD (1 - lane) := by
  have hbits : ∀ (b : BitVec 2) (l : Fin 2),
      (b &&& ~~~(1#2 <<< (l : Nat))).getLsbD (1 - (l : Nat)) = b.getLsbD (1 - (l : Nat)) := by decide
  refine ⟨laneFails_down lane 0 s, ?_⟩
  unfold laneFails
  split
  · rw [logFault_pair]
    exact hbits ..
  · rfl

theorem laneDown_lanes {lane : Fin 2} {s : State} (hr : pairRuns s = true) (hl : s.pair.lanes.getLsbD lane = true)
    (ha : s.pair.hbAt.get 0 lane + 30000 ≤ s.now) :
    (laneDown lane s).pair.lanes.getLsbD lane = false
      ∧ (laneDown lane s).pair.lanes.getLsbD (1 - lane) = s.pair.lanes.getLsbD (1 - lane) := by
  have hlanes : (laneDown lane s).pair.lanes = (laneFails lane 0 s).pair.lanes := by
    unfold laneDown
    rw [if_neg (by simp [hr, hl, passed, ha])]
    dsimp only
    split
    · rw [commitAlone_lanes, linkSilent_lanes]
    · rfl
  rw [hlanes]
  exact laneFails_lanes lane s

theorem lane_set : ∀ (b : BitVec 2) (l : Fin 2), (b ||| (1#2 <<< (l : Nat))).getLsbD l = true := by decide

/-! ### Roles -/

@[simp] theorem regrid_fld (s : State) : (regrid s).fld = s.fld := by
  unfold regrid
  exact foldl_keeps _ (by intro s a; dsimp only; (repeat' split) <;> simp) _ _

theorem releaseOwn_fld (n : Nat) (c : Cause) (s : State) : (releaseOwn n c s).fld = s.fld := by
  unfold releaseOwn
  split <;> simp

theorem claimChanged_latches (s : State) : latches (claimChanged s) = latches s :=
  (sendAllCmds_latches _).trans (latches_of_fld (by simp))

theorem takeTarget_latches (s : State) : latches (takeTarget s) = latches s := by
  unfold takeTarget
  dsimp only
  split
  · rfl
  · exact claimChanged_latches _

/-- The pair's state of a module that has just taken the KEEPER role (R405, R410). -/
def keeperPair (p : Pair) (h f : Nat) : Pair :=
  { p with role := .keeper, state := 0, shipping := false, aligned := false, handover := none, valid := true, shipped := [],
           releases := [], inStepAt := none, takebackDone := false, identityOk := false, nonce := [], health := h, preference := f }

theorem becomeKeeper_pair (s : State) : ∃ h f, (becomeKeeper s).pair = keeperPair s.pair h f := by
  obtain ⟨v, hv⟩ : ∃ v : State, v = { s with
    pair.role := .keeper, pair.state := 0, pair.shipping := false, pair.aligned := false, pair.handover := none
    pair.valid := true, pair.shipped := [], pair.releases := [], pair.inStepAt := none, pair.takebackDone := false
    pair.identityOk := false, pair.nonce := [] } := ⟨_, rfl⟩
  obtain ⟨h, f, ht⟩ := takeTarget_pair v
  refine ⟨h, f, ?_⟩
  unfold becomeKeeper
  rw [← hv]
  dsimp only
  rw [releaseOwn_pair, regrid_pair]
  have hpair : (takeTarget v).pair = keeperPair s.pair h f := by rw [ht, hv]; rfl
  split
  · exact hpair
  · rw [claimChanged_pair, hpair]

theorem becomeKeeper_latches (s : State) : latches (becomeKeeper s) = latches s := by
  unfold becomeKeeper
  dsimp only
  rw [latches_of_fld (releaseOwn_fld ..), latches_of_fld (regrid_fld _)]
  split
  · exact takeTarget_latches _
  · exact (claimChanged_latches _).trans (takeTarget_latches _)

theorem takeover_takes {s : State} (hr : pairRuns s = true) (ha : s.pair.role = .apprentice) (hs : s.pair.state = 3)
    (hg : keeperGone s = true) : (takeover s).pair.role = .keeper ∧ (takeover s).pair.valid = true
      ∧ (takeover s).pair.takeovers = (s.pair.takeovers + 1) % 2 ^ 32 ∧ (takeover s).pair.lastScan = s.scan.scan
      ∧ (takeover s).pair.lastTai = s.time.tai ∧ latches (takeover s) = latches s := by
  obtain ⟨v, hv⟩ : ∃ v : State, v = { s with
    pair.takeovers := (s.pair.takeovers + 1) % 2 ^ 32, pair.lastScan := s.scan.scan, pair.lastTai := s.time.tai } := ⟨_, rfl⟩
  have heq : takeover s = takePubs (becomeKeeper (editAtTakeover v)) := by
    unfold takeover
    rw [if_neg (by simp [hr, isApprentice, ha, hs, hg]), hv]
  obtain ⟨hpair, hfld⟩ := takePubs_frame (becomeKeeper (editAtTakeover v))
  obtain ⟨h, f, hk⟩ := becomeKeeper_pair (editAtTakeover v)
  have hl : latches (editAtTakeover v) = latches s := by
    unfold editAtTakeover
    rw [hv]
    split <;> rfl
  rw [heq, latches_of_fld hfld, becomeKeeper_latches, hl, hpair, hk, editAtTakeover_pair, hv]
  exact ⟨rfl, rfl, rfl, rfl, rfl, rfl⟩

theorem pairListenEnd_hears {s : State} {a b : Nat} (hl : s.pair.listenAt = some a) (hr : pairRuns s = true)
    (hs : s.pair.state = 1) (ht : a + 500000000 ≤ s.now) (hm : s.pair.partnerClaim.msb = true) (hb : s.pair.partnerAt = some b)
    (hab : a ≤ b) : (pairListenEnd s).pair.role = .apprentice ∧ (pairListenEnd s).pair.state = 2
      ∧ (pairListenEnd s).pair.aligned = false := by
  unfold pairListenEnd
  rw [hl]
  dsimp only
  rw [if_neg (by simpa [hr, hs, passed] using ht), if_pos (by simp [hm, hb, hab])]
  exact ⟨rfl, rfl, rfl⟩

theorem pairListenEnd_alone {s : State} {a : Nat} (hl : s.pair.listenAt = some a) (hr : pairRuns s = true)
    (hs : s.pair.state = 1) (ht : a + 500000000 ≤ s.now) (hb : s.pair.partnerAt = none) (hp : s.pair.partner = none) :
    (pairListenEnd s).pair.role = .keeper ∧ (pairListenEnd s).pair.valid = true ∧ (pairListenEnd s).pair.listenAt = none := by
  have heq : pairListenEnd s = becomeKeeper { s with pair.listenAt := none, time.pairOffset := 0 } := by
    unfold pairListenEnd
    rw [hl]
    dsimp only
    rw [if_neg (by simpa [hr, hs, passed] using ht), if_neg (by simp [hb, hp])]
  obtain ⟨h, f, hk⟩ := becomeKeeper_pair { s with pair.listenAt := none, time.pairOffset := 0 }
  rw [heq, hk]
  exact ⟨rfl, rfl, rfl⟩

/-! ### Heartbeats -/

theorem heartbeat_taken {lane : Fin 2} {r : HbRec} {s : State} (hr : pairRuns s = true) (ha : s.pair.role = .apprentice)
    (hs : r.seed ≠ s.pair.seed) (hp : s.power.restartAfterTakeover = none) : heartbeat lane r s = { s with
      pair.seedClash := false
      pair.lanes := s.pair.lanes ||| (1#2 <<< (lane : Nat)), pair.hbAt := s.pair.hbAt.set 0 lane s.now
      pair.partner := some r, pair.partnerClaim := r.claim
      pair.partnerAt := if r.claim.msb then some s.now else s.pair.partnerAt
      pair.leaseQ := if r.keeper then clamp 1 16 r.leaseQ else s.pair.leaseQ } := by
  unfold heartbeat
  rw [if_neg (by simp [hr]), if_neg hs]
  unfold takeHeartbeat
  dsimp only
  rw [hp]
  dsimp only
  rw [if_neg (by simp [isKeeper, ha])]
  simp [isApprentice, ha]

theorem heartbeat_refused {lane : Fin 2} {r : HbRec} {s : State} (hr : pairRuns s = true) (hs : r.seed = s.pair.seed) :
    (heartbeat lane r s).pair = { s.pair with seedClash := true, lanes := 0#2 } := by
  unfold heartbeat
  rw [if_neg (by simp [hr]), if_pos hs]
  dsimp only
  split
  · rfl
  · rw [logFault_pair]

/-! ### Shipped releases and publishes -/

theorem takeShipped_waits {n : Nat} {s : State} (h : s.pair.releases.get none n = none ∨ s.pair.shipped.get none n = none) :
    takeShipped n s = s := by
  unfold takeShipped
  obtain h | h := h
  · rw [h]
  · rw [h]
    split <;> simp_all

theorem takeShipped_starts {n : Nat} {s : State} {r : RelRec} {ps : List ImgPoint} (hr : s.pair.releases.get none n = some r)
    (hp : s.pair.shipped.get none n = some ps) (ha : s.pair.role = .apprentice) (hal : s.pair.aligned = true)
    (hd : switchDue s = false) (hm : mayRelease s n = true) (hi : (s.task n).state = .idle) :
    (takeShipped n s).pair.releases.get none n = none ∧ ((takeShipped n s).task n).state = .released
      ∧ ((takeShipped n s).task n).snapMono = r.snapMono ∧ ((takeShipped n s).task n).snapTai = r.snapTai
      ∧ (takeShipped n s).scan.scan = if n = 0 then r.scan else s.scan.scan := by
  obtain ⟨w, hw⟩ : ∃ w, w = startRelease n (causeOf n r) { s with pair.releases := s.pair.releases.set none n none } := ⟨_, rfl⟩
  have hws : (w.task n).state = .released := by
    rw [hw, startRelease, task_setTask, if_pos rfl]
  have hst : ((shipForces ps w).task n).state = .released := hws
  have heq : takeShipped n s = { (shipForces ps w).setTask n
      { (shipForces ps w).task n with snapMono := r.snapMono, snapTai := r.snapTai } with
        scan.scan := if n = 0 then r.scan else s.scan.scan } := by
    unfold takeShipped
    rw [hr, hp, hw]
    dsimp only
    rw [if_pos (by simp [isApprentice, ha, hal, hd, hm, hi])]
  have htask (q : TaskRt) (k : Nat) : State.task { (shipForces ps w).setTask n q with scan.scan := k } n = q :=
    (rfl : _ = ((shipForces ps w).setTask n q).task n).trans ((task_setTask ..).trans (if_pos rfl))
  rw [heq, htask]
  refine ⟨?_, hst, rfl, rfl, rfl⟩
  show ((shipForces ps w).pair.releases.get none n) = none
  rw [shipForces_pair, hw]
  simp [Tbl.get_set]

theorem compareCrc_waits {n : Nat} {s : State} (h : s.pair.ourCrc.get none n = none) : compareCrc n s = s := by
  unfold compareCrc
  rw [h]

theorem outOfStep_leaves {cause : Nat} {s : State} (ha : s.pair.role = .apprentice) (hs : s.pair.state = 3) :
    (outOfStep cause s).pair.state = 4 ∧ (outOfStep cause s).pair.cause = cause ∧ (outOfStep cause s).pair.valid = false := by
  unfold outOfStep
  rw [if_pos (by simp [isApprentice, ha, hs])]
  simp only [logFault_pair, clearValid_pair, and_self]

/-- A shipped release that the module holds until its snapshot has come (R396). -/
def withRelease (n : Nat) (r : RelRec) (s : State) : State := { s with pair.releases := s.pair.releases.set none n (some r) }

theorem releaseRecord_eq {n scan mono tai src : Nat} {d : Word} {s : State} (hr : pairRuns s = true)
    (ha : s.pair.role = .apprentice) (hal : s.pair.aligned = true) (hs : s.scan.scan < scan) :
    releaseRecord n scan mono tai src d s = takeShipped n
      (withRelease n { scan := scan, snapMono := mono, snapTai := tai, source := src, data := d } s) := by
  unfold releaseRecord
  rw [if_neg (by simp [hr, isApprentice, ha, hal]; omega)]
  rfl

theorem releaseRecord_held {n scan mono tai src : Nat} {d : Word} {s : State} (hr : pairRuns s = true)
    (ha : s.pair.role = .apprentice) (hal : s.pair.aligned = true) (hs : s.scan.scan < scan) (hp : s.pair.shipped.get none n = none) :
    ∃ r, (releaseRecord n scan mono tai src d s).pair.releases.get none n = some r ∧ r.snapMono = mono ∧ r.snapTai = tai
      ∧ (releaseRecord n scan mono tai src d s).scan = s.scan := by
  rw [releaseRecord_eq hr ha hal hs, takeShipped_waits (.inr (by exact hp))]
  exact ⟨_, by rw [withRelease, Tbl.get_set, if_pos rfl], rfl, rfl, rfl⟩

theorem releaseRecord_starts {n scan mono tai src : Nat} {d : Word} {s : State} {ps : List ImgPoint} (hr : pairRuns s = true)
    (ha : s.pair.role = .apprentice) (hal : s.pair.aligned = true) (hs : s.scan.scan < scan)
    (hp : s.pair.shipped.get none n = some ps) (hm : mayRelease s n = true) (hd : switchDue s = false) (hi : (s.task n).state = .idle)
    {v : State} (hv : v = releaseRecord n scan mono tai src d s) :
    v.pair.releases.get none n = none ∧ (v.task n).state = .released ∧ (v.task n).snapMono = mono ∧ (v.task n).snapTai = tai
      ∧ v.scan.scan = if n = 0 then scan else s.scan.scan := by
  rw [hv, releaseRecord_eq hr ha hal hs]
  exact takeShipped_starts (r := { scan := scan, snapMono := mono, snapTai := tai, source := src, data := d })
    (by simp [withRelease, Tbl.get_set]) hp ha hal hd hm hi

/-- A shipped snapshot that the module holds until its release has come (R396, R417). -/
def withSnapshot (n : Nat) (ps : List (Nat × Word × BitVec 4)) (l : List (Nat × Nat)) (s : State) : State := { s with
  pair.shipped := s.pair.shipped.set none n (some (ps.map fun p => { addr := p.1, val := p.2.1, q := p.2.2 })), pair.lags := l }

theorem snapshotRecord_held {n : Nat} {ps : List (Nat × Word × BitVec 4)} {s : State} (hr : pairRuns s = true)
    (ha : s.pair.role = .apprentice) (hal : s.pair.aligned = true) (hn : s.pair.releases.get none n = none) :
    ∃ q, (snapshotRecord n ps s).pair.shipped.get none n = some q ∧ (snapshotRecord n ps s).scan = s.scan
      ∧ q.map (fun x => (x.addr, x.val, x.q)) = ps := by
  obtain ⟨l, hl⟩ : ∃ l, snapshotRecord n ps s = takeShipped n (withSnapshot n ps l s) :=
    ⟨_, if_neg (by simp [hr, isApprentice, ha, hal])⟩
  rw [hl, takeShipped_waits (.inl (by exact hn))]
  exact ⟨_, by simp only [withSnapshot, Tbl.get_set, if_true]; rfl, rfl, by rw [List.map_map]; exact List.map_id _⟩

theorem publishRecord_held {n scan : Nat} {crc : Word} {ws : List (Nat × Word)} {s : State} (hr : pairRuns s = true)
    (ha : s.pair.role = .apprentice) (hal : s.pair.aligned = true) (ht : s.pair.theirCrc.get none n = none)
    (ho : s.pair.ourCrc.get none n = none) :
    publishRecord n scan crc ws s = { s with pair.theirCrc := s.pair.theirCrc.set none n (some (scan, crc.toNat)) } := by
  unfold publishRecord
  rw [if_neg (by simp [hr, isApprentice, ha]), if_neg (by simp [hal]), if_neg (by simp [ht])]
  exact compareCrc_waits ho

theorem publishRecord_lags {n scan : Nat} {crc : Word} {ws : List (Nat × Word)} {s : State} (hr : pairRuns s = true)
    (ha : s.pair.role = .apprentice) (hal : s.pair.aligned = true) (ht : (s.pair.theirCrc.get none n).isSome = true) :
    publishRecord n scan crc ws s = outOfStep 1 { s with pair.theirCrc := [], pair.ourCrc := [] } := by
  unfold publishRecord
  rw [if_neg (by simp [hr, isApprentice, ha]), if_neg (by simp [hal]), if_pos ht]

/-! ### Forwarded commands -/

theorem commandRecord_waits {code scan : Nat} {p : Bytes} {s : State} (hr : pairRuns s = true) (ha : s.pair.role = .apprentice)
    (hk : s.pair.known = true) (hw : waitsForScan code = true) (hm : s.scan.mode = 2) (hal : s.pair.aligned = true) :
    commandRecord code p scan s
      = { s with pair.commands := s.pair.commands ++ [{ code := code, scan := scan, payload := p }] } := by
  unfold commandRecord
  dsimp only
  rw [if_neg (by simp [hr, isApprentice, ha, hk]), if_pos (by simp [hw, hm, hal])]

theorem commandRecord_pairFields {scan : Nat} {p : Bytes} {s : State} (hr : pairRuns s = true) (ha : s.pair.role = .apprentice)
    (hk : s.pair.known = true) : commandRecord 0x0901 p scan s = pairFields p s := by
  have hw : waitsForScan 0x0901 = false := by decide
  unfold commandRecord
  dsimp only
  rw [if_neg (by simp [hr, isApprentice, ha, hk]), if_neg (by simp [hw])]
  rfl

/-! ### Alignment -/

theorem takeIdentity_two {s : State} (h : isKeeper s = false) (hn : s.pair.nonce ≠ []) (d : Bytes) : takeIdentity 2 d s
    = if ecdsaVerify s.pair.peerKey (slice s.pair.nonce 32 32 ++ slice s.pair.nonce 0 32 ++ zeros 4) (slice d 0 96) then
        linkSend { kind := 7, num := 9, data := [1#8] }
          { s with pair.identityOk := true, pair.known := true, pair.nonce := [], pair.peerKey := []
                   scan.tasks := s.scan.tasks.mapVal {} fun _ r => { r with layout := s.ps.epoch } }
      else linkSend { kind := 7, num := 9, data := [0#8] } (identityFails s) := by
  unfold takeIdentity
  rw [h]
  exact if_neg hn

theorem takeIdentity_three {s : State} (h : isKeeper s = true) (hn : s.pair.nonce ≠ []) (d : Bytes) : takeIdentity 3 d s
    = if hdrF d 0 1 = 1 then { s with pair.identityOk := true, pair.known := true, pair.nonce := [] } else identityFails s := by
  unfold takeIdentity
  rw [h]
  exact if_neg hn

theorem takeIdentity_passes {d : Bytes} {s : State} (ha : s.pair.role = .apprentice) (hn : s.pair.nonce ≠ [])
    (hv : ecdsaVerify s.pair.peerKey (slice s.pair.nonce 32 32 ++ slice s.pair.nonce 0 32 ++ zeros 4) (slice d 0 96) = true) :
    (takeIdentity 2 d s).pair.identityOk = true ∧ (takeIdentity 2 d s).pair.known = true ∧ (takeIdentity 2 d s).pair.nonce = [] := by
  have hk : isKeeper s = false := by simp [isKeeper, ha]
  rw [takeIdentity_two hk hn, if_pos hv]
  exact ⟨rfl, rfl, rfl⟩

theorem identityFails_pair (s : State) : (identityFails s).pair = { (alignFails s).pair with known := false } :=
  audit_keeps (p := State.pair) (by intros; rfl) (by intros; rfl) ..

theorem takeIdentity_fails {d : Bytes} {s : State} (ha : s.pair.role = .apprentice) (hs : s.pair.state = 2) (hn : s.pair.nonce ≠ [])
    (hv : ecdsaVerify s.pair.peerKey (slice s.pair.nonce 32 32 ++ slice s.pair.nonce 0 32 ++ zeros 4) (slice d 0 96) = false) :
    (takeIdentity 2 d s).pair.identityOk = false ∧ (takeIdentity 2 d s).pair.known = false ∧ (takeIdentity 2 d s).pair.state = 4
      ∧ (takeIdentity 2 d s).pair.alignFailedAt = some s.now := by
  have hk : isKeeper s = false := by simp [isKeeper, ha]
  have hst : (alignFails s).pair.state = 4 := if_pos (by simp [isApprentice, ha, hs])
  rw [takeIdentity_two hk hn, if_neg (by rw [hv]; exact Bool.false_ne_true)]
  simp only [linkSend, identityFails_pair, hst]
  exact ⟨rfl, trivial, trivial, rfl⟩

theorem takeIdentity_confirmed {s : State} (hk : s.pair.role = .keeper) (hn : s.pair.nonce ≠ []) :
    takeIdentity 3 [1#8] s = { s with pair.identityOk := true, pair.known := true, pair.nonce := [] } := by
  have h : isKeeper s = true := by simp [isKeeper, hk]
  rw [takeIdentity_three h hn, if_pos (by decide)]

theorem storeConfirm_confirms (c : Option Word) (s : State) :
    (storeConfirm c s).saf.confirmed = c ∧ (storeConfirm c s).scan = s.scan := by
  unfold storeConfirm
  cases c with
  | some w => exact ⟨placeRec_keeps (p := fun v => v.saf.confirmed) (by intros; rfl) .., placeRec_keeps (p := State.scan) (by intros; rfl) ..⟩
  | none =>
    dsimp only
    split
    · exact ⟨rfl, rfl⟩
    · exact ⟨placeRec_keeps (p := fun v => v.saf.confirmed) (by intros; rfl) .., placeRec_keeps (p := State.scan) (by intros; rfl) ..⟩

theorem startProgram_mode (k : StartKind) (s : State) : (startProgram k s).scan.mode = 2 := by
  have hmode (v : State) (h : v.scan.mode = 2) : (dispatch (releaseOwn 0 {} v)).scan.mode = 2 := by
    have hface := (scanFace_dispatch (releaseOwn 0 {} v)).trans (scanFace_releaseOwn 0 {} v)
    simp only [scanFace, Prod.mk.injEq] at hface
    obtain ⟨-, -, -, -, hm, -⟩ := hface
    rw [hm, h]
  unfold startProgram
  dsimp only
  apply hmode
  simp only [gooseStart]

theorem alignmentComplete_starts {mono j : Nat} {s : State} (hr : pairRuns s = true) (ha : s.pair.role = .apprentice)
    (hs : s.pair.state = 2) (hid : s.pair.identityOk = true) (hal : s.pair.aligned = false) (hp : s.ps.prog.isSome = true) {v : State}
    (hv : v = alignmentComplete mono j s) : v.pair.aligned = true ∧ v.scan.scan = j ∧ v.pair.matched = 0 ∧ v.scan.mode = 2
      ∧ v.time.pairOffset = (mono : Int) - s.time.mono := by
  obtain ⟨x, hx⟩ : ∃ x, x = panelInitial (startProgram .kept { s with time.pairOffset := (mono : Int) - s.time.mono }) := ⟨_, rfl⟩
  have hmode : x.scan.mode = 2 := by
    rw [hx]
    exact (panelInitial_keeps (p := fun v => v.scan.mode) (by simp) _).trans (startProgram_mode ..)
  have htime : x.time.pairOffset = (mono : Int) - s.time.mono := by
    rw [hx]
    simp
  have hnone : s.ps.prog.isNone = false := by simpa using hp
  have heq : v = { x with
      scan.scan := j, scan.startMono := s.scan.startMono, scan.tasks := x.scan.tasks.mapVal {} fun _ r => { r with firstCycle := false }
      pair.aligned := true, pair.matched := 0, pair.shipped := [], pair.releases := [], pair.theirCrc := [], pair.ourCrc := []
      pair.commands := [], pair.lags := [] } := by
    rw [hv]
    unfold alignmentComplete
    rw [if_neg (by simp [hr, hid]), if_neg (by simp [isKeeper, ha]), if_neg (by simp [hs, hal, hnone]), hx]
  rw [heq]
  exact ⟨rfl, rfl, rfl, hmode, htime⟩

theorem alignmentComplete_ships {mono j : Nat} {s : State} (hr : pairRuns s = true) (hk : s.pair.role = .keeper)
    (hid : s.pair.identityOk = true) (hs : s.pair.state ≠ 3) (hl : s.pair.lanes ≠ 0#2) : alignmentComplete mono j s = { s with
      pair.shipping := true, pair.state := 2, pair.theirCrc := [], pair.ourCrc := [], pair.ackScan := 0 } := by
  unfold alignmentComplete
  rw [if_neg (by simp [hr, hid]), if_pos (by simp [isKeeper, hk]), if_neg (by simp [hs, hl])]

theorem alignmentRetry_due {s : State} {a : Nat} (hf : s.pair.alignFailedAt = some a) (hr : pairRuns s = true)
    (ha : s.pair.role = .apprentice) (hs : s.pair.suspect = false) (hd : s.power.disqualified = false) (hst : s.sup.storm = false)
    (hl : s.pair.lanes ≠ 0#2) (ht : a + 1000000000 ≤ s.now) :
    (alignmentRetry s).pair.state = 2 ∧ (alignmentRetry s).pair.identityOk = false ∧ (alignmentRetry s).pair.aligned = false
      ∧ (alignmentRetry s).pair.alignFailedAt = none := by
  unfold alignmentRetry
  rw [hf]
  dsimp only
  rw [if_neg (by simpa [hr, isApprentice, ha, hs, hd, hst, hl, passed] using ht)]
  exact ⟨rfl, rfl, rfl, rfl⟩

theorem alignmentRetry_early {s : State} {a : Nat} (hf : s.pair.alignFailedAt = some a) (ht : s.now < a + 1000000000) :
    alignmentRetry s = s := by
  have hp : passed s.now a 1000000000 = false := by simpa [passed] using ht
  unfold alignmentRetry
  rw [hf]
  dsimp only
  rw [if_pos (by simp [hp])]

/-! ### Pair commands -/

/-- The pair's state with the parameters that PAIR_CFG gives it, before the claim follows (R393, R402, R416). -/
def cfgPair (p : Bytes) (q : Pair) : Pair :=
  { q with mode := 0, pref := min 63 (field p 1 1 0), leaseQ := clamp 1 16 (field p 2 1 4), takebackS := clamp 1 3600 (field p 4 2 60),
           suspect := q.suspect && decide (field p 3 1 0 % 2 = 0) }

theorem pairCfg_configures {w : Work} {s : State} (hb : payloadBit w.payload 3 7 = false) (hm : field w.payload 0 1 0 ≠ 1)
    (hk : s.pair.role = .keeper) (hp : s.power.state ≠ .holdup) :
    ∃ p v q l, pairCfg w s = (.done DONE p, v) ∧ q = { cfgPair w.payload s.pair with sent := l } ∧ Follows q v.pair := by
  have ha : isApprentice s = false := by simp [isApprentice, hk]
  obtain ⟨l, hl⟩ := forward_pair 0x0901 w.payload (pairFields w.payload s)
  obtain ⟨x, hx⟩ : ∃ x : State, x = { forward 0x0901 w.payload (pairFields w.payload s) with
    pair.mode := 0, pair.pref := min 63 (field w.payload 1 1 0)
    pair.suspect := s.pair.suspect && decide (field w.payload 3 1 0 % 2 = 0) } := ⟨_, rfl⟩
  have hpair : x.pair = { cfgPair w.payload s.pair with sent := l } := by
    rw [hx]
    dsimp only
    rw [hl]
    rfl
  refine ⟨pairEcho x (field w.payload 3 1 0 % 2), claimFollow x, _, l, ?_, rfl, hpair ▸ claimFollow_pair x⟩
  unfold pairCfg
  dsimp only
  rw [hb, ha, if_neg hm, hx]
  exact checked_pass (by simp [firstStatus, isStation, hk, inHoldup_eq_false hp])

theorem pairSwitch_passes {w : Work} {s : State} (hk : s.pair.role = .keeper) (hs : s.pair.state = 3) (hp : s.power.state ≠ .holdup)
    (hh : s.pair.handover = none) (h2 : s.edit.state ≠ 2) (h3 : s.edit.state ≠ 3) (hu : updBusy s = false) :
    pairSwitch w s = if field w.payload 0 1 0 = 1
      then (.done DONE (leBytes 1 1 ++ zeros 3 ++ leBytes 8 0), claimFollow { s with pair.yield := false })
      else (.later, if s.pair.noHandoverBefore ≤ s.now then scheduleHandover { s with pair.yield := true }
        else { s with pair.yield := true }) := by
  unfold pairSwitch
  dsimp only
  rw [checked_pass (by simp [firstStatus, isKeeper, hk, hs, inHoldup_eq_false hp, hh, h2, h3, hu])]
  split <;> simp

/-! ### The commands of the section, from the state that their time has come to -/

theorem exec_healthSettled {t : Nat} {s u : State} (hu : u = advance t s) (hs : serving s = true) :
    exec (.healthSettled t) s = .next (healthSettled u) := by
  rw [hu]
  exact congrArg Host.Outcome.next (if_pos (by rw [serving_advance, hs]))

theorem takebackElapsed_done {t a : Nat} {s u : State} (hu : u = advance t s) (hi : s.pair.inStepAt = some a)
    (hr : pairRuns s = true) (ha : s.pair.role = .apprentice) (hs : s.pair.state = 3) (hd : s.pair.takebackDone = false)
    (ht : a + s.pair.takebackS * 1000000000 ≤ u.now) :
    exec (.takebackElapsed t) s = .next (claimFollow { u with pair.takebackDone := true }) := by
  have hpair : u.pair = s.pair := hu ▸ advance_pair t s
  have hru : pairRuns u = true := by rw [hu, pairRuns_advance, hr]
  refine congrArg Host.Outcome.next ?_
  dsimp only
  rw [← hu, hpair, hi]
  dsimp only
  rw [if_pos (by simpa [hru, isApprentice, hpair, ha, hs, hd, passed] using ht)]

/-- The heartbeat of a module in the state `u` (R395). -/
def beat (u : State) : PairTx :=
  { kind := 0, num := 16 * roleCode u.pair.role + u.pair.state, scan := u.scan.scan, value := (claimOf u).toNat + 65536 * u.pair.leaseQ }

/-- A heartbeat leaves with the claim, the lease and SCAN, and the presence mask with it (R395). -/
theorem heartbeatSend_sends {t : Nat} {s u : State} (hu : u = advance t s) (hr : pairRuns s = true) (hc : s.pair.seedClash = false) :
    ∃ v h c, exec (.heartbeatSend t) s = .next v ∧ v.pair.sent = c :: h :: s.pair.sent ∧ h.kind = 0 ∧ c.kind = 7 ∧ c.num = 3
      ∧ h.scan = s.scan.scan ∧ h.value = (claimOf s).toNat + 65536 * s.pair.leaseQ := by
  have hpair : u.pair = s.pair := hu ▸ advance_pair t s
  have hru : pairRuns u = true := by rw [hu, pairRuns_advance, hr]
  have hscan : u.scan = s.scan := hu ▸ advance_scan t s
  have hclaim : claimOf u = claimOf s := hu ▸ claimOf_advance t s
  refine ⟨linkSend { kind := 7, num := 3, value := presenceMask u } (linkSend (beat u) u), beat u,
    { kind := 7, num := 3, value := presenceMask u }, congrArg Host.Outcome.next ?_, ?_⟩
  · rw [← hu, if_pos (by simp [hru, hpair, hc])]
    rfl
  · simp only [linkSend, beat, hpair, hscan, hclaim, and_self]

theorem switchAt_held {t : Nat} {S : Dword} {s u : State} (hu : u = advance t s) (hr : pairRuns s = true)
    (ha : s.pair.role = .apprentice) (he : s.edit.state = 1 ∨ s.edit.state = 2) :
    exec (.switchAt t S) s = .next (heldSwitch { u with edit.switchAt := some S.toNat }) := by
  have hpair : u.pair = s.pair := hu ▸ advance_pair t s
  have hru : pairRuns u = true := by rw [hu, pairRuns_advance, hr]
  have hedit : u.edit = s.edit := hu ▸ advance_edit t s
  refine congrArg Host.Outcome.next ?_
  dsimp only
  rw [← hu, if_pos (by simpa [hru, isApprentice, hpair, ha, hedit] using he)]

theorem pubState_taken {t : Nat} {k : Fin 64} {a b : Word} {ms : Nat} {s u : State} (hu : u = advance t s) (hr : pairRuns s = true)
    (ha : s.pair.role = .apprentice) : ∃ v, exec (.pubState t k a b ms) s = .next v
      ∧ v.pair.pubState.get none k = some ⟨a.toNat, b.toNat, ms, u.time.mono⟩ := by
  have hpair : u.pair = s.pair := hu ▸ advance_pair t s
  have hru : pairRuns u = true := by rw [hu, pairRuns_advance, hr]
  refine ⟨{ u with pair.pubState := u.pair.pubState.set none k (some ⟨a.toNat, b.toNat, ms, u.time.mono⟩) },
    congrArg Host.Outcome.next ?_, ?_⟩
  · dsimp only
    rw [← hu, if_pos (by simp [hru, isApprentice, hpair, ha])]
  · dsimp only
    rw [Tbl.get_set, if_pos rfl]

theorem ack_taken {t : Nat} {scan : Dword} {crc : Word} {s u : State} (hu : u = advance t s) (hr : pairRuns s = true)
    (hk : s.pair.role = .keeper) (ho : s.pair.ourCrc.get none 0 = none) :
    ∃ v, exec (.ack t 0 scan crc) s = .next v ∧ v.pair.ackScan = max s.pair.ackScan scan.toNat
      ∧ v.pair.theirCrc.get none 0 = some (scan.toNat, crc.toNat) := by
  have hpair : u.pair = s.pair := hu ▸ advance_pair t s
  have hru : pairRuns u = true := by rw [hu, pairRuns_advance, hr]
  obtain ⟨v, hv⟩ : ∃ v : State, v = { u with
    pair.theirCrc := u.pair.theirCrc.set none 0 (some (scan.toNat, crc.toNat)), pair.ackScan := max u.pair.ackScan scan.toNat } := ⟨_, rfl⟩
  have hour : v.pair.ourCrc.get none 0 = none := by
    rw [hv]
    exact (congrArg (fun p : Pair => p.ourCrc.get none 0) hpair).trans ho
  refine ⟨v, congrArg Host.Outcome.next (Eq.trans ?_ (compareCrc_waits hour)), ?_, ?_⟩
  · dsimp only
    rw [← hu, if_pos (by simp [hru, isKeeper, hpair, hk]), hv]
    rfl
  · rw [hv, ← hpair]
  · rw [hv]
    dsimp only
    rw [Tbl.get_set, if_pos rfl]

/-- CONTROL records that any member takes: a presence mask, a health report, the finding of a mismatch (R395, R402, R477). -/
theorem controlRecord_taken {t : Nat} {s u : State} (hu : u = advance t s) (hr : pairRuns s = true) :
    (∀ m, exec (.controlRecord t (.presence m)) s = .next { u with pair.partnerPresence := m })
    ∧ (∀ b, exec (.controlRecord t (.health b)) s = .next (claimFollow { u with pair.partnerReport := some b }))
    ∧ exec (.controlRecord t (.finding 0x50)) s = .next { u with pair.testRound := true } := by
  have hru : ¬(!pairRuns (advance t s)) = true := by rw [pairRuns_advance, hr]; exact Bool.false_ne_true
  subst hu
  exact ⟨fun m => congrArg Host.Outcome.next (if_neg hru), fun b => congrArg Host.Outcome.next (if_neg hru),
    congrArg Host.Outcome.next ((if_neg hru).trans (if_pos rfl))⟩

theorem alignBlock_identity {k : Fin 4} {n : Nat} {d : Bytes} {s : State} (hr : pairRuns s = true)
    (h : isKeeper s = true ∨ s.pair.state = 2) (hk : (k : Nat) = n) : alignBlock (.identity k d) s = takeIdentity n d s := by
  subst hk
  unfold alignBlock
  rw [if_neg (by simp [hr])]
  exact if_pos (by simpa using h)

theorem alignBlock_taken {s : State} (hr : pairRuns s = true) (ha : s.pair.role = .apprentice) (hs : s.pair.state = 2)
    (hid : s.pair.identityOk = true) (hal : s.pair.aligned = false) :
    (∀ c : Option Word, (∀ x, c = some x → x = checkOf (prog s)) → alignBlock (.confirm c) s = storeConfirm c s)
    ∧ ∀ m, alignBlock (.started m) s = { s with scan.startMono := m } := by
  have hopen : ¬(!isApprentice s || decide (s.pair.state ≠ 2) || !s.pair.identityOk || s.pair.aligned) = true := by
    simp [isApprentice, ha, hs, hid, hal]
  have hrun : ¬(!pairRuns s) = true := by simp [hr]
  refine ⟨fun c hc => ?_, fun m => (if_neg hrun).trans (if_neg hopen)⟩
  refine (if_neg hrun).trans ((if_neg hopen).trans (if_pos ?_))
  cases c with
  | none => rfl
  | some x => simp [hc x rfl]

theorem pair_of_finish (w : Work) (st : Nat) (p : Bytes) (s : State) : (finish w st p s).pair = s.pair := by simp only [finish_fields]

theorem pairCfg_follows {t : Nat} {mb : Fin 8} {w : Work} {s : State} (hask : Asks s mb 0x0901 w)
    (hb : payloadBit w.payload 3 7 = false) (hm : field w.payload 0 1 0 ≠ 1) (hk : s.pair.role = .keeper)
    (hp : s.power.state ≠ .holdup) : ∃ v, exec (.pairCfg t mb) s = .next v ∧ v.pair.mode = 0
      ∧ v.pair.pref = min 63 (field w.payload 1 1 0) ∧ v.pair.leaseQ = clamp 1 16 (field w.payload 2 1 4)
      ∧ v.pair.takebackS = clamp 1 3600 (field w.payload 4 2 60)
      ∧ v.pair.suspect = (s.pair.suspect && decide (field w.payload 3 1 0 % 2 = 0)) := by
  obtain ⟨u, hu⟩ : ∃ u, u = advance t s := ⟨_, rfl⟩
  have hpair : u.pair = s.pair := hu ▸ advance_pair t s
  have hpower : u.power.state ≠ .holdup := by simpa [hu] using hp
  obtain ⟨p, v, q, l, heff, hq, h, f, o, b, l', hv⟩ := pairCfg_configures hb hm (hpair ▸ hk) hpower
  obtain ⟨w', hrun⟩ := runCommand_ends hask (hu ▸ heff)
  refine ⟨finish w' DONE p v, congrArg Host.Outcome.next hrun, ?_⟩
  rw [pair_of_finish, hv, hq, hpair]
  exact ⟨rfl, rfl, rfl, rfl, rfl⟩

end Sys2Proof.Machine

open Sys2Proof Sys2Proof.Machine

/-- Settles O50: each record and command is cited from a lemma about its effect; `Follows` says what a claim or a handover may
change of the pair's state, and no step of a lane that falls silent touches the other lane (`commitAlone_lanes`). -/
theorem pairRolesRecordsAndTakeover : Obligations.PairRolesRecordsAndTakeover := by
  intro s t mb w u
  have hu : u = advance t s := rfl
  rw [← hu]
  clear_value u
  have hpair : u.pair = s.pair := hu ▸ advance_pair t s
  have hscan : u.scan = s.scan := hu ▸ advance_scan t s
  have hedit : u.edit = s.edit := hu ▸ advance_edit t s
  have himg : u.img = s.img := hu ▸ advance_img t s
  have hps : u.ps = s.ps := hu ▸ advance_ps t s
  have hprog : prog u = prog s := hu ▸ prog_advance t s
  have hnow : healthNow u = healthNow s := hu ▸ healthNow_advance t s
  have hlat : latches u = latches s := latches_of_fld (hu ▸ advance_fld t s)
  have hruns : pairRuns s = true → pairRuns u = true := fun h => by rw [hu, pairRuns_advance, h]
  have hpow : s.power.state ≠ .holdup → u.power.state ≠ .holdup := fun h => by simpa [hu] using h
  refine ⟨?_, ?_, heartbeatSend_sends hu, ?_, ?_, ?_, ?_, ?_, ?_, ?_, ?_, ?_, ?_, ?_, ?_, ?_, ?_, ?_, ?_, ?_, ?_, ?_⟩
  · intro hs hne
    have hneu : healthNow u ≠ u.pair.targetHealth := by rwa [hnow, hpair]
    refine ⟨fun hn => ?_, fun a hn ht => ?_, fun a hn ht => ?_⟩
    · rw [exec_healthSettled hu hs, healthSettled_none hneu (hpair ▸ hn), hnow]
    · obtain ⟨h, f, o, b, l, hv⟩ := claimFollow_pair { u with pair.targetHealth := healthNow u, pair.newHealth := none }
      refine ⟨_, exec_healthSettled hu hs, ?_⟩
      rw [healthSettled_held hneu (by rw [hpair, hnow, hn]), if_pos ht, hv, hnow]
      exact ⟨rfl, rfl⟩
    · rw [exec_healthSettled hu hs, healthSettled_held hneu (by rw [hpair, hnow, hn]), if_neg (by omega)]
  · intro a hi hr ha hs hd ht
    obtain ⟨h, f, o, b, l, hv⟩ := claimFollow_pair { u with pair.takebackDone := true }
    refine ⟨_, takebackElapsed_done hu hi hr ha hs hd ht, ?_⟩
    rw [hv]
    exact ⟨rfl, hpair ▸ ha⟩
  · intro lane r hr ha hne hp
    refine ⟨heartbeat lane r u, by rw [hu]; rfl, ?_⟩
    rw [heartbeat_taken (hruns hr) (hpair ▸ ha) (hpair ▸ hne) (by simpa [hu] using hp)]
    refine ⟨lane_set .., ?_, rfl, rfl, rfl, ?_, hpair ▸ ha⟩
    · dsimp only
      rw [Tbl.get_set, if_pos rfl]
    · dsimp only
      rw [hpair]
  · intro lane r hr he
    refine ⟨heartbeat lane r u, by rw [hu]; rfl, ?_⟩
    rw [heartbeat_refused (hruns hr) (hpair ▸ he), hpair]
    exact ⟨rfl, rfl, rfl⟩
  · intro lane hr hl ht
    have h := laneDown_lanes (hruns hr) (hpair ▸ hl) (hpair ▸ ht)
    rw [hpair] at h
    exact ⟨laneDown lane u, by rw [hu]; rfl, h⟩
  · intro a hl hr hs ht
    refine ⟨fun b hm hb hab => ⟨pairListenEnd u, by rw [hu]; rfl, ?_⟩, fun hb hp => ⟨pairListenEnd u, by rw [hu]; rfl, ?_⟩⟩
    · exact pairListenEnd_hears (hpair ▸ hl) (hruns hr) (hpair ▸ hs) ht (hpair ▸ hm) (hpair ▸ hb) hab
    · exact pairListenEnd_alone (hpair ▸ hl) (hruns hr) (hpair ▸ hs) ht (hpair ▸ hb) (hpair ▸ hp)
  · intro hr ha hs
    refine ⟨fun hg => ⟨takeover u, by rw [hu]; rfl, ?_⟩, fun hg => ?_⟩
    · have h := takeover_takes (hruns hr) (hpair ▸ ha) (hpair ▸ hs) hg
      rwa [hpair, hscan, hlat] at h
    · have h : takeover u = u := if_pos (by simp [hg])
      rw [← h, hu]
      rfl
  · intro n scan mono tai src d hr ha hal hs
    refine ⟨fun hp => ?_, fun ps hp hm hd hi => ⟨releaseRecord n scan.toNat mono tai src d u, by rw [hu]; rfl, ?_⟩⟩
    · obtain ⟨r, h1, h2, h3, h4⟩ := releaseRecord_held (mono := mono) (tai := tai) (src := src) (d := d) (hruns hr) (hpair ▸ ha)
        (hpair ▸ hal) (hscan ▸ hs) (hpair ▸ hp)
      exact ⟨_, r, by rw [hu]; rfl, h1, h2, h3, h4.trans hscan⟩
    · have h := releaseRecord_starts (mono := mono) (tai := tai) (src := src) (d := d) (hruns hr) (hpair ▸ ha) (hpair ▸ hal)
        (hscan ▸ hs) (hpair ▸ hp) (by rw [hu, mayRelease_advance, hm]) (by rw [hu, switchDue_advance, hd])
        (by rw [State.task, hscan]; exact hi) rfl
      simpa only [hscan, Fin.val_eq_zero_iff] using h
  · intro n ps hr ha hal hn
    obtain ⟨q, h1, h2, h3⟩ := snapshotRecord_held (ps := ps) (hruns hr) (hpair ▸ ha) (hpair ▸ hal) (hpair ▸ hn)
    exact ⟨_, q, by rw [hu]; rfl, h1, h2.trans hscan, h3⟩
  · intro n scan crc ws hr ha hal
    refine ⟨fun ht ho => ⟨publishRecord n scan.toNat crc ws u, by rw [hu]; rfl, ?_⟩,
      fun ht hs => ⟨publishRecord n scan.toNat crc ws u, by rw [hu]; rfl, ?_⟩⟩
    · rw [publishRecord_held (hruns hr) (hpair ▸ ha) (hpair ▸ hal) (hpair ▸ ht) (hpair ▸ ho)]
      exact ⟨by dsimp only; rw [Tbl.get_set, if_pos rfl], himg⟩
    · rw [publishRecord_lags (hruns hr) (hpair ▸ ha) (hpair ▸ hal) (hpair ▸ ht)]
      exact outOfStep_leaves (hpair ▸ ha) (hpair ▸ hs)
  · exact fun k a b ms hr ha => pubState_taken hu hr ha
  · exact fun scan crc hr hk ho => ack_taken hu hr hk ho
  · intro code p scan hr ha hk
    refine ⟨fun hw hm hal => ⟨{ code := code.toNat, scan := scan.toNat, payload := p }, ?_, rfl, rfl, rfl⟩, fun hc => ?_⟩
    · rw [← hpair, ← commandRecord_waits (hruns hr) (hpair ▸ ha) (hpair ▸ hk) hw (hscan ▸ hm) (hpair ▸ hal), hu]
      rfl
    · subst hc
      refine Eq.trans ?_ (congrArg Host.Outcome.next (commandRecord_pairFields (scan := scan.toNat) (hruns hr) (hpair ▸ ha) (hpair ▸ hk)))
      rw [hu]
      rfl
  · intro hr ha hs
    have hst : isKeeper u = true ∨ u.pair.state = 2 := .inr (hpair ▸ hs)
    refine ⟨fun d hn => ⟨fun hv => ⟨takeIdentity 2 d u, ?_, ?_⟩, fun hv => ⟨takeIdentity 2 d u, ?_, ?_⟩⟩, fun hid hal c hc => ?_,
      fun hid hal m => ?_, fun hid hal hp mono j => ⟨alignmentComplete mono j.toNat u, by rw [hu]; rfl, ?_⟩⟩
    · rw [← alignBlock_identity (k := 2) (n := 2) (hruns hr) hst rfl, hu]
      rfl
    · exact takeIdentity_passes (hpair ▸ ha) (hpair ▸ hn) (hpair ▸ hv)
    · rw [← alignBlock_identity (k := 2) (n := 2) (hruns hr) hst rfl, hu]
      rfl
    · exact takeIdentity_fails (hpair ▸ ha) (hpair ▸ hs) (hpair ▸ hn) (hpair ▸ hv)
    · obtain ⟨h1, h2⟩ := storeConfirm_confirms c u
      refine ⟨storeConfirm c u, ?_, h1, h2.trans hscan⟩
      rw [← (alignBlock_taken (hruns hr) (hpair ▸ ha) (hpair ▸ hs) (hpair ▸ hid) (hpair ▸ hal)).1 c (hprog ▸ hc), hu]
      rfl
    · rw [← (alignBlock_taken (hruns hr) (hpair ▸ ha) (hpair ▸ hs) (hpair ▸ hid) (hpair ▸ hal)).2 m, hu]
      rfl
    · exact alignmentComplete_starts (hruns hr) (hpair ▸ ha) (hpair ▸ hs) (hpair ▸ hid) (hpair ▸ hal) (hps ▸ hp) rfl
  · intro hr hk hn
    have hkeep : isKeeper u = true := by simp [isKeeper, hpair, hk]
    rw [← takeIdentity_confirmed (hpair ▸ hk) (hpair ▸ hn), ← alignBlock_identity (k := 3) (n := 3) (hruns hr) (.inl hkeep) rfl, hu]
    rfl
  · intro mono j hr hk hid hs hl
    rw [← alignmentComplete_ships (mono := mono) (j := j.toNat) (hruns hr) (hpair ▸ hk) (hpair ▸ hid) (hpair ▸ hs) (hpair ▸ hl), hu]
    rfl
  · intro a hf hr ha hs hd hst hl
    refine ⟨fun ht => ⟨alignmentRetry u, by rw [hu]; rfl, ?_⟩, fun ht => ?_⟩
    · exact alignmentRetry_due (hpair ▸ hf) (hruns hr) (hpair ▸ ha) (hpair ▸ hs) (by simpa [hu] using hd) (by simpa [hu] using hst)
        (hpair ▸ hl) ht
    · rw [← alignmentRetry_early (hpair ▸ hf) ht, hu]
      rfl
  · intro S hr ha
    refine ⟨fun hs => ?_, fun he => ?_, fun he => ?_⟩
    · have hgo : (pairRuns u && isApprentice u && decide (u.pair.state = 3)) = true := by simp [hruns hr, isApprentice, hpair, ha, hs]
      subst hu
      exact congrArg Host.Outcome.next (if_pos hgo)
    · rw [switchAt_held hu hr ha (.inl he)]
      exact congrArg Host.Outcome.next (if_neg (by simp [hedit, he]))
    · rw [switchAt_held hu hr ha (.inr he)]
      exact congrArg Host.Outcome.next (if_pos (by simp [hedit, he]))
  · intro hr
    obtain ⟨h1, h2, h3⟩ := controlRecord_taken hu hr
    refine ⟨h1, fun b => ⟨_, h2 b, ?_⟩, h3⟩
    obtain ⟨h, f, o, a, l, hv⟩ := claimFollow_pair { u with pair.partnerReport := some b }
    rw [hv]
  · intro hask hb hm hk hp
    obtain ⟨v, hv, h1, h2, h3, h4, h5⟩ := pairCfg_follows (t := t) hask hb hm hk hp
    exact ⟨v, hv, h1, h2, h3, h4, fun h => by simp [h5, h], fun h => by simp [h5, h]⟩
  · intro hask hk hs hp hh h2 h3 hup
    have heff := pairSwitch_passes (w := w) (s := u) (hpair ▸ hk) (hpair ▸ hs) (hpow hp) (hpair ▸ hh) (hedit ▸ h2) (hedit ▸ h3)
      (by rw [hu, updBusy_advance, hup])
    refine ⟨fun hop hb => ?_, fun hop hb => ?_, fun hop => ?_⟩
    · rw [if_neg hop, if_pos (hpair ▸ hb), scheduleHandover_eq] at heff
      rw [← hpair, ← hscan]
      exact runCommand_defers hask (hu ▸ heff)
    · rw [if_neg hop, if_neg (by rw [hpair]; omega)] at heff
      exact runCommand_defers hask (hu ▸ heff)
    · rw [if_pos hop] at heff
      obtain ⟨w', hrun⟩ := runCommand_ends hask (by rw [← hu]; exact heff)
      obtain ⟨h, f, o, b, l, hv⟩ := claimFollow_pair { u with pair.yield := false }
      refine ⟨_, congrArg Host.Outcome.next hrun, ?_⟩
      rw [pair_of_finish, hv]
end
